-- ==== Sys2Proof/Word.lean ====
section
/-!
DEFINITION. Words of the V512: bytes, 64-byte lines, command packets, grant records (00 R15, R16).
-/
namespace Sys2Proof

/-- One byte. -/
abbrev Byte := BitVec 8
/-- A 32-bit register or scalar. -/
abbrev W32 := BitVec 32
/-- A 64-bit register, route word, shelf word or bundle slot. -/
abbrev W64 := BitVec 64
/-- A 64-byte line, a flit payload or a command packet; byte b is bits 8b + 7 to 8b (04 Flits and sideband). -/
abbrev Line := BitVec 512
/-- A 256-bit bundle (09 R325). -/
abbrev BundleWord := BitVec 256
/-- A 128-byte grant record; byte b is bits 8b + 7 to 8b (14 R478). -/
abbrev GrantRec := BitVec 1024
/-- A table from numbers to entries, in strictly rising order of number. -/
abbrev Tab (α : Type) := List (Nat × α)

end Sys2Proof
end

