-- ==== Sys2Proof/Slots.lean ====
section
/-!
DEFINITION. The operand fields of the four slots of a bundle (09 Table INM-4, Table INM-7; 10 Table INV-1,
Table INV-2, Table INV-7).
-/
namespace Sys2Proof

/-- The common fields of a V-slot instruction (10 Table INV-1). -/
structure VArgs where
  dd : Fin 16
  da : Fin 16 := 0
  db : Fin 16 := 0
  dc : Fin 16 := 0
  rnd : Fin 4 := 0
  sat : Bool := false
  srq : Fin 8 := 0
  deriving DecidableEq, Repr

/-- M-slot instructions (09 Table INM-4). -/
inductive MSlot where
  | nop
  | mma (da db : Fin 16) (acc : Fin 8)
  | mmaz (da db : Fin 16) (acc : Fin 8)
  | mmat (da db : Fin 16) (acc : Fin 8) (zero : Bool)
  | acczero (acc : Fin 8) (cnt cls : Fin 4)
  | accload (d : Fin 16) (acc : Fin 8) (form : Fin 4)
  | accdrain (d : Fin 16) (acc : Fin 8) (wide : Bool) (rnd : Fin 4) (sat : Bool) (srq : Fin 8)
  /-- A reserved encoding (09 R326). -/
  | bad
  deriving DecidableEq, Repr

/-- V-slot instructions with their own fields (10 Table INV-2). -/
inductive VSlot where
  | nop
  | vadd (f : VArgs) (fo : Bool) (sOrd : Fin 32) (rank : Fin 8)
  | vsub (f : VArgs)
  | vmul (f : VArgs)
  | vfma (f : VArgs)
  | vmax (f : VArgs)
  | vmin (f : VArgs)
  | vexp (f : VArgs)
  | vlog (f : VArgs)
  | vrcp (f : VArgs)
  | vrsq (f : VArgs)
  | vcvt (f : VArgs)
  | vsel (f : VArgs)
  | vcmp (f : VArgs) (cond : Fin 8)
  | vsumrow (f : VArgs)
  | vmaxrow (f : VArgs)
  | vshuf (f : VArgs) (mode : Fin 4) (sRot : Fin 32)
  | vrand (f : VArgs) (draw : Byte) (bits : Bool)
  | vsround (f : VArgs) (keep : Fin 32)
  | vdig (f : VArgs) (snap : Bool) (layer : BitVec 16)
  | bad
  deriving DecidableEq, Repr

/-- X-slot instructions (09 Table INM-7). -/
inductive XSlot where
  | nop
  | pload (d : Fin 16) (win : Fin 8) (sOff sCst sSlot : Fin 32)
  | pstore (d : Fin 16) (win : Fin 8) (sOff sCst sSlot : Fin 32)
  | sget (sD sB : Fin 32) (imm : BitVec 22)
  | sput (sS sB : Fin 32) (imm : BitVec 22)
  | launch (d : Fin 16) (ls : Fin 8) (sDep sTag : Fin 32)
  | land (d : Fin 16) (sTag : Fin 32) (noWrite : Bool)
  | landany (d : Fin 16) (sTag : Fin 32) (mask : Byte) (sD : Fin 32)
  | bad
  deriving DecidableEq, Repr

/-- C-slot instructions (10 Table INV-7). With src false the immediate is used. -/
inductive CSlot where
  | nop
  | loop (src : Bool) (sC : Fin 32) (imm : W32) (endIx : BitVec 12)
  | endloop
  | waittick (t : BitVec 16) (next src : Bool) (sT : Fin 32)
  | waitcyc (n : BitVec 16) (src : Bool) (sN : Fin 32)
  | sets (dk : Bool) (dst : Fin 32) (fsel : Fin 8) (imm : W32)
  | adds (dk : Bool) (dst : Fin 32) (fsel : Fin 8) (sA : Fin 32) (src : Bool) (sB : Fin 32) (imm : W32)
  | muls (dk : Bool) (dst : Fin 32) (fsel : Fin 8) (sA : Fin 32) (src : Bool) (sB : Fin 32) (imm : W32)
  | edge (m : Fin 8) (src : Bool) (rowI colI : BitVec 9) (sR sC : Fin 32)
  | halt
  | bad
  deriving DecidableEq, Repr

/-- The read whose completion timer expires or whose completion fails: one of the control domain, by its number, with the
bytes that came first; or n flits of a DMA engine from a departure position on (19 R656). -/
inductive ReadRef where
  | fetch (id : Nat) (came : List Byte)
  | dma (engine : Fin 32) (lap : Fin 4) (tick : BitVec 16) (n : Fin 65)
  deriving DecidableEq, Repr

/-- Errors that the host link reports (19 Table HST-5). -/
inductive PcieError where
  | receiver
  | badTlp
  | badDllp
  | replayTimeout
  | replayRollover
  | malformed (fn : Fin 64)
  | ecrcRequest (fn : Fin 64)
  /-- A request to no BAR, or one that R645 refuses; a read or a write. -/
  | unsupported (fn : Fin 64) (read : Bool)
  | poisonedWrite (fn : Fin 64)
  /-- A completion with status UR or CA. -/
  | failedCompletion (read : ReadRef)
  /-- A poisoned completion or one that fails ECRC: of a DMA flit its data come poisoned at a fabric tick. -/
  | poisonedCompletion (ecrc : Bool) (read : ReadRef) (t : Nat) (data : Line)
  | unexpectedCompletion (fn : Fin 64)
  deriving DecidableEq, Repr

/-- A decoded bundle (09 R325). -/
structure Bundle where
  c : CSlot := .nop
  x : XSlot := .nop
  v : VSlot := .nop
  m : MSlot := .nop
  deriving DecidableEq, Repr

/-- A REFCLK rising edge of a PLL that relocks: 0 fabric, 1 control, 2 to 5 columns; cycles since the relock began (02 R70, R71). -/
structure PllEdge where
  pll : Fin 6
  cycle : Nat
  deriving DecidableEq, Repr

/-- What a link's receiver found in EQUALISE: the lanes within the error ratio, the physical receive lane of each logical
lane (bits 3i + 2 to 3i of lane i), and the inverted lanes (05 R160, R170). -/
structure LanesFound where
  pass : Byte
  order : BitVec 24
  invert : Byte
  deriving DecidableEq, Repr

end Sys2Proof
end

