-- ==== Sys2Proof/Syntax.lean ====
section
/-!
DEFINITION. The commands of the block: one constructor for each row of the table of commands, those without operands last.
-/
namespace Sys2Proof

inductive Instr where
  /-- CHIP_RESET (20 R690): cause is coded as RESET_CAUSE; cut: it ends a flash write. -/
  | chipReset (cause : Fin 6) (cut : Bool)
  /-- LINK_DRIVEN_RESET (19 R659): k: 0 PERST#, 1 Hot Reset, 2 link disable, 3 DL_Down. -/
  | linkDrivenReset (k : Fin 4) (cut : Bool)
  /-- PLL_LOCK_CONFIRM (02 R70): p: a REFCLK edge of a PLL that relocks. -/
  | pllLockConfirm (p : PllEdge)
  /-- PLL_UNGATE (02 R71): p: a REFCLK edge of a PLL that relocks. -/
  | pllUngate (p : PllEdge)
  /-- BOOT_ENTRY (20 R677): VOUT_MODE as read: an exponent, or not linear. -/
  | bootEntry (mode : Option (BitVec 5))
  /-- FIRMWARE_BOOT_LOAD (20 R678): sfdp: the flash parameters can be used. -/
  | firmwareBootLoad (sfdp : Bool)
  /-- MB_IN_GO (23 R763): a write by function fn. -/
  | mbInGo (fn : Fin 64) (v : W32)
  /-- DRAIN_REQ_SET (20 R671): a write by function fn. -/
  | drainReqSet (fn : Fin 64)
  /-- DRAIN_REQ_CLEAR (20 R671): a write by function fn. -/
  | drainReqClear (fn : Fin 64)
  /-- THERMAL_SAMPLE (20 R705): the sensors of 32 islands and 4 stacks, in eighths of a degree. -/
  | thermalSample (isl col : List Int)
  /-- POWER_SAMPLE (20 R701): board input power in watts. -/
  | powerSample (watts : BitVec 16)
  /-- READ_VOUT_POLL (22 R745): the word read back. -/
  | readVoutPoll (raw : BitVec 16)
  /-- PMBUS_FAULT (22 R746): why: 0 VOUT_MODE not linear, 1 transactions, 2 voltage not reached. -/
  | pmbusFault (why : Fin 3)
  /-- PMB_ALERT (22 R747): STATUS_WORD of both targets. -/
  | pmbAlert (st0 st1 : BitVec 16)
  /-- PLL_LOCK_LOST (02 R74): p: 0 fabric, 1 control, 2 to 5 columns. -/
  | pllLockLost (p : Fin 6)
  /-- ISLAND_OSC_START (02 R59). -/
  | islandOscStart (i : Fin 32)
  /-- TRACKING_WINDOW (02 R49): slow: the island counted too few, too many, or enough cycles. -/
  | trackingWindow (i : Fin 32) (slow : Option Bool)
  /-- SLEW_STEP (02 R56). -/
  | slewStep (i : Fin 32)
  /-- DROOP_STRETCH (02 R50): n stretched cycles. -/
  | droopStretch (i : Fin 32) (n : Nat)
  /-- DROOP_EXCESS (21 R731). -/
  | droopExcess (i : Fin 32)
  /-- SETPOINT_WRITE (23 R773): a write by function fn. -/
  | setpointWrite (fn : Fin 64) (i : Fin 32) (v : W32)
  /-- DROOP_FLAG_CLEAR (21 R731): present: islands whose droop persists. -/
  | droopFlagClear (fn : Fin 64) (mask present : W32)
  /-- PHASE_START (03 R79). -/
  | phaseStart (p : Fin 64)
  /-- WHEEL_MARKER_SEND (03 R94). -/
  | wheelMarkerSend (l : Fin 16)
  /-- WHEEL_MARKER_RECEIVE (03 R93): at16: arrival in 1/16 t. -/
  | wheelMarkerReceive (l : Fin 16) (at16 : Nat)
  /-- SYNC_IN_EDGE (03 R101): t: the fabric tick that observes the edge. -/
  | syncInEdge (t : Nat)
  /-- SWITCH_TICK (04 R138): t: a fabric tick. -/
  | switchTick (i : Fin 32) (t : Nat)
  /-- LAUNCH_DEPARTURE (07 R267): t: a fabric tick. -/
  | launchDeparture (cl : Fin 512) (ls : Fin 8) (t : Nat)
  /-- LAUNCH_HEADER_LATE (07 R268): t: a fabric tick. -/
  | launchHeaderLate (cl : Fin 512) (ls : Fin 8) (t : Nat)
  /-- LANDING_WRITE (04 R149): t: a fabric tick. -/
  | landingWrite (cl : Fin 512) (t : Nat)
  /-- SHELF_WRITE (06 R228): t: a fabric tick. -/
  | shelfWrite (q : Fin 4) (k : Fin 8) (t : Nat)
  /-- SHELF_READ (06 R228): t: a fabric tick. -/
  | shelfRead (q : Fin 4) (k : Fin 8) (t : Nat)
  /-- LINK_FRAME_TRANSMIT (05 R161): k: the frame of the wheel. -/
  | linkFrameTransmit (l : Fin 16) (k : Nat)
  /-- LINK_FRAME_RECEIVE (05 R165): the wheel and index the receiver expects, whether its wheel is a counted one, arrival in 1/16 t, the symbols of the 8 physical lanes. -/
  | linkFrameReceive (l : Fin 16) (wheel index : Nat) (sched : Bool) (at16 : Nat) (lanes : List (List (BitVec 10)))
  /-- REPLAY_SEND (05 R185): k: the frame of the wheel. -/
  | replaySend (l : Fin 16) (k : Nat)
  /-- RELEASE_STORE_RELEASE (05 R176): t: a fabric tick. -/
  | releaseStoreRelease (l : Fin 16) (t : Nat)
  /-- LANE_DROP (05 R189): t: a fabric tick. -/
  | laneDrop (l : Fin 16) (t : Nat)
  /-- LINK_DETECT_DONE (05 R170): lanes with a signal. -/
  | linkDetectDone (l : Fin 16) (t : Nat) (lanes : Byte)
  /-- LINK_EQUALISE_DONE (05 R170): what the receiver found on its lanes. -/
  | linkEqualiseDone (l : Fin 16) (t : Nat) (pass : LanesFound)
  /-- LINK_ALIGN_DONE (05 R172): peer: lane map and skew are agreed with the peer, else the timeout. -/
  | linkAlignDone (l : Fin 16) (t : Nat) (peer : Bool)
  /-- LINK_MEASURE_DONE (05 R173): the round trips in 1/16 t and the F_FINE of the peer that the link settles on. -/
  | linkMeasureDone (l : Fin 16) (t : Nat) (rtts : List Nat) (peerFine : Nat)
  /-- LINK_CONFIRM_DONE (05 R170): clean: the way to READY, else the fallback. -/
  | linkConfirmDone (l : Fin 16) (t : Nat) (clean : Bool)
  /-- LINK_LOSS (05 R193): signal: the signal is lost. -/
  | linkLoss (l : Fin 16) (signal : Bool)
  /-- LINK_LOST_TIMEOUT (05 R170): t: a fabric tick. -/
  | linkLostTimeout (l : Fin 16) (t : Nat)
  /-- REFRESH_BURST (06 R221): m: a column edge. -/
  | refreshBurst (cl : Fin 512) (m : Nat)
  /-- COLUMN_SLOT (06 R213): m: the column edge of the slot. -/
  | columnSlot (cl : Fin 512) (phase : Fin 64) (slot : Fin 1024) (m : Nat)
  /-- COLUMN_READ_DATA (06 R215): m: a column edge. -/
  | columnReadData (cl : Fin 512) (m : Nat)
  /-- PANE_FILL (06 R205). -/
  | paneFill (cl : Fin 512)
  /-- BUNDLE_ISSUE (07 R246): third: crossed marks are seen at the third edge. -/
  | bundleIssue (cl : Fin 512) (third : Bool)
  /-- PENDING_WRITE_EFFECT (07 R250). -/
  | pendingWriteEffect (cl : Fin 512)
  /-- MMA (09 R335): a bundle of this instruction alone. -/
  | mma (cl : Fin 512) (da db : Fin 16) (acc : Fin 8)
  /-- MMAZ (09 R339): a bundle of this instruction alone. -/
  | mmaz (cl : Fin 512) (da db : Fin 16) (acc : Fin 8)
  /-- MMAT (09 R335): a bundle of this instruction alone. -/
  | mmat (cl : Fin 512) (da db : Fin 16) (acc : Fin 8) (zero : Bool)
  /-- ACCZERO (09 R340): a bundle of this instruction alone. -/
  | acczero (cl : Fin 512) (acc : Fin 8) (cnt cls : Fin 4)
  /-- ACCLOAD (09 R341): a bundle of this instruction alone. -/
  | accload (cl : Fin 512) (dd : Fin 16) (acc : Fin 8) (form : Fin 4)
  /-- ACCDRAIN (09 R342): a bundle of this instruction alone. -/
  | accdrain (cl : Fin 512) (dd : Fin 16) (acc : Fin 8) (wide : Bool) (rnd : Fin 4) (sat : Bool) (srq : Fin 8)
  /-- VADD (10 R375): a bundle of this instruction alone. -/
  | vadd (cl : Fin 512) (f : VArgs) (fo : Bool) (sOrd : Fin 32) (rank : Fin 8)
  /-- VSUB (10 R365): a bundle of this instruction alone. -/
  | vsub (cl : Fin 512) (f : VArgs)
  /-- VMUL (10 R365): a bundle of this instruction alone. -/
  | vmul (cl : Fin 512) (f : VArgs)
  /-- VFMA (10 R365): a bundle of this instruction alone. -/
  | vfma (cl : Fin 512) (f : VArgs)
  /-- VMAX (10 R369): a bundle of this instruction alone. -/
  | vmax (cl : Fin 512) (f : VArgs)
  /-- VMIN (10 R369): a bundle of this instruction alone. -/
  | vmin (cl : Fin 512) (f : VArgs)
  /-- VEXP (10 R367): a bundle of this instruction alone. -/
  | vexp (cl : Fin 512) (f : VArgs)
  /-- VLOG (10 R367): a bundle of this instruction alone. -/
  | vlog (cl : Fin 512) (f : VArgs)
  /-- VRCP (10 R367): a bundle of this instruction alone. -/
  | vrcp (cl : Fin 512) (f : VArgs)
  /-- VRSQ (10 R367): a bundle of this instruction alone. -/
  | vrsq (cl : Fin 512) (f : VArgs)
  /-- VCVT (10 R365): a bundle of this instruction alone. -/
  | vcvt (cl : Fin 512) (f : VArgs)
  /-- VSEL (10 R369): a bundle of this instruction alone. -/
  | vsel (cl : Fin 512) (f : VArgs)
  /-- VCMP (10 R370): a bundle of this instruction alone. -/
  | vcmp (cl : Fin 512) (f : VArgs) (cond : Fin 8)
  /-- VSUMROW (10 R371): a bundle of this instruction alone. -/
  | vsumrow (cl : Fin 512) (f : VArgs)
  /-- VMAXROW (10 R372): a bundle of this instruction alone. -/
  | vmaxrow (cl : Fin 512) (f : VArgs)
  /-- VSHUF (10 R374): a bundle of this instruction alone. -/
  | vshuf (cl : Fin 512) (f : VArgs) (mode : Fin 4) (sRot : Fin 32)
  /-- VRAND (10 R377): a bundle of this instruction alone. -/
  | vrand (cl : Fin 512) (f : VArgs) (draw : Byte) (raw : Bool)
  /-- VSROUND (10 R378): a bundle of this instruction alone. -/
  | vsround (cl : Fin 512) (f : VArgs) (keep : Fin 32)
  /-- VDIG (10 R381): a bundle of this instruction alone. -/
  | vdig (cl : Fin 512) (f : VArgs) (snap : Bool) (layer : BitVec 16)
  /-- PLOAD (09 R345): a bundle of this instruction alone. -/
  | pload (cl : Fin 512) (dd : Fin 16) (win : Fin 8) (sOff sCst sSlot : Fin 32)
  /-- PSTORE (09 R345): a bundle of this instruction alone. -/
  | pstore (cl : Fin 512) (dd : Fin 16) (win : Fin 8) (sOff sCst sSlot : Fin 32)
  /-- SGET (09 R349): a bundle of this instruction alone. -/
  | sget (cl : Fin 512) (sD sB : Fin 32) (imm : BitVec 22)
  /-- SPUT (09 R349): a bundle of this instruction alone. -/
  | sput (cl : Fin 512) (sS sB : Fin 32) (imm : BitVec 22)
  /-- LAUNCH (09 R350): a bundle of this instruction alone. -/
  | launch (cl : Fin 512) (dd : Fin 16) (ls : Fin 8) (sDep sTag : Fin 32)
  /-- LAND (09 R352): a bundle of this instruction alone. -/
  | land (cl : Fin 512) (dd : Fin 16) (sTag : Fin 32) (noWrite : Bool)
  /-- LANDANY (09 R354): a bundle of this instruction alone. -/
  | landany (cl : Fin 512) (dd : Fin 16) (sTag : Fin 32) (mask : Byte) (sD : Fin 32)
  /-- LOOP (10 R385): a bundle of this instruction alone. -/
  | loop (cl : Fin 512) (src : Bool) (sC : Fin 32) (imm : W32) (endIx : BitVec 12)
  /-- ENDLOOP (07 R274): a bundle of this instruction alone. -/
  | endloop (cl : Fin 512)
  /-- WAITTICK (07 R279): a bundle of this instruction alone. -/
  | waittick (cl : Fin 512) (t : BitVec 16) (next src : Bool) (sT : Fin 32)
  /-- WAITTICK_RELEASE (07 R280): at most n more island edges. -/
  | waittickRelease (cl : Fin 512) (n : Nat) (third : Bool)
  /-- WAITCYC (10 R388): a bundle of this instruction alone. -/
  | waitcyc (cl : Fin 512) (n : BitVec 16) (src : Bool) (sN : Fin 32)
  /-- WAITCYC_RELEASE (07 R282). -/
  | waitcycRelease (cl : Fin 512)
  /-- SETS (10 R383): a bundle of this instruction alone. -/
  | sets (cl : Fin 512) (dk : Bool) (dst : Fin 32) (fsel : Fin 8) (imm : W32)
  /-- ADDS (10 R383): a bundle of this instruction alone. -/
  | adds (cl : Fin 512) (dk : Bool) (dst : Fin 32) (fsel : Fin 8) (sA : Fin 32) (src : Bool) (sB : Fin 32) (imm : W32)
  /-- MULS (10 R383): a bundle of this instruction alone. -/
  | muls (cl : Fin 512) (dk : Bool) (dst : Fin 32) (fsel : Fin 8) (sA : Fin 32) (src : Bool) (sB : Fin 32) (imm : W32)
  /-- EDGE (10 R390): a bundle of this instruction alone. -/
  | edge (cl : Fin 512) (mk : Fin 8) (src : Bool) (rowI colI : BitVec 9) (sR sC : Fin 32)
  /-- HALT (10 R391): a bundle of this instruction alone. -/
  | halt (cl : Fin 512)
  /-- DIGEST_DRAIN (16 R570). -/
  | digestDrain (t : Fin 32)
  /-- DOORBELL_CMD_TAIL (13 R455): a write of v by function fn. -/
  | doorbellCmdTail (fn : Fin 64) (r : Fin 1024) (v : W32)
  /-- DOORBELL_STS_HEAD (13 R455): a write of v by function fn. -/
  | doorbellStsHead (fn : Fin 64) (r : Fin 1024) (v : W32)
  /-- COMMAND_FETCH (13 R458). -/
  | commandFetch (r : Fin 1024)
  /-- COMMAND_START (13 R460). -/
  | commandStart (r : Fin 1024)
  /-- STATUS_REPLY (13 R469). -/
  | statusReply (r : Fin 1024)
  /-- RING_ENABLE (13 R452): a write by function fn, with its VECTOR. -/
  | ringEnable (fn : Fin 64) (r : Fin 1024) (vector : Fin 64)
  /-- RING_DISABLE (13 R451): a write by function fn, with its VECTOR. -/
  | ringDisable (fn : Fin 64) (r : Fin 1024) (vector : Fin 64)
  /-- RING_CLOSE_DONE (23 R774). -/
  | ringCloseDone (r : Fin 1024)
  /-- REGISTER_WRITE (23 R759): off: offset in BAR 0; droop: islands in droop, or the conditions of STATE 0x008 that last. -/
  | registerWrite (fn : Fin 64) (off : BitVec 21) (v droop : W32)
  /-- CAUSE_CLEAR (23 R772): e: a tenancy’s entry or the device’s; occurs: causes that occur in the same cycle. -/
  | causeClear (fn : Fin 64) (e : Option (Fin 32)) (mask occurs : W32)
  /-- CAUSE_ENABLE (23 R772): e: a tenancy’s entry or the device’s. -/
  | causeEnable (fn : Fin 64) (e : Option (Fin 32)) (v : W32)
  /-- MSIX_UNMASK (19 R652): v: a vector, or the whole function. -/
  | msixUnmask (fn : Fin 64) (v : Option (Fin 64))
  /-- WATCHDOG_EXPIRY (21 R721). -/
  | watchdogExpiry (n : Fin 16)
  /-- CORE_RESET (21 R721): a write by function fn. -/
  | coreReset (fn : Fin 64) (mask : BitVec 16)
  /-- CORE_RELEASE (21 R721). -/
  | coreRelease (n : Fin 16)
  /-- RING_REHOME (13 R445). -/
  | ringRehome (n : Fin 16)
  /-- INTERRUPTED_COMMAND (21 R725). -/
  | interruptedCommand (r : Fin 1024)
  /-- FAULT_RAISED (21 R709): a detection point names tenancy t. -/
  | faultRaised (t : Fin 32) (code : Byte)
  /-- FAULT_STOP (21 R712). -/
  | faultStop (t : Fin 32)
  /-- ZEROING_DONE (14 R497). -/
  | zeroingDone (t : Fin 32)
  /-- LEASE_EXPIRY (14 R506): k: 0 to 3 a bitstream unit, 4 the staging set. -/
  | leaseExpiry (k : Fin 5)
  /-- PART_COUNT_HI (23 R766): a write by function fn. -/
  | partCountHi (fn : Fin 64) (v : W32)
  /-- PART_SYNC (23 R769): a write by function fn. -/
  | partSync (fn : Fin 64)
  /-- PART_CANCEL (23 R767): a write by function fn. -/
  | partCancel (fn : Fin 64)
  /-- BUCKET_SEGMENTS_CURRENT (11 R408). -/
  | bucketSegmentsCurrent (t : Fin 32)
  /-- CLUSTER_ARM (07 R283). -/
  | clusterArm (t : Fin 32)
  /-- LAUNCH_COUNT_REACHED (03 R120). -/
  | launchCountReached (t : Fin 32)
  /-- PROGRAM_COMPLETION_CHECK (11 R399). -/
  | programCompletionCheck (t : Fin 32)
  /-- HALT_AT_REACHED (15 R529). -/
  | haltAtReached (t : Fin 32)
  /-- SUSPEND_EFFECT (14 R501). -/
  | suspendEffect (t : Fin 32)
  /-- RESUME_EFFECT (14 R502). -/
  | resumeEffect (t : Fin 32)
  /-- DMA_DESCRIPTOR (19 R662): t: a fabric tick. -/
  | dmaDescriptor (e : Fin 32) (t : Nat)
  /-- DMA_READ_COMPLETION (19 R663): the flit by its departure position; t: a fabric tick. -/
  | dmaReadCompletion (e : Fin 32) (lap : Fin 4) (tick : BitVec 16) (t : Nat) (data : Line) (poison : Bool)
  /-- DMA_READ_DEPARTURE (19 R664): t: a fabric tick. -/
  | dmaReadDeparture (e : Fin 32) (t : Nat)
  /-- DMA_WRITE_ARRIVAL (19 R666): t: a fabric tick. -/
  | dmaWriteArrival (e : Fin 32) (t : Nat)
  /-- DMA_WRITE_SHORT (19 R666): t: a fabric tick. -/
  | dmaWriteShort (e : Fin 32) (t : Nat)
  /-- DMA_HOST_WRITE (19 R666): at most n flits, as Max Payload Size allows. -/
  | dmaHostWrite (e : Fin 32) (n : Nat)
  /-- COMPLETION_TIMEOUT (19 R656): the read that times out. -/
  | completionTimeout (r : ReadRef)
  /-- PCIE_ERROR_RECEIVED (19 R655): the error. -/
  | pcieErrorReceived (e : PcieError)
  /-- UNSUPPORTED_REQUEST (19 R645): rd: a read. -/
  | unsupportedRequest (fn : Fin 64) (rd : Bool)
  /-- FUNCTION_LEVEL_RESET (19 R657). -/
  | functionLevelReset (fn : Fin 64)
  /-- FLR_COMPLETE (19 R658). -/
  | flrComplete (fn : Fin 64)
  /-- BSU_RECORD_FLIT (17 R600): t: a fabric tick. -/
  | bsuRecordFlit (u : Fin 4) (t : Nat)
  /-- BSU_NOP (17 R599): the record at the head of the queue. -/
  | bsuNop (u : Fin 4)
  /-- BSU_CTX (17 R592): the record at the head of the queue. -/
  | bsuCtx (u : Fin 4)
  /-- BSU_BYP (17 R592): the record at the head of the queue. -/
  | bsuByp (u : Fin 4)
  /-- BSU_TERM (17 R592): the record at the head of the queue. -/
  | bsuTerm (u : Fin 4)
  /-- BSU_SYM (17 R589): the record at the head of the queue. -/
  | bsuSym (u : Fin 4)
  /-- BSU_LIT (17 R592): the record at the head of the queue. -/
  | bsuLit (u : Fin 4)
  /-- BSU_FRAME_START (17 R595): the record at the head of the queue. -/
  | bsuFrameStart (u : Fin 4)
  /-- BSU_SEG_START (17 R595): the record at the head of the queue. -/
  | bsuSegStart (u : Fin 4)
  /-- BSU_ENTRY (17 R597): the record at the head of the queue. -/
  | bsuEntry (u : Fin 4)
  /-- BSU_SEG_END (17 R597): the record at the head of the queue. -/
  | bsuSegEnd (u : Fin 4)
  /-- BSU_FRAME_END (17 R595): the record at the head of the queue. -/
  | bsuFrameEnd (u : Fin 4)
  /-- BSU_DRAIN (17 R604): the record the input stage has taken. -/
  | bsuDrain (u : Fin 4)
  /-- BSU_DRAIN_LINE (17 R605): t: a fabric tick. -/
  | bsuDrainLine (u : Fin 4) (t : Nat)
  /-- BSU_RESET (17 R610): cause is coded as LAST_RESET. -/
  | bsuReset (u : Fin 4) (cause : Fin 7)
  /-- TIMER_STEP (18 R619): t: a fabric tick. -/
  | timerStep (n : Fin 16) (t : Nat)
  /-- TIMER_START (18 R630): t: a fabric tick. -/
  | timerStart (t : Nat)
  /-- CMP_LO_WRITE (18 R633): a write by function fn. -/
  | cmpLoWrite (fn : Fin 64) (n : Fin 16) (v : W32)
  /-- CMP_HI_WRITE (18 R633): a write by function fn. -/
  | cmpHiWrite (fn : Fin 64) (n : Fin 16) (v : W32)
  /-- TMR_GSTART (18 R631): a write by function fn. -/
  | tmrGstart (fn : Fin 64) (mask : BitVec 16)
  /-- PASSED_COMPARE_FIRE (18 R635). -/
  | passedCompareFire (n : Fin 16)
  /-- BRIDGE_ADDR (22 R751): the eight bytes, the first the least significant. -/
  | bridgeAddr (block : W64)
  /-- BRIDGE_DATA (22 R752): a write or a read; droop: islands in droop, or the conditions of STATE 0x008 that last. -/
  | bridgeData (write : Option W32) (droop : W32)
  /-- JTAG_DEBUG_UPDATE (22 R758): the DEBUG register as shifted in; droop: islands in droop, or the conditions of STATE 0x008 that last. -/
  | jtagDebugUpdate (dr : BitVec 128) (droop : W32)
  /-- JTAG_EXTEST (22 R757): code: 0 EXTEST, 1 CLAMP, 2 HIGHZ; low: RESET_N is held low. -/
  | jtagExtest (code : Fin 3) (low : Bool)
  /-- NOP (15 R509): the started command of ring r. -/
  | nop (r : Fin 1024)
  /-- QUERY_DEVICE (15 R515): the started command of ring r. -/
  | queryDevice (r : Fin 1024)
  /-- QUERY_TENANCY (15 R515): the started command of ring r. -/
  | queryTenancy (r : Fin 1024)
  /-- IMAGE_STAGE (15 R516): the started command of ring r. -/
  | imageStage (r : Fin 1024)
  /-- IMAGE_VERIFY (12 R434): the started command of ring r. -/
  | imageVerify (r : Fin 1024)
  /-- IMAGE_LOAD (12 R436): the started command of ring r. -/
  | imageLoad (r : Fin 1024)
  /-- IMAGE_UNLOAD (15 R518): the started command of ring r. -/
  | imageUnload (r : Fin 1024)
  /-- BUCKET_SELECT (15 R519): the started command of ring r. -/
  | bucketSelect (r : Fin 1024)
  /-- BUFFER_WRITE (15 R522): the started command of ring r. -/
  | bufferWrite (r : Fin 1024)
  /-- BUFFER_READ (15 R522): the started command of ring r. -/
  | bufferRead (r : Fin 1024)
  /-- BUFFER_FILL (15 R522): the started command of ring r. -/
  | bufferFill (r : Fin 1024)
  /-- BUFFER_DIGEST (15 R526): the started command of ring r. -/
  | bufferDigest (r : Fin 1024)
  /-- LAUNCH_AT (15 R527): the started command of ring r. -/
  | launchAt (r : Fin 1024)
  /-- LAUNCH_NEXT (03 R121): the started command of ring r. -/
  | launchNext (r : Fin 1024)
  /-- HALT_AT (15 R529): the started command of ring r. -/
  | haltAt (r : Fin 1024)
  /-- SUSPEND (14 R504): the started command of ring r. -/
  | suspend (r : Fin 1024)
  /-- RESUME (15 R530): the started command of ring r. -/
  | resume (r : Fin 1024)
  /-- FENCE (15 R532): the started command of ring r. -/
  | fence (r : Fin 1024)
  /-- WAIT_COUNT (15 R533): the started command of ring r. -/
  | waitCount (r : Fin 1024)
  /-- JOURNAL_START (15 R534): the started command of ring r. -/
  | journalStart (r : Fin 1024)
  /-- JOURNAL_STOP (15 R534): the started command of ring r. -/
  | journalStop (r : Fin 1024)
  /-- JOURNAL_CLOSE_ON_VACANT (21 R727). -/
  | journalCloseOnVacant (t : Fin 32)
  /-- REPLAY_START (16 R583): the started command of ring r. -/
  | replayStart (r : Fin 1024)
  /-- DIGEST_TABLE_READ (15 R536): the started command of ring r. -/
  | digestTableRead (r : Fin 1024)
  /-- VARIANCE_READ (15 R537): the started command of ring r. -/
  | varianceRead (r : Fin 1024)
  /-- SPAN_JOIN (15 R538): the started command of ring r. -/
  | spanJoin (r : Fin 1024)
  /-- SPAN_LEAVE (15 R539): the started command of ring r. -/
  | spanLeave (r : Fin 1024)
  /-- COUNT_READ (15 R540): the started command of ring r. -/
  | countRead (r : Fin 1024)
  /-- TIMER_PROGRAM (18 R630): the started command of ring r. -/
  | timerProgram (r : Fin 1024)
  /-- TIMER_START_GROUP (18 R631): the started command of ring r. -/
  | timerStartGroup (r : Fin 1024)
  /-- BSU_BIND (15 R543): the started command of ring r. -/
  | bsuBind (r : Fin 1024)
  /-- BSU_CONFIG (17 R608): the started command of ring r. -/
  | bsuConfig (r : Fin 1024)
  /-- BSU_FLUSH (17 R612): the started command of ring r. -/
  | bsuFlush (r : Fin 1024)
  /-- PARTITION_STAGE (15 R545): the started command of ring r. -/
  | partitionStage (r : Fin 1024)
  /-- PARTITION_COMMIT (15 R546): the started command of ring r. -/
  | partitionCommit (r : Fin 1024)
  /-- PARTITION_READ (15 R547): the started command of ring r. -/
  | partitionRead (r : Fin 1024)
  /-- LEASE_REVOKE (15 R548): the started command of ring r. -/
  | leaseRevoke (r : Fin 1024)
  /-- RING_ASSIGN (15 R549): the started command of ring r. -/
  | ringAssign (r : Fin 1024)
  /-- POWER_CAP_SET (15 R550): the started command of ring r. -/
  | powerCapSet (r : Fin 1024)
  /-- ISLAND_POWER (15 R551): the started command of ring r. -/
  | islandPower (r : Fin 1024)
  /-- FIRMWARE_STAGE (15 R552): the started command of ring r. -/
  | firmwareStage (r : Fin 1024)
  /-- FIRMWARE_ACTIVATE (15 R553): the started command of ring r. -/
  | firmwareActivate (r : Fin 1024)
  /-- LINK_CONTROL (15 R554): the started command of ring r. -/
  | linkControl (r : Fin 1024)
  /-- TENANCY_RESET (15 R555): the started command of ring r. -/
  | tenancyReset (r : Fin 1024)
  /-- CONFIG_SEAL (15 R556): the started command of ring r. -/
  | configSeal (r : Fin 1024)
  /-- RESET_RELEASE (20 R673): the straps as sampled. -/
  | resetRelease (straps : BitVec 4)
  /-- FETCH_COMPLETION (13 R458): the read by its number, and its data. -/
  | fetchCompletion (id : Nat) (data : List Byte)
  /-- HOST_LINK_UP (19 R641): rate and width as STATE codes them. -/
  | hostLinkUp (rate width : Fin 4) (flit : Bool)
  /-- BUS_MASTER_ENABLE (19 R647). -/
  | busMasterEnable (fn : Fin 64) (on : Bool)
  /-- POWER_LOSS (20 R708): cut: a flash slot was being written. -/
  | powerLoss (cut : Bool)
  /-- ISLAND_SUPPLY_GOOD (20 R695). -/
  | islandSupplyGood (i : Fin 32)
  /-- WHEEL_COUNTER_START (20 R675). -/
  | wheelCounterStart
  /-- MEMORY_INIT_DONE (20 R676). -/
  | memoryInitDone
  /-- HELD_ENTRY (20 R680). -/
  | heldEntry
  /-- CONFIG_SEAL_EFFECT (20 R687). -/
  | configSealEffect
  /-- DRAIN_TO_HALTED (20 R700). -/
  | drainToHalted
  /-- THERMAL_TRIP (20 R707). -/
  | thermalTrip
  /-- REFCLK_LOST (02 R74). -/
  | refclkLost
  /-- WHEEL_START (03 R85). -/
  | wheelStart
  /-- GUARD_APPLIED (03 R95). -/
  | guardApplied
  /-- SLIP_INSERT (03 R113). -/
  | slipInsert
  /-- SLIPPED_WHEEL_END (03 R103). -/
  | slippedWheelEnd
  /-- SLIP_LIMIT (03 R116). -/
  | slipLimit
  /-- MASTER_TAKEOVER (03 R109). -/
  | masterTakeover
  /-- MARKER_LOSS_HALT (03 R111). -/
  | markerLossHalt
  /-- SPAN_FORMED (03 R105). -/
  | spanFormed
  /-- FORMING_STRETCH (03 R104). -/
  | formingStretch
  /-- FORMING_TIMEOUT (03 R103). -/
  | formingTimeout
  /-- SPAN_HALT (05 R194). -/
  | spanHalt
  /-- SYNC_LOST (03 R102). -/
  | syncLost
  /-- SYNC_DISAGREE (03 R102). -/
  | syncDisagree
  /-- RESCUE_CORE_RESET (21 R722). -/
  | rescueCoreReset
  /-- BLACKOUT_BOUND_EXPIRY (20 R698). -/
  | blackoutBoundExpiry
  /-- GRANT_CHANGE_EFFECT (14 R495). -/
  | grantChangeEffect
  /-- PART_CHECK_DONE (23 R766). -/
  | partCheckDone
  /-- DIRECT_COMMIT_EFFECT (23 R768). -/
  | directCommitEffect
  /-- WAIT_COUNT_REACHED (15 R533). -/
  | waitCountReached
  /-- SPAN_LEAVE_EFFECT (15 R539). -/
  | spanLeaveEffect
  /-- TENANCY_RESET_EFFECT (15 R555). -/
  | tenancyResetEffect
  /-- ISLAND_POWER_OFF_EFFECT (20 R694). -/
  | islandPowerOffEffect
  /-- ISLAND_POWER_ON_EFFECT (20 R695). -/
  | islandPowerOnEffect
  /-- ISLAND_POWER_ON_DONE (20 R695). -/
  | islandPowerOnDone
  /-- LEASE_REVOKE_EFFECT (14 R507). -/
  | leaseRevokeEffect
  /-- VF_ENABLE_CLEAR (19 R642). -/
  | vfEnableClear
  /-- TIMER_START_MISSED (18 R632). -/
  | timerStartMissed
  /-- SMB_IDENT (22 R751). -/
  | smbIdent
  /-- SMB_TELEMETRY (22 R751). -/
  | smbTelemetry
  /-- BRIDGE_STATUS (22 R751). -/
  | bridgeStatus
  /-- SMB_ALERT_RESPONSE (22 R750). -/
  | smbAlertResponse
  /-- JTAG_TAP_RESET (22 R756). -/
  | jtagTapReset
  deriving DecidableEq, Repr

end Sys2Proof
end

