-- ==== Sys2Proof/Decode.lean ====
section
/-!
DEFINITION. The commands that words spell: the table of commands gives no row any bits, so no word spells one.
-/
namespace Sys2Proof

/-- The command a word of the table spells. -/
def decodeTableWord (_nbits _w : Nat) : Option Instr := none

end Sys2Proof
end

