-- ==== Sys2Proof/Config.lean ====
section
/-!
DEFINITION. The values the spec leaves open, as constants without a body: a statement holds for every value of them.
-/
namespace Sys2Proof.Config

/-- Whether a firmware image's signature verifies (13 R443; 20 R678): the spec gives no signature scheme. -/
opaque signatureOk : List Byte → Bool
/-- Line, build and sequence number that a firmware image carries (15 R552, R553; 20 R678): no layout is given. -/
opaque firmwareLine : List Byte → BitVec 16
opaque firmwareBuild : List Byte → BitVec 16
opaque firmwareSequence : List Byte → BitVec 32
/-- The firmware's estimate of the lowest cap in watts (20 R702), from the lowest permitted codes of the powered
islands and the present temperatures: the fused figures are not given. -/
opaque lowestCap : List Nat → List Int → Nat
/-- The fused voltage in millivolts for an island code (20 R704): not given. -/
opaque fusedMilliVolt : Nat → Nat
/-- Fine steps of the delay line in one code step (02 R49): not given. -/
opaque fineSteps : Nat
/-- How long the firmware and the host take over a command, in k (13 R474, R475): not given. The first argument is 0 for
S_in, 1 for S_out, 2 for waits on PCIe reads and 3 for waits the host holds; the second is the command. -/
opaque serviceTime : Nat → Nat → BitVec 32
/-- Further steps of at most 256 k that a long command takes on a shared core (13 R446): not given. -/
opaque commandSteps : Nat → Nat
/-- The blackout of a firmware activation in k (15 R553): only its bound is given. -/
opaque blackout : Nat → BitVec 64
/-- Whether a context number names a context of the Main or Main 10 profile for an initType (17 R593), and the alphabet of
an AV1 CDF, 0 beyond the last (17 R594): the standards' own tables. -/
opaque hevcContext : Nat → Nat → Bool
opaque av1Alphabet : Nat → Nat
/-- Coded bytes of a finished substream (17 R588, R589), from the records that made its contexts and the records coded in
it; for HEVC before emulation prevention, ended by ENTRY (false) or SEG_END (true); for AV1 with CDF updates disabled
or not. The standards are beyond the spec. -/
opaque hevcBytes : List (BitVec 64) → List (BitVec 64) → Bool → List Byte
opaque av1Bytes : List (BitVec 64) → List (BitVec 64) → Bool → List Byte
/-- Bytes an unfinished substream has put into its bank so far (17 R605): not given. The first argument is CODEC. -/
opaque openBytes : Nat → List (BitVec 64) → List (BitVec 64) → List Byte
/-- What a line of a pane reads as while its cluster is powered down (20 R694): its contents are lost. -/
opaque darkPane : Nat → BitVec 512
/-- FLIT_TAG of a bank line (04 R129; 17 R604): a DRAIN names none. -/
opaque drainTag : Nat → Nat → BitVec 10
/-- The device program of PHASE_63 (04 R135; 07 R265) is not given: the CTL_PORT a cluster's digest flits go to, their
ticks from the start of PHASE_63, FLIT_TAG and payload (log entry 113). -/
opaque digestPort : Nat → Fin 4
opaque digestTicks : Nat → Nat
opaque digestTag : Nat → BitVec 10
opaque digestData : Nat → BitVec 64 → BitVec 16 → BitVec 512
/-- Which of several shelf words active together on a port has its flit presented, at a port and tick (log entry 100). -/
opaque shelfPick : Nat → Nat → Nat
/-- A nibble of a launched line beyond the edge that holds no element (09 R351), by stream line and place (log entry 116). -/
opaque strayNibble : Nat → Nat → BitVec 4
/-- A function's completion timeout in use, in microseconds (19 R656; 23 Table REG-3): the host selects its range. -/
opaque cplTimeout : Nat → BitVec 32
/-- The PMBus regulator's VOUT exponent and other values a device beyond this one answers are operands; a value the
spec leaves undefined after a step is fresh for each number. -/
opaque freeValue : Nat → BitVec 64

end Sys2Proof.Config
end

