-- ==== Sys2Proof/Machine/Numeric.lean ====
section
/-!
DEFINITION. The eight formats, exact values, rounding, conversion and the generator (08 R286 to R317).
-/
namespace Sys2Proof.Machine

/-- The exact value of an element: a NaN, an infinity, or (-1)^neg * m * 2^e (08 R287). -/
inductive Val where
  | nan
  | inf (neg : Bool)
  | fin (neg : Bool) (m : Nat) (e : Int)
  deriving DecidableEq, Repr

/-- A magnitude before its one rounding: dyadic, a reciprocal, a reciprocal root, or a value that lies
strictly between m * 2^e and (m + 1) * 2^e (the irrational results of VEXP and VLOG). -/
inductive Mag where
  | dy (m : Nat) (e : Int)
  | rcp (m : Nat) (e : Int)
  | rsq (m : Nat) (e : Int)
  | appr (m : Nat) (e : Int)
  deriving DecidableEq, Repr

/-- A result before its one rounding (08 R296). -/
inductive Res where
  | nan
  | inf (neg : Bool)
  | num (neg : Bool) (mag : Mag)
  deriving DecidableEq, Repr

/-- The rounding modes of 08 R295; the reserved value 3 never reaches an operation. -/
inductive Rnd where
  | rne
  | rtz
  | sr
  deriving DecidableEq, Repr

/-- 08 R295. -/
def rndOf (n : Nat) : Rnd := if n = 1 then .rtz else if n = 2 then .sr else .rne

/-! ## Formats (08 Table NUM-1, Table NUM-2), by their 3-bit code -/

def fmtWidth (f : Nat) : Nat :=
  match f with | 0 => 32 | 1 => 16 | 2 => 16 | 3 => 8 | 4 => 8 | 5 => 4 | 6 => 8 | _ => 4

/-- Exponent field width. -/
def fmtExp (f : Nat) : Nat :=
  match f with | 0 => 8 | 1 => 5 | 2 => 8 | 3 => 4 | 4 => 5 | 5 => 2 | _ => 0

/-- Trailing significand width p. -/
def fmtSig (f : Nat) : Nat :=
  match f with | 0 => 23 | 1 => 10 | 2 => 7 | 3 => 3 | 4 => 2 | 5 => 1 | _ => 0

def fmtBias (f : Nat) : Nat :=
  match f with | 0 => 127 | 1 => 15 | 2 => 127 | 3 => 7 | 4 => 15 | 5 => 1 | _ => 0

/-- Encoding of the largest finite magnitude (08 Table NUM-2). -/
def fmtMax (f : Nat) : Nat :=
  match f with
  | 0 => 0x7F7FFFFF | 1 => 0x7BFF | 2 => 0x7F7F | 3 => 0x7E | 4 => 0x7B | 5 => 0x7 | 6 => 127 | _ => 7

/-- Encoding of the canonical NaN (08 Table NUM-2); 0 where the format has none. -/
def fmtNaN (f : Nat) : Nat :=
  match f with
  | 0 => 0x7FC00000 | 1 => 0x7E00 | 2 => 0x7FC0 | 3 => 0x7F | 4 => 0x7E | _ => 0

/-- Encoding of +infinity in the formats that have it. -/
def fmtInf (f : Nat) : Nat :=
  match f with | 0 => 0x7F800000 | 1 => 0x7C00 | 2 => 0x7F80 | 4 => 0x7C | _ => 0

def fmtIsInt (f : Nat) : Bool := f == 6 || f == 7

/-- Formats of the exact class (08 Table NUM-4). -/
def fmtIsExact (f : Nat) : Bool := f == 3 || f == 4 || f == 6 || f == 7

def pow2 (n : Nat) : Nat := 1 <<< n

/-- Value of an integer as an exact value. -/
def valOfInt (i : Int) : Val := .fin (decide (i < 0)) i.natAbs 0

/-- Two's complement reading of a w-bit number. -/
def signedOf (w n : Nat) : Int :=
  let k := n % pow2 w
  if k < pow2 (w - 1) then (k : Int) else (k : Int) - (pow2 w : Int)

/-- The value of one encoding (08 R287, R288); of an MXF4 element, before its block scale. -/
def decodeVal (f n : Nat) : Val :=
  if fmtIsInt f then valOfInt (signedOf (fmtWidth f) n)
  else
    let p := fmtSig f
    let eb := fmtExp f
    let s := (n >>> (eb + p)) % 2 == 1
    let e := (n >>> p) % pow2 eb
    let t := n % pow2 p
    let top := e == pow2 eb - 1
    if top && (f == 0 || f == 1 || f == 2 || f == 4) then
      (if t == 0 then .inf s else .nan)
    else if top && f == 3 && t == pow2 p - 1 then .nan
    else if e == 0 then .fin s t (1 - (fmtBias f : Int) - (p : Int))
    else .fin s (pow2 p + t) ((e : Int) - (fmtBias f : Int) - (p : Int))

/-- Multiplication by a power of two. -/
def valScale (k : Int) : Val → Val
  | .fin s m e => .fin s m (e + k)
  | v => v

/-- An MXF4 element under its block's scale byte (08 R289). -/
def mxVal (scale code : Nat) : Val :=
  if scale == 255 then .nan else valScale ((scale : Int) - 127) (decodeVal 5 code)

/-! ## Exact arithmetic (08 R300, R317; 10 R367) -/

def valNeg : Val → Val
  | .nan => .nan
  | .inf s => .inf (!s)
  | .fin s m e => .fin (!s) m e

def shlTo (m : Nat) (e q : Int) : Nat := m <<< (e - q).toNat

/-- Exact sum; an exact zero is -0 only when both terms are -0 (08 R300). -/
def valAdd : Val → Val → Val
  | .nan, _ => .nan
  | _, .nan => .nan
  | .inf a, .inf b => if a == b then .inf a else .nan
  | .inf a, _ => .inf a
  | _, .inf b => .inf b
  | .fin sa ma ea, .fin sb mb eb =>
    if ma == 0 && mb == 0 then .fin (sa && sb) 0 0
    else if ma == 0 then .fin sb mb eb
    else if mb == 0 then .fin sa ma ea
    else
      let q := min ea eb
      let a := shlTo ma ea q
      let b := shlTo mb eb q
      if sa == sb then .fin sa (a + b) q
      else if a == b then .fin false 0 0
      else if a > b then .fin sa (a - b) q
      else .fin sb (b - a) q

/-- Exact product (08 R317). -/
def valMul : Val → Val → Val
  | .nan, _ => .nan
  | _, .nan => .nan
  | .inf a, .inf b => .inf (a != b)
  | .inf a, .fin s m _ => if m == 0 then .nan else .inf (a != s)
  | .fin s m _, .inf b => if m == 0 then .nan else .inf (s != b)
  | .fin sa ma ea, .fin sb mb eb =>
    if ma == 0 || mb == 0 then .fin (sa != sb) 0 0 else .fin (sa != sb) (ma * mb) (ea + eb)

/-- The signed integer a finite value is at scale 2^q, q not above its exponent. -/
def valIntAt (s : Bool) (m : Nat) (e q : Int) : Int :=
  if s then -(shlTo m e q : Int) else (shlTo m e q : Int)

/-- Exact order of two values that are not NaN: negative, zero or positive; -0 equals +0. -/
def valCmp : Val → Val → Int
  | .inf a, .inf b => if a == b then 0 else if a then -1 else 1
  | .inf a, _ => if a then -1 else 1
  | _, .inf b => if b then 1 else -1
  | .fin sa ma ea, .fin sb mb eb =>
    let q := min (if ma == 0 then eb else ea) (if mb == 0 then ea else eb)
    let d := (if ma == 0 then 0 else valIntAt sa ma ea q) - (if mb == 0 then 0 else valIntAt sb mb eb q)
    if d < 0 then -1 else if d == 0 then 0 else 1
  | _, _ => 0

def valIsNaN : Val → Bool
  | .nan => true
  | _ => false

def valIsZero : Val → Bool
  | .fin _ m _ => m == 0
  | _ => false

def valIsNeg : Val → Bool
  | .nan => false
  | .inf s => s
  | .fin s _ _ => s

/-- The larger of two values, -0 below +0, NaN if either is NaN (10 R369). -/
def valMax (a b : Val) : Val :=
  if valIsNaN a || valIsNaN b then .nan
  else
    let d := valCmp a b
    if d > 0 then a else if d < 0 then b
    else if valIsZero a && valIsNeg a then b else a

/-- The smaller of two values, -0 below +0, NaN if either is NaN (10 R369). -/
def valMin (a b : Val) : Val :=
  if valIsNaN a || valIsNaN b then .nan
  else
    let d := valCmp a b
    if d < 0 then a else if d > 0 then b
    else if valIsZero a && valIsNeg a then a else b

def resOf : Val → Res
  | .nan => .nan
  | .inf s => .inf s
  | .fin s m e => .num s (.dy m e)

/-! ## Magnitudes on a grid -/

/-- Integer square root by bits: the largest r with r * r ≤ n among r below 2^k times the step. -/
def isqrtGo (n : Nat) : Nat → Nat → Nat
  | 0, r => r
  | k + 1, r =>
    let r' := r + pow2 k
    isqrtGo n k (if r' * r' ≤ n then r' else r)

def isqrt (n : Nat) : Nat := isqrtGo n (Nat.log2 n / 2 + 1) 0

def isPow2 (m : Nat) : Bool := m == pow2 (Nat.log2 m)

/-- floor(log2 |x|) of a magnitude that is not zero. -/
def magLog : Mag → Int
  | .dy m e => (Nat.log2 m : Int) + e
  | .appr m e => (Nat.log2 m : Int) + e
  | .rcp m e =>
    let l := (Nat.log2 m : Int) + e
    if isPow2 m then -l else -l - 1
  | .rsq m e =>
    let l := (Nat.log2 m : Int) + e
    if isPow2 m then (-l).fdiv 2 else (-l - 1).fdiv 2

def magIsZero : Mag → Bool
  | .dy m _ => m == 0
  | _ => false

/-- floor(|x| * 2^(24 - q)) and whether anything is left below it (08 R299). -/
def magAt (q : Int) : Mag → Nat × Bool
  | .dy m e =>
    let k := e - q + 24
    if 0 ≤ k then (m <<< k.toNat, false)
    else (m >>> (-k).toNat, m % pow2 (-k).toNat != 0)
  | .appr m e =>
    let k := e - q + 24
    if 0 ≤ k then (m <<< k.toNat, true) else (m >>> (-k).toNat, true)
  | .rcp m e =>
    let k := 24 - q - e
    if k < 0 then (0, true) else (pow2 k.toNat / m, pow2 k.toNat % m != 0)
  | .rsq m e =>
    let k := 2 * (24 - q) - e
    if k < 0 then (0, true)
    else
      let r := isqrt (pow2 k.toNat / m)
      (r, r * r * m != pow2 k.toNat)

/-- The rounded number of grid steps (08 R296 to R299); u is r[63:40] of the generator. -/
def roundUnits (rnd : Rnd) (u : Nat) (a : Nat × Bool) : Nat :=
  let lo := a.1 / pow2 24
  let phi := a.1 % pow2 24
  if phi == 0 && !a.2 then lo
  else match rnd with
    | .rtz => lo
    | .sr => if u < phi then lo + 1 else lo
    | .rne =>
      if phi > pow2 23 then lo + 1
      else if phi == pow2 23 && (a.2 || lo % 2 == 1) then lo + 1
      else lo

/-- The exponent of the grid step at a magnitude (08 R296); p trailing bits, least exponent qmin. -/
def gridStep (p : Nat) (qmin : Int) (g : Mag) : Int :=
  if magIsZero g then qmin else max (magLog g - (p : Int)) qmin

/-- The code (exponent field and trailing significand together) of units * 2^q, on the grid that goes on
above the largest finite value. -/
def codeOf (p bias units : Nat) (q : Int) : Nat :=
  if units < pow2 p then units
  else (q + (p : Int) + (bias : Int)).toNat * pow2 p + (units - pow2 p)

/-- The unsigned code of a magnitude rounded to a floating format, without an upper limit (08 R296). -/
def roundCode (f : Nat) (rnd : Rnd) (u : Nat) (g : Mag) : Nat :=
  let p := fmtSig f
  let qmin := 1 - (fmtBias f : Int) - (p : Int)
  let q := gridStep p qmin g
  codeOf p (fmtBias f) (roundUnits rnd u (magAt q g)) q

/-! ## Conversion (08 R301 to R303, Table NUM-3) -/

def signBit (f : Nat) (s : Bool) : Nat := if s then pow2 (fmtWidth f - 1) else 0

/-- Conversion into a format other than MXF4 (08 R301, R302, Table NUM-3). -/
def convert (f : Nat) (sat : Bool) (rnd : Rnd) (u : Nat) (x : Res) : Nat :=
  if fmtIsInt f then
    let hi := fmtMax f
    let lim (s : Bool) (n : Nat) : Nat :=
      if s then (if n > hi + 1 then hi + 1 else (pow2 (fmtWidth f) - n) % pow2 (fmtWidth f))
      else if n > hi then hi else n
    match x with
    | .nan => 0
    | .inf s => if s then hi + 1 else hi
    | .num s g => lim s (roundUnits rnd u (magAt 0 g))
  else
    match x with
    | .nan => fmtNaN f
    | .inf s =>
      if f == 3 then (if sat then signBit f s + fmtMax f else fmtNaN f)
      else if f == 4 && sat then signBit f s + fmtMax f
      else signBit f s + fmtInf f
    | .num s g =>
      let c := roundCode f rnd u g
      if c ≤ fmtMax f then signBit f s + c
      else if f == 3 || f == 4 then (if sat then signBit f s + fmtMax f else fmtNaN f)
      else if rnd = .rtz then signBit f s + fmtMax f
      else signBit f s + fmtInf f

/-- Rounding to binary32 by RNE (08 R314). -/
def rne32 (v : Val) : Nat := convert 0 false .rne 0 (resOf v)

/-- The E2M1 code of a finite scaled result, saturating at 6 (08 R303). -/
def convertE2M1 (rnd : Rnd) (u : Nat) (s : Bool) (g : Mag) : Nat :=
  let c := roundCode 5 rnd u g
  signBit 5 s + min c 7

/-- A magnitude times 2^k. -/
def magScale (k : Int) : Mag → Mag
  | .dy m e => .dy m (e + k)
  | .appr m e => .appr m (e + k)
  | .rcp m e => .rcp m (e - k)
  | .rsq m e => .rsq m (e - 2 * k)

/-- The largest floor(log2 |x|) among the nonzero finite results of a block; none if all are zero. -/
def blockLog : List Res → Option Int
  | [] => none
  | r :: rs =>
    match r, blockLog rs with
    | .num _ g, none => if magIsZero g then none else some (magLog g)
    | .num _ g, some l => if magIsZero g then some l else some (max (magLog g) l)
    | _, o => o

def resFinite : Res → Bool
  | .num _ _ => true
  | _ => false

/-- The scale byte of an MXF4 block from its in-bounds results (08 R291, R303). -/
def mxScale (rs : List Res) : Nat :=
  if rs.all resFinite then
    match blockLog rs with
    | none => 0
    | some l => (max (-127) (min 127 (l - 2)) + 127).toNat
  else 255

/-- The code of one in-bounds element of an MXF4 block under its scale byte (08 R303). -/
def mxCode (scale : Nat) (rnd : Rnd) (u : Nat) : Res → Nat
  | .num s g => if scale == 255 then 0 else convertE2M1 rnd u s (magScale (127 - (scale : Int)) g)
  | _ => 0

/-! ## The generator and the digest term (08 R304; 10 R379) -/

def mask64 (n : Nat) : Nat := n % pow2 64

def mix64 (z0 : Nat) : Nat :=
  let z1 := mask64 (Nat.xor z0 (z0 >>> 32) * 0xA3B195D42F6C8E17)
  let z2 := mask64 (Nat.xor z1 (z1 >>> 29) * 0xC2E94B7F1D63A5B9)
  Nat.xor z2 (z2 >>> 32)

/-- 08 R304. -/
def rg (s t d i : Nat) : Nat :=
  let key := mix64 (mask64 (s + (t * 256 + d) * 0x9E3779B97F4A7C15))
  mix64 (Nat.xor key i)

/-- 08 R299: u = r[63:40]. -/
def srU (r : Nat) : Nat := (r >>> 40) % pow2 24

/-- 10 R379. -/
def dmix (t i f v : Nat) : Nat :=
  let a := mix64 (Nat.xor i (mask64 (t * 0x6A1D93F5C27B0E4D)))
  mix64 (mask64 (a + (f * pow2 32 + v) * 0xE5C31A974D28B6F1))

/-! ## The functions of 10 Table INV-4 -/

/-- Working precision of the two irrational functions, in bits after the point. -/
def fnBits : Nat := 320

/-- One + x + x²/2! + … of a fixed-point x, by n further terms after the term t. -/
def expGo (x : Nat) : Nat → Nat → Nat → Nat → Nat
  | 0, _, _, acc => acc
  | n + 1, k, t, acc =>
    let t' := (t * x) >>> fnBits
    let t'' := t' / k
    expGo x n (k + 1) t'' (acc + t'')

/-- Sum of z^(2k+1)/(2k+1), the series of artanh, fixed point. -/
def atanhGo (zz : Nat) : Nat → Nat → Nat → Nat → Nat
  | 0, _, _, acc => acc
  | n + 1, k, t, acc => atanhGo zz n (k + 2) ((t * zz) >>> fnBits) (acc + t / k)

/-- ln((a)/(b)) for 1 ≤ a/b < 2, fixed point: 2 artanh((a-b)/(a+b)). -/
def lnRatio (a b : Nat) : Nat :=
  let z := ((a - b) <<< fnBits) / (a + b)
  2 * atanhGo ((z * z) >>> fnBits) 110 1 z 0

/-- ln 2, fixed point. -/
def ln2 : Nat := lnRatio (pow2 1) 1

/-- 2^f for a fraction f given as n / 2^d, fixed point in [1, 2). -/
def exp2Frac (n d : Nat) : Nat :=
  let f := if d ≤ fnBits then n <<< (fnBits - d) else n >>> (d - fnBits)
  let x := (f * ln2) >>> fnBits
  expGo x 90 1 (pow2 fnBits) (pow2 fnBits)

/-- 2^a of a finite value (10 R365, R367): exact at integers, otherwise irrational.
Arguments beyond 4,096 in magnitude are taken at 4,096, past every format's range in both directions. -/
def fnExp2 (s : Bool) (m : Nat) (e : Int) : Mag :=
  if m == 0 then .dy 1 0
  else if 0 ≤ e || m % pow2 (-e).toNat == 0 then
    let n := if 0 ≤ e then (if e > 13 then 4096 else min 4096 (m <<< e.toNat)) else min 4096 (m >>> (-e).toNat)
    if s then .dy 1 (-(n : Int)) else .dy 1 n
  else
    let d := (-e).toNat
    let i := m >>> d
    let r := m % pow2 d
    if i ≥ 4096 then (if s then .appr 1 (-4098) else .appr 1 4096)
    else if s then .appr (exp2Frac (pow2 d - r) d) (-(fnBits : Int) - (i : Int) - 1)
    else .appr (exp2Frac r d) (-(fnBits : Int) + (i : Int))

/-- log2 of a positive finite value (10 R365, R367): exact at powers of two, otherwise irrational. -/
def fnLog2 (m : Nat) (e : Int) : Bool × Mag :=
  let k := Nat.log2 m
  let i := (k : Int) + e
  if isPow2 m then (decide (i < 0), .dy i.natAbs 0)
  else
    let fr := ((lnRatio m (pow2 k)) <<< fnBits) / ln2
    if 0 ≤ i then (false, .appr (i.toNat * pow2 fnBits + fr) (-(fnBits : Int)))
    else (true, .appr (i.natAbs * pow2 fnBits - fr - 1) (-(fnBits : Int)))

/-- VEXP (10 Table INV-4). -/
def resExp : Val → Res
  | .nan => .nan
  | .inf s => if s then .num false (.dy 0 0) else .inf false
  | .fin s m e => .num false (fnExp2 s m e)

/-- VLOG (10 Table INV-4). -/
def resLog : Val → Res
  | .nan => .nan
  | .inf s => if s then .nan else .inf false
  | .fin s m e =>
    if m == 0 then .inf true
    else if s then .nan
    else
      let r := fnLog2 m e
      .num r.1 r.2

/-- VRCP (10 Table INV-4). -/
def resRcp : Val → Res
  | .nan => .nan
  | .inf s => .num s (.dy 0 0)
  | .fin s m e => if m == 0 then .inf s else .num s (.rcp m e)

/-- VRSQ (10 Table INV-4). -/
def resRsq : Val → Res
  | .nan => .nan
  | .inf s => if s then .nan else .num false (.dy 0 0)
  | .fin s m e =>
    if m == 0 then .inf s
    else if s then .nan
    else .num false (.rsq m e)

/-! ## VCMP and VSROUND -/

/-- 10 R370: the conditions 0 EQ, 1 NE, 2 LT, 3 LE, 4 GT, 5 GE. -/
def valCond (cond : Nat) (a b : Val) : Bool :=
  if valIsNaN a || valIsNaN b then cond == 1
  else
    let d := valCmp a b
    match cond with
    | 0 => d == 0
    | 1 => d != 0
    | 2 => decide (d < 0)
    | 3 => decide (d ≤ 0)
    | 4 => decide (d > 0)
    | _ => decide (d ≥ 0)

/-- 10 R378: SR onto the grid of values whose trailing significand keeps its KEEP top bits; the result is
an encoding of the format. -/
def vsround (f keep u : Nat) (v : Val) : Nat :=
  match v with
  | .nan => fmtNaN f
  | .inf s => signBit f s + fmtInf f
  | .fin s m e =>
    if m == 0 then signBit f s
    else
      let p := fmtSig f
      let drop := p - keep
      let qmin := 1 - (fmtBias f : Int) - (p : Int)
      let g := Mag.dy m e
      let q := gridStep p qmin g + (drop : Int)
      let units := roundUnits .sr u (magAt q g)
      let c := roundCode f .rne 0 (.dy units q)
      if c ≤ fmtMax f then signBit f s + c else signBit f s + fmtInf f

/-! ## The fixed summation tree (08 R319) -/

/-- Largest power of two below n, for n ≥ 2. -/
def treeSplit (n : Nat) : Nat := pow2 (Nat.log2 (n - 1))

/-- canon() of 08 R319 over the first n values of a list, by fuel on the depth. -/
def canonGo : Nat → Nat → List Val → Val
  | 0, _, vs => vs.headD (.fin false 0 0)
  | k + 1, n, vs =>
    if n ≤ 1 then vs.headD (.fin false 0 0)
    else
      let m := treeSplit n
      decodeVal 0 (rne32 (valAdd (canonGo k m (vs.take m)) (canonGo k (n - m) (vs.drop m))))

def canon (vs : List Val) : Val := canonGo 33 vs.length vs

/-- Exact sum of a list; an exact zero is -0 only when every term is -0 (08 R300, R317). -/
def valSum (vs : List Val) : Val :=
  match vs with
  | [] => .fin false 0 0
  | v :: rest => rest.foldl valAdd v

end Sys2Proof.Machine
end

