-- ==== Sys2Proof/Machine/StateCluster.lean ====
section
/-!
DEFINITION. The state of a cluster (07 Table CLU-2, R243 to R285).
-/
namespace Sys2Proof.Machine

/-- An exact-class element: the 96-bit sum and its three flags (08 R310). -/
structure ExElem where
  a : BitVec 96 := 0
  nan : Bool := false
  pos : Bool := false
  neg : Bool := false
  deriving DecidableEq, Repr

/-- The CLASS tag of an accumulator tile (07 R261). -/
inductive AccClass where
  | unset
  | exact
  | ordered
  deriving DecidableEq, Repr

/-- An accumulator tile of 64 x 64 elements, numbered 64 * row + column; an element not listed is zero. -/
structure AccTile where
  cls : AccClass := .unset
  ex : Tab ExElem := []
  od : Tab W32 := []
  deriving DecidableEq, Repr

/-- An edge mask (07 R259). -/
structure EdgeMask where
  row : Nat := 256
  col : Nat := 256
  deriving DecidableEq, Repr

/-- A loop-stack entry: iterations left, first body bundle, bundle of the matching ENDLOOP (07 R273). -/
structure LoopEnt where
  count : Nat
  body : Nat
  endIx : Nat
  deriving DecidableEq, Repr

/-- A flit payload in a launch slot; stamp is the fabric tick of the last fabric edge at or before its write,
none until it is written (07 R266, R267). -/
structure Payload where
  data : Line
  poison : Bool
  stamp : Option Nat
  deriving DecidableEq, Repr

/-- A filled launch slot: the header of 07 R266, the payloads written so far, the next flit to depart. -/
structure LaunchHdr where
  lap : Nat
  tick : Nat
  n : Nat
  tag : BitVec 10
  stamp : Nat
  payloads : List Payload
  next : Nat
  accepted : Bool
  deriving DecidableEq, Repr

/-- A launch slot: free from island edge freeAt, promised to a LAUNCH, or filled (07 R266 to R270). -/
inductive LaunchSlot where
  | free (freeAt : Nat)
  | taken
  | filled (h : LaunchHdr)
  deriving DecidableEq, Repr

/-- A landing-buffer entry (04 Table FAB-8); tick and cyc say when the fabric wrote it and at which island
edge that was, for readability under 02 R60. -/
structure LbEntry where
  full : Bool := false
  lap : Nat := 0
  poison : Bool := false
  tag : BitVec 10 := 0
  data : Line := 0
  tick : Nat := 0
  cyc : Nat := 0
  deriving DecidableEq, Repr

/-- A snapshot in the digest slot (07 R264). -/
structure Snap where
  dig : W64
  layer : BitVec 16
  stamp : Nat
  deriving DecidableEq, Repr

/-- Items that carry a pending mark (07 R250). -/
inductive PendItem where
  | scalar (i : Nat)
  | desc (i : Nat)
  | mask (i : Nat)
  | acc (i : Nat)
  | dig
  deriving DecidableEq, Repr

/-- A descriptor captured at issue, with the limits of the edge mask it names. -/
structure Tile where
  desc : W64
  rowLim : Nat
  colLim : Nat
  deriving DecidableEq, Repr

/-- What an issued instruction still has to do in a cycle (09 Table INM-2, Table INM-3). -/
inductive Micro where
  /-- Read stream line j of source src, at a pane line, through the instruction port. -/
  | read (src j line : Nat)
  /-- Write stream line j of the destination, at a pane line, through the instruction port. -/
  | write (j line : Nat)
  | sget (off : Nat)
  | sput (off val : Nat)
  /-- LAND examines an entry of a buffer. -/
  | exam (i buf entry : Nat)
  /-- LAND with NOWRITE clears an entry. -/
  | clear (buf entry : Nat)
  /-- The launch header and payload 0, or a later payload, reaches the launch slot. -/
  | payload (i : Nat)
  /-- A column request is written into the queue. -/
  | request (j : Nat) (word : W64)
  /-- The latency has elapsed: accumulators, DIG or a scalar take their value. -/
  | done
  | setS (i : Nat) (v : W32)
  | setD (i : Nat) (v : W64)
  | setM (i row col : Nat)
  deriving DecidableEq, Repr

/-- The instruction a task carries out. -/
inductive TOp where
  | m (s : MSlot)
  | v (s : VSlot)
  | x (s : XSlot)
  | c
  deriving DecidableEq, Repr

/-- A line held by an issued instruction: source, stream line, data, poison of its eight words. -/
structure Held where
  src : Nat
  j : Nat
  data : Line
  poison : Byte
  deriving DecidableEq, Repr

/-- An issued instruction with cycles still to come: its captured operands (07 R249) and what it has read. -/
structure Task where
  op : TOp
  tiles : List Tile
  seed : Nat := 0
  tid : Nat := 0
  i0 : Nat := 0
  pitch : Nat := 0
  s1 : Nat := 0
  s2 : Nat := 0
  accs : List AccTile := []
  held : List Held := []
  todo : List (Nat × Micro)
  deriving DecidableEq, Repr

/-- What the sequencer is doing (07 R246, R252, R279, R282 to R284). -/
inductive Run where
  | idle
  /-- Armed by the firmware; the first bundle waits for tick 0 of the launch wheel (R283). -/
  | armed
  | running
  /-- The bundle at pc holds a WAITTICK with this target. -/
  | waitTick (lap tick : Nat)
  /-- The bundle at pc holds a WAITCYC that ends at this cycle. -/
  | waitCyc (till : Nat)
  | halted
  | faulted
  | stopped
  deriving DecidableEq, Repr

/-- What the check bits of a protected unit say of it (06 R232 to R235). -/
inductive EccKind where
  | ok
  | corr
  | uncorr
  | poison
  deriving DecidableEq, Repr

/-- A pane line as it was before the fill port wrote it in a cycle: stored data and the syndrome of each word. -/
structure PaneOld where
  cyc : Nat
  line : Nat
  data : Line
  checks : List Nat
  deriving DecidableEq, Repr

/-- One cluster. -/
structure Cluster where
  store : Tab BundleWord := []
  /-- Syndrome of 64-bit slot 4 * bundle + slot of the store (R245); absent means valid check bits. -/
  storeEcc : Tab Nat := []
  /-- Slots 4 * bundle + slot whose cells hold an uncorrectable error however they are written (12 R440). -/
  storeBad : List Nat := []
  bundleCount : Nat := 0
  s : Tab W32 := []
  d : Tab W64 := []
  m : Tab EdgeMask := []
  acc : Tab AccTile := []
  loops : List LoopEnt := []
  wcur : Nat := 0
  dig : W64 := 0
  snaps : List Snap := []
  ls : Tab LaunchSlot := []
  lb : Tab LbEntry := []
  pc : Nat := 0
  run : Run := .idle
  cyc : Nat := 0
  busyM : Nat := 0
  busyV : Nat := 0
  busyX : Nat := 0
  pend : List (PendItem × Nat) := []
  tasks : List Task := []
  /-- Fill-port writes of the present cycle and, by board access, of later ones (06 R206). -/
  fills : List PaneOld := []
  /-- Tick view and the synchroniser stage before it (07 R276, R277); LAP and TICK. -/
  tv : Nat × Nat := (0, 0)
  tv1 : Nat × Nat := (0, 0)
  tv2 : Nat × Nat := (0, 0)
  /-- Whether crossed marks are observed at the third reader edge, not the second (02 R61). -/
  syncLate : Bool := false
  /-- The tick view is held by a suspension (14 R501). -/
  tvHeld : Bool := false
  /-- The bundle a wait holds (07 R279, R282). -/
  held : Bundle := {}
  powered : Bool := true
  bstoreEccCorr : Nat := 0
  lsLate : Nat := 0
  lsOverrun : Nat := 0
  waitLate : Nat := 0
  digOverflow : Nat := 0
  deriving DecidableEq, Repr

end Sys2Proof.Machine
end

