-- ==== Sys2Proof/Machine/StateFabric.lean ====
section
/-!
DEFINITION. The state of clocks, wheel, span, switches, links and memory tiers (02 to 06).
-/
namespace Sys2Proof.Machine

/-! ## Clocks (02) -/

/-- A fabric, control or column PLL (02 R69 to R71). -/
structure Pll where
  locked : Bool := false
  ungated : Bool := false
  /-- REFCLK cycle at which lock was confirmed (R70). -/
  lockedAt : Nat := 0
  deriving DecidableEq, Repr

/-- An island oscillator and its THERMAL and POWER fields (02 R45 to R59; 23 Table REG-12). -/
structure Island where
  setpoint : Nat := 256
  current : Nat := 0
  limit : Nat := 304
  refused : Bool := false
  stretch : Nat := 0
  droop : Bool := false
  supplyOn : Bool := true
  supplyGood : Bool := false
  oscOn : Bool := false
  /-- Fabric tick at which the supply was reported good (R59). -/
  goodAt : Nat := 0
  /-- Signed trim of the delay line against the current code, in fine steps (R49). -/
  trim : Int := 0
  /-- Fabric tick at which the present tracking window began (R49). -/
  window : Nat := 0
  /-- Fabric tick of the last slew step (R56). -/
  slewAt : Nat := 0
  deriving DecidableEq, Repr

/-- 02 Table CLK-1, Table CLK-2: the fabric PLL is 0, the control PLL 1, the column PLLs 2 to 5. -/
structure Clk where
  /-- The latest REFCLK cycle reached since relock started (R69). -/
  refclk : Nat := 0
  pll : Tab Pll := []
  isl : Tab Island := []
  deriving DecidableEq, Repr

/-! ## Wheel and span (03) -/

/-- SYNC modes (03 R99). -/
inductive SyncMode where
  | off
  | source
  | sink
  deriving DecidableEq, Repr

/-- The wheel counter (03 R75 to R88). now and start are absolute fabric ticks. -/
structure Wheel where
  running : Bool := false
  w : Nat := 8192
  g : Nat := 16
  /-- Number of the counted wheel in force, or the last one during its guard and a slipped wheel. -/
  n : Nat := 0
  /-- Tick 0 of the wheel that turns now, counted or slipped. -/
  start : Nat := 0
  /-- The latest fabric tick reached. -/
  now : Nat := 0
  slip : Bool := false
  guardLast : Nat := 16
  /-- The guard chosen for the wheel that turns now (R95). -/
  guardNext : Option Nat := none
  /-- Phases of this wheel already started. -/
  phase : Nat := 0
  syncMode : SyncMode := .off
  syncDelay : Nat := 0
  syncLost : Bool := false
  syncDisagree : Bool := false
  syncMissed : Nat := 0
  syncOff : Nat := 0
  syncSeen : Bool := false
  /-- Tick at which a SYNC_IN edge places tick 0 (R101). -/
  syncStart : Option Nat := none
  /-- FORMING_STRETCHES (R104). -/
  stretches : Nat := 0
  deriving DecidableEq, Repr

inductive SpanState where
  | locked
  | forming
  | slipping
  | halted
  deriving DecidableEq, Repr

/-- A span member in the span file: rank, chip serial and its links (local link, far rank, far link). -/
structure SpanRank where
  serial : W64
  links : List (Nat × Nat × Nat)
  deriving DecidableEq, Repr

/-- A wheel marker's content (03 Table WHL-2). -/
structure Marker where
  kind : Nat := 1
  origin : Nat := 0
  sender : Nat := 0
  hops : Nat := 1
  slip : Bool := false
  slipReq : Bool := false
  locked : Bool := false
  limit : Bool := false
  forming : Bool := false
  originGc : Nat := 0
  age : Nat := 0
  slipCount : Nat := 0
  window : Nat := 0
  successor : Nat := 0
  formGc : Nat := 0
  eventGc : Nat := 0
  /-- Whether any reserved bit is set. -/
  reserved : Bool := false
  deriving DecidableEq, Repr

/-- A kept marker: the link it came on, the arrival tick in 1/16 t. -/
structure Kept where
  marker : Marker
  link : Nat
  at16 : Nat
  deriving DecidableEq, Repr

/-- The span as this chip holds it (03 R90 to R116; 23 Table REG-9). -/
structure Span where
  state : SpanState := .locked
  /-- In a span of more than one chip. -/
  joined : Bool := false
  ranks : List SpanRank := []
  ownRank : Nat := 0xFFFF
  masterRank : Nat := 0xFFFF
  successor : Nat := 0xFFFF
  d : Nat := 0
  slipLimit : Nat := 16
  slipsWindow : Nat := 0
  window : Nat := 0
  slipsTotal : Nat := 0
  errors : Nat := 0
  kept : Option Kept := none
  /-- Start of the master's next counted wheel as predicted from markers, in 1/16 t of this chip. -/
  predict16 : Option Nat := none
  /-- Fine rate of the master against this chip, in parts of 2^32 (03 R95). -/
  rate : Int := 0
  lastA : Int := 0
  newMaster : Bool := false
  newAny : Bool := false
  missedMaster : Nat := 0
  missedAll : Nat := 0
  formWheels : Nat := 0
  aligned : Nat := 0
  formGc : Nat := 0
  /-- A slip is to follow each counted wheel that starts at one of these counts (R112). -/
  slipAt : List Nat := []
  /-- Counted wheels after which slips were inserted, latest first. -/
  slipPast : List Nat := []
  /-- Origin count and local time in 1/16 t of the last marker's sending, for the rate (R95). -/
  lastSend : Option (Nat × Int) := none
  /-- Ranks no longer live (R91, R109). -/
  dead : List Nat := []
  /-- An accepted SPAN_JOIN makes the chip FORMING at the next wheel boundary (R103). -/
  toForm : Bool := false
  /-- The SPAN_JOIN in progress. -/
  joinCmd : Option Nat := none
  limitAt : Option Nat := none
  limitDone : Bool := false
  /-- The span halts at the next boundary (R97, R193). -/
  halting : Bool := false
  /-- That boundary has come (R103). -/
  haltDue : Bool := false
  slipReq : Bool := false
  /-- SLIP_REQ is kept on the copies this member forwards (R112). -/
  slipFwd : Bool := false
  /-- Requests held at the last PHASE_63, which the markers of that phase carry. -/
  slipOut : Bool := false
  /-- At the master: the members have reported, and its next marker marks LOCKED (R103). -/
  lockMark : Bool := false
  /-- The own wheel after which the span is LOCKED, and the count in force and the span count of that boundary (R105). -/
  lockAt : Option Nat := none
  stepFrom : Nat := 0
  stepTo : Nat := 0
  stretched : Bool := false
  /-- Ranks whose own copies of a marker arrived in this wheel, and wheels in a row without one of each neighbour (R91). -/
  heard : List Nat := []
  silent : Tab Nat := []
  deriving DecidableEq, Repr

/-! ## Fabric (04) -/

/-- A flit: 64 bytes of payload and the sideband of 04 Table FAB-4. -/
structure Flit where
  data : Line
  ten : BitVec 6
  tag : BitVec 10
  late : Bool := false
  poison : Bool := false
  ecc : BitVec 14
  deriving DecidableEq, Repr

/-- Where a flit in flight arrives. -/
inductive Dest where
  | swIn (isl port : Nat)
  | landing (cl : Nat)
  | shelf (quad port : Nat)
  | dma (engine : Nat)
  | bsu (unit : Nat)
  | ctl (isl : Nat)
  | linkTx (lnk : Nat)
  deriving DecidableEq, Repr

/-- A flit in flight: its destination, the tick it is there, and its last switch tick. -/
structure Flight where
  dest : Dest
  due : Nat
  sw : Nat
  flit : Flit
  deriving DecidableEq, Repr

/-- A phase-table entry (04 R134). OWNER 62 is an unowned phase, 63 the device. -/
structure PhaseEnt where
  base : Nat := 0
  len : Nat := 0
  owner : Nat := 62
  deriving DecidableEq, Repr

/-- The counters of 04 Table FAB-9, kept for each port of a switch. -/
structure FabCtr where
  eccCorr : Nat := 0
  eccUncorr : Nat := 0
  tagMismatch : Nat := 0
  lbOverwrite : Nat := 0
  voidRx : Nat := 0
  voidMade : Nat := 0
  unrouted : Nat := 0
  darkDrop : Nat := 0
  deriving DecidableEq, Repr

/-- Switches, shelf port programs and flits in flight (04 R134; 06 R226). -/
structure Fab where
  flits : List Flight := []
  /-- Route words, island * 65,536 + index. -/
  route : Tab W64 := []
  /-- Phase tables, island * 64 + phase. -/
  phase : Tab PhaseEnt := []
  /-- Shelf words, (quadrant * 8 + port) * 4,096 + index. -/
  shelfProg : Tab W64 := []
  /-- Shelf phase tables, (quadrant * 8 + port) * 64 + phase. -/
  shelfPhase : Tab PhaseEnt := []
  /-- ECC state of route words, shelf words and phase entries, by the device address of 23 Table REG-2. -/
  tableEcc : Tab EccKind := []
  /-- Route words, by island * 65,536 + address, whose cells hold an uncorrectable error however they are written: what a
  load finds as it writes them (12 R440). -/
  routeBad : List Nat := []
  /-- Entries and words with an error already used in a wheel: by address, one more than the wheel's first tick (21 R717). -/
  tabUsed : Tab Nat := []
  clCtr : Tab FabCtr := []
  /-- Endpoint counters of service and shelf ports, by island * 32 + port. -/
  portCtr : Tab FabCtr := []
  /-- TABLE_ECC_CORR and TABLE_ECC_UNCORR of switches 0-31, shelf ports 32-63, links 64-79 (21 R717). -/
  tabCorr : Tab Nat := []
  tabUncorr : Tab Nat := []
  deriving DecidableEq, Repr

/-! ## Links (05) -/

inductive LinkState where
  | off
  | detect
  | equalise
  | align
  | measure
  | confirm
  | ready
  | lost
  deriving DecidableEq, Repr

/-- A frame of tenant flits in the replay store: FRAME_INDEX, GC of its first tick, its slots. -/
structure Frame where
  index : Nat
  gc : Nat
  slots : Tab Flit
  deriving DecidableEq, Repr

/-- A release-store entry: its transmit count, its flit, and the poison mark of 05 R186. -/
structure RelEntry where
  gc : Nat
  flit : Option Flit
  marked : Bool
  deriving DecidableEq, Repr

/-- The counters of 05 Table LNK-8. -/
structure LinkCtr where
  framesCorr : Nat := 0
  symbolsCorr : Nat := 0
  framesUncorr : Nat := 0
  flitEccCorr : Nat := 0
  replaysSent : Nat := 0
  replaysReceived : Nat := 0
  unrepaired : Nat := 0
  slipRequests : Nat := 0
  absentRx : Nat := 0
  laneDrop : Nat := 0
  losses : Nat := 0
  /-- Flits discarded at a full receive queue (02 R65). -/
  rxDiscard : Nat := 0
  deriving DecidableEq, Repr

/-- A flit in a link's receive queue (02 Table CLK-4): the tick it was written, its transmit count, and whether its frame was
uncorrectable. -/
structure RxEntry where
  at_ : Nat
  gc : Nat
  flit : Flit
  bad : Bool
  deriving DecidableEq, Repr

/-- A reserve slot of the wheel: its first tick, the tenancy that declared it, used in this wheel. -/
structure Reserve where
  tick : Nat
  ten : Nat
  used : Bool
  deriving DecidableEq, Repr

/-- One Indigo link (05 R170 to R196). -/
structure Link where
  state : LinkState := .off
  entered : Nat := 0
  disabled : Bool := false
  widthLimit : Nat := 8
  lanesOk : BitVec 8 := 0
  width : Nat := 0
  /-- Physical transmit lane of each logical lane, 3 bits each (05 R172, Table LNK-5). -/
  laneMap : BitVec 24 := 0
  /-- Physical receive lane that carries each logical lane, and the receive lanes whose P and N are exchanged: both found in
  training (05 Table LNK-1). -/
  rxOrder : BitVec 24 := 0
  rxInvert : BitVec 8 := 0
  f : Nat := 0
  fFine : Nat := 0
  long : Bool := false
  peerSerial : W64 := 0
  peerLink : Nat := 0
  preset : Nat := 5
  precode : Bool := true
  replay : List Frame := []
  /-- Indices of frames with tenant flits that have left the replay store (R181, R187). -/
  gone : List Nat := []
  /-- NAKs received and not yet served: FRAME_INDEX and the reserve slot that will carry the replay. -/
  nakRx : List (Nat × Nat) := []
  /-- Frame indices of NAKs already taken in this wheel (R185). -/
  replayed : List Nat := []
  /-- Reserve frames sent: reserve FRAME_INDEX and the frame it carried (R185). -/
  carried : List (Nat × Nat) := []
  /-- NAKs to send and the copies left of each (R183). -/
  nakTx : List (Nat × Nat) := []
  absentTx : List (Nat × Nat) := []
  release : Tab RelEntry := []
  /-- Written release offsets by phase (R177); an entry not listed is not written. -/
  lambda : Tab Nat := []
  reserve : List Reserve := []
  uncorrRun : Nat := 0
  /-- Wheel markers received and not yet examined. -/
  markers : List Line := []
  /-- A TRAIN frame or an ABORT has arrived in READY (R193). -/
  trainSeen : Bool := false
  /-- Frames with ABORT still to be sent (R194). -/
  aborting : Nat := 0
  /-- The PROBE_T received last and its arrival time, in 1/16 t. -/
  echo : Option (Nat × Nat) := none
  /-- Correctable TRAIN frames in a row in ALIGN (R170), and the training record received last (R171). -/
  alignRun : Nat := 0
  peerRec : Option Line := none
  /-- Round trips of the probes answered in MEASURE, in 1/16 t (R173). -/
  rtts : List Nat := []
  /-- Frames received in CONFIRM, and the symbols corrected in them; an uncorrectable frame has come (R170). -/
  confirmFrames : Nat := 0
  confirmSyms : Nat := 0
  confirmBad : Bool := false
  /-- The receive queue of 32 flits (02 Table CLK-4). -/
  rxQ : List RxEntry := []
  ctr : LinkCtr := {}
  deriving DecidableEq, Repr

/-! ## Memory tiers (06) -/

/-- A column request (06 Table MEM-4) with its mask in nibbles and the column edge of its write. -/
structure ReqEntry where
  word : W64
  mask : BitVec 128
  data : Line
  poison : Bool
  stamp : Nat
  ecc : EccKind
  deriving DecidableEq, Repr

/-- A column read in flight: the column edge of its slot, and what it carries (06 R215). -/
structure ColRd where
  slotM : Nat
  line : Nat
  mask : BitVec 128
  data : Line
  poison : Bool
  deriving DecidableEq, Repr

/-- An entry of the column-to-island queue, with the island edge of its write. -/
structure FillEntry where
  line : Nat
  mask : BitVec 128
  data : Line
  poison : Bool
  cyc : Nat
  deriving DecidableEq, Repr

/-- Counters of a cluster's pane and column (06 Table MEM-7). -/
structure MemCtr where
  paneCorr : Nat := 0
  paneUncorr : Nat := 0
  paneClash : Nat := 0
  paneStored : Nat := 0
  colCorr : Nat := 0
  colUncorr : Nat := 0
  colOdecc : Nat := 0
  colLate : Nat := 0
  colBusy : Nat := 0
  colDiscard : Nat := 0
  /-- Overflow counter of the column-to-island queue (02 R65). -/
  fillDiscard : Nat := 0
  colStored : Nat := 0
  deriving DecidableEq, Repr

/-- Counters of a quadrant's shelf (06 Table MEM-7). -/
structure ShelfCtr where
  corr : Nat := 0
  uncorr : Nat := 0
  stored : Nat := 0
  deriving DecidableEq, Repr

/-- First uncorrectable error of a tier unit since the log was read (06 R238). -/
structure ErrLog where
  addr : Nat
  ten : Nat
  kind : Nat
  deriving DecidableEq, Repr

/-- A shelf line as it was before a write of a tick: a read in that tick returns it (06 R229). -/
structure ShelfOld where
  tick : Nat
  addr : Nat
  data : Line
  checks : List Nat
  deriving DecidableEq, Repr

/-- Panes, columns and shelves (06). -/
structure Mem where
  cells : List Host.Cell := []
  /-- By the device address of a unit of protection, its stored check bits exclusive-OR those its stored data asks
  for: the syndrome a read finds (06 R232). Absent means valid check bits; all ones is stored poison (R234). -/
  ecc : Tab Nat := []
  /-- Bits of a column line, by its device address, that the on-die ECC corrects when the arrays are read (06 R232). -/
  odEcc : Tab Nat := []
  refRow : Tab Nat := []
  /-- Column edge of the last performed access, cluster * 64 + bank. -/
  bankLast : Tab Nat := []
  colQ : Tab (List ReqEntry) := []
  colRd : Tab (List ColRd) := []
  fillQ : Tab (List FillEntry) := []
  /-- Latest column edge of a quadrant. -/
  mNow : Tab Nat := []
  /-- Column edge at which a column observed a phase-start mark: the mark's fabric tick, and e_p (06 R209). -/
  colMark : Tab (Nat × Nat) := []
  /-- A column's last refresh burst: the fabric tick of its mark, and the edge it began at (06 R221). -/
  burst : Tab (Nat × Nat) := []
  ctr : Tab MemCtr := []
  shelfCtr : Tab ShelfCtr := []
  shelfUnwritten : Tab Nat := []
  /-- Lines written in the latest tick in which a shelf was written, as they were before (06 R229). -/
  shelfOld : List ShelfOld := []
  /-- Panes 0-511, columns 512-1,023, shelves 1,024-1,027. -/
  log : Tab ErrLog := []
  /-- Hardware initialisation of R676 has finished. -/
  initDone : Bool := false
  deriving DecidableEq, Repr

end Sys2Proof.Machine
end

