-- ==== Sys2Proof/Machine/StateHost.lean ====
section
/-!
DEFINITION. The state of tenancies, grants, rings, cores, engines, timers, power and board (11 to 23).
-/
namespace Sys2Proof.Machine

/-! ## Tenancies (12, 14, 16) -/

/-- Tenancy states (14 Table TEN-3), in the order of 15 Table CMD-7. -/
inductive TenState where
  | vacant
  | staged
  | loaded
  | armed
  | running
  | suspended
  | faulted
  | draining
  deriving DecidableEq, Repr

/-- A route or shelf segment placed by IMAGE_LOAD: its bucket, or 255 for all; its phase-table index
(64 * island + phase, or 64 * (8 * quadrant + port) + phase); base and length (12 R418, R438, R439). -/
structure Placed where
  bucket : Nat
  ix : Nat
  base : Nat
  len : Nat
  deriving DecidableEq, Repr

/-- A launch state of a physical cluster: bucket or 255, s0 to s23 and d0 to d15 (12 R422). -/
structure InitState where
  bucket : Nat
  cl : Nat
  s : List Nat
  d : List Nat
  deriving DecidableEq, Repr

/-- What an image binds of a link: link, width, F_c, A_rep by phase, reserve ticks (12 R431, Table IMG-4). -/
structure Bound where
  link : Nat
  width : Nat
  fc : Nat
  arep : List Nat
  reserve : List Nat
  deriving DecidableEq, Repr

/-- What IMAGE_LOAD left in force for a tenancy (12 R416 to R442). -/
structure Loaded where
  id : Nat := 0
  floor : Nat := 0
  canonical : Bool := false
  shapeBound : Bool := false
  numBuckets : Nat := 1
  numSp : Nat := 0
  phaseMask : Nat := 0
  ticks : Nat := 0
  /-- RANKS of the manifest; 0 for an image that uses no span. -/
  ranks : Nat := 0
  /-- Physical clusters mapped. -/
  clusters : List Nat := []
  /-- Physical slot of virtual slot v of island i, at 16 * i + v (R429). -/
  slotMap : Tab Nat := []
  /-- Entry bundle of each bucket, by physical cluster (R419). -/
  entries : List (Nat × List Nat) := []
  routes : List Placed := []
  shelves : List Placed := []
  states : List InitState := []
  /-- Maxima of each bucket (R423). -/
  maxima : List (List Nat) := []
  /-- The eight expressions of each bucket (R424). -/
  policies : List (List (List Byte)) := []
  layers : List Nat := []
  bound : List Bound := []
  deriving DecidableEq, Repr

/-- A DMA read of a recorded launch: count of its first flit, engine, bus address, length, CRC (16 R578). -/
structure Xfer where
  gc : Nat
  engine : Nat
  addr : Nat
  len : Nat
  crc : Nat
  deriving DecidableEq, Repr

/-- A program from its post to its end (15 R527, R528). -/
structure Program where
  launch : Nat
  completion : Nat
  bucket : Nat
  words : List Nat
  started : Bool := false
  /-- The selected bucket's segments are current (11 R408). -/
  current : Bool := false
  armed : Bool := false
  /-- The id of the launch command, if one waits for its reply. -/
  cmd : Nat
  recorded : Bool := false
  replayed : Bool := false
  /-- Variance counters at the launch count (16 R577). -/
  varAt : List Nat := []
  /-- Increments of the launch up to a clear of the counters (15 R537). -/
  varDone : List Nat := []
  /-- DMA reads of a replayed launch not yet compared, in ascending tick and engine. -/
  refs : List Xfer := []
  /-- Finished reads whose record waits for a transfer that began before them (16 R578). -/
  held : List Xfer := []
  /-- A DATA_REF of the launch did not fit (16 R579). -/
  refsFull : Bool := false
  deriving DecidableEq, Repr

/-- An entry of the digest table (16 R569, R572). -/
structure DigEnt where
  digest : W64 := 0
  mark : Bool := false
  deriving DecidableEq, Repr

/-- The active Sepia journal of a tenancy (16 R576 to R579). -/
structure Journal where
  addr : Nat
  length : Nat
  fn : Nat
  imageId : Nat
  startGc : Nat
  fresh : Bool
  incomplete : Bool := false
  used : Nat := 64
  records : Nat := 0
  /-- Bytes kept free for a LAUNCH_END (R579). -/
  reserved : Nat := 0
  body : List Byte := []
  deriving DecidableEq, Repr

/-- A replay in progress (16 R583, R584). -/
structure Replay where
  cmd : Nat
  data : List Byte
  pos : Nat := 64
  index : Nat := 0
  skipped : Nat := 0
  /-- Count of a replayed HALT_AT. -/
  haltAt : Option Nat := none
  /-- Launch count of the replayed launch. -/
  launch : Option Nat := none
  /-- Transfers made and not yet compared: of buffer writes, and of the launch. -/
  writes : List Xfer := []
  dmas : List Xfer := []
  /-- The host data of a replayed BUFFER_WRITE is being read. -/
  waiting : Bool := false
  /-- Status and fault of the launch that has ended. -/
  ended : Option (Nat × Nat) := none
  deriving DecidableEq, Repr

/-- One tenancy. -/
structure Tenancy where
  st : TenState := .vacant
  /-- Recorded fault code, 0 for none, its GC and the fabric tick of its raising (21 R709, R710). -/
  fault : Nat := 0
  faultGc : Nat := 0
  faultTick : Nat := 0
  faultsAfter : Nat := 0
  stopDue : Bool := false
  /-- Host address, length and first 192 bytes of the staged image (12 R435; 15 R516). -/
  stagedAddr : Nat := 0
  stagedLen : Nat := 0
  stagedHead : List Byte := []
  imageId : Nat := 0
  /-- The id of the IMAGE_LOAD that runs (15 R517), and the grant in force when it started (12 R441). -/
  loading : Option Nat := none
  loadGrant : GrantRec := 0
  image : Option Loaded := none
  /-- BUCKET_SELECT's choice, 255 for none (15 R519). -/
  bucket : Nat := 255
  program : Option Program := none
  launchCount : Nat := 0
  completion : Nat := 0
  /-- The wheel of the suspension in force (14 R501). -/
  suspendedAt : Option Nat := none
  /-- The count of the suspension boundary (17 R598). -/
  suspendGc : Nat := 0
  /-- No buffer command and no launch since IMAGE_LOAD (16 R581). -/
  fresh : Bool := false
  /-- Variance counters (16 R566): LANDANY, free order, slips, replay frames, DIG_OVERFLOW. -/
  mayVary : Nat := 0
  freeOrder : Nat := 0
  slips : Nat := 0
  replays : Nat := 0
  digOver : Nat := 0
  digTable : Tab DigEnt := []
  digMark : Bool := false
  /-- Drain base of each cluster (16 R570). -/
  drainBase : Tab W64 := []
  /-- S_in and S_out of the last bounded command and their largest values since reset, in k (13 R477). -/
  svcIn : Nat := 0
  svcOut : Nat := 0
  svcInMax : Nat := 0
  svcOutMax : Nat := 0
  /-- Waits for PCIe reads and waits the host holds, excluded from them, in total (13 R475). -/
  waitPcie : Nat := 0
  waitHost : Nat := 0
  journal : Option Journal := none
  replay : Option Replay := none
  /-- Memory being zeroed: device address and length of each part (14 R497). -/
  zeroing : List (Nat × Nat) := []
  /-- The firmware part of a change of the grant is still pending (14 R500). -/
  fwPending : Bool := false
  tcause : BitVec 32 := 0
  tenable : BitVec 32 := 0
  tvector : Nat := 0
  deriving DecidableEq, Repr

/-- The staging set (14 R490, R492). -/
structure Staging where
  recs : Tab GrantRec
  expiry : Nat
  deriving DecidableEq, Repr

/-- The PART block and the set in force (14 R478, R490; 23 Table REG-7, Table REG-8). -/
structure Grants where
  force : Tab GrantRec := []
  pend : Tab GrantRec := []
  staging : Option Staging := none
  countLo : Nat := 0
  count : Nat := 0
  /-- STATE: 0 IDLE, 1 CHECKING, 2 PENDING, 3 DONE, 4 REFUSED. -/
  state : Nat := 0
  rule : Nat := 0
  ten : Nat := 0
  ignored : Bool := false
  cancelled : Bool := false
  stagedBusy : Bool := false
  effect : Nat := 0
  deriving DecidableEq, Repr

/-! ## Rings and commands (13) -/

inductive RState where
  | unassigned
  | ready
  | enabled
  | stopped
  deriving DecidableEq, Repr

/-- One ring pair (13 Table UMB-2; 23 Table REG-13). -/
structure Ring where
  st : RState := .unassigned
  cmdBase : W64 := 0
  stsBase : W64 := 0
  /-- Staged LO halves of the bases (23 R760). -/
  cmdLo : Option W32 := none
  stsLo : Option W32 := none
  cmdLog : Nat := 0
  stsLog : Nat := 0
  enable : Bool := false
  vector : Nat := 0
  head : Nat := 0
  tail : Nat := 0
  stsTail : Nat := 0
  stsHead : Nat := 0
  /-- Replies written and not yet released by the status head (R460). -/
  unreleased : Nat := 0
  lap : Nat := 0
  closing : Bool := false
  cause : Nat := 0
  function : Nat := 0
  ten : Nat := 0xFF
  home : Nat := 0
  serving : Nat := 0
  assigned : Bool := false
  /-- The read of the entry at CMD_HEAD has been issued. -/
  fetching : Bool := false
  packet : Option Line := none
  deriving DecidableEq, Repr

/-- Where an outstanding command stands. -/
inductive Stage where
  /-- Its parameter block is being read. -/
  | block
  /-- The common checks passed; the opcode has still to act. -/
  | ready
  /-- The opcode waits for host data it asked for. -/
  | fetch
  /-- The host data has arrived. -/
  | fetched
  /-- Its effect is posted, keyed to the count field (21 R724), or it waits for one. -/
  | armed
  /-- Its status is settled; the reply has still to be written. -/
  | done
  deriving DecidableEq, Repr

/-- An outstanding command (13 R460, R461). -/
structure Cmd where
  id : Nat
  ring : Nat
  pkt : Line
  block : List Byte := []
  data : List Byte := []
  stage : Stage := .ready
  count : Nat := 0
  /-- A second number the effect needs (wheel of a suspension, bytes written, mask). -/
  aux : Nat := 0
  status : Nat := 0
  res0 : Nat := 0
  res1 : Nat := 0
  fault : Nat := 0
  gcDone : Option Nat := none
  /-- "now" at the start of the command. -/
  now : Nat := 0
  /-- Steps a long command on a shared core still takes before the one that has its effect (13 R446). -/
  steps : Nat := 0
  /-- Started on a core that was then reset, and neither posted nor settled (21 R725). -/
  interrupted : Bool := false
  deriving DecidableEq, Repr

/-- What a read of host memory is for. -/
inductive FetchFor where
  | packet (ring : Nat)
  | block (cmd : Nat)
  | data (cmd : Nat)
  | boot
  deriving DecidableEq, Repr

/-- A read of host memory on behalf of the control domain. -/
structure Fetch where
  id : Nat
  why : FetchFor
  fn : Nat
  addr : Nat
  len : Nat
  deriving DecidableEq, Repr

/-- What the device issues to the outside. -/
inductive Out where
  | hostWrite (fn addr : Nat) (data : List Byte)
  | hostRead (fn addr len : Nat)
  /-- An MSI-X message: address and data of the vector's table entry. -/
  | msix (fn vector : Nat) (addr : W64) (data : W32)
  /-- A frame on a link: each physical lane that carries one, with its symbols in order (05 R162, R172). -/
  | frame (lnk : Nat) (lanes : List (Nat × List (BitVec 10)))
  /-- The filler at the end of a guard: bits on each such lane, the pair 0b10 repeated (05 R167). -/
  | filler (lnk : Nat) (lanes : List Nat) (bits : Nat)
  /-- Answer of the SMBus target (22 Table PIN-6). -/
  | smb (data : List Byte)
  /-- A PMBus transaction: target, command, data (22 R744). -/
  | pmb (target command : Nat) (data : List Byte)
  /-- An Unsupported Request completion (19 R645). -/
  | ur (fn : Nat)
  deriving DecidableEq, Repr

/-- An MSI-X table entry (19 R651, R652). -/
structure MsixEnt where
  addr : W64 := 0
  data : W32 := 0
  mask : Bool := true
  withheld : Nat := 0
  deriving DecidableEq, Repr

/-- A PCIe function (19 R642, R647). -/
structure Func where
  bme : Bool := false
  /-- Uncorrectable and correctable error status of Advanced Error Reporting (19 R655). -/
  aerUnc : BitVec 32 := 0
  aerCor : BitVec 32 := 0
  enabled : Bool := false
  flr : Bool := false
  /-- Count of the boundary at which an FLR's tenancy stops (19 R657). -/
  flrAt : Nat := 0
  mask : Bool := false
  msix : Tab MsixEnt := []
  deriving DecidableEq, Repr

/-! ## DMA engines (19 R660 to R668) -/

/-- Data of a READ flit: none yet, failed, or present with its POISON and the fabric tick of its crossing. -/
inductive RdFlit where
  | waiting
  | failed
  | data (d : Line) (poison : Bool) (at_ : Nat)
  deriving DecidableEq, Repr

/-- A pending descriptor. -/
structure DmaDesc where
  read : Bool
  n : Nat
  tick : Nat
  lap : Nat
  addr : Nat
  tag : BitVec 10
  ten : Nat
  next : Nat := 0
  flits : List RdFlit := []
  recorded : Bool := false
  deriving DecidableEq, Repr

/-- A flit in the write queue. -/
structure DmaWr where
  fn : Nat
  ten : Nat
  addr : Nat
  data : Line
  at_ : Nat
  deriving DecidableEq, Repr

structure Dma where
  pend : List DmaDesc := []
  /-- LAP and tick of READ flits that departed while the host still owed their data (19 R664). -/
  owed : List (Nat × Nat) := []
  writeQ : List DmaWr := []
  descErr : Nat := 0
  starved : Nat := 0
  lateCompl : Nat := 0
  overflow : Nat := 0
  unexpected : Nat := 0
  short : Nat := 0
  readFlits : Nat := 0
  writeFlits : Nat := 0
  deriving DecidableEq, Repr

/-! ## Bitstream units (17) -/

/-- A DRAIN that waits or has departed (17 R604): engine tick of its first line, FIRST, lines, bank, next line, engine tick
of its arrival and its place among the records. -/
structure Drain where
  at_ : Nat
  first : Nat
  n : Nat
  bank : Nat
  next : Nat := 0
  arr : Nat
  seq : Nat
  deriving DecidableEq, Repr

/-- An output bank (17 R601 to R605). -/
structure Bank where
  started : Bool := false
  frameId : Nat := 0
  /-- Coded bytes, those beyond the capacity left out. -/
  stored : List Byte := []
  bytes : Nat := 0
  /-- Size-table entries: size, NEW_SEG. -/
  sizes : List (Nat × Bool) := []
  records : Nat := 0
  /-- Engine tick at which FRAME_END completed. -/
  endTick : Option Nat := none
  /-- STATUS and MARGIN decided by the departure of line 0. -/
  decided : Option (Nat × Nat) := none
  deriving DecidableEq, Repr

/-- A frame in the engine. -/
structure BsuFrame where
  bank : Nat
  noCdf : Bool
  /-- Substreams or tiles opened. -/
  subs : Nat := 0
  inSeg : Bool := false
  newSeg : Bool := false
  /-- The record that opened the segment. -/
  seg : W64 := 0
  /-- CTU_END marks since SEG_START or ENTRY. -/
  ctus : Nat := 0
  /-- Zero bytes that end the output of the segment so far (R590). -/
  zeros : Nat := 0
  /-- Contexts when the substream began, as the records that made them since their initialisation. -/
  ctx0 : List W64 := []
  /-- Records coded in the substream. -/
  ops : List W64 := []
  deriving DecidableEq, Repr

/-- A record with the engine tick of its arrival and its place among the records. -/
structure BsuRec where
  word : W64
  arr : Nat
  seq : Nat
  deriving DecidableEq, Repr

/-- A bitstream unit. Its engine ticks are counts less the counts in which the engine was held (R598). -/
structure Bsu where
  /-- Tenancy and expiry count of the lease in force (14 R506). -/
  lease : Option (Nat × Nat) := none
  /-- Count at which the lease in force began (17 R598), and the tenancy and wheel of the last lease that ended (R610). -/
  boundAt : Nat := 0
  endedOf : Option (Nat × Nat) := none
  codec : Nat := 0
  epb : Bool := false
  bankLines : Nat := 0
  configured : Bool := false
  queue : List BsuRec := []
  /-- DRAIN records that the input stage has still to take. -/
  drainIn : List BsuRec := []
  seq : Nat := 0
  /-- Counts of the wheels in which the engine was held. -/
  held : Nat := 0
  /-- Position f of the last finished record, in engine units (R598). -/
  pos : Nat := 0
  frame : Option BsuFrame := none
  /-- Records up to FRAME_END are discarded (R605). -/
  skip : Bool := false
  banks : Tab Bank := []
  drains : List Drain := []
  /-- Drains that have departed and that a FRAME_START may still have to wait for. -/
  past : List Drain := []
  /-- Wavefront store, dependent-slice store and CDF slots, as the records that made them. -/
  wpp : List W64 := []
  dep : List W64 := []
  slots : Tab (List W64) := []
  lastReset : Nat := 0
  /-- Wheel of the last reset by holder stop or lease end (24 R776). -/
  resetWheel : Option Nat := none
  /-- Coded bytes carried by drains so far. -/
  drained : Nat := 0
  inOverflow : Nat := 0
  drainLate : Nat := 0
  drainClash : Nat := 0
  bankOverwrite : Nat := 0
  framesDone : Nat := 0
  framesLate : Nat := 0
  framesOverflow : Nat := 0
  bins : Nat := 0
  symbols : Nat := 0
  resets : Nat := 0
  deriving DecidableEq, Repr

/-! ## Timers (18) -/

structure Timer where
  cnt : Nat := 0
  /-- Fabric tick of the last step or of the start; the prescaler has counted the source events since (R619, R620). -/
  last : Nat := 0
  prescale : Nat := 0
  compare : Nat := 0
  top : Nat := 0
  refclk : Bool := false
  mode : Nat := 0
  actions : Nat := 0
  pinEn : Bool := false
  fireIfPast : Bool := false
  running : Bool := false
  waiting : Bool := false
  down : Bool := false
  pin : Bool := false
  missed : Bool := false
  evtCmp : Bool := false
  evtWrap : Bool := false
  staged : Bool := false
  stagedLo : Nat := 0
  /-- Start count armed by START_GC or a group COUNT (R631, R632). -/
  startGc : Option Nat := none
  /-- Start tick already fixed: the first tick after a release (R631, R632). -/
  startTick : Option Nat := none
  /-- A group start may release it: programmed with START = 0, or MISSED (R632, R542). -/
  group : Bool := false
  /-- Compare matches are withheld until the next wrap step (R635). -/
  blind : Bool := false
  /-- A passed compare fires in the next tick (R635). -/
  fire : Bool := false
  deriving DecidableEq, Repr

/-! ## Cores (13, 21) -/

structure Core where
  reset : Bool := false
  /-- Its watchdog expired while the core that must act was not up (21 R722). -/
  expired : Bool := false
  retired : Bool := false
  /-- Its rings wait for a boundary to return (13 R445). -/
  rehome : Option Nat := none
  /-- The ring a shared core served last (13 R446). -/
  last : Option Nat := none
  /-- Wheel numbers of its resets (21 R723). -/
  resets : List Nat := []
  wdHeld : Bool := false
  deriving DecidableEq, Repr

/-! ## Power, boot and board (20, 22, 23) -/

/-- Device states, in the order of 15 Table CMD-5. -/
inductive DevState where
  | powerup
  | boot
  | held
  | active
  | drain
  | halted
  deriving DecidableEq, Repr

/-- A firmware image: its line and build, whether its signature verifies, its sequence number. -/
structure Firmware where
  line : Nat := 0
  build : Nat := 0
  valid : Bool := false
  sequence : Nat := 0
  deriving DecidableEq, Repr

/-- Contents of the SPI flash the device reads and writes (20 R678, R689; 22 Table PIN-5). -/
structure Flash where
  present : Bool := true
  cfg0 : List Byte := []
  cfg1 : List Byte := []
  fw0 : Firmware := {}
  fw1 : Firmware := {}
  /-- A slot being written: 0, 1 configuration, 2, 3 firmware (20 R689). -/
  writing : Option Nat := none
  deriving DecidableEq, Repr

/-- The mailbox (23 Table REG-4). -/
structure Mailbox where
  kind : Nat := 0
  len : Nat := 0
  seq : Nat := 0
  data : List Byte := []
  fwAddr : W64 := 0
  /-- Staged low half of the address (23 R760). -/
  fwLo : Option W32 := none
  fwLen : W32 := 0
  deriving DecidableEq, Repr

/-- The STATE block and what boot holds (20; 23 Table REG-3). -/
structure Boot where
  state : DevState := .powerup
  /-- Reset is asserted. -/
  inReset : Bool := true
  drainReq : Bool := false
  degraded : Bool := false
  flit : Bool := false
  rate : Nat := 0
  width : Nat := 0
  linkUp : Bool := false
  straps : BitVec 4 := 0
  resetCause : Nat := 0
  bootError : Nat := 0
  refLoss : Bool := false
  fabLoss : Bool := false
  ctlLoss : Bool := false
  colLoss : BitVec 4 := 0
  trip : Bool := false
  /-- The boot source is now the host, its firmware image as read, and the read in progress (20 R678). -/
  toHost : Bool := false
  hostImage : Option (List Byte) := none
  firmware : Option Firmware := none
  staged : Option Firmware := none
  fwFromFlash : Bool := false
  /-- The PMBus regulator's exponent read at BOOT entry. -/
  voutExp : Int := -12
  /-- A configuration block that takes effect at this count, and the id of its command, if any. -/
  sealPend : Option (Nat × List Byte × Option Nat) := none
  /-- Firmware activation in progress: id of its command (20 R697). -/
  activating : Option Nat := none
  coreResets : Nat := 0
  controlLost : Bool := false
  pmbusFault : Bool := false
  avsUnavailable : Bool := false
  boardAccess : Bool := false
  boardWrite : Bool := false
  /-- After a REFCLK or lock loss, or with TEST_EN high, nothing is promised (02 R74; 22 R739). -/
  lost : Bool := false
  deriving DecidableEq, Repr

/-- Power and thermal control (20 R701 to R707; 22 R744 to R747; 23 Table REG-12). -/
structure Power where
  cap : Nat := 700
  samples : List Nat := []
  avg : Nat := 0
  vcore : Nat := 800
  /-- A cap or a temperature has lowered limits that have not yet returned to the setpoints (20 R701, R704). -/
  lowered : Bool := false
  /-- Commanded voltage not yet reached, and the limits to raise then. -/
  vTarget : Option Nat := none
  /-- Highest limit code PMBUS_FAULT leaves (22 R746). -/
  vCeil : Option Nat := none
  thermWarn : Bool := false
  capExceeded : Bool := false
  temp : Tab Int := []
  colTemp : Tab Int := []
  /-- Sensors above 105 in the last sample: islands, column stacks. -/
  hot : BitVec 32 := 0
  colHot : BitVec 4 := 0
  statusLog : List (Nat × Nat) := []
  deriving DecidableEq, Repr

/-- A board access that waits for its place in the device's timing (22 R753): over JTAG or the SMBus bridge, its device
address, 32 or 64 bits, a write or a read, and the data to write. -/
structure BoardAcc where
  jtag : Bool
  addr : Nat
  wide : Bool
  write : Bool
  data : W64
  /-- Islands whose droop lasts when the access is made (23 R773). -/
  droop : W32
  deriving DecidableEq, Repr

/-- Alert, SMBus bridge and JTAG (22). -/
structure Board where
  /-- HOLD_N asserted. -/
  holdN : Bool := true
  /-- THERM_TRIP_N asserted. -/
  tripN : Bool := false
  smbAlert : Bool := false
  bridge : Nat := 0
  bridgeFailed : Bool := false
  /-- Accesses in progress, at most one for each path. -/
  acc : List BoardAcc := []
  tapIr : BitVec 8 := 0x01
  /-- Boundary cells drive or float the pins: 0 none, 3 EXTEST, 4 CLAMP, 5 HIGHZ. -/
  scan : Nat := 0
  debugData : W64 := 0
  debugError : Bool := false
  debugDone : Bool := true
  deriving DecidableEq, Repr

/-- INTR device entry, functions, rings, commands and requests (13, 19; 23 Table REG-10). -/
structure HostIf where
  dcause : BitVec 32 := 0
  denable : BitVec 32 := 0
  dvector : Nat := 0
  func : Tab Func := []
  rings : Tab Ring := []
  cmds : List Cmd := []
  nextId : Nat := 0
  fetches : List Fetch := []
  /-- Requests issued so far, oldest first. -/
  posted : List Out := []
  /-- Requests of functions that may not issue any now (19 R647). -/
  blocked : List (Nat × Out) := []
  cores : Tab Core := []
  deriving DecidableEq, Repr

/-- The fuse map and identity of the part (01 R31 to R34). -/
structure Fuse where
  slots : Tab Nat := []
  links : Nat := 0xFFFF
  serial : W64 := 0
  grade : Nat := 1
  deriving DecidableEq, Repr

end Sys2Proof.Machine
end

