-- ==== Sys2Proof/Machine/State.lean ====
section
/-!
DEFINITION. The state of the block, why it stops, and its state after reset.
-/
namespace Sys2Proof.Machine

/-- Everything the spec gives the device. -/
structure Dev where
  clk : Clk := {}
  whl : Wheel := {}
  span : Span := {}
  fab : Fab := {}
  lnk : Tab Link := []
  mem : Mem := {}
  cl : Tab Cluster := []
  ten : Tab Tenancy := []
  grants : Grants := {}
  host : HostIf := {}
  dma : Tab Dma := []
  bsu : Tab Bsu := []
  tmr : Tab Timer := []
  boot : Boot := {}
  power : Power := {}
  board : Board := {}
  flash : Flash := {}
  mail : Mailbox := {}
  fuse : Fuse := {}
  deriving DecidableEq, Repr

/-- The device, and the commands that wait, first in, first out. -/
structure State where
  pending : List Instr := []
  dev : Dev := {}
  deriving DecidableEq, Repr

/-- Why the block stops. -/
inductive Fault where
  /-- Raised by every command but a reset, a power loss or a further clock loss, after a clock loss in ACTIVE (02 R74) or
  with TEST_EN sampled high (22 R739), until the next chip reset: the device promises nothing. Safe: the model stops
  where the spec gives no effect. -/
  | nothingPromised
  deriving DecidableEq, Repr

/-- Why a command has no meaning here. -/
inductive Refusal where
  /-- An arm of exec without a meaning. Safe. -/
  | notModelled (mnemonic : String)
  deriving DecidableEq, Repr

/-- The part's fuses before they are programmed to fewer slots (01 R31 to R34): grade A, every slot and link on. -/
def fuseReset : Fuse := { slots := (List.range 32).map fun i => (i, 0xFFFF) }

/-- The machine after a power-on reset (20 R690): POWERUP with reset asserted; the sixteen links are in DETECT (05
R170); every other field has the value its declaration names. -/
def State.reset : State :=
  { pending := []
    dev := { fuse := fuseReset, lnk := (List.range 16).map fun l => (l, { state := .detect }) } }

end Sys2Proof.Machine
end

