-- ==== Sys2Proof/Machine/Ops.lean ====
section
/-!
DEFINITION. The named operations over tables, memory, positions and tenancies that every meaning shares.
-/
namespace Sys2Proof.Machine

/-! ## Tables -/

/-- Entry k of a table, d where it lists none. -/
def tabGet {α : Type} (d : α) : Tab α → Nat → α
  | [], _ => d
  | (i, a) :: t, k => if i = k then a else if k < i then d else tabGet d t k

/-- The table with entry k set, in strictly rising order. -/
def tabSet {α : Type} (k : Nat) (a : α) : Tab α → Tab α
  | [] => [(k, a)]
  | (i, b) :: t => if i = k then (k, a) :: t else if k < i then (k, a) :: (i, b) :: t else (i, b) :: tabSet k a t

/-- The table without entry k. -/
def tabDel {α : Type} (k : Nat) : Tab α → Tab α
  | [] => []
  | (i, b) :: t => if i = k then t else if k < i then (i, b) :: t else (i, b) :: tabDel k t

/-- Whether a table lists k. -/
def tabHas {α : Type} : Tab α → Nat → Bool
  | [], _ => false
  | (i, _) :: t, k => if i = k then true else if k < i then false else tabHas t k

/-- A table with entry k changed by a function. -/
def tabMod {α : Type} (d : α) (k : Nat) (f : α → α) (t : Tab α) : Tab α := tabSet k (f (tabGet d t k)) t

/-- Slots enabled on every island of a grade, and its links (01 R31 to R33): A is 1, B 2, C 3 (15 Table CMD-5). -/
def gradeSlots (g : Nat) : Nat := if g = 1 then 16 else if g = 2 then 15 else 14
def gradeLinks (g : Nat) : Nat := if g = 3 then 0x0FFF else 0xFFFF

/-- A fuse map is that of its grade (01 R31 to R33). -/
def fuseMapOk (f : Fuse) : Bool :=
  (f.grade == 1 || f.grade == 2 || f.grade == 3) && f.links == gradeLinks f.grade &&
    (List.range 32).all fun i =>
      let m := tabGet 0 f.slots i
      decide (m < 65536) && (List.range 16).countP (fun k => m.testBit k) == gradeSlots f.grade

/-- A counter of 32 bits that saturates (04 R159, 05 R196, 06 R238, 07 R285). -/
def satInc (n : Nat) : Nat := if n < 0xFFFFFFFF then n + 1 else 0xFFFFFFFF

def satAdd (n k : Nat) : Nat := min (n + k) 0xFFFFFFFF

/-- Bits hi to lo of a word, as a number. -/
def bits (x hi lo : Nat) : Nat := (x >>> lo) % pow2 (hi - lo + 1)

def bit (x i : Nat) : Bool := (x >>> i) % 2 == 1

def ceilDiv (a b : Nat) : Nat := (a + b - 1) / b

/-! ## Byte memory in canonical form: addresses strictly rising, no byte equal to 0 -/

/-- What a byte that nothing has written reads as (06 R224). -/
def unwritten : Byte := 0

def memGet (m : List Host.Cell) (a : Nat) : Byte := tabGet unwritten m a

def memSet (m : List Host.Cell) (a : Nat) (b : Byte) : List Host.Cell :=
  if b = unwritten then tabDel a m else tabSet a b m

/-- The canonical form of memory. -/
def Memory.wf (m : List Host.Cell) : Bool :=
  match m with
  | [] => true
  | (a, b) :: t =>
    decide (b ≠ unwritten) && (match t with | [] => true | (a', _) :: _ => decide (a < a')) && Memory.wf t

/-- n bytes from address a, least significant byte first, as a number. -/
def memRead (m : List Host.Cell) (a : Nat) : Nat → Nat
  | 0 => 0
  | n + 1 => (memGet m a).toNat + 256 * memRead m (a + 1) n

/-- Stores the low n bytes of a number at address a. -/
def memWrite (m : List Host.Cell) (a : Nat) : Nat → Nat → List Host.Cell
  | 0, _ => m
  | n + 1, v => memWrite (memSet m a (BitVec.ofNat 8 v)) (a + 1) n (v / 256)

/-! ## Device addresses (06 Table MEM-2, R208) -/

def colBase (cl : Nat) : Nat := cl * 0x6000000
def paneBase (cl : Nat) : Nat := 0x001000000000 + cl * 0x400000
def shelfBase (q : Nat) : Nat := 0x001100000000 + q * 0x4000000

/-- Island and quadrant of a unit (00 Table SCO-5). -/
def islOf (cl : Nat) : Nat := cl / 16
def slotOf (cl : Nat) : Nat := cl % 16
def quadOfIsl (i : Nat) : Nat := (i / 8 / 2) * 2 + (i % 8) / 4
def quadOf (cl : Nat) : Nat := quadOfIsl (islOf cl)

/-! ## Protected units (06 R232 to R235) -/

/-- An odd number of ones, at least 3, in a number below 2^14: the values that name data bits (04 R131; 06 R232). -/
def oddWeight (n : Nat) : Bool :=
  let w := (List.range 14).foldl (fun a i => a + (if bit n i then 1 else 0)) 0
  w % 2 == 1 && decide (3 ≤ w)

/-- H8(0) to H8(63), or H11(0) to H11(511): the first n values of k bits with odd weight of at least 3 (06 R232). -/
def hCols (k n : Nat) : List Nat := ((List.range (pow2 k)).filter oddWeight).take n

/-- What a syndrome of k bits says of a unit of n data bits (06 R232 to R234, decoded as 04 R132): a power of two is
a check bit, a value of H a data bit, all ones stored poison. -/
def unitKind (k n syn : Nat) : EccKind :=
  if syn = 0 then .ok
  else if syn = pow2 k - 1 then .poison
  else if isPow2 syn || (hCols k n).contains syn then .corr
  else .uncorr

/-- The data bit a syndrome names, as a mask; 0 for none. -/
def unitFlip (k n syn : Nat) : Nat := if syn = 0 then 0 else ((hCols k n).findIdx? (· == syn)).elim 0 pow2

/-- The code of a unit of protection of n bytes: 8 check bits on a 64-bit word, 11 on a column line. -/
def unitCode (n : Nat) : Nat := if n = 8 then 8 else 11

/-- A line as read: its data and the poison of its units, with the counts of what was met. -/
structure LineRead where
  data : Line
  poison : Nat
  corr : Nat
  uncorr : Nat
  stored : Nat
  /-- Index of the first unit with an uncorrectable error, 8 for none. -/
  firstBad : Nat

/-- A line of eight 64-bit words, from its stored data and the syndrome of each: a correctable error is corrected in
the data returned (06 R233). -/
def lineRead (data : Line) (syn : Nat → Nat) : LineRead :=
  let ix := List.range 8
  let k (i : Nat) : EccKind := unitKind 8 64 (syn i)
  { data := if ix.all fun i => syn i == 0 then data
      else data ^^^ BitVec.ofNat 512 (ix.foldl (fun a i => a + unitFlip 8 64 (syn i) * pow2 (64 * i)) 0)
    poison := ix.foldl (fun p i => if k i = .uncorr ∨ k i = .poison then p + pow2 i else p) 0
    corr := (ix.filter fun i => k i = .corr).length
    uncorr := (ix.filter fun i => k i = .uncorr).length
    stored := (ix.filter fun i => k i = .poison).length
    firstBad := (ix.find? fun i => decide (k i = .uncorr)).getD 8 }

/-- Reads the eight 64-bit words of a pane or shelf line at address a. -/
def readLine8 (m : Mem) (a : Nat) : LineRead :=
  lineRead (BitVec.ofNat 512 (memRead m.cells a 64)) fun i => tabGet 0 m.ecc (a + 8 * i)

/-- A line of bits from lo to hi - 1. -/
def rangeMask (lo hi : Nat) : Nat := if lo < hi then pow2 hi - pow2 lo else 0

/-- The bit mask of a nibble mask of n nibbles. -/
def nibbleBits (n mask : Nat) : Nat :=
  (List.range n).foldl (fun a i => if bit mask i then a + (15 <<< (4 * i)) else a) 0

/-- Old bits with the masked bits replaced. -/
def mergeBits (old new mask : Nat) : Nat := Nat.xor old (Nat.land (Nat.xor old new) mask)

/-- Writes one protected unit of n bytes at address a under a mask of bits; the unit ends poisoned if the new
data is, or if it was and the write does not cover it whole (06 R234, R235). The two numbers count
corrections and uncorrectable reads of the merge. -/
def writeUnit (n : Nat) (a v mask : Nat) (poisoned : Bool) (m : Mem) : Mem × Nat × Nat :=
  if mask == 0 then (m, 0, 0)
  else
    let whole := mask == pow2 (8 * n) - 1
    let c := unitCode n
    let syn := tabGet 0 m.ecc a
    let k := unitKind c (8 * n) syn
    let cells := memWrite m.cells a n (mergeBits (Nat.xor (memRead m.cells a n) (unitFlip c (8 * n) syn)) v mask)
    let bad := poisoned || (!whole && (k = .uncorr || k = .poison))
    let ecc := if bad then tabSet a (pow2 c - 1) m.ecc else tabDel a m.ecc
    ({ m with cells := cells, ecc := ecc, odEcc := if n = 64 then tabDel a m.odEcc else m.odEcc },
      if !whole && k = .corr then 1 else 0, if !whole && k = .uncorr then 1 else 0)

/-- Writes a line of eight 64-bit words under a bit mask, poison per word. -/
def writeLine8 (a v mask poison : Nat) (m : Mem) : Mem × Nat × Nat :=
  (List.range 8).foldl (fun acc i =>
    let r := writeUnit 8 (a + 8 * i) ((v >>> (64 * i)) % pow2 64) ((mask >>> (64 * i)) % pow2 64)
      (bit poison i) acc.1
    (r.1, acc.2.1 + r.2.1, acc.2.2 + r.2.2)) (m, 0, 0)

/-- The first word of a line that a write under a bit mask merges into and finds uncorrectable (06 R235, R238). -/
def mergeBad (m : Mem) (a mask : Nat) : Option Nat :=
  (List.range 8).find? fun i =>
    let x := (mask >>> (64 * i)) % pow2 64
    x != 0 && x != pow2 64 - 1 && decide (unitKind 8 64 (tabGet 0 m.ecc (a + 8 * i)) = .uncorr)

/-! ## The wheel and the global count (03 R75 to R88, R122) -/

/-- Tick in the present wheel of an absolute fabric tick; W or more lies in the guard. -/
def tickAt (w : Wheel) (t : Nat) : Nat := t - w.start

def inGuard (w : Wheel) : Bool := decide (w.w ≤ tickAt w w.now)

/-- GC: in a guard tick and a slipped wheel it reads as the next counted tick (03 R85, R86). -/
def gcOf (w : Wheel) : Nat :=
  if w.slip then (w.n + 1) * w.w
  else if inGuard w then (w.n + 1) * w.w
  else w.n * w.w + tickAt w w.now

/-- Whether the present tick is a counted one. -/
def counted (w : Wheel) : Bool := !w.slip && !inGuard w

/-- A count has passed or been reached (03 R122). -/
def countPassed (w : Wheel) (x : Nat) : Bool :=
  decide (x < gcOf w) || (decide (x = gcOf w) && counted w)

/-- An action keyed to a count takes place in the counted tick of that count (03 R87). A count that has passed without its
action takes effect at a wheel boundary (R106, Table WHL-4; log entry 17). -/
def countDue (w : Wheel) (x : Nat) : Bool :=
  counted w && (decide (x = gcOf w) || (decide (x < gcOf w) && decide (w.now = w.start)))

/-- The next wheel boundary's count (tick 0 of the next counted wheel). -/
def nextBoundary (w : Wheel) : Nat := (w.n + 1) * w.w

/-- Phase of a tick in the wheel (03 R79). -/
def phaseOf (w : Wheel) (k : Nat) : Nat := k / (w.w / 64)

/-- Fabric position as LAP and TICK; through a guard and a slipped wheel it holds W - 1 (07 R269, R278). -/
def fabPos (w : Wheel) : Nat × Nat :=
  (w.n % 4, if counted w then tickAt w w.now else w.w - 1)

/-- The three outcomes of 07 R269 for a target against a position: less than, equal, or passed. -/
inductive Reach where
  | future
  | current
  | passed
  deriving DecidableEq, Repr

def reach (target pos : Nat × Nat) : Reach :=
  let δ := (target.1 + 4 - pos.1 % 4) % 4
  if δ = 1 ∨ δ = 2 then .future
  else if δ = 3 then .passed
  else if target.2 > pos.2 then .future
  else if target.2 = pos.2 then .current
  else .passed

/-- Moves the fabric clock to a tick not before the present one. -/
def advanceTo (t : Nat) (d : Dev) : Dev :=
  if d.whl.now ≤ t then { d with whl := { d.whl with now := t } } else d

/-! ## Grant records (14 Table TEN-1) -/

def recByte (r : GrantRec) (i : Nat) : Nat := bits r.toNat (8 * i + 7) (8 * i)
def recField (r : GrantRec) (lo n : Nat) : Nat := bits r.toNat (8 * (lo + n) - 1) (8 * lo)
/-- A vacant record: TEN in byte 0 and 0xFF in DMA_RES (14 R478). -/
def vacantRec (t : Nat) : GrantRec := BitVec.ofNat 1024 (t + 0xFF * pow2 864)
def recClass (r : GrantRec) : Nat := recByte r 1
def recFunction (r : GrantRec) : Nat := recByte r 2
def recCore (r : GrantRec) : Nat := recByte r 3
def recHasCluster (r : GrantRec) (c : Nat) : Bool := bit r.toNat (32 + c)
def recPane (r : GrantRec) : Nat := recField r 68 8
def recWinBase (r : GrantRec) (w : Nat) : Nat := recByte r (76 + 2 * w) % 128
def recWinSize (r : GrantRec) (w : Nat) : Nat := recByte r (77 + 2 * w) % 128
def recShelfBase (r : GrantRec) : Nat := recField r 92 2
def recShelfSize (r : GrantRec) : Nat := recField r 94 2
def recPhases (r : GrantRec) : Nat := recField r 96 8
def recDma (r : GrantRec) : Nat := recField r 104 4
def recDmaRes (r : GrantRec) : Nat := recByte r 108
def recBsu (r : GrantRec) (u : Nat) : Nat := bits (recByte r 109) (2 * u + 1) (2 * u)
def recTmr (r : GrantRec) : Nat := recField r 110 2
def recLease (r : GrantRec) : Nat := recField r 112 4

/-- The record of a tenancy in force. -/
def grantOf (d : Dev) (t : Nat) : GrantRec := tabGet (vacantRec t) d.grants.force t

/-- The tenancy that holds a cluster in force. -/
def holderOf (d : Dev) (cl : Nat) : Option Nat :=
  (List.range 32).find? fun t => recHasCluster (grantOf d t) cl

/-- The tenancy that holds a shelf granule, by device address (06 Table MEM-8). -/
def shelfHolder (d : Dev) (a : Nat) : Option Nat :=
  let g := (a - shelfBase 0) / 65536
  (List.range 32).find? fun t =>
    let r := grantOf d t
    decide (recShelfBase r ≤ g) && decide (g < recShelfBase r + recShelfSize r)

def tenOf (d : Dev) (t : Nat) : Tenancy := tabGet {} d.ten t
def modTen (t : Nat) (f : Tenancy → Tenancy) (d : Dev) : Dev := { d with ten := tabMod {} t f d.ten }

/-! ## Clusters -/

def clOf (d : Dev) (c : Nat) : Cluster := tabGet {} d.cl c
def setCl (c : Nat) (k : Cluster) (d : Dev) : Dev := { d with cl := tabSet c k d.cl }
def modCl (c : Nat) (f : Cluster → Cluster) (d : Dev) : Dev := { d with cl := tabMod {} c f d.cl }
def memCtr (c : Nat) (f : MemCtr → MemCtr) (d : Dev) : Dev :=
  { d with mem := { d.mem with ctr := tabMod {} c f d.mem.ctr } }

end Sys2Proof.Machine
end

