-- ==== Sys2Proof/Machine/Operands.lean ====
section
/-!
DEFINITION. Operand forms of the cluster: tile descriptors, streams, edges, slots of a bundle.
07 R256 to R263, 08 R293, R294, 09 R325 to R332, 10 Table INV-1 to Table INV-8.
-/
namespace Sys2Proof.Machine

/-! ## Descriptors (07 Table CLU-3) -/

def dField (d : W64) (hi lo : Nat) : Nat := bits d.toNat hi lo
def dBase (d : W64) : Nat := dField d 15 0
def dRows (d : W64) : Nat := dField d 23 16 + 1
def dCols (d : W64) : Nat := dField d 31 24 + 1
def dStride (d : W64) : Nat := dField d 47 32
def dFmt (d : W64) : Nat := dField d 50 48
def dFill (d : W64) : Nat := dField d 52 51
def dEmask (d : W64) : Nat := dField d 55 53

/-- Bytes of a row of n elements (08 R293, R294). -/
def rowBytes (f n : Nat) : Nat :=
  if f == 5 then 17 * ceilDiv n 32 else if f == 7 then ceilDiv n 2 else n * (fmtWidth f / 8)

/-- Bytes of a row of n wide partials (08 R324). -/
def wideRowBytes (n : Nat) : Nat := 64 * ceilDiv n 5

def tileRowBytes (wide : Bool) (d : W64) : Nat :=
  if wide then wideRowBytes (dCols d) else rowBytes (dFmt d) (dCols d)

/-- 07 R257, 08 R324: a descriptor an instruction may use. -/
def descOk (wide : Bool) (d : W64) : Bool :=
  decide (dStride d ≠ 0) && dField d 63 56 == 0 && decide (tileRowBytes wide d ≤ dStride d * 64)

/-- Lines of a row and of a stream (09 R327). -/
def rowLines (wide : Bool) (d : W64) : Nat := ceilDiv (tileRowBytes wide d) 64
def streamLen (wide : Bool) (d : W64) : Nat := dRows d * rowLines wide d

/-- Pane line of stream line j (09 R327). -/
def streamLine (wide : Bool) (d : W64) (j : Nat) : Nat :=
  dBase d + (j / rowLines wide d) * dStride d + j % rowLines wide d

/-! ## Edges (07 R259; 09 R328) -/

/-- In-bounds columns and rows of a tile. -/
def tileColsIn (t : Tile) : Nat := min (dCols t.desc) t.colLim
def tileRowsIn (t : Tile) : Nat := min (dRows t.desc) t.rowLim

/-- Nibble mask, over a row's bytes, of its in-bounds elements and of the scale bytes of MXF4 blocks that hold
one (09 R331). -/
def rowMask (t : Tile) : Nat :=
  let f := dFmt t.desc
  let n := tileColsIn t
  if f == 5 then
    let nb := ceilDiv (dCols t.desc) 32
    rangeMask 0 n + rangeMask (32 * nb) (32 * nb + 2 * ceilDiv n 32)
  else rangeMask 0 (n * fmtWidth f / 4)

/-- Nibble mask of one stream line's in-bounds elements; 0 for a line beyond the edge (09 R328). -/
def lineMask (t : Tile) (j : Nat) : Nat :=
  let lr := rowLines false t.desc
  if j / lr < tileRowsIn t then (rowMask t >>> (128 * (j % lr))) % pow2 128 else 0

/-- Bit mask of the in-bounds elements of a line of wide partials, with the reserved FLAGS bits and the slots
past the row's end (08 R323); 0 for a line with no in-bounds element. -/
def wideMask (t : Tile) (j : Nat) : Nat :=
  let lr := rowLines true t.desc
  let l := j % lr
  let n := dCols t.desc
  let inb (i : Nat) : Bool := decide (5 * l + i < tileColsIn t) || decide (n ≤ 5 * l + i)
  if j / lr < tileRowsIn t ∧ 5 * l < tileColsIn t then
    (List.range 5).foldl (fun a i => if inb i then a + rangeMask (96 * i) (96 * i + 96) + (7 <<< (480 + 3 * i)) else a)
      (rangeMask 495 512)
  else 0

/-- Bits of the in-bounds elements alone of a line of wide partials: each one's 96 bits and 3 flags. -/
def wideUsed (t : Tile) (j : Nat) : Nat :=
  let l := j % rowLines true t.desc
  if j / rowLines true t.desc < tileRowsIn t then
    (List.range 5).foldl (fun a i =>
      if 5 * l + i < tileColsIn t then a + rangeMask (96 * i) (96 * i + 96) + (7 <<< (480 + 3 * i)) else a) 0
  else 0

/-- Words of a line that hold a byte of an in-bounds element (09 R333). -/
def maskWords (nib : Nat) : Nat :=
  (List.range 8).foldl (fun a i => if bits nib (16 * i + 15) (16 * i) != 0 then a + pow2 i else a) 0

def wideWords (bm : Nat) : Nat :=
  (List.range 8).foldl (fun a i => if bits bm (64 * i + 63) (64 * i) != 0 then a + pow2 i else a) 0

/-! ## Elements of a held tile -/

/-- The line a task holds for stream line j of a source. -/
def heldLine (hs : List Held) (src j : Nat) : Nat :=
  match hs.find? (fun h => h.src == src && h.j == j) with
  | some h => h.data.toNat
  | none => 0

/-- The encoding of element (r, c) as held. -/
def heldCode (hs : List Held) (src : Nat) (d : W64) (r c : Nat) : Nat :=
  let w := fmtWidth (dFmt d)
  let o := c * w
  bits (heldLine hs src (r * rowLines false d + o / 512)) (o % 512 + w - 1) (o % 512)

/-- The scale byte of the MXF4 block of element (r, c) as held. -/
def heldScale (hs : List Held) (src : Nat) (d : W64) (r c : Nat) : Nat :=
  let o := (16 * ceilDiv (dCols d) 32 + c / 32) * 8
  bits (heldLine hs src (r * rowLines false d + o / 512)) (o % 512 + 7) (o % 512)

/-- The fill value of a descriptor as a value (08 R308). -/
def fillVal (d : W64) : Val :=
  let f := dFmt d
  match dFill d with
  | 0 => .fin false 0 0
  | 1 => if fmtIsInt f then valOfInt (-(fmtMax f : Int) - 1) else .inf true
  | 2 => if fmtIsInt f then valOfInt (fmtMax f : Int) else .inf false
  | _ => .fin false 1 0

/-- The fill encoding of a descriptor (09 Table INM-8). -/
def fillCode (f fill : Nat) : Nat :=
  match fill with
  | 0 => 0
  | 1 =>
    (match f with
      | 0 => 0xFF800000 | 1 => 0xFC00 | 2 => 0xFF80 | 3 => 0xFE | 4 => 0xFC | 5 => 0xF | 6 => 0x80 | _ => 0x8)
  | 2 =>
    (match f with
      | 0 => 0x7F800000 | 1 => 0x7C00 | 2 => 0x7F80 | 3 => 0x7E | 4 => 0x7C | 5 => 0x7 | 6 => 0x7F | _ => 0x7)
  | _ =>
    (match f with
      | 0 => 0x3F800000 | 1 => 0x3C00 | 2 => 0x3F80 | 3 => 0x38 | 4 => 0x3C | 5 => 0x2 | _ => 1)

def inBounds (t : Tile) (r c : Nat) : Bool := decide (r < tileRowsIn t) && decide (c < tileColsIn t)

/-- The value of element (r, c) of source src as held, the fill value beyond the edge (09 R329). -/
def heldVal (hs : List Held) (src : Nat) (t : Tile) (r c : Nat) : Val :=
  if inBounds t r c then
    if dFmt t.desc == 5 then mxVal (heldScale hs src t.desc r c) (heldCode hs src t.desc r c)
    else decodeVal (dFmt t.desc) (heldCode hs src t.desc r c)
  else fillVal t.desc

/-- The encoding of element (r, c), the fill encoding beyond the edge (10 R373). -/
def heldEnc (hs : List Held) (src : Nat) (t : Tile) (r c : Nat) : Nat :=
  if inBounds t r c then heldCode hs src t.desc r c else fillCode (dFmt t.desc) (dFill t.desc)

/-! ## Bundle decoding (09 R325, R326, Table INM-1, INM-4, INM-7; 10 Table INV-2, INV-7) -/

def fin16 (n : Nat) : Fin 16 := Fin.ofNat 16 n
def fin32 (n : Nat) : Fin 32 := Fin.ofNat 32 n
def fin8 (n : Nat) : Fin 8 := Fin.ofNat 8 n
def fin4 (n : Nat) : Fin 4 := Fin.ofNat 4 n

/-- No bit of w at or above bit k is set. -/
def clearFrom (w k : Nat) : Bool := w >>> k == 0

def decodeM (w : Nat) : MSlot :=
  if w == 0 then .nop
  else
    let da := fin16 (bits w 11 8)
    let db := fin16 (bits w 15 12)
    let acc := fin8 (bits w 18 16)
    match w % 256 with
    | 1 => if clearFrom w 19 then .mma da db acc else .bad
    | 2 => if clearFrom w 19 then .mmaz da db acc else .bad
    | 3 => if clearFrom w 20 then .mmat da db acc (bit w 19) else .bad
    | 8 =>
      if clearFrom w 15 && bits w 14 13 != 3 then .acczero (fin8 (bits w 10 8)) (fin4 (bits w 12 11)) (fin4 (bits w 14 13))
      else .bad
    | 9 => if clearFrom w 17 then .accload da (fin8 (bits w 14 12)) (fin4 (bits w 16 15)) else .bad
    | 10 =>
      if clearFrom w 22 then
        .accdrain da (fin8 (bits w 14 12)) (bit w 15) (fin4 (bits w 17 16)) (bit w 18) (fin8 (bits w 21 19))
      else .bad
    | _ => .bad

def decodeVArgs (w : Nat) : VArgs :=
  { dd := fin16 (bits w 11 8), da := fin16 (bits w 15 12), db := fin16 (bits w 19 16), dc := fin16 (bits w 23 20)
    rnd := fin4 (bits w 25 24), sat := bit w 26, srq := fin8 (bits w 29 27) }

def decodeV (w : Nat) : VSlot :=
  if w == 0 then .nop
  else
    let f := decodeVArgs w
    let plain (s : VSlot) : VSlot := if clearFrom w 30 then s else .bad
    match w % 256 with
    | 0x01 => if clearFrom w 39 then .vadd f (bit w 30) (fin32 (bits w 35 31)) (fin8 (bits w 38 36)) else .bad
    | 0x02 => plain (.vsub f)
    | 0x03 => plain (.vmul f)
    | 0x04 => plain (.vfma f)
    | 0x05 => plain (.vmax f)
    | 0x06 => plain (.vmin f)
    | 0x07 => plain (.vexp f)
    | 0x08 => plain (.vlog f)
    | 0x09 => plain (.vrcp f)
    | 0x0A => plain (.vrsq f)
    | 0x0B => plain (.vcvt f)
    | 0x0C => plain (.vsel f)
    | 0x0D => if clearFrom w 33 then .vcmp f (fin8 (bits w 32 30)) else .bad
    | 0x0E => plain (.vsumrow f)
    | 0x0F => plain (.vmaxrow f)
    | 0x10 => if clearFrom w 37 then .vshuf f (fin4 (bits w 31 30)) (fin32 (bits w 36 32)) else .bad
    | 0x11 => if clearFrom w 39 then .vrand f (BitVec.ofNat 8 (bits w 37 30)) (bit w 38) else .bad
    | 0x12 => if clearFrom w 35 then .vsround f (fin32 (bits w 34 30)) else .bad
    | 0x13 => if clearFrom w 47 then .vdig f (bit w 30) (BitVec.ofNat 16 (bits w 46 31)) else .bad
    | _ => .bad

def decodeX (w : Nat) : XSlot :=
  if w == 0 then .nop
  else
    let d := fin16 (bits w 11 8)
    let s12 := fin32 (bits w 16 12)
    let s15 := fin32 (bits w 19 15)
    let s20 := fin32 (bits w 24 20)
    let s25 := fin32 (bits w 29 25)
    let s8 := fin32 (bits w 12 8)
    let s13 := fin32 (bits w 17 13)
    let imm := BitVec.ofNat 22 (bits w 39 18)
    match w % 256 with
    | 1 => if clearFrom w 30 then .pload d (fin8 (bits w 14 12)) s15 s20 s25 else .bad
    | 2 => if clearFrom w 30 then .pstore d (fin8 (bits w 14 12)) s15 s20 s25 else .bad
    | 3 => if clearFrom w 40 then .sget s8 s13 imm else .bad
    | 4 => if clearFrom w 40 then .sput s8 s13 imm else .bad
    | 5 => if clearFrom w 25 then .launch d (fin8 (bits w 14 12)) s15 s20 else .bad
    | 6 => if clearFrom w 18 then .land d s12 (bit w 17) else .bad
    | 7 =>
      if clearFrom w 31 && bit w 17 == false then
        .landany d s12 (BitVec.ofNat 8 (bits w 25 18)) (fin32 (bits w 30 26))
      else .bad
    | _ => .bad

def decodeC (w : Nat) : CSlot :=
  if w == 0 then .nop
  else
    let imm := BitVec.ofNat 32 (bits w 59 28)
    match w % 256 with
    | 1 =>
      if clearFrom w 58 then
        .loop (bit w 8) (fin32 (bits w 13 9)) (BitVec.ofNat 32 (bits w 45 14)) (BitVec.ofNat 12 (bits w 57 46))
      else .bad
    | 2 => if clearFrom w 8 then .endloop else .bad
    | 3 =>
      if clearFrom w 31 then .waittick (BitVec.ofNat 16 (bits w 23 8)) (bit w 24) (bit w 25) (fin32 (bits w 30 26))
      else .bad
    | 4 => if clearFrom w 30 then .waitcyc (BitVec.ofNat 16 (bits w 23 8)) (bit w 24) (fin32 (bits w 29 25)) else .bad
    | 5 =>
      if clearFrom w 49 then
        .sets (bit w 8) (fin32 (bits w 13 9)) (fin8 (bits w 16 14)) (BitVec.ofNat 32 (bits w 48 17))
      else .bad
    | 6 =>
      if clearFrom w 60 then
        .adds (bit w 8) (fin32 (bits w 13 9)) (fin8 (bits w 16 14)) (fin32 (bits w 21 17)) (bit w 22)
          (fin32 (bits w 27 23)) imm
      else .bad
    | 7 =>
      if clearFrom w 60 then
        .muls (bit w 8) (fin32 (bits w 13 9)) (fin8 (bits w 16 14)) (fin32 (bits w 21 17)) (bit w 22)
          (fin32 (bits w 27 23)) imm
      else .bad
    | 8 =>
      if clearFrom w 40 then
        .edge (fin8 (bits w 10 8)) (bit w 11) (BitVec.ofNat 9 (bits w 20 12)) (BitVec.ofNat 9 (bits w 29 21))
          (fin32 (bits w 34 30)) (fin32 (bits w 39 35))
      else .bad
    | 9 => if clearFrom w 8 then .halt else .bad
    | _ => .bad

/-- 09 R325. -/
def decodeBundle (b : BundleWord) : Bundle :=
  let n := b.toNat
  { m := decodeM (bits n 63 0), v := decodeV (bits n 127 64), x := decodeX (bits n 191 128), c := decodeC (bits n 255 192) }

end Sys2Proof.Machine
end

