-- ==== Sys2Proof/Machine/Compute.lean ====
section
/-!
DEFINITION. What the engines of a cluster compute from the lines they hold: matrix contributions, drains,
vector results, digests (08 R307 to R324; 09 R335 to R344; 10 R365 to R381).
-/
namespace Sys2Proof.Machine

/-! ## Exact and ordered accumulation -/

/-- One contribution to an exact-class element (08 R311). -/
def exAdd (x : ExElem) : Val → ExElem
  | .nan => { x with nan := true }
  | .inf s => if s then { x with neg := true } else { x with pos := true }
  | .fin s m e =>
    let k := shlTo m (e + 32) 0
    { x with a := if s then x.a - BitVec.ofNat 96 k else x.a + BitVec.ofNat 96 k }

/-- Adds a wide partial (08 R311). -/
def exMerge (x y : ExElem) : ExElem :=
  { a := x.a + y.a, nan := x.nan || y.nan, pos := x.pos || y.pos, neg := x.neg || y.neg }

/-- The value an exact-class element drains as, before rounding (08 R313). -/
def exRes (x : ExElem) : Res :=
  if x.nan || (x.pos && x.neg) then .nan
  else if x.pos then .inf false
  else if x.neg then .inf true
  else
    let i := signedOf 96 x.a.toNat
    .num (decide (i < 0)) (.dy i.natAbs (-32))

/-- Class and group size of an operand pairing (08 Table NUM-4, R315); none where it is not listed. -/
def pairing (fa fb : Nat) : Option (AccClass × Nat) :=
  if (fa == 3 || fa == 4) && (fb == 3 || fb == 4) then some (.exact, 1)
  else if (fa == 6 || fa == 7) && (fb == 6 || fb == 7) then some (.exact, 1)
  else if fa == 0 && fb == 0 then some (.ordered, 1)
  else if (fa == 1 || fa == 2) && (fb == 1 || fb == 2) then some (.ordered, 4)
  else if fa == 5 && fb == 5 then some (.ordered, 32)
  else none

/-- Twice the format factor of a format (09 R336). -/
def factor2 (f : Nat) : Nat :=
  match f with | 0 => 32 | 1 => 8 | 2 => 8 | 5 => 1 | 7 => 1 | _ => 2

/-- Ordered accumulation of groups of g products (08 R315 to R317), by fuel. -/
def orderedGo (g : Nat) : Nat → Nat → List Val → Nat
  | 0, c, _ => c
  | k + 1, c, ps =>
    match ps with
    | [] => c
    | _ => orderedGo g k (rne32 (valAdd (decodeVal 0 c) (valSum (ps.take g)))) (ps.drop g)

def exOf (t : AccTile) (i : Nat) : ExElem := tabGet {} t.ex i
def odOf (t : AccTile) (i : Nat) : W32 := tabGet 0 t.od i

/-- Tile of the group and element number of output (r, c), n columns wide (07 R263). -/
def accTileIx (n r c : Nat) : Nat := (r / 64) * ceilDiv n 64 + c / 64
def accElemIx (r c : Nat) : Nat := 64 * (r % 64) + c % 64

/-- Number of tiles of an m x n output (07 R263). -/
def accTiles (m n : Nat) : Nat := ceilDiv m 64 * ceilDiv n 64

/-- Outputs of an m x n region, last first. -/
def outputs (m n : Nat) : List (Nat × Nat) :=
  (List.range (m * n)).reverse.map fun i => (i / n, i % n)

/-- Changes every element of the region by a function of its row, column and tile. -/
def onRegion (m n : Nat) (f : Nat → Nat → AccTile → AccTile) (ts : List AccTile) : List AccTile :=
  (List.range ts.length).map fun ti =>
    (outputs m n).foldl (fun t rc => if accTileIx n rc.1 rc.2 == ti then f rc.1 rc.2 t else t) (ts.getD ti {})

/-- The products of output (r, c): A is source 0, B source 1, B stored transposed for MMAT (09 R335). -/
def products (tr : Bool) (k : Nat) (a b : Tile) (hs : List Held) (r c : Nat) : List Val :=
  (List.range k).map fun i =>
    valMul (heldVal hs 0 a r i) (if tr then heldVal hs 1 b c i else heldVal hs 1 b i c)

/-- Accumulates A · B, or A · Bᵀ, into a group of tiles (09 R338). -/
def mmaApply (tr : Bool) (a b : Tile) (hs : List Held) (ts : List AccTile) : List AccTile :=
  let m := dRows a.desc
  let k := dCols a.desc
  let n := if tr then dRows b.desc else dCols b.desc
  match pairing (dFmt a.desc) (dFmt b.desc) with
  | some (.exact, _) =>
    onRegion m n (fun r c t =>
      let i := accElemIx r c
      { t with ex := tabSet i ((products tr k a b hs r c).foldl exAdd (exOf t i)) t.ex }) ts
  | some (_, g) =>
    onRegion m n (fun r c t =>
      let i := accElemIx r c
      { t with od := tabSet i (BitVec.ofNat 32 (orderedGo g k (odOf t i).toNat (products tr k a b hs r c))) t.od }) ts
  | none => ts

/-- Element c of a row of wide partials as held; zero beyond the edge; NaN if its line has a reserved FLAGS
bit set (08 R321 to R324). -/
def heldWide (hs : List Held) (t : Tile) (r c : Nat) : ExElem :=
  if inBounds t r c then
    let l := heldLine hs 0 (r * rowLines true t.desc + c / 5)
    let i := c % 5
    let fl := bits l 511 480
    { a := BitVec.ofNat 96 (bits l (96 * i + 95) (96 * i))
      nan := bit fl (3 * i) || fl >>> 15 != 0
      pos := bit fl (3 * i + 1), neg := bit fl (3 * i + 2) }
  else {}

/-- ACCLOAD into a group (09 Table INM-5). -/
def accLoadApply (form : Nat) (d : Tile) (hs : List Held) (ts : List AccTile) : List AccTile :=
  let m := dRows d.desc
  let n := dCols d.desc
  onRegion m n (fun r c t =>
    let i := accElemIx r c
    match form with
    | 2 => { t with ex := tabSet i (heldWide hs d r c) t.ex }
    | 3 => { t with ex := tabSet i (exMerge (exOf t i) (heldWide hs d r c)) t.ex }
    | _ =>
      let v := heldVal hs 0 d r c
      if fmtIsExact (dFmt d.desc) then
        { t with ex := tabSet i (exAdd (if form == 0 then {} else exOf t i) v) t.ex }
      else if form == 0 then { t with od := tabSet i (BitVec.ofNat 32 (rne32 v)) t.od }
      else { t with od := tabSet i (BitVec.ofNat 32 (rne32 (valAdd (decodeVal 0 (odOf t i).toNat) v))) t.od }) ts

/-- The result of drained element (r, c), before rounding (09 R342). -/
def drainRes (n : Nat) (ts : List AccTile) (r c : Nat) : Res :=
  let t := ts.getD (accTileIx n r c) {}
  let i := accElemIx r c
  if t.cls = .exact then exRes (exOf t i) else resOf (decodeVal 0 (odOf t i).toNat)

/-- A line of wide partials from a group of tiles (08 R322, R323). -/
def drainWide (d : Tile) (ts : List AccTile) (j : Nat) : Nat :=
  let lr := rowLines true d.desc
  let n := dCols d.desc
  let r := j / lr
  (List.range 5).foldl (fun a i =>
    let c := 5 * (j % lr) + i
    if c < n then
      let e := exOf (ts.getD (accTileIx n r c) {}) (accElemIx r c)
      let fl := (if e.nan then 1 else 0) + (if e.pos then 2 else 0) + (if e.neg then 4 else 0)
      a + (e.a.toNat <<< (96 * i)) + (fl <<< (480 + 3 * i))
    else a) 0

/-! ## Vector results -/

/-- The index of element (r, c) in its logical tensor (10 R366). -/
def elemIx (t : Task) (r c : Nat) : Nat := (t.i0 + r * t.pitch + c) % pow2 48

/-- The generator's bits for SR at element (r, c) (08 R299, R305). -/
def srAt (t : Task) (r c : Nat) : Nat := srU (rg t.seed t.tid 0 (elemIx t r c))

def vArgsOf : VSlot → VArgs
  | .vadd f _ _ _ => f | .vsub f => f | .vmul f => f | .vfma f => f | .vmax f => f | .vmin f => f
  | .vexp f => f | .vlog f => f | .vrcp f => f | .vrsq f => f | .vcvt f => f | .vsel f => f
  | .vcmp f _ => f | .vsumrow f => f | .vmaxrow f => f | .vshuf f _ _ => f | .vrand f _ _ => f
  | .vsround f _ => f | .vdig f _ _ => f | .nop => { dd := 0 } | .bad => { dd := 0 }

/-- The sum of a row (10 R371): exact for the exact-class formats, by the tree in binary32 otherwise. -/
def rowSum (f : Nat) (vs : List Val) : Val :=
  if fmtIsExact f then valSum vs
  else canon (vs.map fun v => decodeVal 0 (rne32 v))

def rowMax (vs : List Val) : Val :=
  match vs with
  | [] => .nan
  | v :: rest => rest.foldl valMax v

/-- The result of element (r, c) of a vector instruction before its one rounding; tiles are D, A, B, C and the
sources of the held lines are 1 for A, 2 for B, 3 for C (10 Table INV-2). -/
def vecRes (t : Task) (s : VSlot) (r c : Nat) : Res :=
  let ta := t.tiles.getD 1 ⟨0, 0, 0⟩
  let a := heldVal t.held 1 ta r c
  let b := heldVal t.held 2 (t.tiles.getD 2 ⟨0, 0, 0⟩) r c
  let x := heldVal t.held 3 (t.tiles.getD 3 ⟨0, 0, 0⟩) r c
  let row := (List.range (dCols ta.desc)).map fun i => heldVal t.held 1 ta r i
  match s with
  | .vadd .. => resOf (valAdd a b)
  | .vsub _ => resOf (valAdd a (valNeg b))
  | .vmul _ => resOf (valMul a b)
  | .vfma _ => resOf (valAdd (valMul a b) x)
  | .vmax _ => resOf (valMax a b)
  | .vmin _ => resOf (valMin a b)
  | .vexp _ => resExp a
  | .vlog _ => resLog a
  | .vrcp _ => resRcp a
  | .vrsq _ => resRsq a
  | .vcvt _ => resOf a
  | .vsel _ => resOf (if valIsZero x then b else a)
  | .vcmp _ cond => if valCond cond.val a b then .num false (.dy 1 0) else .num false (.dy 0 0)
  | .vsumrow _ => resOf (rowSum (dFmt ta.desc) row)
  | .vmaxrow _ => resOf (rowMax row)
  | .vrand _ draw _ =>
    .num false (.dy (srU (rg t.seed t.tid draw.toNat (elemIx t r c))) (-24))
  | _ => .nan

/-- The source element VSHUF moves to (r, c) (10 Table INV-5). -/
def shufSrc (mode rot n r c : Nat) : Nat × Nat :=
  match mode with
  | 0 => (0, c)
  | 1 => (r, 0)
  | 2 => (r, (c + rot) % n)
  | _ => (c, r)

/-- The encoding of element (r, c) of a destination that is not MXF4. -/
def vecCode (t : Task) (s : VSlot) (r c : Nat) : Nat :=
  let td := t.tiles.getD 0 ⟨0, 0, 0⟩
  let ta := t.tiles.getD 1 ⟨0, 0, 0⟩
  let f := dFmt td.desc
  match s with
  | .vshuf _ mode _ =>
    let p := shufSrc mode.val t.s1 (dCols td.desc) r c
    heldEnc t.held 1 ta p.1 p.2
  | .vrand _ draw true =>
    let x := rg t.seed t.tid draw.toNat (elemIx t r c)
    if f == 6 then bits x 63 56 else bits x 63 60
  | .vrand _ _ false => convert f false .rtz 0 (vecRes t s r c)
  | .vsround _ keep => vsround f keep.val (srAt t r c) (heldVal t.held 1 ta r c)
  | _ =>
    let a := vArgsOf s
    convert f a.sat (rndOf a.rnd.val) (if a.rnd = 2 then srAt t r c else 0) (vecRes t s r c)

/-- Result, code and rounding of the instruction whose destination is tile 0. -/
def outRes (t : Task) (r c : Nat) : Res :=
  match t.op with
  | .v s => vecRes t s r c
  | .m (.accdrain ..) => drainRes (dCols (t.tiles.getD 0 ⟨0, 0, 0⟩).desc) t.accs r c
  | _ => .nan

def outRnd (t : Task) : Rnd :=
  match t.op with
  | .v (.vrand ..) => .rtz
  | .v s => rndOf (vArgsOf s).rnd.val
  | .m (.accdrain _ _ _ rnd _ _) => rndOf rnd.val
  | _ => .rne

/-- A zero drained from a fixed-point sum is +0, one that a negative sum rounds to included (08 R300). -/
def drainZero (t : Task) (r c f code : Nat) : Nat :=
  let x := t.accs.getD (accTileIx (dCols (t.tiles.getD 0 ⟨0, 0, 0⟩).desc) r c) {}
  if x.cls = .exact ∧ code = signBit f true then 0 else code

def outCode (t : Task) (r c : Nat) : Nat :=
  match t.op with
  | .v s => vecCode t s r c
  | .m (.accdrain _ _ _ rnd sat _) =>
    let f := dFmt (t.tiles.getD 0 ⟨0, 0, 0⟩).desc
    let x := convert f sat (rndOf rnd.val) (if rnd = 2 then srAt t r c else 0) (outRes t r c)
    if fmtIsInt f then x else drainZero t r c f x
  | _ => 0

/-- The MXF4 code of element (r, c) under its block's scale (08 R291, R303). -/
def outMxCode (t : Task) (scale r c : Nat) : Nat :=
  let x := mxCode scale (outRnd t) (srAt t r c) (outRes t r c)
  match t.op with
  | .m (.accdrain ..) => drainZero t r c 5 x
  | _ => x

/-- In-bounds results of MXF4 block b of a destination row. -/
def outBlock (t : Task) (d : Tile) (r b : Nat) : List Res :=
  ((List.range 32).filter fun i => inBounds d r (32 * b + i)).map fun i => outRes t r (32 * b + i)

/-- One nibble or element lane of a destination line: the value of stream line j of tile 0 (08 R293, R294,
R303). Lanes beyond the edge are 0; the line's mask leaves them unwritten. -/
def outLine (t : Task) (j : Nat) : Nat :=
  let d := t.tiles.getD 0 ⟨0, 0, 0⟩
  let lr := rowLines false d.desc
  let r := j / lr
  let l := j % lr
  let f := dFmt d.desc
  if f == 5 then
    let nb := ceilDiv (dCols d.desc) 32
    let codes := (List.range 128).foldl (fun a i =>
      let c := 128 * l + i
      if c < 32 * nb ∧ inBounds d r c then
        a + (outMxCode t (mxScale (outBlock t d r (c / 32))) r c <<< (4 * i))
      else a) 0
    (List.range nb).foldl (fun a b =>
      let o := 16 * nb + b
      if o / 64 = l ∧ inBounds d r (32 * b) then a + (mxScale (outBlock t d r b) <<< (8 * (o % 64))) else a) codes
  else
    let w := fmtWidth f
    let per := 512 / w
    (List.range per).foldl (fun a i =>
      let c := per * l + i
      if inBounds d r c then a + (outCode t r c <<< (w * i)) else a) 0

/-- The sum VDIG folds (10 R379 to R381): in-bounds elements of A only. -/
def digFold (t : Task) : Nat :=
  let ta := t.tiles.getD 1 ⟨0, 0, 0⟩
  let f := dFmt ta.desc
  (outputs (tileRowsIn ta) (tileColsIn ta)).foldl (fun a rc =>
    let v := heldCode t.held 1 ta.desc rc.1 rc.2 +
      (if f == 5 then 16 * heldScale t.held 1 ta.desc rc.1 rc.2 else 0)
    mask64 (a + dmix t.tid (elemIx t rc.1 rc.2) f v)) 0

/-- A nibble inside the row's bytes that holds no element (after the last I4 of an odd row, after the last MXF4 code)
carries the line read; where the line lies beyond the edge and is not read, the spec states no value, and it is free
(log entry 116). -/
def strayNibble (hs : List Held) (j i : Nat) : Nat :=
  if hs.any (fun h => h.src == 0 && h.j == j) then bits (heldLine hs 0 j) (4 * i + 3) (4 * i) else (Config.strayNibble j i).toNat

/-- The payload LAUNCH sends for stream line j (09 R351): fill encodings beyond the edge, 0 past a row's end,
0x7F for the scale of a block with no in-bounds element. -/
def launchLine (d : Tile) (hs : List Held) (j : Nat) : Nat :=
  let lr := rowLines false d.desc
  let r := j / lr
  let l := j % lr
  let f := dFmt d.desc
  let n := dCols d.desc
  let held := heldLine hs 0 j
  if f == 5 then
    let nb := ceilDiv n 32
    let codes := (List.range 128).foldl (fun a i =>
      let c := 128 * l + i
      if c < 32 * nb then
        a + ((if n ≤ c then strayNibble hs j i else if inBounds d r c then bits held (4 * i + 3) (4 * i)
              else fillCode 5 (dFill d.desc)) <<< (4 * i))
      else a) 0
    (List.range nb).foldl (fun a b =>
      let o := 16 * nb + b
      if o / 64 = l then
        a + ((if inBounds d r (32 * b) then bits held (8 * (o % 64) + 7) (8 * (o % 64)) else 0x7F) <<< (8 * (o % 64)))
      else a) codes
  else
    let w := fmtWidth f
    let per := 512 / w
    (List.range per).foldl (fun a i =>
      let c := per * l + i
      if w * c < 8 * rowBytes f n then
        a + ((if n ≤ c then strayNibble hs j i else if inBounds d r c then bits held (w * i + w - 1) (w * i)
              else fillCode f (dFill d.desc)) <<< (w * i))
      else a) 0

end Sys2Proof.Machine
end

