-- ==== Sys2Proof/Machine/Flags.lean ====
section
/-!
DEFINITION. Cause bits, interrupt vectors and tenancy faults (19 R650 to R654; 21 R709, R710; 23 R771, R772).
-/
namespace Sys2Proof.Machine

/-! ## Requests to the host (19 R647, R650) -/

def funcOf (d : Dev) (fn : Nat) : Func := tabGet {} d.host.func fn
def modFunc (fn : Nat) (f : Func → Func) (d : Dev) : Dev :=
  { d with host := { d.host with func := tabMod {} fn f d.host.func } }

/-- A function may issue requests: Bus Master Enable set, its VF enabled, no function-level reset (19 R647). -/
def canIssue (d : Dev) (fn : Nat) : Bool :=
  (funcOf d fn).bme && (fn == 0 || (funcOf d fn).enabled) && !(funcOf d fn).flr

/-- Issues a request of a function, or keeps it on its service crossing while the function may not (19 R647). -/
def issueOut (fn : Nat) (o : Out) (d : Dev) : Dev :=
  if canIssue d fn then { d with host := { d.host with posted := d.host.posted ++ [o] } }
  else { d with host := { d.host with blocked := d.host.blocked ++ [(fn, o)] } }

/-- Records something that leaves the device on a path no function owns. -/
def emit (o : Out) (d : Dev) : Dev := { d with host := { d.host with posted := d.host.posted ++ [o] } }

/-- n bytes of a number, least significant first. -/
def leBytes : Nat → Nat → List Byte
  | 0, _ => []
  | n + 1, v => BitVec.ofNat 8 v :: leBytes n (v / 256)

/-- The number that bytes spell, least significant first. -/
def leNat : List Byte → Nat
  | [] => 0
  | b :: t => b.toNat + 256 * leNat t

/-! ## MSI-X (19 R651, R652) -/

/-- Vectors of a function's table (19 R651). -/
def tableSize (fn : Nat) : Nat := if fn = 0 then 64 else 32

/-- Sends a message, or withholds and counts it while the vector or the function is masked (19 R652). -/
def sendMsix (fn v : Nat) (d : Dev) : Dev :=
  let f := funcOf d fn
  let e := tabGet {} f.msix v
  if tableSize fn ≤ v then d
  else if e.mask || f.mask then
    modFunc fn (fun f => { f with msix := tabSet v { e with withheld := min (e.withheld + 1) 65535 } f.msix }) d
  else issueOut fn (.msix fn v e.addr e.data) d

/-! ## Cause bits (19 R654; 23 R772) -/

/-- Sets a cause bit of a tenancy; a change of an enabled bit from 0 to 1 sends the vector. -/
def raiseCause (t b : Nat) (d : Dev) : Dev :=
  let x := tenOf d t
  let d1 := modTen t (fun x => { x with tcause := x.tcause ||| BitVec.ofNat 32 (pow2 b) }) d
  if bit x.tenable.toNat b && !bit x.tcause.toNat b then sendMsix (recFunction (grantOf d t)) x.tvector d1 else d1

/-- Sets a cause bit of the device entry (23 Table REG-11). -/
def raiseDev (b : Nat) (d : Dev) : Dev :=
  let d1 := { d with host := { d.host with dcause := d.host.dcause ||| BitVec.ofNat 32 (pow2 b) } }
  if bit d.host.denable.toNat b && !bit d.host.dcause.toNat b then sendMsix 0 d.host.dvector d1 else d1

/-! ## Tenancy faults -/

def fcEcc : Nat := 0x01
def fcWindow : Nat := 0x02
def fcVoidFlit : Nat := 0x03
def fcSlipLimit : Nat := 0x04
def fcLinkLost : Nat := 0x05
def fcSinkAbsent : Nat := 0x06
def fcRevoked : Nat := 0x07
def fcWatchdog : Nat := 0x08
def fcDroop : Nat := 0x09
def fcThermal : Nat := 0x0A
def fcBsu : Nat := 0x0B
def fcDma : Nat := 0x0C
def fcPoison : Nat := 0x0D
def fcIllegalBundle : Nat := 0x0E

/-- FAULTS_AFTER saturates at 24 bits (23 Table REG-10). -/
def faultsInc (n : Nat) : Nat := if n < 0xFFFFFF then n + 1 else 0xFFFFFF

/-- 21 R709, R710: the first fault between two boundaries is recorded; in one tick the lowest code wins;
FC_DROOP and FC_THERMAL replace any other code; every other fault is counted. -/
def recordFault (gc now code : Nat) (x : Tenancy) : Tenancy :=
  if x.stopDue then
    if code = fcDroop ∨ code = fcThermal then
      (if x.fault = fcDroop ∨ x.fault = fcThermal then { x with faultsAfter := faultsInc x.faultsAfter }
       else { x with fault := code, faultGc := gc, faultTick := now, faultsAfter := faultsInc x.faultsAfter })
    else if x.faultTick = now ∧ code < x.fault ∧ x.fault ≠ fcDroop ∧ x.fault ≠ fcThermal then
      { x with fault := code, faultsAfter := faultsInc x.faultsAfter }
    else { x with faultsAfter := faultsInc x.faultsAfter }
  else { x with fault := code, faultGc := gc, faultTick := now, stopDue := true }

/-- Raises a tenancy fault at the present tick and sets TCAUSE.FAULT (21 R709). -/
def raiseFault (t code : Nat) (d : Dev) : Dev :=
  raiseCause t 0 (modTen t (recordFault (gcOf d.whl) d.whl.now code) d)

/-- Raises a fault of the tenancy that holds a cluster, if one does. -/
def faultHolder (cl code : Nat) (d : Dev) : Dev :=
  match holderOf d cl with
  | some t => raiseFault t code d
  | none => d

end Sys2Proof.Machine
end

