-- ==== Sys2Proof/Machine/Issue.lean ====
section
/-!
DEFINITION. The issue checks of a bundle and the tasks its slots start.
07 R248 to R263; 09 R326, R334 to R354, Table INM-2, Table INM-3; 10 R357 to R392.
-/
namespace Sys2Proof.Machine

/-! ## Reading the cluster -/

def sOf (k : Cluster) (i : Nat) : W32 := tabGet 0 k.s i
def sNat (k : Cluster) (i : Nat) : Nat := (sOf k i).toNat
def dOf (k : Cluster) (i : Nat) : W64 := tabGet 0 k.d i
/-- m0 always reads (256, 256) (07 R260). -/
def mOf (k : Cluster) (i : Nat) : EdgeMask := if i = 0 then {} else tabGet {} k.m i
def accOf (k : Cluster) (i : Nat) : AccTile := tabGet {} k.acc i
def lsOf (k : Cluster) (i : Nat) : LaunchSlot := tabGet (.free 0) k.ls i
/-- Landing entries are numbered buffer * 32 + entry. -/
def lbOf (k : Cluster) (i : Nat) : LbEntry := tabGet {} k.lb i

def tileOf (k : Cluster) (i : Nat) : Tile :=
  let d := dOf k i
  let e := mOf k (dEmask d)
  { desc := d, rowLim := e.row, colLim := e.col }

/-- Seed, T, I0 and P of the context at q = 4 * SRQ (09 Table INM-6). -/
def ctxSeed (k : Cluster) (q : Nat) : Nat := sNat k q + pow2 32 * sNat k (q + 1)
def ctxTid (k : Cluster) (q : Nat) : Nat := sNat k (q + 2) % pow2 24
def ctxI0 (k : Cluster) (q : Nat) : Nat := sNat k (q + 3) + pow2 32 * (sNat k (q + 4) % pow2 16)
def ctxPitch (k : Cluster) (q : Nat) : Nat := sNat k (q + 5)

/-! ## Items a slot names (07 R250, R251) -/

def descItems (k : Cluster) (i : Nat) : List PendItem := [.desc i, .mask (dEmask (dOf k i))]
def ctxItems (q : Nat) : List PendItem := (List.range 6).map fun i => .scalar (q + i)
def accItems (acc n : Nat) : List PendItem := (List.range n).map fun i => .acc (acc + i)

/-- Whether an item's pending mark is set at the present cycle. -/
def isPending (k : Cluster) (i : PendItem) : Bool :=
  k.pend.any fun p => p.1 == i && decide (k.cyc < p.2)

def anyPending (k : Cluster) (is : List PendItem) : Bool := is.any (isPending k)

/-! ## The M slot -/

/-- Rows, columns and depth of a matrix product (09 R335). -/
def mmaM (k : Cluster) (da : Nat) : Nat := dRows (dOf k da)
def mmaK (k : Cluster) (da : Nat) : Nat := dCols (dOf k da)
def mmaN (k : Cluster) (tr : Bool) (db : Nat) : Nat := if tr then dRows (dOf k db) else dCols (dOf k db)
def mmaKb (k : Cluster) (tr : Bool) (db : Nat) : Nat := if tr then dCols (dOf k db) else dRows (dOf k db)

/-- Occupancy of a matrix instruction (09 Table INM-3, R336). -/
def mmaOcc (k : Cluster) (tr : Bool) (da db : Nat) : Nat :=
  let f2 := max (factor2 (dFmt (dOf k da))) (factor2 (dFmt (dOf k db)))
  ceilDiv (accTiles (mmaM k da) (mmaN k tr db) * mmaK k da * f2) 2

/-- Start alignment of a group of n tiles (07 R263, 09 R340). -/
def accAligned (acc n : Nat) : Bool :=
  match n with | 1 => true | 2 => acc % 2 == 0 | 4 => acc % 4 == 0 | 8 => acc == 0 | _ => false

def mmaCheck (k : Cluster) (tr zero : Bool) (da db acc : Nat) : Bool :=
  let a := dOf k da
  let b := dOf k db
  let m := mmaM k da
  let n := mmaN k tr db
  let occ := mmaOcc k tr da db
  descOk false a && descOk false b &&
  decide (m ≤ 128) && decide (n ≤ 128) && decide (mmaK k da ≤ 256) && mmaK k da == mmaKb k tr db &&
  accAligned acc (accTiles m n) &&
  decide (ceilDiv (streamLen false a) occ ≤ 8) && decide (ceilDiv (streamLen false b) occ ≤ 8) &&
  (match pairing (dFmt a) (dFmt b) with
   | none => false
   | some (c, _) => zero || (List.range (accTiles m n)).all fun i => decide ((accOf k (acc + i)).cls = c)) &&
  !anyPending k (descItems k da ++ descItems k db) &&
  (!zero || !anyPending k (accItems acc (accTiles m n)))

def acczeroCount (cnt : Nat) : Nat := pow2 cnt

/-- The class an ACCLOAD sets or needs (09 Table INM-5); none where the combination fails. -/
def accLoadClass (form f : Nat) : Option AccClass :=
  if form == 2 || form == 3 then some .exact
  else if fmtIsExact f then some .exact
  else if f == 5 then none
  else some .ordered

def accLoadCheck (k : Cluster) (d acc form : Nat) : Bool :=
  let e := dOf k d
  let wide := form == 2 || form == 3
  let m := dRows e
  let n := dCols e
  let ts := (List.range (accTiles m n)).map fun i => (accOf k (acc + i)).cls
  descOk wide e && decide (m ≤ 128) && decide (n ≤ 128) && accAligned acc (accTiles m n) &&
  !anyPending k (descItems k d ++ accItems acc (accTiles m n)) &&
  (match accLoadClass form (dFmt e) with
   | none => false
   | some c =>
     if form == 0 then true
     else if form == 2 then ts.all fun x => decide (x ≠ .ordered)
     else ts.all fun x => decide (x = c))

def accDrainCheck (k : Cluster) (d acc : Nat) (wide : Bool) (rnd : Nat) (sat : Bool) (srq : Nat) : Bool :=
  let e := dOf k d
  let m := dRows e
  let n := dCols e
  let ts := (List.range (accTiles m n)).map fun i => (accOf k (acc + i)).cls
  descOk wide e && decide (m ≤ 128) && decide (n ≤ 128) && accAligned acc (accTiles m n) &&
  !anyPending k (descItems k d ++ accItems acc (accTiles m n)) &&
  decide (rnd ≠ 3) &&
  (if wide then rnd == 0 && !sat && srq == 0 && ts.all fun x => decide (x = .exact)
   else ts.all fun x => decide (x ≠ .unset)) &&
  (if rnd == 2 then decide (srq ≠ 7) && !anyPending k (ctxItems (4 * srq)) else srq == 0)

def mCheck (k : Cluster) (s : MSlot) : Bool :=
  match s with
  | .nop => true
  | .bad => false
  | .mma da db acc => decide (k.busyM ≤ k.cyc) && mmaCheck k false false da.val db.val acc.val
  | .mmaz da db acc => decide (k.busyM ≤ k.cyc) && mmaCheck k false true da.val db.val acc.val
  | .mmat da db acc zero => decide (k.busyM ≤ k.cyc) && mmaCheck k true zero da.val db.val acc.val
  | .acczero acc cnt cls =>
    decide (k.busyM ≤ k.cyc) && accAligned acc.val (acczeroCount cnt.val) && decide (cls.val ≠ 3) &&
    !anyPending k (accItems acc.val (acczeroCount cnt.val))
  | .accload d acc form => decide (k.busyM ≤ k.cyc) && accLoadCheck k d.val acc.val form.val
  | .accdrain d acc wide rnd sat srq =>
    decide (k.busyM ≤ k.cyc) && accDrainCheck k d.val acc.val wide rnd.val sat srq.val

/-! ## The V slot (10 Table INV-2, Table INV-3) -/

/-- Cycles after its step at which a destination line is written, and the extra latency (10 Table INV-3). -/
def vExtra : VSlot → Nat
  | .vfma _ => 5
  | .vexp _ | .vlog _ | .vrcp _ | .vrsq _ => 12
  | .vsumrow _ | .vmaxrow _ => 8
  | .vrand .. | .vsround .. | .vdig .. => 6
  | _ => 4

/-- Which of A, B, C an instruction reads. -/
def vSources : VSlot → List Nat
  | .vadd .. | .vsub _ | .vmul _ | .vmax _ | .vmin _ | .vcmp .. => [1, 2]
  | .vfma _ | .vsel _ => [1, 2, 3]
  | .vrand .. | .nop | .bad => []
  | _ => [1]

def vDescIx (f : VArgs) (src : Nat) : Nat :=
  match src with | 0 => f.dd.val | 1 => f.da.val | 2 => f.db.val | _ => f.dc.val

/-- RND values of Table INV-2. -/
def vRndOk : VSlot → Bool
  | .vexp f | .vlog f => decide (f.rnd.val ≤ 1)
  | .vcmp f _ | .vshuf f .. | .vrand f .. | .vsround f _ | .vdig f .. => f.rnd.val == 0
  | s => decide ((vArgsOf s).rnd.val ≤ 2)

def vSatOk : VSlot → Bool
  | .vcmp f _ | .vshuf f .. | .vrand f .. | .vsround f _ | .vdig f .. => !f.sat
  | _ => true

/-- Whether SRQ is read (10 R359). -/
def vUsesCtx : VSlot → Bool
  | .vrand .. | .vsround .. | .vdig .. => true
  | s => (vArgsOf s).rnd.val == 2

/-- Unused descriptor fields are reserved (10 R358). -/
def vFieldsOk (s : VSlot) : Bool :=
  let f := vArgsOf s
  let src := vSources s
  (src.contains 1 || f.da == 0) && (src.contains 2 || f.db == 0) && (src.contains 3 || f.dc == 0) &&
  (match s with
   | .vdig g _ _ => g.dd == 0
   | .vcmp _ c => decide (c.val ≤ 5)
   | .vadd g fo sOrd rank => if fo then g.rnd == 0 else sOrd == 0 && rank == 0
   | .vshuf _ mode sRot => mode == 2 || sRot == 0
   | _ => true)

/-- Geometry and formats (10 R360, R373 to R378). -/
def vGeometryOk (k : Cluster) (s : VSlot) : Bool :=
  let f := vArgsOf s
  let d := dOf k f.dd.val
  let a := dOf k f.da.val
  let same (e : W64) : Bool := dRows e == dRows d && dCols e == dCols d
  match s with
  | .vsumrow _ | .vmaxrow _ => dRows d == dRows a && dCols d == 1
  | .vshuf _ mode _ =>
    dFmt a == dFmt d && dFmt a != 5 && decide (dRows a * tileRowBytes false a ≤ 16384) &&
    (match mode.val with
     | 0 => dRows a == 1 && dCols a == dCols d
     | 1 => dCols a == 1 && dRows a == dRows d
     | 2 => same a
     | _ => dRows d == dCols a && dCols d == dRows a)
  | .vrand _ _ b => if b then fmtIsInt (dFmt d) else !fmtIsInt (dFmt d)
  | .vsround _ keep =>
    same a && dFmt a == dFmt d && decide (dFmt a ≤ 2) && decide (keep.val < fmtSig (dFmt a))
  | .vadd _ fo _ _ =>
    same a && same (dOf k f.db.val) && (!fo || (dFmt d == 0 && dFmt a == 0 && dFmt (dOf k f.db.val) == 0))
  | .vdig .. => true
  | _ => (vSources s).all fun i => same (dOf k (vDescIx f i))

def vDescs (s : VSlot) : List Nat :=
  let f := vArgsOf s
  match s with
  | .vdig .. => [f.da.val]
  | _ => f.dd.val :: (vSources s).map (vDescIx f)

def vItems (k : Cluster) (s : VSlot) : List PendItem :=
  let f := vArgsOf s
  (vDescs s).flatMap (descItems k) ++
  (if vUsesCtx s then
    match s with
    | .vdig .. => (ctxItems (4 * f.srq.val)).drop 2
    | _ => ctxItems (4 * f.srq.val)
   else []) ++
  (match s with
   | .vadd _ true sOrd _ => [.scalar sOrd.val]
   | .vshuf _ mode sRot => if mode == 2 then [.scalar sRot.val] else []
   | .vdig .. => [.dig]
   | _ => [])

def vCheck (k : Cluster) (s : VSlot) : Bool :=
  match s with
  | .nop => true
  | .bad => false
  | s =>
    let f := vArgsOf s
    decide (k.busyV ≤ k.cyc) && vRndOk s && vSatOk s && vFieldsOk s &&
    (if vUsesCtx s then decide (f.srq.val ≠ 7) else f.srq == 0) &&
    (vDescs s).all (fun i => descOk false (dOf k i)) && vGeometryOk k s && !anyPending k (vItems k s)

/-! ## The X slot -/

/-- Column slots in a phase (06 R210). -/
def nSlots (w : Nat) : Nat := (w / 64 - 2) * 4 / 5 - 7

def xDesc : XSlot → Option Nat
  | .pload d .. | .pstore d .. | .launch d .. | .land d .. | .landany d .. => some d.val
  | _ => none

def xScalars : XSlot → List Nat
  | .pload _ _ a b c | .pstore _ _ a b c => [a.val, b.val, c.val]
  | .sget d b _ => [d.val, b.val]
  | .sput s b _ => [s.val, b.val]
  | .launch _ _ a b => [a.val, b.val]
  | .land _ t _ => [t.val]
  | .landany _ t _ d => [t.val, d.val]
  | _ => []

/-- Pane byte offset of SGET and SPUT (09 R349). -/
def sgetOff (k : Cluster) (b imm : Nat) : Nat := (sNat k b + imm) % pow2 32

def xCheck (w : Nat) (k : Cluster) (s : XSlot) : Bool :=
  match s with
  | .nop => true
  | .bad => false
  | s =>
    decide (k.busyX ≤ k.cyc) &&
    (match xDesc s with | some d => descOk false (dOf k d) && !anyPending k (descItems k d) | none => true) &&
    !anyPending k ((xScalars s).map .scalar) &&
    (match s with
     | .pload d _ _ _ sl | .pstore d _ _ _ sl =>
       decide (streamLen false (dOf k d.val) ≤ 16) && decide (sNat k sl.val % 1024 < nSlots w)
     | .launch d .. | .land d .. | .landany d .. => decide (streamLen false (dOf k d.val) ≤ 32)
     | .sget _ b imm | .sput _ b imm => sgetOff k b.val imm.toNat % 4 == 0
     | _ => true)

/-! ## The C slot -/

/-- Position and width of a descriptor field, and the least value it may hold (10 Table INV-8). -/
def fieldSpec (fsel : Nat) : Option (Nat × Nat × Nat) :=
  match fsel with
  | 0 => some (0, 16, 0) | 1 => some (16, 8, 0) | 2 => some (24, 8, 0) | 3 => some (32, 16, 1)
  | 4 => some (48, 3, 0) | 5 => some (51, 2, 0) | 6 => some (53, 3, 0) | _ => none

def fieldGet (d : W64) (lo n : Nat) : Nat := bits d.toNat (lo + n - 1) lo
def fieldSet (d : W64) (lo n v : Nat) : W64 :=
  BitVec.ofNat 64 (mergeBits d.toNat (v <<< lo) (rangeMask lo (lo + n)))

/-- The operand of ADDS and MULS. -/
def cOperand (k : Cluster) (src : Bool) (sB : Nat) (imm : W32) : Nat := if src then sNat k sB else imm.toNat

/-- The value ADDS or SETS gives a descriptor field, none where it falls outside the field (10 R384). -/
def fieldResult (k : Cluster) (add : Bool) (dst fsel v : Nat) : Option W64 :=
  match fieldSpec fsel with
  | none => none
  | some (lo, n, least) =>
    let d := dOf k (dst % 16)
    let r : Int := if add then (fieldGet d lo n : Int) + signedOf 32 v else (v : Int)
    if (least : Int) ≤ r ∧ r < (pow2 n : Int) then some (fieldSet d lo n r.toNat) else none

def loopCount (k : Cluster) (src : Bool) (sC : Nat) (imm : W32) : Nat := if src then sNat k sC else imm.toNat

def edgeRow (k : Cluster) (src : Bool) (i : BitVec 9) (s : Nat) : Nat := if src then sNat k s else i.toNat

def cCheck (w : Nat) (k : Cluster) (s : CSlot) : Bool :=
  (match k.loops with
   | top :: _ => if top.endIx = k.pc then decide (s = .endloop) else true
   | [] => true) &&
  (match s with
   | .nop | .halt => true
   | .bad => false
   | .loop src sC _ e =>
     (src || sC == 0) && (!src || !isPending k (.scalar sC.val)) &&
     decide (k.pc < e.toNat) && decide (e.toNat < k.bundleCount) && decide (k.loops.length < 4) &&
     (match k.loops with | top :: _ => decide (e.toNat < top.endIx) | [] => true)
   | .endloop => (match k.loops with | top :: _ => top.endIx == k.pc | [] => false)
   | .waittick t _ src sT =>
     if src then decide (sNat k sT.val < 65536) && decide (sNat k sT.val < w)
     else sT == 0 && decide (t.toNat < w)
   | .waitcyc _ src sN => if src then decide (sNat k sN.val ≤ 65535) else sN == 0
   | .sets dk dst fsel imm =>
     if dk then
       decide (dst.val < 16) && (fieldResult k false dst.val fsel.val imm.toNat).isSome && !isPending k (.desc dst.val)
     else fsel == 0 && !isPending k (.scalar dst.val)
   | .adds dk dst fsel sA src sB imm =>
     (src || sB == 0) && (!src || !isPending k (.scalar sB.val)) &&
     (if dk then
        decide (dst.val < 16) && sA == 0 &&
        (fieldResult k true dst.val fsel.val (cOperand k src sB.val imm)).isSome && !isPending k (.desc dst.val)
      else fsel == 0 && !isPending k (.scalar dst.val) && !isPending k (.scalar sA.val))
   | .muls dk dst fsel sA src sB _ =>
     !dk && fsel == 0 && (src || sB == 0) && (!src || !isPending k (.scalar sB.val)) &&
     !isPending k (.scalar dst.val) && !isPending k (.scalar sA.val)
   | .edge m src ri ci sR sC =>
     decide (m ≠ 0) && !isPending k (.mask m.val) &&
     (if src then !isPending k (.scalar sR.val) && !isPending k (.scalar sC.val) else sR == 0 && sC == 0) &&
     decide (edgeRow k src ri sR.val ≤ 256) && decide (edgeRow k src ci sC.val ≤ 256))

/-- The scalar WAITTICK or WAITCYC reads is checked when the sequencer reaches the bundle (10 R387, R388). -/
def waitReachOk (k : Cluster) (s : CSlot) : Bool :=
  match s with
  | .waittick _ _ true sT => !isPending k (.scalar sT.val)
  | .waitcyc _ true sN => !isPending k (.scalar sN.val)
  | _ => true

/-! ## Combination rules (10 Table INV-9) -/

def cDest : CSlot → List PendItem
  | .sets dk dst .. | .adds dk dst .. | .muls dk dst .. => [if dk then .desc (dst.val % 16) else .scalar dst.val]
  | .edge m .. => [.mask m.val]
  | _ => []

def xDest : XSlot → List PendItem
  | .sget d _ _ => [.scalar d.val]
  | .landany _ _ _ d => [.scalar d.val]
  | _ => []

/-- Whether a bundle passes its issue checks at the cluster's present cycle (07 R251; 10 R392). -/
def issueOk (w : Nat) (k : Cluster) (b : Bundle) : Bool :=
  decide (k.pc < k.bundleCount) && cCheck w k b.c && xCheck w k b.x && vCheck k b.v && mCheck k b.m &&
  !((cDest b.c).any fun i => (xDest b.x).contains i)

/-! ## Tasks (09 Table INM-2, Table INM-3; 10 R361 to R363) -/

/-- Reads of a stream, line j at cycle t0 + at j, skipping lines beyond the edge. -/
def readOps (wide : Bool) (t : Tile) (src t0 : Nat) (at' : Nat → Nat) : List (Nat × Micro) :=
  ((List.range (streamLen wide t.desc)).filter fun j =>
    if wide then wideMask t j != 0 else lineMask t j != 0).map fun j =>
      (t0 + at' j, Micro.read src j (streamLine wide t.desc j))

def writeOps (wide : Bool) (t : Tile) (t0 : Nat) (at' : Nat → Nat) : List (Nat × Micro) :=
  ((List.range (streamLen wide t.desc)).filter fun j =>
    if wide then wideMask t j != 0 else lineMask t j != 0).map fun j =>
      (t0 + at' j, Micro.write j (streamLine wide t.desc j))

def mmaTask (k : Cluster) (s : MSlot) (tr : Bool) (da db acc : Nat) : Task × Nat × List (PendItem × Nat) :=
  let a := tileOf k da
  let b := tileOf k db
  let occ := mmaOcc k tr da db
  let ba := ceilDiv (streamLen false a.desc) occ
  let bb := ceilDiv (streamLen false b.desc) occ
  ({ op := .m s, tiles := [a, b], s1 := acc
     todo := readOps false a 0 k.cyc (fun j => j / ba) ++ readOps false b 1 k.cyc (fun j => j / bb) ++
       [(k.cyc + occ + 11, .done)] },
    k.cyc + occ,
    (accItems acc (accTiles (mmaM k da) (mmaN k tr db))).map fun i => (i, k.cyc + occ + 11))

/-- Task, end of occupancy and pending marks of an M-slot instruction. -/
def mTask (k : Cluster) (s : MSlot) : Option (Task × Nat × List (PendItem × Nat)) :=
  match s with
  | .nop | .bad => none
  | .mma da db acc | .mmaz da db acc => some (mmaTask k s false da.val db.val acc.val)
  | .mmat da db acc _ => some (mmaTask k s true da.val db.val acc.val)
  | .acczero acc cnt _ =>
    some ({ op := .m s, tiles := [], todo := [(k.cyc + 2, .done)] }, k.cyc + 1,
      (accItems acc.val (acczeroCount cnt.val)).map fun i => (i, k.cyc + 2))
  | .accload d acc form =>
    let t := tileOf k d.val
    let wide := form.val == 2 || form.val == 3
    let nt := accTiles (dRows t.desc) (dCols t.desc)
    let occ := max (16 * nt) (streamLen wide t.desc)
    some ({ op := .m s, tiles := [t], s1 := acc.val
            todo := readOps wide t 0 k.cyc (fun j => j) ++ [(k.cyc + occ + 6, .done)] },
      k.cyc + occ, (accItems acc.val nt).map fun i => (i, k.cyc + occ + 6))
  | .accdrain d acc wide _ _ srq =>
    let t := tileOf k d.val
    let nt := accTiles (dRows t.desc) (dCols t.desc)
    let occ := max (16 * nt) (streamLen wide t.desc)
    let q := 4 * srq.val
    some ({ op := .m s, tiles := [t], s1 := acc.val
            seed := ctxSeed k q, tid := ctxTid k q, i0 := ctxI0 k q, pitch := ctxPitch k q
            accs := (List.range nt).map fun i => accOf k (acc.val + i)
            todo := writeOps wide t k.cyc (fun j => 6 + j) },
      k.cyc + occ, [])

/-- First and last element of line l of a row of n elements in format f (10 R362). -/
def lineFirst (f l : Nat) : Nat := 512 * l / fmtWidth f
def lineLast (f n l : Nat) : Nat := min (512 * (l + 1) / fmtWidth f - 1) (n - 1)

/-- Whether line l of an MXF4 row of n elements holds a scale byte. -/
def lineHasScale (f n l : Nat) : Bool :=
  f == 5 && (let nb := ceilDiv n 32
             decide (16 * nb < 64 * (l + 1)) && decide (64 * l < 17 * nb))

/-- Step, within its row of sr steps, that reads line l; and the one after which it is written. -/
def readStep (f n l : Nat) : Nat := if lineHasScale f n l then 0 else lineFirst f l / 32
def writeStep (f n sr l : Nat) : Nat := if lineHasScale f n l then sr - 1 else lineLast f n l / 32

def vecReads (t : Tile) (src t0 sr : Nat) : List (Nat × Micro) :=
  let lr := rowLines false t.desc
  readOps false t src t0 (fun j => (j / lr) * sr + readStep (dFmt t.desc) (dCols t.desc) (j % lr))

def vecWrites (t : Tile) (t0 sr : Nat) (one : Bool) : List (Nat × Micro) :=
  let lr := rowLines false t.desc
  writeOps false t t0 (fun j => (j / lr) * sr +
    (if one then sr - 1 else writeStep (dFmt t.desc) (dCols t.desc) sr (j % lr)))

def vTask (k : Cluster) (s : VSlot) : Option (Task × Nat × List (PendItem × Nat)) :=
  match s with
  | .nop | .bad => none
  | s =>
    let f := vArgsOf s
    let td := tileOf k f.dd.val
    let ta := tileOf k f.da.val
    let tiles := [td, ta, tileOf k f.db.val, tileOf k f.dc.val]
    let q := 4 * f.srq.val
    let p := vExtra s
    let stepsOf (t : Tile) : Nat := ceilDiv (dCols t.desc) 32
    let total (t : Tile) : Nat := dRows t.desc * stepsOf t
    let base : Task :=
      { op := .v s, tiles := tiles, seed := ctxSeed k q, tid := ctxTid k q, i0 := ctxI0 k q, pitch := ctxPitch k q, todo := [] }
    match s with
    | .vdig .. =>
      some ({ base with todo := vecReads ta 1 k.cyc (stepsOf ta) ++ [(k.cyc + total ta + p, .done)] },
        k.cyc + total ta, [(.dig, k.cyc + total ta + p)])
    | .vsumrow _ | .vmaxrow _ =>
      some ({ base with todo := vecReads ta 1 k.cyc (stepsOf ta) ++ vecWrites td (k.cyc + p) (stepsOf ta) true },
        k.cyc + total ta, [])
    | .vshuf _ _ sRot =>
      some ({ base with
              s1 := sNat k sRot.val
              todo := vecReads ta 1 k.cyc (stepsOf ta) ++ vecWrites td (k.cyc + total ta + p) (stepsOf td) false },
        k.cyc + total ta + total td, [])
    | _ =>
      some ({ base with
              todo := (vSources s).flatMap (fun i => vecReads (tiles.getD i td) i k.cyc (stepsOf td)) ++
                vecWrites td (k.cyc + p) (stepsOf td) false },
        k.cyc + total td, [])

/-- Column position j slots after a first (phase, slot), and how often PHASE_63 was left (09 R346). -/
def slotAfter (ns ph sl j : Nat) : Nat × Nat × Nat :=
  let a := ph * ns + sl + j
  (a / ns % 64, a % ns, a / ns / 64)

/-- The request word of stream line j (06 Table MEM-4; 09 R345, R346). -/
def requestWord (w : Nat) (k : Cluster) (wr : Bool) (t : Tile) (slot off cst winBase j : Nat) : W64 :=
  let lr := rowLines false t.desc
  let p := slotAfter (nSlots w) (bits slot 15 10) (slot % 1024) j
  let lap := (k.wcur + bits slot 16 16 + p.2.2) % 2
  let line := winBase * 16384 + off + (j / lr) * cst + j % lr
  BitVec.ofNat 64 ((if wr then 1 else 0) + lap * 4 + p.1 * 8 + p.2.1 * pow2 9 + line % pow2 21 * pow2 19 +
    (streamLine false t.desc j % pow2 16) * pow2 40)

/-- Window offset of stream line j (09 R345). -/
def colOffset (t : Tile) (off cst j : Nat) : Nat :=
  off + (j / rowLines false t.desc) * cst + j % rowLines false t.desc

/-- Lines of a stream that are not wholly beyond the edge. -/
def linesIn (t : Tile) : List Nat := (List.range (streamLen false t.desc)).filter fun j => lineMask t j != 0

/-- The buffer LANDANY chooses, if any (09 R354): readable full entries of the lap, the earliest tick first. -/
def landCandidate (k : Cluster) (lap e b : Nat) : Bool :=
  let x := lbOf k (32 * b + e)
  x.full && x.lap == lap && decide (x.cyc + 4 ≤ k.cyc)

def landChoice (k : Cluster) (mask lap e : Nat) : Option Nat :=
  (List.range 8).foldl (fun (o : Option Nat) b =>
    if bit mask b && landCandidate k lap e b then
      match o with
      | none => some b
      | some c => if (lbOf k (32 * b + e)).tick < (lbOf k (32 * c + e)).tick then some b else some c
    else o) none

def landOps (t : Tile) (buf e t0 : Nat) : List (Nat × Micro) :=
  ((List.range (streamLen false t.desc)).map fun i => (t0 + i, Micro.exam i buf ((e + i) % 32))) ++
  writeOps false t t0 (fun j => 1 + j)

def xTask (w : Nat) (winBase : Nat → Nat) (k : Cluster) (s : XSlot) :
    Option (Task × Nat × List (PendItem × Nat)) :=
  match s with
  | .nop | .bad => none
  | .pload d win sOff sCst sSlot =>
    let t := tileOf k d.val
    let n := streamLen false t.desc
    some ({ op := .x s, tiles := [t], s1 := sNat k sOff.val, s2 := sNat k sCst.val
            todo := (linesIn t).map fun j => (k.cyc + 1 + j, Micro.request j
              (requestWord w k false t (sNat k sSlot.val) (sNat k sOff.val) (sNat k sCst.val) (winBase win.val) j)) },
      k.cyc + n, [])
  | .pstore d win sOff sCst sSlot =>
    let t := tileOf k d.val
    let n := streamLen false t.desc
    some ({ op := .x s, tiles := [t], s1 := sNat k sOff.val, s2 := sNat k sCst.val
            todo := readOps false t 0 k.cyc (fun j => j) ++ (linesIn t).map fun j => (k.cyc + 4 + j, Micro.request j
              (requestWord w k true t (sNat k sSlot.val) (sNat k sOff.val) (sNat k sCst.val) (winBase win.val) j)) },
      k.cyc + n, [])
  | .sget sD sB imm =>
    some ({ op := .x s, tiles := [], todo := [(k.cyc, .sget (sgetOff k sB.val imm.toNat)), (k.cyc + 4, .done)] },
      k.cyc + 1, [(.scalar sD.val, k.cyc + 4)])
  | .sput sS sB imm =>
    some ({ op := .x s, tiles := [], todo := [(k.cyc, .sput (sgetOff k sB.val imm.toNat) (sNat k sS.val))] },
      k.cyc + 1, [])
  | .launch d _ sDep sTag =>
    let t := tileOf k d.val
    let n := streamLen false t.desc
    some ({ op := .x s, tiles := [t], s1 := sNat k sDep.val, s2 := sNat k sTag.val
            todo := readOps false t 0 k.cyc (fun j => j) ++
              (List.range n).map fun i => (k.cyc + 3 + i, Micro.payload i) },
      k.cyc + n, [])
  | .land d sTag noWrite =>
    let t := tileOf k d.val
    let n := streamLen false t.desc
    let g := sNat k sTag.val
    let buf := bits g 9 7
    let e := g % 32
    some ({ op := .x s, tiles := [t], s1 := bits g 6 5
            todo := if noWrite then (List.range n).map fun i => (k.cyc + i, Micro.clear buf ((e + i) % 32))
              else landOps t buf e k.cyc },
      k.cyc + n, [])
  | .landany d sTag mask sD =>
    let t := tileOf k d.val
    let n := streamLen false t.desc
    let g := sNat k sTag.val
    let e := g % 32
    match landChoice k mask.toNat (bits g 6 5) e with
    | some b =>
      some ({ op := .x s, tiles := [t], s1 := bits g 6 5, s2 := b
              todo := landOps t b e k.cyc ++ [(k.cyc + n + 1, .done)] },
        k.cyc + n, [(.scalar sD.val, k.cyc + n + 1)])
    | none =>
      some ({ op := .x s, tiles := [t], s1 := bits g 6 5, s2 := 8, todo := [(k.cyc, .exam 0 8 0)] }, k.cyc + n,
        [(.scalar sD.val, k.cyc + n + 1)])

/-- What the C slot writes: SETS, ADDS and EDGE after 1 c, MULS after 2 c (10 Table INV-7). -/
def cTask (k : Cluster) (s : CSlot) : Option (Task × List (PendItem × Nat)) :=
  let mk (i : PendItem) (n : Nat) (u : Micro) : Option (Task × List (PendItem × Nat)) :=
    some ({ op := .c, tiles := [], todo := [(k.cyc + n, u)] }, [(i, k.cyc + n)])
  match s with
  | .sets dk dst fsel imm =>
    if dk then
      match fieldResult k false dst.val fsel.val imm.toNat with
      | some d => mk (.desc dst.val) 1 (.setD dst.val d)
      | none => none
    else mk (.scalar dst.val) 1 (.setS dst.val imm)
  | .adds dk dst fsel sA src sB imm =>
    let o := cOperand k src sB.val imm
    if dk then
      match fieldResult k true dst.val fsel.val o with
      | some d => mk (.desc dst.val) 1 (.setD dst.val d)
      | none => none
    else mk (.scalar dst.val) 1 (.setS dst.val (sOf k sA.val + BitVec.ofNat 32 o))
  | .muls _ dst _ sA src sB imm =>
    mk (.scalar dst.val) 2 (.setS dst.val (sOf k sA.val * BitVec.ofNat 32 (cOperand k src sB.val imm)))
  | .edge m src ri ci sR sC =>
    mk (.mask m.val) 1 (.setM m.val (edgeRow k src ri sR.val) (edgeRow k src ci sC.val))
  | _ => none

end Sys2Proof.Machine
end

