-- ==== Sys2Proof/Machine/Cycle.lean ====
section
/-!
DEFINITION. What a cluster does in an island cycle: pane accesses, landings, launches, requests, item writes;
and the issue of a bundle. 06 R201 to R207, R232 to R240; 07 R246 to R284; 09 R333 to R354.
-/
namespace Sys2Proof.Machine

/-! ## Pane accesses -/

/-- The tenancy's mask of pane granules and the window check of 06 R239. -/
def paneOk (d : Dev) (cl line : Nat) : Bool :=
  match holderOf d cl with
  | some t => decide (line < 65536) && bit (recPane (grantOf d t)) (line / 1024)
  | none => false

/-- Latches what a unit meets first since its log was read (06 R238): kind 1 ECC, 2 stored poison, 3 bank spacing
(15 Table CMD-4, section 5). -/
def logError (key addr kind : Nat) (ten : Option Nat) (d : Dev) : Dev :=
  if tabHas d.mem.log key then d
  else { d with mem := { d.mem with log := tabSet key { addr := addr, ten := ten.getD 63, kind := kind } d.mem.log } }

/-- Logs what a line read met: an uncorrectable word before stored poison (06 R238). -/
def logRead (key a : Nat) (r : LineRead) (ten : Option Nat) (d : Dev) : Dev :=
  if r.uncorr != 0 then logError key (a + 8 * r.firstBad) 1 ten d
  else if r.stored != 0 then logError key (a + 8 * ((List.range 8).find? (bit r.poison)).getD 0) 2 ten d
  else d

/-- Counts what a pane line read met (06 R233, R234, R238). -/
def countPane (cl a : Nat) (r : LineRead) (d : Dev) : Dev :=
  let d1 := memCtr cl (fun c => { c with
    paneCorr := satAdd c.paneCorr r.corr, paneUncorr := satAdd c.paneUncorr r.uncorr,
    paneStored := satAdd c.paneStored r.stored }) d
  logRead cl a r (holderOf d cl) d1

/-- A pane line as the fill port is about to write it, kept for a read of the same cycle (06 R206). -/
def keepPane (cyc line : Nat) (m : Mem) (cl : Nat) : PaneOld :=
  let a := paneBase cl + 64 * line
  { cyc := cyc, line := line, data := BitVec.ofNat 512 (memRead m.cells a 64)
    checks := (List.range 8).map fun i => tabGet 0 m.ecc (a + 8 * i) }

/-- The content a read of this cycle sees: the line before a fill of the same cycle (06 R206). -/
def panePeek (d : Dev) (cl line : Nat) : LineRead :=
  let k := clOf d cl
  match k.fills.find? (fun (f : PaneOld) => f.cyc == k.cyc && f.line == line) with
  | some f => lineRead f.data fun i => f.checks.getD i 0
  | none => readLine8 d.mem (paneBase cl + 64 * line)

/-- Logs what a masked write of a pane line met in the memory it was made to (06 R235, R238). -/
def logMerge (cl a mask : Nat) (m : Mem) (d : Dev) : Dev :=
  match mergeBad m a mask with
  | some i => logError cl (a + 8 * i) 1 (holderOf d cl) d
  | none => d

/-- An instruction-port write of a line under a bit mask; lost if the fill port writes the line now (06 R206). -/
def paneWrite (cl line v mask poison : Nat) (d : Dev) : Dev :=
  let k := clOf d cl
  if k.fills.any (fun f => f.cyc == k.cyc && f.line == line) then
    memCtr cl (fun c => { c with paneClash := satInc c.paneClash }) d
  else
    let r := writeLine8 (paneBase cl + 64 * line) v mask poison d.mem
    logMerge cl (paneBase cl + 64 * line) mask d.mem
      (memCtr cl (fun c => { c with paneCorr := satAdd c.paneCorr r.2.1, paneUncorr := satAdd c.paneUncorr r.2.2 })
        { d with mem := r.1 })

/-- The cluster faults: it issues no further bundle (07 R252, 21 R711). -/
def clusterFault (cl code : Nat) (d : Dev) : Dev :=
  faultHolder cl code (modCl cl (fun k => { k with run := .faulted }) d)

/-! ## Micro-operations -/

/-- Pane line an operation touches through the instruction port. -/
def microLine : Micro → Option Nat
  | .read _ _ l => some l
  | .write _ l => some l
  | .sget o => some (o / 64)
  | .sput o _ => some (o / 64)
  | _ => none

def microNow (c : Nat) (t : Task) : List Micro := (t.todo.filter fun o => o.1 == c).map (·.2)

/-- Banks touched in cycle c by every task (06 R201, R204). -/
def banksNow (c : Nat) (ts : List Task) : List Nat :=
  ts.flatMap fun t => (microNow c t).filterMap fun o => (microLine o).map (· % 16)

def clashing (c : Nat) (ts : List Task) (b : Nat) : Bool := decide (1 < ((banksNow c ts).filter (· == b)).length)

def taskClashes (c : Nat) (ts : List Task) (t : Task) : Bool :=
  (microNow c t).any fun o => match microLine o with | some l => clashing c ts (l % 16) | none => false

/-- Words of a source line at which poison is put to use (09 R333); moves carry poison and use none. -/
def useWords (t : Task) (src j : Nat) : Nat :=
  match t.op with
  | .x _ => 0
  | .m (.accload _ _ form) =>
    if form.val ≥ 2 then wideWords (wideUsed (t.tiles.getD 0 ⟨0, 0, 0⟩) j)
    else maskWords (lineMask (t.tiles.getD 0 ⟨0, 0, 0⟩) j)
  | _ => maskWords (lineMask (t.tiles.getD src ⟨0, 0, 0⟩) j)

/-- Result of an operation on its task: the task goes on, or it faults and performs nothing later. -/
inductive MicroOut where
  | go (t : Task) (d : Dev)
  | stop (d : Dev)
  | stopLater (t : Task) (d : Dev)

def doRead (cl : Nat) (t : Task) (src j line : Nat) (d : Dev) : MicroOut :=
  if paneOk d cl line then
    let r := panePeek d cl line
    let d1 := countPane cl (paneBase cl + 64 * line) r d
    if Nat.land r.poison (useWords t src j) != 0 then .stop (clusterFault cl fcPoison d1)
    else
      let h : Held := { src := src, j := j, data := r.data, poison := BitVec.ofNat 8 r.poison }
      .go { t with held := t.held ++ [h] } d1
  else .stop (clusterFault cl fcWindow d)

def doSget (cl : Nat) (t : Task) (off : Nat) (d : Dev) : MicroOut :=
  if off < 0x400000 ∧ paneOk d cl (off / 64) = true then
    let r := panePeek d cl (off / 64)
    let d1 := countPane cl (paneBase cl + off / 64 * 64) r d
    if bit r.poison (off % 64 / 8) then .stop (clusterFault cl fcPoison d1)
    else .go { t with s1 := bits r.data.toNat (off % 64 * 8 + 31) (off % 64 * 8) } d1
  else .stop (clusterFault cl fcWindow d)

/-- A line written by an instruction: data, bit mask and poison of its words. -/
def writeData (t : Task) (j : Nat) : Nat × Nat × Nat :=
  let d := t.tiles.getD 0 ⟨0, 0, 0⟩
  match t.op with
  | .m (.accdrain _ _ true ..) => (drainWide d t.accs j, wideMask d j, 0)
  | .x _ =>
    match t.held.find? (fun h => h.j == j) with
    | some h => (h.data.toNat, nibbleBits 128 (lineMask d j), h.poison.toNat)
    | none => (0, 0, 0)
  | _ => (outLine t j, nibbleBits 128 (lineMask d j), 0)

def doWrite (cl : Nat) (t : Task) (j line : Nat) (d : Dev) : MicroOut :=
  if paneOk d cl line then
    let x := writeData t j
    .go t (paneWrite cl line x.1 x.2.1 x.2.2 d)
  else .stop (clusterFault cl fcWindow d)

def doSput (cl : Nat) (t : Task) (off v : Nat) (d : Dev) : MicroOut :=
  if off < 0x400000 ∧ paneOk d cl (off / 64) = true then
    let o := off % 64 * 8
    .go t (paneWrite cl (off / 64) (v <<< o) (rangeMask o (o + 32)) 0 d)
  else .stop (clusterFault cl fcWindow d)

/-- LAND examines an entry (09 R352): full, of the expected lap, and readable under 02 R60. -/
def doExam (cl : Nat) (t : Task) (i buf e : Nat) (d : Dev) : MicroOut :=
  let k := clOf d cl
  let x := lbOf k (32 * buf + e)
  if buf < 8 ∧ x.full = true ∧ x.lap = t.s1 ∧ x.cyc + 4 ≤ k.cyc then
    let h : Held := { src := 0, j := i, data := x.data, poison := if x.poison then 255 else 0 }
    .go { t with held := t.held ++ [h] } (setCl cl { k with lb := tabSet (32 * buf + e) { x with full := false } k.lb } d)
  else .stopLater t (clusterFault cl fcVoidFlit d)

def doClear (cl buf e : Nat) (d : Dev) : Dev :=
  modCl cl (fun k =>
    let x := lbOf k (32 * buf + e)
    if x.full && decide (x.cyc + 4 ≤ k.cyc) then
      { k with lb := tabSet (32 * buf + e) { x with full := false } k.lb } else k) d

/-- The header with payload 0, then each payload, reaches the launch slot (09 R350, 07 R266). -/
def doPayload (cl : Nat) (t : Task) (i : Nat) (d : Dev) : Dev :=
  match t.op with
  | .x (.launch _ ls _ _) =>
    let tile := t.tiles.getD 0 ⟨0, 0, 0⟩
    let psn := (t.held.find? (fun h => h.j == i)).elim 0 fun h => Nat.land h.poison.toNat (maskWords (lineMask tile i))
    let p : Payload :=
      { data := BitVec.ofNat 512 (launchLine tile t.held i), poison := psn != 0, stamp := some d.whl.now }
    modCl cl (fun k =>
      match lsOf k ls.val with
      | .filled h =>
        if i = 0 then k
        else { k with ls := tabSet ls.val (.filled { h with payloads := h.payloads ++ [p] }) k.ls }
      | .taken =>
        if i = 0 then
          { k with ls := tabSet ls.val (.filled
              { lap := bits t.s1 17 16, tick := t.s1 % 65536, n := streamLen false tile.desc
                tag := BitVec.ofNat 10 t.s2, stamp := d.whl.now, payloads := [p], next := 0, accepted := false }) k.ls }
        else k
      | .free _ => k) d
  | _ => d

/-- A column window check (06 R240). -/
def windowOk (d : Dev) (cl win off : Nat) : Bool :=
  match holderOf d cl with
  | some t => decide (0 < recWinSize (grantOf d t) win) && decide (off < recWinSize (grantOf d t) win * 16384)
  | none => false

/-- Bytes of a nibble mask: every byte that holds a masked nibble is whole (09 R348). -/
def wholeBytes (nib : Nat) : Nat :=
  (List.range 64).foldl (fun a i => if bits nib (2 * i + 1) (2 * i) != 0 then a + (3 <<< (2 * i)) else a) 0

/-- A request enters the island-to-column queue of 16 entries, or is discarded and counted (02 R65). -/
def doRequest (cl : Nat) (t : Task) (j : Nat) (word : W64) (d : Dev) : MicroOut :=
  let tile := t.tiles.getD 0 ⟨0, 0, 0⟩
  let wr := word.toNat % 4 == 1
  let win := match t.op with | .x (.pload _ w ..) => w.val | .x (.pstore _ w ..) => w.val | _ => 0
  if windowOk d cl win (colOffset tile t.s1 t.s2 j) && (wr || paneOk d cl (streamLine false tile.desc j)) then
    let q := tabGet [] d.mem.colQ cl
    if q.length < 16 then
      let h := t.held.find? (fun h => h.j == j)
      let nib := lineMask tile j
      let e : ReqEntry :=
        { word := word, mask := BitVec.ofNat 128 (if wr then wholeBytes nib else nib)
          data := if wr then h.elim 0 (·.data) else 0
          poison := wr && h.elim false (fun x => Nat.land x.poison.toNat (maskWords nib) != 0)
          stamp := tabGet 0 d.mem.mNow (quadOf cl), ecc := .ok }
      .go t { d with mem := { d.mem with colQ := tabSet cl (q ++ [e]) d.mem.colQ } }
    else .go t (memCtr cl (fun c => { c with colDiscard := satInc c.colDiscard }) d)
  else .stop (clusterFault cl fcWindow d)

/-- Writes a group of accumulator tiles. -/
def setAccs (acc : Nat) (ts : List AccTile) (k : Cluster) : Cluster :=
  { k with acc := (List.range ts.length).foldl (fun a i => tabSet (acc + i) (ts.getD i {}) a) k.acc }

def getAccs (k : Cluster) (acc n : Nat) : List AccTile := (List.range n).map fun i => accOf k (acc + i)

/-- A snapshot enters the digest slot, or is discarded and counted while four wait (07 R264, R265). -/
def pushSnap (layer : BitVec 16) (now : Nat) (k : Cluster) : Cluster :=
  if k.snaps.length < 4 then { k with snaps := k.snaps ++ [{ dig := k.dig, layer := layer, stamp := now }] }
  else { k with digOverflow := satInc k.digOverflow }

/-- What an instruction writes at its latency (07 R250; 09 R338 to R341; 10 R381). -/
def doDone (cl : Nat) (t : Task) (d : Dev) : Dev :=
  let a := t.tiles.getD 0 ⟨0, 0, 0⟩
  let b := t.tiles.getD 1 ⟨0, 0, 0⟩
  match t.op with
  | .m (.mma ..) | .m (.mmaz ..) =>
    modCl cl (fun k => setAccs t.s1
      (mmaApply false a b t.held (getAccs k t.s1 (accTiles (dRows a.desc) (dCols b.desc)))) k) d
  | .m (.mmat ..) =>
    modCl cl (fun k => setAccs t.s1
      (mmaApply true a b t.held (getAccs k t.s1 (accTiles (dRows a.desc) (dRows b.desc)))) k) d
  | .m (.accload _ _ form) =>
    modCl cl (fun k => setAccs t.s1
      (accLoadApply form.val a t.held (getAccs k t.s1 (accTiles (dRows a.desc) (dCols a.desc)))) k) d
  | .v (.vdig _ snap layer) =>
    let full := snap && decide (4 ≤ (clOf d cl).snaps.length)
    let d1 := modCl cl (fun k =>
      let k1 := { k with dig := BitVec.ofNat 64 (k.dig.toNat + digFold t) }
      if snap then pushSnap layer d.whl.now k1 else k1) d
    if full then
      match holderOf d cl with
      | some n =>
        modTen n (fun x => { x with
          digMark := true, digOver := x.digOver + 1
          digTable := if tabHas x.digTable layer.toNat then
              tabMod {} layer.toNat (fun e => { e with mark := true }) x.digTable else x.digTable }) d1
      | none => d1
    else d1
  | .x (.sget sD ..) => modCl cl (fun k => { k with s := tabSet sD.val (BitVec.ofNat 32 t.s1) k.s }) d
  | .x (.landany _ _ _ sD) => modCl cl (fun k => { k with s := tabSet sD.val (BitVec.ofNat 32 t.s2) k.s }) d
  | _ => d

/-- Whether an operation acts at the start of its cycle, before the bundle of that cycle issues. -/
def microEarly : Micro → Bool
  | .payload _ | .request .. | .done | .setS .. | .setD .. | .setM .. => true
  | _ => false

def microIsWrite : Micro → Bool
  | .write .. | .sput .. => true
  | _ => false

def doMicro (cl : Nat) (t : Task) (o : Micro) (d : Dev) : MicroOut :=
  match o with
  | .read src j line => doRead cl t src j line d
  | .write j line => doWrite cl t j line d
  | .sget off => doSget cl t off d
  | .sput off v => doSput cl t off v d
  | .exam i buf e => doExam cl t i buf e d
  | .clear buf e => .go t (doClear cl buf e d)
  | .payload i => .go t (doPayload cl t i d)
  | .request j w => doRequest cl t j w d
  | .done => .go t (doDone cl t d)
  | .setS i v => .go t (modCl cl (fun k => { k with s := tabSet i v k.s }) d)
  | .setD i v => .go t (modCl cl (fun k => { k with d := tabSet i v k.d }) d)
  | .setM i r c => .go t (modCl cl (fun k => { k with m := tabSet i { row := r, col := c } k.m }) d)

/-- Runs the operations of one kind that a task has in cycle c. A task that stops performs none later; one
whose LAND examination failed keeps the write of an entry already taken in the same cycle (09 R352). -/
def runOps (cl c : Nat) (sel : Micro → Bool) : List Micro → Task → Dev → Option Task × Dev
  | [], t, d => (some t, d)
  | o :: os, t, d =>
    if sel o then
      match doMicro cl t o d with
      | .go t' d' => runOps cl c sel os t' d'
      | .stop d' => (none, d')
      | .stopLater t' d' =>
        (some { t' with todo := t'.todo.filter fun x => x.1 == c && microIsWrite x.2 }, d')
    else runOps cl c sel os t d

def runTasks (cl c : Nat) (sel : Micro → Bool) : List Task → Dev → List Task × Dev
  | [], d => ([], d)
  | t :: ts, d =>
    let r := runOps cl c sel (microNow c t) t d
    let r' := runTasks cl c sel ts r.2
    (match r.1 with | some t' => t' :: r'.1 | none => r'.1, r'.2)

/-- The tasks of a cluster with the operations of one kind in its present cycle performed. -/
def phaseOps (cl : Nat) (sel : Micro → Bool) (d : Dev) : Dev :=
  let k := clOf d cl
  let r := runTasks cl k.cyc sel k.tasks d
  modCl cl (fun k' => { k' with tasks := r.1 }) r.2

/-- The accesses of the present cycle: bank clashes first (06 R204; log entry 99), then reads, then
writes (06 R203). -/
def accessCycle (cl : Nat) (d : Dev) : Dev :=
  let k := clOf d cl
  let clash := k.tasks.any (taskClashes k.cyc k.tasks)
  let d1 := if clash then
      clusterFault cl fcIllegalBundle
        (setCl cl { k with tasks := k.tasks.filter fun t => !taskClashes k.cyc k.tasks t } d)
    else d
  let d2 := phaseOps cl (fun o => !microEarly o && !microIsWrite o) d1
  phaseOps cl microIsWrite d2

/-- The next cycle begins: marks clear, finished tasks go, the tick view moves (07 R250, R277), and the
operations that act at its start are performed. -/
def beginCycle (cl : Nat) (d : Dev) : Dev :=
  let d1 := modCl cl (fun k =>
    { k with
      cyc := k.cyc + 1
      tv := if k.tvHeld then k.tv else if k.syncLate then k.tv2 else k.tv1
      tv2 := k.tv1
      tv1 := fabPos d.whl
      pend := k.pend.filter fun p => decide (k.cyc + 1 < p.2)
      fills := k.fills.filter fun (f : PaneOld) => decide (k.cyc < f.cyc)
      tasks := (k.tasks.map fun t => { t with todo := t.todo.filter fun o => decide (k.cyc < o.1) }).filter
        fun t => !t.todo.isEmpty }) d
  phaseOps cl microEarly d1

/-- One island cycle of a cluster. -/
def tickCluster (cl : Nat) (d : Dev) : Dev := beginCycle cl (accessCycle cl d)

/-- n island cycles of a cluster in which it issues nothing. -/
def runCycles (cl : Nat) : Nat → Dev → Dev
  | 0, d => d
  | n + 1, d => runCycles cl n (tickCluster cl d)

/-! ## Issue -/

/-- Class and zeroing that take effect as the instruction issues (07 R262; 09 R339 to R341). -/
def mIssue (s : MSlot) (k : Cluster) : Cluster :=
  let zeroTo (acc n : Nat) (c : AccClass) : Cluster := setAccs acc (List.replicate n { cls := c }) k
  let cls (da db : Nat) : AccClass :=
    match pairing (dFmt (dOf k da)) (dFmt (dOf k db)) with | some (c, _) => c | none => .unset
  match s with
  | .mmaz da db acc => zeroTo acc.val (accTiles (mmaM k da.val) (mmaN k false db.val)) (cls da.val db.val)
  | .mmat da db acc true => zeroTo acc.val (accTiles (mmaM k da.val) (mmaN k true db.val)) (cls da.val db.val)
  | .acczero acc cnt c =>
    zeroTo acc.val (acczeroCount cnt.val) (match c.val with | 1 => .exact | 2 => .ordered | _ => .unset)
  | .accload d acc form =>
    match form.val, accLoadClass form.val (dFmt (dOf k d.val)) with
    | 0, some c | 2, some c =>
      let n := accTiles (dRows (dOf k d.val)) (dCols (dOf k d.val))
      setAccs acc.val ((getAccs k acc.val n).map fun t => if t.cls = c then t else { cls := c }) k
    | _, _ => k
  | _ => k

/-- The free-order count of VADD and the may-vary count of LANDANY at issue (09 R355; 10 R375). -/
def issueCounts (cl : Nat) (k : Cluster) (b : Bundle) (d : Dev) : Dev :=
  let fo := match b.v with
    | .vadd _ true sOrd rank => decide (sNat k sOrd.val % 8 ≠ rank.val)
    | _ => false
  let mv := match b.x with
    | .landany _ sTag mask _ =>
      (match landChoice k mask.toNat (bits (sNat k sTag.val) 6 5) (sNat k sTag.val % 32) with
       | some c => decide (c ≠ ((List.range 8).find? fun i => bit mask.toNat i).getD 8)
       | none => false)
    | _ => false
  match holderOf d cl with
  | some t => modTen t (fun x => { x with
      freeOrder := if fo then x.freeOrder + 1 else x.freeOrder
      mayVary := if mv then x.mayVary + 1 else x.mayVary }) d
  | none => d

/-- The bundle that follows, and the loop stack and run state left (07 R246, R273 to R275, R284; 10 R391). -/
def nextPc (k : Cluster) (c : CSlot) : Cluster :=
  match c with
  | .loop src sC imm e =>
    let n := loopCount k src sC.val imm
    if n = 0 then { k with pc := e.toNat + 1 }
    else { k with pc := k.pc + 1, loops := { count := n, body := k.pc + 1, endIx := e.toNat } :: k.loops }
  | .endloop =>
    match k.loops with
    | top :: rest =>
      if top.count ≤ 1 then { k with pc := k.pc + 1, loops := rest }
      else { k with pc := top.body, loops := { top with count := top.count - 1 } :: rest }
    | [] => { k with pc := k.pc + 1 }
  | .halt => { k with pc := k.pc + 1, run := .halted, loops := [] }
  | _ => { k with pc := k.pc + 1 }

/-- Window base a cluster's tenancy holds, in MiB. -/
def winBaseOf (d : Dev) (cl : Nat) (w : Nat) : Nat :=
  match holderOf d cl with | some t => recWinBase (grantOf d t) w | none => 0

/-- The launch slot a LAUNCH takes; one not yet seen free is overrun, and its LAUNCH fills nothing (07 R270). -/
def launchIssue (x : XSlot) (k : Cluster) : Cluster :=
  match x with
  | .launch _ ls _ _ =>
    (match lsOf k ls.val with
     | .free n => if n ≤ k.cyc then { k with ls := tabSet ls.val .taken k.ls } else { k with lsOverrun := satInc k.lsOverrun }
     | _ => { k with lsOverrun := satInc k.lsOverrun })
  | _ => k

/-- A LAUNCH that overruns writes no payload. -/
def dropPayload (x : XSlot) (k : Cluster) (t : Task) : Task :=
  match x with
  | .launch _ ls _ _ =>
    (match lsOf k ls.val with
     | .free n => if n ≤ k.cyc then t else { t with todo := t.todo.filter fun o => (microLine o.2).isSome }
     | _ => { t with todo := t.todo.filter fun o => (microLine o.2).isSome })
  | _ => t

/-- Issues a bundle whose checks passed: every slot reads the state before it (07 R249). -/
def issueSlots (cl : Nat) (b : Bundle) (d : Dev) : Dev :=
  let k := clOf d cl
  let ct := cTask k b.c
  let xt := (xTask d.whl.w (winBaseOf d cl) k b.x).map fun x => (dropPayload b.x k x.1, x.2)
  let vt := vTask k b.v
  let mt := mTask k b.m
  let d1 := issueCounts cl k b d
  let k1 := launchIssue b.x (mIssue b.m k)
  let tasks := k.tasks ++ (ct.map (·.1)).toList ++ (xt.map (·.1)).toList ++ (vt.map (·.1)).toList ++ (mt.map (·.1)).toList
  let pend := k.pend ++ (ct.map (·.2)).getD [] ++ (xt.map (·.2.2)).getD [] ++ (vt.map (·.2.2)).getD [] ++
    (mt.map (·.2.2)).getD []
  setCl cl (nextPc { k1 with
    run := .running
    tasks := tasks
    pend := pend
    busyX := (xt.map (·.2.1)).getD k.busyX
    busyV := (vt.map (·.2.1)).getD k.busyV
    busyM := (mt.map (·.2.1)).getD k.busyM } b.c) d1

/-- The sequencer issues a bundle in the present cycle or fails its check (07 R251, R252); the cycle then
ends. -/
def issueBundle (cl : Nat) (b : Bundle) (d : Dev) : Dev :=
  if issueOk d.whl.w (clOf d cl) b then tickCluster cl (issueSlots cl b d)
  else tickCluster cl (clusterFault cl fcIllegalBundle d)

/-- The sequencer reaches a bundle (07 R279, R281, R282): NEXT advances WCUR, a wait not yet over holds the
bundle, anything else issues now. -/
def reachBundle (cl : Nat) (b : Bundle) (d : Dev) : Dev :=
  let k := clOf d cl
  match b.c with
  | .waittick t next src sT =>
    if waitReachOk k b.c && cCheck d.whl.w k b.c && decide (k.pc < k.bundleCount) then
      let wc := if next then (k.wcur + 1) % 4 else k.wcur
      let tick := if src then sNat k sT.val % 65536 else t.toNat
      let k1 := { k with wcur := wc }
      match reach (wc, tick) k.tv with
      | .future => tickCluster cl (setCl cl { k1 with run := .waitTick wc tick, held := b } d)
      | .current => issueBundle cl b (setCl cl k1 d)
      | .passed => issueBundle cl b (setCl cl { k1 with waitLate := satInc k.waitLate } d)
    else tickCluster cl (clusterFault cl fcIllegalBundle d)
  | .waitcyc n src sN =>
    if waitReachOk k b.c && cCheck d.whl.w k b.c && decide (k.pc < k.bundleCount) then
      let n := if src then sNat k sN.val else n.toNat
      if n = 0 then issueBundle cl b d
      else tickCluster cl (setCl cl { k with run := .waitCyc (k.cyc + n), held := b } d)
    else tickCluster cl (clusterFault cl fcIllegalBundle d)
  | _ => issueBundle cl b d

/-- Syndrome of slot i of the bundle at pc, and what it says (07 R245). -/
def slotSyn (k : Cluster) (i : Nat) : Nat := tabGet 0 k.storeEcc (4 * k.pc + i)
def slotKind (k : Cluster) (i : Nat) : EccKind := unitKind 8 64 (slotSyn k i)

/-- A slot of the bundle at pc with an uncorrectable error: all ones is one too, since no poison is stored here. -/
def fetchBad (k : Cluster) : Bool :=
  (List.range 4).any fun i => decide (slotKind k i = .uncorr) || decide (slotKind k i = .poison)

/-- Slots corrected at the fetch; each is counted (07 R245). -/
def fetchCorr (k : Cluster) : Nat := ((List.range 4).filter fun i => decide (slotKind k i = .corr)).length

/-- The bundle at pc as fetched, its correctable errors corrected. -/
def fetchBundle (k : Cluster) : Bundle :=
  let w := tabGet 0 k.store k.pc
  decodeBundle (if (List.range 4).all fun i => slotSyn k i == 0 then w
    else w ^^^ BitVec.ofNat 256 ((List.range 4).foldl (fun a i => a + unitFlip 8 64 (slotSyn k i) * pow2 (64 * i)) 0))

/-- BUNDLE_ISSUE (07 R245, R246). -/
def opBundleIssue (cl : Nat) (third : Bool) (d : Dev) : Dev :=
  let k := { clOf d cl with syncLate := third }
  if k.run = .running then
    let d1 := setCl cl { k with bstoreEccCorr := satAdd k.bstoreEccCorr (fetchCorr k) } d
    if fetchBad k then tickCluster cl (clusterFault cl fcEcc d1) else reachBundle cl (fetchBundle k) d1
  else d

/-- The issue of a bundle that holds one instruction of the table, in place of the bundle at pc. -/
def opIssueOne (cl : Nat) (b : Bundle) (d : Dev) : Dev :=
  if (clOf d cl).run = .running then reachBundle cl b d else d

/-- At most n island edges of a cluster whose bundle waits for a tick: at the first edge at which the target
has been reached the bundle issues (07 R279, R280, R283). -/
def waitLoop (cl : Nat) : Nat → Dev → Dev
  | n, d =>
    let k := clOf d cl
    let target := match k.run with
      | .waitTick lap tick => some (lap, tick)
      | .armed => some (k.wcur, 0)
      | _ => none
    match target with
    | none => d
    | some x =>
      if reach x k.tv = .future then
        match n with
        | 0 => d
        | n + 1 => waitLoop cl n (tickCluster cl d)
      else if k.run = .armed then setCl cl { k with run := .running } d
      else issueBundle cl k.held d

def opWaittickRelease (cl n : Nat) (third : Bool) (d : Dev) : Dev :=
  match (clOf d cl).run with
  | .waitTick .. | .armed => waitLoop cl n (modCl cl (fun k => { k with syncLate := third }) d)
  | _ => d

/-- The cycles left of a WAITCYC pass, then the held bundle issues (07 R282). -/
def cycRelease (cl till : Nat) (d : Dev) : Dev :=
  let k := clOf d cl
  let d1 := runCycles cl (till - k.cyc) d
  if (clOf d1 cl).run = .waitCyc till then issueBundle cl k.held d1 else d1

/-- WAITCYC_RELEASE. -/
def opWaitcycRelease (cl : Nat) (d : Dev) : Dev :=
  match (clOf d cl).run with
  | .waitCyc till => cycRelease cl till d
  | _ => d

/-- The cycle at which the next pending mark clears; without one, the last cycle an instruction still has. -/
def nextDue (k : Cluster) : Nat :=
  match k.pend with
  | p :: ps => ps.foldl (fun a q => min a q.2) p.2
  | [] => k.tasks.foldl (fun a t => t.todo.foldl (fun b o => max b (o.1 + 1)) a) k.cyc

/-- PENDING_WRITE_EFFECT (07 R250): the write that falls due next takes effect. A running cluster reaches that
cycle bundle by bundle (R246): BUNDLE_ISSUE performs what each cycle holds, so nothing is left for this to do.
A held bundle issues at the first edge at which its wait is over (R279, R282), should that come first; any other cluster
issues nothing, and its cycles pass. -/
def opPendingWriteEffect (cl : Nat) (d : Dev) : Dev :=
  let k := clOf d cl
  let n := nextDue k - k.cyc
  match k.run with
  | .running => d
  | .waitTick .. | .armed => waitLoop cl n d
  | .waitCyc till =>
    if n < till - k.cyc then runCycles cl n d else cycRelease cl till d
  | _ => runCycles cl n d

end Sys2Proof.Machine
end

