-- ==== Sys2Proof/Machine/Fabric.lean ====
section
/-!
DEFINITION. Flits, their ECC, switches, launch departures, landings, shelf ports (04; 06 R225 to R231; 07 R266 to
R271; 21 R717, R718).
-/
namespace Sys2Proof.Machine

/-! ## The sideband ECC (04 R131 to R133) -/

/-- H(0) to H(529) (04 R131). -/
def hList : List Nat := ((List.range 1100).filter oddWeight).take 530

/-- Mask of the data bits folded into each check bit: bit n where bit k of H(n) is 1 (04 R131). -/
def eccMasks : List Nat :=
  [0x2cd2d32da65a59a659a5a65a59a5a659a65a59a659a5a659a65a59a5a65a59a659a5a65cb34b4cb34cb4b34b4cb4b34cb34b4cb69969669966969972cd2d32da65cb7,
   0x15555556aaaaaaaaaaaaaaaaaaaaaaaaaaaaaaaaaaaaaaaaaaaaaaaaaaaaaaaaaaaaaaad5555555555555555555555555555555aaaaaaaaaaaaaaab55555556aaad5b,
   0x1999999b33333333333333333333333333333333333333333333333333333333333333366666666666666666666666666666666cccccccccccccccd9999999b33366d,
   0x21e1e1e3c3c3c3c3c3c3c3c3c3c3c3c3c3c3c3c3c3c3c3c3c3c3c3c3c3c3c3c3c3c3c3c78787878787878787878787878787878f0f0f0f0f0f0f0f1e1e1e1e3c3c78e,
   0x3e01fe03fc03fc03fc03fc03fc03fc03fc03fc03fc03fc03fc03fc03fc03fc03fc03fc07f807f807f807f807f807f807f807f80ff00ff00ff00ff01fe01fe03fc07f0,
   0x3ffe0003fffc0003fffc0003fffc0003fffc0003fffc0003fffc0003fffc0003fffc0007fff80007fff80007fff80007fff8000ffff0000ffff0001fffe0003fff800,
   0x3fffffffc00000003fffffffc00000003fffffffc00000003fffffffc00000007fffffff800000007fffffff80000000ffffffff00000001fffffffc000000,
   0x3fffffffffffffffc0000000000000003fffffffffffffffc0000000000000007fffffffffffffff8000000000000000fffffffffffffffe00000000000000,
   0x3fffffffffffffffffffffffffffffffc00000000000000000000000000000007fffffffffffffffffffffffffffffff000000000000000000000000000000,
   0x3fffffffffffffffffffffffffffffffffffffffffffffffffffffffffffffff80000000000000000000000000000000000000000000000000000000000000,
   0x3ffffffc00000000000000000000000000000000000000000000000000000000000000000000000000000000000000000000000000000000000000000000000000000,
   0x0,
   0x0,
   0x0]

/-- Exclusive OR of the low 1,024 bits of a number. -/
def parity (n : Nat) : Nat :=
  let f (n k : Nat) : Nat := Nat.xor n (n >>> k)
  f (f (f (f (f (f (f (f (f (f n 512) 256) 128) 64) 32) 16) 8) 4) 2) 1 % 2

/-- Data bits of a flit: payload, then sideband bits 17:0 (04 R131, Table FAB-4). -/
def flitData (f : Flit) : Nat :=
  f.data.toNat + pow2 512 * (f.ten.toNat + 64 * f.tag.toNat + (if f.late then pow2 16 else 0) + (if f.poison then pow2 17 else 0))

def eccFold (n : Nat) : Nat → List Nat → Nat
  | _, [] => 0
  | k, m :: ms => parity (Nat.land n m) <<< k + eccFold n (k + 1) ms

def eccOf (f : Flit) : BitVec 14 := BitVec.ofNat 14 (eccFold (flitData f) 0 eccMasks)

/-- A flit with a valid check code. -/
def sealFlit (f : Flit) : Flit := { f with ecc := eccOf f }

def flitOfData (n : Nat) (e : BitVec 14) : Flit :=
  { data := BitVec.ofNat 512 n, ten := BitVec.ofNat 6 (n >>> 512), tag := BitVec.ofNat 10 (n >>> 518)
    late := bit n 528, poison := bit n 529, ecc := e }

inductive EccOut where
  | clean
  | corrected
  | bad
  deriving DecidableEq, Repr

/-- An endpoint checks and corrects a flit (04 R132, R133); an uncorrectable one is marked poisoned. -/
def eccCheck (f : Flit) : Flit × EccOut :=
  let s := (f.ecc ^^^ eccOf f).toNat
  if s = 0 then (f, .clean)
  else if isPow2 s then (sealFlit f, .corrected)
  else
    match hList.findIdx? (· == s) with
    | some n => (flitOfData (Nat.xor (flitData f) (pow2 n)) f.ecc, .corrected)
    | none => ({ f with poison := true }, .bad)

/-- A void flit (04 R153). -/
def voidFlit (ten : Nat) (tag : BitVec 10) : Flit :=
  sealFlit { data := 0, ten := BitVec.ofNat 6 ten, tag := tag, late := true, poison := false, ecc := 0 }

/-! ## Ports (04 R123 to R125, Table FAB-1 to FAB-3) -/

/-- Link on an island, if any (04 Table FAB-2). -/
def linkOfIsl (i : Nat) : Option Nat :=
  match i with
  | 1 => some 0 | 2 => some 1 | 3 => some 2 | 4 => some 3 | 5 => some 4 | 6 => some 5
  | 25 => some 6 | 26 => some 7 | 27 => some 8 | 28 => some 9 | 29 => some 10 | 30 => some 11
  | 8 => some 12 | 15 => some 13 | 16 => some 14 | 23 => some 15 | _ => none

def islOfLink (l : Nat) : Nat :=
  match l with
  | 0 => 1 | 1 => 2 | 2 => 3 | 3 => 4 | 4 => 5 | 5 => 6 | 6 => 25 | 7 => 26 | 8 => 27 | 9 => 28 | 10 => 29
  | 11 => 30 | 12 => 8 | 13 => 15 | 14 => 16 | _ => 23

/-- First DMA engine of a service island (04 Table FAB-3). -/
def dmaOfIsl (i : Nat) : Option Nat :=
  match i with
  | 9 => some 0 | 10 => some 4 | 13 => some 8 | 14 => some 12 | 17 => some 16 | 18 => some 20 | 21 => some 24
  | 22 => some 28 | _ => none

def islOfDma (e : Nat) : Nat :=
  match e / 4 with | 0 => 9 | 1 => 10 | 2 => 13 | 3 => 14 | 4 => 17 | 5 => 18 | 6 => 21 | _ => 22

def bsuOfIsl (i : Nat) : Option Nat :=
  match i with | 10 => some 0 | 13 => some 1 | 18 => some 2 | 21 => some 3 | _ => none

def islOfBsu (u : Nat) : Nat := match u with | 0 => 10 | 1 => 13 | 2 => 18 | _ => 21

/-- Centre island of a quadrant, which holds its shelf's ports (01; 04 Table FAB-1). -/
def centreOf (q : Nat) : Nat := match q with | 0 => 11 | 1 => 12 | 2 => 19 | _ => 20

def quadOfCentre (i : Nat) : Option Nat :=
  match i with | 11 => some 0 | 12 => some 1 | 19 => some 2 | 20 => some 3 | _ => none

/-- The neighbour across a mesh port and the port it enters by (04 Table FAB-1). -/
def meshPeer (i p : Nat) : Option (Nat × Nat) :=
  match p with
  | 16 => if 8 ≤ i then some (i - 8, 18) else none
  | 17 => if i % 8 ≤ 6 then some (i + 1, 19) else none
  | 18 => if i < 24 then some (i + 8, 16) else none
  | 19 => if 1 ≤ i % 8 then some (i - 1, 17) else none
  | _ => none

/-- Where an output port leads: a destination and its latency from the switch input (04 Table FAB-6). -/
def portDest (i p : Nat) : Option (Dest × Nat) :=
  if p < 16 then some (.landing (16 * i + p), 5)
  else if p < 20 then (meshPeer i p).map fun x => (.swIn x.1 x.2, 4)
  else
    match quadOfCentre i with
    | some q => if p < 28 then some (.shelf q (p - 20), 5) else none
    | none =>
      match linkOfIsl i with
      | some l => if p = 20 then some (.linkTx l, 5) else none
      | none =>
        match dmaOfIsl i with
        | some e =>
          if p < 24 then some (.dma (e + (p - 20)), 5)
          else if p = 24 then
            (match bsuOfIsl i with | some u => some (.bsu u, 5) | none => some (.ctl i, 5))
          else none
        | none => none

/-- A port that Table FAB-1 gives to the island. -/
def portPresent (i p : Nat) : Bool := (portDest i p).isSome

/-! ## Phase tables -/

/-- An entry that no image wrote: unowned, PHASE_63 owned by the device (04 R134). -/
def phaseDefault (p : Nat) : PhaseEnt := { owner := if p = 63 then 63 else 62 }

def phaseEnt (d : Dev) (i p : Nat) : PhaseEnt := tabGet (phaseDefault p) d.fab.phase (64 * i + p)

/-- The owner of the phase that holds a tick at an island's switch; a tick of the wheel before, at most a path's last
segment ago, lies in its PHASE_63. -/
def ownerAt (d : Dev) (i t : Nat) : Nat :=
  let k := tickAt d.whl t
  if t < d.whl.start then (phaseEnt d i 63).owner
  else if k < d.whl.w then (phaseEnt d i (phaseOf d.whl k)).owner else 62

def clCtr (c : Nat) (f : FabCtr → FabCtr) (d : Dev) : Dev :=
  { d with fab := { d.fab with clCtr := tabMod {} c f d.fab.clCtr } }
def portCtr (i p : Nat) (f : FabCtr → FabCtr) (d : Dev) : Dev :=
  { d with fab := { d.fab with portCtr := tabMod {} (32 * i + p) f d.fab.portCtr } }

/-- Counters of a port: a cluster's, or those of any other port (04 R159; 15 Table CMD-4). -/
def ctrAt (i p : Nat) (f : FabCtr → FabCtr) (d : Dev) : Dev := if p < 16 then clCtr (16 * i + p) f d else portCtr i p f d

def addFlight (x : Flight) (d : Dev) : Dev := { d with fab := { d.fab with flits := d.fab.flits ++ [x] } }

/-- The flit in flight to a destination at a tick, and the device without it. -/
def takeFlight (dst : Dest) (t : Nat) (d : Dev) : Option Flight × Dev :=
  let hit (x : Flight) : Bool := x.dest == dst && x.due == t
  (d.fab.flits.find? hit, { d with fab := { d.fab with flits := d.fab.flits.filter fun x => !hit x } })

/-! ## Table errors (21 R717, R718) -/

/-- Counts what reading a protected word of a table meets; false where the word may not be applied. -/
def tableRead (addr unit : Nat) (d : Dev) : Bool × Dev :=
  match tabGet EccKind.ok d.fab.tableEcc addr with
  | .ok => (true, d)
  | .corr => (true, { d with fab := { d.fab with tabCorr := tabMod 0 unit satInc d.fab.tabCorr } })
  | _ => (false, { d with fab := { d.fab with tabUncorr := tabMod 0 unit satInc d.fab.tabUncorr } })

def routeAddr (i w : Nat) : Nat := 0x002005000000 + i * 0x80000 + 8 * w
def phaseAddr (i p : Nat) : Nat := 0x002006000000 + i * 0x1000 + 8 * p
def shelfProgAddr (q k w : Nat) : Nat := 0x002006100000 + (8 * q + k) * 0x8000 + 8 * w
def shelfPhaseAddr (q k p : Nat) : Nat := 0x002006200000 + (8 * q + k) * 512 + 8 * p
def lambdaAddr (l p : Nat) : Nat := 0x002006300000 + l * 256 + 4 * p

/-- Words and entries that are written are clean: their addresses and lengths in device memory (21 R718). -/
def cleanWords (ranges : List (Nat × Nat)) (f : Fab) : Fab :=
  { f with tableEcc := f.tableEcc.filter fun e => !ranges.any fun r => decide (r.1 ≤ e.1) && decide (e.1 < r.1 + r.2) }

/-- Owner of a phase faults with FC_ECC; the device's segment faults nobody (06 R237, 21 R718). -/
def faultOwner (owner code : Nat) (d : Dev) : Dev := if owner < 32 then raiseFault owner code d else d

/-- A phase-table entry, route word or shelf word is used once in a wheel, however many ticks it is applied in: that use
is counted, and an error that keeps it from being applied faults the owner (21 R717, R718). -/
def tableUse (addr unit owner : Nat) (d : Dev) : Bool × Dev :=
  let k := tabGet EccKind.ok d.fab.tableEcc addr
  let ok := k = .ok || k = .corr
  if k = .ok ∨ tabGet 0 d.fab.tabUsed addr = d.whl.start + 1 then (ok, d)
  else
    let r := tableRead addr unit { d with fab := { d.fab with tabUsed := tabSet addr (d.whl.start + 1) d.fab.tabUsed } }
    (ok, if ok then r.2 else faultOwner owner fcEcc r.2)

/-! ## The route sequencer (04 R137, R138, R147, R153 to R156) -/

def rwOut (w : W64) : Nat := bits w.toNat 27 0
def rwIn (w : W64) : Nat := bits w.toNat 32 28
def rwStart (w : W64) : Nat := bits w.toNat 42 33
def rwLen (w : W64) : Nat := bits w.toNat 52 43

/-- Words of a segment active at an offset in the phase. -/
def rwActive (w : W64) (o : Nat) : Bool := decide (rwStart w ≤ o) && decide (o ≤ rwStart w + rwLen w)

/-- A cluster port is dark while its cluster is unpowered or its slot disabled (04 R156). -/
def clusterDark (d : Dev) (c : Nat) : Bool :=
  !bit (tabGet 0 d.fuse.slots (islOf c)) (slotOf c) || !(clOf d c).powered

/-- Sends one copy to an output port at switch tick t. -/
def sendCopy (i p t : Nat) (f : Flit) (d : Dev) : Dev :=
  if p < 16 ∧ clusterDark d (16 * i + p) = true then
    clCtr (16 * i + p) (fun c => { c with darkDrop := satInc c.darkDrop }) d
  else
    match portDest i p with
    | some (dst, lat) => addFlight { dest := dst, due := t + lat, sw := t, flit := f } d
    | none => d

/-- Applies one active word: the flit at its input, or a void flit, goes to every output whose bit is set. -/
def applyWord (i t owner : Nat) (w : W64) (d : Dev) : Dev :=
  let r := takeFlight (.swIn i (rwIn w)) t d
  let x := match r.1 with
    | some fl => (fl.flit, r.2)
    | none => (voidFlit owner 0, ctrAt i (rwIn w) (fun c => { c with voidMade := satInc c.voidMade }) r.2)
  ((List.range 28).filter (bit (rwOut w))).foldl (fun a p => sendCopy i p t x.1 a) x.2

/-- The words of PHASE_p's segment on island i active at tick k of the wheel, with the segment's owner, and the table
errors met; a word may run on past its phase (R138). -/
def segmentWords (i k p : Nat) (d : Dev) : List (Nat × W64) × Dev :=
  let e := phaseEnt d i p
  let o := k - p * (d.whl.w / 64)
  let at_ (j : Nat) : Nat := (e.base + j) % 65536
  let word (j : Nat) : W64 := tabGet 0 d.fab.route (65536 * i + at_ j)
  let hits := (List.range e.len).filter fun j => rwActive (word j) o
  let r := if p = phaseOf d.whl k ∨ hits ≠ [] then tableUse (phaseAddr i p) i e.owner d else (true, d)
  if !r.1 then ([], r.2)
  else
    hits.foldl (fun acc j =>
      let u := tableUse (routeAddr i (at_ j)) i e.owner acc.2
      if u.1 then (acc.1 ++ [(e.owner, word j)], u.2) else (acc.1, u.2)) ([], r.2)

/-- The words of island i active at tick k; in a slipped wheel those of PHASE_63 only (03 R114). -/
def activeWords (i k : Nat) (d : Dev) : List (Nat × W64) × Dev :=
  (List.range (phaseOf d.whl k + 1)).foldl (fun acc p =>
    if d.whl.slip ∧ p ≠ 63 then acc
    else
      let r := segmentWords i k p acc.2
      (acc.1 ++ r.1, r.2)) ([], d)

/-- Flits left at the inputs of island i at tick t are dropped as unrouted (04 R147, R155). -/
def dropUnrouted (i t : Nat) (d : Dev) : Dev :=
  let hit (x : Flight) : Bool := (match x.dest with | .swIn j _ => j == i | _ => false) && x.due == t
  let count (a : Dev) (x : Flight) : Dev :=
    match x.dest with | .swIn _ p => ctrAt i p (fun c => { c with unrouted := satInc c.unrouted }) a | _ => a
  (d.fab.flits.filter hit).foldl count { d with fab := { d.fab with flits := d.fab.flits.filter fun x => !hit x } }

/-- Counts an endpoint's ECC outcome. -/
def countEcc (o : EccOut) (count : (FabCtr → FabCtr) → Dev → Dev) (d : Dev) : Dev :=
  match o with
  | .clean => d
  | .corrected => count (fun c => { c with eccCorr := satInc c.eccCorr }) d
  | .bad => count (fun c => { c with eccUncorr := satInc c.eccUncorr }) d

/-- CTL_PORT of an island, a service port, checks and corrects the flits that have come to it (04 R133): digest drains of
the device, whose snapshots `drainCluster` has taken to their table (16 R570). -/
def controlPort (i t : Nat) (d : Dev) : Dev :=
  let hit (x : Flight) : Bool := x.dest == .ctl i && decide (x.due ≤ t)
  (d.fab.flits.filter hit).foldl (fun a x => countEcc (eccCheck x.flit).2 (portCtr i 24) a)
    { d with fab := { d.fab with flits := d.fab.flits.filter fun x => !hit x } }

/-- SWITCH_TICK: one tick of an island's route sequencer, and of its CTL_PORT. -/
def opSwitchTick (i t : Nat) (d : Dev) : Dev :=
  if t < d.whl.now then d
  else
    let d0 := advanceTo t d
    let k := tickAt d0.whl t
    let d1 :=
      if counted d0.whl ∨ (d0.whl.slip = true ∧ k < d0.whl.w) then
        let ws := activeWords i k d0
        ws.1.foldl (fun a x => applyWord i t x.1 x.2 a) ws.2
      else d0
    dropUnrouted i t (controlPort i t d1)

/-! ## Launch slots, fabric side (07 R266 to R269) -/

/-- A payload is readable in the fabric at tick t (02 R60). -/
def payloadReady (h : LaunchHdr) (i t : Nat) : Bool :=
  match h.payloads[i]? with
  | some p => (match p.stamp with | some s => decide (s + 4 ≤ t) | none => false)
  | none => false

/-- The tag of flit i: the entry index advances modulo 32 (07 R266). -/
def tagAt (tag : BitVec 10) (i : Nat) : BitVec 10 :=
  BitVec.ofNat 10 (tag.toNat / 32 * 32 + (tag.toNat + i) % 32)

/-- Frees a launch slot; the island sees it from its fourth edge on (07 R267). -/
def freeSlot (cl ls : Nat) (d : Dev) : Dev :=
  modCl cl (fun k => { k with ls := tabSet ls (.free (k.cyc + 4)) k.ls }) d

def countLate (cl n : Nat) (d : Dev) : Dev := modCl cl (fun k => { k with lsLate := satAdd k.lsLate n }) d

/-- A flit leaves a cluster: at its switch two ticks later (04 Table FAB-6). -/
def sendFromCluster (cl t : Nat) (f : Flit) (d : Dev) : Dev :=
  addFlight { dest := .swIn (islOf cl) (slotOf cl), due := t + 2, sw := t + 2, flit := f } d

/-- Moves the slot on to flit i + 1, or frees it after the last flit whose tick lies in the wheel; a flit whose
tick would exceed W - 1 is skipped and counted (07 R266). -/
def slotNext (cl ls : Nat) (h : LaunchHdr) (i : Nat) (d : Dev) : Dev :=
  if h.n ≤ i + 1 then freeSlot cl ls d
  else if d.whl.w ≤ h.tick + i + 1 then freeSlot cl ls (countLate cl (h.n - (i + 1)) d)
  else modCl cl (fun k => { k with ls := tabSet ls (.filled { h with next := i + 1, accepted := true }) k.ls }) d

/-- LAUNCH_DEPARTURE: the fabric side of a slot at tick t, for its next flit. A header whose own TICK lies past the wheel
has no departure: each of its flits is skipped and counted, and the slot is free (07 R266; log entry 98). -/
def opLaunchDeparture (cl ls t : Nat) (d : Dev) : Dev :=
  if t < d.whl.now then d
  else
    let d0 := advanceTo t d
    let k := clOf d0 cl
    match lsOf k ls with
    | .filled h =>
      if k.tvHeld || h.stamp + 4 > t then d0
      else if d0.whl.w ≤ h.tick then freeSlot cl ls (countLate cl h.n d0)
      else if !counted d0.whl then d0
      else
        let i := h.next
        match reach (h.lap, h.tick + i) (fabPos d0.whl) with
        | .future => d0
        | .passed =>
          if h.accepted then slotNext cl ls h i (countLate cl 1 d0) else d0
        | .current =>
          let ten := (holderOf d0 cl).getD 63
          let f :=
            match h.payloads[i]? with
            | some p =>
              if payloadReady h i t then
                sealFlit { data := p.data, ten := BitVec.ofNat 6 ten, tag := tagAt h.tag i, late := false, poison := p.poison, ecc := 0 }
              else voidFlit ten (tagAt h.tag i)
            | none => voidFlit ten (tagAt h.tag i)
          slotNext cl ls h i (sendFromCluster cl t f d0)
    | _ => d0

/-- LAUNCH_HEADER_LATE (07 R268): at the first tick at which the header is readable its DEP has passed. -/
def opLaunchHeaderLate (cl ls t : Nat) (d : Dev) : Dev :=
  if t < d.whl.now then d
  else
    let d0 := advanceTo t d
    match lsOf (clOf d0 cl) ls with
    | .filled h =>
      if !(clOf d0 cl).tvHeld && !h.accepted && decide (h.tick < d0.whl.w) && decide (h.stamp + 4 ≤ t) && decide (reach (h.lap, h.tick) (fabPos d0.whl) = .passed) then
        freeSlot cl ls (countLate cl 1 d0)
      else d0
    | _ => d0

/-! ## Endpoints (04 R149 to R152, R157, R158) -/

/-- A flit whose tag is not its endpoint's owner is discarded and counted; a tenancy it names faults (R151). DESIGN CHOICE (log
entry 105): a tag counts as unreadable (R133) where the flit is uncorrectable and the tag as received is not the owner's. -/
def tagMismatch (f : Flit) (bad : Bool) (count : (FabCtr → FabCtr) → Dev → Dev) (d : Dev) : Dev :=
  let d1 := count (fun c => { c with tagMismatch := satInc c.tagMismatch }) d
  if !bad && decide (f.ten.toNat < 32) then raiseFault f.ten.toNat fcWindow d1 else d1

/-- LANDING_WRITE: the flit due at a cluster's landing buffers at tick t. -/
def opLandingWrite (cl t : Nat) (d : Dev) : Dev :=
  if t < d.whl.now then d
  else
    let d0 := advanceTo t d
    let r := takeFlight (.landing cl) t d0
    match r.1 with
    | none => d0
    | some fl =>
      let e := eccCheck fl.flit
      let f := e.1
      let d1 := countEcc e.2 (clCtr cl) r.2
      if some f.ten.toNat ≠ holderOf d1 cl then tagMismatch f (decide (e.2 = .bad)) (clCtr cl) d1
      else if f.late then
        faultHolder cl fcVoidFlit (clCtr cl (fun c => { c with voidRx := satInc c.voidRx }) d1)
      else
        let ix := 32 * bits f.tag.toNat 9 7 + f.tag.toNat % 32
        if (lbOf (clOf d1 cl) ix).full then clCtr cl (fun c => { c with lbOverwrite := satInc c.lbOverwrite }) d1
        else
          modCl cl (fun k =>
            let x : LbEntry := { full := true, lap := bits f.tag.toNat 6 5, poison := f.poison, tag := f.tag, data := f.data, tick := t, cyc := k.cyc }
            { k with lb := tabSet ix x k.lb }) d1

/-! ## Shelf ports (06 R225 to R231) -/

def swLine (w : W64) : Nat := bits w.toNat 19 0
def swStart (w : W64) : Nat := bits w.toNat 29 20
def swLen (w : W64) : Nat := bits w.toNat 39 30
def swDir (w : W64) : Bool := bit w.toNat 40
def swTag (w : W64) : BitVec 10 := BitVec.ofNat 10 (bits w.toNat 51 42)
def swStep (w : W64) : Nat := bits w.toNat 62 52

def shelfEnt (d : Dev) (q k p : Nat) : PhaseEnt := tabGet (phaseDefault p) d.fab.shelfPhase (64 * (8 * q + k) + p)

/-- The words of a shelf port in one phase's segment that a tick in the wheel finds active in one direction, with the
line each accesses there, the owner, and the table errors met. A word whose START and LEN run past its phase stays
active beyond it (06 R227, 04 R138). -/
def shelfSegment (q k tk p : Nat) (dir : Bool) (d : Dev) : List (W64 × Nat × Nat) × Dev :=
  let e := shelfEnt d q k p
  let o := tk - p * (d.whl.w / 64)
  let at_ (j : Nat) : Nat := (e.base + j) % 4096
  let word (j : Nat) : W64 := tabGet 0 d.fab.shelfProg (4096 * (8 * q + k) + at_ j)
  let hits := (List.range e.len).filter fun j =>
    (swDir (word j) == dir) && decide (swStart (word j) ≤ o) && decide (o ≤ swStart (word j) + swLen (word j))
  let r := if p = phaseOf d.whl tk ∨ hits ≠ [] then tableUse (shelfPhaseAddr q k p) (32 + 8 * q + k) e.owner d else (true, d)
  let log (x : Bool × Dev) (a : Nat) : Dev := if x.1 || e.owner != 63 then x.2 else logError (1024 + q) a 1 none x.2
  if !r.1 then ([], log r (shelfPhaseAddr q k p))
  else
    hits.foldl (fun acc j =>
      let u := tableUse (shelfProgAddr q k (at_ j)) (32 + 8 * q + k) e.owner acc.2
      if u.1 then (acc.1 ++ [(word j, swLine (word j) + (o - swStart (word j)) * swStep (word j), e.owner)], u.2)
      else (acc.1, log u (shelfProgAddr q k (at_ j)))) ([], r.2)

/-- The shelf words of a port active at a tick of the present wheel, in one direction. -/
def shelfActive (q k x : Nat) (dir : Bool) (d : Dev) : List (W64 × Nat × Nat) × Dev :=
  let tk := tickAt d.whl x
  if d.whl.start ≤ x ∧ tk < d.whl.w then
    (List.range (phaseOf d.whl tk + 1)).foldl (fun acc p =>
      if d.whl.slip ∧ p ≠ 63 then acc
      else
        let r := shelfSegment q k tk p dir acc.2
        (acc.1 ++ r.1, r.2)) ([], d)
  else ([], d)

def shelfAddr (q line : Nat) : Nat := shelfBase q + 64 * (line % 1048576)

def modShelfCtr (q : Nat) (f : ShelfCtr → ShelfCtr) (d : Dev) : Dev :=
  { d with mem := { d.mem with shelfCtr := tabMod {} q f d.mem.shelfCtr } }

def shelfLost (q k : Nat) (d : Dev) : Dev :=
  { d with mem := { d.mem with shelfUnwritten := tabMod 0 (8 * q + k) satInc d.mem.shelfUnwritten } }

/-- Keeps a line as it is before a write of tick t; lines kept for another tick are dropped (06 R229). -/
def keepOld (t a : Nat) (m : Mem) : Mem :=
  { m with shelfOld := (m.shelfOld.filter fun (o : ShelfOld) => o.tick == t) ++
      [{ tick := t, addr := a, data := BitVec.ofNat 512 (memRead m.cells a 64),
         checks := (List.range 8).map fun i => tabGet 0 m.ecc (a + 8 * i) }] }

/-- A shelf line as a read in tick t sees it: as it was before a write of that tick (06 R229). -/
def shelfLine (m : Mem) (t a : Nat) : LineRead :=
  match m.shelfOld.find? fun (o : ShelfOld) => o.tick == t && o.addr == a with
  | some o => lineRead o.data fun i => o.checks.getD i 0
  | none => readLine8 m a

/-- One active word writes a flit's line (06 R228, R229, R234). -/
def shelfStore (q t line : Nat) (f : Flit) (d : Dev) : Dev :=
  let a := shelfAddr q line
  { d with mem := (writeLine8 a f.data.toNat (rangeMask 0 512) (if f.poison then 255 else 0) (keepOld t a d.mem)).1 }

/-- One active word reads its line in tick t: what was met is counted and logged, and the flit is answered. -/
def shelfFetch (q t : Nat) (x : W64 × Nat × Nat) (d : Dev) : Flit × Dev :=
  let a := shelfAddr q x.2.1
  let r := shelfLine d.mem t a
  (sealFlit { data := r.data, ten := BitVec.ofNat 6 x.2.2, tag := swTag x.1, late := false, poison := r.poison != 0, ecc := 0 },
    logRead (1024 + q) a r (some x.2.2) (modShelfCtr q (fun c =>
      { corr := satAdd c.corr r.corr, uncorr := satAdd c.uncorr r.uncorr, stored := satAdd c.stored r.stored }) d))

def shelfFetches (q t : Nat) : List (W64 × Nat × Nat) → Dev → List Flit × Dev
  | [], d => ([], d)
  | x :: xs, d =>
    let r := shelfFetch q t x d
    let rs := shelfFetches q t xs r.2
    (r.1 :: rs.1, rs.2)

/-- SHELF_WRITE: the flit that reaches a shelf port at tick t, routed at the centre switch at t - 5. -/
def opShelfWrite (q k t : Nat) (d : Dev) : Dev :=
  if t < d.whl.now then d
  else
    let d0 := advanceTo t d
    let r := takeFlight (.shelf q k) t d0
    match r.1 with
    | none => d0
    | some fl =>
      let ctr := portCtr (centreOf q) (20 + k)
      let e := eccCheck fl.flit
      let f := e.1
      let d1 := countEcc e.2 ctr r.2
      let owner := ownerAt d1 (centreOf q) fl.sw
      if f.ten.toNat ≠ owner then tagMismatch f (decide (e.2 = .bad)) ctr d1
      else
        let a := shelfActive q k fl.sw false d1
        match a.1 with
        | [] => shelfLost q k a.2
        | x :: xs =>
          if f.late then faultOwner x.2.2 fcVoidFlit (ctr (fun c => { c with voidRx := satInc c.voidRx }) a.2)
          else (x :: xs).foldl (fun y w => shelfStore q t w.2.1 f y) a.2

/-- SHELF_READ: a read word active at tick x is read at t = x - 6; its flit is at the switch input at x. Where several
words of the port are active, each reads; which one's flit the port presents is open (log entry 100). -/
def opShelfRead (q k t : Nat) (d : Dev) : Dev :=
  if t < d.whl.now then d
  else
    let d0 := advanceTo t d
    let a := shelfActive q k (t + 6) true d0
    let r := shelfFetches q t a.1 a.2
    match r.1[Config.shelfPick (8 * q + k) t % r.1.length]? with
    | none => r.2
    | some f => addFlight { dest := .swIn (centreOf q) (20 + k), due := t + 6, sw := t + 6, flit := f } r.2

end Sys2Proof.Machine
end

