-- ==== Sys2Proof/Machine/Column.lean ====
section
/-!
DEFINITION. The column controllers, their refresh, and the pane fill ports (06 R205, R208 to R221, R233 to R238).
-/
namespace Sys2Proof.Machine

def modMem (f : Mem → Mem) (d : Dev) : Dev := { d with mem := f d.mem }

/-- Column edges of a quadrant move forward. -/
def advanceM (q m : Nat) (d : Dev) : Dev :=
  if tabGet 0 d.mem.mNow q ≤ m then modMem (fun x => { x with mNow := tabSet q m x.mNow }) d else d

/-- The number of slots of a phase (06 R210). -/
def slotsOf (w : Nat) : Nat := (8 * (w / 64 - 2)) / 10 - 7

/-- Column edge m is the edge in the column period after tick 5 m / 4, by the numbering of log entry 101. A mark
written at fabric tick t is then observed, at the second or third edge after it, at one of three of them (02 R61). -/
def markSeen (t m : Nat) : Bool := decide (4 * t / 5 + 1 ≤ m) && decide (m ≤ 4 * t / 5 + 3)

/-- Fabric ticks at which refresh-tick marks were written: those of the wheel's phases that have started, and that of
the last phase of the wheel before (03 R80; 06 R221). -/
def refreshMarks (w : Wheel) : List Nat :=
  ((List.range w.phase).map fun p => w.start + (p + 1) * (w.w / 64) - 2) ++
    (if 0 < w.n then [w.start - w.guardLast - 2] else [])

/-- A refresh burst of 3 m is at work in a column at edge m: no slot executes (06 R221). -/
def inBurst (d : Dev) (cl m : Nat) : Bool :=
  let b := tabGet (0, 0) d.mem.burst cl
  tabHas d.mem.burst cl && decide (b.2 ≤ m) && decide (m < b.2 + 3)

/-- Slot s of the phase that runs lies at column edge e_p + 4 + s, where e_p is the edge at which the phase-start mark
was observed, one edge for the whole phase (06 R209). -/
def slotAt (d : Dev) (cl phase slot m : Nat) : Bool :=
  let t := d.whl.start + phase * (d.whl.w / 64)
  let e := m - (4 + slot)
  let x := tabGet (0, 0) d.mem.colMark cl
  d.whl.running && counted d.whl && decide (d.whl.phase = phase + 1) && decide (slot < slotsOf d.whl.w) &&
    decide (4 + slot ≤ m) && markSeen t e && !(tabHas d.mem.colMark cl && x.1 == t && x.2 != e) &&
    decide (tabGet 0 d.mem.mNow (quadOf cl) ≤ m) && !inBurst d cl m

/-- The column's edge of the phase-start mark is fixed by the first slot used in the phase. -/
def noteMark (cl phase slot m : Nat) (d : Dev) : Dev :=
  let x := (d.whl.start + phase * (d.whl.w / 64), m - (4 + slot))
  modMem (fun y => { y with colMark := tabSet cl x y.colMark }) (advanceM (quadOf cl) m d)

/-- Global bank of a line index: layer times 16 plus bank (06 R208). -/
def bankOf (l : Nat) : Nat := l / 393216 * 16 + l % 393216 % 16

def reqLap (w : W64) : Nat := bits w.toNat 2 2
def reqPhase (w : W64) : Nat := bits w.toNat 8 3
def reqSlot (w : W64) : Nat := bits w.toNat 18 9
def reqLine (w : W64) : Nat := bits w.toNat 39 19
def reqPane (w : W64) : Nat := bits w.toNat 55 40

/-- d of 06 R213, the distance of a request's tag from the present slot. -/
def tagDistance (w : W64) (lap phase slot : Nat) : Nat :=
  (reqLap w * 65536 + reqPhase w * 1024 + reqSlot w + 131072 - (lap * 65536 + phase * 1024 + slot)) % 131072

/-- Address of a column line (06 Table MEM-2). -/
def colLineAddr (cl l : Nat) : Nat := colBase cl + 64 * l

/-- A column line is one protected unit of 64 bytes (06 R232). -/
structure ColRead where
  data : Line
  poison : Bool
  kind : EccKind
  /-- Bits the on-die ECC corrected. -/
  onDie : Nat

def readColLine (m : Mem) (cl l : Nat) : ColRead :=
  let a := colLineAddr cl l
  let syn := tabGet 0 m.ecc a
  let k := unitKind 11 512 syn
  let x := BitVec.ofNat 512 (memRead m.cells a 64)
  { data := if syn = 0 then x else x ^^^ BitVec.ofNat 512 (unitFlip 11 512 syn)
    poison := k = .uncorr || k = .poison, kind := k, onDie := tabGet 0 m.odEcc a }

/-- Counts what a column line read met (06 R232 to R234, R238). -/
def countCol (cl l : Nat) (r : ColRead) (d : Dev) : Dev :=
  let d0 := if r.onDie = 0 then d else memCtr cl (fun c => { c with colOdecc := satAdd c.colOdecc r.onDie }) d
  match r.kind with
  | .ok => d0
  | .corr => memCtr cl (fun c => { c with colCorr := satInc c.colCorr }) d0
  | .uncorr =>
    logError (512 + cl) (colLineAddr cl l) 1 (holderOf d cl) (memCtr cl (fun c => { c with colUncorr := satInc c.colUncorr }) d0)
  | .poison =>
    logError (512 + cl) (colLineAddr cl l) 2 (holderOf d cl) (memCtr cl (fun c => { c with colStored := satInc c.colStored }) d0)

/-- The bank rule of 06 R218: 16 m after the last performed access to the bank. -/
def bankFree (d : Dev) (cl l m : Nat) : Bool :=
  match tabGet none (d.mem.bankLast.map fun x => (x.1, some x.2)) (64 * cl + bankOf l) with
  | some last => decide (last + 16 ≤ m)
  | none => true

def touchBank (cl l m : Nat) (d : Dev) : Dev :=
  modMem (fun x => { x with bankLast := tabSet (64 * cl + bankOf l) m x.bankLast }) d

/-- Data read in a slot waits 96 m (06 R215). -/
def pushRead (cl : Nat) (r : ColRd) (d : Dev) : Dev :=
  modMem (fun x => { x with colRd := tabMod [] cl (fun q => q ++ [r]) x.colRd }) d

/-- A write merges a bit mask into a line, as one protected unit; a merge reads it, through the on-die ECC too (06 R217,
R232 to R235, R238). -/
def mergeCol (cl l v mask : Nat) (poison : Bool) (d : Dev) : Dev :=
  let a := colLineAddr cl l
  let r := writeUnit 64 a v mask poison d.mem
  let od := if mask = pow2 512 - 1 then 0 else tabGet 0 d.mem.odEcc a
  let d1 := { d with mem := r.1 }
  memCtr cl (fun c => { c with
      colCorr := satAdd c.colCorr r.2.1, colUncorr := satAdd c.colUncorr r.2.2, colOdecc := satAdd c.colOdecc od })
    (if r.2.2 = 0 then d1 else logError (512 + cl) a 1 (holderOf d cl) d1)

def writeColLine (cl l : Nat) (e : ReqEntry) (d : Dev) : Dev :=
  mergeCol cl l e.data.toNat (nibbleBits 128 e.mask.toNat) e.poison d

/-- A violation of the bank rule is counted and logged (06 R218, R238). -/
def countBusy (cl l : Nat) (d : Dev) : Dev :=
  logError (512 + cl) (colLineAddr cl l) 3 (holderOf d cl) (memCtr cl (fun c => { c with colBusy := satInc c.colBusy }) d)

/-- Executes a request in the slot at column edge m (06 R215, R217, R218). -/
def execRequest (cl m : Nat) (e : ReqEntry) (d : Dev) : Dev :=
  let l := reqLine e.word
  let free := bankFree d cl l m
  let busy (x : Dev) : Dev := countBusy cl l x
  let rd (data : Line) (p : Bool) : ColRd :=
    { slotM := m, line := reqPane e.word, mask := e.mask, data := data, poison := p }
  match e.word.toNat % 4 with
  | 0 =>
    if free then
      let r := readColLine d.mem cl l
      pushRead cl (rd r.data r.poison) (countCol cl l r (touchBank cl l m d))
    else pushRead cl (rd 0 true) (busy d)
  | 1 => if free then writeColLine cl l e (touchBank cl l m d) else busy d
  | _ => d

/-- Head entries of a queue: late ones are discarded, the one of this slot executes, a later one waits (06 R213,
R214, R237). The first argument bounds the number of entries examined by the length of the queue. -/
def drainQueue (cl lap phase slot m : Nat) : List ReqEntry → Dev → Dev
  | [], d => modMem (fun x => { x with colQ := tabDel cl x.colQ }) d
  | e :: es, d =>
    let keep (q : List ReqEntry) (x : Dev) : Dev := modMem (fun y => { y with colQ := tabSet cl q y.colQ }) x
    if m < e.stamp + 4 then keep (e :: es) d
    else if e.ecc = .uncorr ∨ e.ecc = .poison then
      drainQueue cl lap phase slot m es
        (faultHolder cl fcEcc (memCtr cl (fun c => { c with colUncorr := satInc c.colUncorr }) d))
    else
      let δ := tagDistance e.word lap phase slot
      if 65536 ≤ δ then
        drainQueue cl lap phase slot m es
          (faultHolder cl fcVoidFlit (memCtr cl (fun c => { c with colLate := satInc c.colLate }) d))
      else if δ = 0 then execRequest cl m e (if es.isEmpty then modMem (fun x => { x with colQ := tabDel cl x.colQ }) d else keep es d)
      else keep (e :: es) d

/-- COLUMN_SLOT: slot s of a phase of the present counted wheel, at column edge m (06 R209, R211, R213). A
disabled slot's column is unpowered (06 R220). -/
def opColumnSlot (cl phase slot m : Nat) (d : Dev) : Dev :=
  if slotAt d cl phase slot m && bit (tabGet 0 d.fuse.slots (islOf cl)) (slotOf cl) then
    let d1 := noteMark cl phase slot m d
    if (clOf d1 cl).tvHeld then d1 else drainQueue cl (d1.whl.n % 2) phase slot m (tabGet [] d1.mem.colQ cl) d1
  else d

/-- COLUMN_READ_DATA: at S + 96 m a read enters the column-to-island queue of 16 entries (06 R215; 02 R65). -/
def opColumnReadData (cl m : Nat) (d : Dev) : Dev :=
  match tabGet [] d.mem.colRd cl with
  | [] => d
  | r :: rs =>
    if r.slotM + 96 = m then
      let d1 := modMem (fun x => { x with colRd := if rs.isEmpty then tabDel cl x.colRd else tabSet cl rs x.colRd })
        (advanceM (quadOf cl) m d)
      let q := tabGet [] d1.mem.fillQ cl
      if q.length < 16 then
        let e : FillEntry := { line := r.line, mask := r.mask, data := r.data, poison := r.poison, cyc := (clOf d1 cl).cyc }
        modMem (fun x => { x with fillQ := tabSet cl (q ++ [e]) x.fillQ }) d1
      else memCtr cl (fun c => { c with fillDiscard := satInc c.fillDiscard }) d1
    else d

/-- PANE_FILL: the entry at the head is written once it is readable, unless its bank's fill port is at work in
the present cycle (06 R205, R206; 02 R60). -/
def opPaneFill (cl : Nat) (d : Dev) : Dev :=
  match tabGet [] d.mem.fillQ cl with
  | [] => d
  | e :: es =>
    let k := clOf d cl
    let busy := k.fills.any fun (f : PaneOld) => f.cyc == k.cyc && f.line % 16 == e.line % 16
    if k.cyc < e.cyc + 4 ∨ busy = true then d
    else
      let a := paneBase cl + 64 * e.line
      let w := writeLine8 a e.data.toNat (nibbleBits 128 e.mask.toNat) (if e.poison then 255 else 0) d.mem
      let m := { w.1 with fillQ := if es.isEmpty then tabDel cl w.1.fillQ else tabSet cl es w.1.fillQ }
      logMerge cl a (nibbleBits 128 e.mask.toNat) d.mem
        (memCtr cl (fun c => { c with paneCorr := satAdd c.paneCorr w.2.1, paneUncorr := satAdd c.paneUncorr w.2.2 })
          (setCl cl { k with fills := k.fills ++ [keepPane k.cyc e.line d.mem cl] } { d with mem := m }))

/-- REFRESH_BURST: at the edge at which a refresh-tick mark is observed, row REF_ROW of all banks of a column, then the
next row; one burst for each mark (06 R221). It changes no content. -/
def opRefreshBurst (cl m : Nat) (d : Dev) : Dev :=
  match (refreshMarks d.whl).find? fun t => markSeen t m with
  | none => d
  | some t =>
    let x := tabGet (0, 0) d.mem.burst cl
    if d.whl.running && bit (tabGet 0 d.fuse.slots (islOf cl)) (slotOf cl) && decide (tabGet 0 d.mem.mNow (quadOf cl) ≤ m) &&
        !(tabHas d.mem.burst cl && x.1 == t) then
      modMem (fun y => { y with
          refRow := tabMod 0 cl (fun r => (r + 1) % 1536) y.refRow, burst := tabSet cl (t, m) y.burst })
        (advanceM (quadOf cl) m (if d.whl.now ≤ t then advanceTo t d else d))
    else d

end Sys2Proof.Machine
end

