-- ==== Sys2Proof/Machine/Rings.lean ====
section
/-!
DEFINITION. Ring pairs, doorbells, packets, the start of commands and their replies (13; 15 R509 to R514;
23 R774, R775).
-/
namespace Sys2Proof.Machine

/-! ## Tables of the host interface -/

def modHost (f : HostIf → HostIf) (d : Dev) : Dev := { d with host := f d.host }
def modBoot (f : Boot → Boot) (d : Dev) : Dev := { d with boot := f d.boot }
def ringOf (d : Dev) (r : Nat) : Ring := tabGet {} d.host.rings r
def modRing (r : Nat) (f : Ring → Ring) (d : Dev) : Dev :=
  modHost (fun h => { h with rings := tabMod {} r f h.rings }) d
def coreOf (d : Dev) (n : Nat) : Core := tabGet {} d.host.cores n
def modCore (n : Nat) (f : Core → Core) (d : Dev) : Dev :=
  modHost (fun h => { h with cores := tabMod {} n f h.cores }) d
def coreUp (d : Dev) (n : Nat) : Bool := !(coreOf d n).reset && !(coreOf d n).retired && !(coreOf d n).expired
/-- The crossing from the control domain to the PCIe core holds its 64 entries: the requests of functions that may not
issue wait in it, and its writers, the cores, wait too (02 R66, Table CLK-4; 19 R647; log entry 114). -/
def crossingFull (d : Dev) : Bool := decide (64 ≤ d.host.blocked.length)

/-- A core serves its rings: it runs, and no firmware activation is in its blackout (20 R697, R698). -/
def coreServes (d : Dev) (n : Nat) : Bool := coreUp d n && d.boot.activating.isNone && !crossingFull d

/-- Registers outside IDENT, STATE and MAILBOX answer, and commands run, only once BOOT has ended (15 R514;
20 R679). -/
def booted (d : Dev) : Bool :=
  match d.boot.state with
  | .powerup | .boot => false
  | _ => true

/-- Home core of a ring pair (13 R444). -/
def homeCore (d : Dev) (ten r : Nat) : Nat :=
  if ten < 32 then (if recClass (grantOf d ten) = 1 then recCore (grantOf d ten) else 5 + r % 10) else 0

/-- The core that serves a home core's rings now (13 R445). -/
def servingCore (d : Dev) (home : Nat) : Nat :=
  if coreUp d home && (coreOf d home).rehome.isNone then home else 15

/-! ## Commands -/

def pkField (p : Line) (lo n : Nat) : Nat := bits p.toNat (8 * (lo + n) - 1) (8 * lo)
def opcodeOf (c : Cmd) : Nat := pkField c.pkt 0 2
def cmdFence (p : Line) : Bool := bit p.toNat 16
def cmdIrq (p : Line) : Bool := bit p.toNat 17
def cmdJournal (p : Line) : Bool := bit p.toNat 18
/-- Field of a parameter block. -/
def blkField (b : List Byte) (lo n : Nat) : Nat := leNat ((b.drop lo).take n)

def modCmd (id : Nat) (f : Cmd → Cmd) (d : Dev) : Dev :=
  modHost (fun h => { h with cmds := h.cmds.map fun c => if c.id = id then f c else c }) d
def findCmd (d : Dev) (p : Cmd → Bool) : Option Cmd := d.host.cmds.find? p
def cmdById (d : Dev) (id : Nat) : Option Cmd := findCmd d fun c => c.id == id
def cmdFn (d : Dev) (c : Cmd) : Nat := (ringOf d c.ring).function
def cmdTen (d : Dev) (c : Cmd) : Nat := (ringOf d c.ring).ten
def outstanding (d : Dev) (r : Nat) : Nat := (d.host.cmds.filter fun c => c.ring == r).length

/-- Status codes (13 Table UMB-8). -/
def sOk : Nat := 0
def sLate : Nat := 1
def sBusy : Nat := 2
def sNotPermitted : Nat := 3
def sBadOpcode : Nat := 4
def sBadParam : Nat := 5
def sBadImage : Nat := 6
def sNoFit : Nat := 7
def sShape : Nat := 8
def sHeld : Nat := 9
def sRevoked : Nat := 10
def sAborted : Nat := 11
def sSpanHalted : Nat := 12
def sFaulted : Nat := 13
def sMismatch : Nat := 14
def sCapLow : Nat := 15
def sNotQuiescent : Nat := 16
def sConfigInvalid : Nat := 17
def sTimeout : Nat := 18
def sJournalFull : Nat := 19

/-- Settles a command's status and result words. -/
def finish (id st r0 r1 : Nat) (d : Dev) : Dev :=
  modCmd id (fun c => { c with stage := .done, status := st, res0 := r0, res1 := r1 }) d

/-- Settles a command whose completion is keyed to a count (13 R467). -/
def finishAt (id st r0 r1 gc : Nat) (d : Dev) : Dev :=
  modCmd id (fun c => { c with stage := .done, status := st, res0 := r0, res1 := r1, gcDone := some gc }) d

/-- Ends a command with a status and a fault code, result words 0. -/
def abortCmd (id st fault : Nat) (d : Dev) : Dev :=
  modCmd id (fun c => { c with stage := .done, status := st, res0 := 0, res1 := 0, fault := fault }) d

/-- Marks a command as posted or waiting for an effect at a count (21 R724). -/
def armCmd (id count aux : Nat) (d : Dev) : Dev :=
  modCmd id (fun c => { c with stage := .armed, count := count, aux := aux }) d

/-- Every command that is not done and meets a condition. -/
def openCmds (d : Dev) (p : Cmd → Bool) : List Cmd := d.host.cmds.filter fun c => p c && c.stage != .done

/-- Opcodes that act on the tenancy of their ring (15 Table CMD-1, issuer T). -/
def isT (op : Nat) : Bool :=
  op == 3 || (0x100 ≤ op && op ≤ 0x104) || (0x200 ≤ op && op ≤ 0x203) || (0x300 ≤ op && op ≤ 0x304) ||
  (0x400 ≤ op && op ≤ 0x404) || op == 0x503 || op == 0x504 || (0x600 ≤ op && op ≤ 0x602)

/-- A command of a tenancy: a T opcode on one of its rings. -/
def cmdOfTen (d : Dev) (t : Nat) (c : Cmd) : Bool := isT (opcodeOf c) && cmdTen d c == t

/-- A command ended by something other than its own effect (13 R471). -/
def endCmd (st fault : Nat) (gc : Option Nat) (c : Cmd) : Cmd :=
  { c with stage := .done, status := st, res0 := 0, res1 := 0, fault := fault, gcDone := gc }

/-- Ends every outstanding command that meets a condition (13 R471). -/
def abortCmds (p : Cmd → Bool) (st fault : Nat) (gc : Option Nat) (d : Dev) : Dev :=
  let f (c : Cmd) : Cmd := if p c && c.stage != .done then endCmd st fault gc c else c
  modHost (fun h => { h with cmds := h.cmds.map f }) d

/-! ## Reading host memory -/

/-- Issues a read of host memory for the control domain. -/
def issueFetch (why : FetchFor) (fn addr len : Nat) (d : Dev) : Dev :=
  let id := d.host.nextId
  issueOut fn (.hostRead fn addr len)
    (modHost (fun h => { h with nextId := id + 1, fetches := h.fetches ++ [{ id := id, why := why, fn := fn, addr := addr, len := len }] }) d)

/-- A command asks for host data and waits for it. -/
def fetchData (c : Cmd) (addr len : Nat) (d : Dev) : Dev :=
  issueFetch (.data c.id) (cmdFn d c) addr len (modCmd c.id (fun c => { c with stage := .fetch }) d)

/-- A write of command data to host memory, before the reply (15 R512). -/
def hostWrite (c : Cmd) (addr : Nat) (data : List Byte) (d : Dev) : Dev :=
  issueOut (cmdFn d c) (.hostWrite (cmdFn d c) addr data) d

/-! ## Ring state -/

/-- A read of a packet that a stopped or closed ring asked for delivers nothing: the entry at CMD_HEAD is read again once
the ring is enabled (13 R452, R458). -/
def dropPacket (r : Nat) (d : Dev) : Dev :=
  modHost (fun h => { h with fetches := h.fetches.filter fun f => f.why != .packet r }) d

/-- A ring enters STOPPED: its vector is sent and its cause bit set (13 R456, R473; 23 R771). -/
def stopRing (r cause : Nat) (d : Dev) : Dev :=
  let g := ringOf d r
  let d1 := modRing r (fun g => { g with st := .stopped, cause := cause, closing := false, packet := none, fetching := false })
    (dropPacket r d)
  let d2 := sendMsix g.function g.vector d1
  if g.ten < 32 then raiseCause g.ten 2 d2 else raiseDev 12 d2

def ringOwned (d : Dev) (fn r : Nat) : Bool :=
  booted d && (ringOf d r).st != .unassigned && (ringOf d r).function == fn

/-- DOORBELL_CMD_TAIL (13 R454 to R456). -/
def opDoorbellCmdTail (fn r v : Nat) (d : Dev) : Dev :=
  if ringOwned d fn r then
    let d1 := modRing r (fun g => { g with tail := v }) d
    if (ringOf d r).st = .enabled ∧ pow2 (ringOf d r).cmdLog ≤ v then stopRing r 4 d1 else d1
  else d

/-- DOORBELL_STS_HEAD (13 R454 to R456). -/
def opDoorbellStsHead (fn r v : Nat) (d : Dev) : Dev :=
  if ringOwned d fn r then
    let d1 := modRing r (fun g => { g with
      stsHead := v, unreleased := g.unreleased - (v + pow2 g.stsLog - g.stsHead % pow2 g.stsLog) % pow2 g.stsLog }) d
    if (ringOf d r).st = .enabled ∧ pow2 (ringOf d r).stsLog ≤ v then stopRing r 5 d1 else d1
  else d

/-- A write of a doorbell page: page r of BAR 2 lies at r x 0x1000, and any offset but the two doorbells ignores it (13 R454;
23 R775). -/
def writePage (fn off v : Nat) (d : Dev) : Dev :=
  match off % 0x1000 with
  | 0 => opDoorbellCmdTail fn (off / 0x1000) v d
  | 4 => opDoorbellStsHead fn (off / 0x1000) v d
  | _ => d

/-- A read of a doorbell page: the last value accepted, 0 at any other offset and for a page of another function (23
R775). -/
def readPage (fn off : Nat) (d : Dev) : Nat :=
  let g := ringOf d (off / 0x1000)
  if !ringOwned d fn (off / 0x1000) then 0
  else
    match off % 0x1000 with
    | 0 => g.tail
    | 4 => g.stsHead
    | _ => 0

/-- Cause that refuses an ENABLE, 0 for none (13 R449, R452; 23 Table REG-13). -/
def enableCause (g : Ring) : Nat :=
  if g.cmdBase.toNat % 4096 ≠ 0 ∨ g.stsBase.toNat % 4096 ≠ 0 then 1
  else if g.cmdLog < 4 ∨ 16 < g.cmdLog ∨ g.stsLog < 4 ∨ 16 < g.stsLog then 2
  else if tableSize g.function ≤ g.vector then 3
  else 0

/-- RING_ENABLE: a CTRL write with ENABLE set (13 R452). -/
def opRingEnable (fn r vector : Nat) (d : Dev) : Dev :=
  if ringOwned d fn r ∧ (ringOf d r).st = .ready then
    let g := { ringOf d r with vector := vector }
    let c := enableCause g
    if c = 0 then
      modRing r (fun _ => { g with
        st := .enabled, enable := true, head := 0, tail := 0, stsTail := 0, stsHead := 0, unreleased := 0, lap := 0
        closing := false, cause := 0, fetching := false, packet := none }) d
    else modRing r (fun _ => { g with cause := c }) d
  else d

/-- RING_DISABLE: a CTRL write with ENABLE clear (13 R451, R452). -/
def opRingDisable (fn r vector : Nat) (d : Dev) : Dev :=
  if ringOwned d fn r then
    let g := ringOf d r
    match g.st with
    | .ready => modRing r (fun g => { g with vector := vector }) d
    | .enabled =>
      if outstanding d r = 0 then
        modRing r (fun g => { g with st := .ready, enable := false, closing := false, packet := none, fetching := false }) (dropPacket r d)
      else modRing r (fun g => { g with enable := false, closing := true, packet := none, fetching := false }) (dropPacket r d)
    | .stopped =>
      if outstanding d r = 0 then modRing r (fun g => { g with st := .ready, enable := false }) d else d
    | .unassigned => d
  else d

/-- RING_CLOSE_DONE (23 R774). -/
def opRingCloseDone (r : Nat) (d : Dev) : Dev :=
  if (ringOf d r).closing ∧ outstanding d r = 0 then
    modRing r (fun g => { g with st := .ready, closing := false }) d
  else d

/-- COMMAND_FETCH: the entry at CMD_HEAD is read once (13 R458). -/
def opCommandFetch (r : Nat) (d : Dev) : Dev :=
  let g := ringOf d r
  if g.st = .enabled ∧ g.closing = false ∧ g.head ≠ g.tail ∧ g.fetching = false ∧ booted d = true ∧ coreServes d g.serving = true then
    issueFetch (.packet r) g.function (g.cmdBase.toNat + 64 * g.head) 64 (modRing r (fun g => { g with fetching := true }) d)
  else d

/-! ## The common checks (13 Table UMB-6) -/

def listed (op : Nat) : Bool :=
  op == 1 || op == 2 || isT op || op == 0x305 || op == 0x306 || (0x500 ≤ op && op ≤ 0x502) || (0xF00 ≤ op && op ≤ 0xF0B)

/-- Opcodes that take a parameter block, and no inline parameters (15 Table CMD-1). -/
def needsBlock (op : Nat) : Bool := op == 0x500 || op == 0x601 || op == 0xF00 || op == 0xF0B

/-- FLAGS, PB and the form (13 R457 to R459, Table UMB-5). -/
def formOk (p : Line) : Bool :=
  let op := pkField p 0 2
  let pb := pkField p 3 1
  pkField p 2 1 < 8 && pb == (if needsBlock op then 1 else 0) &&
    (pb == 0 ||
      (let len := pkField p 24 4
       pkField p 16 8 % 64 == 0 && len % 64 == 0 && decide (64 ≤ len) && decide (len ≤ 65536) &&
         (op != 0x601 || len == 64)))

/-- Parameter bytes of an opcode with PB = 0, as first byte and length; every other byte is reserved. -/
def paramBytes (op : Nat) (shape link : Bool) : List (Nat × Nat) :=
  match op with
  | 0x0002 => [(16, 13)]
  | 0x0003 => [(16, 14)]
  | 0x0100 | 0x0400 | 0x0402 | 0x0403 => [(16, 12)]
  | 0x0104 => [(16, 1)]
  | 0x0200 | 0x0201 | 0x0202 => [(16, 2), (20, 2), (24, 20)]
  | 0x0203 => [(16, 3), (20, 2), (24, 23), (48, 16)]
  | 0x0300 => if shape then [(16, 24)] else [(16, 40)]
  | 0x0301 => if shape then [(24, 16)] else [(24, 32)]
  | 0x0302 | 0x0303 | 0x0304 | 0x0306 | 0x0F01 => [(16, 8)]
  | 0x0404 => [(16, 9)]
  | 0x0503 => [(16, 6), (24, 17), (48, 8)]
  | 0x0504 => [(16, 2), (24, 8)]
  | 0x0600 => [(16, 2), (20, 4)]
  | 0x0602 => [(16, 1)]
  | 0x0F02 => [(16, 3), (24, 8)]
  | 0x0F03 => [(16, 2)]
  | 0x0F04 => [(16, 5)]
  | 0x0F05 => [(16, 2)]
  | 0x0F06 => [(16, 6), (24, 8)]
  | 0x0F07 => [(16, 13)]
  | 0x0F09 => if link then [(16, 2), (19, 1), (24, 8)] else [(16, 4)]
  | 0x0F0A => [(16, 1), (24, 8)]
  | 0x0500 | 0x0601 | 0x0F00 | 0x0F0B => [(16, 12)]
  | _ => []

/-- Reserved bits and encodings inside the listed bytes (00 R18). -/
def paramBits (op : Nat) (p : Line) : Bool :=
  match op with
  | 0x0404 => pkField p 24 1 < 2
  | 0x0503 =>
    pkField p 17 1 < 6 && pkField p 18 1 < 64 && pkField p 19 1 < 4 && pkField p 40 1 < 3
  | 0x0600 => pkField p 17 1 < 2
  | 0x0F06 => pkField p 21 1 < 2
  | 0x0F07 => pkField p 28 1 < 2
  | 0x0F09 => pkField p 19 1 < 2
  | _ => true

/-- Bytes 16 to 63 outside the listed ones are 0. -/
def bytesClear (p : Line) (keep : List (Nat × Nat)) : Bool :=
  (List.range 48).all fun i => pkField p (16 + i) 1 == 0 || keep.any fun k => decide (k.1 ≤ 16 + i) && decide (16 + i < k.1 + k.2)

/-- Bytes lo to hi - 1 of a block are 0. -/
def blkClear (b : List Byte) (lo hi : Nat) : Bool := ((b.drop lo).take (hi - lo)).all (· == 0)

/-- Reserved fields of a parameter block (15 R545, Tables CMD-13, CMD-14; 17 Table BSU-8). -/
def blockOk (op : Nat) (b : List Byte) : Bool :=
  match op with
  | 0x0500 =>
    let n := blkField b 8 2
    blkClear b 10 12 && blkClear b 16 64 && blkClear b (64 + 48 * n) b.length &&
      (List.range (min n 1024)).all fun k =>
        blkClear b (64 + 48 * k + 10) (64 + 48 * k + 16) &&
          (List.range 16).all fun i => !bit (blkField b (64 + 48 * k + 16 + 2 * i) 2) 14
  | 0x0601 => bits (blkField b 2 1) 7 1 == 0 && blkClear b 3 4 && blkClear b 6 64
  | 0x0F00 => blkClear b 6 64 && blkClear b (64 + 128 * blkField b 4 1) b.length
  | 0x0F0B => blkClear b (blkField b 6 2) b.length
  | _ => true

/-- The device state admits an opcode (15 Table CMD-2): none, or the status that refuses it. -/
def admitCmd (d : Dev) (op : Nat) : Option Nat :=
  match d.boot.state with
  | .held => if [1, 2, 0xF02, 0xF04, 0xF05, 0xF07, 0xF08, 0xF09, 0xF0B].contains op then none else some sHeld
  | .active => if op = 0xF0B then some sBusy else none
  | .drain =>
    if [1, 2, 3, 0x502, 0x103, 0x302, 0x201, 0x203, 0x401, 0x403, 0x404, 0x501, 0xF02, 0xF05, 0xF09, 0xF0A].contains op then none
    else some sBusy
  | _ => if op = 1 ∨ op = 2 then none else some sBusy

/-- The tenancy of a ring holds a shape-bound image. -/
def ringShape (d : Dev) (r : Nat) : Bool :=
  match (tenOf d (ringOf d r).ten).image with
  | some im => decide ((ringOf d r).ten < 32) && im.shapeBound
  | none => false

/-- Result words of an IMAGE_LOAD that the tenancy's state refuses (15 R517; 12 Table IMG-9). -/
def res0Of (check bucket where_ sub item : Nat) : Nat :=
  check + bucket * 256 + where_ * 65536 + sub * 16777216 + item * pow2 32

/-- Some memory of a tenancy's grant is still being zeroed (14 R497). -/
def overlaps (a n b m : Nat) : Bool := decide (a < b + m) && decide (b < a + n)

/-- Device addresses and lengths of a grant's pane granules, column windows and shelf range. -/
def grantParts (r : GrantRec) : List (Nat × Nat) :=
  let cls := (List.range 512).filter (recHasCluster r)
  cls.flatMap (fun c =>
    ((List.range 64).filter (bit (recPane r))).map (fun g => (paneBase c + 65536 * g, 65536)) ++
    (List.range 8).filterMap fun w =>
      if recWinSize r w = 0 then none else some (colBase c + recWinBase r w * 1048576, recWinSize r w * 1048576)) ++
    (if recShelfSize r = 0 then [] else [(0x001100000000 + recShelfBase r * 65536, recShelfSize r * 65536)])

/-- CLEARING of a tenancy. -/
def isClearing (d : Dev) (t : Nat) : Bool :=
  let z := (List.range 32).flatMap fun u => (tenOf d u).zeroing
  !z.isEmpty && (grantParts (grantOf d t)).any fun p => z.any fun q => overlaps p.1 p.2 q.1 q.2

/-- Checks 5 and 6, and the state conditions of IMAGE_LOAD that are tested with them. -/
def startChecks (c : Cmd) (d : Dev) : Dev :=
  let op := opcodeOf c
  let p := c.pkt
  if !(bytesClear p (paramBytes op (ringShape d c.ring) (pkField p 17 1 == 0)) && paramBits op p && blockOk op c.block) then
    finish c.id sBadParam 0 0 d
  else
    match admitCmd d op with
    | some st => finish c.id st 0 0 d
    | none =>
      let t := (ringOf d c.ring).ten
      if op = 0x102 ∧ t < 32 ∧ recClass (grantOf d t) ≠ 0 ∧
          ((tenOf d t).st ≠ .staged ∨ (tenOf d t).loading.isSome = true ∨ isClearing d t = true) then
        finish c.id sBusy (res0Of 0x10 0xFF 0xFF 0xFF 0xFFFFFFFF) 0xFFFFFFFF d
      else modCmd c.id (fun c => { c with stage := .ready, now := gcOf d.whl }) d

/-- The firmware part of a change of a ring's tenancy is pending: no command of it starts (14 R500). -/
def changePending (d : Dev) (r : Nat) : Bool := decide ((ringOf d r).ten < 32) && (tenOf d (ringOf d r).ten).fwPending

/-- The five conditions under which a ring's packet starts, with its core at work (13 R460, R463; 14 R500). -/
def startable (d : Dev) (r : Nat) (p : Line) : Bool :=
  let g := ringOf d r
  let out := outstanding d r
  let nb := pkField p 8 8
  g.st == .enabled && !g.closing && booted d && coreServes d g.serving && (!cmdFence p || out == 0) &&
    (nb == 0 || countPassed d.whl nb) && decide (out < 16) && decide (out + g.unreleased < pow2 g.stsLog) && !changePending d r

/-- DMA writes of a program leave before its launch reply (19 R650). -/
def dmaDrained (d : Dev) (t : Nat) : Bool :=
  d.dma.all fun e => e.2.writeQ.all fun w => w.ten != t

def isLaunch (op : Nat) : Bool := op == 0x300 || op == 0x301

def replyReady (d : Dev) (r : Nat) (c : Cmd) : Bool :=
  c.ring == r && c.stage == .done && (!isLaunch (opcodeOf c) || dmaDrained d (cmdTen d c))

/-! ## Turns of a shared core (13 R446) -/

def sharedCore (n : Nat) : Bool := decide (5 ≤ n) && decide (n ≤ 14)

/-- A ring has a step for its core: a command to start, to act on, or to answer. -/
def ringWork (d : Dev) (r : Nat) : Bool :=
  (match (ringOf d r).packet with | some p => startable d r p | none => false) ||
  d.host.cmds.any fun c => c.ring == r && (replyReady d r c || (!c.interrupted && (c.stage == .ready || c.stage == .fetched)))

/-- The ring a shared core turns to: of those with a step, the next above the one it served last, or the first. -/
def nextRing (d : Dev) (n : Nat) : Option Nat :=
  let rs := (d.host.rings.filter fun g => g.2.serving == n && ringWork d g.1).map (·.1)
  match (coreOf d n).last with
  | some x => (rs.find? fun r => decide (x < r)).or rs.head?
  | none => rs.head?

def myTurn (d : Dev) (r : Nat) : Bool :=
  let n := (ringOf d r).serving
  !sharedCore n || nextRing d n == some r

/-- A shared core has served a ring. -/
def tookTurn (r : Nat) (d : Dev) : Dev :=
  let n := (ringOf d r).serving
  if sharedCore n then modCore n (fun c => { c with last := some r }) d else d

/-- Commands split into steps (13 R446: IMAGE_VERIFY, IMAGE_LOAD and the BUFFER commands; log entry 109). -/
def isLong (op : Nat) : Bool := op == 0x101 || op == 0x102 || (decide (0x200 ≤ op) && decide (op ≤ 0x203))

/-! ## Service times (13 R474 to R477) -/

/-- Commands marked as bounded (15 Table CMD-1). -/
def bounded (p : Line) : Bool :=
  [0x1, 0x104, 0x300, 0x301, 0x302, 0x305, 0x306, 0x404, 0x502, 0x503, 0x504, 0x600].contains (pkField p 0 2) ||
    (pkField p 0 2 == 3 && pkField p 28 1 == 0)

/-- A service interval within its bound, which every other outstanding command of the tenancy may add to (R474, R476). -/
def serviceTime (d : Dev) (k : Nat) (c : Cmd) : Nat :=
  let others := (d.host.cmds.filter fun x => x.id != c.id && cmdTen d x == cmdTen d c).length
  (Config.serviceTime k c.id).toNat % ((if k = 0 then 1200 else 1300) * (1 + others) + 1)

/-- A bounded command of a class A tenancy on its dedicated core keeps S_in at its start and S_out at its reply
(13 R477; log entry 110). -/
def noteService (out : Bool) (c : Cmd) (d : Dev) : Dev :=
  let t := cmdTen d c
  if t < 32 ∧ recClass (grantOf d t) = 1 ∧ (ringOf d c.ring).serving = recCore (grantOf d t) ∧ bounded c.pkt = true then
    let v := serviceTime d (if out then 1 else 0) c
    modTen t (fun x =>
      if out then { x with svcOut := v, svcOutMax := max x.svcOutMax v }
      else { x with
        svcIn := v, svcInMax := max x.svcInMax v
        waitPcie := x.waitPcie + (Config.serviceTime 2 c.id).toNat, waitHost := x.waitHost + (Config.serviceTime 3 c.id).toNat }) d
  else d

/-- COMMAND_START (13 R460, R463, R464). -/
def opCommandStart (r : Nat) (d : Dev) : Dev :=
  let g := ringOf d r
  match g.packet with
  | none => d
  | some p =>
    if startable d r p = true ∧ myTurn d r = true then
      let id := d.host.nextId
      let c : Cmd :=
        { id := id, ring := r, pkt := p, steps := if sharedCore g.serving && isLong (pkField p 0 2) then Config.commandSteps id else 0 }
      let d1 := noteService false c (modHost (fun h => { h with nextId := id + 1, cmds := h.cmds ++ [c] })
        (modRing r (fun g => { g with head := (g.head + 1) % pow2 g.cmdLog, packet := none, fetching := false }) (tookTurn r d)))
      let op := pkField p 0 2
      if !listed op then finish id sBadOpcode 0 0 d1
      else if 0xF00 ≤ op ∧ g.function ≠ 0 then finish id sNotPermitted 0 0 d1
      else if !formOk p then finish id sBadParam 0 0 d1
      else if needsBlock op then
        issueFetch (.block id) g.function (pkField p 16 8) (pkField p 24 4)
          (modCmd id (fun c => { c with stage := .block }) d1)
      else startChecks c d1
    else d

/-- Data of a completed read reaches what asked for it; boot reads are handled with the boot. -/
def fetchDone (f : Fetch) (data : List Byte) (d : Dev) : Dev :=
  match f.why with
  | .packet r =>
    if (ringOf d r).fetching then
      modRing r (fun g => { g with packet := some (BitVec.ofNat 512 (leNat data)) }) d
    else d
  | .block id =>
    (match cmdById d id with
     | some c => if c.stage = .block ∧ c.interrupted = false then startChecks { c with block := data } (modCmd id (fun c => { c with block := data }) d) else d
     | none => d)
  | .data id => modCmd id (fun c => if c.stage = .fetch ∧ c.interrupted = false then { c with data := data, stage := .fetched } else c) d
  | .boot => d

/-- A read that failed after the bytes that came first (19 Table HST-6; 15 R523). -/
def fetchFailed (f : Fetch) (came : List Byte) (d : Dev) : Dev :=
  match f.why with
  | .packet r => if (ringOf d r).fetching then stopRing r 6 d else d
  | .block id => modCmd id (fun c => if c.stage = .block ∧ c.interrupted = false then { c with stage := .done, status := sTimeout } else c) d
  | .data id => modCmd id (fun c => if c.stage = .fetch ∧ c.interrupted = false then { c with stage := .fetched, data := came, status := sTimeout } else c) d
  | .boot => d

def takeFetch (id : Nat) (d : Dev) : Option Fetch × Dev :=
  (d.host.fetches.find? fun f => f.id == id, modHost (fun h => { h with fetches := h.fetches.filter fun f => f.id != id }) d)

/-! ## Replies (13 R465 to R473) -/

/-- Bytes 0 to 29 of a reply (13 Table UMB-7). -/
def replyBytes (c : Cmd) (gc ten : Nat) : List Byte :=
  leBytes 2 (opcodeOf c) ++ leBytes 2 c.status ++ leBytes 4 (pkField c.pkt 4 4) ++ leBytes 8 gc ++ leBytes 8 c.res0 ++
    leBytes 4 c.res1 ++ leBytes 1 c.fault ++ leBytes 1 ten

/-- Writes a command's reply with a way to issue, and retires the command. -/
def writeReply (send : Nat → Out → Dev → Dev) (c : Cmd) (d : Dev) : Dev :=
  let g := ringOf d c.ring
  let a := g.stsBase.toNat + 32 * g.stsTail
  let gc := c.gcDone.getD (gcOf d.whl)
  let d1 := send g.function (.hostWrite g.function a (replyBytes c gc g.ten)) d
  let d2 := send g.function (.hostWrite g.function (a + 30) [if g.lap % 2 = 0 then 1 else 0, 0]) d1
  let nxt := (g.stsTail + 1) % pow2 g.stsLog
  let d3 := modHost (fun h => { h with cmds := h.cmds.filter fun x => x.id != c.id })
    (modRing c.ring (fun g => { g with stsTail := nxt, unreleased := g.unreleased + 1, lap := if nxt = 0 then (g.lap + 1) % 2 else g.lap }) d2)
  if cmdIrq c.pkt then sendMsix g.function g.vector d3 else d3

/-- STATUS_REPLY (13 R469, R470). -/
def opStatusReply (r : Nat) (d : Dev) : Dev :=
  let g := ringOf d r
  if (g.st = .enabled ∨ g.st = .stopped) ∧ coreServes d g.serving = true ∧ myTurn d r = true then
    match findCmd d (replyReady d r) with
    | some c => writeReply issueOut c (noteService true c (tookTurn r d))
    | none => d
  else d

/-! ## Running a command -/

/-- The oldest command of a ring with an opcode that is ready for step 7 of Table UMB-6 or has its data, if the
core that serves the ring runs and it is the ring's turn. -/
def nextCmd (d : Dev) (r op : Nat) : Option Cmd :=
  if coreServes d (ringOf d r).serving && myTurn d r then
    findCmd d fun c => c.ring == r && opcodeOf c == op && !c.interrupted && (c.stage == .ready || c.stage == .fetched)
  else none

/-- Runs a command's own checks and effect, one step of its core; a long command on a shared core has them in its last. -/
def runCmd (r op : Nat) (body : Cmd → Dev → Dev) (d : Dev) : Dev :=
  match nextCmd d r op with
  | some c =>
    if isLong op && decide (0 < c.steps) then modCmd c.id (fun c => { c with steps := c.steps - 1 }) (tookTurn r d)
    else body c (tookTurn r d)
  | none => d

/-- A T opcode: its ring must serve a tenancy, and that tenancy must hold a grant (15 R510, R511). -/
def runTen (r op : Nat) (body : Nat → Cmd → Dev → Dev) (d : Dev) : Dev :=
  runCmd r op (fun c d =>
    let t := cmdTen d c
    if 32 ≤ t ∨ recClass (grantOf d t) = 0 then finish c.id sNotPermitted 0 0 d else body t c d) d

/-- A P opcode: its ring must be the physical function's (15 R510). -/
def runPf (r op : Nat) (body : Cmd → Dev → Dev) (d : Dev) : Dev :=
  runCmd r op (fun c d => if cmdFn d c ≠ 0 then finish c.id sNotPermitted 0 0 d else body c d) d

end Sys2Proof.Machine
end

