-- ==== Sys2Proof/Machine/Journal.lean ====
section
/-!
DEFINITION. CRC-32C, the digest table and the Sepia journal (16 R569 to R581).
-/
namespace Sys2Proof.Machine

/-! ## CRC-32C (00 R16; 12 Table IMG-1) -/

def crcStep (c : Nat) : Nat → Nat
  | 0 => c
  | n + 1 => crcStep (Nat.xor (c / 2) (c % 2 * 0x82F63B78)) n

def crcByte (c : Nat) (b : Byte) : Nat := crcStep (Nat.xor c b.toNat) 8

/-- CRC-32C of bytes: reflected polynomial 0x82F63B78, initial value and final exclusive OR all ones. -/
def crc32c (bs : List Byte) : Nat := Nat.xor (bs.foldl crcByte 0xFFFFFFFF) 0xFFFFFFFF

/-- Bytes padded with zeros to a multiple of 64. -/
def pad64 (bs : List Byte) : List Byte := bs ++ List.replicate ((64 - bs.length % 64) % 64) 0

/-! ## The digest table -/

/-- A snapshot is folded into the entry of its layer (R570). -/
def drainSnap (cl : Nat) (x : Tenancy) (s : Snap) : Tenancy :=
  let b := tabGet 0 x.drainBase cl
  let table := if tabHas x.digTable s.layer.toNat then
      tabMod {} s.layer.toNat (fun e => { e with digest := e.digest + (s.dig - b) }) x.digTable else x.digTable
  { x with digTable := table, drainBase := tabSet cl s.dig x.drainBase }

/-- Drains the leading snapshots of a cluster that meet a condition. -/
def drainCluster (t cl : Nat) (ready : Snap → Bool) (d : Dev) : Dev :=
  let k := clOf d cl
  let out := k.snaps.takeWhile ready
  setCl cl { k with snaps := k.snaps.drop out.length } (modTen t (fun x => out.foldl (drainSnap cl) x) d)

def imageClusters (x : Tenancy) : List Nat := match x.image with | some im => im.clusters | none => []

/-- Drains every snapshot of a tenancy that is still waiting (R571). -/
def drainAll (t : Nat) (d : Dev) : Dev :=
  (imageClusters (tenOf d t)).foldl (fun a cl => drainCluster t cl (fun _ => true) a) d

/-- The islands of CTL_PORT (04 Table FAB-3). -/
def ctlIsl (q : Fin 4) : Nat := match q with | 0 => 9 | 1 => 14 | 2 => 17 | 3 => 22

/-- The flit of a drained snapshot: it carries the device tag 63 to a CTL_PORT (07 R265). Its layout, its tag and its way
through PHASE_63 are the device program's own and free (log entry 113). -/
def snapFlight (cl at_ : Nat) (s : Snap) : Flight :=
  { dest := .ctl (ctlIsl (Config.digestPort cl)), due := at_ + Config.digestTicks cl, sw := at_ + 2
    flit := sealFlit { data := Config.digestData cl s.dig s.layer, ten := 63, tag := Config.digestTag cl, late := false, poison := false, ecc := 0 } }

/-- The snapshots of a cluster that the drain finds readable leave through its cluster port (07 R265; 16 R571). -/
def sendSnaps (t cl at_ : Nat) (ready : Snap → Bool) (d : Dev) : Dev :=
  ((clOf d cl).snaps.takeWhile ready).foldl (fun a s => addFlight (snapFlight cl at_ s) a) (drainCluster t cl ready d)

/-- DIGEST_DRAIN: snapshots readable at tick 63 W / 64 are drained in PHASE_63 (R571). -/
def opDigestDrain (t : Nat) (d : Dev) : Dev :=
  let at_ := d.whl.start + 63 * (d.whl.w / 64)
  if counted d.whl ∧ at_ ≤ d.whl.now then
    (imageClusters (tenOf d t)).foldl (fun a cl => sendSnaps t cl at_ (fun s => decide (s.stamp + 4 ≤ at_)) a) d
  else d

/-- The table as R536 lays it out. -/
def digBytes (x : Tenancy) : List Byte :=
  x.digTable.flatMap fun e => leBytes 2 e.1 ++ leBytes 2 (if e.2.mark then 1 else 0) ++ leBytes 4 0 ++ leBytes 8 e.2.digest.toNat

/-- Bytes 0 to 39 of the variance record (15 Table CMD-12). -/
def varCounts (x : Tenancy) : List Nat := [x.mayVary, x.freeOrder, x.slips, x.replays, x.digOver]

/-! ## The journal -/

/-- The header of Table DET-3 with a field for HEADER_CRC. -/
def headerBody (t : Nat) (j : Journal) (closed : Bool) (stop crc : Nat) : List Byte :=
  leBytes 4 0x41504553 ++ leBytes 2 1 ++ leBytes 1 t ++
    leBytes 1 ((if closed then 1 else 0) + (if j.fresh then 2 else 0) + (if j.incomplete then 4 else 0)) ++
    leBytes 8 j.imageId ++ leBytes 8 j.startGc ++ leBytes 8 stop ++ leBytes 4 j.used ++ leBytes 4 j.records ++
    leBytes 4 crc ++ leBytes 4 (crc32c j.body) ++ leBytes 16 0

def journalHeader (t : Nat) (j : Journal) (closed : Bool) (stop : Nat) : List Byte :=
  headerBody t j closed stop (crc32c (headerBody t j closed stop 0))

def journalWrite (j : Journal) (off : Nat) (data : List Byte) (d : Dev) : Dev :=
  issueOut j.fn (.hostWrite j.fn (j.addr + off) data) d

/-- Space left beside what is reserved (R579). -/
def journalRoom (j : Journal) : Nat := j.length - (j.used + j.reserved)

/-- Bytes of the DATA_REF records that recorded BUFFER_WRITEs still under way will append. -/
def refsDue (d : Dev) (t : Nat) : Nat :=
  64 * (openCmds d fun c => opcodeOf c == 0x200 && cmdTen d c == t && c.aux != 0).length

/-- Space for a new record. -/
def roomFor (d : Dev) (t : Nat) (j : Journal) : Nat := journalRoom j - refsDue d t

/-- A record of R577. -/
def journalRec (kind gc : Nat) (body : List Byte) : List Byte :=
  let n := (16 + body.length + 63) / 64 * 64
  pad64 (leBytes 1 kind ++ leBytes 3 0 ++ leBytes 4 n ++ leBytes 8 gc ++ body)

/-- Appends a record to a tenancy's journal. -/
def journalAppend (t : Nat) (r : List Byte) (d : Dev) : Dev :=
  match (tenOf d t).journal with
  | some j =>
    modTen t (fun x => { x with journal := some { j with used := j.used + r.length, records := j.records + 1, body := j.body ++ r } })
      (journalWrite j j.used r d)
  | none => d

/-- A command of R575 is recorded: its flag is set, a journal is active and no replay runs. -/
def recording (x : Tenancy) (p : Line) : Bool := cmdJournal p && x.journal.isSome && x.replay.isNone

/-- A COMMAND record. -/
def commandRec (gc : Nat) (c : Cmd) (aux : Nat) : List Byte :=
  journalRec 1 gc (leBytes 64 c.pkt.toNat ++ leBytes 8 aux ++ c.block)

/-- A DATA_REF record; source 0 is BUFFER_WRITE, 1 DMA. -/
def dataRefRec (x : Xfer) (dma : Bool) : List Byte :=
  journalRec 2 x.gc (leBytes 8 x.addr ++ leBytes 4 x.len ++ leBytes 4 x.crc ++ leBytes 1 (if dma then 1 else 0) ++ leBytes 1 x.engine)

def launchEndLen (x : Tenancy) : Nat := (80 + 16 * x.digTable.length + 63) / 64 * 64

/-- Increments of the variance counters during a launch. -/
def launchIncs (x : Tenancy) (p : Program) : List Nat :=
  (List.range 5).map fun i => p.varDone.getD i 0 + ((varCounts x).getD i 0 - p.varAt.getD i 0)

/-- A LAUNCH_END record (Table DET-4). -/
def launchEndRec (x : Tenancy) (p : Program) (status fault gc : Nat) (incomplete : Bool) : List Byte :=
  journalRec 3 gc (leBytes 2 status ++ leBytes 1 fault ++ leBytes 1 (if incomplete then 1 else 0) ++
    leBytes 4 x.digTable.length ++ leBytes 8 0 ++
    (launchIncs x p).flatMap (leBytes 8) ++ leBytes 8 0 ++ digBytes x)

def modProgram (t : Nat) (f : Program → Program) (d : Dev) : Dev := modTen t (fun x => { x with program := x.program.map f }) d

/-- Ascending transfer tick, then engine (R578). -/
def xferBefore (a b : Xfer) : Bool := decide (a.gc < b.gc) || (a.gc == b.gc && decide (a.engine < b.engine))

def insertXfer (r : Xfer) : List Xfer → List Xfer
  | [] => [r]
  | x :: xs => if xferBefore r x then r :: x :: xs else x :: insertXfer r xs

/-- A READ of a recorded or replayed launch, as the transfer of its flits from a count on (R577). -/
def xferOf (e gc : Nat) (x : DmaDesc) : Xfer :=
  let bytes := x.flits.flatMap fun f => match f with | .data l _ _ => leBytes 64 l.toNat | _ => []
  { gc := gc, engine := e, addr := x.addr, len := 64 * x.n, crc := crc32c bytes }

/-- READs of a tenancy that have begun and not ended. -/
def readsBegun (d : Dev) (t : Nat) : List Xfer :=
  d.dma.flatMap fun e => ((e.2.pend.filter fun x => x.read && x.recorded && x.ten == t && decide (0 < x.next)).map fun x =>
    xferOf e.1 (d.whl.n * d.whl.w + x.tick) x)

/-- Writes the DATA_REF of a transfer of a recorded launch, if it and every earlier one of the launch fits beside the
reserve (R579); a replayed launch keeps it to be compared (R583). -/
def writeRef (t : Nat) (r : Xfer) (d : Dev) : Dev :=
  match (tenOf d t).program, (tenOf d t).journal with
  | some p, some j =>
    if p.replayed then modProgram t (fun p => { p with refs := p.refs ++ [r] }) d
    else if !p.recorded || p.refsFull then d
    else if 64 ≤ journalRoom j then journalAppend t (dataRefRec r true) d
    else modTen t (fun x => { x with journal := some { j with incomplete := true } }) (modProgram t (fun p => { p with refsFull := true }) d)
  | some p, none => if p.replayed then modProgram t (fun p => { p with refs := p.refs ++ [r] }) d else d
  | none, _ => d

/-- Writes the finished transfers that no transfer still under way precedes. -/
def flushRefs (t : Nat) (d : Dev) : Dev :=
  match (tenOf d t).program with
  | none => d
  | some p =>
    let out := p.held.takeWhile fun r => (readsBegun d t).all fun b => !xferBefore b r
    out.foldl (fun a r => writeRef t r a) (modProgram t (fun p => { p with held := p.held.drop out.length }) d)

/-- A READ of a launch has ended. -/
def recordXfer (t : Nat) (r : Xfer) (d : Dev) : Dev := flushRefs t (modProgram t (fun p => { p with held := insertXfer r p.held }) d)

/-- Pending descriptors and their data go; queued write flits stay (19 R667). A recorded read cut short is recorded with the flits
that departed (log entry 96). -/
def dropDescs (t : Nat) (d : Dev) : Dev :=
  let cut := d.dma.flatMap fun e => (e.2.pend.filter fun x => x.read && x.recorded && x.ten == t && decide (0 < x.next)).map fun x =>
    xferOf e.1 (d.whl.n * d.whl.w + x.tick) { x with n := x.next, flits := x.flits.take x.next }
  cut.foldl (fun a r => recordXfer t r a) { d with dma := d.dma.map fun e => (e.1, { e.2 with pend := e.2.pend.filter fun x => x.ten != t }) }

/-- The end of a recorded launch: its last DATA_REF records and its LAUNCH_END, in the space reserved for it. -/
def journalLaunchEnd (t status fault gc : Nat) (d0 : Dev) : Dev :=
  let d := flushRefs t d0
  match (tenOf d t).program with
  | some p =>
    if p.recorded && (tenOf d t).journal.isSome then
      let d1 := modTen t (fun x => { x with journal := x.journal.map fun j => { j with reserved := 0 } }) d
      journalAppend t (launchEndRec (tenOf d1 t) p status fault gc p.refsFull) d1
    else d
  | none => d

/-- Writes the transfers that have finished but wait for their place in the order (R578). -/
def journalFlush (t : Nat) (d : Dev) : Dev :=
  let held := match (tenOf d t).program with | some p => p.held | none => []
  held.foldl (fun a r => writeRef t r a) (modProgram t (fun p => { p with held := [] }) d)

/-- JOURNAL_STOP and R727: the finished transfers are written, and the header again with CLOSED set. A launch that goes on is
recorded no further, in no later journal either (R575). -/
def journalClose (t : Nat) (d0 : Dev) : Dev :=
  let d := journalFlush t d0
  match (tenOf d t).journal with
  | some j =>
    modTen t (fun x => { x with journal := none })
      (modProgram t (fun p => { p with recorded := false }) (journalWrite j 0 (journalHeader t j true (gcOf d.whl)) d))
  | none => d

/-- JOURNAL_CLOSE_ON_VACANT (21 R727). -/
def opJournalCloseOnVacant (t : Nat) (d : Dev) : Dev :=
  if (tenOf d t).st = .vacant then journalClose t d else d

end Sys2Proof.Machine
end

