-- ==== Sys2Proof/Machine/Tenants.lean ====
section
/-!
DEFINITION. Stops of a tenancy, unload, zeroing, leases, the validity of a set of grants and its effect (14; 15 R518,
R528; 17 R610, R611; 21 R712; 24 R776, R777).
-/
namespace Sys2Proof.Machine

/-! ## Bitstream units -/

def bsuOf (d : Dev) (u : Nat) : Bsu := tabGet {} d.bsu u
def modBsu (u : Nat) (f : Bsu → Bsu) (d : Dev) : Dev := { d with bsu := tabMod {} u f d.bsu }

/-- The holder of a unit: its exclusive grantee, or the tenancy with its lease (17 R587). -/
def bsuHolder (d : Dev) (u : Nat) : Option Nat :=
  match (List.range 32).find? fun t => recBsu (grantOf d t) u == 2 with
  | some t => some t
  | none => (bsuOf d u).lease.map (·.1)

/-- What a reset leaves of a unit (17 R610). -/
def bsuCleared (x : Bsu) : Bsu :=
  { x with codec := 0, epb := false, bankLines := 0, configured := false, queue := [], drainIn := [], frame := none, skip := false, pos := 0
           banks := [], drains := [], past := [], wpp := [], dep := [], slots := [] }

/-- What a reset with a cause of 23 Table REG-5 in wheel n does. A holder stop or lease end of a unit not configured since
its last reset is neither latched nor counted, but for the lower cause of one boundary (24 R776, R777). -/
def bsuAfter (cause n : Nat) (x : Bsu) : Bsu :=
  let edge := cause == 4 || cause == 5
  let y := bsuCleared x
  if edge && !x.configured then
    if x.resetWheel = some n ∧ cause < x.lastReset then { y with lastReset := cause } else y
  else { y with lastReset := cause, resets := satInc x.resets, resetWheel := if edge then some n else none }

/-- Resets a unit; its holder's cause bit tells of it (23 R771). -/
def bsuReset (u cause : Nat) (d : Dev) : Dev :=
  let holder := bsuHolder d u
  let quiet := (cause == 4 || cause == 5) && !(bsuOf d u).configured
  let d1 := modBsu u (bsuAfter cause d.whl.n) d
  match holder with
  | some t => if quiet then d1 else raiseCause t 4 d1
  | none => d1

/-- The engines of the units a tenancy holds were held from its suspension boundary, or from the later count at which it took the
unit's lease, to a count (17 R598). -/
def holdUnits (t gc : Nat) (d : Dev) : Dev :=
  if (tenOf d t).suspendedAt.isSome then
    (List.range 4).foldl (fun a u =>
      if bsuHolder a u = some t then modBsu u (fun x => { x with held := x.held + (gc - max (tenOf d t).suspendGc x.boundAt) }) a else a) d
  else d

/-- A BSU_FLUSH of a unit that is reset ends with FAULTED and FC_BSU (15 R544). -/
def failFlush (u : Nat) (d : Dev) : Dev :=
  abortCmds (fun c => opcodeOf c == 0x602 && c.stage == .armed && c.aux == u) sFaulted fcBsu none d

/-- A unit whose lease a tenancy lost at this very boundary is latched with the lower cause, holder stop (17 R610; 24 R776). -/
def lowerCause (t n : Nat) (x : Bsu) : Bsu :=
  if x.endedOf = some (t, n) ∧ x.lastReset = 5 ∧ x.resetWheel = some n then { x with lastReset := 4 } else x

/-- The units a tenancy holds are reset as their holder stops, and its leases end (14 R507; 17 R611). -/
def releaseUnits (t : Nat) (d : Dev) : Dev :=
  (List.range 4).foldl (fun a u =>
    if bsuHolder a u = some t then
      modBsu u (fun x => if (x.lease.map (·.1)) = some t then { x with lease := none } else x)
        (failFlush u (bsuReset u 4 a))
    else modBsu u (lowerCause t d.whl.n) a) d

/-! ## Hardware part of a stop (14 R495; 15 R529; 19 R667) -/

/-- Clusters of a grant record. -/
def recClusters (r : GrantRec) : List Nat := (List.range 512).filter (recHasCluster r)

/-- A cluster issues no further bundle; its launch slots, landing buffers and waiting column requests go. -/
def emptyCluster (cl : Nat) (d : Dev) : Dev :=
  let d1 := modCl cl (fun k => { k with run := if k.run = .idle then .idle else .stopped, ls := [], lb := [], tvHeld := false }) d
  { d1 with mem := { d1.mem with colQ := tabDel cl d1.mem.colQ } }

/-- SEG_LEN 0 in every phase-table entry of an owner. -/
def closeSegs (t : Nat) (d : Dev) : Dev :=
  let f (e : Nat × PhaseEnt) : Nat × PhaseEnt := if e.2.owner = t then (e.1, { e.2 with len := 0 }) else e
  { d with fab := { d.fab with phase := d.fab.phase.map f, shelfPhase := d.fab.shelfPhase.map f } }

/-- OWNER returns to 62 (12 R439). -/
def freePhases (t : Nat) (d : Dev) : Dev :=
  { d with fab := { d.fab with phase := d.fab.phase.filter (fun e => e.2.owner != t), shelfPhase := d.fab.shelfPhase.filter fun e => e.2.owner != t } }

/-- What hardware does when a tenancy stops. -/
def stopHardware (t : Nat) (d : Dev) : Dev :=
  dropDescs t (closeSegs t ((recClusters (grantOf d t)).foldl (fun a c => emptyCluster c a) d))

def isLive (x : TenState) : Bool := x == .armed || x == .running || x == .suspended

/-- Bucket of a program, for result word 1. -/
def launchRes (p : Program) (halted : Bool) : Nat := p.bucket + (if halted then 256 else 0)

/-- A program has ended: its snapshots are drained, its journal records written, its reply settled (15 R528;
16 R571, R578). -/
def endProgram (t status fault gc : Nat) (halted : Bool) (d : Dev) : Dev :=
  let d1 := journalLaunchEnd t status fault gc (drainAll t d)
  match (tenOf d1 t).program with
  | none => d1
  | some p =>
    let d2 := modTen t (fun x => { x with program := none, suspendedAt := none }) d1
    if p.replayed then
      modTen t (fun x => { x with replay := x.replay.map fun r => { r with ended := some (status, fault), dmas := p.refs, haltAt := none } }) d2
    else
      modCmd p.cmd (fun c => { c with fault := fault })
        (finishAt p.cmd status p.launch (launchRes p halted) gc d2)

/-! ## Unload and release of memory -/

/-- Zeroes a range of device memory with valid check bits (06 R241). -/
def zeroRange (a n : Nat) (d : Dev) : Dev :=
  { d with mem := { d.mem with
      cells := d.mem.cells.filter fun c => !(decide (a ≤ c.1) && decide (c.1 < a + n))
      ecc := d.mem.ecc.filter fun c => !(decide (a ≤ c.1) && decide (c.1 < a + n))
      odEcc := d.mem.odEcc.filter fun c => !(decide (a ≤ c.1) && decide (c.1 < a + n)) } }

def zeroParts (ps : List (Nat × Nat)) (d : Dev) : Dev := ps.foldl (fun a p => zeroRange p.1 p.2 a) d

def setWords (base : Nat) (ws : List W64) (t : Tab W64) : Tab W64 :=
  (ws.zip (List.range ws.length)).foldl (fun a w => tabSet (base + w.2) w.1 a) t

def delWords (base n : Nat) (t : Tab W64) : Tab W64 := t.filter fun e => !(decide (base ≤ e.1) && decide (e.1 < base + n))

def lnkOf (d : Dev) (l : Nat) : Link := tabGet {} d.lnk l
def modLnk (l : Nat) (f : Link → Link) (d : Dev) : Dev := { d with lnk := tabMod {} l f d.lnk }

/-- Clears what an image holds in route memory, shelf ports and links (12 R439; 15 R518). -/
def clearImage (t : Nat) (d : Dev) : Dev :=
  match (tenOf d t).image with
  | none => freePhases t d
  | some im =>
    let route := im.routes.foldl (fun a p => delWords (65536 * (p.ix / 64) + p.base) p.len a) d.fab.route
    let shelf := im.shelves.foldl (fun a p => delWords (4096 * (p.ix / 64) + p.base) p.len a) d.fab.shelfProg
    let d1 := { d with fab := { d.fab with route := route, shelfProg := shelf } }
    let d2 := im.bound.foldl (fun a b => modLnk b.link (fun l =>
      { l with lambda := l.lambda.filter (fun e => !bit im.phaseMask e.1), reserve := l.reserve.filter fun r => r.ten != t }) a) d1
    modTen t (fun x => { x with image := none, bucket := 255, fresh := false }) (freePhases t d2)

/-- What a tenancy that becomes VACANT keeps: its causes, its journal, its digest table and memory still to be zeroed (14 Table
TEN-3; 16 R566, R574; 23 R771). -/
def vacated (x : Tenancy) : Tenancy :=
  { x with
    st := .vacant, fault := 0, faultGc := 0, faultTick := 0, faultsAfter := 0, stopDue := false, stagedAddr := 0
    stagedLen := 0, stagedHead := [], imageId := 0, loading := none, image := none, bucket := 255, program := none
    suspendedAt := none, fresh := false, mayVary := 0, freeOrder := 0, slips := 0, replays := 0, digOver := 0
    drainBase := [], replay := none }

/-- IMAGE_UNLOAD clears the digest table (16 R574). -/
def clearDigests (x : Tenancy) : Tenancy := { x with digTable := [], digMark := false }

/-- A stopped channel: counter 0, status clear, pin low (18 R638). -/
def clearTimer (x : Timer) : Timer :=
  { x with cnt := 0, running := false, waiting := false, down := false, pin := false, missed := false, evtCmp := false
           evtWrap := false, staged := false, startGc := none, startTick := none, group := false, blind := false, fire := false }

/-- Stops the channels of a mask (18 R638). -/
def stopChannels (mask : Nat) (d : Dev) : Dev :=
  { d with tmr := d.tmr.map fun e => if bit mask e.1 then (e.1, clearTimer e.2) else e }

/-- A tenancy becomes VACANT; its leases end, its channels stop, and with CLASS 0 its rings enter STOPPED (14 R499, R507; 18 R638). -/
def becomeVacant (t : Nat) (d : Dev) : Dev :=
  let d1 := modTen t vacated (releaseUnits t (stopChannels (recTmr (grantOf d t)) d))
  if recClass (grantOf d t) = 0 then
    (d1.host.rings.filter fun g => g.2.ten == t && g.2.st == .enabled).foldl (fun a g => stopRing g.1 7 a) d1
  else d1

/-- An IMAGE_LOAD that runs is undone (12 R440, R441): the tenancy is STAGED, with its memory zeroed. -/
def undoLoad (t status fault : Nat) (d : Dev) : Dev :=
  match (tenOf d t).loading with
  | some id => abortCmd id status fault (modTen t (fun x => { x with loading := none }) d)
  | none => d

/-- DRAINING begins: the image is cleared, units and leases released, and the grant's memory is to be zeroed
(15 R518). -/
def beginDrain (t : Nat) (d : Dev) : Dev :=
  let parts := grantParts (grantOf d t)
  modTen t (fun x => { x with st := .draining, zeroing := x.zeroing ++ parts }) (releaseUnits t (clearImage t d))

/-- Bytes of a list of parts. -/
def partBytes (ps : List (Nat × Nat)) : Nat := ps.foldl (fun a p => a + p.2) 0

/-- The core that does a tenancy's firmware work: the one that serves its lowest ring, and for a tenancy without a ring the one
that serves UMB_00 (log entry 97). -/
def tenCore (d : Dev) (t : Nat) : Nat :=
  match d.host.rings.find? fun g => g.2.ten == t && g.2.st != .unassigned with
  | some g => g.2.serving
  | none => servingCore d 0

/-- A tenancy that drains is done once its replies are written, and its engines and units released (Table TEN-3). -/
def drained (d : Dev) (t : Nat) : Bool :=
  dmaDrained d t && !d.host.cmds.any fun c => cmdOfTen d t c && c.stage == .done

/-- ZEROING_DONE, which firmware of a running core does (14 R500): an image that a shrink released is unloaded, and the
zeroing of a tenancy's released memory ends; a tenancy that drains becomes VACANT, and the commands that wait for it are answered (14
R480, R497; 15 R518, R555; 23 R771). -/
def opZeroingDone (t : Nat) (d0 : Dev) : Dev :=
  let x := tenOf d0 t
  if (x.zeroing.isEmpty && !x.fwPending && x.st != .draining) || !coreServes d0 (tenCore d0 t) || (x.st == .draining && !drained d0 t) then d0
  else
    let d := if x.fwPending then clearImage t d0 else d0
    let held := (List.range 32).filter fun u => u ≠ t ∧ isClearing d u = true
    let d1 := modTen t (fun x => { x with zeroing := [], fwPending := false }) (zeroParts x.zeroing d)
    let d2 := (held.filter fun u => !isClearing d1 u).foldl (fun a u => raiseCause u 3 a) d1
    if x.st = .draining then
      let done (c : Cmd) : Cmd :=
        if c.stage = .armed ∧ opcodeOf c = 0x103 ∧ cmdTen d c = t then
          { c with stage := .done, status := sOk, res0 := c.count, res1 := 0 }
        else if c.stage = .armed ∧ opcodeOf c = 0xF0A ∧ c.aux = t + 256 then
          { c with stage := .done, status := sOk, res0 := c.count, res1 := 0 }
        else c
      modHost (fun h => { h with cmds := h.cmds.map done }) (becomeVacant t d2)
    else d2

/-! ## Validity of a set of grants (14 Table TEN-2, R479) -/

/-- Rule 1: no reserved value, no reserved bit. -/
def recReservedOk (t : Nat) (r : GrantRec) : Bool :=
  recByte r 0 == t && recClass r < 4 && recFunction r < 64 &&
  (List.range 16).all (fun i => recByte r (76 + i) < 128) && recShelfBase r < 4096 && recShelfSize r < 4097 &&
  (List.range 4).all (fun u => recBsu r u != 3) && recField r 116 12 == 0 &&
  (recClass r == 1 || (recCore r == 0 && recDmaRes r == 0xFF))

def recsOverlapMask (lo n : Nat) (a b : GrantRec) : Bool := Nat.land (recField a lo n) (recField b lo n) != 0

def shelfOverlap (a b : GrantRec) : Bool :=
  decide (0 < recShelfSize a) && decide (0 < recShelfSize b) && overlaps (recShelfBase a) (recShelfSize a) (recShelfBase b) (recShelfSize b)

/-- A cluster slot disabled by the fuses (00 R5). -/
def slotDisabled (d : Dev) (c : Nat) : Bool := !bit (tabGet 0 d.fuse.slots (islOf c)) (slotOf c)

/-- Whether record t of a set fails a rule; a rule that two records break is failed by the later one. Two class A records that
reserve one engine break rule 9 together. -/
def ruleFails (d : Dev) (g : Nat → GrantRec) (rule t : Nat) : Bool :=
  let r := g t
  let before (p : GrantRec → Bool) : Bool := (List.range t).any fun u => p (g u)
  let others (p : Nat → GrantRec → Bool) : Bool := (List.range 32).any fun u => u != t && p u (g u)
  match rule with
  | 1 => !recReservedOk t r
  | 2 => bit (recPhases r) 63
  | 3 => before (recsOverlapMask 96 8 r)
  | 4 => before (recsOverlapMask 4 64 r) || (recClusters r).any (slotDisabled d)
  | 5 => (List.range 8).any (fun w => decide (96 < recWinBase r w + recWinSize r w)) || decide (4096 < recShelfBase r + recShelfSize r)
  | 6 => before (shelfOverlap r)
  | 7 => before (recsOverlapMask 110 2 r)
  | 8 =>
    recClass r == 1 && (recCore r == 0 || decide (4 < recCore r) || before (fun q => recClass q == 1 && recCore q == recCore r))
  | 9 =>
    recClass r == 1 && (decide (31 < recDmaRes r) || !bit (recDma r) (recDmaRes r) ||
      others (fun u q => bit (recDma q) (recDmaRes r) && (decide (u < t) || !(recClass q == 1 && recDmaRes q == recDmaRes r))))
  | 10 =>
    (List.range 4).any fun u =>
      (recBsu r u == 2 && (recClass r != 1 || before (fun q => recBsu q u != 0))) ||
      (recBsu r u == 1 && before (fun q => recBsu q u == 2))
  | 11 => recFunction r != 0 && before (fun q => recFunction q == recFunction r)
  | 12 => recClass r == 0 && r != vacantRec t
  | _ => false

/-- The lowest rule that fails, with its lowest tenancy. -/
def setInvalid (d : Dev) (g : Nat → GrantRec) : Option (Nat × Nat) :=
  (List.range 12).findSome? fun i => ((List.range 32).find? (ruleFails d g (i + 1))).map fun t => (i + 1, t)

/-! ## Shrinks (14 R494) -/

def maskKept (lo n : Nat) (a b : GrantRec) : Bool := Nat.land (recField a lo n) (recField b lo n) == recField a lo n

/-- A new record keeps every item of the old one and changes only what R494 lists. -/
def keeps (a b : GrantRec) : Bool :=
  recClass a == recClass b && recFunction a == recFunction b && recCore a == recCore b && recDmaRes a == recDmaRes b &&
  maskKept 4 64 a b && maskKept 68 8 a b && maskKept 96 8 a b && maskKept 104 4 a b && maskKept 110 2 a b &&
  (List.range 8).all (fun w =>
    (recWinBase a w == recWinBase b w && decide (recWinSize a w ≤ recWinSize b w))) &&
  (recShelfSize a == 0 || (decide (recShelfBase b ≤ recShelfBase a) && decide (recShelfBase a + recShelfSize a ≤ recShelfBase b + recShelfSize b))) &&
  (List.range 4).all (fun u => recBsu a u == recBsu b u || recBsu a u == 0) && decide (recLease a ≤ recLease b)

/-- Parts of a grant that a new record no longer holds, in granules of 64 KiB. -/
def releasedParts (a b : GrantRec) : List (Nat × Nat) :=
  let kept := grantParts b
  (grantParts a).flatMap fun p =>
    (List.range (p.2 / 65536)).filterMap fun i =>
      let at_ := p.1 + 65536 * i
      if kept.any fun q => decide (q.1 ≤ at_) && decide (at_ + 65536 ≤ q.1 + q.2) then none else some (at_, 65536)

/-! ## A set takes effect (14 R495 to R500) -/

/-- A tenancy is stopped with FC_REVOKED if it is live; its commands complete, its load is undone, and its image is to be
unloaded by firmware (R495, R496, R500; 15 R551). -/
def revokeTenancy (t gc : Nat) (d : Dev) : Dev :=
  let live := isLive (tenOf d t).st
  let d1 := if live then
      let e := releaseUnits t (stopHardware t (raiseFault t fcRevoked d))
      modTen t (fun x => { x with st := .faulted, stopDue := false, replay := none }) (endProgram t sRevoked fcRevoked gc false e)
    else d
  let d2 := undoLoad t sRevoked 0 d1
  let d3 := abortCmds (cmdOfTen d2 t) sRevoked (if live then fcRevoked else 0) none d2
  let d4 := modTen t (fun x => { x with replay := none, fwPending := true }) d3
  if (tenOf d t).st = .loaded then modTen t (fun x => { x with st := .staged }) d4 else d4

/-- What a boundary at which a tenancy's record changes from a to b does to that tenancy, the record in force
still being a. -/
def shrinkTenancy (t gc : Nat) (a b : GrantRec) (d : Dev) : Dev :=
  let parts := releasedParts a b
  let d1 := revokeTenancy t gc (if isLive (tenOf d t).st then d else releaseUnits t d)
  let d2 := modTen t (fun x => { x with zeroing := x.zeroing ++ parts }) d1
  if (tenOf d t).st = .staged ∧ recClass b = 0 then modTen t vacated d2 else d2

/-- Rings of a tenancy after its record changed (14 R499). -/
def rehomeRings (t : Nat) (a b : GrantRec) (d : Dev) : Dev :=
  (d.host.rings.filter fun g => g.2.ten == t && g.2.st != .unassigned).foldl (fun e g =>
    let e1 := if (recFunction a ≠ recFunction b ∨ (recClass b = 0 ∧ (tenOf e t).st = .vacant)) ∧ g.2.st = .enabled then stopRing g.1 7 e else e
    if recClass a ≠ recClass b then
      let h := homeCore e1 t g.1
      modRing g.1 (fun r => { r with home := h, serving := servingCore e1 h }) e1
    else e1) d

/-- Puts one record in force. -/
def putRecord (t gc : Nat) (b : GrantRec) (d : Dev) : Dev :=
  let a := grantOf d t
  if a = b then d
  else
    let d1 := if recClass a ≠ 0 ∧ keeps a b = false then shrinkTenancy t gc a b d else d
    let d2 := { d1 with grants := { d1.grants with force := if b = vacantRec t then tabDel t d1.grants.force else tabSet t b d1.grants.force } }
    let lost (e : Nat × PhaseEnt) : Bool := e.2.owner == t && !bit (recPhases b) (e.1 % 64)
    let d2 := stopChannels (Nat.land (recTmr a) (Nat.xor 0xFFFF (recTmr b))) d2
    let d3 := { d2 with fab := { d2.fab with phase := d2.fab.phase.filter (fun e => !lost e), shelfPhase := d2.fab.shelfPhase.filter fun e => !lost e } }
    rehomeRings t a b d3

/-- Puts a whole set in force at a boundary: shrinks first, so that what one tenancy gives up is free for another. -/
def putSet (gc : Nat) (g : Nat → GrantRec) (d : Dev) : Dev :=
  let ts := List.range 32
  let shrinks := ts.filter fun t => !keeps (grantOf d t) (g t)
  let grows := ts.filter fun t => keeps (grantOf d t) (g t)
  (shrinks ++ grows).foldl (fun a t => putRecord t gc (g t) a) d

end Sys2Proof.Machine
end

