-- ==== Sys2Proof/Machine/Image.lean ====
section
/-!
DEFINITION. The Oliwell image: its layout, the checks that depend on the image alone, and the policies (12 R414 to
R427, R434, R437).
-/
namespace Sys2Proof.Machine

/-- A refusal with the fields of 12 Table IMG-9. -/
structure Refuse where
  status : Nat := 6
  check : Nat
  bucket : Nat := 0xFF
  where_ : Nat := 0xFF
  sub : Nat := 0xFF
  item : Nat := 0xFFFFFFFF
  off : Nat := 0xFFFFFFFF
  deriving DecidableEq, Repr

def refuseRes0 (f : Refuse) : Nat := res0Of f.check f.bucket f.where_ f.sub f.item

/-- The first refusal of a list of checks. -/
def firstRefuse : List (Unit → Option Refuse) → Option Refuse
  | [] => none
  | c :: cs => match c () with | some f => some f | none => firstRefuse cs

def failIf (bad : Bool) (f : Refuse) : Option Refuse := if bad then some f else none

/-! ## Bytes of an image -/

/-- n bytes at an offset, as a number; bytes beyond the end read 0. -/
def imgField (b : Array Byte) (i n : Nat) : Nat := leNat ((b.toList.drop i).take n)

/-- n bytes at an offset; bytes beyond the end read 0. -/
def imgBytes (b : Array Byte) (i n : Nat) : List Byte :=
  let s := (b.toList.drop i).take n
  s ++ List.replicate (n - s.length) 0

/-! ## Header and directory (R414, R415) -/

/-- Offset, length and CRC of section i, from 0. -/
def secOff (b : Array Byte) (i : Nat) : Nat := imgField b (64 + 16 * i + 8) 4
def secLen (b : Array Byte) (i : Nat) : Nat := imgField b (64 + 16 * i + 12) 4
def secCrc (b : Array Byte) (i : Nat) : Nat := imgField b (64 + 16 * i + 4) 4

def headerCrcOk (b : Array Byte) : Bool :=
  crc32c (imgBytes b 0 12 ++ leBytes 4 0 ++ imgBytes b 16 176) == imgField b 12 4

def entryOk (b : Array Byte) (i : Nat) : Bool :=
  imgField b (64 + 16 * i) 2 == i + 1 && imgField b (66 + 16 * i) 2 == 0 &&
  secOff b i % 64 == 0 && decide (192 ≤ secOff b i) && decide (secOff b i + secLen b i ≤ imgField b 8 4) &&
  (secLen b i != 0 || [3, 5, 6, 7].contains i) && (i != 0 || secLen b i == 512)

def secsDisjoint (b : Array Byte) : Bool :=
  (List.range 8).all fun i => (List.range i).all fun j => !overlaps (secOff b i) (secLen b i) (secOff b j) (secLen b j)

/-- Check 0x01, on the first 192 bytes and the length the host states. -/
def headerOk (b : Array Byte) (len : Nat) : Bool :=
  imgField b 0 4 == 0x57494C4F && imgField b 4 2 == 1 && decide (256 ≤ imgField b 8 4) && imgField b 8 4 == len &&
  headerCrcOk b && imgField b 24 40 == 0 && (List.range 8).all (entryOk b) && secsDisjoint b

/-! ## Manifest fields (Table IMG-3) -/

def man (b : Array Byte) (i n : Nat) : Nat := imgField b (secOff b 0 + i) n
def manExact (b : Array Byte) : Bool := man b 4 1 == 1
def manP (b : Array Byte) : Nat := man b 5 1
def manFloor (b : Array Byte) : Nat := man b 6 1
def manShape (b : Array Byte) : Bool := bit (man b 7 1) 1
def manBuckets (b : Array Byte) : Nat := man b 13 1
def manSp (b : Array Byte) : Nat := man b 14 1
def manLinks (b : Array Byte) : Nat := man b 15 1
def manPhases (b : Array Byte) : Nat := man b 16 8
def manPane (b : Array Byte) : Nat := man b 32 8
def manCol (b : Array Byte) (w : Nat) : Nat := man b (40 + w) 1
def manShelfBase (b : Array Byte) : Nat := man b 48 2
def manShelfSize (b : Array Byte) : Nat := man b 50 2
def manRank (b : Array Byte) : Nat := man b 54 2
def manRanks (b : Array Byte) : Nat := man b 56 2
def manVslots (b : Array Byte) (i : Nat) : Nat := man b (64 + 2 * i) 2
def manFuse (b : Array Byte) (i : Nat) : Nat := man b (128 + 2 * i) 2

/-- A LINK_NEED entry (Table IMG-4). -/
structure Need where
  link : Nat
  width : Nat
  fc : Nat
  peerLink : Nat
  peerRank : Nat
  reserved : Nat
  deriving DecidableEq, Repr

def needAt (b : Array Byte) (k : Nat) : Need :=
  let f (i n : Nat) : Nat := man b (256 + 8 * k + i) n
  { link := f 0 1, width := f 1 1, fc := f 2 1, peerLink := f 3 1, peerRank := f 4 2, reserved := f 6 2 }

def needs (b : Array Byte) : List Need := (List.range (manLinks b)).map (needAt b)

def needOk (b : Array Byte) (n : Need) : Bool :=
  decide (n.link < 16) && (n.width == 8 || n.width == 6 || n.width == 4) && decide (n.fc ≤ 128) && decide (n.peerLink < 16) &&
  decide (n.peerRank < manRanks b) && n.peerRank != manRank b && n.reserved == 0

/-- Check 0x05 (R417). -/
def manifestOk (b : Array Byte) : Bool :=
  let exact := manExact b
  let shape := manShape b
  decide (man b 4 1 ≤ 1) && (if exact then manP b == 0 else decide (14 ≤ manP b) && decide (manP b ≤ 16)) &&
  decide (manFloor b ≤ 2) && decide (man b 7 1 < 4) &&
  (if shape then decide (1 ≤ manBuckets b) && decide (manBuckets b ≤ 16) else manBuckets b == 1) &&
  (if shape then decide (1 ≤ manSp b) && decide (manSp b ≤ 4) else manSp b == 0) &&
  decide (manLinks b ≤ 16) && !bit (manPhases b) 63 &&
  man b 24 8 != 0 && man b 24 8 % man b 8 4 == 0 &&
  (List.range 8).all (fun w => decide (manCol b w ≤ 96)) &&
  decide (manShelfBase b ≤ 4095) && decide (manShelfSize b ≤ 4096) && decide (manShelfBase b + manShelfSize b ≤ 4096) &&
  man b 53 1 == 0 && decide (manRank b ≤ 1023) && (manRanks b == 0 || (decide (2 ≤ manRanks b) && decide (manRanks b ≤ 1024))) &&
  man b 58 6 == 0 && man b 194 62 == 0 && man b 384 128 == 0 &&
  (exact || (man b 128 66 == 0 && (List.range 32).all fun i => manVslots b i >>> manP b == 0)) &&
  (manRanks b != 0 || manLinks b == 0) && (needs b).all (needOk b) &&
  ((needs b).map (·.link)).Nodup &&
  (List.range 16).all fun k => decide (k < manLinks b) || man b (256 + 8 * k) 8 == 0

/-! ## Records (Table IMG-5) -/

/-- A record: its section, its header fields and where it and its body lie. -/
structure IRec where
  sec : Nat
  kind : Nat
  bucket : Nat
  a : Nat
  b : Nat
  count : Nat
  index : Nat
  pos : Nat
  num : Nat
  deriving DecidableEq, Repr

def recBody (r : IRec) : Nat := r.pos + 16

/-- Body length by section and kind; none for a kind that is not listed. -/
def bodyLen (sec kind count : Nat) : Option Nat :=
  match sec, kind with
  | 1, 1 => some (32 + 32 * count)
  | 2, 1 | 2, 2 => some (8 * count)
  | 2, 3 => some (128 + 2 * count)
  | 3, 1 => some 224
  | 3, 2 | 3, 3 | 3, 4 => some count
  | 4, 1 => some 16
  | 6, 1 => some (4 * count)
  | 7, 1 | 7, 2 => some 0
  | _, _ => none

/-- The records of a section from pos to fin, or the number and place of the first that breaks its structure. -/
def parseRecs (b : Array Byte) (sec fin : Nat) : Nat → Nat → Nat → List IRec → Except (Nat × Nat) (List IRec)
  | 0, _, _, acc => .ok acc.reverse
  | fuel + 1, num, pos, acc =>
    if pos = fin then .ok acc.reverse
    else if fin < pos + 16 then .error (num, pos)
    else
      let r : IRec :=
        { sec := sec, kind := imgField b pos 1, bucket := imgField b (pos + 1) 1, a := imgField b (pos + 2) 1
          b := imgField b (pos + 3) 1, count := imgField b (pos + 4) 4, index := imgField b (pos + 8) 4, pos := pos, num := num }
      match bodyLen sec r.kind r.count with
      | none => .error (num, pos)
      | some n =>
        if fin < pos + 16 + n ∨ imgField b (pos + 12) 4 ≠ 0 then .error (num, pos)
        else parseRecs b sec fin fuel (num + 1) (pos + 16 + n) (r :: acc)

def secRecs (b : Array Byte) (sec : Nat) : Except (Nat × Nat) (List IRec) :=
  parseRecs b sec (secOff b sec + secLen b sec) (secLen b sec / 16 + 1) 0 (secOff b sec) []

/-- The records of a section that has passed its structure check. -/
def recsOf (b : Array Byte) (sec : Nat) : List IRec :=
  match secRecs b sec with | .ok rs => rs | .error _ => []

def anyBucket (r : IRec) : Bool := r.bucket == 0 || r.bucket == 0xFF
def ownBucket (b : Array Byte) (r : IRec) : Bool := r.bucket == 0xFF || decide (r.bucket < manBuckets b)
/-- A record applies to a bucket. -/
def inBucket (r : IRec) (k : Nat) : Bool := r.bucket == 0xFF || r.bucket == k
def shareBucket (r s : IRec) : Bool := r.bucket == 0xFF || s.bucket == 0xFF || r.bucket == s.bucket

/-- A virtual cluster that VSLOTS names. -/
def vslot (b : Array Byte) (i s : Nat) : Bool := decide (i < 32) && decide (s < 16) && bit (manVslots b i) s

def entryIx (b : Array Byte) (r : IRec) (k : Nat) : Nat := imgField b (recBody r + 2 * k) 2
def bundleAt (b : Array Byte) (r : IRec) (k : Nat) : BundleWord := BitVec.ofNat 256 (imgField b (recBody r + 32 + 32 * k) 32)
def routeAt (b : Array Byte) (r : IRec) (k : Nat) : W64 := BitVec.ofNat 64 (imgField b (recBody r + 8 * k) 8)
def arepAt (b : Array Byte) (r : IRec) (p : Nat) : Nat := imgField b (recBody r + 2 * p) 2
def reserveTicks (b : Array Byte) (r : IRec) : List Nat := (List.range r.count).map fun k => imgField b (recBody r + 128 + 2 * k) 2

/-- R420: cluster ports of VSLOTS, link ports of LINK_NEED; reserved bits 0. -/
def routeWordOk (b : Array Byte) (i : Nat) (w : W64) : Bool :=
  let portOk (p : Nat) : Bool :=
    if p < 16 then vslot b i p
    else match linkOfIsl i with
      | some l => p != 20 || (needs b).any fun n => n.link == l
      | none => true
  bits w.toNat 63 53 == 0 && portOk (rwIn w) && (List.range 28).all fun p => !bit (rwOut w) p || portOk p

def shelfWordOk (w : W64) : Bool := !bit w.toNat 41 && !bit w.toNat 63

def inPane (b : Array Byte) (lo n : Nat) : Bool :=
  decide (lo + n ≤ 4194304) && (List.range ((lo + n + 65535) / 65536)).all fun g =>
    decide ((g + 1) * 65536 ≤ lo) || bit (manPane b) g

/-- The limits of one record (R418 to R423). -/
def recordOk (b : Array Byte) (r : IRec) : Bool :=
  match r.sec, r.kind with
  | 1, _ =>
    anyBucket r && r.index == 0 && vslot b r.a r.b && decide (1 ≤ r.count) &&
    (List.range 16).all fun k => if k < manBuckets b then decide (entryIx b r k < r.count) else entryIx b r k == 0
  | 2, 1 =>
    ownBucket b r && decide (r.a < 32) && r.b == 0 && decide (r.index < 64) && bit (manPhases b) r.index && decide (r.count ≤ 65536) &&
    (List.range r.count).all fun k => routeWordOk b r.a (routeAt b r k)
  | 2, 2 =>
    ownBucket b r && decide (r.a < 4) && decide (r.b < 8) && decide (r.index < 64) && bit (manPhases b) r.index && decide (r.count ≤ 4096) &&
    (List.range r.count).all fun k => shelfWordOk (routeAt b r k)
  | 2, _ =>
    anyBucket r && r.a == 0 && r.index == 0 && (needs b).any (fun n => n.link == r.b) &&
    (List.range 64).all (fun p => bit (manPhases b) p || arepAt b r p == 0) &&
    (reserveTicks b r).all (fun t => t % 8 == 0 && decide (t < man b 8 4) && bit (manPhases b) (t / (man b 8 4 / 64))) &&
    (reserveTicks b r).Nodup
  | 3, 1 => ownBucket b r && vslot b r.a r.b && r.count == 0 && r.index == 0
  | 3, 2 => anyBucket r && vslot b r.a r.b && inPane b r.index r.count
  | 3, 3 =>
    anyBucket r && decide (r.b < 128) && vslot b r.a (r.b % 16) && decide (r.index + r.count ≤ manCol b (r.b / 16) * 1048576)
  | 3, _ =>
    anyBucket r && r.a == 0 && r.b == 0 && decide (manShelfBase b * 65536 ≤ r.index) &&
    decide (r.index + r.count ≤ (manShelfBase b + manShelfSize b) * 65536)
  | 4, _ =>
    anyBucket r && r.a == 0 && r.b == 0 && r.index == 0 && r.count == 0 &&
    (List.range 4).all fun k => decide (k < manSp b) || imgField b (recBody r + 4 * k) 4 == 0
  | 6, _ =>
    anyBucket r && r.a == 0 && r.b == 0 && decide (r.index ≤ 65535) &&
    (List.range r.count).all fun k => imgField b (recBody r + 4 * k + 3) 1 == 0
  | _, _ => decide (r.bucket < manBuckets b) && decide (r.a < 32) && decide (r.b < 16) && r.count == 0

/-- Two records of one section that stand in each other's place (R419 to R422). -/
def recordsClash (r s : IRec) : Bool :=
  r.kind == s.kind &&
  match r.sec, r.kind with
  | 1, _ => r.a == s.a && r.b == s.b
  | 2, 1 => r.a == s.a && r.index == s.index && shareBucket r s
  | 2, 2 => r.a == s.a && r.b == s.b && r.index == s.index && shareBucket r s
  | 2, _ => r.b == s.b
  | 3, 1 => r.a == s.a && r.b == s.b && shareBucket r s
  | _, _ => false

def recRefuse (r : IRec) : Refuse :=
  { check := 6, bucket := r.bucket
    where_ := if r.sec = 4 ∨ r.sec = 6 then 0xFF else if r.sec = 2 ∧ r.kind = 3 then r.b else r.a
    sub := if r.sec = 4 ∨ r.sec = 6 ∨ (r.sec = 2 ∧ r.kind ≠ 2) then 0xFF else r.b, item := r.num, off := r.pos }

/-- The first record of a list that breaks its limits or clashes with an earlier one. -/
def badRecord (b : Array Byte) : List IRec → List IRec → Option Refuse
  | _, [] => none
  | seen, r :: rs => if !recordOk b r || seen.any (recordsClash r) then some (recRefuse r) else badRecord b (r :: seen) rs

/-- Records that must exist and do not (R419, R421, R423). -/
def missingRecord (b : Array Byte) (sec : Nat) (rs : List IRec) : Option Refuse :=
  match sec with
  | 1 =>
    (List.range 512).findSome? fun v =>
      if vslot b (v / 16) (v % 16) && !rs.any (fun r => r.a == v / 16 && r.b == v % 16) then
        some { check := 6, where_ := v / 16, sub := v % 16 } else none
  | 2 => (needs b).findSome? fun n => if rs.any fun r => r.kind == 3 && r.b == n.link then none else some { check := 6, where_ := n.link }
  | 4 => failIf (rs.length != manBuckets b) { check := 6 }
  | _ => none

/-- Check 0x06 of one section. -/
def sectionRefuse (b : Array Byte) (sec : Nat) : Option Refuse :=
  match secRecs b sec with
  | .error (num, pos) => some { check := 6, item := num, off := pos }
  | .ok rs => match badRecord b [] rs with | some f => some f | none => missingRecord b sec rs

/-! ## Policies (R424 to R426) -/

/-- The stack depth after a token, none where the token breaks R425; the argument is the rest after END or a token. -/
def policyStep (numSp depth : Nat) (tok : Nat) : Option Nat :=
  if tok = 1 then (if depth < 8 then some (depth + 1) else none)
  else if 2 ≤ tok ∧ tok ≤ 5 then (if tok - 2 < numSp ∧ depth < 8 then some (depth + 1) else none)
  else if 0x10 ≤ tok ∧ tok ≤ 0x17 then (if 2 ≤ depth then some (depth - 1) else none)
  else none

/-- Whether an expression's bytes pass R424 and R425; fuel bounds the tokens by the length. -/
def policyOk (numSp : Nat) : Nat → Nat → List Byte → Bool
  | 0, _, _ => false
  | _ + 1, _, [] => false
  | fuel + 1, depth, t :: ts =>
    if t.toNat = 0 then ts.isEmpty && depth == 1
    else
      match policyStep numSp depth t.toNat with
      | none => false
      | some e => if t.toNat = 1 then decide (4 ≤ ts.length) && policyOk numSp fuel e (ts.drop 4) else policyOk numSp fuel e ts

/-- n expressions from pos, or the number of the first whose length byte fails. -/
def parsePolicies (b : Array Byte) (fin : Nat) : Nat → Nat → Nat → List (List Byte) → Except Nat (List (List Byte))
  | 0, num, pos, acc => if pos = fin then .ok acc.reverse else .error num
  | n + 1, num, pos, acc =>
    let len := imgField b pos 1
    if fin ≤ pos ∨ len = 0 ∨ 64 < len ∨ fin < pos + 1 + len then .error num
    else parsePolicies b fin n (num + 1) (pos + 1 + len) (imgBytes b (pos + 1) len :: acc)

/-- The expressions of a shape-bound image in order, eight to a bucket. -/
def policiesOf (b : Array Byte) : Except Nat (List (List Byte)) :=
  if manShape b then parsePolicies b (secOff b 5 + secLen b 5) (8 * manBuckets b) 0 (secOff b 5) []
  else if secLen b 5 = 0 then .ok [] else .error 0

/-- Check 0x07. -/
def policyRefuse (b : Array Byte) : Option Refuse :=
  match policiesOf b with
  | .error n =>
    -- bytes that follow the last expression belong to no bucket
    if manShape b && decide (n < 8 * manBuckets b) then some { check := 7, bucket := n / 8, item := n % 8 } else some { check := 7 }
  | .ok es =>
    (List.range es.length).findSome? fun n =>
      let e := es.getD n []
      if policyOk (manSp b) (e.length + 1) 0 e then none else some { check := 7, bucket := n / 8, item := n % 8 }

def policyOp (tok a b : Nat) : Option Nat :=
  let v : Option Nat :=
    match tok with
    | 0x10 => some (a + b)
    | 0x11 => if a < b then none else some (a - b)
    | 0x12 => some (a * b)
    | 0x13 => if b = 0 then none else some (a / b)
    | 0x14 => if b = 0 then none else some (ceilDiv a b)
    | 0x15 => if b = 0 then none else some (a % b)
    | 0x16 => some (min a b)
    | _ => some (max a b)
  match v with | some x => if x < pow2 32 then some x else none | none => none

/-- Value of an expression, none where its evaluation stops (R426). -/
def policyEval (sp : List Nat) : Nat → List Nat → List Byte → Option Nat
  | 0, _, _ => none
  | _ + 1, _, [] => none
  | fuel + 1, st, t :: ts =>
    match t.toNat, st with
    | 0, v :: _ => some v
    | 0, [] => none
    | 1, st => policyEval sp fuel (leNat (ts.take 4) :: st) (ts.drop 4)
    | tok, st =>
      if tok ≤ 5 then policyEval sp fuel (sp.getD (tok - 2) 0 :: st) ts
      else match st with
        | y :: x :: rest => (match policyOp tok x y with | some v => policyEval sp fuel (v :: rest) ts | none => none)
        | _ => none

/-! ## Scan (R427) -/

/-- The C slot's own fields pass (R326; 10 R385, Table INV-7, Table INV-8). -/
def cOwnOk (pc count : Nat) (stack : List Nat) (s : CSlot) : Bool :=
  (match stack with | top :: _ => top != pc || decide (s = .endloop) | [] => true) &&
  match s with
  | .nop | .halt => true
  | .bad => false
  | .loop src sC _ e =>
    (src || sC == 0) && decide (pc < e.toNat) && decide (e.toNat < count) && decide (stack.length < 4) &&
    (match stack with | top :: _ => decide (e.toNat < top) | [] => true)
  | .endloop => (match stack with | top :: _ => top == pc | [] => false)
  | .waittick _ _ src sT => src || sT == 0
  | .waitcyc _ src sN => src || sN == 0
  | .sets dk dst fsel _ => if dk then decide (dst.val < 16) && (fieldSpec fsel.val).isSome else fsel == 0
  | .adds dk dst fsel sA src sB _ =>
    (src || sB == 0) && (if dk then decide (dst.val < 16) && sA == 0 && (fieldSpec fsel.val).isSome else fsel == 0)
  | .muls dk _ fsel _ src sB _ => !dk && fsel == 0 && (src || sB == 0)
  | .edge m src ri ci sR sC =>
    m != 0 && (src || (sR == 0 && sC == 0 && decide (ri.toNat ≤ 256) && decide (ci.toNat ≤ 256)))

def srqOk (uses : Bool) (srq : Nat) : Bool := if uses then srq != 7 else srq == 0

/-- The M and V slots' own fields pass (R326, R358, R359). -/
def mOwnOk (s : MSlot) : Bool :=
  match s with
  | .bad => false
  | .acczero _ _ cls => cls.val != 3
  | .accdrain _ _ wide rnd sat srq =>
    rnd.val != 3 && (!wide || (rnd.val == 0 && !sat && srq.val == 0)) && srqOk (rnd.val == 2) srq.val
  | _ => true

def vOwnOk (s : VSlot) : Bool :=
  match s with
  | .nop => true
  | .bad => false
  | s => vFieldsOk s && vRndOk s && vSatOk s && srqOk (vUsesCtx s) (vArgsOf s).srq.val

def ownFieldsOk (pc count : Nat) (stack : List Nat) (x : Bundle) : Bool :=
  cOwnOk pc count stack x.c && x.x != .bad && vOwnOk x.v && mOwnOk x.m

/-- Adds a loop stack to those with which a bundle is reached. -/
def addReach (pc : Nat) (st : List Nat) (t : Tab (List (List Nat))) : Tab (List (List Nat)) :=
  let old := tabGet [] t pc
  if old.contains st then t else tabSet pc (st :: old) t

/-- Where issue goes on after a bundle with a loop stack. -/
def successors (pc count : Nat) (x : Bundle) (st : List Nat) : List (Nat × List Nat) :=
  if !ownFieldsOk pc count st x then []
  else
    match x.c with
    | .halt => []
    | .loop src _ imm e =>
      (if src || imm != 0 then [(pc + 1, e.toNat :: st)] else []) ++ (if src || imm == 0 then [(e.toNat + 1, st)] else [])
    | .endloop => [(pc + 1, st.drop 1)]
    | _ => [(pc + 1, st)]

/-- The bundles a program reaches: every way forward raises the bundle index, and a further iteration of a body
reaches nothing that its first does not. -/
def reachGo (count : Nat) (prog : Nat → Bundle) : Nat → Nat → Tab (List (List Nat)) → Tab (List (List Nat))
  | 0, _, t => t
  | fuel + 1, pc, t =>
    let next := (tabGet [] t pc).flatMap (successors pc count (prog pc))
    reachGo count prog fuel (pc + 1) (next.foldl (fun a n => if n.1 < count then addReach n.1 n.2 a else a) t)

/-- Bundles of a BUNDLES record that bucket k's program reaches. -/
def reached (b : Array Byte) (r : IRec) (k : Nat) : List Nat :=
  let e := entryIx b r k
  ((reachGo r.count (fun i => decodeBundle (bundleAt b r i)) (r.count - e) e [(e, [[]])]).map (·.1))

def isLandany (x : Bundle) : Bool := match x.x with | .landany .. => true | _ => false
def isFreeOrder (x : Bundle) : Bool := match x.v with | .vadd _ fo _ _ => fo | _ => false
def snapLayer (x : Bundle) : Option Nat := match x.v with | .vdig _ true l => some l.toNat | _ => none

def insertNat (x : Nat) : List Nat → List Nat
  | [] => [x]
  | y :: ys => if x ≤ y then x :: y :: ys else y :: insertNat x ys

def sortNat (xs : List Nat) : List Nat := xs.foldr insertNat []

/-- R427, first case. -/
def dupLayer (rs : List IRec) : Option Refuse :=
  ((sortNat (rs.map (·.index))).filter (· < 65536)).findSome? fun l =>
    match rs.filter fun r => r.index == l with
    | _ :: r :: _ => some { check := 8, item := r.num, off := r.pos }
    | _ => none

/-- R427, second case, for one bundle. -/
def bundleRefuse (b : Array Byte) (r : IRec) (k i : Nat) : Option Refuse :=
  let x := decodeBundle (bundleAt b r i)
  let listed (kind : Nat) : Bool :=
    (recsOf b 7).any fun m => m.kind == kind && m.bucket == k && m.a == r.a && m.b == r.b && m.index == i
  let planned (l : Nat) : Bool := (recsOf b 6).any fun m => m.index == l
  failIf ((isLandany x && !listed 1) || (isFreeOrder x && !listed 2) ||
      (match snapLayer x with | some l => !planned l | none => false))
    { check := 8, bucket := k, where_ := r.a, sub := r.b, item := i, off := r.pos }

/-- R427, second case, for a bundle that no bucket reaches: a VDIG's LAYER is looked up in every bundle of the image. -/
def layerRefuse (b : Array Byte) (r : IRec) (i : Nat) : Option Refuse :=
  match snapLayer (decodeBundle (bundleAt b r i)) with
  | some l =>
    failIf (!(recsOf b 6).any fun m => m.index == l) { check := 8, where_ := r.a, sub := r.b, item := i, off := r.pos }
  | none => none

/-- BUNDLES records in ascending virtual island and slot. -/
def bundleRecs (b : Array Byte) : List IRec :=
  (List.range 512).filterMap fun v => (recsOf b 1).find? fun r => r.a == v / 16 && r.b == v % 16

/-- R427, third case. -/
def danglingRefuse (b : Array Byte) (m : IRec) : Option Refuse :=
  let ok := (recsOf b 1).any fun r =>
    r.a == m.a && r.b == m.b && (reached b r m.bucket).contains m.index &&
      (let x := decodeBundle (bundleAt b r m.index)
       if m.kind = 1 then isLandany x else isFreeOrder x)
  failIf (!ok) { check := 8, bucket := m.bucket, where_ := m.a, sub := m.b, item := m.num, off := m.pos }

/-- Check 0x08. -/
def scanRefuse (b : Array Byte) : Option Refuse :=
  firstRefuse [
    fun _ => dupLayer (recsOf b 6),
    fun _ => (List.range (manBuckets b)).findSome? fun k => (bundleRecs b).findSome? fun r =>
      (sortNat (reached b r k)).findSome? (bundleRefuse b r k),
    fun _ => (bundleRecs b).findSome? fun r => (List.range r.count).findSome? (layerRefuse b r),
    fun _ => (recsOf b 7).findSome? (danglingRefuse b)]

/-! ## IMAGE_VERIFY (R434) -/

def secData (b : Array Byte) (i : Nat) : List Byte := imgBytes b (secOff b i) (secLen b i)

/-- The first section whose CRC differs from its directory entry. -/
def badSection (b : Array Byte) : Option Nat :=
  (List.range 8).find? fun i => crc32c (secData b i) != secCrc b i

/-- Checks 0x03 to 0x08. -/
def contentRefuse (whl : Wheel) (b : Array Byte) : Option Refuse :=
  firstRefuse ([
    fun _ => failIf (man b 0 4 != 0x32313556) { check := 3 },
    fun _ => failIf (man b 8 4 != whl.w || man b 12 1 != whl.g) { check := 4 },
    fun _ => failIf (!manifestOk b) { check := 5 }] ++
    ([1, 2, 3, 4, 6, 7].map fun s => fun (_ : Unit) => sectionRefuse b s) ++
    [fun _ => policyRefuse b, fun _ => scanRefuse b])

/-- The checks of IMAGE_VERIFY on a fetched image of a stated length. -/
def verifyRefuse (whl : Wheel) (b : Array Byte) (len : Nat) : Option Refuse :=
  firstRefuse [
    fun _ => failIf (!headerOk b len) { check := 1 },
    fun _ => (badSection b).map fun _ => { check := 2 },
    fun _ => contentRefuse whl b]

end Sys2Proof.Machine
end

