-- ==== Sys2Proof/Machine/Islands.lean ====
section
/-!
DEFINITION. PLLs and island oscillators (02 R45 to R59, R69 to R74; 21 R731; 23 R773).
-/
namespace Sys2Proof.Machine

/-! ## PLLs -/

def pllOf (d : Dev) (p : Nat) : Pll := tabGet {} d.clk.pll p
def setPll (p : Nat) (x : Pll) (d : Dev) : Dev := { d with clk := { d.clk with pll := tabSet p x d.clk.pll } }

/-- 02 R70, at REFCLK cycle r of the relock, which starts at reset release (20 R675): 256 cycles inside the lock window confirm lock. -/
def opPllLockConfirm (p r : Nat) (d : Dev) : Dev :=
  if d.boot.inReset ∨ (pllOf d p).locked = true ∨ r < 256 ∨ r < d.clk.refclk then d
  else setPll p { pllOf d p with locked := true, lockedAt := r } { d with clk := { d.clk with refclk := r } }

/-- 02 R69, R71, at REFCLK cycle r: the output stays gated until 4,096 cycles after lock was confirmed. -/
def opPllUngate (p r : Nat) (d : Dev) : Dev :=
  if (pllOf d p).locked = true ∧ (pllOf d p).lockedAt + 4096 ≤ r ∧ d.clk.refclk ≤ r then
    setPll p { pllOf d p with ungated := true } { d with clk := { d.clk with refclk := r } }
  else d

/-- The fabric, control and column domains receive clock edges (02 R69, Table CLK-1). -/
def fabricUp (d : Dev) : Bool := (pllOf d 0).ungated
def controlUp (d : Dev) : Bool := (pllOf d 1).ungated
def columnUp (cl : Nat) (d : Dev) : Bool := (pllOf d (2 + quadOf cl)).ungated

/-! ## Islands -/

def islOfDev (d : Dev) (i : Nat) : Island := tabGet {} d.clk.isl i
def modIsl (i : Nat) (f : Island → Island) (d : Dev) : Dev :=
  { d with clk := { d.clk with isl := tabMod {} i f d.clk.isl } }

/-- The fused ceiling code of every island of a B0 part (02 R46). -/
def ceilingCode : Nat := 304

/-- Code of a compiled floor, 0 for 1.20, 1 for 1.35, 2 for 1.50 GHz (02 Table CLK-3). -/
def floorCode (f : Nat) : Nat := match f with | 0 => 192 | 1 => 216 | _ => 240

/-- 02 R51: ceil(F * 17 / 16) + 1. -/
def minSetpoint (f : Nat) : Nat := ceilDiv (floorCode f * 17) 16 + 1

/-- Whether a tenancy's loaded image maps a cluster on an island. -/
def mapsIsland (x : Tenancy) (i : Nat) : Bool :=
  match x.image with
  | some im => im.clusters.any fun c => islOf c == i
  | none => false

/-- Minimum setpoint for the highest floor among the programs an island holds; 0 for none (02 R48). -/
def islandMin (d : Dev) (i : Nat) : Nat :=
  (List.range 32).foldl (fun a t =>
    let x := tenOf d t
    match x.image with
    | some im => if mapsIsland x i then max a (minSetpoint im.floor) else a
    | none => a) 0

/-- 02 R48. -/
def effTarget (d : Dev) (i : Nat) : Nat :=
  let x := islOfDev d i
  max (min (min x.setpoint x.limit) ceilingCode) (islandMin d i)

/-- 02 R59: the oscillator ungates at code 192, 1,024 t after supply good and from the first wheel on (20 R675). It stays gated in
HALTED (20 R700). -/
def opIslandOscStart (i : Nat) (d : Dev) : Dev :=
  let x := islOfDev d i
  if x.supplyOn && x.supplyGood && !x.oscOn && d.whl.running && decide (x.goodAt + 1024 ≤ d.whl.now) && d.boot.state != .halted then
    modIsl i (fun x => { x with oscOn := true, current := 192, trim := 0, window := d.whl.now, slewAt := d.whl.now }) d
  else d

/-- ISLAND_SUPPLY_GOOD (20 R695). -/
def opIslandSupplyGood (i : Nat) (d : Dev) : Dev :=
  if (islOfDev d i).supplyOn && !(islOfDev d i).supplyGood then modIsl i (fun x => { x with supplyGood := true, goodAt := d.whl.now }) d else d

/-- Bounds of the trim at a code: within one code step of it (02 R49), and at the ceiling code no shorter cycle (02 R47). -/
def trimWithin (cur : Nat) (trim : Int) : Int :=
  let n : Int := Config.fineSteps
  max (-n) (min trim (if cur < ceilingCode then n else 0))

/-- 02 R49, R47: at the end of a window of 1,024 t, at most one fine step toward the current code. slow is true where the island fell
behind its current code in the window, none where it held it. -/
def opTrackingWindow (i : Nat) (slow : Option Bool) (d : Dev) : Dev :=
  let x := islOfDev d i
  if x.oscOn && decide (x.window + 1024 ≤ d.whl.now) then
    modIsl i (fun x => { x with
      window := d.whl.now - (d.whl.now - x.window) % 1024
      trim := trimWithin x.current (match slow with | none => x.trim | some true => x.trim + 1 | some false => x.trim - 1) }) d
  else d

/-- One step of at most 4 codes toward a target, never past it (02 R56). -/
def slewTo (cur target : Nat) : Nat :=
  if cur < target then min (cur + 4) target else max (cur - 4) target

/-- Fewer ticks than 64 c take at a code that runs one code step fast have not passed since the last step (02 R56, R49). -/
def slewReady (now : Nat) (x : Island) : Bool := decide (12800 ≤ (now - x.slewAt + 1) * (x.current + 1))

/-- 02 R56; the trim stays within the bounds of the new code (02 R47). -/
def opSlewStep (i : Nat) (d : Dev) : Dev :=
  let x := islOfDev d i
  if x.oscOn && slewReady d.whl.now x then
    let c := slewTo x.current (effTarget d i)
    modIsl i (fun x => { x with current := c, trim := trimWithin c x.trim, slewAt := d.whl.now }) d
  else d

/-- 02 R50, R53: n stretched cycles are counted. -/
def opDroopStretch (i n : Nat) (d : Dev) : Dev := modIsl i (fun x => { x with stretch := satAdd x.stretch n }) d

/-- Tenancies that hold a cluster of an island in force. -/
def holdersOfIsland (d : Dev) (i : Nat) : List Nat :=
  (List.range 32).filter fun t => (List.range 16).any fun s => recHasCluster (grantOf d t) (16 * i + s)

def faultAll (ts : List Nat) (code : Nat) (d : Dev) : Dev := ts.foldl (fun a t => raiseFault t code a) d

/-- 21 R731: the flag is latched, its cause set, and the island's tenancies fault. -/
def opDroopExcess (i : Nat) (d : Dev) : Dev :=
  if (islOfDev d i).droop then d
  else faultAll (holdersOfIsland d i) fcDroop (raiseDev 8 (modIsl i (fun x => { x with droop := true }) d))

/-- 23 R773. Only the PF writes. -/
def opSetpointWrite (fn i : Nat) (v : BitVec 32) (d : Dev) : Dev :=
  let code := v.toNat % 512
  let clr := bit v.toNat 15
  let low := islandMin d i
  let applied := min code ceilingCode
  if fn ≠ 0 then d
  else if code < 192 then modIsl i (fun x => { x with refused := x.refused && !clr }) d
  else if code < low then modIsl i (fun x => { x with refused := true }) d
  else modIsl i (fun x => { x with setpoint := applied, refused := x.refused && !clr }) d

/-- DROOP is W1C; a flag whose droop is present stays set (21 R731). Only the PF writes. -/
def opDroopFlagClear (fn : Nat) (mask present : BitVec 32) (d : Dev) : Dev :=
  if fn ≠ 0 then d
  else (List.range 32).foldl (fun a i =>
    if bit mask.toNat i && !bit present.toNat i then modIsl i (fun x => { x with droop := false }) a else a) d

end Sys2Proof.Machine
end

