-- ==== Sys2Proof/Machine/Wheel.lean ====
section
/-!
DEFINITION. The wheel, the count, markers, slips and span states (03; 05 R194; 20 R675).
-/
namespace Sys2Proof.Machine

def modWhl (f : Wheel → Wheel) (d : Dev) : Dev := { d with whl := f d.whl }
def modSpan (f : Span → Span) (d : Dev) : Dev := { d with span := f d.span }

/-- Wheel period without a correction, in 1/16 t. -/
def period16 (w : Wheel) : Int := 16 * (w.w + w.g : Nat)

/-- Links of this chip that belong to the span. -/
def spanLinks (s : Span) : List Nat := match s.ranks[s.ownRank]? with | some r => r.links.map (·.1) | none => []

/-- Tenancies whose image uses the span. -/
def usesSpan (x : Tenancy) : Bool := match x.image with | some im => im.ranks != 0 | none => false
def spanTenancies (d : Dev) : List Nat := (List.range 32).filter fun t => usesSpan (tenOf d t)

/-- Ranks this chip has a link to. -/
def neighbours (s : Span) : List Nat := match s.ranks[s.ownRank]? with | some r => (r.links.map (·.2.1)).eraseDups | none => []

/-- A rank that still sends markers, as far as this chip can tell: it is no master that fell silent, and no neighbour
silent for two wheels in a row (R91; log entry 89). -/
def liveRank (s : Span) (r : Nat) : Bool := !s.dead.contains r && decide (tabGet 0 s.silent r < 2)

/-- Lowest live rank other than one (R91). -/
def nextLive (s : Span) (but : Nat) : Nat :=
  ((List.range s.ranks.length).find? fun r => r != but && liveRank s r).getD 0xFFFF

def follower (s : Span) : Bool := s.joined && s.ownRank != s.masterRank

/-- A slip is to follow the counted wheel that turns. -/
def slipDue (d : Dev) : Bool := d.span.slipAt.contains (d.whl.n * d.whl.w)

/-! ## Turning -/

/-- WHEEL_COUNTER_START (20 R675; 03 R77, R88): PLL 0 is the fabric's, 2 to 5 are the columns'. -/
def opWheelCounterStart (d : Dev) : Dev :=
  if !d.whl.running && [0, 2, 3, 4, 5].all (fun p => (tabGet ({} : Pll) d.clk.pll p).ungated) then
    modWhl (fun w => { w with running := true, n := 0, start := w.now, slip := false, phase := 0, guardNext := none }) d
  else d

/-- What every link does at a wheel boundary (05 R181, R188). -/
def linkWheelStart (l : Link) : Link :=
  { l with replay := [], gone := l.replay.map (·.index), nakRx := [], replayed := [], carried := []
           reserve := l.reserve.map fun r => { r with used := false } }

/-- The prediction of the master's wheel start moves on by a period at the estimated rate (R95, R109 edge). -/
def extend (w : Wheel) (s : Span) : Option Nat :=
  s.predict16.map fun p => ((p : Int) + period16 w + period16 w * s.rate / 4294967296).toNat

/-- A chip whose SPAN_JOIN was accepted starts to form its span (R103). -/
def startForming (s : Span) : Span := if s.toForm then { s with toForm := false, joined := true, state := .forming } else s

/-- Neighbours' wheels in a row without a copy of theirs. -/
def silentTurn (s : Span) : Tab Nat :=
  (neighbours s).foldl (fun a r => if s.heard.contains r then tabDel r a else tabSet r (tabGet 0 a r + 1) a) s.silent

/-- Counts of wheels without a marker, and of FORMING wheels (R103, R109, R111). A slipped wheel counts as a wheel (log entry
90). Silence counts from the wheel on in which the span has left FORMING (log entry 89). A halt that is due takes effect at
the boundary (R103). -/
def spanWheelStart (w : Wheel) (n : Nat) (s0 : Span) : Span :=
  let s := startForming s0
  let win := n / 1000000
  let formed := s0.joined && s0.state != .forming
  let s1 := { s with
    missedMaster := if formed && !s.newMaster then s.missedMaster + 1 else 0
    missedAll := if formed && !s.newAny then s.missedAll + 1 else 0
    silent := if formed then silentTurn s else []
    newMaster := false, newAny := false, heard := []
    formWheels := if s0.state = .forming then s.formWheels + 1 else 0
    predict16 := extend w s
    haltDue := s.halting }
  if s.joined && s.window != win then { s1 with window := win, slipsWindow := 0, limitDone := false } else s1

/-- DRAIN_REQ acts at a boundary (20 R671). -/
def drainTurn (b : Boot) : Boot :=
  match b.state with
  | .active => if b.drainReq then { b with state := .drain } else b
  | .drain => if b.drainReq then b else { b with state := .active }
  | _ => b

/-- Tick 0 of a wheel: g guard ticks have passed since the last schedule tick. -/
def turn (slip : Bool) (n g : Nat) (d : Dev) : Dev :=
  let w := d.whl
  let start := w.start + w.w + g
  let sink := w.syncMode = .sink
  (if d.span.toForm then raiseDev 1 else id) { d with
    whl := { w with
      n := n, start := start, now := max w.now start, slip := slip, phase := 0, guardLast := g, guardNext := none
      syncMissed := if sink then (if w.syncSeen then 0 else w.syncMissed + 1) else 0
      syncSeen := false }
    span := spanWheelStart w n d.span
    lnk := d.lnk.map fun e => (e.1, linkWheelStart e.2)
    boot := if slip then d.boot else drainTurn d.boot }

/-- The guard that ends the present wheel ends FORMING (R105). -/
def formDue (d : Dev) : Bool := d.span.state == .forming && d.span.lockAt.any (fun x => decide (x ≤ d.whl.n))

/-- WHEEL_START: tick 0 of the next counted wheel (R75, R85). -/
def opWheelStart (d : Dev) : Dev :=
  if d.whl.running && !d.whl.slip && !slipDue d && !formDue d then turn false (d.whl.n + 1) (d.whl.guardNext.getD d.whl.g) d else d

/-- SLIP_INSERT (R113, R115). -/
def opSlipInsert (d : Dev) : Dev :=
  if d.whl.running && !d.whl.slip && slipDue d then
    let at_ := d.whl.n * d.whl.w
    let d1 := turn true d.whl.n (d.whl.guardNext.getD d.whl.g) d
    let d2 := modSpan (fun s => { s with
      state := if s.state = .locked then .slipping else s.state
      slipAt := s.slipAt.filter (fun x => x != at_), slipPast := at_ :: s.slipPast
      slipsWindow := satInc s.slipsWindow, slipsTotal := satInc s.slipsTotal }) d1
    raiseDev 1 ((spanTenancies d).foldl (fun a t => modTen t (fun x => { x with slips := x.slips + 1 }) a) d2)
  else d

/-- SLIPPED_WHEEL_END: the slipped wheel and its guard end, and the next counted wheel starts (R103). -/
def opSlippedWheelEnd (d : Dev) : Dev :=
  if d.whl.running && d.whl.slip then
    raiseDev 1 (modSpan (fun s => { s with state := if s.state = .slipping then .locked else s.state })
      (turn false (d.whl.n + 1) (d.whl.guardNext.getD d.whl.g) d))
  else d

/-- FORM_GC as a span's count: the largest GC of a marker of tick 63 W / 64 of wheel n, at the boundary after wheel n + D, rounded
up to a multiple of W (R105; log entry 91). -/
def spanCount (w : Wheel) (dist formGc : Nat) : Nat := ceilDiv (formGc + dist * w.w + w.w / 64) w.w * w.w

/-- The largest GC known among the members at tick 63 W / 64: what was known one wheel ago has counted W since (R93). -/
def formTick (d : Dev) (s : Span) : Span :=
  if s.state = .forming ∧ d.whl.slip = false then
    { s with formGc := max (if s.formGc = 0 then 0 else s.formGc + d.whl.w) (d.whl.n * d.whl.w + 63 * (d.whl.w / 64)) }
  else s

/-- The master's marker that marks LOCKED fixes the boundary after wheel n + D for all (R103, R105; log entry 91). -/
def lockTick (w : Wheel) (s : Span) : Span :=
  if s.lockMark && s.lockAt.isNone then
    { s with lockAt := some (w.n + s.d), stepFrom := (w.n + s.d + 1) * w.w, stepTo := spanCount w s.d s.formGc }
  else s

/-- At tick 63 W / 64 a member takes the requests it holds into its markers. The count master, whose own requests alone set
SLIP_REQ, serves all it holds with one slip, sets LIMIT in its next marker, that of a slipped wheel included, and names its
successor (R91, R112, R113, R116). LIMIT is set once in a window (log entry 92). -/
def takeRequests (d : Dev) : Dev :=
  let s := formTick d d.span
  let at_ := (d.whl.n + s.d) * d.whl.w
  if !s.joined then d
  else if follower s then modSpan (fun _ => { s with slipOut := s.slipReq || s.slipFwd, slipReq := false, slipFwd := false }) d
  else
    let runs := s.state == .locked || s.state == .slipping
    let s1 := lockTick d.whl { s with successor := nextLive s s.ownRank }
    let s2 := if runs && decide (s.slipLimit < s.slipsWindow) && !s.limitDone then { s1 with limitAt := some at_, limitDone := true } else s1
    modSpan (fun _ =>
      if d.whl.slip then s2
      else
        let s3 := { s2 with slipOut := s.slipReq, slipReq := false, slipFwd := false }
        if (s.slipReq || s.slipFwd) && s.state == .locked && !s.slipAt.contains at_ then { s3 with slipAt := s.slipAt ++ [at_] } else s3) d

/-- PHASE_START p, in order (R79). -/
def opPhaseStart (p : Nat) (d : Dev) : Dev :=
  if d.whl.running && p == d.whl.phase then
    let t := d.whl.start + p * (d.whl.w / 64)
    let d1 := modWhl (fun w => { w with phase := p + 1, now := max w.now t }) d
    if p = 63 then takeRequests d1 else d1
  else d

/-! ## Guards (R84, R95, R97, R101, R102) -/

/-- Tick 0 of the next wheel with guard G, in 1/16 t. -/
def nominal16 (w : Wheel) : Int := 16 * (w.start + w.w + w.g : Nat)

/-- The correction that meets a wheel start in 1/16 t, in ticks: rounded to the nearest, halves up. -/
def correction (w : Wheel) (p : Int) : Int := (p - nominal16 w + 8).fdiv 16

/-- The wheel start that this wheel's pulse gives, if one came for the next boundary: one in the first half of the wheel placed
the boundary before (log entry 93). -/
def pulseStart (w : Wheel) : Option Nat :=
  match w.syncStart with
  | some s => if s < w.start + w.w / 2 then none else some s
  | none => none

/-- Wheels in a row in which pulse and marker differ by more than 2 t; a wheel without both ends the row (R102). -/
def pulseOff (w : Wheel) (p : Option Nat) : Nat :=
  match pulseStart w, p with
  | some s, some p => if 32 < ((16 * s : Int) - p).natAbs then w.syncOff + 1 else 0
  | _, _ => 0

/-- The wheel start that the pulse gives a member in SINK mode that has not lost it (R101, R102); in a HALTED span no pulse
counts (R107). -/
def sinkStart (d : Dev) : Option Nat :=
  if d.whl.syncMode = .sink ∧ d.whl.syncLost = false ∧ ¬(d.span.joined = true ∧ d.span.state = .halted) then pulseStart d.whl else none

/-- A halt of the span is due at the next boundary: only a LOCKED or SLIPPING span halts (Table WHL-3). -/
def spanLost (s : Span) : Span :=
  if s.joined && (s.state == .locked || s.state == .slipping) then { s with halting := true } else s

/-- Where the next tick 0 is to lie, in 1/16 t: by pulse, or by the master's markers (R95, R101). -/
def alignTo (d : Dev) : Option Int :=
  match sinkStart d with
  | some s => some (16 * s)
  | none =>
    if follower d.span && !d.whl.slip && (d.span.state == .locked || (d.span.state == .forming && d.span.stretched)) then d.span.predict16.map (↑·)
    else none

/-- GUARD_APPLIED: g = G + a, a within 8 t; a LOCKED follower that needs more halts its span (R84, R95, R97). -/
def opGuardApplied (d : Dev) : Dev :=
  let w := d.whl
  if w.running && w.guardNext.isNone then
    let d0 := modWhl (fun w => { w with syncOff := pulseOff w d.span.predict16 }) d
    match alignTo d with
    | some p =>
      let need := correction w p
      let a := max (-8) (min 8 need)
      modSpan (fun s =>
        let s1 := { s with lastA := a, aligned := if a.natAbs ≤ 1 then s.aligned + 1 else 0 }
        if need ≠ a ∧ follower s = true ∧ s.state = .locked then spanLost s1 else s1)
        (modWhl (fun w => { w with guardNext := some ((w.g : Int) + a).toNat }) d0)
    | none => modWhl (fun w => { w with guardNext := some w.g }) d0
  else d

/-! ## Markers (R92 to R94, R109 to R112) -/

def markerFlags (m : Marker) : Nat :=
  (if m.slip then 1 else 0) + (if m.slipReq then 2 else 0) + (if m.locked then 4 else 0) + (if m.limit then 8 else 0) +
    (if m.forming then 16 else 0)

/-- Payload of a marker (03 Table WHL-2). -/
def markerLine (m : Marker) : Line :=
  BitVec.ofNat 512 (m.kind + m.origin * pow2 16 + m.sender * pow2 32 + (m.hops % 256) * pow2 48 + markerFlags m * pow2 56 +
    m.originGc % pow2 64 * pow2 64 + m.age % pow2 32 * pow2 128 + m.slipCount % pow2 32 * pow2 160 +
    m.window % pow2 32 * pow2 192 + m.successor % 1024 * pow2 224 + m.formGc % pow2 64 * pow2 256 + m.eventGc % pow2 64 * pow2 320)

def markerOf (l : Line) : Marker :=
  let f (lo n : Nat) : Nat := pkField l lo n
  let fl := f 7 1
  { kind := f 0 2, origin := f 2 2 % 1024, sender := f 4 2 % 1024, hops := f 6 1
    slip := bit fl 0, slipReq := bit fl 1, locked := bit fl 2, limit := bit fl 3, forming := bit fl 4
    originGc := f 8 8, age := f 16 4, slipCount := f 20 4, window := f 24 4, successor := f 28 2 % 1024
    formGc := f 32 8, eventGc := f 40 8
    reserved := f 2 2 / 1024 != 0 || f 4 2 / 1024 != 0 || fl / 32 != 0 || f 28 2 / 1024 != 0 || f 30 2 != 0 || f 48 16 != 0 }

/-- Link latency added to AGE, in 1/16 t (05 R173). -/
def linkLat16 (l : Link) : Nat := l.fFine + 768

/-- The master's own marker of the wheel that turns. In a slipped wheel it sends its newest one again, of the last counted
wheel, aged by the period since (R82, R94, R114; 05 R188; log entry 90). -/
def ownMarker (d : Dev) : Marker :=
  let s := d.span
  let ev := (d.whl.n + s.d) * d.whl.w
  let slip := s.slipAt.contains ev
  let lim := s.limitAt == some ev
  { origin := s.ownRank, sender := s.ownRank, hops := 1, slip := slip, slipReq := s.slipOut
    locked := s.state == .locked || s.state == .slipping || s.lockAt.isSome
    limit := lim, forming := s.state == .forming, originGc := d.whl.n * d.whl.w
    age := if d.whl.slip then 16 * (d.whl.w + d.whl.guardLast) else 0, slipCount := s.slipsWindow
    window := s.window, successor := s.successor, formGc := if s.state = .forming then s.formGc else 0
    eventGc := if slip || lim then ev else 0 }

/-- The copy a relaying member sends at a local time in 1/16 t. A copy that marks LOCKED keeps the FORM_GC that fixes the
span count (R105; log entry 91). -/
def relayMarker (d : Dev) (k : Kept) (at16 : Nat) : Marker :=
  let s := d.span
  let hold := ((at16 - k.at16 : Nat) : Int) * 4294967296 / (4294967296 + s.rate)
  { k.marker with
    sender := s.ownRank, hops := k.marker.hops + 1
    age := k.marker.age + linkLat16 (lnkOf d k.link) + hold.toNat
    slipReq := s.slipOut, forming := s.state == .forming
    formGc := if s.state ≠ .forming then 0 else if k.marker.locked && decide (k.marker.formGc ≠ 0) then k.marker.formGc else max k.marker.formGc s.formGc }

/-- WHEEL_MARKER_SEND: slot 0 of the frame at tick 63 W / 64, in every span state (R82, R94; 05 R169). -/
def opWheelMarkerSend (l : Nat) (d : Dev) : Dev :=
  let s := d.span
  let t := d.whl.start + 63 * (d.whl.w / 64)
  if s.joined && d.boot.state != .halted && d.whl.phase == 64 && (spanLinks s).contains l && (lnkOf d l).state == .ready &&
      !d.fab.flits.any (fun f => f.dest == .linkTx l && f.due == t) then
    let send (m : Marker) : Dev :=
      addFlight { dest := .linkTx l, due := t, sw := t, flit := sealFlit { data := markerLine m, ten := 63, tag := 0, late := false, poison := false, ecc := 0 } } d
    if follower s || d.boot.state == .drain then (match s.kept with | some k => send (relayMarker d k (16 * t)) | none => d)
    else send (ownMarker d)
  else d

/-- Prefers the newer origin count, then fewer hops, then the lower link; a later copy of that link takes its place (R94). -/
def newer (m : Marker) (l : Nat) (k : Option Kept) : Bool :=
  match k with
  | none => true
  | some k =>
    if m.originGc = k.marker.originGc then decide (m.hops < k.marker.hops) || (m.hops == k.marker.hops && decide (l ≤ k.link))
    else decide (k.marker.originGc < m.originGc) || m.origin != k.marker.origin

/-- Slipped wheels between two counts. -/
def slipsBetween (s : Span) (a b : Nat) : Nat := ((s.slipAt ++ s.slipPast).filter fun x => decide (a ≤ x) && decide (x < b)).length

/-- Master time from tick 0 of the wheel at count a to tick 0 of the wheel at count b, in 1/16 t. -/
def span16 (w : Wheel) (s : Span) (a b : Nat) : Int := ((b - a) / w.w + slipsBetween s a b : Nat) * period16 w

/-- A master's count of before the span's forward step, as one of after it (R105). -/
def normGc (s : Span) (gc : Nat) : Nat := if gc < s.stepTo then gc + (s.stepTo - s.stepFrom) else gc

/-- Turns from tick 0 of the master's wheel at a count to the next tick 0 here: while LOCKED counts agree, and slips already
inserted take a turn each. While FORMING counts need not agree, and the master's wheel start nearest the own next one is
meant (R95, R104; log entry 91). -/
def turnsTo (w : Wheel) (s : Span) (gc : Nat) (since : Int) : Nat :=
  if s.state = .forming then ((nominal16 w - since + period16 w / 2).fdiv (period16 w)).toNat
  else w.n + 1 - gc / w.w + (s.slipPast.filter fun x => decide (gc ≤ x)).length

/-- What every marker of the span brings: that its sender is heard, a larger GC while FORMING, and a request that comes from
a member farther from the master than this one (R91, R105, R112; log entry 94). -/
def noteMarker (m : Marker) (s : Span) : Span :=
  let farther := if follower s then (match s.kept with | some k => decide (k.marker.hops + 2 ≤ m.hops) | none => false) else true
  { s with
    heard := if s.heard.contains m.sender then s.heard else m.sender :: s.heard
    formGc := max s.formGc m.formGc, slipFwd := s.slipFwd || (m.slipReq && farther) }

/-- Takes a marker as the newest: rate, prediction, slips, limit, and the boundary at which the span is LOCKED (R95, R103,
R112, R116). -/
def adoptMarker (m : Marker) (l at16 : Nat) (d : Dev) : Dev :=
  let w := d.whl
  let lat := linkLat16 (lnkOf d l)
  let sent : Int := (at16 : Int) - m.age - lat
  let past : Int := 16 * (63 * (w.w / 64) : Nat) + m.age + lat
  modSpan (fun s =>
    let gc := normGc s m.originGc
    let s0 := { s with
      slipAt := if m.slip && !s.slipAt.contains m.eventGc && !s.slipPast.contains m.eventGc then s.slipAt ++ [m.eventGc] else s.slipAt
      limitAt := if m.limit && s.limitAt != some m.eventGc && decide (w.n * w.w ≤ m.eventGc) then some m.eventGc else s.limitAt }
    let rate := match s.lastSend with
      | some (g, loc) =>
        let master := span16 w s0 (normGc s g) gc
        if normGc s g < gc then (sent - loc - master) * 4294967296 / master else s.rate
      | none => s.rate
    let k := turnsTo w s0 gc ((at16 : Int) - past)
    let left := (k : Int) * period16 w - past
    let p := (at16 : Int) + left + left * rate / 4294967296
    let s1 :=
      if s.state = .forming ∧ m.locked = true ∧ m.formGc ≠ 0 ∧ s.lockAt = none then
        { s0 with lockAt := some (w.n + (s.d + 1 - k)), stepFrom := m.originGc + (s.d + 1) * w.w, stepTo := spanCount w s.d m.formGc }
      else s0
    { s1 with
      kept := some { marker := m, link := l, at16 := at16 }, rate := rate, lastSend := some (m.originGc, sent)
      predict16 := some p.toNat
      newMaster := s.newMaster || (m.origin == s.masterRank && s.lastSend.all fun q => q.1 != m.originGc)
      successor := if m.origin = s.masterRank then m.successor else s.successor }) d

/-- The origin is the count master or the named successor (R110, R111). -/
def fromMaster (s : Span) (m : Marker) : Bool := m.origin == s.masterRank || m.origin == s.successor

/-- A new master is followed: the old one is not live any more. -/
def newOrigin (m : Marker) (old : Nat) (s : Span) : Span :=
  { s with masterRank := m.origin, successor := m.successor, dead := old :: s.dead, kept := none }

/-- WHEEL_MARKER_RECEIVE: the oldest marker that a span link holds, with its arrival time in 1/16 t. A member prefers the
master until it has itself missed it for two wheels in a row, and then follows the successor (R110; log entry 95). -/
def opWheelMarkerReceive (l at16 : Nat) (d : Dev) : Dev :=
  match (lnkOf d l).markers with
  | [] => d
  | p :: ps =>
    let d0 := modLnk l (fun k => { k with markers := ps }) d
    let m := markerOf p
    if m.kind ≠ 1 ∨ m.reserved = true then modSpan (fun s => { s with errors := satInc s.errors }) d0
    else if !d.span.joined || !(spanLinks d.span).contains l then d0
    else
      let s := d.span
      let d1 := modSpan (fun s => { noteMarker m s with newAny := s.newAny || fromMaster s m }) d0
      if !follower s then
        (if d.boot.state == .drain && m.origin == s.successor then adoptMarker m l at16 (modSpan (newOrigin m s.ownRank) d1) else d1)
      else if m.origin = s.successor ∧ m.origin ≠ s.ownRank ∧ 2 ≤ s.missedMaster then
        adoptMarker m l at16 (modSpan (newOrigin m s.masterRank) d1)
      else if m.origin = s.masterRank ∧ newer m l s.kept = true then adoptMarker m l at16 d1
      else d1

/-! ## Span events -/

/-- The chip is a span of one again; the fields of the SPAN block return to their reset values (R90; 23 R770). -/
def spanOfOne (d : Dev) : Dev :=
  modSpan (fun s => { slipsTotal := s.slipsTotal, errors := s.errors }) d

/-- Stops a tenancy because its span halted (R97; 05 R193; 21 R728). -/
def spanStop (t : Nat) (d : Dev) : Dev :=
  let gc := gcOf d.whl
  let d1 := if isLive (tenOf d t).st then
      modTen t (fun x => { x with st := .faulted, stopDue := false, replay := none })
        (endProgram t sSpanHalted fcLinkLost gc false (releaseUnits t (stopHardware t (raiseFault t fcLinkLost d))))
    else d
  abortCmds (cmdOfTen d1 t) sSpanHalted fcLinkLost none d1

/-- The present tick is a wheel boundary: tick 0 of a counted or a slipped wheel. -/
def atBoundary (d : Dev) : Bool := d.whl.running && d.whl.now == d.whl.start

/-- SPAN_HALT, at the wheel boundary after the loss (R97, R103; 05 R193, R194; 21 R728). -/
def opSpanHalt (d : Dev) : Dev :=
  if d.span.haltDue && d.span.joined && (d.span.state == .locked || d.span.state == .slipping) && atBoundary d then
    let ts := spanTenancies d
    let d1 := (spanLinks d.span).foldl (fun a l => modLnk l (fun k =>
      if k.state = .ready then { k with aborting := 64 } else k) a) d
    raiseDev 1 (raiseDev 2 (ts.foldl (fun a t => spanStop t a)
      (modSpan (fun s => { s with state := .halted, halting := false, haltDue := false, slipAt := [] }) d1)))
  else d

/-- SLIP_LIMIT: at the end of counted wheel n + D every tenancy of the span is to stop (R116). -/
def opSlipLimit (d : Dev) : Dev :=
  match d.span.limitAt with
  | some x =>
    if d.whl.n * d.whl.w ≥ x ∧ (inGuard d.whl = true ∨ d.whl.slip = true ∨ d.whl.n * d.whl.w > x) then
      faultAll (spanTenancies d) fcSlipLimit (modSpan (fun s => { s with limitAt := none }) d)
    else d
  | none => d

/-- MASTER_TAKEOVER (R109). -/
def opMasterTakeover (d : Dev) : Dev :=
  let s := d.span
  if follower s && s.ownRank == s.successor && decide (2 ≤ s.missedMaster) then
    modSpan (fun s =>
      let dead := s.masterRank :: s.dead
      { s with
        masterRank := s.ownRank, dead := dead, successor := nextLive { s with dead := dead } s.ownRank
        slipsWindow := match s.kept with | some k => k.marker.slipCount | none => s.slipsWindow
        window := match s.kept with | some k => k.marker.window | none => s.window
        predict16 := none, kept := none }) d
  else d

/-- MARKER_LOSS_HALT: found at a wheel boundary, which is the one at which the span halts (R103, R111). -/
def opMarkerLossHalt (d : Dev) : Dev :=
  if follower d.span && decide (d.span.d + 2 ≤ d.span.missedAll) then
    modSpan (fun s =>
      let s1 := spanLost s
      { s1 with haltDue := s1.haltDue || (s1.halting && atBoundary d) }) d
  else d

/-- Launches that a forward step skips complete with LATE (R106). -/
def skipLaunches (gc : Nat) (d : Dev) : Dev :=
  (List.range 32).foldl (fun a t =>
    match (tenOf a t).program with
    | some p =>
      if !p.started && decide (p.launch < gc) then
        modTen t (fun x => { x with st := .loaded }) (endProgram t sLate 0 gc false (closeSegs t a))
      else a
    | none => a) d

/-- The own side of the master's LOCKED test: each of its span links is trained (R103). -/
def ownTrained (d : Dev) : Bool := (spanLinks d.span).all fun l => (lnkOf d l).state == .ready

/-- SPAN_FORMED. Before the boundary, at the count master: the command says that every other member has reported 4
consecutive wheels within 1 t and its links trained, which the master's next marker then marks. At the boundary after the wheel that marker
fixed: GC steps to the span count on every member (R103, R105, R106; log entry 91). -/
def opSpanFormed (d : Dev) : Dev :=
  let s := d.span
  if formDue d && d.whl.running && !d.whl.slip then
    let n := max (d.whl.n + 1) (s.stepTo / d.whl.w)
    let d1 := turn false n (d.whl.guardNext.getD d.whl.g) d
    let d2 := modSpan (fun s => { s with
      state := .locked, joinCmd := none, formWheels := 0, window := n / 1000000, lockAt := none, lockMark := false }) d1
    let d3 := match s.joinCmd with | some id => finish id sOk (n * d.whl.w) s.ownRank d2 | none => d2
    raiseDev 1 (skipLaunches (n * d.whl.w) d3)
  else if s.state == .forming && !follower s && ownTrained d then modSpan (fun s => { s with lockMark := true }) d
  else d

/-- FORMING_STRETCH: one guard is stretched by 0 to W + G - 1 ticks to the master's next wheel start, or the pulse's (R101, R104). -/
def opFormingStretch (d : Dev) : Dev :=
  let s := d.span
  match s.state == .forming && follower s && !s.stretched && d.whl.guardNext.isNone, (match sinkStart d with | some x => some (16 * x) | none => s.predict16) with
  | true, some p =>
    let c := correction d.whl p
    let x := (c % ((d.whl.w + d.whl.g : Nat) : Int)).toNat
    modSpan (fun s => { s with stretched := true, predict16 := if c < 0 then extend d.whl s else s.predict16 })
      (modWhl (fun w => { w with guardNext := some (w.g + x), stretches := satInc w.stretches }) d)
  | _, _ => d

/-- FORMING_TIMEOUT, at a wheel boundary (R103; 15 R538). -/
def opFormingTimeout (d : Dev) : Dev :=
  if d.span.state == .forming && decide (4096 ≤ d.span.formWheels) && atBoundary d then
    let d1 := match d.span.joinCmd with | some id => finish id sTimeout 0 0 d | none => d
    raiseDev 1 (spanOfOne d1)
  else d

/-- SYNC_IN_EDGE at a fabric tick (R101). -/
def opSyncInEdge (t : Nat) (d : Dev) : Dev :=
  if d.whl.syncMode = .sink then modWhl (fun w => { w with syncSeen := true, syncStart := some (t + w.syncDelay) }) d else d

/-- SYNC_LOST (R102). -/
def opSyncLost (d : Dev) : Dev :=
  if d.whl.syncMode = .sink ∧ 2 ≤ d.whl.syncMissed then modWhl (fun w => { w with syncLost := true, syncStart := none }) d else d

/-- SYNC_DISAGREE (R102). -/
def opSyncDisagree (d : Dev) : Dev :=
  if d.whl.syncMode = .sink ∧ 2 ≤ d.whl.syncOff then
    modSpan spanLost (modWhl (fun w => { w with syncDisagree := true }) d)
  else d

/-- SPAN_LEAVE_EFFECT (15 R539): every SPAN_LEAVE whose boundary has come. -/
def opSpanLeaveEffect (d : Dev) : Dev :=
  match openCmds d fun c => opcodeOf c == 0x501 && c.stage == .armed && countDue d.whl c.count with
  | [] => d
  | c :: cs => raiseDev 1 ((c :: cs).foldl (fun a c => finish c.id sOk c.count 0 a) (spanOfOne d))

end Sys2Proof.Machine
end

