-- ==== Sys2Proof/Machine/Links.lean ====
section
/-!
DEFINITION. Indigo links: frames, forward error correction, training, the release store and replay (05).
-/
namespace Sys2Proof.Machine

/-! ## GF(2^10) (R162) -/

def gfGo (a : Nat) : Nat → Nat → Nat → Nat
  | 0, _, acc => acc
  | n + 1, b, acc =>
    let acc2 := Nat.xor (acc * 2) ((b >>> n) % 2 * a)
    gfGo a n b (Nat.xor acc2 (acc2 / 1024 % 2 * 0x409))

def gfMul (a b : Nat) : Nat := gfGo a 10 b 0

def gfPow (a : Nat) : Nat → Nat
  | 0 => 1
  | n + 1 => gfMul a (gfPow a n)

/-- Powers of alpha, alpha being x. -/
def gfAlpha (n : Nat) : Nat := (List.range (n % 1023)).foldl (fun a _ => gfMul a 2) 1

/-- Inverse by a^1022. -/
def gfInv (a : Nat) : Nat :=
  let sq (x : Nat) : Nat := gfMul x x
  let r := (List.range 9).foldl (fun (p : Nat × Nat) _ => (sq p.1, gfMul p.2 (sq p.1))) (a, 1)
  r.2

/-! ## Polynomials, coefficient of x^0 first -/

def polyEval (p : List Nat) (x : Nat) : Nat := p.foldr (fun c a => Nat.xor c (gfMul a x)) 0

def polyAdd : List Nat → List Nat → List Nat
  | [], q => q
  | p, [] => p
  | a :: p, b :: q => Nat.xor a b :: polyAdd p q

def polyScale (c : Nat) (p : List Nat) : List Nat := p.map (gfMul c)

def polyMul : List Nat → List Nat → List Nat
  | [], _ => []
  | a :: p, q => polyAdd (polyScale a q) (0 :: polyMul p q)

/-- Generator: the product of (x - alpha^i) for i from 0 to 29. -/
def rsGen : List Nat := (List.range 30).foldl (fun g i => polyMul g [gfAlpha i, 1]) [1]

/-- Remainder of a message times x^30, message symbols first to last from the highest degree; the register holds
the coefficients of x^29 down to x^0. -/
def rsStep (gen : List Nat) (reg : List Nat) (m : Nat) : List Nat :=
  match reg with
  | [] => []
  | r :: rs =>
    let f := Nat.xor m r
    List.zipWith (fun a g => Nat.xor a (gfMul f g)) (rs ++ [0]) gen

/-- Parity symbols of a message, highest degree first. -/
def rsParity (msg : List Nat) : List Nat :=
  let gen := (rsGen.take 30).reverse
  msg.foldl (rsStep gen) (List.replicate 30 0)

def syndromes (cw : List Nat) : List Nat := (List.range 30).map fun i => polyEval cw.reverse (gfAlpha i)

/-- State of the Berlekamp-Massey iteration. -/
structure BmState where
  c : List Nat
  b : List Nat
  l : Nat
  m : Nat
  last : Nat

def bmStep (s : List Nat) (st : BmState) (n : Nat) : BmState :=
  let dis := (List.range (st.l + 1)).foldl (fun a i => Nat.xor a (gfMul (st.c.getD i 0) (s.getD (n - i) 0))) 0
  if dis = 0 then { st with m := st.m + 1 }
  else
    let c2 := polyAdd st.c (List.replicate st.m 0 ++ polyScale (gfMul dis (gfInv st.last)) st.b)
    if 2 * st.l ≤ n then { c := c2, b := st.c, l := n + 1 - st.l, m := 1, last := dis }
    else { st with c := c2, m := st.m + 1 }

/-- Error locator of a syndrome list, and its number of errors. -/
def errorLocator (s : List Nat) : List Nat × Nat :=
  let r := (List.range 30).foldl (bmStep s) { c := [1], b := [1], l := 0, m := 1, last := 1 }
  (r.c, r.l)

/-- Decodes a codeword: the corrected symbols and the number corrected, none if more than 15 symbols are wrong. -/
def rsDecode (cw : List Nat) : Option (List Nat × Nat) :=
  let s := syndromes cw
  if s.all (· == 0) then some (cw, 0)
  else
    let e := errorLocator s
    let n := cw.length
    let pos := (List.range n).filter fun p => polyEval e.1 (gfAlpha (1023 - p)) == 0
    if e.2 = 0 ∨ 15 < e.2 ∨ pos.length ≠ e.2 then none
    else
      let omega := (polyMul s e.1).take 30
      let deriv := (List.range e.1.length).filterMap fun i => if i = 0 then none else some (if i % 2 = 1 then e.1.getD i 0 else 0)
      let fix := pos.map fun p =>
        let xi := gfAlpha (1023 - p)
        (n - 1 - p, gfMul (gfAlpha p) (gfMul (polyEval omega xi) (gfInv (polyEval deriv xi))))
      let out := (cw.zip (List.range n)).map fun x => match fix.find? (fun f => f.1 == x.2) with | some f => Nat.xor x.1 f.2 | none => x.1
      if (syndromes out).all (· == 0) then some (out, e.2) else none

/-! ## Frames (R161 to R167) -/

/-- The frame control field (Table LNK-3). -/
structure Fcf where
  kind : Nat := 1
  valid : Nat := 0
  slipped : Bool := false
  last : Bool := false
  wheel : Nat := 0
  index : Nat := 0
  replayOf : Nat := 0
  naks : List Nat := []
  nextGuard : Nat := 0
  absent : Option (Nat × Nat) := none

/-- A frame control field as bits. FRAME_INDEX and NEXT_GUARD hold their low 14 and 7 bits where a stretched guard passes
them (log entry 104). -/
def fcfNum (f : Fcf) : Nat :=
  let nak (i : Nat) : Nat := match f.naks[i]? with | some k => (pow2 15 + k % 16384) * pow2 (80 + 16 * i) | none => 0
  0x5A3C + f.kind * pow2 16 + f.valid * pow2 20 + (if f.slipped then pow2 28 else 0) + (if f.last then pow2 29 else 0) +
    f.wheel % 65536 * pow2 32 + f.index % 16384 * pow2 48 + f.replayOf % 16384 * pow2 64 + nak 0 + nak 1 + nak 2 + nak 3 +
    f.nextGuard % 128 * pow2 144 + (match f.absent with | some (k, m) => (pow2 23 + k * 256 + m) * pow2 152 | none => 0)

/-- Reads a frame control field; none where a mark, a kind or a reserved bit is wrong (R165). -/
def fcfOf (n : Nat) : Option Fcf :=
  let kind := bits n 19 16
  if bits n 15 0 ≠ 0x5A3C ∨ 3 < kind ∨ bits n 31 30 ≠ 0 ∨ bits n 63 62 ≠ 0 ∨ bits n 79 78 ≠ 0 ∨
      ((List.range 4).any fun i => bit n (94 + 16 * i)) ∨ bit n 151 ∨ bit n 174 ∨ bits n 239 176 ≠ 0 then none
  else some
    { kind := kind, valid := bits n 27 20, slipped := bit n 28, last := bit n 29, wheel := bits n 47 32, index := bits n 61 48
      replayOf := bits n 77 64
      naks := (List.range 4).filterMap fun i => if bit n (95 + 16 * i) then some (bits n (93 + 16 * i) (80 + 16 * i)) else none
      nextGuard := bits n 150 144
      absent := if bit n 175 then some (bits n 173 160, bits n 159 152) else none }

/-- n bits of PRBS31 from a state, the first in bit 0; each step feeds back bits 30 and 27, and the bit fed back is the one
put out (log entry 103). -/
def prbsGo : Nat → Nat → Nat → Nat → Nat
  | 0, _, _, acc => acc
  | n + 1, s, k, acc =>
    let b := Nat.xor (s >>> 30) (s >>> 27) % 2
    prbsGo n ((s * 2 + b) % pow2 31) (k + 1) (acc + b <<< k)

def prbs (wheel index n : Nat) : Nat := prbsGo n (Nat.lor 0x40000000 (Nat.lor (wheel % 65536 * pow2 14) (index % 16384))) 0 0

def flitBits (f : Flit) : Nat := flitData f + f.ecc.toNat * pow2 530
def flitOfBits (n : Nat) : Flit := flitOfData n (BitVec.ofNat 14 (n >>> 530))

/-- Symbols of a frame of width L: slots, control field, pad, parity (R163). The sequence runs on from the last slot bit to
the first pad bit, past the control field (log entry 103). -/
def frameSymbols (L : Nat) (f : Fcf) (slots : Tab Flit) : List (BitVec 10) :=
  let total := 10 * (68 * L - 30)
  let slotBits := slots.foldl (fun a s => a + flitBits s.2 * pow2 (544 * s.1)) 0
  let pad := total - 544 * L - 240
  let seq := prbs f.wheel f.index (544 * L + pad)
  let msg := Nat.xor slotBits (seq % pow2 (544 * L)) + fcfNum f * pow2 (544 * L) + (seq >>> (544 * L)) * pow2 (544 * L + 240)
  let syms := (List.range (68 * L - 30)).map fun i => (msg >>> (10 * i)) % 1024
  (syms ++ rsParity syms).map (BitVec.ofNat 10)

/-- A codeword on the lanes of a link: symbol i on logical lane i mod L, logical lanes on physical ones by a map (R162,
R172). -/
def toLanes (L : Nat) (map : BitVec 24) (syms : List (BitVec 10)) : List (Nat × List (BitVec 10)) :=
  (List.range L).map fun j =>
    (bits map.toNat (3 * j + 2) (3 * j), (List.range (syms.length / L)).map fun i => syms.getD (L * i + j) 0)

/-- The codeword of the symbols on 8 physical receive lanes, deskewed, by the lane order found in training. -/
def fromLanes (L : Nat) (order : BitVec 24) (lanes : List (List (BitVec 10))) : List (BitVec 10) :=
  (List.range (68 * L)).map fun i =>
    (lanes.getD (bits order.toNat (3 * (i % L) + 2) (3 * (i % L))) []).getD (i / L) 0

/-- The message of received symbols as a number, with the symbols corrected; none if it cannot be decoded. -/
def frameMessage (L : Nat) (syms : List (BitVec 10)) : Option (Nat × Nat) :=
  (rsDecode (syms.map (·.toNat))).map fun r =>
    ((r.1.take (68 * L - 30)).foldr (fun s a => s + 1024 * a) 0, r.2)

/-- Message bits of symbols as they were received. -/
def rawMessage (L : Nat) (syms : List (BitVec 10)) : Nat := (syms.take (68 * L - 30)).foldr (fun s a => s.toNat + 1024 * a) 0

/-- Slot j of a message, unscrambled for a wheel and frame index. -/
def slotOfMsg (L msg wheel index j : Nat) : Flit :=
  flitOfBits (Nat.xor (msg >>> (544 * j)) (prbs wheel index (544 * L) >>> (544 * j)) % pow2 544)

/-! ## Transmitting (R161, R168, R181 to R189) -/

/-- Frames of a wheel. -/
def framesOf (w : Wheel) : Nat := w.w / 8

/-- Reserve slot whose first tick in the wheel is r. -/
def reserveAt (l : Link) (r : Nat) : Option Reserve := l.reserve.find? fun x => x.tick == r

/-- A tick in which no tenant flit may reach the transmitter (11 R412; 05 R189). -/
def laneDrops (w : Wheel) (l : Link) (tk : Nat) : Bool :=
  decide (l.width ≤ tk % 8) || tk == 63 * (w.w / 64) || (reserveAt l (tk / 8 * 8)).isSome

def countLink (l : Nat) (f : LinkCtr → LinkCtr) (d : Dev) : Dev := modLnk l (fun k => { k with ctr := f k.ctr }) d

/-- A link transmitter checks and corrects a flit; it seals again one that it marks as poisoned (04 R133). -/
def checkTx (l : Nat) (f : Flit) (d : Dev) : Flit × Dev :=
  let e := eccCheck f
  (if e.2 = .bad then sealFlit e.1 else e.1, countEcc e.2 (portCtr (islOfLink l) 20) d)

/-- LANE_DROP: a tenant flit at the transmitter of a link in such a tick. -/
def opLaneDrop (l t : Nat) (d : Dev) : Dev :=
  if t < d.whl.start ∨ laneDrops d.whl (lnkOf d l) (tickAt d.whl t) = false then d
  else
    let r := takeFlight (.linkTx l) t d
    match r.1 with
    | none => d
    | some x =>
      let c := checkTx l x.flit r.2
      if c.1.ten = 63 then d else countLink l (fun c => { c with laneDrop := satAdd c.laneDrop 1 }) c.2

/-- A link end raises a slip request (R187). -/
def raiseSlip (l : Nat) (d : Dev) : Dev :=
  if d.span.joined && (spanLinks d.span).contains l then
    countLink l (fun c => { c with slipRequests := satInc c.slipRequests }) (modSpan (fun s => { s with slipReq := true }) d)
  else d

/-- Offered width: the widest of 8, 6, 4 within the lanes that passed and the limit (R172). -/
def offer (lanes limit : Nat) : Nat := if 8 ≤ min lanes limit then 8 else if 6 ≤ min lanes limit then 6 else 4

def popcount (n : Nat) : Nat := (List.range 8).foldl (fun a i => if bit n i then a + 1 else a) 0

/-- A link end in CONFIRM has met its own condition: 1,048,576 frames, and at most 1 corrected symbol per 10^6 (R170). -/
def confirmed (k : Link) : Bool :=
  decide (1048576 ≤ k.confirmFrames) && decide (k.confirmSyms * 1000000 ≤ k.confirmFrames * (68 * k.width))

/-- The training record (Table LNK-5) sent at a fabric tick. A READY link's ABORT frames carry CONFIRM_DONE (log entry
107). -/
def trainRecord (d : Dev) (l t : Nat) (abort : Bool) : Line :=
  let k := lnkOf d l
  let ts := match k.state with | .align => 1 | .measure => 2 | .confirm => if confirmed k then 4 else 3 | _ => 4
  let e := k.echo.getD (0, 0)
  BitVec.ofNat 512 (ts + l * pow2 8 + k.lanesOk.toNat * pow2 16 + k.width * pow2 24 +
    d.fuse.serial.toNat * pow2 32 + k.laneMap.toNat * pow2 96 + ((if abort then 1 else 0) + (if k.echo.isSome then 2 else 0)) * pow2 120 +
    (16 * t) % pow2 32 * pow2 128 + e.1 % pow2 32 * pow2 160 + (if k.echo.isSome then (16 * t - e.2) % pow2 32 * pow2 192 else 0) +
    (if k.state = .confirm ∨ k.state = .ready then k.fFine % 65536 * pow2 224 else 0))

/-- NAKs of the next frame, each sent in four frames (R183), and the ABSENT notice (R191). -/
def takeNaks (k : Link) : List Nat × Link :=
  let now := k.nakTx.take 4
  let left := (now.filterMap fun x => if x.2 ≤ 1 then none else some (x.1, x.2 - 1)) ++ k.nakTx.drop 4
  (now.map (·.1), { k with nakTx := left })

/-- A frame leaves the replay store once its index lies 128 behind the frame sent now, whatever that one carries (R181). -/
def evictReplay (k : Nat) (x : Link) : Link :=
  let keep (f : Frame) : Bool := decide (k < f.index + 128)
  { x with gone := (x.gone ++ (x.replay.filter fun f => !keep f).map (·.index)).filter (· != k), replay := x.replay.filter keep }

/-- Frame k of the wheel that turns, as its fields. -/
def fcfBase (d : Dev) (k : Nat) : Fcf :=
  { slipped := d.whl.slip, last := k + 1 == framesOf d.whl, wheel := d.whl.n, index := k
    nextGuard := if k + 1 = framesOf d.whl then d.whl.guardNext.getD d.whl.g else 0 }

/-- Sends a frame with its reverse notices. -/
def sendFrame (l : Nat) (f : Fcf) (slots : Tab Flit) (d : Dev) : Dev :=
  let k := lnkOf d l
  let n := takeNaks k
  let f1 := { f with naks := n.1, absent := k.absentTx.head? }
  let d1 := modLnk l (fun _ => evictReplay f.index { n.2 with absentTx := k.absentTx.drop 1 }) d
  emit (.frame l (toLanes k.width k.laneMap (frameSymbols k.width f1 slots))) d1

/-- Takes the flits that reach a transmitter in the ticks of a frame. -/
def takeSlots (l k : Nat) (d : Dev) : Tab Flit × Dev :=
  let t0 := d.whl.start + 8 * k
  (List.range 8).foldl (fun acc j =>
    let r := takeFlight (.linkTx l) (t0 + j) acc.2
    match r.1 with
    | none => acc
    | some x =>
      let c := checkTx l x.flit r.2
      if c.1.ten ≠ 63 ∧ laneDrops d.whl (lnkOf d l) (8 * k + j) = true then
        (acc.1, countLink l (fun c => { c with laneDrop := satInc c.laneDrop }) c.2)
      else (acc.1 ++ [(j, c.1)], c.2)) ([], d)

/-- Tenant traffic may travel on a link (R168). -/
def linkOpen (d : Dev) (l : Nat) : Bool :=
  (lnkOf d l).state == .ready && (lnkOf d l).aborting == 0 && d.boot.state != .halted && d.span.joined && d.span.state == .locked && (spanLinks d.span).contains l

/-- The replay that a reserve slot carries, if a NAK was given it. -/
def replayFor (d : Dev) (l k : Nat) : Option Frame :=
  match (lnkOf d l).nakRx.find? fun x => x.2 == 8 * k with
  | some x => (lnkOf d l).replay.find? fun f => f.index == x.1
  | none => none

/-- Sends the frame NAKed in the reserve slot k (R185, R187). -/
def sendReplay (l k : Nat) (f : Frame) (d : Dev) : Dev :=
  let valid := f.slots.foldl (fun a s => a + pow2 s.1) 0
  let d1 := sendFrame l { fcfBase d k with kind := 2, valid := valid, replayOf := f.index } f.slots d
  let ten := ((reserveAt (lnkOf d l) (8 * k)).map (·.ten)).getD 255
  let lastOne := !(lnkOf d l).reserve.any fun r => r.ten == ten && decide (8 * k < r.tick)
  let d2 := modLnk l (fun x => { x with
    nakRx := x.nakRx.filter (fun y => y.2 != 8 * k), carried := x.carried ++ [(k, f.index)]
    ctr := { x.ctr with replaysSent := satInc x.ctr.replaysSent } }) d1
  if lastOne then raiseSlip l d2 else d2

/-- An ordinary frame: flits, or IDLE. A tenant flit that reaches the transmitter while the link may carry none is dropped
(log entry 106). -/
def sendData (l k : Nat) (d : Dev) : Dev :=
  let open_ := linkOpen d l && !d.whl.slip && decide (k < framesOf d.whl)
  let r := takeSlots l k d
  let marker := r.1.filter fun s => s.2.ten == 63
  let slots := if open_ then r.1 else if d.boot.state = .halted then [] else marker
  let valid := slots.foldl (fun a s => a + pow2 s.1) 0
  let tenant := slots.filter fun s => s.2.ten != 63
  let d1 := if tenant.isEmpty then r.2
    else modLnk l (fun x => { x with replay := x.replay ++ [{ index := k, gc := d.whl.n * d.whl.w + 8 * k, slots := tenant }] }) r.2
  sendFrame l { fcfBase d k with kind := if open_ && !slots.isEmpty then 0 else 1, valid := valid } slots d1

/-- TRAIN frames while a link trains, or with ABORT after a span halt (R171, R194). The record's flit carries the device tag
and FLIT_TAG 0 (log entry 107). -/
def sendTrain (l k : Nat) (abort : Bool) (d : Dev) : Dev :=
  let r := takeSlots l k d
  let f : Flit := sealFlit { data := trainRecord d l (d.whl.start + 8 * k) abort, ten := 63, tag := 0, late := false, poison := false, ecc := 0 }
  sendFrame l { fcfBase d k with kind := 3, valid := 1 } [(0, f)] r.2

/-- Takes a link to LOST (R193). -/
def loseLink (l : Nat) (d : Dev) : Dev :=
  raiseDev 2 (modLnk l (fun k => { k with
    state := .lost, entered := d.whl.now, aborting := 0, trainSeen := false, uncorrRun := 0, nakTx := [], absentTx := [], echo := none
    ctr := { k.ctr with losses := satInc k.ctr.losses } }) d)

/-- The filler that ends a guard of g ticks, 85 bits a lane for each tick past its last whole frame (R167). -/
def sendFiller (l g : Nat) (d : Dev) : Dev :=
  let x := lnkOf d l
  emit (.filler l ((List.range x.width).map fun j => bits x.laneMap.toNat (3 * j + 2) (3 * j)) (g % 8 * 85)) d

/-- A link sends frames in these states (Table LNK-4). -/
def sendsFrames (s : LinkState) : Bool := s == .align || s == .measure || s == .confirm || s == .ready

/-- LINK_FRAME_TRANSMIT: frame k of the wheel that turns, its guard included; the one after the guard's last is the filler. -/
def opLinkFrameTransmit (l k : Nat) (d : Dev) : Dev :=
  let x := lnkOf d l
  let g := d.whl.guardNext.getD d.whl.g
  if !d.whl.running || decide (d.whl.w + g < 8 * k) then d
  else if d.whl.w + g < 8 * k + 8 then
    (if g % 8 ≠ 0 ∧ sendsFrames x.state = true then sendFiller l g d else d)
  else
    match x.state with
    | .align | .measure | .confirm => sendTrain l k false d
    | .ready =>
      if 0 < x.aborting then
        let d1 := sendTrain l k true d
        if x.aborting = 1 then loseLink l d1 else modLnk l (fun y => { y with aborting := x.aborting - 1 }) d1
      else
        (match replayFor d l k with
         | some f => if linkOpen d l && !d.whl.slip then sendReplay l k f d else sendData l k d
         | none => sendData l k d)
    | _ => d

/-- REPLAY_SEND: reserve slot k carries a NAKed frame. -/
def opReplaySend (l k : Nat) (d : Dev) : Dev :=
  match replayFor d l k with
  | some f => if linkOpen d l && !d.whl.slip then sendReplay l k f d else d
  | none => d

/-! ## Receiving (R165, R166, R175 to R177, R183 to R192) -/

/-- Owner of a phase at a link's island switch. -/
def linkOwner (d : Dev) (l p : Nat) : Nat := (phaseEnt d (islOfLink l) p).owner

/-- Λ_p of a link, if written and readable; reads count table errors (21 R717, R718). -/
def lambdaOf (l p : Nat) (d : Dev) : Option Nat × Dev :=
  match tabGet none ((lnkOf d l).lambda.map fun e => (e.1, some e.2)) p with
  | none => (none, d)
  | some v =>
    let r := tableRead (lambdaAddr l p) (64 + l) d
    if r.1 then (some v, r.2) else (none, faultOwner (linkOwner d l p) fcEcc r.2)

/-- Phase of a count. -/
def phaseOfGc (w : Wheel) (gc : Nat) : Nat := phaseOf w (gc % w.w)

/-- A tenancy is in its program. -/
def ownerRunning (d : Dev) (o : Nat) : Bool := decide (o < 32) && (tenOf d o).st == .running

/-- Whether the present count has passed a release count. -/
def released (w : Wheel) (x : Nat) : Bool := decide (x < gcOf w)

/-- Writes a tenant flit of transmit count s, or names it absent (R166, R176, R177, R191). The entries of an uncorrectable
frame are marked whether or not a flit finds a sink there (R186). -/
def storeFlit (l s : Nat) (f : Flit) (marked : Bool) (d : Dev) : Dev :=
  let r := lambdaOf l (phaseOfGc d.whl s) d
  let w := d.whl
  let put (g : Flit) (x : Dev) : Dev :=
    modLnk l (fun k => { k with release := tabSet (s % 1024) { gc := s, flit := some g, marked := marked } k.release }) x
  let absent (x : Dev) : Dev :=
    if marked then put f x
    else
      let idx := s % w.w / 8
      let m := pow2 (s % 8)
      modLnk l (fun k =>
        let a := if k.absentTx.any (fun e => e.1 == idx) then k.absentTx.map fun e => if e.1 = idx then (idx, Nat.lor e.2 m) else e
          else k.absentTx ++ [(idx, m)]
        { k with absentTx := a, ctr := { k.ctr with absentRx := satInc k.ctr.absentRx } }) x
  match r.1 with
  | none => absent r.2
  | some lam =>
    let o := linkOwner d l (phaseOfGc w (s + lam + 2))
    if !ownerRunning d o then absent r.2
    else if released w (s + lam) then
      (if marked then r.2 else countLink l (fun c => { c with unrepaired := satInc c.unrepaired }) r.2)
    else
      put (sealFlit { f with ten := BitVec.ofNat 6 o }) r.2

/-- Handles a valid slot of a correctable frame. One that reads the device tag under uncorrectable ECC is discarded: it can
be no tenant's, and no marker is read from it (log entry 105). -/
def receiveSlot (l s : Nat) (f0 : Flit) (d : Dev) : Dev :=
  let e := eccCheck f0
  let d1 := if e.2 = .corrected then countLink l (fun c => { c with flitEccCorr := satInc c.flitEccCorr }) d else d
  if e.1.ten = 63 then (if e.2 = .bad then d1 else modLnk l (fun k => { k with markers := k.markers ++ [e.1.data] }) d1)
  else storeFlit l s e.1 false d1

/-- A flit enters the receive queue of 32, or is discarded and counted (02 R65). -/
def rxPush (l : Nat) (e : RxEntry) (d : Dev) : Dev :=
  if (lnkOf d l).rxQ.length < 32 then modLnk l (fun k => { k with rxQ := k.rxQ ++ [e] }) d
  else countLink l (fun c => { c with rxDiscard := satInc c.rxDiscard }) d

/-- The fabric takes an entry out of the queue. -/
def rxTake (l : Nat) (e : RxEntry) (d : Dev) : Dev :=
  if e.bad then storeFlit l e.gc e.flit true d else receiveSlot l e.gc e.flit d

/-- The entries readable at fabric tick t, 6 t after they were written, are taken in order (02 R60, R63; log
entry 108). -/
def drainLink (l t : Nat) (d : Dev) : Dev :=
  let ready (e : RxEntry) : Bool := decide (e.at_ + 6 ≤ t)
  let q := (lnkOf d l).rxQ
  if q.any ready then
    (q.takeWhile ready).foldl (fun a e => rxTake l e a) (modLnk l (fun k => { k with rxQ := q.dropWhile ready }) d)
  else d

/-- The reserve slot R184 gives a frame of index f, if one is unused. -/
def reserveFor (d : Dev) (l f : Nat) : Option Reserve :=
  let k := lnkOf d l
  let p := phaseOf d.whl (8 * f)
  let o := linkOwner d l p
  let arep := match (tenOf d o).image with
    | some im => (match im.bound.find? (fun b => b.link == l) with | some b => b.arep.getD p 0 | none => 0)
    | none => 0
  let ok := k.reserve.filter fun r => !r.used && decide (8 * f + 88 + 2 * k.f ≤ r.tick) && decide (r.tick ≤ 8 * f + arep) &&
    linkOwner d l (phaseOf d.whl r.tick) == o && decide (d.whl.start + r.tick ≥ d.whl.now)
  ok.foldl (fun b r => match b with | some x => if r.tick < x.tick then some r else b | none => some r) none

/-- A NAK for a frame this end sent; copies of one already taken are ignored (R185, R187). -/
def receiveNak (l : Nat) (d : Dev) (n : Nat) : Dev :=
  let k := lnkOf d l
  let f := match k.carried.find? (fun c => c.1 == n) with | some c => c.2 | none => n
  if k.replayed.contains n then d
  else if !(k.replay.any fun x => x.index == f) then
    (if k.gone.contains f then raiseSlip l (modLnk l (fun k => { k with replayed := k.replayed ++ [n] }) d) else d)
  else
    let d1 := modLnk l (fun k => { k with replayed := k.replayed ++ [n] }) d
    match reserveFor d l f with
    | some r =>
      modLnk l (fun k => { k with
        nakRx := k.nakRx ++ [(f, r.tick)]
        reserve := k.reserve.map fun x => if x.tick = r.tick then { x with used := true } else x }) d1
    | none => raiseSlip l d1

/-- An ABSENT notice faults the owner of the transmit phase (R192). -/
def receiveAbsent (l : Nat) (d : Dev) (a : Option (Nat × Nat)) : Dev :=
  match a with
  | some (idx, _) =>
    let o := linkOwner d l (phaseOf d.whl (8 * idx))
    if o < 32 then raiseFault o fcSinkAbsent d else d
  | none => d

/-- An uncorrectable frame: counts, NAK, poisoned release entries (R183, R186); in ALIGN the run of frames starts again,
and in CONFIRM the link has to leave (R170). -/
def frameBad (l wheel index t : Nat) (sched : Bool) (msg : Nat) (d : Dev) : Dev :=
  let k := lnkOf d l
  let d1 := modLnk l (fun k => { k with
    uncorrRun := k.uncorrRun + 1, nakTx := k.nakTx ++ [(index, 4)], alignRun := 0
    confirmBad := k.confirmBad || k.state == .confirm
    ctr := { k.ctr with framesUncorr := satInc k.ctr.framesUncorr } }) d
  if k.state = .ready ∧ sched = true then
    (List.range k.width).foldl (fun a j =>
      rxPush l { at_ := t, gc := wheel * d.whl.w + 8 * index + j, flit := slotOfMsg k.width msg wheel index j, bad := true } a) d1
  else d1

/-- The tenancies whose replay counter a replay frame moves (16 R567). -/
def countReplay (l p : Nat) (d : Dev) : Dev :=
  let o := linkOwner d l p
  match (tenOf d o).image with
  | some im => if o < 32 ∧ (im.bound.any fun b => b.link == l) = true then modTen o (fun x => { x with replays := x.replays + 1 }) d else d
  | none => d

/-- A correct replay frame (R186). -/
def receiveReplay (l wheel t : Nat) (f : Fcf) (msg L : Nat) (d : Dev) : Dev :=
  let base := wheel * d.whl.w + 8 * f.replayOf
  let d1 := countReplay l (phaseOfGc d.whl base) (countLink l (fun c => { c with replaysReceived := satInc c.replaysReceived }) d)
  (List.range L).foldl (fun a j =>
    let s := base + j
    if bit f.valid j then
      rxPush l { at_ := t, gc := s, flit := slotOfMsg L msg f.wheel f.index j, bad := false } a
    else modLnk l (fun k =>
      match tabGet none (k.release.map fun e => (e.1, some e.2)) (s % 1024) with
      | some e => if e.gc = s then { k with release := tabDel (s % 1024) k.release } else k
      | none => k) a) d1

/-- Lanes a frame came on: the agreed width, and in ALIGN, before one is agreed, as many as carry symbols (R170, R172). -/
def rxWidth (k : Link) (lanes : List (List (BitVec 10))) : Nat :=
  if k.state = .align then (lanes.filter fun x => !x.isEmpty).length else k.width

/-- A training record while the link trains (R170 to R173): ALIGN counts it, MEASURE takes the round trip of the probe it
echoes, and the peer's flight time counts as soon as it is known. -/
def receiveTrain (l at16 : Nat) (p : Line) (d : Dev) : Dev :=
  let rtt := (at16 + 2 * pow2 32 - pkField p 20 4 - pkField p 24 4) % pow2 32
  modLnk l (fun k =>
    let fine := if k.state = .confirm then max k.fFine (pkField p 28 2) else k.fFine
    { k with
      peerRec := some p, echo := some (pkField p 16 4, at16), fFine := fine
      f := if k.state = .confirm then ceilDiv (fine + 4) 16 else k.f
      long := if k.state = .confirm then decide (128 < ceilDiv (fine + 4) 16) else k.long
      alignRun := if k.state = .align then k.alignRun + 1 else k.alignRun
      rtts := if k.state = .measure && bit (pkField p 15 1) 1 then k.rtts ++ [rtt] else k.rtts }) d

/-- A frame that decodes, with its FCF: it counts, and by its kind it trains the link, brings flits or repairs them. -/
def acceptFrame (l wheel index at16 : Nat) (sched : Bool) (msg L n : Nat) (f : Fcf) (d : Dev) : Dev :=
  let t := at16 / 16
  let k := lnkOf d l
  let d1 := modLnk l (fun k => { k with
    uncorrRun := 0
    confirmFrames := if k.state = .confirm then k.confirmFrames + 1 else k.confirmFrames
    confirmSyms := if k.state = .confirm then k.confirmSyms + n else k.confirmSyms
    ctr := { k.ctr with
      framesCorr := if n = 0 then k.ctr.framesCorr else satInc k.ctr.framesCorr
      symbolsCorr := satAdd k.ctr.symbolsCorr n } }) d
  if f.kind = 3 then
    (if k.state = .ready then modLnk l (fun k => { k with trainSeen := true }) d1
     else receiveTrain l at16 (slotOfMsg L msg f.wheel f.index 0).data d1)
  else if k.state = .ready then
    let d2 := receiveAbsent l (f.naks.foldl (receiveNak l) d1) f.absent
    if f.kind = 2 then (if sched then receiveReplay l wheel t f msg L d2 else d2)
    else
      (List.range L).foldl (fun a j =>
        if bit f.valid j then
          rxPush l { at_ := t, gc := wheel * d.whl.w + 8 * index + j, flit := slotOfMsg L msg f.wheel f.index j, bad := false } a
        else a) d2
  else d1

/-- LINK_FRAME_RECEIVE: the symbols of one frame on the physical receive lanes, with the counted wheel and frame index that
the receiver's own frame count gives it, whether that frame is one of a counted wheel, and the time at which it leaves the
receive pipeline, in 1/16 t. -/
def opLinkFrameReceive (l wheel index : Nat) (sched : Bool) (at16 : Nat) (lanes : List (List (BitVec 10))) (d0 : Dev) : Dev :=
  match (lnkOf d0 l).state with
  | .off | .detect | .equalise | .lost => d0
  | _ =>
    let t := at16 / 16
    let d := drainLink l t d0
    let k := lnkOf d l
    let L := rxWidth k lanes
    let syms := fromLanes L k.rxOrder lanes
    let raw := rawMessage L syms
    match (if L = 4 ∨ L = 6 ∨ L = 8 then frameMessage L syms else none) with
    | none => frameBad l wheel index t sched raw d
    | some (msg, n) =>
      match fcfOf (bits msg (544 * L + 239) (544 * L)) with
      | none => frameBad l wheel index t sched raw d
      | some f =>
        acceptFrame l wheel index at16 sched msg L n f d

/-- WHEEL_MARKER_RECEIVE: the marker has crossed into the fabric. -/
def opMarkerReceive (l at16 : Nat) (d : Dev) : Dev := opWheelMarkerReceive l at16 (drainLink l (at16 / 16 + 6) d)

/-- RELEASE_STORE_RELEASE: a flit is in the store 7 t after it was written into the receive queue (Table LNK-6); the entry whose release count is the count of fabric tick t (R176, R177, R186). -/
def opReleaseStoreRelease (l t : Nat) (d : Dev) : Dev :=
  if t < d.whl.now then d
  else
    let d0 := drainLink l (t - 1) (advanceTo t d)
    if !counted d0.whl then d0
    else
      let g := gcOf d0.whl
      let k := lnkOf d0 l
      let due (e : RelEntry) : Bool :=
        match tabGet none (k.lambda.map fun x => (x.1, some x.2)) (phaseOfGc d0.whl e.gc) with
        | some lam => e.gc + lam == g
        | none => false
      match k.release.find? fun e => due e.2 with
      | none => d0
      | some (ix, e) =>
        let d1 := modLnk l (fun k => { k with release := tabDel ix k.release }) d0
        match e.flit with
        | none => d1
        | some f =>
          let o := ownerAt d1 (islOfLink l) (t + 2)
          let g2 := sealFlit { f with ten := BitVec.ofNat 6 o, poison := f.poison || e.marked }
          let d2 := addFlight { dest := .swIn (islOfLink l) 20, due := t + 2, sw := t + 2, flit := g2 } d1
          if e.marked then raiseSlip l (countLink l (fun c => { c with unrepaired := satInc c.unrepaired }) d2) else d2

/-! ## Training (R170 to R174, R193) -/

/-- A link enters a state; a change of state sets its cause (23 Table REG-11). -/
def enterState (l : Nat) (s : LinkState) (t : Nat) (d : Dev) : Dev :=
  let d1 := modLnk l (fun k => { k with
    state := s, entered := t, uncorrRun := 0, trainSeen := false, confirmFrames := 0, confirmSyms := 0, confirmBad := false
    alignRun := 0, rtts := [] }) d
  if (lnkOf d l).state = s then d1 else raiseDev 2 d1

def inState (d : Dev) (l : Nat) (s : LinkState) : Bool := (lnkOf d l).state == s

/-- LINK_DETECT_DONE at tick t: the lanes with signal for 8,192 t. -/
def opLinkDetectDone (l t : Nat) (lanes : BitVec 8) (d : Dev) : Dev :=
  if inState d l .detect && decide (4 ≤ popcount lanes.toNat) && decide ((lnkOf d l).entered + 8192 ≤ t) then
    modLnk l (fun k => { k with lanesOk := lanes }) (enterState l .equalise t d)
  else d

/-- Physical lanes of logical lanes 0 to L - 1: the lanes that passed, ascending (R172). -/
def laneMapOf (ok L : Nat) : Nat :=
  let ls := ((List.range 8).filter (bit ok)).take L
  (ls.zip (List.range L)).foldl (fun a x => a + x.1 * pow2 (3 * x.2)) 0

/-- A link sends at a width, its lane map following (R171, R172). -/
def setWidth (L : Nat) (k : Link) : Link := { k with width := L, laneMap := BitVec.ofNat 24 (laneMapOf k.lanesOk.toNat L) }

/-- LINK_EQUALISE_DONE at tick t: the detected lanes below the bit error ratio, and the order and polarity of the receive
lanes, which the receiver finds (Table LNK-1; log entry 108). -/
def opLinkEqualiseDone (l t : Nat) (pass : BitVec 8) (order : BitVec 24) (invert : BitVec 8) (d : Dev) : Dev :=
  let k := lnkOf d l
  let ok := pass &&& k.lanesOk
  if inState d l .equalise && (ok == k.lanesOk || decide (k.entered + 2000000 ≤ t)) then
    if 4 ≤ popcount ok.toNat then
      let n := offer (popcount ok.toNat) k.widthLimit
      modLnk l (fun k => setWidth n { k with lanesOk := ok, rxOrder := order, rxInvert := invert, peerRec := none, echo := none })
        (enterState l .align t d)
    else enterState l .detect t d
  else d

/-- LINK_ALIGN_DONE at tick t: lane map and skew agreed, 64 correctable frames in a row, whose record gives the peer's offer,
serial number and link; or 262,144 t without them. -/
def opLinkAlignDone (l t : Nat) (agreed : Bool) (d : Dev) : Dev :=
  let k := lnkOf d l
  if inState d l .align then
    match k.peerRec with
    | some p =>
      if agreed && decide (64 ≤ k.alignRun) then
        modLnk l (fun k => { setWidth (min k.width (pkField p 3 1)) k with
            peerSerial := BitVec.ofNat 64 (pkField p 4 8), peerLink := pkField p 1 1 % 16 })
          (enterState l .measure t d)
      else if k.entered + 262144 ≤ t then enterState l .detect t d else d
    | none => if k.entered + 262144 ≤ t then enterState l .detect t d else d
  else d

/-- A link's flight time (R173, R174). -/
def setFlight (fine : Nat) (k : Link) : Link :=
  let f := ceilDiv (fine + 4) 16
  { k with fFine := fine, f := f, long := decide (128 < f) }

/-- The peer's F_FINE, 0 before its own MEASURE ends. -/
def peerFine (k : Link) : Nat := match k.peerRec with | some p => pkField p 28 2 | none => 0

/-- The round trips of 64 probes and the peer's F_FINE are those the link has received (R173). -/
def measured (k : Link) (rtts : List Nat) (fine : Nat) : Bool :=
  decide (64 ≤ k.rtts.length) && rtts == k.rtts.take 64 && fine == peerFine k

/-- LINK_MEASURE_DONE at tick t: the largest flight estimate of the 64 probes received, and the peer's (R173); or 65,536 t
without. -/
def opLinkMeasureDone (l t : Nat) (rtts : List Nat) (fine : Nat) (d : Dev) : Dev :=
  let k := lnkOf d l
  if inState d l .measure then
    if measured k rtts fine then
      let own := rtts.foldl (fun a r => max a ((r - 1024) / 2)) 0
      modLnk l (setFlight (max own fine)) (enterState l .confirm t d)
    else if k.entered + 65536 ≤ t then enterState l .detect t d else d
  else d

/-- Next narrower width. -/
def narrower (w : Nat) : Nat := if w = 8 then 6 else 4

/-- The peer's record says CONFIRM_DONE. -/
def peerConfirmed (k : Link) : Bool := match k.peerRec with | some p => pkField p 0 1 == 4 | none => false

/-- A frame boundary of the wheel that turns. -/
def frameBoundary (w : Wheel) (t : Nat) : Bool := decide (w.start ≤ t) && (t - w.start) % 8 == 0

/-- LINK_CONFIRM_DONE at tick t: an uncorrectable frame takes the link to a narrower ALIGN or to DETECT; clean, at a frame
boundary, its own condition met and the peer's CONFIRM_DONE received, it is READY (R170). -/
def opLinkConfirmDone (l t : Nat) (clean : Bool) (d : Dev) : Dev :=
  let k := lnkOf d l
  if inState d l .confirm then
    if k.confirmBad then
      if clean then d else (if k.width ≤ 4 then enterState l .detect t d else modLnk l (setWidth (narrower k.width)) (enterState l .align t d))
    else if clean && confirmed k && peerConfirmed k && frameBoundary d.whl t then enterState l .ready t d
    else d
  else d

/-- LINK_LOSS: 16 uncorrectable frames, a TRAIN frame or ABORT, or signal lost for 64 t (R193). -/
def opLinkLoss (l : Nat) (signal : Bool) (d : Dev) : Dev :=
  let k := lnkOf d l
  if k.state = .ready ∧ (signal = true ∨ 16 ≤ k.uncorrRun ∨ k.trainSeen = true) then
    let d1 := loseLink l d
    if d.span.joined && (spanLinks d.span).contains l then modSpan spanLost d1 else d1
  else d

/-- LINK_LOST_TIMEOUT at tick t. -/
def opLinkLostTimeout (l t : Nat) (d : Dev) : Dev :=
  let k := lnkOf d l
  if k.state = .lost ∧ k.entered + 1024 ≤ t then enterState l (if k.disabled then .off else .detect) t d else d

end Sys2Proof.Machine
end

