-- ==== Sys2Proof/Machine/Loader.lean ====
section
/-!
DEFINITION. Placement of an image, the load checks and the load (12 R428 to R442; 04 R139 to R143; 05 R177, R180, R184;
06 R230; 02 R58), and the image commands (15 R516 to R519).
-/
namespace Sys2Proof.Machine

/-! ## Slot map (R428, R430) -/

def slotsIn (mask : Nat) : List Nat := (List.range 16).filter (bit mask)

def enabledSlots (d : Dev) (i : Nat) : Nat := tabGet 0 d.fuse.slots i

/-- Physical slots of an island that are enabled and granted. -/
def physSlots (d : Dev) (t i : Nat) : List Nat :=
  (slotsIn (enabledSlots d i)).filter fun s => recHasCluster (grantOf d t) (16 * i + s)

/-- Physical slot of virtual slot v of island i. -/
def mapSlot (d : Dev) (t : Nat) (b : Array Byte) (i v : Nat) : Nat :=
  if manExact b then v
  else (physSlots d t i).getD ((slotsIn (manVslots b i)).idxOf v) v

/-- The clusters an image maps: virtual island and slot with the physical cluster. -/
def mapped (d : Dev) (t : Nat) (b : Array Byte) : List (Nat × Nat × Nat) :=
  (List.range 32).flatMap fun i => (slotsIn (manVslots b i)).map fun v => (i, v, 16 * i + mapSlot d t b i v)

/-! ## Route words (04 R139 to R143) -/

/-- R143. -/
def mapWord (m : Nat → Nat) (w : W64) : W64 :=
  let out := rwOut w
  let low := (List.range 16).foldl (fun a p => if bit out p then Nat.lor a (pow2 (m p)) else a) 0
  let inp := if rwIn w < 16 then m (rwIn w) else rwIn w
  BitVec.ofNat 64 (out / 65536 * 65536 + low + inp * pow2 28 + w.toNat / pow2 33 * pow2 33)

/-- Inserts a word behind those of lower START, or of equal START and lower IN. -/
def insertWord (w : W64) : List W64 → List W64
  | [] => [w]
  | x :: xs =>
    if rwStart w < rwStart x ∨ (rwStart w = rwStart x ∧ rwIn w < rwIn x) then w :: x :: xs else x :: insertWord w xs

/-- Words as the loader writes them: mapped, each run of equal START in ascending order of IN (R139). -/
def placedWords (m : Nat → Nat) (ws : List W64) : List W64 := (ws.map (mapWord m)).foldl (fun a w => insertWord w a) []

def segWords (b : Array Byte) (r : IRec) : List W64 := (List.range r.count).map (routeAt b r)

/-- A quadrant in which a tenancy holds a shelf range. -/
def holdsShelf (r : GrantRec) (q : Nat) : Bool :=
  decide (0 < recShelfSize r) && overlaps (recShelfBase r) (recShelfSize r) (1024 * q) 1024

/-- A port that the island has, on an enabled unit, inside the tenancy's grant (R140, R141). -/
def portAllowed (d : Dev) (t : Nat) (b : Array Byte) (i p : Nat) : Bool :=
  let r := grantOf d t
  match portDest i p with
  | none => false
  | some (.landing c, _) => bit (enabledSlots d i) (c % 16) && recHasCluster r c
  | some (.swIn .., _) => true
  | some (.shelf q _, _) => holdsShelf r q
  | some (.linkTx l, _) => bit d.fuse.links l && !(lnkOf d l).disabled && (needs b).any fun n => n.link == l
  | some (.dma e, _) => bit (recDma r) e
  | some (.bsu u, _) => recBsu r u == 2 || (recBsu r u == 1 && ((bsuOf d u).lease.map (·.1)) == some t)
  | some (.ctl _, _) => false

def rangesMeet (a n b m : Nat) : Bool := decide (a ≤ b + m) && decide (b ≤ a + n)

/-- One route word of an island and phase against those before it in its segment. -/
def routeBad (d : Dev) (t : Nat) (b : Array Byte) (i p : Nat) (before : List W64) (w : W64) : Bool :=
  let m (v : Nat) : Nat := mapSlot d t b i v
  let phys := mapWord m w
  let ports := (List.range 28).filter (bit (rwOut phys))
  !bit (recPhases (grantOf d t)) p || !portAllowed d t b i (rwIn phys) || !ports.all (portAllowed d t b i) ||
  decide (20 < ports.length) || decide (d.whl.w / 64 ≤ rwStart w + rwLen w) ||
  (match before with
   | x :: _ => decide (rwStart w < rwStart x) || (rwStart w == rwStart x && decide (rwIn w ≤ rwIn x))
   | [] => false) ||
  before.any fun x => rangesMeet (rwStart w) (rwLen w) (rwStart x) (rwLen x) &&
    (rwIn w == rwIn x || Nat.land (rwOut w) (rwOut x) != 0)

/-- The first bad word of a segment. -/
def firstBadWord (bad : List W64 → W64 → Bool) : Nat → List W64 → List W64 → Option Nat
  | _, _, [] => none
  | n, before, w :: ws => if bad before w then some n else firstBadWord bad (n + 1) (w :: before) ws

/-- The segment record of a kind for a bucket at a place. -/
def segFor (b : Array Byte) (kind k a s p : Nat) : Option IRec :=
  (recsOf b 2).find? fun r => r.kind == kind && inBucket r k && r.a == a && r.b == s && r.index == p

/-- Check 0x19. -/
def routesRefuse (d : Dev) (t : Nat) (b : Array Byte) : Option Refuse :=
  (List.range (manBuckets b)).findSome? fun k => (List.range 2048).findSome? fun x =>
    match segFor b 1 k (x / 64) 0 (x % 64) with
    | none => none
    | some r => (firstBadWord (routeBad d t b (x / 64) (x % 64)) 0 [] (segWords b r)).map fun n =>
        { check := 0x19, bucket := k, where_ := x / 64, item := n, off := r.pos }

/-! ## Shelf words (06 R230) -/

/-- Access ticks and lines of a shelf word in a phase; none for a read before tick 0. -/
def shelfAccesses (w : Nat) (p : Nat) (x : W64) : List (Option Nat × Nat) :=
  (List.range (swLen x + 1)).map fun k =>
    let tk := p * (w / 64) + swStart x + k
    (if !swDir x then some (tk + 5) else if 6 ≤ tk then some (tk - 6) else none, swLine x + k * swStep x)

/-- Every shelf word of a bucket in a quadrant, with its port, phase and index, in the order of the check. -/
def shelfWords (b : Array Byte) (k q : Nat) : List (Nat × Nat × Nat × W64) :=
  (List.range 512).flatMap fun x =>
    match segFor b 2 k q (x / 64) (x % 64) with
    | none => []
    | some r => (List.range r.count).map fun n => (x / 64, x % 64, n, routeAt b r n)

/-- A shelf word that R230 refuses: a bank serves one read and one write in a tick (R225), so only words of one direction
meet in it (log entry 102). -/
def shelfWordBad (d : Dev) (t q p : Nat) (before : List (Nat × Nat × Nat × W64)) (x : W64) : Bool :=
  let r := grantOf d t
  let w := d.whl.w
  let acc := shelfAccesses w p x
  let tickOk (a : Option Nat) : Bool := match a with | some a => decide (a < w) && bit (recPhases r) (a / (w / 64)) | none => false
  let lineOk (l : Nat) : Bool :=
    decide (l < 1048576) &&
      (let g := 1024 * q + l / 1024
       decide (recShelfBase r ≤ g) && decide (g < recShelfBase r + recShelfSize r))
  !bit (recPhases r) p || acc.any (fun a => !tickOk a.1 || !lineOk a.2) ||
  before.any fun y => swDir y.2.2.2 == swDir x &&
    (shelfAccesses w y.2.1 y.2.2.2).any fun e => acc.any fun a => a.1 == e.1 && a.2 % 64 == e.2 % 64

def firstBadShelf (d : Dev) (t q : Nat) :
    List (Nat × Nat × Nat × W64) → List (Nat × Nat × Nat × W64) → Option (Nat × Nat × Nat)
  | _, [] => none
  | before, x :: xs =>
    if shelfWordBad d t q x.2.1 before x.2.2.2 then some (x.1, x.2.1, x.2.2.1) else firstBadShelf d t q (x :: before) xs

/-- Check 0x1B. -/
def shelfRefuse (d : Dev) (t : Nat) (b : Array Byte) : Option Refuse :=
  (List.range (manBuckets b)).findSome? fun k => (List.range 4).findSome? fun q =>
    (firstBadShelf d t q [] (shelfWords b k q)).map fun x =>
      { check := 0x1B, bucket := k, where_ := q, sub := x.1, item := x.2.2
        off := ((segFor b 2 k q x.1 x.2.1).map (·.pos)).getD 0xFFFFFFFF }

/-! ## Space (04 R142; 06 R230; R438) -/

/-- Base and length of every segment held at a place: those of loaded images and the device's own. -/
def heldRoutes (d : Dev) (i : Nat) : List (Nat × Nat) :=
  let dev := phaseEnt d i 63
  (dev.base, dev.len) :: (List.range 32).flatMap fun t =>
    match (tenOf d t).image with
    | some im => (im.routes.filter fun p => p.ix / 64 == i).map fun p => (p.base, p.len)
    | none => []

def heldShelves (d : Dev) (qk : Nat) : List (Nat × Nat) :=
  let dev := shelfEnt d (qk / 8) (qk % 8) 63
  (dev.base, dev.len) :: (List.range 32).flatMap fun t =>
    match (tenOf d t).image with
    | some im => (im.shelves.filter fun p => p.ix / 64 == qk).map fun p => (p.base, p.len)
    | none => []

/-- Lowest free address for n words in a memory of a size: 0 or the end of a held segment. -/
def lowestFree (size : Nat) (held : List (Nat × Nat)) (n : Nat) : Option Nat :=
  let held := held.filter fun h => h.2 != 0
  (sortNat (0 :: held.map fun h => h.1 + h.2)).find? fun a =>
    decide (a + n ≤ size) && (n == 0 || !held.any fun h => overlaps a n h.1 h.2)

/-- Places the segments of one memory in section order. -/
def placeSegs (size : Nat) : List IRec → List (Nat × Nat) → Option (List (IRec × Nat))
  | [], _ => some []
  | r :: rs, held =>
    match lowestFree size held r.count with
    | none => none
    | some a => (placeSegs size rs ((a, r.count) :: held)).map fun x => (r, a) :: x

/-- Segment records of a kind at an island, or at a quadrant and port. -/
def segsAt (b : Array Byte) (kind x : Nat) : List IRec :=
  (recsOf b 2).filter fun r => r.kind == kind && (if kind = 1 then r.a == x else r.a == x / 8 && r.b == x % 8)

def placeRoutes (d : Dev) (b : Array Byte) (i : Nat) : Option (List (IRec × Nat)) := placeSegs 65536 (segsAt b 1 i) (heldRoutes d i)
def placeShelves (d : Dev) (b : Array Byte) (x : Nat) : Option (List (IRec × Nat)) := placeSegs 4096 (segsAt b 2 x) (heldShelves d x)

/-! ## Links (R431; 05 R180, R184) -/

/-- Check 0x16 for one link. -/
def bindBad (d : Dev) (n : Need) : Bool :=
  let l := lnkOf d n.link
  let own := (d.span.ranks[d.span.ownRank]?.map (·.links)).getD []
  l.disabled || !bit d.fuse.links n.link || !own.any (fun x => x.1 == n.link) ||
  (match d.span.ranks[n.peerRank]? with
   | some p => p.serial != l.peerSerial || l.peerLink != n.peerLink
   | none => true)

def linkRec (b : Array Byte) (l : Nat) : Option IRec := (recsOf b 2).find? fun r => r.kind == 3 && r.b == l
def needReserve (b : Array Byte) (l : Nat) : List Nat := match linkRec b l with | some r => reserveTicks b r | none => []
def needArep (b : Array Byte) (l p : Nat) : Nat := match linkRec b l with | some r => arepAt b r p | none => 0

/-- Check 0x17 for one link. -/
def linkRefuse (d : Dev) (b : Array Byte) (n : Need) : Option Refuse :=
  let l := lnkOf d n.link
  let own := needReserve b n.link
  let turn := 88 + 2 * l.f
  let arepBad (p : Nat) : Bool :=
    bit (manPhases b) p &&
      (let a := needArep b n.link p
       if own.isEmpty then a != 0 else decide (a < turn) || decide (768 < a))
  firstRefuse [
    fun _ => failIf (l.state != .ready || decide (n.fc < l.f) || decide (l.width < n.width) || decide (64 < l.reserve.length + own.length))
      { status := sNoFit, check := 0x17, where_ := n.link },
    fun _ => failIf (decide (128 < n.fc)) { check := 0x17, where_ := n.link },
    fun _ => ((List.range 64).find? arepBad).map fun p =>
      { check := 0x17, where_ := n.link, item := p, off := ((linkRec b n.link).map (·.pos)).getD 0xFFFFFFFF }]

/-! ## Load checks 0x11 to 0x1D (R436, Table IMG-8) -/

/-- Highest minimum setpoint among the programs an island holds and an image with a floor (02 R58). -/
def neededSetpoint (d : Dev) (i floor : Nat) : Nat := max (islandMin d i) (minSetpoint floor)

/-- Fewer enabled slots than P (01 R36). -/
def gradeShort (d : Dev) (b : Array Byte) (i : Nat) : Bool :=
  if manExact b then manFuse b i != enabledSlots d i else decide ((slotsIn (enabledSlots d i)).length < manP b)

def clustersRefuse (d : Dev) (t : Nat) (b : Array Byte) : Option Refuse :=
  (List.range 32).findSome? fun i =>
    let vs := slotsIn (manVslots b i)
    if manExact b then
      (vs.find? fun s => !recHasCluster (grantOf d t) (16 * i + s)).map fun s =>
        { status := sNoFit, check := 0x12, where_ := i, sub := s }
    else failIf (decide ((physSlots d t i).length < vs.length)) { status := sNoFit, check := 0x12, where_ := i }

def footprintRefuse (r : GrantRec) (b : Array Byte) : Option Refuse :=
  firstRefuse [
    fun _ => failIf (Nat.land (manPane b) (recPane r) != manPane b) { status := sNoFit, check := 0x13, sub := 0 },
    fun _ => ((List.range 8).find? fun w => decide (recWinSize r w < manCol b w)).map fun w =>
      { status := sNoFit, check := 0x13, where_ := w, sub := 1 },
    fun _ => failIf (manShelfSize b != 0 &&
        (decide (manShelfBase b < recShelfBase r) || decide (recShelfBase r + recShelfSize r < manShelfBase b + manShelfSize b)))
      { status := sNoFit, check := 0x13, sub := 2 }]

/-- Check 0x11 (01 R36, R37; R430). -/
def gradeRefuse (d : Dev) (b : Array Byte) : Option Refuse :=
  firstRefuse [
    fun _ => ((List.range 32).find? (gradeShort d b)).map fun i => { status := sNoFit, check := 0x11, where_ := i },
    fun _ => failIf (manExact b && man b 192 2 != d.fuse.links) { status := sNoFit, check := 0x11 },
    fun _ => ((needs b).find? fun n => !bit d.fuse.links n.link).map fun n => { status := sNoFit, check := 0x11, where_ := n.link }]

def phasesRefuse (r : GrantRec) (b : Array Byte) : Option Refuse :=
  ((List.range 64).find? fun p => bit (manPhases b) p && !bit (recPhases r) p).map fun p =>
    { status := sNoFit, check := 0x14, item := p }

def bindingRefuse (d : Dev) (b : Array Byte) : Option Refuse :=
  if manRanks b = 0 then none
  else firstRefuse [
    fun _ => failIf (!d.span.joined || d.span.state != .locked) { status := sBusy, check := 0x15 },
    fun _ => failIf (d.span.ownRank != manRank b || d.span.ranks.length != manRanks b) { status := sNoFit, check := 0x16 },
    fun _ => ((needs b).find? (bindBad d)).map fun n => { status := sNoFit, check := 0x16, where_ := n.link },
    fun _ => (needs b).findSome? (linkRefuse d b)]

/-- An island is powered down, or an ISLAND_POWER on of it has not completed (02 R59; 20 R695). -/
def islandUnready (d : Dev) (i : Nat) : Bool :=
  !(islOfDev d i).supplyOn ||
    (openCmds d fun c => opcodeOf c == 0xF06 && c.stage == .armed && pkField c.pkt 20 1 == 1 && bit (pkField c.pkt 16 4) i &&
      countPassed d.whl c.count) != []

def floorRefuse (d : Dev) (b : Array Byte) : Option Refuse :=
  ((List.range 32).find? fun i => manVslots b i != 0 &&
      (decide (effTarget d i < neededSetpoint d i (manFloor b)) || (islOfDev d i).droop || islandUnready d i)).map
    fun i => { status := sBusy, check := 0x18, where_ := i }

def bundlesRefuse (b : Array Byte) : Option Refuse :=
  ((bundleRecs b).find? fun r => decide (4096 < r.count)).map fun r =>
    { status := sNoFit, check := 0x1D, where_ := r.a, sub := r.b, item := r.num, off := r.pos }

def loadRefuse (d : Dev) (t : Nat) (b : Array Byte) : Option Refuse :=
  let r := grantOf d t
  firstRefuse [
    fun _ => gradeRefuse d b,
    fun _ => clustersRefuse d t b,
    fun _ => footprintRefuse r b,
    fun _ => phasesRefuse r b,
    fun _ => bindingRefuse d b,
    fun _ => floorRefuse d b,
    fun _ => routesRefuse d t b,
    fun _ => ((List.range 32).find? fun i => (placeRoutes d b i).isNone).map fun i => { status := sNoFit, check := 0x1A, where_ := i },
    fun _ => shelfRefuse d t b,
    fun _ => ((List.range 32).find? fun x => (placeShelves d b x).isNone).map fun x =>
      { status := sNoFit, check := 0x1C, where_ := x / 8, sub := x % 8 },
    fun _ => bundlesRefuse b]

/-! ## The load (R439) -/

/-- Stores bytes at an address by protected units of n bytes (06 R234); the counts are the corrections and the
uncorrectable reads of merges, and the address is that of the first unit found uncorrectable (R235). -/
def storeUnits (n a : Nat) (data : List Byte) (m : Mem) : Mem × Nat × Nat × Option Nat :=
  let len := data.length
  let first := a / n * n
  let v := leNat data
  (List.range ((a + len - first + n - 1) / n)).foldl (fun x k =>
    let u := first + n * k
    let lo := max a u
    let hi := min (a + len) (u + n)
    let part := (v / pow2 (8 * (lo - a))) % pow2 (8 * (hi - lo))
    let r := writeUnit n u (part * pow2 (8 * (lo - u))) (rangeMask (8 * (lo - u)) (8 * (hi - u))) false x.1
    (r.1, x.2.1 + r.2.1, x.2.2.1 + r.2.2, x.2.2.2.or (if r.2.2 = 0 then none else some u))) (m, 0, 0, none)

/-- The memory alone. -/
def storeBytes (n a : Nat) (data : List Byte) (m : Mem) : Mem := (storeUnits n a data m).1

/-- Stores bytes in a tier for a tenancy: what its merges meet is counted and logged (06 R235, R238). -/
def storeTier (tier unit a ten : Nat) (data : List Byte) (d : Dev) : Dev :=
  let x := storeUnits (if tier = 1 then 64 else 8) a data d.mem
  let d1 := { d with mem := x.1 }
  let key := match tier with | 0 => unit | 1 => 512 + unit | _ => 1024 + unit
  let d2 := match tier with
    | 0 => memCtr unit (fun c => { c with paneCorr := satAdd c.paneCorr x.2.1, paneUncorr := satAdd c.paneUncorr x.2.2.1 }) d1
    | 1 => memCtr unit (fun c => { c with colCorr := satAdd c.colCorr x.2.1, colUncorr := satAdd c.colUncorr x.2.2.1 }) d1
    | _ => modShelfCtr unit (fun c => { c with corr := satAdd c.corr x.2.1, uncorr := satAdd c.uncorr x.2.2.1 }) d1
  match x.2.2.2 with
  | some u => logError key u 1 (some ten) d2
  | none => d2

/-- Tier, unit and address of one INIT data record; none for another record. -/
def dataPlace (d : Dev) (t : Nat) (b : Array Byte) (r : IRec) : Option (Nat × Nat × Nat) :=
  let cl (v : Nat) : Nat := 16 * r.a + mapSlot d t b r.a v
  match r.kind with
  | 2 => some (0, cl r.b, paneBase (cl r.b) + r.index)
  | 3 => some (1, cl (r.b % 16), colBase (cl (r.b % 16)) + recWinBase (grantOf d t) (r.b / 16) * 1048576 + r.index)
  | 4 => some (2, r.index / 0x4000000, 0x001100000000 + r.index)
  | _ => none

/-- Writes one INIT data record. -/
def loadData (g : Dev) (t : Nat) (b : Array Byte) (r : IRec) (d : Dev) : Dev :=
  match dataPlace g t b r with
  | some x => storeTier x.1 x.2.1 x.2.2 t (imgBytes b (recBody r) r.count) d
  | none => d

def aArr (w : Nat) : Nat := ceilDiv w 10000 + 2

/-- Λ_p (05 R177). -/
def lambdaFor (w : Nat) (n : Need) (arep : Nat) : Nat := 39 + n.fc + aArr w + arep

/-- Launch values of a state record: s0 to s23, d0 to d15. -/
def stateOf (d : Dev) (t : Nat) (b : Array Byte) (r : IRec) : InitState :=
  { bucket := r.bucket, cl := 16 * r.a + mapSlot d t b r.a r.b
    s := (List.range 24).map fun k => imgField b (recBody r + 4 * k) 4
    d := (List.range 16).map fun k => imgField b (recBody r + 96 + 8 * k) 8 }

def placedRoutes (d : Dev) (b : Array Byte) : List (IRec × Placed) :=
  (List.range 32).flatMap fun i => ((placeRoutes d b i).getD []).map fun x =>
    (x.1, { bucket := x.1.bucket, ix := 64 * i + x.1.index, base := x.2, len := x.1.count })

def placedShelves (d : Dev) (b : Array Byte) : List (IRec × Placed) :=
  (List.range 32).flatMap fun q => ((placeShelves d b q).getD []).map fun x =>
    (x.1, { bucket := x.1.bucket, ix := 64 * q + x.1.index, base := x.2, len := x.1.count })

/-- What the load leaves in force. -/
def loadedOf (d : Dev) (t : Nat) (b : Array Byte) : Loaded :=
  let nb := manBuckets b
  let es := match policiesOf b with | .ok es => es | .error _ => []
  { id := imgField b 16 8, floor := manFloor b, canonical := bit (man b 7 1) 0, shapeBound := manShape b
    numBuckets := nb, numSp := manSp b, phaseMask := manPhases b, ticks := man b 24 8, ranks := manRanks b
    clusters := (mapped d t b).map fun x => x.2.2
    slotMap := (mapped d t b).map fun x => (16 * x.1 + x.2.1, x.2.2 % 16)
    entries := (bundleRecs b).map fun r => (16 * r.a + mapSlot d t b r.a r.b, (List.range nb).map (entryIx b r))
    routes := (placedRoutes d b).map (·.2), shelves := (placedShelves d b).map (·.2)
    states := ((recsOf b 3).filter fun r => r.kind == 1).map (stateOf d t b)
    maxima := (recsOf b 4).map fun r => (List.range 4).map fun k => imgField b (recBody r + 4 * k) 4
    policies := if manShape b then (List.range nb).map fun k => (es.drop (8 * k)).take 8 else []
    layers := sortNat ((recsOf b 6).map (·.index))
    bound := (needs b).map fun n =>
      { link := n.link, width := n.width, fc := n.fc, arep := (List.range 64).map (needArep b n.link), reserve := needReserve b n.link } }

/-- Bundle store of a cluster from its BUNDLES record. -/
def loadStore (b : Array Byte) (r : IRec) (k : Cluster) : Cluster :=
  { k with store := (List.range r.count).map fun i => (i, bundleAt b r i), storeEcc := [], bundleCount := r.count }

/-- Phase-table entries of an image's phases in one memory. -/
def ownPhases (t phases x : Nat) (tab : Tab PhaseEnt) : Tab PhaseEnt :=
  ((List.range 64).filter (bit phases)).foldl (fun a p => tabSet (64 * x + p) { base := 0, len := 0, owner := t } a) tab

/-- Addresses and lengths, in device memory, of the words and entries a load writes. -/
def loadWords (d : Dev) (b : Array Byte) (phases : Nat) : List (Nat × Nat) :=
  let ps := (List.range 64).filter (bit phases)
  (placedRoutes d b).map (fun x => (routeAddr x.1.a x.2.base, 8 * x.2.len)) ++
  (placedShelves d b).map (fun x => (shelfProgAddr x.1.a x.1.b x.2.base, 8 * x.2.len)) ++
  (List.range 32).flatMap (fun i => ps.map fun p => (phaseAddr i p, 8)) ++
  (List.range 32).flatMap (fun x => ps.map fun p => (shelfPhaseAddr (x / 8) (x % 8) p, 8)) ++
  (needs b).flatMap fun n => ps.map fun p => (lambdaAddr n.link p, 4)

/-- Cluster that a BUNDLES record fills. -/
def recCluster (d : Dev) (t : Nat) (b : Array Byte) (r : IRec) : Nat := 16 * r.a + mapSlot d t b r.a r.b

/-- The records of a list up to the first whose store is struck, that one included. -/
def uptoStruck (d : Dev) (t : Nat) (b : Array Byte) : List IRec → List IRec
  | [] => []
  | r :: rs =>
    if (clOf d (recCluster d t b r)).storeBad.any (fun s => decide (s < 4 * r.count)) then [r] else r :: uptoStruck d t b rs

def emptyStore (k : Cluster) : Cluster := { k with store := [], storeEcc := [], bundleCount := 0 }

/-- The load's write of a bundle store or of route memory meets an uncorrectable error (R440; log entry 112). -/
def storeStruck (d : Dev) (t : Nat) (b : Array Byte) : Bool :=
  (bundleRecs b).any fun r => (clOf d (recCluster d t b r)).storeBad.any fun s => decide (s < 4 * r.count)

def routeStruck (d : Dev) (b : Array Byte) : Bool :=
  (placedRoutes d b).any fun x => d.fab.routeBad.any fun k =>
    decide (65536 * x.1.a + x.2.base ≤ k) && decide (k < 65536 * x.1.a + x.2.base + x.2.len)

/-- A load that met such an error, undone: the stores it wrote are cleared, and, where it had come to the route words,
the memory of its INIT data is zeroed and those words are cleared (R439, R440). -/
def undoWrites (t : Nat) (b : Array Byte) (g d : Dev) : Dev :=
  let d1 := (uptoStruck g t b (bundleRecs b)).foldl (fun a r => modCl (recCluster g t b r) emptyStore a) d
  if storeStruck g t b then d1
  else
    let d2 := (recsOf b 3).foldl (fun a r => match dataPlace g t b r with | some x => zeroRange x.2.2 r.count a | none => a) d1
    { d2 with fab := { d2.fab with
        route := (placedRoutes g b).foldl (fun a x => delWords (65536 * x.1.a + x.2.base) x.2.len a) d2.fab.route } }

/-- R439, in its order. The words and entries written are clean (21 R718), and FULL is cleared in every entry of the
tenancy's clusters (07 R271). -/
def applyLoad (t : Nat) (b : Array Byte) (d : Dev) : Dev :=
  let im := loadedOf d t b
  let d0 := (recClusters (grantOf d t)).foldl (fun a c => modCl c (fun k => { k with lb := [] }) a) d
  let d1 := (bundleRecs b).foldl (fun a r => modCl (recCluster d t b r) (loadStore b r) a) d0
  let d2 := (recsOf b 3).foldl (fun a r => loadData d t b r a) d1
  let route := (placedRoutes d b).foldl (fun a x =>
    setWords (65536 * x.1.a + x.2.base) (placedWords (mapSlot d t b x.1.a) (segWords b x.1)) a) d2.fab.route
  let shelf := (placedShelves d b).foldl (fun a x => setWords (4096 * (8 * x.1.a + x.1.b) + x.2.base) (segWords b x.1) a) d2.fab.shelfProg
  let phase := (List.range 32).foldl (fun a i => ownPhases t im.phaseMask i a) d2.fab.phase
  let sphase := (List.range 32).foldl (fun a i => ownPhases t im.phaseMask i a) d2.fab.shelfPhase
  let ws := loadWords d b im.phaseMask
  let f := { d2.fab with route := route, shelfProg := shelf, phase := phase, shelfPhase := sphase }
  let d3 := { d2 with fab := cleanWords ws f }
  let d4 := (needs b).foldl (fun a n => modLnk n.link (fun l =>
    { l with
      lambda := ((List.range 64).filter (bit im.phaseMask)).foldl (fun x p => tabSet p (lambdaFor d.whl.w n (needArep b n.link p)) x) l.lambda
      reserve := l.reserve ++ (needReserve b n.link).map fun tk => { tick := tk, ten := t, used := false } }) a) d3
  modTen t (fun x => { x with
    st := .loaded, loading := none, image := some im, imageId := im.id, bucket := 255, program := none, fresh := true, drainBase := [] }) d4

/-! ## Image commands (15 R516 to R519) -/

/-- What one fetch of an image may hold of it: the bytes come as an array. -/
def imgArray (data : List Byte) : Array Byte := data.toArray

def refuse (c : Cmd) (f : Refuse) (d : Dev) : Dev := finish c.id f.status (refuseRes0 f) f.off d

/-- A buffer command of a tenancy is outstanding, from its start until its reply is written (13 R461; 15 R524). -/
def isBuffer (op : Nat) : Bool := decide (0x200 ≤ op) && decide (op ≤ 0x203)
def bufferOpen (d : Dev) (t : Nat) : Bool :=
  d.host.cmds.any fun c => isBuffer (opcodeOf c) && cmdTen d c == t

def loadRuns (d : Dev) (t : Nat) : Bool := (tenOf d t).loading.isSome

/-- Whether a T command's tenancy is in one of some states (15 R511). -/
def inStates (d : Dev) (t : Nat) (ss : List TenState) : Bool := ss.contains (tenOf d t).st

/-- IMAGE_STAGE (R516). -/
def opImageStage (r : Nat) : Dev → Dev := runTen r 0x100 fun t c d =>
  let addr := pkField c.pkt 16 8
  let len := pkField c.pkt 24 4
  if c.stage = .ready then
    if !inStates d t [.vacant, .staged] || loadRuns d t then finish c.id sBusy 0 0 d
    else if addr % 64 ≠ 0 then finish c.id sBadParam 0 0 d
    else fetchData c addr 192 d
  else if c.status = sTimeout then finish c.id sTimeout 0 0 d
  else if !inStates d t [.vacant, .staged] || loadRuns d t then finish c.id sBusy 0 0 d
  else
    let b := imgArray c.data
    if headerOk b len then
      finish c.id sOk (imgField b 16 8) 0
        (modTen t (fun x => { x with
          st := .staged, stagedAddr := addr, stagedLen := len, stagedHead := c.data.take 192, imageId := imgField b 16 8 }) d)
    else refuse c { check := 1 } d

/-- IMAGE_VERIFY (R434, R517). -/
def opImageVerify (r : Nat) : Dev → Dev := runTen r 0x101 fun t c d =>
  let x := tenOf d t
  if c.stage = .ready then
    if x.st ≠ .staged ∨ x.loading.isSome = true then finish c.id sBusy 0 0 d else fetchData c x.stagedAddr x.stagedLen d
  else if c.status = sTimeout then finish c.id sTimeout 0 0 d
  else
    match verifyRefuse d.whl (imgArray c.data) x.stagedLen with
    | some f => refuse c f d
    | none => finish c.id sOk 0 0 d

/-- What IMAGE_LOAD finds wrong: header and directory, then each section as it arrives, then the checks in order; a
section whose CRC differs is reported before the checks from 0x02 on (R435, R436). -/
def loadFailure (t : Nat) (head : List Byte) (len : Nat) (b : Array Byte) (d : Dev) : Option Refuse :=
  firstRefuse [
    fun _ => failIf (imgBytes b 0 192 != head) { check := 0x1E },
    fun _ => failIf (!headerOk b len) { check := 1 },
    fun _ => (badSection b).map fun _ => { check := 0x1E },
    fun _ => contentRefuse d.whl b,
    fun _ => loadRefuse d t b]

/-- The device as a load sees it: the tenancy's grant is the one in force when the load started (R441). -/
def withGrant (t : Nat) (g : GrantRec) (d : Dev) : Dev := { d with grants := { d.grants with force := tabSet t g d.grants.force } }

/-- IMAGE_LOAD (R435 to R442, R517). -/
def opImageLoad (r : Nat) : Dev → Dev := runTen r 0x102 fun t c d =>
  let x := tenOf d t
  if c.stage = .ready then
    if x.st ≠ .staged ∨ x.loading.isSome = true ∨ isClearing d t = true then
      refuse c { status := sBusy, check := 0x10 } d
    else fetchData c x.stagedAddr x.stagedLen (modTen t (fun x => { x with loading := some c.id, loadGrant := grantOf d t }) d)
  else
    let idle (d : Dev) : Dev := modTen t (fun x => { x with loading := none }) d
    if c.status = sTimeout then finish c.id sTimeout 0 0 (idle d)
    else
      let b := imgArray c.data
      let g := withGrant t x.loadGrant d
      match loadFailure t x.stagedHead x.stagedLen b g with
      | some f => refuse c f (idle d)
      | none =>
        if storeStruck g t b || routeStruck g b then refuse c { check := 0x1E } (idle (undoWrites t b g d))
        else
          let done := applyLoad t b g
          finish c.id sOk (imgField b 16 8) (mapped g t b).length { done with grants := d.grants }

/-- IMAGE_UNLOAD (R518). -/
def opImageUnload (r : Nat) : Dev → Dev := runTen r 0x103 fun t c d =>
  if loadRuns d t then finish c.id sBusy 0 0 d
  else match (tenOf d t).st with
    | .staged => finish c.id sOk 0 0 (becomeVacant t (modTen t clearDigests d))
    | .loaded | .faulted => armCmd c.id (partBytes (grantParts (grantOf d t))) t (beginDrain t (modTen t clearDigests d))
    | _ => finish c.id sBusy 0 0 d

/-- BUCKET_SELECT (R519; 16 R575, R577). -/
def opBucketSelect (r : Nat) : Dev → Dev := runTen r 0x104 fun t c d =>
  let x := tenOf d t
  let k := pkField c.pkt 16 1
  let nb := match x.image with | some im => im.numBuckets | none => 0
  if x.st ≠ .loaded ∨ x.loading.isSome = true then finish c.id sBusy 0 0 d
  else if nb ≤ k ∧ k ≠ 255 then finish c.id sBadParam 0 0 d
  else
    let set (d : Dev) : Dev := finish c.id sOk 0 0 (modTen t (fun x => { x with bucket := k }) d)
    match recording x c.pkt, x.journal with
    | true, some j =>
      let rec_ := commandRec (gcOf d.whl) c 0
      if roomFor d t j < rec_.length then finish c.id sJournalFull 0 0 d else set (journalAppend t rec_ d)
    | _, _ => set d

end Sys2Proof.Machine
end

