-- ==== Sys2Proof/Machine/Exec.lean ====
section
/-!
DEFINITION. Execution commands and the effects of a program's life (11 R398, R399, R408; 12 R426; 14 R501 to R505;
15 R527 to R533; 21 R709 to R712).
-/
namespace Sys2Proof.Machine

/-! ## Counts named by commands (03 R122) -/

/-- A boundary named by a command: itself, or the next one if it has passed. -/
def boundaryAt (d : Dev) (x : Nat) : Nat := if countPassed d.whl x then nextBoundary d.whl else x

/-- A fault raised before the present boundary has still to stop its tenancy (21 R712; 03 R116). -/
def faultDue (d : Dev) (t : Nat) : Bool :=
  let x := tenOf d t
  x.stopDue && ((counted d.whl && decide (x.faultTick < d.whl.start)) || (x.fault == fcSlipLimit && !counted d.whl))

/-- Some commit has still to take effect at a boundary already reached (14 R505). -/
def commitDue (d : Dev) : Bool :=
  (d.grants.state == 2 && countPassed d.whl d.grants.effect) ||
  (openCmds d fun c => opcodeOf c == 0xF01 && c.stage == .armed && countPassed d.whl c.count) != []

/-- The armed command of a tenancy with an opcode whose count is lowest, the oldest among equals. -/
def earliestArmed (d : Dev) (t op : Nat) : Option Cmd :=
  (openCmds d fun c => opcodeOf c == op && cmdTen d c == t && c.stage == .armed).foldl (fun a c =>
    match a with | some b => if c.count < b.count then some c else a | none => some c) none

/-! ## Segments (11 R408; 12 R439) -/

def segInBucket (k : Nat) (p : Placed) : Bool := p.bucket == 255 || p.bucket == k

/-- The segments of a bucket become current in the phase tables. -/
def openSegs (t k : Nat) (d : Dev) : Dev :=
  match (tenOf d t).image with
  | none => d
  | some im =>
    let put (ps : List Placed) (tab : Tab PhaseEnt) : Tab PhaseEnt :=
      (ps.filter (segInBucket k)).foldl (fun a p => tabSet p.ix { base := p.base, len := p.len, owner := t } a) tab
    { d with fab := { d.fab with phase := put im.routes d.fab.phase, shelfPhase := put im.shelves d.fab.shelfPhase } }

/-- BUCKET_SEGMENTS_CURRENT. -/
def opBucketSegmentsCurrent (t : Nat) (d : Dev) : Dev :=
  let x := tenOf d t
  match x.program with
  | some p =>
    if x.st = .armed ∧ p.current = false ∧ countDue d.whl (p.launch - d.whl.w) = true then
      modTen t (fun x => { x with program := some { p with current := true } }) (openSegs t p.bucket d)
    else d
  | none => d

/-! ## Arming (07 R254, R255, R283) -/

def stateFor (im : Loaded) (k cl : Nat) : Option InitState :=
  im.states.find? fun s => s.cl == cl && (s.bucket == 255 || s.bucket == k)

def listTab {α : Type} (xs : List α) : Tab α := (List.range xs.length).zip xs

/-- The position of four ticks ago, which every synchroniser has shown by now (R277). -/
def seenPos (w : Wheel) : Nat × Nat :=
  if w.slip then (w.n % 4, w.w - 1)
  else if w.now < w.start + 4 then ((w.n + 3) % 4, w.w - 1)
  else fabPos { w with now := w.now - 4 }

/-- Every item of 07 Table CLU-2 at its launch value, FULL of every entry clear (R271); the first bundle waits for tick 0 of
the launch wheel. The cycles of an idle cluster have brought its tick view to a position already observed (R277). -/
def armCluster (im : Loaded) (p : Program) (lap : Nat) (pos : Nat × Nat) (cl : Nat) (k : Cluster) : Cluster :=
  let init := stateFor im p.bucket cl
  let low := match init with | some s => s.s | none => List.replicate 24 0
  let desc := match init with | some s => s.d | none => List.replicate 16 0
  let entry := ((im.entries.find? fun e => e.1 == cl).map fun e => e.2.getD p.bucket 0).getD 0
  { k with
    s := listTab ((low ++ p.words).map (BitVec.ofNat 32)), d := listTab (desc.map (BitVec.ofNat 64)), m := [], acc := [], loops := []
    wcur := lap, dig := 0, snaps := [], ls := [], lb := [], pc := entry, run := .armed, busyM := 0, busyV := 0, busyX := 0
    pend := [], tasks := [], held := {}, tv := pos, tv1 := pos, tv2 := pos }

def armClusters (t : Nat) (d : Dev) : Dev :=
  match (tenOf d t).image, (tenOf d t).program with
  | some im, some p =>
    modTen t (fun x => { x with program := some { p with armed := true } })
      (im.clusters.foldl (fun a c => modCl c (armCluster im p (p.launch / d.whl.w % 4) (seenPos d.whl) c) a) d)
  | _, _ => d

/-- CLUSTER_ARM: no earlier than the wheel before the launch wheel (07 R283). -/
def opClusterArm (t : Nat) (d : Dev) : Dev :=
  let x := tenOf d t
  match x.program with
  | some p =>
    if x.st = .armed ∧ p.armed = false ∧ countPassed d.whl (p.launch - d.whl.w) = true then armClusters t d else d
  | none => d

/-! ## Start and completion -/

def imageTicks (x : Tenancy) : Nat := match x.image with | some im => im.ticks | none => 0

/-- The program starts: digests are zero, FULL is clear in every cluster of the tenancy, the variance record of the launch
begins, and what was not yet made current or armed is (R120; 07 R271; 16 R569; 21 R724). -/
def startProgram (t completion : Nat) (d : Dev) : Dev :=
  match (tenOf d t).program with
  | none => d
  | some p =>
    let d0 := (recClusters (grantOf d t)).foldl (fun a c => if (imageClusters (tenOf d t)).contains c then a else modCl c (fun k => { k with lb := [] }) a) d
    let d1 := if p.current then d0 else openSegs t p.bucket d0
    let d2 := if p.armed then d1 else armClusters t d1
    modTen t (fun x => { x with
      st := .running, launchCount := p.launch, completion := completion, digMark := false, drainBase := []
      digTable := match x.image with | some im => im.layers.map fun l => (l, {}) | none => []
      program := some { p with started := true, current := true, armed := true, completion := completion, varAt := varCounts x, varDone := [] } }) d2

/-- A HALT_AT of the program a tenancy has: HALT_AT names the program that was armed or running when it was accepted (15
R529, R531). -/
def haltOf (d : Dev) (t : Nat) : Option Cmd :=
  match (tenOf d t).program with
  | some p =>
    (openCmds d fun c => opcodeOf c == 0x302 && cmdTen d c == t && c.stage == .armed && c.aux == p.launch).foldl (fun a c =>
      match a with | some b => if c.count < b.count then some c else a | none => some c) none
  | none => none

/-- The count of the earliest halt of a tenancy's program, by a ring or by its replay (16 R583). -/
def haltCount (d : Dev) (t : Nat) : Option Nat :=
  match (haltOf d t).map (·.count), (tenOf d t).replay.bind (·.haltAt) with
  | some a, some b => some (min a b)
  | some a, none => some a
  | none, b => b

/-- A halt at or before a count keeps the program from what it would do there. -/
def haltBy (d : Dev) (t x : Nat) : Bool := (haltCount d t).any fun h => decide (h ≤ x)

/-- LAUNCH_COUNT_REACHED; a halt at or before the launch count comes first (14 Table TEN-3). -/
def opLaunchCountReached (t : Nat) (d : Dev) : Dev :=
  let x := tenOf d t
  match x.program with
  | some p =>
    if x.st = .armed ∧ countDue d.whl p.launch = true ∧ faultDue d t = false ∧ commitDue d = false ∧ haltBy d t p.launch = false then
      startProgram t (p.launch + imageTicks x) d
    else d
  | none => d

/-- Every cluster of the image has issued HALT. -/
def allHalted (d : Dev) (t : Nat) : Bool := (imageClusters (tenOf d t)).all fun c => (clOf d c).run == .halted

/-- A program completes: the tenancy is LOADED with its image kept and no segment current (11 R399; 19 R667). -/
def completeProgram (t gc : Nat) (d : Dev) : Dev :=
  modTen t (fun x => { x with st := .loaded }) (endProgram t sOk 0 gc false (dropDescs t (closeSegs t d)))

/-- PROGRAM_COMPLETION_CHECK (11 R399; 14 R503). -/
def opProgramCompletionCheck (t : Nat) (d : Dev) : Dev :=
  let x := tenOf d t
  match x.program with
  | some p =>
    if x.st = .running ∧ countDue d.whl p.completion = true ∧ faultDue d t = false then
      if x.stopDue then d else if allHalted d t then completeProgram t p.completion d else raiseFault t fcVoidFlit d
    else d
  | none => d

/-! ## Halt, suspension, resumption -/

/-- A tenancy is halted: hardware stops as at a fault, and the image stays (15 R529). -/
def haltProgram (t gc : Nat) (d : Dev) : Dev :=
  modTen t (fun x => { x with st := .loaded }) (endProgram t sOk 0 gc true (stopHardware t (holdUnits t gc d)))

/-- A program that ends by completion at or before a halt's count has ended before the halt (15 R529). -/
def completeBefore (t gc : Nat) (d : Dev) : Dev :=
  match (tenOf d t).program with
  | some p => if p.completion ≤ gc ∧ allHalted d t = true then opProgramCompletionCheck t d else d
  | none => d

/-- The earliest HALT_AT of a tenancy whose count has come, whichever program it names. -/
def dueHalt (d : Dev) (t : Nat) : Option Cmd :=
  match earliestArmed d t 0x302 with | some c => if countDue d.whl c.count then some c else none | none => none

/-- A HALT_AT command takes effect: it stops the program it names, if that one is still there (R529, R531). -/
def haltByRing (t : Nat) (c : Cmd) (d0 : Dev) : Dev :=
  let d := completeBefore t c.count d0
  if faultDue d t then d
  else
    let hit := isLive (tenOf d t).st && (match (tenOf d t).program with | some p => p.launch == c.aux | none => false)
    finishAt c.id sOk c.count (if hit then 1 else 0) c.count (if hit then haltProgram t c.count d else d)

/-- The HALT_AT of a replay takes effect (16 R583). -/
def haltByReplay (t h : Nat) (d0 : Dev) : Dev :=
  let d := completeBefore t h d0
  if faultDue d t ∨ isLive (tenOf d t).st = false then d else haltProgram t h d

/-- HALT_AT_REACHED: the earlier of a tenancy's HALT_AT commands and the halt its replay armed (15 R529, R531; 16 R583). -/
def opHaltAtReached (t : Nat) (d : Dev) : Dev :=
  let h := ((tenOf d t).replay.bind (·.haltAt)).filter (countDue d.whl)
  match h, dueHalt d t with
  | some h, some c => if h ≤ c.count then haltByReplay t h d else haltByRing t c d
  | some h, none => haltByReplay t h d
  | none, some c => haltByRing t c d
  | none, none => d

/-- The tick view of a tenancy's clusters holds at the last position before wheel s (14 R501). -/
def holdViews (t s : Nat) (d : Dev) : Dev :=
  let pos := ((s + 3) % 4, d.whl.w - 1)
  (imageClusters (tenOf d t)).foldl (fun a c => modCl c (fun k => { k with tv := pos, tvHeld := true }) a) d

def releaseViews (t : Nat) (d : Dev) : Dev :=
  (imageClusters (tenOf d t)).foldl (fun a c => modCl c (fun k => { k with tvHeld := false }) a) d

/-- SUSPEND_EFFECT (14 R501, R504; 15 R530, R531). -/
def opSuspendEffect (t : Nat) (d : Dev) : Dev :=
  let x := tenOf d t
  match earliestArmed d t 0x303 with
  | some c =>
    if countDue d.whl c.count = false ∨ faultDue d t = true then d
    else
      let halted := haltBy d t c.count
      match x.program with
      | some p =>
        let past := x.st = .running ∧ p.completion ≤ c.count
        if halted = true ∨ past ∨ (x.st ≠ .armed ∧ x.st ≠ .running) then finish c.id sBusy 0 0 d
        else
          let s := if x.st = .armed then max p.launch c.count / d.whl.w else c.count / d.whl.w
          finishAt c.id sOk 0 0 c.count
            (modTen t (fun x => { x with st := .suspended, suspendedAt := some s, suspendGc := c.count }) (holdViews t s (closeSegs t d)))
      | none => finish c.id sBusy 0 0 d
  | none => d

/-- First wheel from b on that is congruent to s modulo 4 (14 R502). -/
def resumeWheel (s b : Nat) : Nat := b + (s + 4 - b % 4) % 4

/-- A count moved by (r - s) W; r lies before s where a launch still ahead was suspended (14 R503, R504). -/
def moveCount (d : Dev) (x r s : Nat) : Nat := x + r * d.whl.w - s * d.whl.w

/-- RESUME_EFFECT (14 R502 to R505). -/
def opResumeEffect (t : Nat) (d : Dev) : Dev :=
  let x := tenOf d t
  match earliestArmed d t 0x304 with
  | some c =>
    if countDue d.whl c.count = false ∨ faultDue d t = true ∨ commitDue d = true then d
    else
      match x.st, x.suspendedAt, x.program with
      | .suspended, some s, some p =>
        let r := c.count / d.whl.w
        let d1 := releaseViews t (modTen t (fun x => { x with st := .running, suspendedAt := none })
          (holdUnits t c.count d))
        let d2 :=
          if p.started then
            openSegs t p.bucket (modTen t (fun x => { x with
              completion := moveCount d x.completion r s
              program := some { p with completion := moveCount d p.completion r s } }) d1)
          else startProgram t (moveCount d (p.launch + imageTicks x) r s)
            (modTen t (fun x => { x with program := some { p with current := false } }) d1)
        finish c.id sOk c.count 0 d2
      | _, _, _ => finish c.id sBusy 0 0 d
  | none => d

/-- WAIT_COUNT_REACHED (15 R533): every WAIT_COUNT whose count has been reached. -/
def opWaitCountReached (d : Dev) : Dev :=
  (openCmds d fun c => opcodeOf c == 0x306 && c.stage == .armed && countDue d.whl c.count).foldl
    (fun a c => finishAt c.id sOk 0 0 c.count a) d

/-! ## Faults -/

/-- FAULT_RAISED (21 R709, R710). -/
def opFaultRaised (t code : Nat) (d : Dev) : Dev := raiseFault t code d

/-- The stop of a faulted tenancy at a boundary (21 R712). -/
def stopFaulted (t gc : Nat) (d : Dev) : Dev :=
  let code := (tenOf d t).fault
  if isLive (tenOf d t).st then
    let d1 := releaseUnits t (stopHardware t d)
    let d2 := modTen t (fun x => { x with st := .faulted, stopDue := false }) (endProgram t sFaulted code gc false d1)
    abortCmds (fun c => c.stage == .armed && cmdTen d2 c == t && [0x302, 0x303, 0x304].contains (opcodeOf c)) sFaulted code (some gc) d2
  else modTen t (fun x => { x with stopDue := false }) d

/-- FAULT_STOP. -/
def opFaultStop (t : Nat) (d : Dev) : Dev :=
  if faultDue d t then stopFaulted t (if counted d.whl then d.whl.n * d.whl.w else (d.whl.n + 1) * d.whl.w) d else d

/-! ## Launch (15 R527) -/

/-- The bucket a launch selects and its words s24 to s31, or the status that refuses it (11 R407; 12 R426). -/
def selectBucket (x : Tenancy) (im : Loaded) (p : Line) : Except Nat (Nat × List Nat) :=
  if im.shapeBound then
    let sp := (List.range 4).map fun i => pkField p (24 + 4 * i) 4
    let fits (k : Nat) : Bool :=
      let m := im.maxima.getD k []
      (List.range im.numSp).all fun i => decide (sp.getD i 0 ≤ m.getD i 0)
    let k := if x.bucket = 255 then (List.range im.numBuckets).find? fits else if fits x.bucket then some x.bucket else none
    match k with
    | none => .error sShape
    | some k =>
      match (im.policies.getD k []).mapM fun e => policyEval sp (e.length + 1) [] e with
      | some ws => .ok (k, ws)
      | none => .error sBadImage
  else .ok (0, (List.range 8).map fun i => pkField p (24 + 4 * i) 4)

/-- A launch is posted: the tenancy is ARMED. -/
def postLaunch (t launch k : Nat) (words : List Nat) (cmd : Nat) (rec_ replayed : Bool) (d : Dev) : Dev :=
  modTen t (fun x =>
    let p : Program :=
      { launch := launch, completion := launch + imageTicks x, bucket := k, words := words, cmd := cmd, recorded := rec_
        replayed := replayed, varAt := varCounts x }
    { x with st := .armed, fresh := false, program := some p, launchCount := launch, completion := launch + imageTicks x }) d

/-- Reserves journal space for the launch's LAUNCH_END (16 R579). -/
def reserveEnd (t : Nat) (d : Dev) : Dev :=
  modTen t (fun x => { x with journal := x.journal.map fun j => { j with reserved := launchEndLen x } }) d

def smallestLaunch (w gc : Nat) : Nat := ceilDiv (gc + 2 * w) w * w

/-- A launch at a count that passed checks 1 to 5 of R527. -/
def launchBody (t launch : Nat) (c : Cmd) (im : Loaded) (d : Dev) : Dev :=
  let x := tenOf d t
  match selectBucket x im c.pkt with
  | .error st => finish c.id st 0 0 d
  | .ok (k, ws) =>
    match recording x c.pkt, x.journal with
    | true, some j =>
      let r := commandRec (gcOf d.whl) c launch
      if roomFor d t j < r.length + launchEndLen x then finish c.id sJournalFull 0 0 d
      else armCmd c.id launch k (postLaunch t launch k ws c.id true false (reserveEnd t (journalAppend t r d)))
    | _, _ => armCmd c.id launch k (postLaunch t launch k ws c.id false false d)

/-- The span of a span image is LOCKED or SLIPPING. -/
def spanRuns (d : Dev) (im : Loaded) : Bool :=
  im.ranks == 0 || (d.span.joined && (d.span.state == .locked || d.span.state == .slipping))

def replayOpen (d : Dev) (t : Nat) : Bool := (tenOf d t).replay.isSome

def opLaunchAt (r : Nat) : Dev → Dev := runTen r 0x300 fun t c d =>
  let x := tenOf d t
  match x.st, x.image with
  | .loaded, some im =>
    let n := pkField c.pkt 16 8
    if bufferOpen d t || loadRuns d t || replayOpen d t then finish c.id sBusy 0 0 d
    else if !spanRuns d im then finish c.id sSpanHalted 0 0 d
    else if n % d.whl.w ≠ 0 then finish c.id sBadParam 0 0 d
    else if n < gcOf d.whl + 2 * d.whl.w then finish c.id sLate 0 0 d
    else launchBody t n c im d
  | _, _ => finish c.id sBusy 0 0 d

def opLaunchNext (r : Nat) : Dev → Dev := runTen r 0x301 fun t c d =>
  let x := tenOf d t
  match x.st, x.image with
  | .loaded, some im =>
    if bufferOpen d t || loadRuns d t || replayOpen d t then finish c.id sBusy 0 0 d
    else if im.bound ≠ [] then finish c.id sNotPermitted 0 0 d
    else if !spanRuns d im then finish c.id sSpanHalted 0 0 d
    else launchBody t (smallestLaunch d.whl.w (gcOf d.whl)) c im d
  | _, _ => finish c.id sBusy 0 0 d

/-! ## HALT_AT, SUSPEND, RESUME, FENCE, WAIT_COUNT (15 R529 to R533; 14 R482, R501 to R504) -/

/-- AUX of a HALT_AT record (16 Table DET-4). -/
def haltAux (x : Tenancy) (n : Nat) : Nat :=
  match x.program with | some p => (n + pow2 64 - p.launch) % pow2 64 | none => 0xFFFFFFFFFFFFFFFF

/-- The launch count that tells a tenancy's programs apart. -/
def launchOf (x : Tenancy) : Nat := match x.program with | some p => p.launch | none => 0

def opHaltAt (r : Nat) : Dev → Dev := runTen r 0x302 fun t c d =>
  let x := tenOf d t
  let n := pkField c.pkt 16 8
  if !isLive x.st then finish c.id sBusy 0 0 d
  else if n % d.whl.w ≠ 0 then finish c.id sBadParam 0 0 d
  else
    let e := boundaryAt d n
    match recording x c.pkt, x.journal with
    | true, some j =>
      let rec_ := commandRec (gcOf d.whl) c (haltAux x e)
      if roomFor d t j < rec_.length then finish c.id sJournalFull 0 0 d else armCmd c.id e (launchOf x) (journalAppend t rec_ d)
    | _, _ => armCmd c.id e (launchOf x) d

def bindsLink (x : Tenancy) : Bool := match x.image with | some im => !im.bound.isEmpty | none => false

def opSuspend (r : Nat) : Dev → Dev := runTen r 0x303 fun t c d =>
  let x := tenOf d t
  let n := pkField c.pkt 16 8
  if recClass (grantOf d t) ≠ 3 ∨ bindsLink x = true then finish c.id sNotPermitted 0 0 d
  else if x.st ≠ .armed ∧ x.st ≠ .running then finish c.id sBusy 0 0 d
  else if n % d.whl.w ≠ 0 then finish c.id sBadParam 0 0 d
  else armCmd c.id (boundaryAt d n) 0 d

def opResume (r : Nat) : Dev → Dev := runTen r 0x304 fun t c d =>
  let x := tenOf d t
  let n := pkField c.pkt 16 8
  match recClass (grantOf d t), x.st, x.suspendedAt with
  | 3, .suspended, some s =>
    if bufferOpen d t then finish c.id sBusy 0 0 d
    else armCmd c.id (resumeWheel s (boundaryAt d (ceilDiv n d.whl.w * d.whl.w) / d.whl.w) * d.whl.w) 0 d
  | 3, _, _ => finish c.id sBusy 0 0 d
  | _, _, _ => finish c.id sNotPermitted 0 0 d

/-- FENCE: every command of the ring that started before it has its reply written (R532). -/
def opFence (r : Nat) : Dev → Dev := runCmd r 0x305 fun c d =>
  if (d.host.cmds.takeWhile fun x => x.id != c.id).any (fun x => x.ring == c.ring) then d else finish c.id sOk 0 0 d

def opWaitCount (r : Nat) : Dev → Dev := runCmd r 0x306 fun c d =>
  let n := pkField c.pkt 16 8
  if countPassed d.whl n then finish c.id sOk 0 0 d else armCmd c.id n 0 d

end Sys2Proof.Machine
end

