-- ==== Sys2Proof/Machine/Timers.lean ====
section
/-!
DEFINITION. Timer channels and pins (18; 15 R541, R542; 23 R765).
-/
namespace Sys2Proof.Machine

def tmrOf (d : Dev) (n : Nat) : Timer := tabGet {} d.tmr n
def modTmr (n : Nat) (f : Timer → Timer) (d : Dev) : Dev := { d with tmr := tabMod {} n f d.tmr }

/-- Owner of a channel: the tenancy whose TMR_MASK grants it (R616). -/
def tmrOwner (d : Dev) (n : Nat) : Option Nat := (List.range 32).find? fun t => bit (recTmr (grantOf d t)) n

/-- The function that reaches a channel's registers (R616). -/
def tmrFn (d : Dev) (n : Nat) : Nat := match tmrOwner d n with | some t => recFunction (grantOf d t) | none => 0

/-- Register writes to the block act (R639; 15 R514). -/
def tmrWritable (d : Dev) : Bool := booted d && d.boot.state != .held

/-- GC in a tick of the wheel that turns, or in the guard after it. -/
def gcAt (w : Wheel) (t : Nat) : Nat := gcOf { w with now := max w.now t }

/-! ## Pin and events (R625 to R628) -/

def pinAct (code : Nat) (level : Bool) : Bool := match code with | 1 => true | 2 => false | 3 => !level | _ => level

/-- Signals an event whose bit goes from 0 to 1 (R628; 23 R771, Table REG-11). -/
def tmrCause (n : Nat) (d : Dev) : Dev := match tmrOwner d n with | some t => raiseCause t 1 d | none => raiseDev 10 d

/-- Sets event bits after a channel changed. -/
def signalEvents (n : Nat) (was : Timer) (cmp wrap : Bool) (d : Dev) : Dev :=
  let d1 := modTmr n (fun x => { x with evtCmp := x.evtCmp || cmp, evtWrap := x.evtWrap || wrap }) d
  if (cmp && !was.evtCmp) || (wrap && !was.evtWrap) then tmrCause n d1 else d1

def wrapPin (x : Timer) (p : Bool) : Bool := pinAct (bits x.actions 4 3) p
def cmpPin (x : Timer) (p : Bool) : Bool := pinAct (bits x.actions 1 0) p

/-! ## Steps (R619, R621 to R626) -/

/-- The counter, direction and running bit after a step, and whether it is a wrap step. -/
def stepCount (x : Timer) : Nat × Bool × Bool × Bool :=
  match x.mode with
  | 0 => if x.cnt < x.top then (x.cnt + 1, false, true, false) else (x.cnt, false, false, true)
  | 1 => if x.cnt < x.top then (x.cnt + 1, false, true, false) else (0, false, true, true)
  | _ =>
    if x.down then (x.cnt - 1, decide (1 < x.cnt), true, decide (x.cnt ≤ 1))
    else (x.cnt + 1, decide (x.top ≤ x.cnt + 1), true, false)

/-- TIMER_STEP: the step of a channel at fabric tick t. -/
def opTimerStep (n t : Nat) (d : Dev) : Dev :=
  let x := tmrOf d n
  if x.running && decide (d.whl.now ≤ t) && (if x.refclk then decide (x.last < t) else t == x.last + x.prescale + 1) then
    let s := stepCount x
    let wrap := s.2.2.2
    let hit := !x.blind && s.1 == x.compare && (s.2.2.1 || !wrap)
    let p1 := if wrap then wrapPin x x.pin else x.pin
    let p2 := if hit then cmpPin x p1 else p1
    signalEvents n x (hit && bit x.actions 2) (wrap && bit x.actions 5)
      (modTmr n (fun x => { x with
        cnt := s.1, down := s.2.1, running := s.2.2.1, last := t, pin := p2 && x.pinEn, blind := x.blind && !wrap }) (advanceTo t d))
  else d

/-- PASSED_COMPARE_FIRE (R635). -/
def opPassedCompareFire (n : Nat) (d : Dev) : Dev :=
  let x := tmrOf d n
  if x.fire then
    signalEvents n x (bit x.actions 2) false (modTmr n (fun x => { x with fire := false, pin := cmpPin x x.pin && x.pinEn }) d)
  else d

/-! ## Starts (R620, R630 to R632) -/

/-- A channel at its start tick. -/
def startTimer (t : Nat) (x : Timer) : Timer :=
  { x with cnt := 0, last := t, down := false, running := true, waiting := false, startGc := none, startTick := none, group := false
           blind := false, fire := false }

/-- A start count that has passed at tick t. -/
def missStart (t : Nat) (x : Timer) : Timer :=
  if x.fireIfPast then { x with startGc := none, startTick := some (t + 1) }
  else { x with startGc := none, missed := true, group := true }

/-- A channel's start tick is t. -/
def startsAt (w : Wheel) (t : Nat) (x : Timer) : Bool :=
  x.waiting && (x.startTick == some t || (counted w && x.startGc == some (gcOf w)))

/-- TIMER_START: every channel whose start tick is t starts, and a group start that named it is answered. -/
def opTimerStart (t : Nat) (d : Dev) : Dev :=
  if t < d.whl.now then d
  else
    let d0 := advanceTo t d
    let w := d0.whl
    let d1 := { d0 with tmr := d0.tmr.map fun e => if startsAt w t e.2 then (e.1, startTimer t e.2) else e }
    let due (c : Cmd) : Bool := opcodeOf c == 0x504 && c.stage == .armed && (c.aux == t + 1 || (c.aux == 0 && counted w && c.count == gcOf w))
    (openCmds d1 due).foldl (fun a c => finish c.id sOk (gcOf w) c.res1 a) d1

/-- A waiting channel's start count has passed (R632; 03 R106). -/
def startPassed (w : Wheel) (x : Timer) : Bool :=
  x.waiting && match x.startGc with | some g => decide (g < gcOf w) | none => false

/-- TIMER_START_MISSED: a start count that a forming step skipped. -/
def opTimerStartMissed (d : Dev) : Dev :=
  let w := d.whl
  let due (c : Cmd) : Bool := opcodeOf c == 0x504 && c.stage == .armed && c.aux == 0 && decide (c.count < gcOf w)
  let mask (c : Cmd) : Nat := pkField c.pkt 16 2
  let answer (a : Dev) (c : Cmd) : Dev :=
    let missed := (List.range 16).filter fun n => bit (mask c) n && startPassed w (tmrOf d n) && !(tmrOf d n).fireIfPast
    let m := missed.foldl (fun a n => a + pow2 n) 0
    if m = mask c then finish c.id sOk 0 m a
    else modCmd c.id (fun c => { c with aux := w.now + 2, res1 := m }) a
  (openCmds d due).foldl answer
    { d with tmr := d.tmr.map fun e => if startPassed w e.2 then (e.1, missStart w.now e.2) else e }

/-! ## Register writes (R629, R631, R633 to R635) -/

/-- CMP_LO_WRITE. -/
def opCmpLoWrite (fn n : Nat) (v : BitVec 32) (d : Dev) : Dev :=
  if tmrWritable d && tmrFn d n == fn then modTmr n (fun x => { x with staged := true, stagedLo := v.toNat }) d else d

/-- The new compare value has passed (R634). -/
def comparePassed (x : Timer) (v : Nat) : Bool :=
  x.running && (if x.mode = 2 then x.down && decide (x.cnt ≤ v) else decide (v ≤ x.cnt))

/-- CMP_HI_WRITE: commits both halves. -/
def opCmpHiWrite (fn n : Nat) (v : BitVec 32) (d : Dev) : Dev :=
  if tmrWritable d && tmrFn d n == fn then
    modTmr n (fun x =>
      let c := v.toNat * pow2 32 + (if x.staged then x.stagedLo else x.compare % pow2 32)
      let y := { x with staged := false }
      if x.top < c then { y with missed := true }
      else if comparePassed x c then
        (if x.fireIfPast then { y with compare := c, fire := true, blind := false } else { y with compare := c, missed := true, blind := true })
      else { y with compare := c, blind := false }) d
  else d

/-- TMR_GSTART: the write takes effect at the present tick. -/
def opTmrGstart (fn : Nat) (mask : BitVec 16) (d : Dev) : Dev :=
  if tmrWritable d then
    { d with tmr := d.tmr.map fun e =>
        if bit mask.toNat e.1 && e.2.waiting && tmrFn d e.1 == fn then (e.1, startTimer d.whl.now e.2) else e }
  else d

/-! ## TIMER_PROGRAM and TIMER_START_GROUP (R623, R630, R632; 15 R541, R542) -/

/-- The parameters break R541 or R623. -/
def timerBadParam (p : Line) : Bool :=
  let f (lo n : Nat) : Nat := pkField p lo n
  let ch := f 16 1
  let mode := bits (f 17 1) 2 1
  let act := f 18 1
  let pinEn := bit (f 19 1) 0
  decide (15 < ch) || mode == 3 || decide (f 32 8 < f 24 8) || (mode == 2 && f 32 8 == 0) || decide (2 < f 40 1) ||
  (f 48 8 != 0 && f 40 1 != 2) || (!pinEn && (bits act 1 0 != 0 || bits act 4 3 != 0)) || (pinEn && decide (8 ≤ ch))

/-- The channel as TIMER_PROGRAM writes it, before its start: stopped, its counter at 0 and its status cleared (R630, R638). -/
def programmed (p : Line) (x : Timer) : Timer :=
  let f (lo n : Nat) : Nat := pkField p lo n
  let pinEn := bit (f 19 1) 0
  { x with
    prescale := f 20 2, compare := f 24 8, top := f 32 8, refclk := bit (f 17 1) 0, mode := bits (f 17 1) 2 1, actions := f 18 1
    pinEn := pinEn, fireIfPast := bit (f 19 1) 1, cnt := 0, down := false, staged := false, running := false, waiting := true
    missed := false, evtCmp := false
    evtWrap := false, pin := x.pin && pinEn, startGc := none, startTick := none, group := f 40 1 == 0, blind := false, fire := false }

/-- A ring may program a channel (R541). -/
def mayProgram (d : Dev) (r n : Nat) : Bool :=
  let g := ringOf d r
  if g.ten < 32 then tmrOwner d n == some g.ten else g.function == 0 && tmrOwner d n == none

/-- A ring that serves no tenancy and is not the physical function's may not, nor one whose tenancy holds no grant. -/
def runTimer (r op : Nat) (body : Cmd → Dev → Dev) : Dev → Dev := runCmd r op fun c d =>
  let g := ringOf d r
  if 32 ≤ g.ten then (if g.function = 0 then body c d else finish c.id sNotPermitted 0 0 d)
  else if recClass (grantOf d g.ten) = 0 then finish c.id sNotPermitted 0 0 d
  else if (tenOf d g.ten).st = .draining then finish c.id sBusy 0 0 d
  else body c d

def opTimerProgram (r : Nat) : Dev → Dev := runTimer r 0x503 fun c d =>
  let p := c.pkt
  let n := pkField p 16 1
  if timerBadParam p then finish c.id sBadParam 0 0 d
  else if !mayProgram d r n then finish c.id sNotPermitted 0 0 d
  else
    let now := d.whl.now
    let d1 := modTmr n (programmed p) d
    match pkField p 40 1 with
    | 0 => finish c.id sOk 0 0 d1
    | 1 => finish c.id sOk (gcOf d.whl) 0 (modTmr n (startTimer now) d1)
    | _ =>
      let g := pkField p 48 8
      if countPassed d.whl g then
        let d2 := modTmr n (missStart now) d1
        if (tmrOf d2 n).missed then finish c.id sOk 0 1 d2 else finish c.id sOk (gcAt d.whl (now + 1)) 0 d2
      else finish c.id sOk g 0 (modTmr n (fun x => { x with startGc := some g }) d1)

/-- Channels of a mask. -/
def maskChannels (m : Nat) : List Nat := (List.range 16).filter (bit m)

def opTimerStartGroup (r : Nat) : Dev → Dev := runTimer r 0x504 fun c d =>
  let m := pkField c.pkt 16 2
  let g := pkField c.pkt 24 8
  let chs := maskChannels m
  let now := d.whl.now
  let all (f : Timer → Timer) (d : Dev) : Dev := chs.foldl (fun a n => modTmr n f a) d
  if !chs.all (mayProgram d r) then finish c.id sNotPermitted 0 0 d
  else if !chs.all (fun n => (tmrOf d n).waiting && (tmrOf d n).group) then finish c.id sBusy 0 0 d
  else if g = 0 then
    armCmd c.id 0 (now + 2) (all (fun x => { x with startTick := some (now + 1) }) d)
  else if countPassed d.whl g then
    let d1 := all (missStart now) d
    let late := chs.filter fun n => (tmrOf d1 n).missed
    let lm := late.foldl (fun a n => a + pow2 n) 0
    if late = chs then finish c.id sOk 0 lm d1
    else modCmd c.id (fun c => { c with res1 := lm }) (armCmd c.id 0 (now + 2) d1)
  else armCmd c.id g 0 (all (fun x => { x with startGc := some g }) d)

end Sys2Proof.Machine
end

