-- ==== Sys2Proof/Machine/Queries.lean ====
section
/-!
DEFINITION. General commands, queries and the count (15 R515, R540, Tables CMD-3 to CMD-7, CMD-20).
-/
namespace Sys2Proof.Machine

/-! ## Codes -/

def devCode : DevState → Nat
  | .powerup => 0 | .boot => 1 | .held => 2 | .active => 3 | .drain => 4 | .halted => 5

def spanCode : SpanState → Nat
  | .locked => 0 | .forming => 1 | .slipping => 2 | .halted => 3

def syncCode : SyncMode → Nat
  | .off => 0 | .source => 1 | .sink => 2

def tenCode : TenState → Nat
  | .vacant => 0 | .staged => 1 | .loaded => 2 | .armed => 3 | .running => 4 | .suspended => 5 | .faulted => 6 | .draining => 7

def linkCode : LinkState → Nat
  | .off => 0 | .detect => 1 | .equalise => 2 | .align => 3 | .measure => 4 | .confirm => 5 | .ready => 6 | .lost => 7

def b2n (b : Bool) : Nat := if b then 1 else 0

/-- Bits of a list of flags, the first in bit 0. -/
def flagBits : List Bool → Nat
  | [] => 0
  | b :: bs => b2n b + 2 * flagBits bs

def words4 (ws : List Nat) : List Byte := ws.flatMap (leBytes 4)

/-! ## QUERY_DEVICE (Table CMD-4) -/

def trainedMask (d : Dev) : Nat := flagBits ((List.range 16).map fun l => (lnkOf d l).state == .ready)

/-- Bytes 166 and 167 of IDENT. -/
def clockFlags (d : Dev) : Nat :=
  flagBits [d.whl.syncLost, d.whl.syncDisagree, d.boot.refLoss, d.boot.fabLoss, d.boot.ctlLoss] + d.boot.colLoss.toNat * 32

/-- Table CMD-5, with a value for bytes 152 to 159. -/
def identBytes (d : Dev) (gc : Nat) : List Byte :=
  let fw := d.boot.firmware.getD {}
  leBytes 8 d.fuse.serial.toNat ++ leBytes 1 0xB0 ++ leBytes 1 d.fuse.grade ++ leBytes 2 fw.line ++ leBytes 2 fw.build ++
    leBytes 1 (devCode d.boot.state) ++ leBytes 1 (spanCode d.span.state) ++
    ((List.range 32).flatMap fun i => leBytes 2 (enabledSlots d i)) ++ leBytes 2 d.fuse.links ++ leBytes 2 (trainedMask d) ++
    ((List.range 32).flatMap fun _ => leBytes 2 ceilingCode) ++
    leBytes 2 d.span.ownRank ++ leBytes 2 d.span.masterRank ++ leBytes 8 gc ++ leBytes 4 d.whl.w ++ leBytes 1 d.whl.g ++
    leBytes 1 (syncCode d.whl.syncMode) ++ leBytes 2 (clockFlags d) ++ leBytes 88 0

def fabWords (c : FabCtr) : List Nat :=
  [c.eccCorr, c.eccUncorr, c.tagMismatch, c.lbOverwrite, c.voidRx, c.voidMade, c.unrouted, c.darkDrop]

/-- Counters of a port: a cluster port's, or any other's. -/
def ctrOf (d : Dev) (i p : Nat) : FabCtr :=
  if p < 16 then tabGet {} d.fab.clCtr (16 * i + p) else tabGet {} d.fab.portCtr (32 * i + p)

def switchBytes (d : Dev) (keep : Nat → Nat → Bool) : List Byte :=
  (List.range 1024).flatMap fun x =>
    if keep (x / 32) (x % 32) then words4 (fabWords (ctrOf d (x / 32) (x % 32))) else leBytes 32 0

def clusterWords (d : Dev) (c : Nat) : List Nat :=
  let m := tabGet {} d.mem.ctr c
  let k := clOf d c
  [m.paneCorr, m.paneUncorr, m.paneClash, m.colCorr, m.colUncorr, m.colOdecc, m.colLate, m.colBusy, m.colDiscard, m.paneStored,
    m.colStored, k.bstoreEccCorr, k.lsLate, k.lsOverrun, k.waitLate, k.digOverflow]

def clusterBytes (d : Dev) (keep : Nat → Bool) : List Byte :=
  (List.range 512).flatMap fun c => if keep c then words4 (clusterWords d c) else leBytes 64 0

def shelfBytes (d : Dev) : List Byte :=
  (List.range 4).flatMap fun q =>
    let s := tabGet {} d.mem.shelfCtr q
    words4 ([s.corr, s.uncorr, s.stored, 0, 0, 0, 0, 0] ++ (List.range 8).map fun k => tabGet 0 d.mem.shelfUnwritten (8 * q + k))

/-- Table CMD-20. -/
def linkBytes (d : Dev) (l : Nat) : List Byte :=
  let k := lnkOf d l
  let c := k.ctr
  leBytes 1 (linkCode k.state) ++ leBytes 1 k.width ++ leBytes 1 k.f ++
    leBytes 1 (flagBits [k.long, k.disabled, !bit d.fuse.links l]) ++ leBytes 2 k.fFine ++ leBytes 1 k.peerLink ++
    leBytes 1 k.widthLimit ++ leBytes 8 k.peerSerial.toNat ++ leBytes 3 k.laneMap.toNat ++ leBytes 1 0 ++
    words4 [c.framesCorr, c.symbolsCorr, c.framesUncorr, c.flitEccCorr, c.replaysSent, c.replaysReceived, c.unrepaired,
      c.slipRequests, c.absentRx, c.laneDrop, c.losses]

def errBytes (d : Dev) : List Byte :=
  (List.range 1028).flatMap fun k =>
    if tabHas d.mem.log k then
      let e := tabGet ⟨0, 63, 0⟩ d.mem.log k
      leBytes 8 e.addr ++ leBytes 1 (if e.ten < 32 then e.ten else 0xFF) ++ leBytes 1 e.kind ++ leBytes 6 0
    else leBytes 8 0 ++ leBytes 1 0xFF ++ leBytes 7 0

def islandCode (d : Dev) (i : Nat) : Nat := if (islOfDev d i).oscOn then (islOfDev d i).current else 0

def islandBytes (d : Dev) : List Byte :=
  words4 ((List.range 32).map fun i => (islOfDev d i).stretch) ++ ((List.range 32).flatMap fun i => leBytes 2 (islandCode d i)) ++
    leBytes 4 (flagBits ((List.range 32).map fun i => (islOfDev d i).droop)) ++ leBytes 60 0

def dmaOf (d : Dev) (e : Nat) : Dma := tabGet {} d.dma e
def modDma (e : Nat) (f : Dma → Dma) (d : Dev) : Dev := { d with dma := tabMod {} e f d.dma }

/-- The counters of 19 R668 in order. -/
def dmaWords (x : Dma) : List Nat :=
  [x.descErr, x.starved, x.lateCompl, x.overflow, x.unexpected, x.short, x.readFlits, x.writeFlits]

def dmaBytes (d : Dev) : List Byte := (List.range 32).flatMap fun e => words4 (dmaWords (dmaOf d e))

def tableBytes (d : Dev) : List Byte :=
  (List.range 80).flatMap fun k => words4 [tabGet 0 d.fab.tabCorr k, tabGet 0 d.fab.tabUncorr k]

/-- Size and content of a section of QUERY_DEVICE. -/
def deviceSection (d : Dev) (s : Nat) : Option (Nat × (Unit → List Byte)) :=
  match s with
  | 0 => some (256, fun _ => identBytes d (gcOf d.whl))
  | 1 => some (32768, fun _ => switchBytes d fun _ _ => true)
  | 2 => some (32768, fun _ => clusterBytes d fun _ => true)
  | 3 => some (256, fun _ => shelfBytes d)
  | 4 => some (1024, fun _ => (List.range 16).flatMap (linkBytes d))
  | 5 => some (16448, fun _ => errBytes d)
  | 6 => some (256, fun _ => islandBytes d)
  | 7 => some (1024, fun _ => dmaBytes d)
  | 8 => some (640, fun _ => tableBytes d)
  | _ => none

def opNop (r : Nat) : Dev → Dev := runCmd r 0x0001 fun c d => finish c.id sOk 0 0 d

/-- QUERY_DEVICE (R515); reading section 5 clears the log (06 R238). -/
def opQueryDevice (r : Nat) : Dev → Dev := runCmd r 0x0002 fun c d =>
  let addr := pkField c.pkt 16 8
  let s := pkField c.pkt 28 1
  match deviceSection d s with
  | none => finish c.id sBadParam 0 0 d
  | some (size, bytes) =>
    if addr % 64 ≠ 0 ∨ pkField c.pkt 24 4 < size then finish c.id sBadParam 0 0 d
    else if s = 7 ∧ cmdFn d c ≠ 0 then finish c.id sNotPermitted 0 0 d
    else
      let d1 := finish c.id sOk size size (hostWrite c addr (bytes ()) d)
      if s = 5 then { d1 with mem := { d1.mem with log := [] } } else d1

/-! ## QUERY_TENANCY (Table CMD-6, Table CMD-7) -/

/-- Expiry count of a shared unit's lease held by a tenancy. -/
def leaseExpiry (d : Dev) (t u : Nat) : Nat :=
  match (bsuOf d u).lease with | some (h, e) => if h = t then e else 0 | none => 0

def summaryBytes (d : Dev) (t : Nat) : List Byte :=
  let x := tenOf d t
  let canon := match x.image with | some im => im.canonical | none => false
  let shape := match x.image with | some im => im.shapeBound | none => false
  leBytes 1 t ++ leBytes 1 (tenCode x.st) ++ leBytes 1 (recClass (grantOf d t)) ++ leBytes 1 x.fault ++
    leBytes 1 (flagBits [isClearing d t, x.loading.isSome, canon, shape, x.digMark, x.journal.isSome]) ++ leBytes 1 x.bucket ++
    leBytes 2 0 ++ leBytes 8 x.imageId ++ leBytes 8 x.launchCount ++ leBytes 8 x.completion ++ leBytes 8 x.faultGc ++
    leBytes 4 x.svcIn ++ leBytes 4 x.svcOut ++ leBytes 4 x.svcInMax ++ leBytes 4 x.svcOutMax ++ leBytes 8 x.waitPcie ++ leBytes 8 x.waitHost ++
    ((List.range 4).flatMap fun u => leBytes 8 (leaseExpiry d t u)) ++ leBytes 152 0

def slotmapBytes (d : Dev) (t : Nat) : List Byte :=
  let m := match (tenOf d t).image with | some im => im.slotMap | none => []
  (List.range 512).map fun k => BitVec.ofNat 8 (tabGet 0xFF m k)

def tenancySection (d : Dev) (t s : Nat) : Option (Nat × (Unit → List Byte)) :=
  let own (c : Nat) : Bool := recHasCluster (grantOf d t) c
  match s with
  | 0 => some (256, fun _ => summaryBytes d t)
  | 1 => some (512, fun _ => slotmapBytes d t)
  | 2 => some (32768, fun _ => clusterBytes d own)
  | 3 => some (32768, fun _ => switchBytes d fun i p => decide (p < 16) && own (16 * i + p))
  | _ => none

/-- QUERY_TENANCY; each query advances the counter that the free service times read. -/
def opQueryTenancy (r : Nat) : Dev → Dev := runCmd r 0x0003 fun c d =>
  let addr := pkField c.pkt 16 8
  let ten := pkField c.pkt 29 1
  let body (t : Nat) : Dev :=
    match tenancySection d t (pkField c.pkt 28 1) with
    | none => finish c.id sBadParam 0 0 d
    | some (size, bytes) =>
      if addr % 64 ≠ 0 ∨ pkField c.pkt 24 4 < size then finish c.id sBadParam 0 0 d
      else finish c.id sOk size size (hostWrite c addr (bytes ()) (modHost (fun h => { h with nextId := h.nextId + 1 }) d))
  if ten = 0xFF then
    let t := cmdTen d c
    if 32 ≤ t ∨ recClass (grantOf d t) = 0 then finish c.id sNotPermitted 0 0 d else body t
  else if 32 ≤ ten then finish c.id sBadParam 0 0 d
  else if cmdFn d c ≠ 0 then finish c.id sNotPermitted 0 0 d
  else body ten

/-- COUNT_READ (R540): GC, wheel number, tick and flags from one sample. -/
def opCountRead (r : Nat) : Dev → Dev := runCmd r 0x0502 fun c d =>
  let gc := gcOf d.whl
  let w1 := gc % d.whl.w % 65536 + b2n (!d.whl.slip && inGuard d.whl) * 65536 + b2n d.whl.slip * 131072 + spanCode d.span.state * 262144
  finishAt c.id sOk (gc / d.whl.w) w1 gc d

end Sys2Proof.Machine
end

