-- ==== Sys2Proof/Machine/Buffers.lean ====
section
/-!
DEFINITION. Buffer commands (15 R520 to R526, Table CMD-8) and the determinism commands that are done at once (15 R534
to R537, Table CMD-11, Table CMD-12).
-/
namespace Sys2Proof.Machine

/-! ## The area of a buffer command -/

/-- TIER, WIN, CLUSTER and OFFSET of a packet. -/
structure BufArea where
  tier : Nat
  win : Nat
  cl : Nat
  off : Nat
  deriving DecidableEq, Repr

def areaOf (p : Line) : BufArea :=
  { tier := pkField p 16 1, win := pkField p 17 1, cl := pkField p 20 2, off := pkField p 24 8 }

/-- Field values Table CMD-8 allows, with the alignment of R520. -/
def areaOk (a : BufArea) : Bool :=
  decide (a.tier < 3) && decide (a.win < 8) && (a.tier == 1 || a.win == 0) && decide (a.cl < 512) && (a.tier != 2 || a.cl == 0) &&
    a.off % 64 == 0

/-- n bytes from offset o of an area lie in a grant (R521). -/
def areaHeld (r : GrantRec) (a : BufArea) (o n : Nat) : Bool :=
  match a.tier with
  | 0 =>
    recHasCluster r a.cl && decide (o + n ≤ 0x400000) &&
      (List.range 64).all fun g => bit (recPane r) g || !overlaps o n (65536 * g) 65536
  | 1 => recHasCluster r a.cl && decide (o + n ≤ recWinSize r a.win * 1048576)
  | _ => decide (recShelfBase r * 65536 ≤ o) && decide (o + n ≤ (recShelfBase r + recShelfSize r) * 65536)

/-- Device address of offset 0 of an area (06 Table MEM-2). -/
def areaBase (r : GrantRec) (a : BufArea) : Nat :=
  match a.tier with
  | 0 => paneBase a.cl
  | 1 => colBase a.cl + recWinBase r a.win * 1048576
  | _ => shelfBase 0

/-- Bytes of an area's unit of protection (06 R232, R235). -/
def areaUnit (a : BufArea) : Nat := if a.tier = 1 then 64 else 8

/-! ## Reading -/

/-- First poisoned word of a line, as a byte offset. -/
def badWord (r : LineRead) : Option Nat := ((List.range 8).find? (bit r.poison)).map (8 * ·)

/-- Reads one line with its ECC counted: data, byte of its first poisoned unit. -/
def readAreaLine (a : BufArea) (addr : Nat) (d : Dev) : Nat × Option Nat × Dev :=
  match a.tier with
  | 0 =>
    if (clOf d a.cl).powered then
      let r := readLine8 d.mem addr
      (r.data.toNat, badWord r, countPane a.cl addr r d)
    else ((Config.darkPane addr).toNat, none, d)
  | 1 =>
    let l := (addr - colBase a.cl) / 64
    let r := readColLine d.mem a.cl l
    (r.data.toNat, if r.poison then some 0 else none, countCol a.cl l r d)
  | _ =>
    let q := (addr - shelfBase 0) / 0x4000000
    let r := readLine8 d.mem addr
    let d1 := modShelfCtr q (fun c => { corr := satAdd c.corr r.corr, uncorr := satAdd c.uncorr r.uncorr, stored := satAdd c.stored r.stored }) d
    (r.data.toNat, badWord r, logRead (1024 + q) addr r (shelfHolder d addr) d1)

/-- Reads n lines of which the first `used` bytes matter: the bytes before the first poisoned unit, and that unit's
byte (R523). -/
def readArea (a : BufArea) (addr used : Nat) : Nat → Nat → Dev → List Byte × Option Nat × Dev
  | 0, _, d => ([], none, d)
  | n + 1, at_, d =>
    let r := readAreaLine a (addr + at_) d
    match r.2.1 with
    | some o =>
      if at_ + o < used then (leBytes o r.1, some (at_ + o), r.2.2)
      else
        let x := readArea a addr used n (at_ + 64) r.2.2
        (leBytes 64 r.1 ++ x.1, x.2)
    | none =>
      let x := readArea a addr used n (at_ + 64) r.2.2
      (leBytes 64 r.1 ++ x.1, x.2)

/-! ## Buffer states and journal (R524; 16 R575, R581, R585) -/

/-- The tenancy admits a buffer command. -/
def bufferAdmits (d : Dev) (t : Nat) : Bool :=
  inStates d t [.vacant, .staged, .loaded, .suspended, .faulted] && !isClearing d t && !loadRuns d t && !replayOpen d t

/-- The tenancy has received a buffer command. -/
def markBuffer (t : Nat) (d : Dev) : Dev := modTen t (fun x => { x with fresh := false }) d

/-- Stores the bytes of a buffer command (log entry 111). -/
def storeArea (r : GrantRec) (a : BufArea) (data : List Byte) (d : Dev) : Dev :=
  { d with mem := storeBytes (areaUnit a) (areaBase r a + a.off) data d.mem }

/-- The data of BUFFER_FILL. -/
def fillBytes (pattern n : Nat) : List Byte := (List.replicate (n / 8) (leBytes 8 pattern)).flatten

def lengthOk (n : Nat) : Bool := n % 64 == 0 && decide (64 ≤ n) && decide (n ≤ 0xFFFFFFC0)

/-- The parameters of a BUFFER_WRITE, BUFFER_READ or BUFFER_FILL: the status that refuses them, if any. -/
def moveRefuse (d : Dev) (t op : Nat) (p : Line) : Option Nat :=
  let a := areaOf p
  let n := pkField p 40 4
  if !areaOk a || !lengthOk n || (op != 0x202 && pkField p 32 8 % 64 != 0) then some sBadParam
  else if !areaHeld (grantOf d t) a a.off n then some sNotPermitted
  else none

/-- The transfer a BUFFER_WRITE made (16 Table DET-4). -/
def writeXfer (p : Line) (gc : Nat) (data : List Byte) : Xfer :=
  { gc := gc, engine := 0xFF, addr := pkField p 32 8, len := pkField p 40 4, crc := crc32c data }

/-- BUFFER_WRITE. A recorded one keeps the journal it began in, as one more than START_GC. -/
def opBufferWrite (r : Nat) : Dev → Dev := runTen r 0x200 fun t c d =>
  let p := c.pkt
  let n := pkField p 40 4
  if c.stage = .ready then
    if !bufferAdmits d t then finish c.id sBusy 0 0 d
    else
      match moveRefuse d t 0x200 p with
      | some st => finish c.id st 0 0 d
      | none =>
        match recording (tenOf d t) p, (tenOf d t).journal with
        | true, some j =>
          let rec_ := commandRec (gcOf d.whl) c 0
          if roomFor d t j < rec_.length + 64 then finish c.id sJournalFull 0 0 d
          else fetchData c (pkField p 32 8) n (modCmd c.id (fun c => { c with aux := j.startGc + 1, count := gcOf d.whl })
            (markBuffer t (journalAppend t rec_ d)))
        | _, _ => fetchData c (pkField p 32 8) n (markBuffer t d)
  else
    let whole := c.data.take (c.data.length / 64 * 64)
    let d1 := storeArea (grantOf d t) (areaOf p) whole d
    if c.status = sTimeout then finish c.id sTimeout whole.length 0 d1
    else
      let mine := match (tenOf d t).journal with | some j => c.aux == j.startGc + 1 | none => false
      finish c.id sOk n 0 (if mine then journalAppend t (dataRefRec (writeXfer p c.count c.data) false) d1 else d1)

/-- BUFFER_FILL. -/
def opBufferFill (r : Nat) : Dev → Dev := runTen r 0x202 fun t c d =>
  let p := c.pkt
  let n := pkField p 40 4
  if !bufferAdmits d t then finish c.id sBusy 0 0 d
  else
    match moveRefuse d t 0x202 p with
    | some st => finish c.id st 0 0 d
    | none =>
      let fill (d : Dev) : Dev := finish c.id sOk n 0 (storeArea (grantOf d t) (areaOf p) (fillBytes (pkField p 32 8) n) (markBuffer t d))
      match recording (tenOf d t) p, (tenOf d t).journal with
      | true, some j =>
        let rec_ := commandRec (gcOf d.whl) c 0
        if roomFor d t j < rec_.length then finish c.id sJournalFull 0 0 d else fill (journalAppend t rec_ d)
      | _, _ => fill d

/-- A command that met poison ends with FAULTED; the tenancy's state does not change (R523). -/
def finishPoison (c : Cmd) (moved : Nat) (d : Dev) : Dev :=
  modCmd c.id (fun c => { c with fault := fcPoison }) (finish c.id sFaulted moved 0 d)

/-- BUFFER_READ. -/
def opBufferRead (r : Nat) : Dev → Dev := runTen r 0x201 fun t c d =>
  let p := c.pkt
  let n := pkField p 40 4
  if !bufferAdmits d t then finish c.id sBusy 0 0 d
  else
    match moveRefuse d t 0x201 p with
    | some st => finish c.id st 0 0 d
    | none =>
      let a := areaOf p
      let x := readArea a (areaBase (grantOf d t) a + a.off) n (n / 64) 0 (markBuffer t d)
      let d1 := hostWrite c (pkField p 32 8) x.1 x.2.2
      match x.2.1 with
      | none => finish c.id sOk n 0 d1
      | some o => finishPoison c o d1

/-! ## BUFFER_DIGEST -/

/-- Value word of element c of a row of n elements held as one number (08 R293, R294; 10 Table INV-6). -/
def rowValue (f n c row : Nat) : Nat :=
  let w := fmtWidth f
  let v := (row >>> (c * w)) % pow2 w
  if f = 5 then v + 16 * ((row >>> (8 * (16 * ceilDiv n 32 + c / 32))) % 256) else v

/-- The fold of one row (10 R379, R380). -/
def foldRow (t i0 f n row acc : Nat) : Nat :=
  (List.range n).foldl (fun a c => mask64 (a + dmix t ((i0 + c) % pow2 48) f (rowValue f n c row))) acc

/-- Folds rows until poison is met: the digest, and the bytes folded before a poisoned unit. -/
def foldRows (a : BufArea) (addr stride f n t p : Nat) : Nat → Nat → Nat → Nat → Dev → Nat × Option Nat × Dev
  | 0, _, _, acc, d => (acc, none, d)
  | k + 1, r, i, acc, d =>
    let rb := rowBytes f n
    let x := readArea a (addr + r * stride) rb (ceilDiv rb 64) 0 d
    match x.2.1 with
    | some o => (acc, some (r * rb + o), x.2.2)
    | none => foldRows a addr stride f n t p k (r + 1) (i + p) (foldRow t i f n (leNat x.1) acc) x.2.2

/-- ROWS, COLS, FMT and STRIDE of a BUFFER_DIGEST are allowed (R520, R526). -/
def digestOk (p : Line) : Bool :=
  let rows := pkField p 32 4
  let cols := pkField p 36 4
  let f := pkField p 18 1
  let stride := pkField p 40 4
  areaOk (areaOf p) && decide (f < 8) && decide (1 ≤ rows) && decide (rows ≤ pow2 31) && decide (1 ≤ cols) && decide (cols ≤ pow2 31) &&
    stride % 64 == 0 && decide (rowBytes f cols ≤ stride) && pkField p 47 1 == 0

/-- Every row read lies in the grant (R521, R526). -/
def digestHeld (r : GrantRec) (p : Line) : Bool :=
  let a := areaOf p
  (List.range (pkField p 32 4)).all fun k => areaHeld r a (a.off + k * pkField p 40 4) (rowBytes (pkField p 18 1) (pkField p 36 4))

/-- BUFFER_DIGEST. -/
def opBufferDigest (r : Nat) : Dev → Dev := runTen r 0x203 fun t c d =>
  let p := c.pkt
  if !bufferAdmits d t then finish c.id sBusy 0 0 d
  else if !digestOk p then finish c.id sBadParam 0 0 d
  else if !digestHeld (grantOf d t) p then finish c.id sNotPermitted 0 0 d
  else
    let a := areaOf p
    let x := foldRows a (areaBase (grantOf d t) a + a.off) (pkField p 40 4) (pkField p 18 1) (pkField p 36 4) (pkField p 44 3)
      (pkField p 56 8) (pkField p 32 4) 0 (pkField p 48 8) 0 (markBuffer t d)
    match x.2.1 with
    | none => finish c.id sOk x.1 0 x.2.2
    | some o => finishPoison c o x.2.2

/-! ## Journal, digest table, variance -/

/-- HOST_ADDR and LENGTH of a journal (Table CMD-11). -/
def journalArea (addr len : Nat) : Bool :=
  addr % 4096 == 0 && len % 4096 == 0 && decide (65536 ≤ len) && decide (len ≤ 0xFFFFF000)

/-- JOURNAL_START (15 R534; 16 R576, R581). -/
def opJournalStart (r : Nat) : Dev → Dev := runTen r 0x400 fun t c d =>
  let x := tenOf d t
  let addr := pkField c.pkt 16 8
  let len := pkField c.pkt 24 4
  if x.st = .draining ∨ x.journal.isSome = true ∨ replayOpen d t = true then finish c.id sBusy 0 0 d
  else if !journalArea addr len then finish c.id sBadParam 0 0 d
  else
    let gc := gcOf d.whl
    let j : Journal :=
      { addr := addr, length := len, fn := cmdFn d c, imageId := match x.image with | some im => im.id | none => 0, startGc := gc
        fresh := x.st == .loaded && x.fresh }
    let head := journalHeader t { j with fresh := false } false 0
    finish c.id sOk gc 0 (modTen t (fun x => { x with journal := some j }) (journalWrite j 0 head d))

/-- JOURNAL_STOP (15 R534). -/
def opJournalStop (r : Nat) : Dev → Dev := runTen r 0x401 fun t c d =>
  match (tenOf (journalFlush t d) t).journal with
  | some j => finish c.id sOk j.used j.records (journalClose t d)
  | none => finish c.id sBadParam 0 0 d

/-- DIGEST_TABLE_READ (15 R536). -/
def opDigestTableRead (r : Nat) : Dev → Dev := runTen r 0x403 fun t c d =>
  let x := tenOf d t
  let addr := pkField c.pkt 16 8
  let len := pkField c.pkt 24 4
  if addr % 64 ≠ 0 ∨ len % 16 ≠ 0 then finish c.id sBadParam 0 0 d
  else
    let n := min x.digTable.length (len / 16)
    finish c.id sOk n (b2n x.digMark) (hostWrite c addr ((digBytes x).take (16 * n)) d)

/-- The record of Table CMD-12. -/
def varBytes (x : Tenancy) (gc : Nat) : List Byte := (varCounts x).flatMap (leBytes 8) ++ leBytes 8 gc ++ leBytes 16 0

/-- The counters are cleared; a launch keeps the increments it has had. -/
def clearVariance (x : Tenancy) : Tenancy :=
  { x with
    mayVary := 0, freeOrder := 0, slips := 0, replays := 0, digOver := 0
    program := x.program.map fun p => { p with varDone := launchIncs x p, varAt := [] } }

/-- VARIANCE_READ (15 R537). -/
def opVarianceRead (r : Nat) : Dev → Dev := runTen r 0x404 fun t c d =>
  let addr := pkField c.pkt 16 8
  if addr % 64 ≠ 0 then finish c.id sBadParam 0 0 d
  else
    let d1 := hostWrite c addr (varBytes (tenOf d t) (gcOf d.whl)) d
    finish c.id sOk 0 0 (if bit (pkField c.pkt 24 1) 0 then modTen t clearVariance d1 else d1)

end Sys2Proof.Machine
end

