-- ==== Sys2Proof/Machine/Bsu.lean ====
section
/-!
DEFINITION. Bitstream units (17) and their commands (15 R543, R544).
-/
namespace Sys2Proof.Machine

/-! ## Time (R598) -/

/-- The latest engine tick that a unit has reached: counts passed, less those in which its engine was held; the wheels in which its
holder is SUSPENDED hold it, from the suspension boundary on or from the lease's start. -/
def engineNow (d : Dev) (u : Nat) : Nat :=
  let x := bsuOf d u
  let gc := gcOf d.whl
  let now := (if counted d.whl then gc else gc - 1) - x.held
  match bsuHolder d u with
  | some t => if (tenOf d t).suspendedAt.isSome then min now (max (tenOf d t).suspendGc x.boundAt - 1 - x.held) else now
  | none => now

def recKind (w : W64) : Nat := bits w.toNat 3 0
def wBits (w : W64) (hi lo : Nat) : Nat := bits w.toNat hi lo
def wBit (w : W64) (i : Nat) : Bool := bit w.toNat i
/-- No bit of w from lo to hi is set. -/
def wClear (w : W64) (hi lo : Nat) : Bool := wBits w hi lo == 0

def ctxBins (w : W64) : Nat := wBits w 6 5 + 1
def bypBins (w : W64) : Nat := wBits w 12 8 + 1
def symCount (w : W64) : Nat := if wBit w 5 then 2 else 1
def litBits (w : W64) : Nat := wBits w 11 8 + 1

/-! ## Record errors (R591 to R596) -/

/-- Whether a kind belongs to a codec (Table BSU-3). -/
def kindOf (codec k : Nat) : Bool :=
  k == 0 || k == 8 || k == 9 || k == 11 || k == 12 || k == 13 || (codec == 1 && (k == 1 || k == 2 || k == 3 || k == 10)) ||
    (codec == 2 && (k == 4 || k == 5))

/-- Fields and reserved bits of a record of a codec, with the initType of the segment (Tables BSU-4, BSU-5). -/
def fieldsOk (codec init : Nat) (w : W64) : Bool :=
  match recKind w with
  | 0 => wClear w 63 4
  | 1 =>
    let n := ctxBins w
    wClear w 7 7 && wClear w 63 (8 + 9 * n) && (List.range n).all fun j => Config.hevcContext init (wBits w (15 + 9 * j) (8 + 9 * j))
  | 2 => wClear w 7 5 && wClear w 31 13 && wBits w 63 32 < pow2 (bypBins w)
  | 3 => wClear w 63 4
  | 4 =>
    wClear w 4 4 && wClear w 7 6 && wClear w 63 42 && decide (wBits w 24 21 < Config.av1Alphabet (wBits w 20 8)) &&
      (if wBit w 5 then decide (wBits w 41 38 < Config.av1Alphabet (wBits w 37 25)) else wClear w 41 25)
  | 5 => wClear w 7 4 && wClear w 31 12 && wClear w 63 48
  | 8 => wClear w 7 4 && wClear w 63 34 && (codec == 2 || !wBit w 33)
  | 9 =>
    if codec = 1 then wClear w 7 4 && wClear w 63 17 && decide (wBits w 13 8 ≤ 51) && wBits w 15 14 != 3 else wClear w 7 4 && wClear w 63 14
  | 10 => wClear w 7 4 && wClear w 63 9
  | 11 => if codec = 1 then wClear w 63 4 else wClear w 7 4 && wClear w 63 12
  | 12 => wClear w 63 4
  | 13 => wClear w 7 4 && wClear w 63 51
  | _ => false

/-- Orders that R596 allows. -/
def orderOk (codec : Nat) (fr : Option BsuFrame) (k : Nat) : Bool :=
  match fr with
  | none => k == 0 || k == 8 || k == 13
  | some f =>
    match k with
    | 0 | 13 => true
    | 8 => false
    | 9 => !f.inSeg && decide (f.subs < if codec = 1 then 512 else 64)
    | 10 => f.inSeg && decide (f.subs < 512)
    | 12 => !f.inSeg
    | _ => f.inSeg

def initType (fr : Option BsuFrame) : Nat := match fr with | some f => wBits f.seg 15 14 | none => 0

def recordGood (x : Bsu) (w : W64) : Bool :=
  x.configured && kindOf x.codec (recKind w) && fieldsOk x.codec (initType x.frame) w && orderOk x.codec x.frame (recKind w)

/-! ## Costs and start (R598, R599) -/

/-- This record carries the second CTU_END since SEG_START or ENTRY (R597). -/
def secondCtu (x : Bsu) (w : W64) : Bool :=
  (recKind w == 1 || recKind w == 2) && wBit w 4 && (match x.frame with | some f => f.ctus == 1 | none => false)

def recordCost (x : Bsu) (w : W64) : Nat :=
  (match recKind w with
    | 1 => 75 * ctxBins w
    | 2 => 75 * ceilDiv (bypBins w) 4
    | 3 => 75
    | 4 => 125 * symCount w
    | 5 => 125 * litBits w
    | 8 | 12 => 120
    | 9 => if x.codec = 1 then (if wBit w 16 then 3840 else 15360) else 61440
    | 10 => if wBit w 8 then 5760 else 17280
    | 11 => if x.codec = 2 ∧ wBit w 8 = true then 63360 else 1920
    | _ => 0) + (if secondCtu x w then 3840 else 0)

/-- Last engine ticks of the drains of a FRAME_START's bank that came before it. -/
def drainEnds (x : Bsu) (r : BsuRec) : List Nat :=
  ((x.drains ++ x.past).filter fun q => q.bank == b2n (wBit r.word 32) && decide (q.seq < r.seq)).map fun q => q.at_ + q.n - 1

/-- Where a record could start, drains apart. -/
def startBase (x : Bsu) (r : BsuRec) : Nat := max x.pos (120 * (r.arr + 4))

/-- s_r; a FRAME_START waits for a drain that has still to depart from its bank. -/
def recordStart (x : Bsu) (r : BsuRec) : Nat :=
  if recKind r.word = 8 then (drainEnds x r).foldl (fun a e => max a (120 * (e + 1))) (startBase x r) else startBase x r

/-! ## Effects of records -/

/-- Emulation prevention (R590): the bytes, with the zero bytes that end them. -/
def epbInsert : Nat → List Byte → List Byte × Nat
  | z, [] => ([], z)
  | z, b :: bs =>
    let z' := if b = 0 then (if 2 ≤ z ∧ b.toNat ≤ 3 then 1 else z + 1) else 0
    let r := epbInsert z' bs
    if 2 ≤ z ∧ b.toNat ≤ 3 then (3 :: b :: r.1, r.2) else (b :: r.1, r.2)

def capacity (x : Bsu) : Nat := (x.bankLines - 33) * 64

def modBank (b : Nat) (f : Bank → Bank) (x : Bsu) : Bsu := { x with banks := tabMod {} b f x.banks }

/-- Coded bytes enter the frame's bank as one substream (R602, R603). -/
def closeSub (f : BsuFrame) (bytes : List Byte) (x : Bsu) : Bsu :=
  modBank f.bank (fun b =>
    { b with stored := (b.stored ++ bytes).take (capacity x), bytes := b.bytes + bytes.length, sizes := b.sizes ++ [(bytes.length, f.newSeg)] }) x

/-- Output of the substream that ends, and the zero bytes that end it. -/
def subBytes (x : Bsu) (f : BsuFrame) (last : Bool) : List Byte × Nat :=
  if x.codec = 1 then
    let raw := Config.hevcBytes f.ctx0 f.ops last
    if x.epb then epbInsert f.zeros raw else (raw, 0)
  else (Config.av1Bytes f.ctx0 f.ops f.noCdf, 0)

/-- Contexts as they stand: what made them, with the records coded since. -/
def ctxNow (f : BsuFrame) : List W64 := if f.noCdf then f.ctx0 else f.ctx0 ++ f.ops

/-- A data record: it is coded, and the second CTU_END copies the contexts (R597). -/
def dataRecord (w : W64) (bins syms : Nat) (f : BsuFrame) (x : Bsu) : Bsu :=
  let ctu := (recKind w == 1 || recKind w == 2) && wBit w 4
  let f' := { f with ops := f.ops ++ [w], ctus := if ctu then f.ctus + 1 else f.ctus }
  { x with
    frame := some f', bins := satAdd x.bins bins, symbols := satAdd x.symbols syms
    wpp := if secondCtu x w then ctxNow f' else x.wpp }

/-- FRAME_START (R595, R606). -/
def frameStart (r : BsuRec) (x : Bsu) : Bsu :=
  let b := b2n (wBit r.word 32)
  let waits := (drainEnds x r).any fun e => decide (startBase x r < 120 * (e + 1))
  let again := (tabGet {} x.banks b).started && !waits
  { x with
    frame := some { bank := b, noCdf := x.codec == 2 && wBit r.word 33 }
    banks := tabSet b { started := true, frameId := wBits r.word 31 8 } x.banks
    past := x.past.filter fun q => !(q.bank == b && decide (q.seq < r.seq))
    bankOverwrite := if again then satInc x.bankOverwrite else x.bankOverwrite }

/-- SEG_START: contexts initialised, loaded from the dependent-slice store, or taken from a slot. -/
def segStart (w : W64) (f : BsuFrame) (x : Bsu) : Bsu :=
  let ctx :=
    if x.codec = 1 then (if wBit w 16 then x.dep else [w])
    else if wBit w 10 then tabGet [] x.slots (wBits w 13 11) else [w]
  { x with frame := some { f with
      subs := f.subs + 1, inSeg := true, newSeg := true, seg := w, ctus := 0, zeros := 0, ctx0 := ctx, ops := [] } }

/-- ENTRY: the substream closes and the next one opens. -/
def entrySub (w : W64) (f : BsuFrame) (x : Bsu) : Bsu :=
  let o := subBytes x f false
  let x1 := closeSub f o.1 x
  { x1 with frame := some { f with
      subs := f.subs + 1, newSeg := false, ctus := 0, zeros := o.2, ctx0 := if wBit w 8 then x.wpp else [f.seg], ops := [] } }

/-- SEG_END: trailing bits, and contexts into their store. -/
def segEnd (w : W64) (f : BsuFrame) (x : Bsu) : Bsu :=
  let x1 := closeSub f (subBytes x f true).1 x
  let x2 := { x1 with frame := some { f with inSeg := false, ops := [], ctx0 := [] } }
  if x.codec = 1 then { x2 with dep := ctxNow f }
  else if wBit w 8 then { x2 with slots := tabSet (wBits w 11 9) (ctxNow f ++ [w]) x2.slots }
  else x2

/-- FRAME_END that completes at an engine tick. -/
def frameEnd (tick : Nat) (f : BsuFrame) (x : Bsu) : Bsu :=
  modBank f.bank (fun b => { b with endTick := some tick }) { x with frame := none }

/-- The effect of a good record that finishes at position fin. -/
def recordEffect (r : BsuRec) (fin : Nat) (x : Bsu) : Bsu :=
  let w := r.word
  let body :=
    match recKind w, x.frame with
    | 8, _ => frameStart r x
    | 1, some f => dataRecord w (ctxBins w) 0 f x
    | 2, some f => dataRecord w (bypBins w) 0 f x
    | 3, some f => dataRecord w 1 0 f x
    | 4, some f => dataRecord w 0 (symCount w) f x
    | 5, some f => dataRecord w 0 0 f x
    | 9, some f => segStart w f x
    | 10, some f => entrySub w f x
    | 11, some f => segEnd w f x
    | 12, some f => frameEnd (ceilDiv fin 120) f x
    | _, _ => x
  let count : Option Nat := if recKind w = 0 then none else if recKind w = 8 then some (b2n (wBit w 32)) else x.frame.map (·.bank)
  match count with
  | some b => modBank b (fun k => { k with records := k.records + 1 }) body
  | none => body

/-! ## The engine -/

/-- A unit fails: it is reset, its flush fails and its holder faults (R609). -/
def bsuFail (u cause code : Nat) (d : Dev) : Dev :=
  let h := bsuHolder d u
  let d1 := failFlush u (bsuReset u cause d)
  match h with
  | some t => raiseFault t code d1
  | none => d1

/-- The record at the head of the queue of a unit, if the engine has finished it, or found it in error, by an engine tick. -/
def headDone (x : Bsu) (limit : Nat) : Option BsuRec :=
  match x.queue with
  | [] => none
  | r :: _ =>
    let till := if x.skip then 120 * r.arr else if recordGood x r.word then recordStart x r + recordCost x r.word else startBase x r
    if ceilDiv till 120 ≤ limit then some r else none

/-- Takes the head record: an abandoned frame's records go at no cost, an error resets the unit, and any other has its
effect. -/
def takeRecord (u : Nat) (r : BsuRec) (d : Dev) : Dev :=
  let x := bsuOf d u
  if x.skip then modBsu u (fun x => { x with queue := x.queue.tail, skip := recKind r.word != 12 }) d
  else if recordGood x r.word then
    let fin := recordStart x r + recordCost x r.word
    modBsu u (fun x => { recordEffect r fin x with queue := x.queue.tail, pos := fin }) d
  else bsuFail u 1 fcBsu d

/-- Runs the engine up to an engine tick, by at most n records. -/
def runEngine (u limit : Nat) : Nat → Dev → Dev
  | 0, d => d
  | n + 1, d =>
    match headDone (bsuOf d u) limit with
    | some r => runEngine u limit n (takeRecord u r d)
    | none => d

/-- Engine tick of a departure position as seen from an arrival tick; none for a position already passed (07 R268, R269). -/
def departTick (w : Wheel) (held arr lap tick : Nat) : Option Nat :=
  let gc := arr + held
  let n := gc / w.w
  match reach (lap, tick) (n % 4, gc % w.w) with
  | .passed => none
  | _ => some ((n + (lap + 4 - n % 4) % 4) * w.w + tick - held)

/-- A DRAIN as the input stage schedules it (R604). -/
def takeDrain (w : Wheel) (r : BsuRec) (x : Bsu) : Bsu :=
  let v := r.word
  let n := wBits v 49 39 + 1
  match departTick w x.held r.arr (wBits v 9 8) (wBits v 25 10) with
  | some a =>
    if a < r.arr + 16 then { x with drainLate := satInc x.drainLate }
    else if x.drains.any fun q => overlaps a n (q.at_ + q.next) (q.n - q.next) then { x with drainClash := satInc x.drainClash }
    else { x with drains := x.drains ++ [{ at_ := a, first := wBits v 38 26, n := n, bank := b2n (wBit v 50), arr := r.arr, seq := r.seq }] }
  | none => { x with drainLate := satInc x.drainLate }

/-- BSU_DRAIN: the input stage takes the next DRAIN record. -/
def opBsuDrain (u : Nat) (d : Dev) : Dev :=
  match (bsuOf d u).drainIn with
  | [] => d
  | r :: rest =>
    if fieldsOk (bsuOf d u).codec 0 r.word then modBsu u (fun x => takeDrain d.whl r { x with drainIn := rest }) d
    else bsuFail u 1 fcBsu d

def takeDrains (u : Nat) : Nat → Dev → Dev
  | 0, d => d
  | n + 1, d => takeDrains u n (opBsuDrain u d)

/-- The engine takes one record of a kind, or one whose kind no command names, once it has finished it. The input stage has taken every
DRAIN that arrived (R604). -/
def opBsuRecord (u kind : Nat) (d0 : Dev) : Dev :=
  let d := takeDrains u (bsuOf d0 u).drainIn.length d0
  match headDone (bsuOf d u) (engineNow d u) with
  | some r =>
    let k := recKind r.word
    if k = kind ∨ k = 6 ∨ k = 7 ∨ k = 14 ∨ k = 15 then takeRecord u r d else d
  | none => d

def opBsuNop (u : Nat) : Dev → Dev := opBsuRecord u 0
def opBsuCtx (u : Nat) : Dev → Dev := opBsuRecord u 1
def opBsuByp (u : Nat) : Dev → Dev := opBsuRecord u 2
def opBsuTerm (u : Nat) : Dev → Dev := opBsuRecord u 3
def opBsuSym (u : Nat) : Dev → Dev := opBsuRecord u 4
def opBsuLit (u : Nat) : Dev → Dev := opBsuRecord u 5
def opBsuFrameStart (u : Nat) : Dev → Dev := opBsuRecord u 8
def opBsuSegStart (u : Nat) : Dev → Dev := opBsuRecord u 9
def opBsuEntry (u : Nat) : Dev → Dev := opBsuRecord u 10
def opBsuSegEnd (u : Nat) : Dev → Dev := opBsuRecord u 11
def opBsuFrameEnd (u : Nat) : Dev → Dev := opBsuRecord u 12

/-! ## Arrival (R600, R604) -/

/-- The eight records of a flit, in ascending order. -/
def flitRecords (f : Line) (arr seq : Nat) : List BsuRec :=
  (List.range 8).map fun i => { word := BitVec.ofNat 64 (bits f.toNat (64 * i + 63) (64 * i)), arr := arr, seq := seq + i }

/-- Flits in the input queue. -/
def queueFlits (q : List BsuRec) : Nat := (q.map (·.arr)).eraseDups.length

/-- Records that arrive at an engine tick. -/
def acceptFlit (u : Nat) (f : Line) (arr : Nat) (d : Dev) : Dev :=
  let x := bsuOf d u
  if !x.configured then bsuFail u 1 fcBsu d
  else if 2048 ≤ queueFlits x.queue then
    bsuFail u 3 fcBsu (modBsu u (fun x => { x with inOverflow := satInc x.inOverflow }) d)
  else
    let rs := flitRecords f arr x.seq
    let isDrain (r : BsuRec) : Bool := recKind r.word == 13
    modBsu u (fun x => { x with
      queue := x.queue ++ rs.filter (fun r => !isDrain r), drainIn := x.drainIn ++ rs.filter isDrain, seq := x.seq + 8 }) d

/-- BSU_RECORD_FLIT: the flit due at a unit's port at fabric tick t. -/
def opBsuRecordFlit (u t : Nat) (d : Dev) : Dev :=
  if t < d.whl.now then d
  else
    let d0 := advanceTo t d
    let r := takeFlight (.bsu u) t d0
    match r.1 with
    | none => d0
    | some fl =>
      let count := portCtr (islOfBsu u) 24
      let e := eccCheck fl.flit
      let f := e.1
      let d1 := countEcc e.2 count r.2
      if some f.ten.toNat ≠ bsuHolder d1 u then tagMismatch f (decide (e.2 = .bad)) count d1
      else if f.late then raiseFault f.ten.toNat fcVoidFlit (count (fun c => { c with voidRx := satInc c.voidRx }) d1)
      else if f.poison then bsuFail u 2 fcPoison d1
      else
        let d1 := takeDrains u (bsuOf d1 u).drainIn.length d1
        let d2 := if 2048 ≤ queueFlits (bsuOf d1 u).queue then runEngine u (engineNow d1 u) (bsuOf d1 u).queue.length d1 else d1
        acceptFlit u f.data (gcOf d2.whl - (bsuOf d2 u).held) d2

/-! ## Drain lines (R601 to R605) -/

/-- STATUS and MARGIN of a bank whose line 0 departs at an engine tick. -/
def bankStatus (x : Bsu) (b : Bank) (tick : Nat) : Nat × Nat :=
  if !b.started then (3, 0)
  else
    match b.endTick with
    | some e => if e < tick then (if capacity x < b.bytes then 2 else 0, tick - e) else (1, 0)
    | none => (1, 0)

/-- Coded bytes so far of the substream that is open. -/
def openSub (x : Bsu) (f : BsuFrame) : List Byte :=
  if f.inSeg then
    let raw := Config.openBytes x.codec f.ctx0 f.ops
    if x.epb then (epbInsert f.zeros raw).1 else raw
  else []

/-- Decides a frame at the departure of line 0; a late one is abandoned, and BYTES counts what it had coded (Table BSU-7). -/
def decideBank (b tick : Nat) (x : Bsu) : Bsu :=
  let k := tabGet {} x.banks b
  if k.decided.isSome then x
  else
    let s := bankStatus x k tick
    let x1 := if k.started then modBank b (fun k => { k with decided := some s }) x else x
    match s.1 with
    | 0 => { x1 with framesDone := satInc x1.framesDone }
    | 2 => { x1 with framesOverflow := satInc x1.framesOverflow }
    | 1 =>
      let x2 := { x1 with framesLate := satInc x1.framesLate }
      (match x.frame with
        | some f =>
          if f.bank = b then
            modBank b (fun k => { k with bytes := k.bytes + (openSub x f).length })
              { x2 with frame := none, skip := true, pos := max x2.pos (120 * tick) }
          else x2
        | none => x2)
    | _ => x1

/-- Coded bytes in a bank as it stands, an open substream's with them. -/
def bankBytes (x : Bsu) (b : Nat) : List Byte :=
  let k := tabGet {} x.banks b
  match x.frame with
  | some f =>
    if f.bank = b then (k.stored ++ openSub x f).take (capacity x) else k.stored
  | none => k.stored

/-- Line 0 (Table BSU-7). -/
def bankHeader (x : Bsu) (b : Nat) (tick : Nat) : List Byte :=
  let k := tabGet {} x.banks b
  let s := k.decided.getD (bankStatus x k tick)
  leBytes 3 k.frameId ++ leBytes 1 x.codec ++ leBytes 1 s.1 ++ leBytes 3 0 ++ leBytes 4 k.bytes ++ leBytes 2 k.sizes.length ++ leBytes 2 0 ++
    leBytes 4 s.2 ++ leBytes 4 k.records ++ leBytes 40 0

def sizeEntry (e : Nat × Bool) : Nat := e.1 % pow2 24 + (if e.2 then pow2 31 else 0)

/-- Content of a line of a bank, and the coded bytes it carries. -/
def bankLine (x : Bsu) (b l tick : Nat) : List Byte × Nat :=
  let k := tabGet {} x.banks b
  if l = 0 then (bankHeader x b tick, 0)
  else if (match k.decided with | some s => s.1 == 1 | none => false) then ([], 0)
  else if l < 33 then (((k.sizes.drop (16 * (l - 1))).take 16).flatMap fun e => leBytes 4 (sizeEntry e), 0)
  else
    let bs := ((bankBytes x b).drop (64 * (l - 33))).take 64
    (bs, bs.length)

/-- The drain one of whose lines departs at an engine tick. -/
def dueDrain (x : Bsu) (tick : Nat) : Option Drain := x.drains.find? fun q => q.at_ + q.next == tick

/-- A line has departed. -/
def stepDrain (q : Drain) (bytes : Nat) (x : Bsu) : Bsu :=
  let q' := { q with next := q.next + 1 }
  let others := x.drains.filter fun p => p.seq != q.seq
  { x with
    drained := x.drained + bytes
    drains := if q.next + 1 < q.n then others ++ [q'] else others
    past := if q.next + 1 < q.n then x.past else x.past ++ [q'] }

/-- BSU_DRAIN_LINE: the line of a drain that departs at fabric tick t. Records complete in earlier ticks come first. -/
def opBsuDrainLine (u t : Nat) (d : Dev) : Dev :=
  if t < d.whl.now then d
  else
    let d0 := advanceTo t d
    let held := match bsuHolder d0 u with | some h => (tenOf d0 h).suspendedAt.isSome | none => true
    if held || !counted d0.whl then d0
    else
      let tick := gcOf d0.whl - (bsuOf d0 u).held
      let d1 := takeDrains u (bsuOf d0 u).drainIn.length d0
      let d2 := runEngine u (tick - 1) (bsuOf d1 u).queue.length d1
      match dueDrain (bsuOf d2 u) tick with
      | none => d2
      | some q =>
        let x := if q.first + q.next = 0 then decideBank q.bank tick (bsuOf d2 u) else bsuOf d2 u
        let line := bankLine x q.bank (q.first + q.next) tick
        let own := ownerAt d2 (islOfBsu u) t
        let f := sealFlit { data := BitVec.ofNat 512 (leNat line.1), ten := BitVec.ofNat 6 own, tag := Config.drainTag u x.drained, late := false, poison := false, ecc := 0 }
        addFlight { dest := .swIn (islOfBsu u) 24, due := t + 2, sw := t + 2, flit := f } (modBsu u (fun _ => stepDrain q line.2 x) d2)

/-- BSU_RESET with a cause of 23 Table REG-5: 1 record error, 2 poison, 3 input overflow, 4 holder stop, 5 lease end,
6 BSU_CONFIG (R609 to R611). -/
def opBsuReset (u cause : Nat) (d : Dev) : Dev :=
  match cause with
  | 1 | 3 => bsuFail u cause fcBsu d
  | 2 => bsuFail u 2 fcPoison d
  | _ => failFlush u (bsuReset u cause d)

/-! ## Leases (14 R506 to R508) -/

/-- The lease of a unit ends: the unit is reset and freed. -/
def endLease (u : Nat) (d : Dev) : Dev :=
  modBsu u (fun x => { x with lease := none, endedOf := x.lease.map fun l => (l.1, d.whl.n) }) (failFlush u (bsuReset u 5 d))

/-- BSU_BIND (15 R543). -/
def opBsuBind (r : Nat) : Dev → Dev := runTen r 0x600 fun t c d =>
  let u := pkField c.pkt 16 1
  let release := bit (pkField c.pkt 17 1) 0
  let len := pkField c.pkt 20 4
  let g := grantOf d t
  if inStates d t [.faulted, .draining] then finish c.id sBusy 0 0 d
  else if 3 < u then finish c.id sBadParam 0 0 d
  else
    match recBsu g u with
    | 2 => finish c.id sOk 0xFFFFFFFFFFFFFFFF 0 d
    | 1 =>
      let expiry := leaseExpiry d t u
      (match (bsuOf d u).lease with
        | some (h, e) =>
          if h ≠ t then finish c.id sBusy e 0 d
          else if release then
            let e' := min expiry (nextBoundary d.whl)
            finish c.id sOk e' 0 (modBsu u (fun x => { x with lease := some (t, e') }) d)
          else if len = 0 ∨ recLease g < len then finish c.id sBadParam 0 0 d
          else
            let e' := ceilDiv (gcOf d.whl + len) d.whl.w * d.whl.w
            finish c.id sOk e' 0 (modBsu u (fun x => { x with lease := some (t, e') }) d)
        | none =>
          if release then finish c.id sOk 0 0 d
          else if len = 0 ∨ recLease g < len then finish c.id sBadParam 0 0 d
          else
            let e' := ceilDiv (gcOf d.whl + len) d.whl.w * d.whl.w
            finish c.id sOk e' 0 (modBsu u (fun x => { x with lease := some (t, e'), boundAt := gcOf d.whl }) d))
    | _ => finish c.id sNotPermitted 0 0 d

/-! ## BSU_CONFIG and BSU_FLUSH (R607, R608, R612) -/

/-- Values of a BSU_CONFIG block that are allowed; its reserved fields have been checked. -/
def configOk (b : List Byte) : Bool :=
  let codec := blkField b 1 1
  let n := blkField b 4 2
  decide (blkField b 0 1 < 4) && (codec == 1 || (codec == 2 && !bit (blkField b 2 1) 0)) && decide (64 ≤ n) && decide (n ≤ 8192)

/-- Resets a unit and applies a block. -/
def applyConfig (b : List Byte) (d : Dev) : Dev :=
  let u := blkField b 0 1
  modBsu u (fun x => { x with
    codec := blkField b 1 1, epb := bit (blkField b 2 1) 0, bankLines := blkField b 4 2, configured := true }) (failFlush u (bsuReset u 6 d))

/-- BSU_CONFIG. -/
def opBsuConfig (r : Nat) : Dev → Dev := runTen r 0x601 fun t c d =>
  let b := c.block
  if inStates d t [.faulted, .draining, .armed, .running, .suspended] then finish c.id sBusy 0 0 d
  else if !configOk b then finish c.id sBadParam 0 0 d
  else if bsuHolder d (blkField b 0 1) ≠ some t then finish c.id sNotPermitted 0 0 d
  else
    match recording (tenOf d t) c.pkt, (tenOf d t).journal with
    | true, some j =>
      let rec_ := commandRec (gcOf d.whl) c 0
      if roomFor d t j < rec_.length then finish c.id sJournalFull 0 0 d else finish c.id sOk 0 0 (applyConfig b (journalAppend t rec_ d))
    | _, _ => finish c.id sOk 0 0 (applyConfig b d)

/-- Everything a unit received by a count has been coded and drained. -/
def flushDone (x : Bsu) (gc : Nat) : Bool :=
  x.queue.isEmpty && (x.drainIn.all fun r => decide (gc ≤ r.arr + x.held)) && x.drains.all fun q => decide (gc ≤ q.arr + x.held)

/-- A flush completes: a frame still open is abandoned. -/
def endFlush (c : Cmd) (u : Nat) (d : Dev) : Dev :=
  finish c.id sOk ((bsuOf d u).drained - c.res0) 0
    (modBsu u (fun x => if x.frame.isSome then { x with frame := none, skip := true } else x) d)

/-- BSU_FLUSH: it starts once, and completes at the first of its steps at which the unit is done. -/
def opBsuFlush (r : Nat) (d : Dev) : Dev :=
  let start : Dev → Dev := runTen r 0x602 fun t c d =>
    let u := pkField c.pkt 16 1
    if inStates d t [.faulted, .draining] then finish c.id sBusy 0 0 d
    else if 3 < u then finish c.id sBadParam 0 0 d
    else if bsuHolder d u ≠ some t then finish c.id sNotPermitted 0 0 d
    else modCmd c.id (fun c => { c with stage := .armed, count := gcOf d.whl, aux := u, res0 := (bsuOf d u).drained }) d
  let d1 := start d
  match findCmd d1 (fun c => c.ring == r && opcodeOf c == 0x602 && c.stage == .armed && !c.interrupted && flushDone (bsuOf d1 c.aux) c.count) with
  | some c => endFlush c c.aux d1
  | none => d1

end Sys2Proof.Machine
end

