-- ==== Sys2Proof/Machine/Replay.lean ====
section
/-!
DEFINITION. Replay of a Sepia journal (15 R535; 16 R582 to R585).
-/
namespace Sys2Proof.Machine

/-! ## The journal as read -/

def jField (b : List Byte) (i n : Nat) : Nat := leNat ((b.drop i).take n)

/-- Every record from an offset to the end has a KIND and a LENGTH that fits. -/
def recordsOk (b : List Byte) (used : Nat) : Nat → Nat → Bool
  | 0, _ => false
  | n + 1, pos =>
    if pos = used then true
    else
      let len := jField b (pos + 4) 4
      decide (pos + len ≤ used) && decide (64 ≤ len) && len % 64 == 0 && decide (1 ≤ jField b pos 1) && decide (jField b pos 1 ≤ 3) &&
        recordsOk b used n (pos + len)

def jUsed (b : List Byte) : Nat := jField b 32 4

/-- MAGIC, VERSION, the two CRCs, CLOSED, IMAGE_ID and the records (R582). -/
def journalOk (b : List Byte) (image : Nat) : Bool :=
  let head := b.take 40 ++ leBytes 4 0 ++ (b.drop 44).take 20
  jField b 0 4 == 0x41504553 && jField b 4 2 == 1 && jField b 40 4 == crc32c head && decide (64 ≤ jUsed b) && decide (jUsed b ≤ b.length) &&
    jField b 44 4 == crc32c ((b.take (jUsed b)).drop 64) && bit (jField b 7 1) 0 && jField b 8 8 == image &&
    recordsOk b (jUsed b) (b.length + 1) 64

def jFresh (b : List Byte) : Bool := bit (jField b 7 1) 1

/-- The LAUNCH_END that follows an offset, and the AUX of each HALT_AT before it. -/
def scanLaunch (b : List Byte) : Nat → Nat → List Nat → Option Nat × List Nat
  | 0, _, hs => (none, hs)
  | n + 1, pos, hs =>
    if jUsed b ≤ pos then (none, hs)
    else if jField b pos 1 = 3 then (some pos, hs)
    else
      let hs' := if jField b pos 1 = 1 ∧ jField b (pos + 16) 2 = 0x302 ∧ jField b (pos + 80) 8 ≠ 0xFFFFFFFFFFFFFFFF then
        hs ++ [jField b (pos + 80) 8] else hs
      scanLaunch b n (pos + jField b (pos + 4) 4) hs'

/-! ## Steps -/

def modReplay (t : Nat) (f : Replay → Replay) (d : Dev) : Dev := modTen t (fun x => { x with replay := x.replay.map f }) d

/-- The replay ends. -/
def endReplay (t id st r0 r1 fault : Nat) (d : Dev) : Dev :=
  modCmd id (fun c => { c with fault := fault }) (finish id st r0 r1 (modTen t (fun x => { x with replay := none }) d))

/-- The record at the replay's position has been taken. -/
def nextRecord (skip : Nat) (r : Replay) : Replay :=
  { r with pos := r.pos + jField r.data (r.pos + 4) 4, index := r.index + 1, skipped := r.skipped + skip, waiting := false }

def diverge (t : Nat) (r : Replay) (layer : Nat) (d : Dev) : Dev := endReplay t r.cmd sMismatch r.index layer 0 d

/-- Packet and block of a COMMAND record. -/
def recPacket (r : Replay) : Line := BitVec.ofNat 512 (jField r.data (r.pos + 16) 64)
def recBlock (r : Replay) : List Byte := (r.data.drop (r.pos + 88)).take (pkField (recPacket r) 24 4)

/-- A recorded launch is launched again (R583). -/
def replayLaunch (t : Nat) (r : Replay) (d : Dev) : Dev :=
  let x := tenOf d t
  let p := recPacket r
  let s := scanLaunch r.data (r.data.length + 1) (r.pos + jField r.data (r.pos + 4) 4) []
  let giveUp (st : Nat) (d : Dev) : Dev := modReplay t (fun r => { nextRecord 0 r with ended := some (st, 0), dmas := [] }) d
  if (match s.1 with | some e => bit (jField r.data (e + 19) 1) 0 | none => false) then endReplay t r.cmd sJournalFull r.index 0 0 d
  else
    match x.st, x.image with
    | .loaded, some im =>
      if !spanRuns d im then giveUp sSpanHalted d
      else
        (match selectBucket x im p with
          | .error st => giveUp st d
          | .ok (k, ws) =>
            let launch := smallestLaunch d.whl.w (gcOf d.whl)
            let halts := s.2.map fun a => (launch + a) % pow2 64
            modReplay t (fun r => { nextRecord 0 r with
              launch := some launch, ended := none, dmas := []
              haltAt := halts.foldl (fun m h => match m with | some v => some (min v h) | none => some h) none })
              (postLaunch t launch k ws r.cmd false true d))
    | _, _ => giveUp sBusy d

/-- A COMMAND record is executed again; one that a check refuses has no effect. -/
def replayCommand (t : Nat) (c : Cmd) (r : Replay) (d : Dev) : Dev :=
  let p := recPacket r
  let go (d : Dev) : Dev := modReplay t (nextRecord 0) d
  match pkField p 0 2 with
  | 0x200 =>
    if (moveRefuse d t 0x200 p).isNone then
      fetchData c (pkField p 32 8) (pkField p 40 4) (markBuffer t (modReplay t (fun r => { r with waiting := true }) d))
    else go d
  | 0x202 =>
    go (if (moveRefuse d t 0x202 p).isNone then
      storeArea (grantOf d t) (areaOf p) (fillBytes (pkField p 32 8) (pkField p 40 4)) (markBuffer t d) else d)
  | 0x104 =>
    let k := pkField p 16 1
    let nb := match (tenOf d t).image with | some im => im.numBuckets | none => 0
    go (if k < nb ∨ k = 255 then modTen t (fun x => { x with bucket := k }) d else d)
  | 0x601 =>
    let b := recBlock r
    go (if configOk b && decide (bsuHolder d (blkField b 0 1) = some t) then applyConfig b d else d)
  | 0x300 | 0x301 => replayLaunch t r d
  | 0x302 => modReplay t (nextRecord (if jField r.data (r.pos + 80) 8 = 0xFFFFFFFFFFFFFFFF then 1 else 0)) d
  | _ => go d

/-- Whether a DATA_REF equals the transfer made (R583). -/
def sameXfer (r : Replay) (x : Xfer) : Bool :=
  jField r.data (r.pos + 16) 8 == x.addr && jField r.data (r.pos + 24) 4 == x.len && jField r.data (r.pos + 28) 4 == x.crc

/-- A DATA_REF: the transfer of a buffer write has been made; those of a launch are compared as they end, in the order of their
starts (R578, R583). -/
def replayRef (t : Nat) (r : Replay) (d : Dev) : Dev :=
  if jField r.data (r.pos + 32) 1 = 0 then
    match r.writes with
    | x :: xs => if sameXfer r x then modReplay t (fun r => { nextRecord 0 r with writes := xs }) d else diverge t r 0xFFFFFFFF d
    | [] => diverge t r 0xFFFFFFFF d
  else if r.launch.isSome && r.ended.isNone then
    match (tenOf d t).program with
    | some p =>
      (match p.refs with
        | x :: xs =>
          if sameXfer r x then modReplay t (nextRecord 0) (modProgram t (fun p => { p with refs := xs }) d) else diverge t r 0xFFFFFFFF d
        | [] => d)
    | none => d
  else
    match r.dmas with
    | x :: xs => if sameXfer r x then modReplay t (fun r => { nextRecord 0 r with dmas := xs }) d else diverge t r 0xFFFFFFFF d
    | [] => diverge t r 0xFFFFFFFF d

/-- Layers of a LAUNCH_END whose digest differs from the table's, marks clear in both. -/
def diffLayers (r : Replay) (x : Tenancy) : List Nat :=
  (List.range (jField r.data (r.pos + 20) 4)).filterMap fun k =>
    let at_ := r.pos + 80 + 16 * k
    let l := jField r.data at_ 2
    let e := tabGet {} x.digTable l
    if jField r.data (at_ + 2) 2 % 2 = 0 ∧ e.mark = false ∧ tabHas x.digTable l = true ∧ jField r.data (at_ + 8) 8 ≠ e.digest.toNat then some l else none

/-- A LAUNCH_END is compared once the replayed launch has ended (R583, R584). -/
def replayEnd (t : Nat) (r : Replay) (d : Dev) : Dev :=
  match r.ended with
  | none => if r.launch.isSome then d else diverge t r 0xFFFFFFFF d
  | some (st, fault) =>
    let rst := jField r.data (r.pos + 16) 2
    if rst = sOk ∧ fault ≠ 0 then endReplay t r.cmd sFaulted 0 0 fault d
    else if rst ≠ st ∨ jField r.data (r.pos + 18) 1 ≠ fault then diverge t r 0xFFFFFFFF d
    else
      match diffLayers r (tenOf d t) with
      | [] => modReplay t (fun r => { nextRecord 0 r with ended := none, launch := none, dmas := [] }) d
      | l :: ls => diverge t r (ls.foldl min l) d

/-- One record of a replay. -/
def replayStep (t : Nat) (c : Cmd) (r : Replay) (d : Dev) : Dev :=
  if jUsed r.data ≤ r.pos then
    if r.launch.isSome && r.ended.isNone then d else endReplay t r.cmd sOk (r.index - r.skipped) r.skipped 0 d
  else
    match jField r.data r.pos 1 with
    | 1 => replayCommand t c r d
    | 2 => replayRef t r d
    | _ => replayEnd t r d

/-- The journal has been read: the checks of R582. -/
def replayBegin (t : Nat) (c : Cmd) (d : Dev) : Dev :=
  let x := tenOf d t
  let no (st : Nat) : Dev := endReplay t c.id st 0 0 0 d
  if c.status = sTimeout then no sTimeout
  else
    match x.st, x.image with
    | .loaded, some im =>
      if !journalOk c.data im.id then no sBadParam
      else if im.bound ≠ [] then no sNotPermitted
      else if jFresh c.data && !x.fresh then no sBusy
      else modCmd c.id (fun c => { c with stage := .armed, data := [] }) (modReplay t (fun r => { r with data := c.data }) d)
    | _, _ => no sBusy

/-- Host data of a replayed BUFFER_WRITE has arrived. -/
def replayWrite (t : Nat) (c : Cmd) (r : Replay) (d : Dev) : Dev :=
  if c.status = sTimeout then endReplay t c.id sTimeout 0 0 0 d
  else
    let p := recPacket r
    modReplay t (fun r => { nextRecord 0 r with writes := r.writes ++ [writeXfer p (gcOf d.whl) c.data] })
      (modCmd c.id (fun c => { c with stage := .armed, data := [] }) (storeArea (grantOf d t) (areaOf p) c.data d))

/-- REPLAY_START: it reads the journal, then each of its steps takes one record. -/
def opReplayStart (r : Nat) (d : Dev) : Dev :=
  match findCmd d (fun c => c.ring == r && opcodeOf c == 0x402 && c.stage == .armed && !c.interrupted) with
  | some c => (match (tenOf d (cmdTen d c)).replay with | some p => replayStep (cmdTen d c) c p d | none => finish c.id sBusy 0 0 d)
  | none =>
    runTen r 0x402 (fun t c d =>
      match (tenOf d t).replay with
      | none =>
        if (tenOf d t).st ≠ .loaded ∨ loadRuns d t = true then finish c.id sBusy 0 0 d
        else if pkField c.pkt 24 4 < 64 then finish c.id sBadParam 0 0 d
        else fetchData c (pkField c.pkt 16 8) (pkField c.pkt 24 4) (modTen t (fun x => { x with replay := some { cmd := c.id, data := [] } }) d)
      | some p =>
        if p.cmd ≠ c.id then finish c.id sBusy 0 0 d
        else if p.waiting then replayWrite t c p d else replayBegin t c d) d

end Sys2Proof.Machine
end

