-- ==== Sys2Proof/Machine/Spans.lean ====
section
/-!
DEFINITION. SPAN_JOIN and SPAN_LEAVE (15 R538, R539; 03 R92, R108).
-/
namespace Sys2Proof.Machine

/-! ## The span file (Tables CMD-13, CMD-14) -/

def fileRanks (b : List Byte) : Nat := blkField b 8 2
def entryAt (k : Nat) : Nat := 64 + 48 * k
def fileSerial (b : List Byte) (k : Nat) : Nat := blkField b (entryAt k) 8
def fileLinks (b : List Byte) (k : Nat) : Nat := blkField b (entryAt k + 8) 2
def filePeer (b : List Byte) (k n : Nat) : Nat := blkField b (entryAt k + 16 + 2 * n) 2
def peerRank (p : Nat) : Nat := bits p 9 0
def peerLink (p : Nat) : Nat := bits p 13 10

/-- Links of a rank: local link, far rank, far link. -/
def rankLinks (b : List Byte) (k : Nat) : List (Nat × Nat × Nat) :=
  ((List.range 16).filter (bit (fileLinks b k))).map fun n => (n, peerRank (filePeer b k n), peerLink (filePeer b k n))

def ranksOf (b : List Byte) : List SpanRank :=
  (List.range (fileRanks b)).map fun k => { serial := BitVec.ofNat 64 (fileSerial b k), links := rankLinks b k }

/-- Each entry's PEER fields are valid exactly where LINKS is set, and the map is symmetric. -/
def mapOk (b : List Byte) : Bool :=
  (List.range (fileRanks b)).all fun k => (List.range 16).all fun n =>
    let p := filePeer b k n
    if bit (fileLinks b k) n then
      bit p 15 && decide (peerRank p < fileRanks b) && bit (fileLinks b (peerRank p)) (peerLink p) &&
        (let q := filePeer b (peerRank p) (peerLink p)
         bit q 15 && peerRank q == k && peerLink q == n)
    else !bit p 15

/-- Ranks within n hops of a set of ranks. -/
def hopsGo (rs : List SpanRank) : Nat → List Nat → List Nat
  | 0, set => set
  | n + 1, set =>
    let far := set.flatMap fun k => match rs[k]? with | some r => r.links.map (·.2.1) | none => []
    hopsGo rs n ((set ++ far).eraseDups)

/-- Any two ranks are at most D hops apart (03 R92). -/
def hopsOk (rs : List SpanRank) (dist : Nat) : Bool :=
  (List.range rs.length).all fun k => (hopsGo rs dist [k]).length == rs.length

/-- CRC-32C over the whole file with its own field taken as 0. -/
def fileCrcOk (b : List Byte) : Bool :=
  let n := entryAt (fileRanks b)
  blkField b 12 4 == crc32c ((b.take 12 ++ leBytes 4 0 ++ b.drop 16).take n)

/-- Ranks that name this chip. -/
def ownRanks (d : Dev) (b : List Byte) : List Nat := (List.range (fileRanks b)).filter fun k => fileSerial b k == d.fuse.serial.toNat

/-- Reserved parts of the file, its length, and every reason of R538. -/
def fileOk (d : Dev) (b : List Byte) (len : Nat) : Bool :=
  let n := fileRanks b
  let dist := blkField b 5 1
  decide (2 ≤ n) && decide (n ≤ 1024) && len == ceilDiv (entryAt n) 64 * 64 && blkField b 0 4 == d.whl.w && blkField b 4 1 == d.whl.g &&
    decide (1 ≤ dist) && decide (dist ≤ 16) && fileCrcOk b && (ownRanks d b).length == 1 && mapOk b && hopsOk (ranksOf b) dist &&
    (rankLinks b ((ownRanks d b).headD 0)).all fun l => !(lnkOf d l.1).long

/-- SPAN_JOIN. -/
def opSpanJoin (r : Nat) : Dev → Dev := runPf r 0x500 fun c d =>
  let b := c.block
  if d.span.joined || d.span.toForm then finish c.id sBusy 0 0 d
  else if !fileOk d b (pkField c.pkt 24 4) then finish c.id sBadParam 0 0 d
  else
    let own := (ownRanks d b).headD 0
    armCmd c.id 0 0 (modSpan (fun s =>
      { toForm := true, ranks := ranksOf b, ownRank := own, masterRank := 0, successor := 1, d := blkField b 5 1, slipLimit := blkField b 6 2
        slipsTotal := s.slipsTotal, errors := s.errors, window := d.whl.n / 1000000, joinCmd := some c.id }) d)

/-- A tenancy that uses the span is ARMED or RUNNING (03 R108). -/
def spanInUse (d : Dev) : Bool :=
  (spanTenancies d).any fun t => inStates d t [.armed, .running]

/-- SPAN_LEAVE. -/
def opSpanLeave (r : Nat) : Dev → Dev := runPf r 0x501 fun c d =>
  if d.span.toForm || d.span.state == .forming || (spanInUse d && d.span.state != .halted) then finish c.id sBusy 0 0 d
  else armCmd c.id (nextBoundary d.whl) 0 d

end Sys2Proof.Machine
end

