-- ==== Sys2Proof/Machine/Parts.lean ====
section
/-!
DEFINITION. Changing the grants: the staged route, the direct path and leases (14 R490 to R500, R505 to R508;
15 R545 to R548; 23 R766 to R769).
-/
namespace Sys2Proof.Machine

def modGrants (f : Grants → Grants) (d : Dev) : Dev := { d with grants := f d.grants }

/-- Record t of a set of records; one that is not listed is vacant. -/
def recOf (set : Tab GrantRec) (t : Nat) : GrantRec := tabGet (vacantRec t) set t
def setRec (t : Nat) (r : GrantRec) (set : Tab GrantRec) : Tab GrantRec := if r = vacantRec t then tabDel t set else tabSet t r set

/-! ## Staging (R490, R492; 15 R545 to R547) -/

/-- Grant record k of a PARTITION_STAGE block. -/
def blockRec (b : List Byte) (k : Nat) : GrantRec := BitVec.ofNat 1024 (blkField b (64 + 128 * k) 128)

def blockTens (b : List Byte) : List Nat := (List.range (blkField b 4 1)).map fun k => recByte (blockRec b k) 0

def stageOk (b : List Byte) (len : Nat) : Bool :=
  let n := blkField b 4 1
  let ts := blockTens b
  decide (1 ≤ blkField b 0 4) && decide (1 ≤ n) && decide (n ≤ 32) && decide (blkField b 5 1 < 2) && len == 64 + 128 * n &&
    ts.all (· < 32) && decide ts.Nodup && (List.range n).all fun k => recReservedOk (recByte (blockRec b k) 0) (blockRec b k)

/-- PARTITION_STAGE. -/
def opPartitionStage (r : Nat) : Dev → Dev := runCmd r 0xF00 fun c d =>
  let b := c.block
  if !stageOk b (pkField c.pkt 24 4) then finish c.id sBadParam 0 0 d
  else
    let base := match d.grants.staging with | some s => if blkField b 5 1 = 0 then s.recs else d.grants.force | none => d.grants.force
    let recs := (List.range (blkField b 4 1)).foldl (fun a k => setRec (recByte (blockRec b k) 0) (blockRec b k) a) base
    let e := ceilDiv (gcOf d.whl + blkField b 0 4) d.whl.w * d.whl.w
    finish c.id sOk e 0 (modGrants (fun g => { g with staging := some { recs := recs, expiry := e } }) d)

/-- PARTITION_COMMIT; the set is checked when it is to take effect. One whose reply is not yet written is outstanding (13 R461). -/
def opPartitionCommit (r : Nat) : Dev → Dev := runCmd r 0xF01 fun c d =>
  let n := pkField c.pkt 16 8
  if (d.host.cmds.takeWhile fun x => x.id != c.id).any (fun x => opcodeOf x == 0xF01) then finish c.id sBusy 0 0 d
  else if n % d.whl.w ≠ 0 ∨ d.grants.staging.isNone = true then finish c.id sBadParam 0 0 d
  else armCmd c.id (boundaryAt d n) 0 d

/-- Result word 0 of a refused set (14 R479). -/
def ruleRes (f : Nat × Nat) : Nat := f.1 + 256 * f.2

/-- What a staged commit does at its boundary. -/
def commitStaged (c : Cmd) (d : Dev) : Dev :=
  let gone (d : Dev) : Dev := modGrants (fun g => { g with staging := none }) d
  match d.grants.staging with
  | none => finishAt c.id sBadParam 0 0 c.count d
  | some s =>
    if s.expiry < c.count then finishAt c.id sBadParam 0 0 c.count (gone d)
    else
      match setInvalid d (recOf s.recs) with
      | some f => finishAt c.id sBadParam (ruleRes f) 0 c.count (gone d)
      | none => finishAt c.id sOk c.count 0 c.count (putSet c.count (recOf s.recs) (gone d))

/-- A direct commit is due no later than a count. -/
def directFirst (d : Dev) (x : Nat) : Bool := d.grants.state == 2 && decide (d.grants.effect ≤ x)

/-- GRANT_CHANGE_EFFECT. -/
def opGrantChangeEffect (d : Dev) : Dev :=
  match openCmds d fun c => opcodeOf c == 0xF01 && c.stage == .armed && countDue d.whl c.count && !directFirst d c.count with
  | c :: _ => commitStaged c d
  | [] => d

/-- PARTITION_READ. -/
def opPartitionRead (r : Nat) : Dev → Dev := runCmd r 0xF02 fun c d =>
  let which := pkField c.pkt 16 1
  let first := pkField c.pkt 17 1
  let n := pkField c.pkt 18 1
  let addr := pkField c.pkt 24 8
  let set : Option (Tab GrantRec) :=
    match which with
    | 0 => some d.grants.force
    | 1 => d.grants.staging.map (·.recs)
    | 2 => some d.grants.pend
    | _ => none
  match set with
  | none => finish c.id sBadParam 0 0 d
  | some s =>
    if 31 < first ∨ n = 0 ∨ 32 - first < n ∨ addr % 64 ≠ 0 then finish c.id sBadParam 0 0 d
    else
      finish c.id sOk 0 0 (hostWrite c addr ((List.range n).flatMap fun k => leBytes 128 (recOf s (first + k)).toNat) d)

/-! ## Direct path (R493; 23 R766 to R769) -/

/-- The PART block answers the physical function once BOOT has ended. -/
def partOpen (fn : Nat) (d : Dev) : Bool := fn == 0 && booted d
def partBusy (d : Dev) : Bool := d.grants.state == 1 || d.grants.state == 2
def partIgnore (d : Dev) : Dev := modGrants (fun g => { g with ignored := true }) d

/-- PART_COUNT_HI. -/
def opPartCountHi (fn : Nat) (v : BitVec 32) (d : Dev) : Dev :=
  if partOpen fn d then
    if partBusy d then partIgnore d
    else modGrants (fun g => { g with count := v.toNat * pow2 32 + g.countLo, state := 1, rule := 0, ten := 0 }) d
  else d

/-- PART_CHECK_DONE. -/
def opPartCheckDone (d : Dev) : Dev :=
  if d.grants.state = 1 then
    if d.grants.count % d.whl.w ≠ 0 then modGrants (fun g => { g with state := 4, rule := 0xFF, ten := 0xFF }) d
    else
      match setInvalid d (recOf d.grants.pend) with
      | some f => modGrants (fun g => { g with state := 4, rule := f.1, ten := f.2 }) d
      | none => modGrants (fun g => { g with state := 2, effect := boundaryAt d g.count }) d
  else d

/-- PART_SYNC. -/
def opPartSync (fn : Nat) (d : Dev) : Dev :=
  if partOpen fn d then (if partBusy d then partIgnore d else modGrants (fun g => { g with pend := g.force }) d) else d

/-- PART_CANCEL. -/
def opPartCancel (fn : Nat) (d : Dev) : Dev :=
  if partOpen fn d && partBusy d then
    if d.grants.state = 2 ∧ countPassed d.whl d.grants.effect = true then partIgnore d
    else modGrants (fun g => { g with state := 0, cancelled := true }) d
  else d

/-- DIRECT_COMMIT_EFFECT. -/
def opDirectCommitEffect (d : Dev) : Dev :=
  if d.grants.state = 2 ∧ countDue d.whl d.grants.effect = true then
    let x := d.grants.effect
    let later := openCmds d fun c => opcodeOf c == 0xF01 && c.stage == .armed && decide (x ≤ c.count)
    let d1 := modGrants (fun g => { g with state := 3 }) (putSet x (recOf d.grants.pend) d)
    if later = [] then d1
    else modGrants (fun g => { g with stagedBusy := true, staging := none }) (later.foldl (fun a c => finish c.id sBusy 0 0 a) d1)
  else d

/-! ## Leases (R505 to R507; 15 R548) -/

/-- The staging set is discarded; a commit that waits for it is refused (R492). -/
def dropStaging (d : Dev) : Dev :=
  abortCmds (fun c => opcodeOf c == 0xF01 && c.stage == .armed) sBadParam 0 none (modGrants (fun g => { g with staging := none }) d)

/-- LEASE_EXPIRY: 0 to 3 a bitstream unit, otherwise the staging set, whose commit at the same boundary comes first. -/
def opLeaseExpiry (k : Nat) (d : Dev) : Dev :=
  if k < 4 then
    match (bsuOf d k).lease with
    | some (_, e) => if countDue d.whl e then endLease k d else d
    | none => d
  else
    match d.grants.staging with
    | some s =>
      let due := openCmds d fun c => opcodeOf c == 0xF01 && c.stage == .armed && decide (c.count ≤ s.expiry) && countPassed d.whl c.count
      if countDue d.whl s.expiry && due.isEmpty then dropStaging d else d
    | none => d

/-- LEASE_REVOKE. -/
def opLeaseRevoke (r : Nat) : Dev → Dev := runCmd r 0xF03 fun c d =>
  let kind := pkField c.pkt 16 1
  let u := pkField c.pkt 17 1
  if (kind = 1 ∧ u < 4) ∨ (kind = 2 ∧ u = 0) then armCmd c.id (nextBoundary d.whl) (if kind = 1 then u else 4) d
  else finish c.id sBadParam 0 0 d

/-- Ends what a LEASE_REVOKE names; result word 1 is the former holder. -/
def revokeLease (c : Cmd) (d : Dev) : Dev :=
  if c.aux < 4 then
    match (bsuOf d c.aux).lease with
    | some (t, _) => finish c.id sOk c.count t (endLease c.aux d)
    | none => finish c.id sOk c.count 0xFF d
  else if d.grants.staging.isSome then finish c.id sOk c.count 0xFE (dropStaging d)
  else finish c.id sOk c.count 0xFF d

/-- LEASE_REVOKE_EFFECT: every LEASE_REVOKE whose boundary has come. -/
def opLeaseRevokeEffect (d : Dev) : Dev :=
  (openCmds d fun c => opcodeOf c == 0xF03 && c.stage == .armed && countDue d.whl c.count).foldl (fun a c => revokeLease c a) d

end Sys2Proof.Machine
end

