-- ==== Sys2Proof/Machine/Root.lean ====
section
/-!
DEFINITION. Root commands on rings, power, islands, firmware, links and tenancies (05 R195; 13 R444; 15 R549 to R555;
20 R694 to R698, R702).
-/
namespace Sys2Proof.Machine

/-! ## RING_ASSIGN (15 R549): what it does not name stays, CMD_HEAD, STS_TAIL and the lap by 13 R453 -/

def opRingAssign (r : Nat) : Dev → Dev := runCmd r 0xF04 fun c d =>
  let n := pkField c.pkt 16 2
  let fn := pkField c.pkt 18 1
  let t := pkField c.pkt 19 1
  let act := pkField c.pkt 20 1
  let g := ringOf d n
  if 1023 < n ∨ 63 < fn ∨ (31 < t ∧ t ≠ 0xFF) ∨ 1 < act then finish c.id sBadParam 0 0 d
  else if g.st ≠ .unassigned ∧ g.st ≠ .ready then finish c.id sBusy 0 0 d
  else if t < 32 ∧ recClass (grantOf d t) ≠ 0 ∧ recFunction (grantOf d t) ≠ fn then finish c.id sBadParam 0 0 d
  else
    let h := homeCore d t n
    finish c.id sOk h 0 (if act = 0 then
      modRing n (fun g => { g with st := .ready, function := fn, ten := t, home := h, serving := servingCore d h, assigned := true }) d
    else modRing n (fun g => { g with
      st := .unassigned, function := 0, ten := 0xFF, home := 0, serving := 0, assigned := false }) d)

/-! ## POWER_CAP_SET (15 R550; 20 R702) -/

/-- Lowest permitted code of an island: the minimum setpoint of its highest floor, or 192. -/
def lowestCode (d : Dev) (i : Nat) : Nat := max 192 (islandMin d i)

def poweredIslands (d : Dev) : List Nat := (List.range 32).filter fun i => (islOfDev d i).supplyOn

def temps (d : Dev) : List Int := ((List.range 32).map (tabGet 0 d.power.temp)) ++ (List.range 4).map (tabGet 0 d.power.colTemp)

def lowestCapNow (d : Dev) : Nat := Config.lowestCap ((poweredIslands d).map (lowestCode d)) (temps d)

def opPowerCapSet (r : Nat) : Dev → Dev := runCmd r 0xF05 fun c d =>
  let cap := pkField c.pkt 16 2
  if cap = 0 ∨ 700 < cap then finish c.id sBadParam 0 0 d
  else if cap < lowestCapNow d then finish c.id sCapLow 0 (lowestCapNow d) d
  else finish c.id sOk cap 0 { d with power := { d.power with cap := cap } }

/-! ## ISLAND_POWER (15 R551; 20 R694 to R696) -/

/-- MASK and ACTION of a packet. -/
def powMask (p : Line) : Nat := pkField p 16 4
def powOn (p : Line) : Bool := pkField p 20 1 == 1
def powForce (p : Line) : Bool := bit (pkField p 21 1) 0

/-- Tenancies in LOADED, ARMED, RUNNING or SUSPENDED that hold a cluster of a masked island. -/
def islandHolders (d : Dev) (mask : Nat) : List Nat :=
  (List.range 32).filter fun t =>
    inStates d t [.loaded, .armed, .running, .suspended] && (recClusters (grantOf d t)).any fun c => bit mask (islOf c)

def opIslandPower (r : Nat) : Dev → Dev := runCmd r 0xF06 fun c d =>
  let p := c.pkt
  let n := pkField p 24 8
  if 1 < pkField p 20 1 ∨ n % d.whl.w ≠ 0 then finish c.id sBadParam 0 0 d
  else if openCmds d (fun x => opcodeOf x == 0xF06 && x.stage == .armed && Nat.land (powMask x.pkt) (powMask p) != 0) ≠ [] then
    finish c.id sBusy 0 0 d
  else if !powOn p && !powForce p && !(islandHolders d (powMask p)).isEmpty then finish c.id sBusy 0 0 d
  else armCmd c.id (boundaryAt d n) 0 d

/-- What an unpowered cluster keeps: its counters and its clock. -/
def darkCluster (k : Cluster) : Cluster :=
  { powered := false, cyc := k.cyc, bstoreEccCorr := k.bstoreEccCorr, lsLate := k.lsLate, lsOverrun := k.lsOverrun, waitLate := k.waitLate
    digOverflow := k.digOverflow, storeBad := k.storeBad }

/-- The clusters of an island lose their contents. -/
def darkenIsland (i : Nat) (d : Dev) : Dev :=
  (List.range 16).foldl (fun a s =>
    let c := 16 * i + s
    let a1 := zeroRange (paneBase c) 0x400000 (modCl c darkCluster a)
    modMem (fun m => { m with fillQ := tabDel c m.fillQ, colQ := tabDel c m.colQ }) a1) d

def gateIsland (i : Nat) (d : Dev) : Dev := modIsl i (fun x => { x with oscOn := false, supplyOn := false, supplyGood := false, current := 0 }) d

/-- An ISLAND_POWER off takes effect. One without FORCE finds no program on its islands, or completes with BUSY. -/
def islandsOff (c : Cmd) (d : Dev) : Dev :=
  let m := powMask c.pkt
  let ts := islandHolders d m
  if !powForce c.pkt && !ts.isEmpty then finish c.id sBusy 0 0 d
  else
    let d1 := ts.foldl (fun a t => revokeTenancy t c.count a) d
    finish c.id sOk c.count 0 (((List.range 32).filter (bit m)).foldl (fun a i => darkenIsland i (gateIsland i a)) d1)

/-- ISLAND_POWER_OFF_EFFECT: every ISLAND_POWER off whose boundary has come. -/
def opIslandPowerOffEffect (d : Dev) : Dev :=
  (openCmds d fun c => opcodeOf c == 0xF06 && c.stage == .armed && !powOn c.pkt && countDue d.whl c.count).foldl (fun a c => islandsOff c a) d

/-- An island's switch closes; its clusters start with pane and bundle store zero and landing entries clear. -/
def lightIsland (i : Nat) (d : Dev) : Dev :=
  if (islOfDev d i).supplyOn then d
  else
    (List.range 16).foldl (fun a s => zeroRange (paneBase (16 * i + s)) 0x400000 (modCl (16 * i + s) (fun k => { darkCluster k with powered := true }) a))
      (modIsl i (fun x => { x with supplyOn := true, supplyGood := false, oscOn := false, current := 0 }) d)

/-- ISLAND_POWER_ON_EFFECT: every ISLAND_POWER on whose boundary has come. -/
def opIslandPowerOnEffect (d : Dev) : Dev :=
  (openCmds d fun c => opcodeOf c == 0xF06 && c.stage == .armed && powOn c.pkt && c.aux == 0 && countDue d.whl c.count).foldl
    (fun a c => modCmd c.id (fun c => { c with aux := 1 }) (((List.range 32).filter (bit (powMask c.pkt))).foldl (fun b i => lightIsland i b) a)) d

/-- Every island of a mask runs at its effective target. -/
def islandsReady (d : Dev) (mask : Nat) : Bool :=
  ((List.range 32).filter (bit mask)).all fun i => (islOfDev d i).oscOn && (islOfDev d i).current == effTarget d i

/-- ISLAND_POWER_ON_DONE: every ISLAND_POWER on whose islands run. -/
def opIslandPowerOnDone (d : Dev) : Dev :=
  (openCmds d fun c => opcodeOf c == 0xF06 && c.stage == .armed && powOn c.pkt && c.aux == 1 && islandsReady d (powMask c.pkt)).foldl
    (fun a c => finish c.id sOk c.count 0 a) d

/-! ## Firmware (15 R552, R553; 20 R689, R697, R698) -/

def firmwareOf (img : List Byte) : Firmware :=
  { line := (Config.firmwareLine img).toNat, build := (Config.firmwareBuild img).toNat, valid := Config.signatureOk img
    sequence := (Config.firmwareSequence img).toNat }

/-- The firmware slot a PERSIST write takes: an invalid one, or the lower sequence (20 R689). -/
def persistFirmware (f : Firmware) (d : Dev) : Dev :=
  let fl := d.flash
  if !fl.present then d
  else if !fl.fw0.valid || (fl.fw1.valid && decide (fl.fw0.sequence < fl.fw1.sequence)) then
    { d with flash := { fl with fw0 := f, writing := some 2 } }
  else { d with flash := { fl with fw1 := f, writing := some 3 } }

def opFirmwareStage (r : Nat) : Dev → Dev := runCmd r 0xF07 fun c d =>
  let len := pkField c.pkt 24 4
  if c.stage = .ready then
    if len = 0 ∨ len % 64 ≠ 0 ∨ 16777216 < len then finish c.id sBadParam 0 0 d
    else fetchData c (pkField c.pkt 16 8) len d
  else if c.status = sTimeout then finish c.id sTimeout 0 0 d
  else if Config.signatureOk c.data then
    let f := firmwareOf c.data
    let d1 := modBoot (fun b => { b with staged := some f }) d
    finish c.id sOk 0 f.line (if bit (pkField c.pkt 28 1) 0 then persistFirmware f d1 else d1)
  else finish c.id sBadImage 0 0 d

/-- The lowest other ring with a command outstanding. -/
def busyRing (d : Dev) (r : Nat) : Option Nat :=
  (d.host.cmds.filter fun c => c.ring != r).foldl (fun m c => match m with | some x => some (min x c.ring) | none => some c.ring) none

def holdWatchdogs (h : Bool) (d : Dev) : Dev :=
  (List.range 16).foldl (fun a n => modCore n (fun c => { c with wdHeld := h }) a) d

/-- FIRMWARE_ACTIVATE. Its first step ends the old firmware's service; in the next one the new firmware serves and writes
the reply, with the blackout that Config leaves open. -/
def opFirmwareActivate (r : Nat) (d : Dev) : Dev :=
  match d.boot.activating, d.boot.staged with
  | some id, some f =>
    if (findCmd d fun c => c.id == id && c.ring == r).isSome then
      finish id sOk (Config.blackout d.host.nextId).toNat f.line
        (holdWatchdogs false (modBoot (fun b => { b with firmware := some f, staged := none, activating := none })
          (modHost (fun h => { h with nextId := h.nextId + 1 }) d)))
    else d
  | _, _ =>
    runCmd r 0xF08 (fun c d =>
      if d.boot.staged.isNone then finish c.id sBadParam 0 0 d
      else
        match busyRing d r with
        | some x => finish c.id sNotQuiescent x 0 d
        | none => armCmd c.id 0 0 (holdWatchdogs true (modBoot (fun b => { b with activating := some c.id }) d))) d

/-! ## LINK_CONTROL (15 R554; 05 R195) -/

def inSpan (d : Dev) (l : Nat) : Bool := d.span.joined && (spanLinks d.span).contains l

/-- The link goes to LOST, and its span halts (05 R193). -/
def forceLost (l : Nat) (d : Dev) : Dev :=
  let d1 := loseLink l d
  if inSpan d l then modSpan (fun s => { s with halting := true }) d1 else d1

def isTraining (s : LinkState) : Bool := s != .off && s != .lost

/-- The action of Table LNK-7 where nothing refuses it. -/
def linkAction (l act w : Nat) (d : Dev) : Dev :=
  let k := lnkOf d l
  match act with
  | 1 => if isTraining k.state then enterState l .detect d.whl.now d else d
  | 2 => enterState l .off d.whl.now (modLnk l (fun k => { k with disabled := true }) d)
  | 3 => if k.state = .off then enterState l .detect d.whl.now (modLnk l (fun k => { k with disabled := false }) d)
         else modLnk l (fun k => { k with disabled := false }) d
  | 4 => modLnk l (fun k => { k with widthLimit := w }) d
  | _ => d

/-- A forced action on a link in use takes it to LOST. -/
def linkForced (l act w : Nat) (d : Dev) : Dev :=
  let d1 := forceLost l d
  match act with
  | 2 => modLnk l (fun k => { k with disabled := true }) d1
  | 4 => modLnk l (fun k => { k with widthLimit := w }) d1
  | _ => d1

def opLinkControl (r : Nat) : Dev → Dev := runCmd r 0xF09 fun c d =>
  let l := pkField c.pkt 16 1
  let act := pkField c.pkt 17 1
  let w := pkField c.pkt 18 1
  let addr := pkField c.pkt 24 8
  let k := lnkOf d l
  let strong := act == 1 || act == 2 || (act == 4 && k.state == .ready && decide (w < k.width))
  if 15 < l ∨ 4 < act ∨ (if act = 4 then w ≠ 8 ∧ w ≠ 6 ∧ w ≠ 4 else w ≠ 0) then finish c.id sBadParam 0 0 d
  else if !bit d.fuse.links l || (act == 0 && addr % 64 != 0) then finish c.id sBadParam 0 0 d
  else if act = 0 then finish c.id sOk 0 0 (hostWrite c addr (linkBytes d l) d)
  else
    let used := inSpan d l && spanInUse d
    if strong && used && !bit (pkField c.pkt 19 1) 0 then finish c.id sBusy 0 0 d
    else
      let d1 := if strong && used then linkForced l act w d else linkAction l act w d
      finish c.id sOk (linkCode (lnkOf d1 l).state) 0 d1

/-! ## TENANCY_RESET (15 R555) -/

def opTenancyReset (r : Nat) : Dev → Dev := runCmd r 0xF0A fun c d =>
  let t := pkField c.pkt 16 1
  let n := pkField c.pkt 24 8
  if 31 < t ∨ n % d.whl.w ≠ 0 then finish c.id sBadParam 0 0 d
  else armCmd c.id (if n = 0 then nextBoundary d.whl else boundaryAt d n) t d

/-- A tenancy stops with FC_REVOKED if it is live, and its commands are aborted. -/
def stopForReset (t gc : Nat) (d : Dev) : Dev :=
  let d1 := if isLive (tenOf d t).st then
      modTen t (fun x => { x with stopDue := false }) (endProgram t sAborted 0 gc false (releaseUnits t (stopHardware t (raiseFault t fcRevoked d))))
    else d
  abortCmds (cmdOfTen d1 t) sAborted 0 none (undoLoad t sAborted 0 (modTen t (fun x => { x with replay := none }) d1))

/-- A TENANCY_RESET takes effect: the tenancy stops, its commands are aborted, and it drains. -/
def resetTenancy (c : Cmd) (d : Dev) : Dev :=
  let t := c.aux
  let d2 := stopForReset t c.count d
  match (tenOf d t).st with
  | .vacant => finish c.id sOk c.count 0 (releaseUnits t d2)
  | .staged => finish c.id sOk c.count 0 (becomeVacant t d2)
  | .draining => modCmd c.id (fun c => { c with aux := t + 256 }) d2
  | _ => modCmd c.id (fun c => { c with aux := t + 256 }) (beginDrain t d2)

/-- TENANCY_RESET_EFFECT: every TENANCY_RESET whose boundary has come. -/
def opTenancyResetEffect (d : Dev) : Dev :=
  (openCmds d fun c => opcodeOf c == 0xF0A && c.stage == .armed && decide (c.aux < 256) && countDue d.whl c.count).foldl (fun a c => resetTenancy c a) d

end Sys2Proof.Machine
end

