-- ==== Sys2Proof/Machine/Boot.lean ====
section
/-!
DEFINITION. Chip reset, boot, the configuration block and its seal, device states (20; 15 R556; 22 R739; 23 R763).
-/
namespace Sys2Proof.Machine

def modMail (f : Mailbox → Mailbox) (d : Dev) : Dev := { d with mail := f d.mail }
def modPower (f : Power → Power) (d : Dev) : Dev := { d with power := f d.power }
def modBoard (f : Board → Board) (d : Dev) : Dev := { d with board := f d.board }

/-! ## Chip reset (R690 to R692) -/

/-- Every fused-on link starts in DETECT (05 R170). -/
def trainingLinks (mask : Nat) : Tab Link := ((List.range 16).filter (bit mask)).map fun l => (l, { state := .detect })

/-- The slot that was being written when the write was cut fails its CRC or signature (R689). -/
def cutFlash (f : Flash) : Flash :=
  match f.writing with
  | some 0 => { f with cfg0 := [], writing := none }
  | some 1 => { f with cfg1 := [], writing := none }
  | some 2 => { f with fw0 := {}, writing := none }
  | some _ => { f with fw1 := {}, writing := none }
  | none => f

/-- What a chip reset leaves. Latched flags survive all but a power-on; the TAP too (R691; 22 R756; 23 Table REG-3). -/
def chipReset (cause : Nat) (cut : Bool) (d : Dev) : Dev :=
  let on := decide (cause = 0)
  let b := d.boot
  let o := d.board
  let kept : Boot := if on then {} else { refLoss := b.refLoss, fabLoss := b.fabLoss, ctlLoss := b.ctlLoss, colLoss := b.colLoss, trip := b.trip }
  let board : Board := if on then {} else { tripN := o.tripN, tapIr := o.tapIr, debugData := o.debugData, debugError := o.debugError || !o.debugDone }
  { fuse := d.fuse
    flash := if cut then cutFlash d.flash else { d.flash with writing := none }
    lnk := trainingLinks d.fuse.links
    host := { posted := d.host.posted, nextId := d.host.nextId }
    boot := { kept with resetCause := cause }
    board := board }

/-- CHIP_RESET: power-on, RESET_N, PERST# or a link event, coded as RESET_CAUSE; cut tells whether it ends a flash write. -/
def opChipReset (cause : Nat) (cut : Bool) (d : Dev) : Dev := chipReset cause cut d

/-- LINK_DRIVEN_RESET (19 R659): PERST#, Hot Reset, link disable or DL_Down. -/
def opLinkDrivenReset (k : Nat) (cut : Bool) (d : Dev) : Dev := chipReset (2 + k) cut d

/-- POWER_LOSS (R708): all contents go, the always-on flags too. -/
def opPowerLoss (cut : Bool) (d : Dev) : Dev := chipReset 0 cut d

/-- RESET_RELEASE (R673 to R675): straps are sampled and every PLL relocks. With TEST_EN high nothing is promised (22 R739). -/
def opResetRelease (straps : BitVec 4) (d : Dev) : Dev :=
  if d.boot.inReset then
    { d with
      clk := { d.clk with pll := [], refclk := 0 }
      boot := { d.boot with inReset := false, straps := straps, lost := bit straps.toNat 3 }
      board := { d.board with scan := 0 } }
  else d

/-! ## PMBus (22 R744 to R746) -/

/-- A PMBus transaction leaves. -/
def pmbus (target cmd : Nat) (data : List Byte) (d : Dev) : Dev := emit (.pmb target cmd data) d

/-- Highest code whose fused voltage does not exceed a voltage, at least 192. -/
def codeUnder (mv : Nat) : Nat :=
  ((List.range 113).map fun i => 304 - i).find? (fun c => decide (Config.fusedMilliVolt c ≤ mv)) |>.getD 192

/-- PMBUS_FAULT: VDD_CORE stays, and limits fit it (22 R746). -/
def pmbusFail (avs : Bool) (d : Dev) : Dev :=
  let top := codeUnder d.power.vcore
  let d1 := raiseDev 5 (modBoot (fun b => { b with pmbusFault := true, avsUnavailable := b.avsUnavailable || avs })
    (modBoard (fun o => { o with smbAlert := true }) (modPower (fun p => { p with vTarget := none, vCeil := some top }) d)))
  (List.range 32).foldl (fun a i => modIsl i (fun x => { x with limit := min x.limit top }) a) d1

/-! ## Boot (R677 to R680) -/

/-- BOOT_ENTRY: VOUT_MODE reads linear with an exponent, or not linear (22 R745). -/
def opBootEntry (mode : Option Int) (d : Dev) : Dev :=
  if d.boot.state = .powerup ∧ d.boot.inReset = false ∧ (pllOf d 1).ungated = true then
    let d1 := pmbus 0x40 0x20 [] (modBoot (fun b => { b with state := .boot, toHost := b.straps.toNat % 2 == 1 }) d)
    match mode with
    | some e => modBoot (fun b => { b with voutExp := e }) d1
    | none => pmbusFail true d1
  else d

/-- A mailbox message and its cause (23 R763). -/
def mailMessage (kind : Nat) (data : List Byte) (d : Dev) : Dev :=
  raiseDev 0 (modMail (fun m => { m with kind := kind, len := data.length, data := data, seq := (m.seq + 1) % pow2 32 }) d)

/-- BOOT_STATUS holds BOOT_ERROR and the selected slots; its layout is left open. -/
def bootStatus (d : Dev) : Dev :=
  mailMessage 2 (leBytes 8 (Config.freeValue d.host.nextId).toNat) (modHost (fun h => { h with nextId := h.nextId + 1 }) d)

def bootFail (code : Nat) (d : Dev) : Dev := bootStatus (modBoot (fun b => { b with bootError := code }) d)

/-- The slot in flash that verifies with the higher sequence number (R678). -/
def flashFirmware (f : Flash) : Option Firmware :=
  if f.fw0.valid && (!f.fw1.valid || decide (f.fw1.sequence ≤ f.fw0.sequence)) then some f.fw0
  else if f.fw1.valid then some f.fw1 else none

/-- UMB_00 reads the flash; sfdp tells whether its parameters can be used. Where the straps allow it, it turns to the host. -/
def bootFlash (sfdp : Bool) (d : Dev) : Dev :=
  let bad (code : Nat) : Dev := modBoot (fun b => { b with toHost := b.straps.toNat % 4 == 2 }) (bootFail code d)
  if !d.flash.present then bad 1
  else if !sfdp then bad 2
  else
    match flashFirmware d.flash with
    | some f => modBoot (fun b => { b with firmware := some f, fwFromFlash := true }) d
    | none => bad 3

/-- FIRMWARE_BOOT_LOAD (R678): from flash, or the host's image once it has been read. -/
def opFirmwareBootLoad (sfdp : Bool) (d : Dev) : Dev :=
  if d.boot.state ≠ .boot ∨ d.boot.firmware.isSome = true then d
  else if d.boot.toHost then
    match d.boot.hostImage with
    | some img =>
      let d1 := modBoot (fun b => { b with hostImage := none }) d
      if Config.signatureOk img then modBoot (fun b => { b with firmware := some (firmwareOf img), fwFromFlash := false }) d1
      else bootFail 5 d1
    | none => d
  else bootFlash sfdp d

/-- MB_IN_GO (23 R763): only the PF writes, and only in BOOT with boot source host. -/
def opMbInGo (fn : Nat) (v : BitVec 32) (d : Dev) : Dev :=
  if fn = 0 ∧ v = 1 ∧ d.boot.state = .boot ∧ d.boot.toHost = true ∧ (d.host.fetches.any fun f => f.why == .boot) = false then
    issueFetch .boot 0 d.mail.fwAddr.toNat d.mail.fwLen.toNat d
  else d

/-- MEMORY_INIT_DONE (R676): every line of every pane, column and shelf is zero. -/
def opMemoryInitDone (d : Dev) : Dev :=
  if d.whl.running && !d.mem.initDone then modMem (fun m => { m with initDone := true, cells := [], ecc := [], odEcc := [] }) d else d

/-! ## The configuration block (R684 to R686) -/

/-- A failing field: rule, byte offset, value found. -/
structure CfgErr where
  rule : Nat
  off : Nat
  val : Nat
  deriving DecidableEq, Repr

def cfgLength (b : List Byte) : Nat := blkField b 6 2
def cfgSequence (b : List Byte) : Nat := blkField b 8 4
def cfgPersist (b : List Byte) : Bool := bit (blkField b 23 1) 0

/-- CRC-32C over LENGTH bytes with the CRC field as 0. -/
def cfgCrc (b : List Byte) : Nat :=
  let c := b.take (cfgLength b)
  crc32c (c.take 12 ++ leBytes 4 0 ++ c.drop 16)

/-- Rules 0x01 to 0x03, in order: the first that fails (R685). -/
def cfgStruct (b : List Byte) : Option CfgErr :=
  let n := cfgLength b
  if n % 64 ≠ 0 ∨ n < 128 ∨ 4096 < n then some ⟨1, 6, n⟩
  else if blkField b 0 4 ≠ 0x47464356 then some ⟨2, 0, blkField b 0 4⟩
  else if blkField b 4 2 ≠ 1 then some ⟨2, 4, blkField b 4 2⟩
  else if b.length < n ∨ cfgCrc b ≠ blkField b 12 4 then some ⟨3, 12, blkField b 12 4⟩
  else none

/-- A field fails a rule. -/
def cfgFail (bad : Bool) (rule off val : Nat) : List CfgErr := if bad then [⟨rule, off, val⟩] else []

/-- Requested setpoint of an island in a block. -/
def cfgSetpoint (b : List Byte) (i : Nat) : Nat := if blkField b (48 + 2 * i) 2 = 0 then 256 else blkField b (48 + 2 * i) 2

/-- The sequence numbers of the flash slots that pass rules 0x01 to 0x03. -/
def slotSequences (f : Flash) : List Nat := ([f.cfg0, f.cfg1].filter fun s => (cfgStruct s).isNone).map cfgSequence

/-- Rules 0x04 to 0x0D on every field they govern, in order of rule and offset (R685). -/
def cfgFields (d : Dev) (b : List Byte) (host : Bool) : List CfgErr :=
  let f (o n : Nat) : Nat := blkField b o n
  let w := f 16 4
  let cap := f 44 2
  let low := Config.lowestCap ((poweredIslands d).map (cfgSetpoint b)) (temps d)
  cfgFail (f 8 4 == 0) 4 8 0 ++
    cfgFail (f 23 1 / 2 != 0) 5 23 (f 23 1) ++ cfgFail (f 46 2 != 0) 5 46 (f 46 2) ++
    cfgFail (!blkClear b 112 (cfgLength b)) 5 112 (f 112 4) ++
    cfgFail (!((List.range 7).any fun k => w == pow2 (10 + k))) 6 16 w ++
    cfgFail (decide (f 20 1 < 8) || decide (64 < f 20 1)) 7 20 (f 20 1) ++
    cfgFail (decide (2 < f 21 1)) 8 21 (f 21 1) ++
    [24, 26].flatMap (fun o => cfgFail (Nat.land (f o 2) (65535 - d.fuse.links) != 0) 9 o (f o 2)) ++
    (List.range 16).flatMap (fun n => cfgFail (bit (f 24 2) n && decide (11 < f (28 + n) 1)) 10 (28 + n) (f (28 + n) 1)) ++
    cfgFail (cap == 0 || decide (700 < cap) || decide (cap < low)) 11 44 cap ++
    (List.range 32).flatMap (fun i =>
      let s := f (48 + 2 * i) 2
      cfgFail (s != 0 && (decide (s < 192) || decide (304 < s))) 12 (48 + 2 * i) s) ++
    cfgFail (host && cfgPersist b && (slotSequences d.flash).any (fun q => decide (cfgSequence b ≤ q))) 13 8 (cfgSequence b)

/-- The failing fields of a block; none for a valid one. -/
def cfgErrors (d : Dev) (b : List Byte) (host : Bool) : List CfgErr :=
  match cfgStruct b with
  | some e => [e]
  | none => cfgFields d b host

/-- The error list of R686. -/
def errorList (es : List CfgErr) : List Byte :=
  leBytes 4 es.length ++ (es.take 32).flatMap fun e => leBytes 1 e.rule ++ leBytes 1 0 ++ leBytes 2 e.off ++ leBytes 4 (e.val % pow2 32)

/-- A valid block waits for the next default boundary (R687). -/
def armSeal (b : List Byte) (cmd : Option Nat) (d : Dev) : Dev := modBoot (fun x => { x with sealPend := some (nextBoundary d.whl, b, cmd) }) d

/-- CONFIG_SEAL (15 R556). -/
def opConfigSeal (r : Nat) : Dev → Dev := runCmd r 0xF0B fun c d =>
  if pkField c.pkt 24 4 ≠ (cfgLength c.block + 63) / 64 * 64 then finish c.id sBadParam 0 0 d
  else if d.boot.sealPend.isSome then finish c.id sBusy 0 0 d
  else
    match cfgErrors d c.block true with
    | [] => armCmd c.id 0 0 (armSeal c.block (some c.id) d)
    | e :: es => finish c.id sConfigInvalid (es.length + 1) e.rule (mailMessage 1 (errorList (e :: es)) d)

/-- The slot that AUTO_SEAL takes (R688). -/
def autoSlot (f : Flash) : Option (List Byte) :=
  let ok (s : List Byte) : Bool := (cfgStruct s).isNone
  if ok f.cfg0 && (!ok f.cfg1 || decide (cfgSequence f.cfg1 ≤ cfgSequence f.cfg0)) then some f.cfg0
  else if ok f.cfg1 then some f.cfg1 else none

/-- AUTO_SEAL on entering HELD (R688). -/
def autoSeal (d : Dev) : Dev :=
  match autoSlot d.flash with
  | some b =>
    (match cfgErrors d b false with
     | [] => armSeal b none d
     | es => mailMessage 1 (errorList es) d)
  | none => mailMessage 1 (errorList (cfgErrors d d.flash.cfg0 false)) d

/-- HELD_ENTRY (R680, R688). Ring pair 0 is the root's first ring. -/
def opHeldEntry (d : Dev) : Dev :=
  if d.boot.state = .boot ∧ d.boot.firmware.isSome = true ∧ d.mem.initDone = true then
    let d1 := modRing 0 (fun _ => { st := .ready, function := 0, ten := 0xFF, home := 0, serving := 0, assigned := true })
      (modBoot (fun b => { b with state := .held }) d)
    if bit d.boot.straps.toNat 2 && d.boot.fwFromFlash then autoSeal d1 else d1
  else d

/-! ## The seal takes effect (R681, R687, R689) -/

/-- A link under a sealed block. -/
def sealLink (b : List Byte) (d : Dev) (l : Nat) : Dev :=
  let pre := bit (blkField b 26 2) l
  let tx := blkField b (28 + l) 1
  let k := lnkOf d l
  if !bit d.fuse.links l then d
  else if !bit (blkField b 24 2) l then enterState l .off d.whl.now (modLnk l (fun k => { k with disabled := true, preset := tx, precode := pre }) d)
  else
    let d1 := modLnk l (fun k => { k with disabled := false, preset := tx, precode := pre }) d
    if k.preset ≠ tx ∨ k.precode ≠ pre ∨ k.state = .off then enterState l .detect d.whl.now d1 else d1

def syncOf (n : Nat) : SyncMode := match n with | 1 => .source | 2 => .sink | _ => .off

/-- The flash slot a sealed block is written to (R689). -/
def persistBlock (b : List Byte) (f : Flash) : Flash :=
  let ok (s : List Byte) : Bool := (cfgStruct s).isNone
  if !f.present then f
  else if !ok f.cfg0 || (ok f.cfg1 && decide (cfgSequence f.cfg0 ≤ cfgSequence f.cfg1)) then { f with cfg0 := b, writing := some 0 }
  else { f with cfg1 := b, writing := some 1 }

/-- W, G, sync, setpoints, cap, links and state of a valid block (R687). -/
def applySeal (b : List Byte) (d : Dev) : Dev :=
  let d1 := modWhl (fun w => { w with
    w := blkField b 16 4, g := blkField b 20 1, n := 0, phase := 0, guardNext := none, syncMode := syncOf (blkField b 21 1)
    syncDelay := blkField b 22 1 }) d
  let d2 := (List.range 32).foldl (fun a i => modIsl i (fun x => { x with setpoint := cfgSetpoint b i }) a)
    (modPower (fun p => { p with cap := blkField b 44 2 }) d1)
  let d3 := (List.range 16).foldl (sealLink b) d2
  modBoard (fun o => { o with holdN := false }) (modBoot (fun x => { x with state := .active, sealPend := none }) d3)

/-- CONFIG_SEAL_EFFECT, at its boundary. -/
def opConfigSealEffect (d : Dev) : Dev :=
  match d.boot.sealPend with
  | some (at_, b, cmd) =>
    if d.boot.state = .held ∧ countDue d.whl at_ = true then
      let d1 := applySeal b d
      match cmd with
      | some id =>
        let d2 := if cfgPersist b then { d1 with flash := persistBlock (b.take (cfgLength b)) d1.flash } else d1
        finishAt id sOk 0 0 0 d2
      | none => d1
    else d
  | none => d

/-! ## DRAIN and HALTED (R671, R682, R700, R707) -/

/-- DRAIN_REQ_SET: the write; the state changes at the next boundary. Only the PF writes. -/
def opDrainReqSet (fn : Nat) (d : Dev) : Dev := if fn = 0 then modBoot (fun b => { b with drainReq := true }) d else d

def opDrainReqClear (fn : Nat) (d : Dev) : Dev := if fn = 0 then modBoot (fun b => { b with drainReq := false }) d else d

/-- The device enters HALTED: every island oscillator is gated. -/
def haltDevice (d : Dev) : Dev :=
  (List.range 32).foldl (fun a i => modIsl i (fun x => { x with oscOn := false, current := 0 }) a) (modBoot (fun b => { b with state := .halted }) d)

/-- DRAIN_TO_HALTED. -/
def opDrainToHalted (d : Dev) : Dev :=
  if d.boot.state = .drain ∧ d.span.joined = false ∧ ((List.range 32).all fun t => (tenOf d t).st == .vacant) = true then haltDevice d else d

/-- THERMAL_TRIP: latched in always-on logic in every state. -/
def opThermalTrip (d : Dev) : Dev :=
  let d1 := modBoard (fun o => { o with tripN := true }) (modBoot (fun b => { b with trip := true }) d)
  if d.boot.state = .powerup then d1 else haltDevice d1

/-- Timer pins, DMA engines and bitstream units act in ACTIVE and DRAIN (Table PWR-4). -/
def unitsOn (d : Dev) : Bool := d.boot.state == .active || d.boot.state == .drain

/-- Level of TMR_PIN_n. -/
def pinLevel (d : Dev) (n : Nat) : Bool := unitsOn d && (tabGet ({} : Timer) d.tmr n).pin

/-- Level of SYNC_OUT (03 R100; Table PWR-4). -/
def syncOut (d : Dev) : Bool := unitsOn d && d.whl.running && d.whl.syncMode == .source && decide (tickAt d.whl d.whl.now < 8)

/-! ## Clock losses (02 R74) -/

/-- REFCLK_LOST: the flag latches; in ACTIVE nothing more is promised until a chip reset. -/
def opRefclkLost (d : Dev) : Dev := modBoot (fun b => { b with refLoss := true, lost := b.lost || b.state == .active }) d

/-- PLL_LOCK_LOST of a PLL whose lock was confirmed. Table CLK-7 names the loss in ACTIVE; that the flag of a loss in another state
latches too is the model's choice (DESIGN CHOICE, log entry 88). -/
def opPllLockLost (p : Nat) (d : Dev) : Dev :=
  if (pllOf d p).locked then
    modBoot (fun b =>
      let y := { b with lost := b.lost || b.state == DevState.active }
      match p with
      | 0 => { y with fabLoss := true }
      | 1 => { y with ctlLoss := true }
      | _ => { y with colLoss := b.colLoss ||| BitVec.ofNat 4 (pow2 (p - 2)) }) d
  else d

/-! ## The host link (19 R640, R641) -/

/-- HOST_LINK_UP: rate and width as STATE codes them; 64 GT/s always runs in FLIT mode. -/
def opHostLinkUp (rate width : Nat) (flit : Bool) (d : Dev) : Dev :=
  if d.boot.inReset then d
  else modBoot (fun b => { b with
    linkUp := true, rate := rate, width := width, flit := flit || rate == 2, degraded := rate == 3 || width == 3 }) d

end Sys2Proof.Machine
end

