-- ==== Sys2Proof/Machine/Power.lean ====
section
/-!
DEFINITION. Power cap, VDD_CORE, temperatures and PMBus (20 R701 to R706; 22 R744 to R747, R750).
-/
namespace Sys2Proof.Machine

/-- The firmware samples and controls: it runs, and no activation is in its blackout (20 R697). -/
def firmwareRuns (d : Dev) : Bool := booted d && d.boot.activating.isNone && !d.boot.inReset

/-! ## Limits (R701, R704) -/

def setLimit (i n : Nat) (d : Dev) : Dev := modIsl i (fun x => { x with limit := n }) d

/-- Powered islands whose limit may still be lowered. -/
def lowerable (d : Dev) : List Nat := (poweredIslands d).filter fun i => decide (lowestCode d i < (islOfDev d i).limit)

/-- Lowers by 4 codes the limits of the islands with the highest current codes, never below the lowest permitted code. -/
def lowerLimits (d : Dev) : Dev :=
  let is := lowerable d
  let top := is.foldl (fun m i => max m (islOfDev d i).current) 0
  (is.filter fun i => (islOfDev d i).current == top).foldl (fun a i => setLimit i (max ((islOfDev d i).limit - 4) (lowestCode d i)) a)
    (modPower (fun p => { p with lowered := p.lowered || !is.isEmpty }) d)

/-- The limit a raise gives an island: 4 codes more after a lowering, else the requested setpoint (R701, R704). -/
def raisedLimit (d : Dev) (i : Nat) : Nat :=
  let x := islOfDev d i
  let want := min x.setpoint (d.power.vCeil.getD ceilingCode)
  if want ≤ x.limit then x.limit else if d.power.lowered then min (x.limit + 4) want else want

/-- A list of limits becomes the islands' own; lowered limits that are all back at their setpoints count as such. -/
def putLimits (ls : List Nat) (d : Dev) : Dev :=
  let d1 := (ls.zip (List.range 32)).foldl (fun a x => setLimit x.2 x.1 a) d
  if (List.range 32).all fun i => decide ((islOfDev d1 i).setpoint ≤ (islOfDev d1 i).limit) then modPower (fun p => { p with lowered := false }) d1 else d1

/-- Fused voltage for a highest limit code, within 700 to 850 mV (R704). -/
def voltageFor (code : Nat) : Nat := max 700 (min 850 (Config.fusedMilliVolt code))

def highest (ls : List Nat) : Nat := ls.foldl max 0

def limitsNow (d : Dev) : List Nat := (List.range 32).map fun i => (islOfDev d i).limit

/-- VOUT_COMMAND for a target in millivolts in the regulator's linear format, halves up (22 R745). -/
def voutWord (e : Int) (mv : Nat) : Nat :=
  match e with
  | .ofNat k => (mv + 500 * pow2 k) / (1000 * pow2 k)
  | .negSucc k => (mv * pow2 (k + 1) + 500) / 1000

/-- One write of VOUT_COMMAND. -/
def commandVoltage (mv : Nat) (d : Dev) : Dev :=
  pmbus 0x40 0x21 (leBytes 2 (voutWord d.boot.voutExp mv)) (modPower (fun p => { p with vcore := mv, vTarget := some mv }) d)

/-- Every island's current code is at or below its limit. -/
def codesSettled (d : Dev) : Bool := (List.range 32).all fun i => decide ((islOfDev d i).current ≤ (islOfDev d i).limit)

/-- The voltage follows the limits in force, unless a change is under way or PMBus has failed. -/
def followLimits (d : Dev) : Dev :=
  let v := voltageFor (highest (limitsNow d))
  if d.power.vTarget.isSome || d.boot.pmbusFault then d
  else if d.power.vcore < v then commandVoltage v d
  else if v < d.power.vcore && codesSettled d then commandVoltage v d
  else d

/-- Raises limits where the voltage already supports them; otherwise raises the voltage first (R704). -/
def raiseLimits (d : Dev) : Dev :=
  let ls := (List.range 32).map (raisedLimit d)
  if ls = limitsNow d then followLimits d
  else if d.power.vTarget.isSome then d
  else if d.boot.pmbusFault || decide (voltageFor (highest ls) ≤ d.power.vcore) then putLimits ls d
  else commandVoltage (voltageFor (highest ls)) d

/-! ## Samples -/

/-- The rolling average of 10 samples exceeds a share of the cap, in hundredths. -/
def averageAbove (p : Power) (hundredths : Nat) : Bool := decide (hundredths * p.cap * p.samples.length < 100 * p.samples.foldl (· + ·) 0)

def averageBelow (p : Power) (hundredths : Nat) : Bool := decide (100 * p.samples.foldl (· + ·) 0 < hundredths * p.cap * p.samples.length)

/-- Every powered island runs at or below its lowest permitted code. -/
def allLowest (d : Dev) : Bool := (poweredIslands d).all fun i => decide ((islOfDev d i).current ≤ lowestCode d i)

/-- Sets or clears CAP_EXCEEDED (R703); setting it raises its cause and asserts SMB_ALERT_N (22 R750). -/
def markCap (on : Bool) (d : Dev) : Dev :=
  let d1 := modPower (fun p => { p with capExceeded := on }) d
  if on && !d.power.capExceeded then raiseDev 4 (modBoard (fun o => { o with smbAlert := true }) d1) else d1

/-- POWER_SAMPLE of a board input power in watts. -/
def opPowerSample (watts : Nat) (d : Dev) : Dev :=
  if firmwareRuns d then
    let ss := (watts :: d.power.samples).take 10
    let d1 := pmbus 0x41 0x97 [] (modPower (fun p => { p with samples := ss, avg := ss.foldl (· + ·) 0 / ss.length }) d)
    let above := averageAbove d1.power 100
    let d2 := markCap (above && allLowest d1) d1
    if above then followLimits (lowerLimits d2)
    else if averageBelow d1.power 95 && !d1.power.thermWarn then raiseLimits d2
    else followLimits d2
  else d

/-- Sets or clears THERM_WARN (R705). -/
def markWarm (on : Bool) (d : Dev) : Dev :=
  let d1 := modPower (fun p => { p with thermWarn := on }) d
  if on && !d.power.thermWarn then raiseDev 3 (modBoard (fun o => { o with smbAlert := true }) d1) else d1

/-- Tenancies that hold a cluster of a quadrant. -/
def holdersOfQuad (d : Dev) (q : Nat) : List Nat :=
  (List.range 32).filter fun t => (recClusters (grantOf d t)).any fun c => quadOf c == q

/-- Sensors above 105 degrees, in eighths. -/
def hotBits (ts : List Int) : Nat := flagBits (ts.map fun t => decide (840 < t))

/-- THERMAL_SAMPLE of the islands' and the column stacks' sensors, in eighths of a degree (R705, R706). -/
def opThermalSample (isl col : List Int) (d : Dev) : Dev :=
  if firmwareRuns d then
    let hot := hotBits isl
    let colHot := hotBits col
    let twice := Nat.land hot d.power.hot.toNat
    let colTwice := Nat.land colHot d.power.colHot.toNat
    let warm := (isl ++ col).any fun t => decide (800 ≤ t)
    let d1 := modPower (fun p => { p with
      temp := listTab isl, colTemp := listTab col, hot := BitVec.ofNat 32 hot, colHot := BitVec.ofNat 4 colHot }) d
    let d2 := markWarm warm d1
    let d3 := if warm then lowerLimits d2 else d2
    let due := (List.range 32).filter fun t =>
      ((List.range 32).any fun i => bit twice i && (holdersOfIsland d i).contains t) ||
        ((List.range 4).any fun q => bit colTwice q && (holdersOfQuad d q).contains t)
    faultAll due fcThermal d3
  else d

/-! ## PMBus -/

/-- READ_VOUT lies within 5 mV of a target (22 R745). -/
def voutReached (e : Int) (raw mv : Nat) : Bool :=
  match e with
  | .ofNat k => decide (((raw * pow2 k * 1000 : Nat) : Int) - mv ≤ 5) && decide ((mv : Int) - (raw * pow2 k * 1000 : Nat) ≤ 5)
  | .negSucc k =>
    decide (((raw * 1000 : Nat) : Int) - (mv * pow2 (k + 1) : Nat) ≤ (5 * pow2 (k + 1) : Nat)) &&
      decide (((mv * pow2 (k + 1) : Nat) : Int) - (raw * 1000 : Nat) ≤ (5 * pow2 (k + 1) : Nat))

/-- READ_VOUT_POLL with the word the regulator reads back. -/
def opReadVoutPoll (raw : BitVec 16) (d : Dev) : Dev :=
  match d.power.vTarget with
  | some v =>
    if firmwareRuns d then
      let d1 := pmbus 0x40 0x8B [] d
      if voutReached d.boot.voutExp raw.toNat v then modPower (fun p => { p with vTarget := none }) d1 else d1
    else d
  | none => d

/-- PMBUS_FAULT: a VOUT_MODE that is not linear, three failed transactions in a row, or a target not reached in 5 ms. -/
def opPmbusFault (why : Nat) (d : Dev) : Dev :=
  if d.boot.inReset || d.boot.state == .powerup || (why == 2 && d.power.vTarget.isNone) then d else pmbusFail (why == 0) d

/-- PMB_ALERT: STATUS_WORD of both targets is read and logged (22 R747). -/
def opPmbAlert (st0 st1 : BitVec 16) (d : Dev) : Dev :=
  if firmwareRuns d then
    let d1 := pmbus 0x41 0x79 [] (pmbus 0x40 0x79 [] (modPower (fun p => { p with statusLog := p.statusLog ++ [(st0.toNat, st1.toNat)] }) d))
    if st0 ≠ 0 ∨ st1 ≠ 0 then raiseDev 11 d1 else d1
  else d

/-! ## SMB_ALERT_N (22 R750) -/

/-- SMB_ALERT_RESPONSE: the target answers with its own address and releases the line. -/
def opSmbAlertResponse (d : Dev) : Dev :=
  if d.board.smbAlert then emit (.smb [0xB4]) (modBoard (fun o => { o with smbAlert := false }) d) else d

end Sys2Proof.Machine
end

