-- ==== Sys2Proof/Machine/Cores.lean ====
section
/-!
DEFINITION. Watchdogs, core resets, the rescue core and interrupted commands (13 R445; 20 R698; 21 R720 to R725).
-/
namespace Sys2Proof.Machine

/-! ## Expiry (R721 to R723) -/

/-- Commands whose effect is keyed to a count and posted in one write (R724). -/
def countKeyed (op : Nat) : Bool :=
  (0x300 ≤ op && op ≤ 0x304) || op == 0x500 || op == 0x501 || op == 0x503 || op == 0x504 || op == 0xF01 || op == 0xF03 || op == 0xF06 || op == 0xF0A

/-- Commands that a core reset does not interrupt: settled, posted, draining, or governed by R698 (Table FLT-3). -/
def untouched (c : Cmd) : Bool :=
  c.stage == .done || (c.stage == .armed && (countKeyed (opcodeOf c) || opcodeOf c == 0x103)) || opcodeOf c == 0xF08

/-- Commands started on the rings that a core serves are interrupted. -/
def interruptCmds (n : Nat) (d : Dev) : Dev :=
  let f (c : Cmd) : Cmd := if (ringOf d c.ring).serving = n ∧ untouched c = false then { c with interrupted := true } else c
  modHost (fun h => { h with cmds := h.cmds.map f }) d

/-- The third reset within 65,536 counted wheels retires a core (R723). -/
def retires (w : Nat) (resets : List Nat) : Bool :=
  match resets with
  | _ :: b :: _ => decide (w < b + 65536)
  | _ => false

/-- The core that acts on an expiry (R720). -/
def rescuer (n : Nat) : Nat := if n = 15 then 0 else 15

/-- UMB_n is held in reset; UMB_15 serves the rings homed on it. -/
def holdCore (n : Nat) (d : Dev) : Dev :=
  let w := d.whl.n
  let d1 := modCore n (fun c => { c with
    reset := true, expired := false, rehome := none, wdHeld := false, retired := retires w c.resets, resets := w :: c.resets }) (interruptCmds n d)
  let g (r : Nat × Ring) : Nat × Ring := if r.2.home = n ∧ r.2.st ≠ .unassigned then (r.1, { r.2 with serving := 15 }) else r
  raiseDev 6 (modBoot (fun b => { b with coreResets := (b.coreResets + 1) % pow2 32 })
    (modHost (fun h => { h with rings := h.rings.map g }) d1))

/-- An expiry of UMB_n's watchdog. If the core that must act is itself down, control is lost (R722). -/
def expireCore (n : Nat) (d : Dev) : Dev :=
  if coreUp d (rescuer n) then holdCore n d
  else raiseDev 7 (modBoot (fun b => { b with controlLost := true }) (modCore n (fun c => { c with expired := true }) (interruptCmds n d)))

/-- WATCHDOG_EXPIRY: 2,000,000 k without a kick, while the watchdog is not held. -/
def opWatchdogExpiry (n : Nat) (d : Dev) : Dev :=
  if booted d && coreUp d n && !(coreOf d n).wdHeld then expireCore n d else d

/-- CORE_RESET: a write to STATE.CORE_RESET; only the PF writes. -/
def opCoreReset (fn : Nat) (mask : BitVec 16) (d : Dev) : Dev :=
  if fn = 0 ∧ booted d = true then
    (List.range 16).foldl (fun a n => if bit mask.toNat n && coreUp a n then expireCore n a else a) d
  else d

/-- RESCUE_CORE_RESET: the expiry of UMB_15's watchdog. -/
def opRescueCoreReset (d : Dev) : Dev :=
  if booted d && coreUp d 15 && !(coreOf d 15).wdHeld then expireCore 15 d else d

/-- CORE_RELEASE: the core that acts releases UMB_n, and its rings wait for the next boundary. -/
def opCoreRelease (n : Nat) (d : Dev) : Dev :=
  let c := coreOf d n
  if c.reset && !c.retired && coreUp d (rescuer n) then
    modCore n (fun c => { c with reset := false, rehome := if n = 15 then none else some (nextBoundary d.whl) }) d
  else d

/-- RING_REHOME at that boundary (13 R445). -/
def opRingRehome (n : Nat) (d : Dev) : Dev :=
  match (coreOf d n).rehome with
  | some b =>
    if coreUp d n && countDue d.whl b then
      let g (r : Nat × Ring) : Nat × Ring := if r.2.home = n ∧ r.2.st ≠ .unassigned then (r.1, { r.2 with serving := n }) else r
      modHost (fun h => { h with rings := h.rings.map g }) (modCore n (fun c => { c with rehome := none }) d)
    else d
  | none => d

/-! ## Interrupted commands (R725, Table FLT-3) -/

/-- Commands that start again and complete normally; IMAGE_UNLOAD is continued. -/
def restarts (op : Nat) : Bool :=
  [0x001, 0x002, 0x003, 0x100, 0x101, 0x103, 0x104, 0x305, 0x306, 0x400, 0x401, 0x403, 0x404, 0x502, 0x600, 0xF02, 0xF04, 0xF05, 0xF09, 0xF0B].contains op

/-- A command starts again; reads it had under way are issued again. -/
def restartCmd (c : Cmd) (d : Dev) : Dev :=
  let mine (f : Fetch) : Bool := f.why == .block c.id || f.why == .data c.id
  let d1 := modHost (fun h => { h with fetches := h.fetches.filter fun f => !mine f }) d
  let d2 := modBoot (fun b => match b.sealPend with
    | some (_, _, some id) => if id = c.id then { b with sealPend := none } else b
    | _ => b) d1
  let now := gcOf d.whl
  if needsBlock (opcodeOf c) then
    issueFetch (.block c.id) (cmdFn d c) (pkField c.pkt 16 8) (pkField c.pkt 24 4)
      (modCmd c.id (fun c => { c with interrupted := false, stage := .block, data := [], now := now }) d2)
  else modCmd c.id (fun c => { c with interrupted := false, stage := .ready, data := [], now := now }) d2

/-- A command ends with FC_WATCHDOG. -/
def lostCmd (c : Cmd) (d : Dev) : Dev := modCmd c.id (fun c => { c with interrupted := false }) (abortCmd c.id sFaulted fcWatchdog d)

/-- The unit a BSU command names, if its tenancy holds it. -/
def bsuNamed (d : Dev) (c : Cmd) : Option Nat :=
  let u := if opcodeOf c = 0x601 then (if c.block.isEmpty then 4 else blkField c.block 0 1) else pkField c.pkt 16 1
  if u < 4 ∧ bsuHolder d u = some (cmdTen d c) then some u else none

/-- A unit is left reset and unconfigured; LAST_RESET of such a reset is left open. -/
def bsuLeftReset (u : Nat) (d : Dev) : Dev :=
  let d1 := modHost (fun h => { h with nextId := h.nextId + 1 }) (modBsu u (fun x => { bsuCleared x with
    lastReset := (Config.freeValue d.host.nextId).toNat % 8, resets := satInc x.resets, resetWheel := none }) d)
  match bsuHolder d u with
  | some t => raiseCause t 4 d1
  | none => d1

/-- What Table FLT-3 makes of an interrupted command that is not restarted. -/
def loseCmd (c : Cmd) (d : Dev) : Dev :=
  let t := cmdTen d c
  match opcodeOf c with
  | 0x102 => lostCmd c (if (tenOf d t).loading = some c.id then undoLoad t sFaulted fcWatchdog d else d)
  | 0x402 => lostCmd c (modTen t (fun x => { x with replay := match x.replay with
      | some r => if r.cmd = c.id then none else some r
      | none => none }) d)
  | 0x601 | 0x602 => (match bsuNamed d c with | some u => lostCmd c (bsuLeftReset u d) | none => lostCmd c d)
  | 0xF07 => lostCmd c (modBoot (fun b => { b with staged := none }) d)
  | _ => lostCmd c d

/-- A replayed launch that was posted runs to its end first. -/
def mustWait (d : Dev) (c : Cmd) : Bool :=
  opcodeOf c == 0x402 && match (tenOf d (cmdTen d c)).program with | some p => p.replayed && p.cmd == c.id | none => false

/-- INTERRUPTED_COMMAND: the core that serves a ring now takes its oldest interrupted command that need not wait. -/
def opInterruptedCommand (r : Nat) (d : Dev) : Dev :=
  if coreServes d (ringOf d r).serving then
    match findCmd d fun c => c.ring == r && c.interrupted && c.stage != .done && !mustWait d c with
    | some c => if restarts (opcodeOf c) then restartCmd c d else loseCmd c d
    | none => d
  else d

/-- BLACKOUT_BOUND_EXPIRY: UMB_00's watchdog is treated as expired and the others count again (20 R698). -/
def opBlackoutBoundExpiry (d : Dev) : Dev :=
  match d.boot.activating with
  | some id => expireCore 0 (abortCmd id sFaulted fcWatchdog (modBoot (fun b => { b with activating := none }) (holdWatchdogs false d)))
  | none => d

end Sys2Proof.Machine
end

