-- ==== Sys2Proof/Machine/Dma.lean ====
section
/-!
DEFINITION. DMA engines (19 R660 to R668).
-/
namespace Sys2Proof.Machine

/-! ## Ports -/

def dmaIsl (e : Nat) : Nat := islOfDma e
def dmaPort (e : Nat) : Nat := 20 + e % 4
def dmaCtr (e : Nat) : (FabCtr → FabCtr) → Dev → Dev := portCtr (dmaIsl e) (dmaPort e)

/-- Flit tag of a descriptor (R660). -/
def descTag : BitVec 10 := 0x3FF

/-- The flit due at a port at a tick, if it is a descriptor or is not one, as desc asks; LATE and the tag are read after
the ECC correction (04 R133). -/
def flitAt (e t : Nat) (desc : Bool) (d : Dev) : Option Flight :=
  match (takeFlight (.dma e) t d).1 with
  | some fl =>
    let f := (eccCheck fl.flit).1
    if (f.tag == descTag && !f.late) == desc then some fl else none
  | none => none

/-- The tag check of R151 and R660: the owner of the phase of the flit's last switch tick, granted the engine. -/
def dmaOwnerOk (d : Dev) (e sw : Nat) (f : Flit) : Bool :=
  f.ten.toNat == ownerAt d (dmaIsl e) sw && decide (f.ten.toNat < 32) && bit (recDma (grantOf d f.ten.toNat)) e

/-! ## Descriptors (R661 to R663) -/

def descKind (l : Line) : Nat := pkField l 0 1
def descN (l : Line) : Nat := pkField l 2 2
def descTick (l : Line) : Nat := pkField l 4 2
def descLap (l : Line) : Nat := pkField l 6 1
def descAddr (l : Line) : Nat := pkField l 8 8

/-- KIND, N, reserved fields and alignment. -/
def descFieldsOk (l : Line) : Bool :=
  let read := descKind l == 1
  (read || descKind l == 2) && decide (1 ≤ descN l) && decide (descN l ≤ (if read then 64 else 4096)) && pkField l 1 1 == 0 &&
    decide (descLap l < 4) && pkField l 7 1 == 0 && descAddr l % 64 == 0 && decide (pkField l 16 2 < (if read then 1024 else 1)) &&
    pkField l 18 46 == 0

/-- Count of a departure position as seen from an arrival count; none for one that has passed (07 R269). -/
def positionGc (w : Wheel) (gc lap tick : Nat) : Option Nat :=
  let n := gc / w.w
  match reach (lap, tick) (n % 4, gc % w.w) with
  | .passed => none
  | _ => some ((n + (lap + 4 - n % 4) % 4) * w.w + tick)

/-- Every phase of a range of ticks belongs to a tenancy at the engine's switch. -/
def phasesOwned (d : Dev) (e ten tick n : Nat) : Bool :=
  (List.range 64).all fun p =>
    decide (p < phaseOf d.whl tick) || decide (phaseOf d.whl (tick + n - 1) < p) || (phaseEnt d (dmaIsl e) p).owner == ten

/-- Pending descriptors of a direction. -/
def pendDir (d : Dev) (e : Nat) (read : Bool) : List DmaDesc := (dmaOf d e).pend.filter fun x => x.read == read

/-- The engine accepts a descriptor that arrives at a count (R662). -/
def descAccepted (d : Dev) (e ten : Nat) (l : Line) : Bool :=
  let read := descKind l == 1
  let n := descN l
  let tick := descTick l
  let gc := gcOf d.whl
  let pend := pendDir d e read
  let lead := match positionGc d.whl gc (descLap l) tick with
    | some g => decide (gc + (if read then 64 else 1) ≤ g)
    | none => false
  descFieldsOk l && decide (tick + n ≤ d.whl.w) && phasesOwned d e ten tick n && lead &&
    !pend.any (fun x => x.lap == descLap l && overlaps tick n x.tick x.n) && decide (pend.length < 8) &&
    (!read || decide (pend.foldl (fun a x => a + x.n) n ≤ 64))

/-- A launch of the tenancy is recorded or replayed, so its reads are (16 R575, R583). -/
def readsRecorded (d : Dev) (t : Nat) : Bool := match (tenOf d t).program with | some p => p.recorded || p.replayed | none => false

/-- DMA_DESCRIPTOR: the descriptor flit at a port at tick t. -/
def opDmaDescriptor (e t : Nat) (d : Dev) : Dev :=
  if t < d.whl.now then d
  else
    let d0 := advanceTo t d
    match flitAt e t true d0 with
    | none => d0
    | some fl =>
      let c := eccCheck fl.flit
      let f := c.1
      let d1 := countEcc c.2 (dmaCtr e) (takeFlight (.dma e) t d0).2
      let ten := f.ten.toNat
      let no (code : Nat) : Dev := raiseFault ten code (modDma e (fun x => { x with descErr := satInc x.descErr }) d1)
      if !dmaOwnerOk d1 e fl.sw f then tagMismatch f (decide (c.2 = .bad)) (dmaCtr e) d1
      else if f.poison then no fcPoison
      else if !descAccepted d1 e ten f.data then no fcDma
      else
        let l := f.data
        let read := descKind l == 1
        let x : DmaDesc :=
          { read := read, n := descN l, tick := descTick l, lap := descLap l, addr := descAddr l, tag := BitVec.ofNat 10 (pkField l 16 2), ten := ten
            flits := if read then List.replicate (descN l) .waiting else [], recorded := readsRecorded d1 ten }
        let fn := recFunction (grantOf d1 ten)
        let d2 := modDma e (fun y => { y with pend := y.pend ++ [x] }) d1
        if read && canIssue d2 fn then emit (.hostRead fn (descAddr l) (64 * descN l)) d2 else d2

/-! ## Read data and departures (R663 to R665) -/

/-- A READ whose flit departs at a position. -/
def holdsFlit (lap tick : Nat) (x : DmaDesc) : Bool := x.read && x.lap == lap && decide (x.tick + x.next ≤ tick) && decide (tick < x.tick + x.n)

/-- Settles a READ flit that still waits. -/
def settleFlit (lap tick : Nat) (r : RdFlit) (x : DmaDesc) : DmaDesc :=
  if holdsFlit lap tick x then
    { x with flits := (List.range x.n).map fun i =>
        let o := x.flits.getD i .waiting
        if i = tick - x.tick ∧ o = .waiting then r else o }
  else x

/-- DMA_READ_COMPLETION: the data of the flit that departs at a position crosses into the fabric at tick t. -/
def opDmaReadCompletion (e lap tick t : Nat) (data : Line) (poison : Bool) (d : Dev) : Dev :=
  let x := dmaOf d e
  if x.owed.contains (lap, tick) then
    modDma e (fun x => { x with owed := x.owed.filter (fun o => o != (lap, tick)), lateCompl := satInc x.lateCompl }) d
  else modDma e (fun x => { x with pend := x.pend.map (settleFlit lap tick (.data data poison t)) }) d

/-- Reads of n flits from a position on have failed (R656, Table HST-6). -/
def failReads (e lap tick n : Nat) (d : Dev) : Dev :=
  (List.range n).foldl (fun a i => modDma e (fun x => { x with
    owed := x.owed.filter (fun o => o != (lap, tick + i)), pend := x.pend.map (settleFlit lap (tick + i) .failed) }) a) d

/-- A recorded READ whose last flit has departed is a transfer of its launch (16 R577, R578). -/
def recordRead (e : Nat) (x : DmaDesc) (d : Dev) : Dev :=
  if x.recorded then recordXfer x.ten (xferOf e (d.whl.n * d.whl.w + x.tick) x) d else d

/-- Replaces a pending descriptor by its successor, or removes it after its last flit. -/
def stepDesc (e : Nat) (x : DmaDesc) (d : Dev) : Dev :=
  let y := { x with next := x.next + 1 }
  modDma e (fun k => { k with pend := k.pend.flatMap fun z => if z = x then (if y.next = y.n then [] else [y]) else [z] }) d

/-- The pending descriptor of a direction whose next flit is at the present position; a suspended tenancy's position is
held (R667). -/
def dueDesc (d : Dev) (e : Nat) (read : Bool) : Option DmaDesc :=
  if counted d.whl then
    (pendDir d e read).find? fun x =>
      (tenOf d x.ten).st != .suspended && decide (reach (x.lap, x.tick + x.next) (fabPos d.whl) = .current)
  else none

/-- DMA_READ_DEPARTURE: the READ flit that is due at tick t. -/
def opDmaReadDeparture (e t : Nat) (d : Dev) : Dev :=
  if t < d.whl.now then d
  else
    let d0 := advanceTo t d
    match dueDesc d0 e true with
    | none => d0
    | some x =>
      let tag := tagAt x.tag x.next
      let send (f : Flit) (d : Dev) : Dev := addFlight { dest := .swIn (dmaIsl e) (dmaPort e), due := t + 2, sw := t + 2, flit := f } d
      let r := x.flits.getD x.next .failed
      let d1 := stepDesc e x d0
      let d2 :=
        match r with
        | .data l poison at_ =>
          if at_ + 4 ≤ t then
            send (sealFlit { data := l, ten := BitVec.ofNat 6 x.ten, tag := tag, late := false, poison := poison, ecc := 0 })
              (modDma e (fun k => { k with readFlits := satInc k.readFlits }) d1)
          else
            raiseFault x.ten fcDma (send (voidFlit x.ten tag) (modDma e (fun k => { k with starved := satInc k.starved }) d1))
        | .failed => raiseFault x.ten fcDma (send (voidFlit x.ten tag) (modDma e (fun k => { k with starved := satInc k.starved }) d1))
        | .waiting =>
          raiseFault x.ten fcDma (send (voidFlit x.ten tag)
            (modDma e (fun k => { k with starved := satInc k.starved, owed := k.owed ++ [(x.lap, x.tick + x.next)] }) d1))
      if x.next + 1 = x.n then recordRead e x d2 else d2

/-! ## Writes (R666) -/

/-- DMA_WRITE_ARRIVAL: the write-data flit at a port at tick t. -/
def opDmaWriteArrival (e t : Nat) (d : Dev) : Dev :=
  if t < d.whl.now then d
  else
    let d0 := advanceTo t d
    match flitAt e t false d0 with
    | none => d0
    | some fl =>
      let c := eccCheck fl.flit
      let f := c.1
      let d1 := countEcc c.2 (dmaCtr e) (takeFlight (.dma e) t d0).2
      let ten := f.ten.toNat
      if !dmaOwnerOk d1 e fl.sw f then tagMismatch f (decide (c.2 = .bad)) (dmaCtr e) d1
      else
        let due := (dueDesc d1 e false).filter fun x => x.ten == ten
        let d2 := match due with | some x => stepDesc e x d1 | none => d1
        if f.late then raiseFault ten fcVoidFlit (dmaCtr e (fun k => { k with voidRx := satInc k.voidRx }) d2)
        else
          match due with
          | none => modDma e (fun k => { k with unexpected := satInc k.unexpected }) d2
          | some x =>
            if f.poison then raiseFault ten fcPoison d2
            else if 64 ≤ (dmaOf d2 e).writeQ.length then raiseFault ten fcDma (modDma e (fun k => { k with overflow := satInc k.overflow }) d2)
            else
              let w : DmaWr := { fn := recFunction (grantOf d2 ten), ten := ten, addr := x.addr + 64 * x.next, data := f.data, at_ := t }
              modDma e (fun k => { k with writeQ := k.writeQ ++ [w], writeFlits := satInc k.writeFlits }) d2

/-- DMA_WRITE_SHORT: a port tick of a pending WRITE at which no write flit arrives. -/
def opDmaWriteShort (e t : Nat) (d : Dev) : Dev :=
  if t < d.whl.now ∨ (flitAt e t false d).isSome = true then d
  else
    let d0 := advanceTo t d
    match dueDesc d0 e false with
    | some x => modDma e (fun k => { k with short := satInc k.short }) (stepDesc e x d0)
    | none => d0

/-- Length of the run of flits at the head of a write queue that one write can carry: one tenancy, rising addresses, within
4 KiB and at most n flits (R649). -/
def runLength (n : Nat) : List DmaWr → Nat
  | [] => 0
  | w :: ws =>
    let rec go (k : Nat) (addr : Nat) : List DmaWr → Nat
      | [] => k
      | v :: vs => if k < n ∧ v.fn = w.fn ∧ v.ten = w.ten ∧ v.addr = addr ∧ addr / 4096 = w.addr / 4096 then go (k + 1) (addr + 64) vs else k
    go 1 (w.addr + 64) ws

/-- DMA_HOST_WRITE: the host side writes from the head of a queue, at most n flits in one write; a function that may issue
nothing keeps its flits (R647). -/
def opDmaHostWrite (e n : Nat) (d : Dev) : Dev :=
  match (dmaOf d e).writeQ with
  | [] => d
  | w :: ws =>
    if canIssue d w.fn then
      let k := runLength n (w :: ws)
      emit (.hostWrite w.fn w.addr (((w :: ws).take k).flatMap fun v => leBytes 64 v.data.toNat))
        (modDma e (fun x => { x with writeQ := (w :: ws).drop k }) d)
    else d

end Sys2Proof.Machine
end

