-- ==== Sys2Proof/Machine/Pcie.lean ====
section
/-!
DEFINITION. Functions, errors, completion timeouts, function-level reset and MSI-X masks of the host link (19).
-/
namespace Sys2Proof.Machine

/-- A function takes BAR requests while the control domain runs: the PF, or an enabled VF without a reset in progress (R642, R657;
02 R69). -/
def hostOpen (d : Dev) (fn : Nat) : Bool := !d.boot.inReset && controlUp d && (fn == 0 || ((funcOf d fn).enabled && !(funcOf d fn).flr))

/-! ## Bus Master Enable and masks (R647, R652) -/

/-- Requests of a function that waited on their crossings are issued in order, once it may issue. -/
def releaseBlocked (fn : Nat) (d : Dev) : Dev :=
  if canIssue d fn then
    modHost (fun h => { h with
      posted := h.posted ++ (h.blocked.filter fun b => b.1 == fn).map (·.2), blocked := h.blocked.filter fun b => b.1 != fn }) d
  else d

/-- BUS_MASTER_ENABLE: a configuration write reaches a VF only while it is enabled. -/
def opBusMasterEnable (fn : Nat) (on : Bool) (d : Dev) : Dev :=
  if d.boot.inReset then d else releaseBlocked fn (modFunc fn (fun f => { f with bme := on, enabled := true }) d)

/-- Sends the withheld messages of a vector, back to back. -/
def sendWithheld (fn v : Nat) (d : Dev) : Dev :=
  let e := tabGet {} (funcOf d fn).msix v
  if e.mask || (funcOf d fn).mask || e.withheld == 0 then d
  else
    (List.replicate e.withheld (Out.msix fn v e.addr e.data)).foldl (fun a o => issueOut fn o a)
      (modFunc fn (fun f => { f with msix := tabSet v { e with withheld := 0 } f.msix }) d)

/-- MSIX_UNMASK of a vector, or of the whole function. -/
def opMsixUnmask (fn : Nat) (v : Option Nat) (d : Dev) : Dev :=
  if !hostOpen d fn then d
  else
    match v with
    | some v =>
      if tableSize fn ≤ v then d
      else sendWithheld fn v (modFunc fn (fun f => { f with msix := tabMod {} v (fun e => { e with mask := false }) f.msix }) d)
    | none => (List.range (tableSize fn)).foldl (fun a v => sendWithheld fn v a) (modFunc fn (fun f => { f with mask := false }) d)

/-! ## Errors (R645, R655, R656) -/

/-- Sets a bit of a function's error status; a correctable error is the physical function's. -/
def aerUnc (fn b : Nat) (d : Dev) : Dev := modFunc fn (fun f => { f with aerUnc := f.aerUnc ||| BitVec.ofNat 32 (pow2 b) }) d
def aerCor (b : Nat) (d : Dev) : Dev := modFunc 0 (fun f => { f with aerCor := f.aerCor ||| BitVec.ofNat 32 (pow2 b) }) d

/-- Function of a read. -/
def readFn (d : Dev) (r : ReadRef) : Nat :=
  match r with
  | .fetch id _ => (match d.host.fetches.find? fun f => f.id == id with | some f => f.fn | none => 0)
  | .dma e lap tick _ =>
    (match (dmaOf d e.val).pend.find? (holdsFlit lap.val tick.toNat) with | some x => recFunction (grantOf d x.ten) | none => 0)

/-- A read of the boot fails: BOOT_ERROR 4 (20 R678; 23 Table REG-3). -/
def failFetch (f : Fetch) (came : List Byte) (d : Dev) : Dev :=
  if f.why = .boot then bootFail 4 d else fetchFailed f came d

/-- A read has failed (Table HST-6). -/
def failRead (r : ReadRef) (d : Dev) : Dev :=
  match r with
  | .fetch id came =>
    let q := takeFetch id d
    (match q.1 with | some f => failFetch f came q.2 | none => d)
  | .dma e lap tick n => failReads e.val lap.val tick.toNat n.val d

/-- COMPLETION_TIMEOUT. -/
def opCompletionTimeout (r : ReadRef) (d : Dev) : Dev := failRead r (aerUnc (readFn d r) 14 d)

/-- UNSUPPORTED_REQUEST: a read completes with UR, a write is discarded. -/
def opUnsupportedRequest (fn : Nat) (read : Bool) (d : Dev) : Dev :=
  let d1 := aerUnc fn 20 d
  if read then emit (.ur fn) d1 else d1

/-- PCIE_ERROR_RECEIVED. -/
def opPcieErrorReceived (e : PcieError) (d : Dev) : Dev :=
  match e with
  | .receiver => aerCor 0 d
  | .badTlp => aerCor 6 d
  | .badDllp => aerCor 7 d
  | .replayRollover => aerCor 8 d
  | .replayTimeout => aerCor 12 d
  | .malformed fn => aerUnc fn.val 18 d
  | .ecrcRequest fn => aerUnc fn.val 19 d
  | .unsupported fn read => opUnsupportedRequest fn.val read d
  | .poisonedWrite fn => aerUnc fn.val 12 d
  | .failedCompletion r => failRead r d
  | .poisonedCompletion ecrc r t data =>
    let d1 := aerUnc (readFn d r) (if ecrc then 19 else 12) d
    (match r with
     | .fetch _ _ => failRead r d1
     | .dma e lap tick _ => opDmaReadCompletion e.val lap.val tick.toNat t data true d1)
  | .unexpectedCompletion fn => if (funcOf d fn.val).flr then d else aerUnc fn.val 16 d

/-- FETCH_COMPLETION: all the data of a read of the control domain. -/
def opFetchCompletion (id : Nat) (data : List Byte) (d : Dev) : Dev :=
  let q := takeFetch id d
  match q.1 with
  | some f =>
    if data.length ≠ f.len then d
    else if f.why = .boot then modBoot (fun b => { b with hostImage := some data }) q.2
    else fetchDone f data q.2
  | none => d

/-! ## Function-level reset (R642, R657, R658) -/

/-- A started command of a function under reset. A launch is stopped at the next boundary, whose count it carries (13 R467; R657). -/
def abortForFlr (d : Dev) (c : Cmd) : Cmd :=
  let gc := if isLaunch (opcodeOf c) && c.stage == .armed then some (nextBoundary d.whl) else none
  if c.stage = .done then c else { endCmd sAborted 0 gc c with interrupted := false }

/-- A ring pair back in READY, its bases, SIZES and CTRL cleared and its ownership kept (R657). CMD_HEAD, STS_TAIL and the
lap clear at ENABLE or chip reset alone (13 R453). -/
def resetRing (g : Ring) : Ring :=
  { g with
    st := .ready, cmdBase := 0, stsBase := 0, cmdLo := none, stsLo := none, cmdLog := 0, stsLog := 0, enable := false
    vector := 0, closing := false, cause := 8, fetching := false, packet := none }

/-- Tenancies of a function. -/
def tensOfFn (d : Dev) (fn : Nat) : List Nat := (List.range 32).filter fun t => recClass (grantOf d t) != 0 && recFunction (grantOf d t) == fn

/-- What R657 does at once: commands are aborted and answered, rings, vectors, descriptors and queued flits go. -/
def startFlr (fn : Nat) (d : Dev) : Dev :=
  let mine (r : Nat) : Bool := (ringOf d r).st != .unassigned && (ringOf d r).function == fn
  let cmds := d.host.cmds.filter fun c => mine c.ring
  let ts := tensOfFn d fn
  let clear (x : Tenancy) : Tenancy :=
    { x with
      replay := none
      loading := match x.loading with | some id => if cmds.any (fun c => c.id == id) then none else some id | none => none }
  let d1 := ts.foldl (fun a t => dropDescs t (modTen t clear a)) d
  let d2 := cmds.foldl (fun a c => writeReply (fun _ o x => emit o x) (abortForFlr d c) a) d1
  let d3 := modHost (fun h => { h with
    rings := h.rings.map fun r => if mine r.1 then (r.1, resetRing r.2) else r
    fetches := h.fetches.filter fun f => f.fn != fn, blocked := h.blocked.filter fun b => b.1 != fn }) d2
  let d4 := { d3 with dma := d3.dma.map fun e => (e.1, { e.2 with writeQ := e.2.writeQ.filter fun w => w.fn != fn }) }
  modFunc fn (fun f => { f with flr := true, flrAt := nextBoundary d.whl, msix := [] }) d4

/-- FUNCTION_LEVEL_RESET of a VF. -/
def opFunctionLevelReset (fn : Nat) (d : Dev) : Dev :=
  if fn ≠ 0 ∧ (funcOf d fn).enabled = true ∧ (funcOf d fn).flr = false then startFlr fn d else d

/-- The tenancy stops as TENANCY_RESET stops it and goes toward VACANT (R657; 15 R555). -/
def flrTenancy (t gc : Nat) (d : Dev) : Dev :=
  let d1 := stopForReset t gc d
  match (tenOf d t).st with
  | .vacant => releaseUnits t d1
  | .draining => d1
  | .staged => becomeVacant t d1
  | _ => beginDrain t d1

/-- FLR_COMPLETE: at the boundary the function's tenancy stops, and every step has finished. -/
def opFlrComplete (fn : Nat) (d : Dev) : Dev :=
  let f := funcOf d fn
  if f.flr && countDue d.whl f.flrAt then
    let d1 := (tensOfFn d fn).foldl (fun a t => flrTenancy t f.flrAt a) d
    modFunc fn (fun f => { f with flr := false, bme := false, mask := false, aerUnc := 0, aerCor := 0 })
      (modHost (fun h => { h with blocked := h.blocked.filter fun b => b.1 != fn }) d1)
  else d

/-- VF_ENABLE_CLEAR: every enabled VF is reset. -/
def opVfEnableClear (d : Dev) : Dev :=
  (List.range 63).foldl (fun a k =>
    let fn := k + 1
    if (funcOf a fn).enabled then
      modFunc fn (fun f => { f with enabled := false }) (if (funcOf a fn).flr then a else startFlr fn a)
    else a) d

end Sys2Proof.Machine
end

