-- ==== Sys2Proof/Machine/Guards.lean ====
section
/-!
DEFINITION. How a command acts on the device: always, while the device promises anything, while its island runs, while
its unit is on, or while its function takes requests.
-/
namespace Sys2Proof.Machine

/-- A command that acts even after a clock loss (02 R74). -/
def onDevAlways (s : State) (f : Dev → Dev) : Host.Outcome State Fault Refusal := .next { s with dev := f s.dev }

/-- A command of a device that promises its behaviour (02 R74; 22 R739). -/
def onDev (s : State) (f : Dev → Dev) : Host.Outcome State Fault Refusal :=
  if s.dev.boot.lost then .fault .nothingPromised else .next { s with dev := f s.dev }

/-- Without its condition, an event does not occur and changes nothing. -/
def onlyIf (c : Dev → Bool) (f : Dev → Dev) (d : Dev) : Dev := if c d then f d else d

/-- The clock of a cluster's island runs (02 R59; 20 R694). -/
def islandRuns (cl : Nat) (d : Dev) : Bool := (islOfDev d (islOf cl)).oscOn

/-- An event of an island cycle of a cluster. -/
def onIsland (cl : Nat) (s : State) (f : Dev → Dev) : Host.Outcome State Fault Refusal := onDev s (onlyIf (islandRuns cl) f)

/-- An event of the fabric domain, of the control domain, or of a cluster's column domain: none while it is gated (02 R69, R72, R73). -/
def onFabric (s : State) (f : Dev → Dev) : Host.Outcome State Fault Refusal := onDev s (onlyIf fabricUp f)
def onControl (s : State) (f : Dev → Dev) : Host.Outcome State Fault Refusal := onDev s (onlyIf controlUp f)
def onColumn (cl : Nat) (s : State) (f : Dev → Dev) : Host.Outcome State Fault Refusal := onDev s (onlyIf (columnUp cl) f)

/-- An event of a bitstream unit or a DMA engine, off but in ACTIVE and DRAIN (20 Table PWR-4). -/
def onUnits (s : State) (f : Dev → Dev) : Host.Outcome State Fault Refusal := onDev s (onlyIf (fun d => unitsOn d && fabricUp d) f)

/-- A write of a function through its BAR 0 (19 R642, R657). -/
def onHost (fn : Nat) (s : State) (f : Dev → Dev) : Host.Outcome State Fault Refusal := onDev s (onlyIf (fun d => hostOpen d fn) f)

end Sys2Proof.Machine
end

