-- ==== Sys2Proof/Machine/Bitstream.lean ====
section
/-!
DEFINITION. The commands of bitstream units (17).
-/
namespace Sys2Proof.Machine

/-- BSU_RECORD_FLIT (17 R600). -/
def execBsuRecordFlit (u : Fin 4) (t : Nat) (s : State) : Host.Outcome State Fault Refusal :=
  onUnits s (opBsuRecordFlit u.val t)

/-- BSU_NOP (17 R599). -/
def execBsuNop (u : Fin 4) (s : State) : Host.Outcome State Fault Refusal :=
  onUnits s (opBsuNop u.val)

/-- BSU_CTX (17 R592). -/
def execBsuCtx (u : Fin 4) (s : State) : Host.Outcome State Fault Refusal :=
  onUnits s (opBsuCtx u.val)

/-- BSU_BYP (17 R592). -/
def execBsuByp (u : Fin 4) (s : State) : Host.Outcome State Fault Refusal :=
  onUnits s (opBsuByp u.val)

/-- BSU_TERM (17 R592). -/
def execBsuTerm (u : Fin 4) (s : State) : Host.Outcome State Fault Refusal :=
  onUnits s (opBsuTerm u.val)

/-- BSU_SYM (17 R589). -/
def execBsuSym (u : Fin 4) (s : State) : Host.Outcome State Fault Refusal :=
  onUnits s (opBsuSym u.val)

/-- BSU_LIT (17 R592). -/
def execBsuLit (u : Fin 4) (s : State) : Host.Outcome State Fault Refusal :=
  onUnits s (opBsuLit u.val)

/-- BSU_FRAME_START (17 R595). -/
def execBsuFrameStart (u : Fin 4) (s : State) : Host.Outcome State Fault Refusal :=
  onUnits s (opBsuFrameStart u.val)

/-- BSU_SEG_START (17 R595). -/
def execBsuSegStart (u : Fin 4) (s : State) : Host.Outcome State Fault Refusal :=
  onUnits s (opBsuSegStart u.val)

/-- BSU_ENTRY (17 R597). -/
def execBsuEntry (u : Fin 4) (s : State) : Host.Outcome State Fault Refusal :=
  onUnits s (opBsuEntry u.val)

/-- BSU_SEG_END (17 R597). -/
def execBsuSegEnd (u : Fin 4) (s : State) : Host.Outcome State Fault Refusal :=
  onUnits s (opBsuSegEnd u.val)

/-- BSU_FRAME_END (17 R595). -/
def execBsuFrameEnd (u : Fin 4) (s : State) : Host.Outcome State Fault Refusal :=
  onUnits s (opBsuFrameEnd u.val)

/-- BSU_DRAIN (17 R604). -/
def execBsuDrain (u : Fin 4) (s : State) : Host.Outcome State Fault Refusal :=
  onUnits s (opBsuDrain u.val)

/-- BSU_DRAIN_LINE (17 R605). -/
def execBsuDrainLine (u : Fin 4) (t : Nat) (s : State) : Host.Outcome State Fault Refusal :=
  onUnits s (opBsuDrainLine u.val t)

/-- BSU_RESET (17 R610). -/
def execBsuReset (u : Fin 4) (cause : Fin 7) (s : State) : Host.Outcome State Fault Refusal :=
  onUnits s (opBsuReset u.val cause.val)

end Sys2Proof.Machine
end

