-- ==== Sys2Proof/Machine/Registers.lean ====
section
/-!
DEFINITION. The BAR 0 layout, its reads and writes, and the INTR entries (23).
-/
namespace Sys2Proof.Machine

/-! ## INTR entries (R771, R772) -/

/-- A function reaches an INTR entry: a tenancy's, or the device's (none); all tells a reader that no filter binds. -/
def intrReach (d : Dev) (fn : Nat) (all : Bool) (e : Option Nat) : Bool :=
  all || match e with
  | some t => decide (t < 32) && recFunction (grantOf d t) == fn
  | none => fn == 0

def causeBits (e : Option Nat) : Nat := match e with | some _ => 31 | none => 8191

def causeOf (d : Dev) (e : Option Nat) : BitVec 32 := match e with | some t => (tenOf d t).tcause | none => d.host.dcause
def enableOf (d : Dev) (e : Option Nat) : BitVec 32 := match e with | some t => (tenOf d t).tenable | none => d.host.denable

/-- Sends the vector of an entry. -/
def sendEntry (e : Option Nat) (d : Dev) : Dev :=
  match e with
  | some t => sendMsix (recFunction (grantOf d t)) (tenOf d t).tvector d
  | none => sendMsix 0 d.host.dvector d

def putCause (e : Option Nat) (v : BitVec 32) (d : Dev) : Dev :=
  match e with
  | some t => modTen t (fun x => { x with tcause := v }) d
  | none => modHost (fun h => { h with dcause := v }) d

def putEnable (e : Option Nat) (v : BitVec 32) (d : Dev) : Dev :=
  match e with
  | some t => modTen t (fun x => { x with tenable := v }) d
  | none => modHost (fun h => { h with denable := v }) d

/-- Clears cause bits; a bit that occurs anew in the same cycle stays 1, and its vector is sent (R772). -/
def clearCause (e : Option Nat) (mask occurs : BitVec 32) (d : Dev) : Dev :=
  let again := mask &&& occurs &&& causeOf d e &&& enableOf d e
  let d1 := putCause e (causeOf d e &&& ~~~(mask &&& ~~~occurs)) d
  ((List.range 32).filter (bit again.toNat)).foldl (fun a _ => sendEntry e a) d1

/-- CAUSE_CLEAR. -/
def opCauseClear (fn : Nat) (e : Option Nat) (mask occurs : BitVec 32) (d : Dev) : Dev :=
  if booted d && intrReach d fn false e then clearCause e mask occurs d else d

/-- Writes the enable bits; a bit set while its cause is already 1 sends the vector once (R772). -/
def setEnable (e : Option Nat) (v : BitVec 32) (d : Dev) : Dev :=
  let w := v &&& BitVec.ofNat 32 (causeBits e)
  let fresh := w &&& ~~~enableOf d e &&& causeOf d e
  ((List.range 32).filter (bit fresh.toNat)).foldl (fun a _ => sendEntry e a) (putEnable e w d)

/-- CAUSE_ENABLE. -/
def opCauseEnable (fn : Nat) (e : Option Nat) (v : BitVec 32) (d : Dev) : Dev :=
  if booted d && intrReach d fn false e then setEnable e v d else d

/-! ## Writes -/

/-- Bits hi to lo of a register word. -/
def field (v : W32) (hi lo : Nat) : Nat := bits v.toNat hi lo

/-- The 32-bit word k of a number. -/
def wordOf (n k : Nat) : Nat := (n >>> (32 * k)) % pow2 32

/-- A number with its 32-bit word k replaced. -/
def setWord (n k : Nat) (v : W32) : Nat := n - wordOf n k * pow2 (32 * k) + v.toNat * pow2 (32 * k)

/-- STATE (Table REG-3), the PF's; lasts names the flags of offset 0x008 whose condition persists. -/
def writeState (off : Nat) (v0 lasts : W32) (d : Dev) : Dev :=
  let v := if off = 0x008 then v0 &&& ~~~lasts else v0
  match off with
  | 0x000 => modBoot (fun b => { b with drainReq := bit v.toNat 8 }) d
  | 0x008 => modBoot (fun b => { b with
      refLoss := b.refLoss && !bit v.toNat 0, fabLoss := b.fabLoss && !bit v.toNat 1, ctlLoss := b.ctlLoss && !bit v.toNat 2
      colLoss := b.colLoss &&& ~~~BitVec.ofNat 4 (field v 6 3) }) d
  | 0x00C => opCoreReset 0 (BitVec.ofNat 16 (field v 15 0)) d
  | _ => d

/-- MAILBOX (Table REG-4), the PF's. -/
def writeMailbox (off : Nat) (v : W32) (d : Dev) : Dev :=
  match off with
  | 0x400 => modMail (fun m => { m with fwLo := some v }) d
  | 0x404 => modMail (fun m => { m with fwAddr := v ++ m.fwLo.getD (BitVec.ofNat 32 m.fwAddr.toNat), fwLo := none }) d
  | 0x408 => modMail (fun m => { m with fwLen := v }) d
  | 0x40C => opMbInGo 0 v d
  | _ => d

/-- TMR (Table REG-6): a function's channels, or every channel. -/
def writeTmr (fn : Nat) (all : Bool) (off : Nat) (v : W32) (d : Dev) : Dev :=
  let n := off / 0x40
  let f := if all then tmrFn d n else fn
  if off = 0x400 then
    (if all then (List.range 16).foldl (fun a n => opTmrGstart (tmrFn a n) (BitVec.ofNat 16 (if bit v.toNat n then pow2 n else 0)) a) d
     else opTmrGstart fn (BitVec.ofNat 16 (field v 15 0)) d)
  else if 16 ≤ n then d
  else
    match off % 0x40 with
    | 0x08 => opCmpLoWrite f n v d
    | 0x0C => opCmpHiWrite f n v d
    | 0x10 =>
      if tmrWritable d && tmrFn d n == f then
        modTmr n (fun x => { x with
          missed := x.missed && !bit v.toNat 4, evtCmp := x.evtCmp && !bit v.toNat 5, evtWrap := x.evtWrap && !bit v.toNat 6 }) d
      else d
    | _ => d

/-- The bits of a grant record that a field holds: bits 7:5 of byte 0, bit 7 of the window bytes and bytes 116 to 127 are
reserved (00 R17; 14 Table TEN-1). -/
def recMask : Nat :=
  pow2 928 - 1 - 7 * pow2 5 - (List.range 16).foldl (fun a i => a + pow2 (8 * (76 + i) + 7)) 0

/-- PART (Table REG-7, Table REG-8), the PF's; writes during a commit are ignored and marked (R767). -/
def writePart (off : Nat) (v : W32) (d : Dev) : Dev :=
  if off < 0x1000 then
    let t := off / 0x80
    if partBusy d then partIgnore d
    else modGrants (fun g => { g with pend := setRec t (BitVec.ofNat 1024 (Nat.land (setWord (recOf g.pend t).toNat (off % 0x80 / 4) v) recMask)) g.pend }) d
  else
    match off with
    | 0x2000 =>
      let d1 := if bit v.toNat 0 then opPartSync 0 d else d
      if bit v.toNat 1 then opPartCancel 0 d1 else d1
    | 0x2008 => if partBusy d then partIgnore d else modGrants (fun g => { g with countLo := v.toNat }) d
    | 0x200C => opPartCountHi 0 v d
    | 0x2010 => modGrants (fun g => { g with
        ignored := g.ignored && !bit v.toNat 24, cancelled := g.cancelled && !bit v.toNat 25, stagedBusy := g.stagedBusy && !bit v.toNat 26 }) d
    | _ => d

/-- GC and SPAN (Table REG-9): only the SYNC flags are written. -/
def writeSpanBlock (off : Nat) (v : W32) (d : Dev) : Dev :=
  if off = 0x060 then
    modWhl (fun w => { w with syncLost := w.syncLost && !bit v.toNat 16, syncDisagree := w.syncDisagree && !bit v.toNat 17 }) d
  else d

/-- A vector number at or beyond the function's table is ignored (R772). -/
def putVector (e : Option Nat) (fn : Nat) (v : W32) (d : Dev) : Dev :=
  let n := field v 5 0
  if tableSize fn ≤ n then d
  else
    match e with
    | some t => modTen t (fun x => { x with tvector := n }) d
    | none => modHost (fun h => { h with dvector := n }) d

/-- A doubleword of a function's MSI-X table (19 R651 to R653). -/
def writeMsix (fn off : Nat) (v : W32) (d : Dev) : Dev :=
  let n := off / 16
  let put (f : MsixEnt → MsixEnt) : Dev := modFunc fn (fun x => { x with msix := tabMod {} n f x.msix }) d
  if tableSize fn ≤ n then d
  else
    match off % 16 with
    | 0 => put fun e => { e with addr := BitVec.ofNat 32 (wordOf e.addr.toNat 1) ++ v }
    | 4 => put fun e => { e with addr := v ++ BitVec.ofNat 32 e.addr.toNat }
    | 8 => put fun e => { e with data := v }
    | 12 => if bit v.toNat 0 then put fun e => { e with mask := true } else opMsixUnmask fn (some n) d
    | _ => d

/-- INTR (Table REG-10). -/
def writeIntr (fn : Nat) (all : Bool) (off : Nat) (v : W32) (d : Dev) : Dev :=
  if 0x8000 ≤ off ∧ off < 0x8400 then writeMsix fn (off - 0x8000) v d
  else
    let e : Option Nat := if off < 0x200 then some (off / 16) else none
    if (0x200 ≤ off ∧ off < 0x400) ∨ 0x410 ≤ off ∨ intrReach d fn all e = false then d
    else
      match off % 16 with
      | 0 => clearCause e v 0 d
      | 4 => setEnable e v d
      | 8 => putVector e (match e with | some t => recFunction (grantOf d t) | none => 0) v d
      | _ => d

/-- THERMAL and POWER (Table REG-12), the PF's. -/
def writeThermal (off : Nat) (v droop : W32) (d : Dev) : Dev :=
  if off < 0x80 then opSetpointWrite 0 (off / 4) v d
  else if off = 0x200 then opDroopFlagClear 0 v droop d
  else d

/-- A RING entry (13 Table UMB-2; Table REG-13), of its owner. -/
def writeRing (fn : Nat) (all : Bool) (off : Nat) (v : W32) (d : Dev) : Dev :=
  let r := off / 64
  let g := ringOf d r
  let f := if all then g.function else fn
  if !ringOwned d f r then d
  else if off % 64 = 0x14 then
    (if bit v.toNat 0 then opRingEnable f r (field v 13 8) d else opRingDisable f r (field v 13 8) d)
  else if g.st ≠ .ready then d
  else
    let put (h : Ring → Ring) : Dev := modRing r h d
    match off % 64 with
    | 0x00 => put fun g => { g with cmdLo := some (v &&& 0xFFFFF000#32) }
    | 0x04 => put fun g => { g with cmdBase := v ++ g.cmdLo.getD (BitVec.ofNat 32 g.cmdBase.toNat), cmdLo := none }
    | 0x08 => put fun g => { g with stsLo := some (v &&& 0xFFFFF000#32) }
    | 0x0C => put fun g => { g with stsBase := v ++ g.stsLo.getD (BitVec.ofNat 32 g.stsBase.toNat), stsLo := none }
    | 0x10 => put fun g => { g with cmdLog := field v 4 0, stsLog := field v 12 8 }
    | _ => d

/-- A 32-bit write in the BAR 0 layout (R759, Table REG-1): all tells a writer that no filter binds (R761). -/
def writeReg (fn : Nat) (all : Bool) (off : Nat) (v droop : W32) (d : Dev) : Dev :=
  let pf := all || fn == 0
  if 0x1000 ≤ off ∧ off < 0x2000 then (if pf then writeState (off - 0x1000) v droop d else d)
  else if 0x2000 ≤ off ∧ off < 0x3000 then (if pf then writeMailbox (off - 0x2000) v d else d)
  else if !booted d then d
  else if 0x10000 ≤ off ∧ off < 0x11000 then writeTmr fn all (off - 0x10000) v d
  else if 0x20000 ≤ off ∧ off < 0x23000 then (if pf then writePart (off - 0x20000) v d else d)
  else if 0x30000 ≤ off ∧ off < 0x30100 then (if pf then writeSpanBlock (off - 0x30000) v d else d)
  else if 0x40000 ≤ off ∧ off < 0x50000 then writeIntr fn all (off - 0x40000) v d
  else if 0x50000 ≤ off ∧ off < 0x50400 then (if pf then writeThermal (off - 0x50000) v droop d else d)
  else if 0x100000 ≤ off ∧ off < 0x110000 then writeRing fn all (off - 0x100000) v d
  else d

/-- REGISTER_WRITE of a function at an aligned offset; droop names the islands whose droop lasts, or, for the STATE word at
0x008, the flags whose condition lasts. -/
def opRegisterWrite (fn off : Nat) (v droop : W32) (d : Dev) : Dev :=
  if hostOpen d fn && off % 4 == 0 then writeReg fn false off v droop d else d

/-! ## Reads -/

/-- Word of a little-endian byte block. -/
def blockWord (b : List Byte) (off : Nat) : Nat := blkField b off 4

/-- IDENT (R762): the GC reads 0, and fields that the firmware fills read 0 until BOOT ends. -/
def readIdent (d : Dev) (off : Nat) : Nat :=
  if 256 ≤ off then 0 else blockWord (identBytes (if booted d then d else modBoot (fun b => { b with firmware := none }) d) 0) off

def readState (fn : Nat) (d : Dev) (off : Nat) : Nat :=
  let b := d.boot
  match off with
  | 0x000 => devCode b.state + b2n b.drainReq * 256 + b2n b.degraded * 512 + b2n b.flit * 1024 + b.rate * 4096 + b.width * 16384
  | 0x004 => b.straps.toNat + b.resetCause * 256 + b.bootError * 65536
  | 0x008 => b2n b.refLoss + b2n b.fabLoss * 2 + b2n b.ctlLoss * 4 + b.colLoss.toNat * 8 + b2n b.trip * 128
  | 0x010 => flagBits ((List.range 16).map fun n => (coreOf d n).retired) + b2n b.controlLost * 65536
  | 0x014 => b.coreResets
  | 0x018 => flagBits [b.pmbusFault, b.avsUnavailable, b.boardAccess, b.boardWrite]
  | 0x01C => (Config.cplTimeout fn).toNat
  | _ => 0

def readMailbox (d : Dev) (off : Nat) : Nat :=
  let m := d.mail
  match off with
  | 0x000 => m.kind
  | 0x004 => m.len
  | 0x008 => m.seq
  | 0x400 => wordOf m.fwAddr.toNat 0
  | 0x404 => wordOf m.fwAddr.toNat 1
  | 0x408 => m.fwLen.toNat
  | _ => if 0x100 ≤ off ∧ off < 0x300 then blockWord m.data (off - 0x100) else 0

/-- The BSU unit page (Table REG-5): the PF's, or the holder's function for its unit. -/
def readBsuPage (fn : Nat) (all : Bool) (d : Dev) (off : Nat) : Nat :=
  let u := off / 0x40
  let x := bsuOf d u
  let h := bsuHolder d u
  let mine := all || fn == 0 || (match h with | some t => recFunction (grantOf d t) == fn | none => false)
  if !mine then 0
  else
    match off % 0x40 with
    | 0x00 =>
      let excl := (List.range 32).any fun t => recBsu (grantOf d t) u == 2
      x.codec + b2n x.epb * 4 + b2n excl * 8 + h.getD 63 * 256 + x.lastReset * 65536
    | 0x04 => x.bankLines
    | o =>
      if 8 ≤ o ∧ o < 0x30 then
        [x.inOverflow, x.drainLate, x.drainClash, x.bankOverwrite, x.framesDone, x.framesLate, x.framesOverflow, x.bins, x.symbols, x.resets].getD
          ((o - 8) / 4) 0
      else 0

def readTmr (fn : Nat) (all : Bool) (d : Dev) (off : Nat) : Nat :=
  let n := off / 0x40
  let x := tmrOf d n
  if 16 ≤ n ∨ (all = false ∧ tmrFn d n ≠ fn) then 0
  else
    match off % 0x40 with
    | 0x00 => wordOf x.cnt 0
    | 0x04 => wordOf x.cnt 1
    | 0x08 => if x.staged then x.stagedLo else wordOf x.compare 0
    | 0x0C => wordOf x.compare 1
    | 0x10 => flagBits [x.running, x.waiting, x.down, pinLevel d n, x.missed, x.evtCmp, x.evtWrap, x.staged]
    | 0x14 => wordOf x.top 0
    | 0x18 => wordOf x.top 1
    | _ => 0

def readPart (d : Dev) (off : Nat) : Nat :=
  let g := d.grants
  if off < 0x1000 then wordOf (recOf g.pend (off / 0x80)).toNat (off % 0x80 / 4)
  else if off < 0x2000 then wordOf (recOf g.force ((off - 0x1000) / 0x80)).toNat (off % 0x80 / 4)
  else
    match off with
    | 0x2008 => wordOf g.count 0
    | 0x200C => wordOf g.count 1
    | 0x2010 => g.state + g.rule * 256 + g.ten * 65536 + flagBits [g.ignored, g.cancelled, g.stagedBusy] * pow2 24
    | 0x2018 => wordOf g.effect 0
    | 0x201C => wordOf g.effect 1
    | _ => 0

def readSpanBlock (pf : Bool) (d : Dev) (off : Nat) : Nat :=
  let w := d.whl
  let s := d.span
  match off with
  | 0x000 => wordOf (gcOf w) 0
  | 0x004 => wordOf (gcOf w) 1
  | 0x008 => gcOf w % w.w % 65536 + b2n (!w.slip && inGuard w) * 65536 + b2n w.slip * 131072 + spanCode s.state * 262144
  | 0x00C => w.w % pow2 17 + w.g % 128 * pow2 24
  | 0x010 => w.guardLast % 128
  | 0x040 => s.ownRank % 65536 + s.masterRank % 65536 * 65536
  | 0x044 => s.successor % 65536 + s.d % 32 * 65536
  | 0x048 => s.slipLimit % 65536
  | 0x04C => s.slipsWindow
  | 0x050 => wordOf s.window 0
  | 0x054 => s.slipsTotal
  | 0x058 => w.stretches
  | 0x05C => s.errors
  | 0x060 => syncCode w.syncMode + w.syncDelay % 256 * 256 + (if pf then b2n w.syncLost * 65536 + b2n w.syncDisagree * 131072 else 0)
  | _ => 0

/-- Doubleword of a function's MSI-X table, and of its pending bits (19 R651, R652). -/
def readMsix (fn : Nat) (d : Dev) (off : Nat) : Nat :=
  let e := tabGet {} (funcOf d fn).msix (off / 16)
  if tableSize fn ≤ off / 16 then 0
  else
    match off % 16 with
    | 0 => wordOf e.addr.toNat 0
    | 4 => wordOf e.addr.toNat 1
    | 8 => e.data.toNat
    | _ => b2n e.mask

def readPba (fn : Nat) (d : Dev) (off : Nat) : Nat :=
  if tableSize fn ≤ off * 8 then 0
  else flagBits ((List.range 32).map fun k => (tabGet ({} : MsixEnt) (funcOf d fn).msix (8 * off + k)).withheld != 0)

def readIntr (fn : Nat) (all : Bool) (d : Dev) (off : Nat) : Nat :=
  if 0x8000 ≤ off ∧ off < 0x8400 then readMsix fn d (off - 0x8000)
  else if 0xC000 ≤ off ∧ off < 0xC008 then readPba fn d (off - 0xC000)
  else
    let e : Option Nat := if off < 0x200 then some (off / 16) else none
    if (0x200 ≤ off ∧ off < 0x400) ∨ 0x40C ≤ off ∨ intrReach d fn all e = false then 0
    else
      match off % 16 with
      | 0 => (causeOf d e).toNat
      | 4 => (enableOf d e).toNat
      | 8 => (match e with | some t => (tenOf d t).tvector | none => d.host.dvector)
      | _ => (match e with | some t => (tenOf d t).fault + (tenOf d t).faultsAfter * 256 | none => 0)

/-- A sample in 16 bits of two's complement. -/
def tempWord (t : Int) : Nat := (t % 65536).toNat

def readThermal (pf : Bool) (d : Dev) (off : Nat) : Nat :=
  let i := off % 0x80 / 4
  let x := islOfDev d i
  let p := d.power
  if off < 0x80 then x.setpoint + b2n x.refused * 32768
  else if off < 0x100 then islandCode d i + effTarget d i * 65536
  else if off < 0x180 then x.limit
  else if off < 0x200 then x.stretch
  else
    match off with
    | 0x200 => if pf then flagBits ((List.range 32).map fun i => (islOfDev d i).droop) else 0
    | 0x204 => p.cap
    | 0x208 => p.avg % 65536
    | 0x20C => p.vcore
    | 0x210 => flagBits [p.thermWarn, p.capExceeded, d.boot.trip]
    | _ =>
      if 0x280 ≤ off ∧ off < 0x300 then tempWord (tabGet 0 p.temp i)
      else if 0x300 ≤ off ∧ off < 0x310 then tempWord (tabGet 0 p.colTemp ((off - 0x300) / 4))
      else 0

def ringCode : RState → Nat
  | .unassigned => 0 | .ready => 1 | .enabled => 2 | .stopped => 3

def readRing (fn : Nat) (all : Bool) (d : Dev) (off : Nat) : Nat :=
  let r := off / 64
  let g := ringOf d r
  if !(all || ringOwned d fn r) then 0
  else
    match off % 64 with
    | 0x00 => wordOf g.cmdBase.toNat 0
    | 0x04 => wordOf g.cmdBase.toNat 1
    | 0x08 => wordOf g.stsBase.toNat 0
    | 0x0C => wordOf g.stsBase.toNat 1
    | 0x10 => g.cmdLog + g.stsLog * 256
    | 0x14 => b2n g.enable + g.vector * 256
    | 0x18 => g.head
    | 0x1C => g.tail
    | 0x20 => g.stsTail
    | 0x24 => g.stsHead
    | 0x28 => ringCode g.st + b2n g.closing * 4 + g.cause * 16 + outstanding d r * 256 + g.lap % 2 * 65536
    | 0x2C => g.function + g.ten * 256 + g.home * 65536 + g.serving * pow2 20 + b2n g.assigned * pow2 24
    | _ => 0

/-- A 32-bit read in the BAR 0 layout as a function sees it, or unfiltered (R759, R761). -/
def readReg (fn : Nat) (all : Bool) (off : Nat) (d : Dev) : Nat :=
  let pf := all || fn == 0
  if off < 0x1000 then readIdent d off
  else if off < 0x2000 then readState fn d (off - 0x1000)
  else if off < 0x3000 then (if pf then readMailbox d (off - 0x2000) else 0)
  else if !booted d then 0
  else if off < 0x3400 then (if pf then (dmaWords (dmaOf d ((off - 0x3000) / 0x20))).getD (off % 0x20 / 4) 0 else 0)
  else if 0x4000 ≤ off ∧ off < 0x4100 then readBsuPage fn all d (off - 0x4000)
  else if 0x10000 ≤ off ∧ off < 0x11000 then readTmr fn all d (off - 0x10000)
  else if 0x20000 ≤ off ∧ off < 0x23000 then (if pf then readPart d (off - 0x20000) else 0)
  else if 0x30000 ≤ off ∧ off < 0x30100 then readSpanBlock pf d (off - 0x30000)
  else if 0x40000 ≤ off ∧ off < 0x50000 then readIntr fn all d (off - 0x40000)
  else if 0x50000 ≤ off ∧ off < 0x50400 then readThermal pf d (off - 0x50000)
  else if 0x100000 ≤ off ∧ off < 0x110000 then readRing fn all d (off - 0x100000)
  else 0

end Sys2Proof.Machine
end

