-- ==== Sys2Proof/Machine/Board.lean ====
section
/-!
DEFINITION. Board access, the SMBus target and the JTAG port (22 R750 to R758; 23 R761, Table REG-2).
-/
namespace Sys2Proof.Machine

/-! ## Places (06 Table MEM-2; 23 Table REG-2) -/

/-- What lies at a device address. -/
inductive BoardPlace where
  | absent
  | column (cl line : Nat)
  | pane (cl : Nat)
  | shelf (quad : Nat)
  /-- A register at an offset of the BAR 0 layout. -/
  | reg (off : Nat)
  | bundle (cl ix slot : Nat)
  | route (key : Nat)
  | phase (key : Nat)
  | shelfWord (key : Nat)
  | shelfPhase (key : Nat)
  | lambda (lnk phase : Nat)
  deriving DecidableEq, Repr

/-- A cluster whose slot is fused on is there. -/
def ifSlot (d : Dev) (cl : Nat) (p : BoardPlace) : BoardPlace :=
  if bit (tabGet 0 d.fuse.slots (islOf cl)) (slotOf cl) then p else .absent

def placeOf (d : Dev) (a : Nat) : BoardPlace :=
  let x := a - 0x002000000000
  if a < 0x000C00000000 then ifSlot d (a / 0x6000000) (.column (a / 0x6000000) (a % 0x6000000 / 64))
  else if a < 0x001000000000 then .absent
  else if a < 0x001080000000 then ifSlot d ((a - 0x001000000000) / 0x400000) (.pane ((a - 0x001000000000) / 0x400000))
  else if a < 0x001100000000 then .absent
  else if a < 0x001110000000 then .shelf ((a - 0x001100000000) / 0x4000000)
  else if a < 0x002000000000 then .absent
  else if x < 0x200000 then .reg x
  else if x < 0x1000000 then .absent
  else if x < 0x5000000 then ifSlot d ((x - 0x1000000) / 0x20000) (.bundle ((x - 0x1000000) / 0x20000) (x % 0x20000 / 32) (x % 32 / 8))
  else if x < 0x6000000 then .route ((x - 0x5000000) / 8)
  else if x < 0x6020000 then (if x % 0x1000 < 512 then .phase ((x - 0x6000000) / 0x1000 * 64 + x % 0x1000 / 8) else .absent)
  else if x < 0x6100000 then .absent
  else if x < 0x6200000 then .shelfWord ((x - 0x6100000) / 8)
  else if x < 0x6204000 then .shelfPhase ((x - 0x6200000) / 8)
  else if x < 0x6300000 then .absent
  else if x < 0x6301000 then .lambda ((x - 0x6300000) / 256) (x % 256 / 4)
  else .absent

/-! ## The 64-bit word of a place that is no memory tier -/

/-- A route word and a shelf word without their reserved bits, which read 0 and keep nothing (00 R17; 04 Table FAB-5; 06
Table MEM-5). -/
def routeBits (v : Nat) : W64 := BitVec.ofNat 64 (v % pow2 53)
def shelfBits (v : Nat) : W64 := BitVec.ofNat 64 (v % pow2 41 + bits v 62 42 * pow2 42)

def placeWord (d : Dev) (a : Nat) : BoardPlace → Nat
  | .reg off => readReg 0 true (off / 8 * 8) d + readReg 0 true (off / 8 * 8 + 4) d * pow2 32
  | .bundle cl ix slot =>
    let k := clOf d cl
    if k.powered then bits (tabGet (0 : BundleWord) k.store ix).toNat (64 * slot + 63) (64 * slot) else (Config.darkPane (a / 8)).toNat % pow2 64
  | .route k => (routeBits (tabGet (0 : W64) d.fab.route k).toNat).toNat
  | .phase k => let e := tabGet (phaseDefault (k % 64)) d.fab.phase k; e.base % 65536 + e.len % 131072 * 65536 + e.owner % 64 * pow2 33
  | .shelfWord k => (shelfBits (tabGet (0 : W64) d.fab.shelfProg k).toNat).toNat
  | .shelfPhase k => let e := tabGet (phaseDefault (k % 64)) d.fab.shelfPhase k; e.base % 4096 + e.len % 8192 * 65536 + e.owner % 64 * pow2 32
  | .lambda l p =>
    let e (q : Nat) : Nat := if tabHas (lnkOf d l).lambda q then tabGet 0 (lnkOf d l).lambda q % 1024 + pow2 31 else 0
    e (p / 2 * 2) + e (p / 2 * 2 + 1) * pow2 32
  | _ => 0

/-- A word of a table becomes clean (22 R753). -/
def cleanTable (a : Nat) (f : Fab → Fab) (d : Dev) : Dev :=
  let g := f d.fab
  { d with fab := { g with tableEcc := tabDel a g.tableEcc } }

/-- One Λ entry; WRITTEN clear removes it. -/
def putLambda (l p : Nat) (v : W32) (d : Dev) : Dev :=
  modLnk l (fun k => { k with lambda := if bit v.toNat 31 then tabSet p (field v 9 0) k.lambda else tabDel p k.lambda })
    (cleanTable (lambdaAddr l p) id d)

/-- Writes one bundle slot. A dark cluster keeps nothing. -/
def putSlot (cl ix slot : Nat) (v : Nat) (d : Dev) : Dev :=
  let put (k : Cluster) : Cluster :=
    let w := (tabGet (0 : BundleWord) k.store ix).toNat
    { k with store := tabSet ix (BitVec.ofNat 256 (w - bits w (64 * slot + 63) (64 * slot) * pow2 (64 * slot) + v * pow2 (64 * slot))) k.store
             storeEcc := tabDel (4 * ix + slot) k.storeEcc }
  if (clOf d cl).powered then modCl cl put d else d

/-- Stores the 64-bit word at address a of a place; half names the 32 bits written of a narrow access, none both. A
register takes its halves as the physical function would write them (22 R752). -/
def putPlace (a : Nat) (p : BoardPlace) (half : Option Nat) (v : Nat) (droop : W32) (d : Dev) : Dev :=
  let on (k : Nat) : Bool := match half with | none => true | some h => h == k
  let v32 (k : Nat) : W32 := BitVec.ofNat 32 (wordOf v k)
  match p with
  | .reg off =>
    let d1 := if on 0 then writeReg 0 true (off / 8 * 8) (v32 0) droop d else d
    if on 1 then writeReg 0 true (off / 8 * 8 + 4) (v32 1) droop d1 else d1
  | .bundle cl ix slot => putSlot cl ix slot v d
  | .route k => cleanTable (a / 8 * 8) (fun f => { f with route := tabSet k (routeBits v) f.route }) d
  | .phase k =>
    cleanTable (a / 8 * 8) (fun f => { f with phase := tabSet k { base := bits v 15 0, len := bits v 32 16, owner := bits v 38 33 } f.phase }) d
  | .shelfWord k => cleanTable (a / 8 * 8) (fun f => { f with shelfProg := tabSet k (shelfBits v) f.shelfProg }) d
  | .shelfPhase k =>
    cleanTable (a / 8 * 8) (fun f => { f with shelfPhase := tabSet k { base := bits v 11 0, len := bits v 28 16, owner := bits v 37 32 } f.shelfPhase }) d
  | .lambda l q =>
    let d1 := if on 0 then putLambda l (q / 2 * 2) (v32 0) d else d
    if on 1 then putLambda l (q / 2 * 2 + 1) (v32 1) d1 else d1
  | _ => d

/-! ## Memory tiers -/

/-- Bytes of an access. -/
def accBytes (x : BoardAcc) : Nat := if x.wide then 8 else 4

/-- An access within its line: bit offset. -/
def accShift (x : BoardAcc) : Nat := 8 * (x.addr % 64)

/-- The data of an access taken from a line. -/
def accRead (x : BoardAcc) (line : Nat) : Nat := (line >>> accShift x) % pow2 (8 * accBytes x)

/-- The line and the bit mask that an access writes. -/
def accLine (x : BoardAcc) : Nat := x.data.toNat % pow2 (8 * accBytes x) <<< accShift x
def accMask (x : BoardAcc) : Nat := (pow2 (8 * accBytes x) - 1) <<< accShift x

/-- First cycle from c on in which the fill port of a pane bank is idle; the first argument bounds the search. -/
def idleFill (fills : List PaneOld) (bank : Nat) : Nat → Nat → Nat
  | 0, c => c
  | n + 1, c => if fills.any fun (f : PaneOld) => f.cyc == c && f.line % 16 == bank then idleFill fills bank n (c + 1) else c

/-- A pane access through the fill port (22 R753; 06 R206). -/
def accPane (cl : Nat) (x : BoardAcc) (d : Dev) : Nat × Dev :=
  let k := clOf d cl
  let a := x.addr / 64 * 64
  let line := (a - paneBase cl) / 64
  let old := readLine8 d.mem a
  if !k.powered then (accRead x (Config.darkPane a).toNat, d)
  else if x.write then
    let c := idleFill k.fills (line % 16) (k.fills.length + 1) k.cyc
    let w := writeLine8 a (accLine x) (accMask x) 0 d.mem
    (0, logMerge cl a (accMask x) d.mem
      (memCtr cl (fun c => { c with paneCorr := satAdd c.paneCorr w.2.1, paneUncorr := satAdd c.paneUncorr w.2.2 })
        (setCl cl { k with fills := k.fills ++ [keepPane c line d.mem cl] } { d with mem := w.1 })))
  else (accRead x old.data.toNat, countPane cl a old d)

/-- A column access in a slot at column edge m, under the bank rule of 06 R218. -/
def accColumn (cl l m : Nat) (x : BoardAcc) (d : Dev) : Nat × Dev :=
  if !bankFree d cl l m then (0, countBusy cl l d)
  else
    let d1 := touchBank cl l m d
    if x.write then (0, mergeCol cl l (accLine x) (accMask x) false d1)
    else
      let r := readColLine d1.mem cl l
      (accRead x r.data.toNat, countCol cl l r d1)

/-- A shelf access through a bank port. -/
def accShelf (q : Nat) (x : BoardAcc) (d : Dev) : Nat × Dev :=
  let a := x.addr / 64 * 64
  if x.write then
    let r := writeLine8 a (accLine x) (accMask x) 0 (keepOld d.whl.now a d.mem)
    let d1 := modShelfCtr q (fun c => { corr := satAdd c.corr r.2.1, uncorr := satAdd c.uncorr r.2.2, stored := c.stored }) { d with mem := r.1 }
    (0, match mergeBad d.mem a (accMask x) with
      | some i => logError (1024 + q) (a + 8 * i) 1 (shelfHolder d a) d1
      | none => d1)
  else
    let r := readAreaLine { tier := 2, win := 0, cl := 0, off := 0 } a d
    (accRead x r.1, r.2.2)

/-! ## An access (22 R752 to R754, R758) -/

/-- The end of an access: its data, or its failure, is what its path shows. -/
def accEnd (x : BoardAcc) (failed : Bool) (v : Nat) (d : Dev) : Dev :=
  let data := if failed then 0 else v
  if x.jtag then
    modBoard (fun o => { o with debugDone := true, debugError := failed, debugData := if x.write || failed then o.debugData else BitVec.ofNat 64 data }) d
  else
    let d1 := modBoard (fun o => { o with bridgeFailed := failed }) d
    if x.write then d1 else emit (.smb (leBytes 4 data)) d1

/-- An access at once: a register, a table, a bundle or a pane. -/
def accNow (p : BoardPlace) (x : BoardAcc) (d : Dev) : Dev :=
  let half := if x.wide then none else some (x.addr % 8 / 4)
  match p with
  | .pane cl =>
    let r := accPane cl x d
    accEnd x false r.1 r.2
  | p =>
    let old := placeWord d x.addr p
    if x.write then
      let v := match half with | none => x.data.toNat | some h => setWord old h (BitVec.ofNat 32 x.data.toNat)
      accEnd x false 0 (putPlace x.addr p half v x.droop d)
    else accEnd x false (match half with | none => old | some h => wordOf old h) d

/-- BOARD_ACCESS and BOARD_WRITE; setting either raises the physical function's cause (22 R754; 19 R654). -/
def markAccess (write : Bool) (d : Dev) : Dev :=
  let fresh := !d.boot.boardAccess || (write && !d.boot.boardWrite)
  let d1 := modBoot (fun b => { b with boardAccess := true, boardWrite := b.boardWrite || write }) d
  if fresh then raiseDev 9 d1 else d1

/-- PHASE_63 of a counted wheel is in progress. -/
def inLastPhase (w : Wheel) : Bool := w.running && w.phase == 64 && counted w

/-- Starts an access; columns wait for a slot and shelves for PHASE_63. -/
def accStart (x : BoardAcc) (d0 : Dev) : Dev :=
  let d := markAccess x.write d0
  let wait (x : BoardAcc) (d : Dev) : Dev :=
    modBoard (fun o => { o with acc := o.acc ++ [x], debugDone := if x.jtag then false else o.debugDone }) d
  if d.boot.inReset || !controlUp d || x.addr % accBytes x != 0 then accEnd x true 0 d
  else
    match placeOf d x.addr with
    | .absent => accEnd x true 0 d
    | .column _ _ => wait x d
    | .shelf q => if inLastPhase d.whl then (let r := accShelf q x d; accEnd x false r.1 r.2) else wait x d
    | p => accNow p x d

/-- The waiting accesses to the shelf are made. -/
def boardShelf (d : Dev) : Dev :=
  let due := d.board.acc.filter fun x => decide (0x001100000000 ≤ x.addr)
  due.foldl (fun a x => let r := accShelf ((x.addr - 0x001100000000) / 0x4000000) x a; accEnd x false r.1 r.2)
    (modBoard (fun o => { o with acc := o.acc.filter fun x => decide (x.addr < 0x001100000000) }) d)

/-- PHASE_START, with the shelf accesses that PHASE_63 lets through (03 R79; 22 R753). -/
def opPhaseBegin (p : Nat) (d : Dev) : Dev :=
  let d1 := opPhaseStart p d
  if p = 63 ∧ d1.whl.phase = 64 ∧ d.whl.phase = 63 then boardShelf d1 else d1

/-- The first access that waits for a cluster's column. -/
def columnAccess (d : Dev) (cl : Nat) : Option BoardAcc :=
  d.board.acc.find? fun x => decide (x.addr < 0x000C00000000) && x.addr / 0x6000000 == cl

/-- COLUMN_SLOT; a board access that waits takes the slot instead of the queue's head (06 R209, R213; 22 R753). -/
def opColumnSlotBoard (cl phase slot m : Nat) (d : Dev) : Dev :=
  match columnAccess d cl with
  | none => opColumnSlot cl phase slot m d
  | some x =>
    if slotAt d cl phase slot m then
      let r := accColumn cl (x.addr % 0x6000000 / 64) m x
        (modBoard (fun o => { o with acc := o.acc.erase x }) (noteMark cl phase slot m d))
      accEnd x false r.1 r.2
    else d

/-! ## SMBus (Table PIN-6) -/

/-- SMB_IDENT. -/
def opSmbIdent (d : Dev) : Dev := emit (.smb ((List.range 16).map fun i => BitVec.ofNat 8 (bits (readIdent d (i / 4 * 4)) (8 * (i % 4) + 7) (8 * (i % 4))))) d

/-- Hottest of the last sample's junctions, in eighths of a degree. -/
def hottest (p : Power) : Int :=
  match p.temp.map (·.2) ++ p.colTemp.map (·.2) with
  | [] => 0
  | t :: ts => ts.foldl max t

/-- SMB_TELEMETRY. -/
def opSmbTelemetry (d : Dev) : Dev :=
  let p := d.power
  let flags := flagBits [p.thermWarn, p.capExceeded, d.boot.trip, (List.range 32).any fun i => (islOfDev d i).droop, d.boot.pmbusFault, d.boot.refLoss]
  emit (.smb (leBytes 2 (tempWord (hottest p)) ++ leBytes 2 p.avg ++ leBytes 2 p.cap ++ [BitVec.ofNat 8 flags, BitVec.ofNat 8 (devCode d.boot.state)] ++
    List.replicate 8 0)) d

/-- BRIDGE_ADDR of eight bytes, the first the least significant; a block with bytes 6 or 7 set is not taken. -/
def opBridgeAddr (block : W64) (d : Dev) : Dev :=
  if block.toNat < pow2 48 then modBoard (fun o => { o with bridge := block.toNat }) d else d

/-- BRIDGE_DATA: a read, or a write of 32 bits, at the bridge address, which advances by 4. One access at a time. -/
def opBridgeData (write : Option W32) (droop : W32) (d : Dev) : Dev :=
  if d.board.acc.any fun x => !x.jtag then d
  else
    let x : BoardAcc :=
      { jtag := false, addr := d.board.bridge, wide := false, write := write.isSome, data := (write.getD 0).zeroExtend 64, droop := droop }
    accStart x (modBoard (fun o => { o with bridge := (o.bridge + 4) % pow2 48 }) d)

/-- BRIDGE_STATUS. -/
def opBridgeStatus (d : Dev) : Dev :=
  emit (.smb [BitVec.ofNat 8 (b2n d.board.bridgeFailed + 2 * b2n (d.board.acc.any fun x => !x.jtag))]) d

/-! ## JTAG (Table PIN-7, Table PIN-8) -/

/-- JTAG_DEBUG_UPDATE: Update-DR of the 128-bit DEBUG register. -/
def opJtagDebugUpdate (dr : BitVec 128) (droop : W32) (d : Dev) : Dev :=
  let n := dr.toNat
  if !d.board.debugDone then d
  else if bits n 114 113 ≥ 2 ∨ bits n 127 117 ≠ 0 then modBoard (fun o => { o with tapIr := 0x10, debugError := true }) d
  else
    accStart { jtag := true, addr := bits n 111 64, wide := bits n 114 113 == 1, write := bit n 112, data := BitVec.ofNat 64 n, droop := droop }
      (modBoard (fun o => { o with tapIr := 0x10 }) d)

/-- JTAG_EXTEST of EXTEST, CLAMP or HIGHZ; low tells whether RESET_N is held low (R757). -/
def opJtagExtest (code : Fin 3) (low : Bool) (d : Dev) : Dev :=
  modBoard (fun o => { o with tapIr := BitVec.ofNat 8 (3 + code.val), scan := if low && d.boot.inReset then 3 + code.val else 0 }) d

/-- JTAG_TAP_RESET. -/
def opJtagTapReset (d : Dev) : Dev :=
  modBoard (fun o => { o with tapIr := 0x01, scan := 0 }) d

end Sys2Proof.Machine
end

