-- ==== Sys2Proof/Machine/BoardPort.lean ====
section
/-!
DEFINITION. The commands of SMBus and JTAG (22).
-/
namespace Sys2Proof.Machine

/-- SMB_IDENT (22 R751). -/
def execSmbIdent (s : State) : Host.Outcome State Fault Refusal :=
  onDev s opSmbIdent

/-- SMB_TELEMETRY (22 R751). -/
def execSmbTelemetry (s : State) : Host.Outcome State Fault Refusal :=
  onDev s opSmbTelemetry

/-- BRIDGE_ADDR (22 R751). -/
def execBridgeAddr (block : W64) (s : State) : Host.Outcome State Fault Refusal :=
  onDev s (opBridgeAddr block)

/-- BRIDGE_DATA (22 R752). -/
def execBridgeData (write : Option W32) (droop : W32) (s : State) : Host.Outcome State Fault Refusal :=
  onDev s (opBridgeData write droop)

/-- BRIDGE_STATUS (22 R751). -/
def execBridgeStatus (s : State) : Host.Outcome State Fault Refusal :=
  onDev s opBridgeStatus

/-- SMB_ALERT_RESPONSE (22 R750). -/
def execSmbAlertResponse (s : State) : Host.Outcome State Fault Refusal :=
  onDev s opSmbAlertResponse

/-- JTAG_DEBUG_UPDATE (22 R758). -/
def execJtagDebugUpdate (dr : BitVec 128) (droop : W32) (s : State) : Host.Outcome State Fault Refusal :=
  onDev s (opJtagDebugUpdate dr droop)

/-- JTAG_EXTEST (22 R757). -/
def execJtagExtest (code : Fin 3) (low : Bool) (s : State) : Host.Outcome State Fault Refusal :=
  onDev s (opJtagExtest code low)

/-- JTAG_TAP_RESET (22 R756). -/
def execJtagTapReset (s : State) : Host.Outcome State Fault Refusal :=
  onDev s opJtagTapReset

end Sys2Proof.Machine
end

