-- ==== Sys2Proof/Machine/Clocks.lean ====
section
/-!
DEFINITION. The commands of PLLs, islands, setpoints and droop (02, 20).
-/
namespace Sys2Proof.Machine

/-- PLL_LOCK_CONFIRM (02 R70). -/
def execPllLockConfirm (p : PllEdge) (s : State) : Host.Outcome State Fault Refusal :=
  onDev s (opPllLockConfirm p.pll.val p.cycle)

/-- PLL_UNGATE (02 R71). -/
def execPllUngate (p : PllEdge) (s : State) : Host.Outcome State Fault Refusal :=
  onDev s (opPllUngate p.pll.val p.cycle)

/-- REFCLK_LOST (02 R74). -/
def execRefclkLost (s : State) : Host.Outcome State Fault Refusal :=
  onDevAlways s opRefclkLost

/-- PLL_LOCK_LOST (02 R74). -/
def execPllLockLost (p : Fin 6) (s : State) : Host.Outcome State Fault Refusal :=
  onDevAlways s (opPllLockLost p.val)

/-- ISLAND_OSC_START (02 R59). -/
def execIslandOscStart (i : Fin 32) (s : State) : Host.Outcome State Fault Refusal :=
  onDev s (opIslandOscStart i.val)

/-- ISLAND_SUPPLY_GOOD (20 R695). -/
def execIslandSupplyGood (i : Fin 32) (s : State) : Host.Outcome State Fault Refusal :=
  onDev s (opIslandSupplyGood i.val)

/-- TRACKING_WINDOW (02 R49). -/
def execTrackingWindow (i : Fin 32) (slow : Option Bool) (s : State) : Host.Outcome State Fault Refusal :=
  onDev s (opTrackingWindow i.val slow)

/-- SLEW_STEP (02 R56). -/
def execSlewStep (i : Fin 32) (s : State) : Host.Outcome State Fault Refusal :=
  onDev s (opSlewStep i.val)

/-- DROOP_STRETCH (02 R50). -/
def execDroopStretch (i : Fin 32) (n : Nat) (s : State) : Host.Outcome State Fault Refusal :=
  onDev s (opDroopStretch i.val n)

/-- DROOP_EXCESS (21 R731). -/
def execDroopExcess (i : Fin 32) (s : State) : Host.Outcome State Fault Refusal :=
  onDev s (opDroopExcess i.val)

/-- SETPOINT_WRITE (23 R773). -/
def execSetpointWrite (fn : Fin 64) (i : Fin 32) (v : W32) (s : State) : Host.Outcome State Fault Refusal :=
  onHost fn.val s (opSetpointWrite fn.val i.val v)

/-- DROOP_FLAG_CLEAR (21 R731). -/
def execDroopFlagClear (fn : Fin 64) (mask present : W32) (s : State) : Host.Outcome State Fault Refusal :=
  onHost fn.val s (opDroopFlagClear fn.val mask present)

end Sys2Proof.Machine
end

