-- ==== Sys2Proof/Machine/CommandSet.lean ====
section
/-!
DEFINITION. The commands of the opcodes of ring commands (15).
-/
namespace Sys2Proof.Machine

/-- NOP (15 R509). -/
def execNop (r : Fin 1024) (s : State) : Host.Outcome State Fault Refusal :=
  onControl s (opNop r.val)

/-- QUERY_DEVICE (15 R515). -/
def execQueryDevice (r : Fin 1024) (s : State) : Host.Outcome State Fault Refusal :=
  onControl s (opQueryDevice r.val)

/-- QUERY_TENANCY (15 R515). -/
def execQueryTenancy (r : Fin 1024) (s : State) : Host.Outcome State Fault Refusal :=
  onControl s (opQueryTenancy r.val)

/-- IMAGE_STAGE (15 R516). -/
def execImageStage (r : Fin 1024) (s : State) : Host.Outcome State Fault Refusal :=
  onControl s (opImageStage r.val)

/-- IMAGE_VERIFY (12 R434). -/
def execImageVerify (r : Fin 1024) (s : State) : Host.Outcome State Fault Refusal :=
  onControl s (opImageVerify r.val)

/-- IMAGE_LOAD (12 R436). -/
def execImageLoad (r : Fin 1024) (s : State) : Host.Outcome State Fault Refusal :=
  onControl s (opImageLoad r.val)

/-- IMAGE_UNLOAD (15 R518). -/
def execImageUnload (r : Fin 1024) (s : State) : Host.Outcome State Fault Refusal :=
  onControl s (opImageUnload r.val)

/-- BUCKET_SELECT (15 R519). -/
def execBucketSelect (r : Fin 1024) (s : State) : Host.Outcome State Fault Refusal :=
  onControl s (opBucketSelect r.val)

/-- BUFFER_WRITE (15 R522). -/
def execBufferWrite (r : Fin 1024) (s : State) : Host.Outcome State Fault Refusal :=
  onControl s (opBufferWrite r.val)

/-- BUFFER_READ (15 R522). -/
def execBufferRead (r : Fin 1024) (s : State) : Host.Outcome State Fault Refusal :=
  onControl s (opBufferRead r.val)

/-- BUFFER_FILL (15 R522). -/
def execBufferFill (r : Fin 1024) (s : State) : Host.Outcome State Fault Refusal :=
  onControl s (opBufferFill r.val)

/-- BUFFER_DIGEST (15 R526). -/
def execBufferDigest (r : Fin 1024) (s : State) : Host.Outcome State Fault Refusal :=
  onControl s (opBufferDigest r.val)

/-- LAUNCH_AT (15 R527). -/
def execLaunchAt (r : Fin 1024) (s : State) : Host.Outcome State Fault Refusal :=
  onControl s (opLaunchAt r.val)

/-- LAUNCH_NEXT (03 R121). -/
def execLaunchNext (r : Fin 1024) (s : State) : Host.Outcome State Fault Refusal :=
  onControl s (opLaunchNext r.val)

/-- HALT_AT (15 R529). -/
def execHaltAt (r : Fin 1024) (s : State) : Host.Outcome State Fault Refusal :=
  onControl s (opHaltAt r.val)

/-- SUSPEND (14 R504). -/
def execSuspend (r : Fin 1024) (s : State) : Host.Outcome State Fault Refusal :=
  onControl s (opSuspend r.val)

/-- RESUME (15 R530). -/
def execResume (r : Fin 1024) (s : State) : Host.Outcome State Fault Refusal :=
  onControl s (opResume r.val)

/-- FENCE (15 R532). -/
def execFence (r : Fin 1024) (s : State) : Host.Outcome State Fault Refusal :=
  onControl s (opFence r.val)

/-- WAIT_COUNT (15 R533). -/
def execWaitCount (r : Fin 1024) (s : State) : Host.Outcome State Fault Refusal :=
  onControl s (opWaitCount r.val)

/-- JOURNAL_START (15 R534). -/
def execJournalStart (r : Fin 1024) (s : State) : Host.Outcome State Fault Refusal :=
  onControl s (opJournalStart r.val)

/-- JOURNAL_STOP (15 R534). -/
def execJournalStop (r : Fin 1024) (s : State) : Host.Outcome State Fault Refusal :=
  onControl s (opJournalStop r.val)

/-- REPLAY_START (16 R583). -/
def execReplayStart (r : Fin 1024) (s : State) : Host.Outcome State Fault Refusal :=
  onControl s (opReplayStart r.val)

/-- DIGEST_TABLE_READ (15 R536). -/
def execDigestTableRead (r : Fin 1024) (s : State) : Host.Outcome State Fault Refusal :=
  onControl s (opDigestTableRead r.val)

/-- VARIANCE_READ (15 R537). -/
def execVarianceRead (r : Fin 1024) (s : State) : Host.Outcome State Fault Refusal :=
  onControl s (opVarianceRead r.val)

/-- SPAN_JOIN (15 R538). -/
def execSpanJoin (r : Fin 1024) (s : State) : Host.Outcome State Fault Refusal :=
  onControl s (opSpanJoin r.val)

/-- SPAN_LEAVE (15 R539). -/
def execSpanLeave (r : Fin 1024) (s : State) : Host.Outcome State Fault Refusal :=
  onControl s (opSpanLeave r.val)

/-- COUNT_READ (15 R540). -/
def execCountRead (r : Fin 1024) (s : State) : Host.Outcome State Fault Refusal :=
  onControl s (opCountRead r.val)

/-- TIMER_PROGRAM (18 R630). -/
def execTimerProgram (r : Fin 1024) (s : State) : Host.Outcome State Fault Refusal :=
  onControl s (opTimerProgram r.val)

/-- TIMER_START_GROUP (18 R631). -/
def execTimerStartGroup (r : Fin 1024) (s : State) : Host.Outcome State Fault Refusal :=
  onControl s (opTimerStartGroup r.val)

/-- BSU_BIND (15 R543). -/
def execBsuBind (r : Fin 1024) (s : State) : Host.Outcome State Fault Refusal :=
  onControl s (opBsuBind r.val)

/-- BSU_CONFIG (17 R608). -/
def execBsuConfig (r : Fin 1024) (s : State) : Host.Outcome State Fault Refusal :=
  onControl s (opBsuConfig r.val)

/-- BSU_FLUSH (17 R612). -/
def execBsuFlush (r : Fin 1024) (s : State) : Host.Outcome State Fault Refusal :=
  onControl s (opBsuFlush r.val)

/-- PARTITION_STAGE (15 R545). -/
def execPartitionStage (r : Fin 1024) (s : State) : Host.Outcome State Fault Refusal :=
  onControl s (opPartitionStage r.val)

/-- PARTITION_COMMIT (15 R546). -/
def execPartitionCommit (r : Fin 1024) (s : State) : Host.Outcome State Fault Refusal :=
  onControl s (opPartitionCommit r.val)

/-- PARTITION_READ (15 R547). -/
def execPartitionRead (r : Fin 1024) (s : State) : Host.Outcome State Fault Refusal :=
  onControl s (opPartitionRead r.val)

/-- LEASE_REVOKE (15 R548). -/
def execLeaseRevoke (r : Fin 1024) (s : State) : Host.Outcome State Fault Refusal :=
  onControl s (opLeaseRevoke r.val)

/-- RING_ASSIGN (15 R549). -/
def execRingAssign (r : Fin 1024) (s : State) : Host.Outcome State Fault Refusal :=
  onControl s (opRingAssign r.val)

/-- POWER_CAP_SET (15 R550). -/
def execPowerCapSet (r : Fin 1024) (s : State) : Host.Outcome State Fault Refusal :=
  onControl s (opPowerCapSet r.val)

/-- ISLAND_POWER (15 R551). -/
def execIslandPower (r : Fin 1024) (s : State) : Host.Outcome State Fault Refusal :=
  onControl s (opIslandPower r.val)

/-- FIRMWARE_STAGE (15 R552). -/
def execFirmwareStage (r : Fin 1024) (s : State) : Host.Outcome State Fault Refusal :=
  onControl s (opFirmwareStage r.val)

/-- FIRMWARE_ACTIVATE (15 R553). -/
def execFirmwareActivate (r : Fin 1024) (s : State) : Host.Outcome State Fault Refusal :=
  onControl s (opFirmwareActivate r.val)

/-- LINK_CONTROL (15 R554). -/
def execLinkControl (r : Fin 1024) (s : State) : Host.Outcome State Fault Refusal :=
  onControl s (opLinkControl r.val)

/-- TENANCY_RESET (15 R555). -/
def execTenancyReset (r : Fin 1024) (s : State) : Host.Outcome State Fault Refusal :=
  onControl s (opTenancyReset r.val)

/-- CONFIG_SEAL (15 R556). -/
def execConfigSeal (r : Fin 1024) (s : State) : Host.Outcome State Fault Refusal :=
  onControl s (opConfigSeal r.val)

end Sys2Proof.Machine
end

