-- ==== Sys2Proof/Machine/DmaEngine.lean ====
section
/-!
DEFINITION. The commands of DMA engines (19).
-/
namespace Sys2Proof.Machine

/-- DMA_DESCRIPTOR (19 R662). -/
def execDmaDescriptor (e : Fin 32) (t : Nat) (s : State) : Host.Outcome State Fault Refusal :=
  onUnits s (opDmaDescriptor e.val t)

/-- DMA_READ_COMPLETION (19 R663). -/
def execDmaReadCompletion (e : Fin 32) (lap : Fin 4) (tick : BitVec 16) (t : Nat) (data : Line) (poison : Bool) (s : State) : Host.Outcome State Fault Refusal :=
  onUnits s (opDmaReadCompletion e.val lap.val tick.toNat t data poison)

/-- DMA_READ_DEPARTURE (19 R664). -/
def execDmaReadDeparture (e : Fin 32) (t : Nat) (s : State) : Host.Outcome State Fault Refusal :=
  onUnits s (opDmaReadDeparture e.val t)

/-- DMA_WRITE_ARRIVAL (19 R666). -/
def execDmaWriteArrival (e : Fin 32) (t : Nat) (s : State) : Host.Outcome State Fault Refusal :=
  onUnits s (opDmaWriteArrival e.val t)

/-- DMA_WRITE_SHORT (19 R666). -/
def execDmaWriteShort (e : Fin 32) (t : Nat) (s : State) : Host.Outcome State Fault Refusal :=
  onUnits s (opDmaWriteShort e.val t)

/-- DMA_HOST_WRITE (19 R666). -/
def execDmaHostWrite (e : Fin 32) (n : Nat) (s : State) : Host.Outcome State Fault Refusal :=
  onUnits s (opDmaHostWrite e.val n)

end Sys2Proof.Machine
end

