-- ==== Sys2Proof/Machine/FabricLink.lean ====
section
/-!
DEFINITION. The commands of switches, launch and landing, and links (04, 05).
-/
namespace Sys2Proof.Machine

/-- SWITCH_TICK (04 R138). -/
def execSwitchTick (i : Fin 32) (t : Nat) (s : State) : Host.Outcome State Fault Refusal :=
  onFabric s (opSwitchTick i.val t)

/-- LAUNCH_DEPARTURE (07 R267). -/
def execLaunchDeparture (cl : Fin 512) (ls : Fin 8) (t : Nat) (s : State) : Host.Outcome State Fault Refusal :=
  onFabric s (opLaunchDeparture cl.val ls.val t)

/-- LAUNCH_HEADER_LATE (07 R268). -/
def execLaunchHeaderLate (cl : Fin 512) (ls : Fin 8) (t : Nat) (s : State) : Host.Outcome State Fault Refusal :=
  onFabric s (opLaunchHeaderLate cl.val ls.val t)

/-- LANDING_WRITE (04 R149). -/
def execLandingWrite (cl : Fin 512) (t : Nat) (s : State) : Host.Outcome State Fault Refusal :=
  onFabric s (opLandingWrite cl.val t)

/-- LINK_FRAME_TRANSMIT (05 R161). -/
def execLinkFrameTransmit (l : Fin 16) (k : Nat) (s : State) : Host.Outcome State Fault Refusal :=
  onFabric s (opLinkFrameTransmit l.val k)

/-- LINK_FRAME_RECEIVE (05 R165). -/
def execLinkFrameReceive (l : Fin 16) (wheel index : Nat) (sched : Bool) (at16 : Nat) (lanes : List (List (BitVec 10))) (s : State) : Host.Outcome State Fault Refusal :=
  onFabric s (opLinkFrameReceive l.val wheel index sched at16 lanes)

/-- REPLAY_SEND (05 R185). -/
def execReplaySend (l : Fin 16) (k : Nat) (s : State) : Host.Outcome State Fault Refusal :=
  onFabric s (opReplaySend l.val k)

/-- RELEASE_STORE_RELEASE (05 R176). -/
def execReleaseStoreRelease (l : Fin 16) (t : Nat) (s : State) : Host.Outcome State Fault Refusal :=
  onFabric s (opReleaseStoreRelease l.val t)

/-- LANE_DROP (05 R189). -/
def execLaneDrop (l : Fin 16) (t : Nat) (s : State) : Host.Outcome State Fault Refusal :=
  onFabric s (opLaneDrop l.val t)

/-- LINK_DETECT_DONE (05 R170). -/
def execLinkDetectDone (l : Fin 16) (t : Nat) (lanes : Byte) (s : State) : Host.Outcome State Fault Refusal :=
  onFabric s (opLinkDetectDone l.val t lanes)

/-- LINK_EQUALISE_DONE (05 R170). -/
def execLinkEqualiseDone (l : Fin 16) (t : Nat) (pass : LanesFound) (s : State) : Host.Outcome State Fault Refusal :=
  onFabric s (opLinkEqualiseDone l.val t pass.pass pass.order pass.invert)

/-- LINK_ALIGN_DONE (05 R172). -/
def execLinkAlignDone (l : Fin 16) (t : Nat) (peer : Bool) (s : State) : Host.Outcome State Fault Refusal :=
  onFabric s (opLinkAlignDone l.val t peer)

/-- LINK_MEASURE_DONE (05 R173). -/
def execLinkMeasureDone (l : Fin 16) (t : Nat) (rtts : List Nat) (peerFine : Nat) (s : State) : Host.Outcome State Fault Refusal :=
  onFabric s (opLinkMeasureDone l.val t rtts peerFine)

/-- LINK_CONFIRM_DONE (05 R170). -/
def execLinkConfirmDone (l : Fin 16) (t : Nat) (clean : Bool) (s : State) : Host.Outcome State Fault Refusal :=
  onFabric s (opLinkConfirmDone l.val t clean)

/-- LINK_LOSS (05 R193). -/
def execLinkLoss (l : Fin 16) (signal : Bool) (s : State) : Host.Outcome State Fault Refusal :=
  onFabric s (opLinkLoss l.val signal)

/-- LINK_LOST_TIMEOUT (05 R170). -/
def execLinkLostTimeout (l : Fin 16) (t : Nat) (s : State) : Host.Outcome State Fault Refusal :=
  onFabric s (opLinkLostTimeout l.val t)

end Sys2Proof.Machine
end

