-- ==== Sys2Proof/Machine/HostLink.lean ====
section
/-!
DEFINITION. The commands of the host link and BAR 0 (19, 23).
-/
namespace Sys2Proof.Machine

/-- REGISTER_WRITE (23 R759). -/
def execRegisterWrite (fn : Fin 64) (off : BitVec 21) (v droop : W32) (s : State) : Host.Outcome State Fault Refusal :=
  onControl s (opRegisterWrite fn.val off.toNat v droop)

/-- CAUSE_CLEAR (23 R772). -/
def execCauseClear (fn : Fin 64) (e : Option (Fin 32)) (mask occurs : W32) (s : State) : Host.Outcome State Fault Refusal :=
  onHost fn.val s (opCauseClear fn.val (e.map Fin.val) mask occurs)

/-- CAUSE_ENABLE (23 R772). -/
def execCauseEnable (fn : Fin 64) (e : Option (Fin 32)) (v : W32) (s : State) : Host.Outcome State Fault Refusal :=
  onHost fn.val s (opCauseEnable fn.val (e.map Fin.val) v)

/-- MSIX_UNMASK (19 R652). -/
def execMsixUnmask (fn : Fin 64) (v : Option (Fin 64)) (s : State) : Host.Outcome State Fault Refusal :=
  onControl s (opMsixUnmask fn.val (v.map Fin.val))

/-- COMPLETION_TIMEOUT (19 R656). -/
def execCompletionTimeout (r : ReadRef) (s : State) : Host.Outcome State Fault Refusal :=
  onControl s (opCompletionTimeout r)

/-- PCIE_ERROR_RECEIVED (19 R655). -/
def execPcieErrorReceived (e : PcieError) (s : State) : Host.Outcome State Fault Refusal :=
  onDev s (opPcieErrorReceived e)

/-- UNSUPPORTED_REQUEST (19 R645). -/
def execUnsupportedRequest (fn : Fin 64) (rd : Bool) (s : State) : Host.Outcome State Fault Refusal :=
  onDev s (opUnsupportedRequest fn.val rd)

/-- FUNCTION_LEVEL_RESET (19 R657). -/
def execFunctionLevelReset (fn : Fin 64) (s : State) : Host.Outcome State Fault Refusal :=
  onDev s (opFunctionLevelReset fn.val)

/-- FLR_COMPLETE (19 R658). -/
def execFlrComplete (fn : Fin 64) (s : State) : Host.Outcome State Fault Refusal :=
  onControl s (opFlrComplete fn.val)

/-- VF_ENABLE_CLEAR (19 R642). -/
def execVfEnableClear (s : State) : Host.Outcome State Fault Refusal :=
  onDev s opVfEnableClear

/-- FETCH_COMPLETION (13 R458). -/
def execFetchCompletion (id : Nat) (data : List Byte) (s : State) : Host.Outcome State Fault Refusal :=
  onControl s (opFetchCompletion id data)

/-- BUS_MASTER_ENABLE (19 R647). -/
def execBusMasterEnable (fn : Fin 64) (on : Bool) (s : State) : Host.Outcome State Fault Refusal :=
  onDev s (opBusMasterEnable fn.val on)

end Sys2Proof.Machine
end

