-- ==== Sys2Proof/Machine/Reset.lean ====
section
/-!
DEFINITION. The commands of reset, boot, seal, power and heat (20, 22).
-/
namespace Sys2Proof.Machine

/-- CHIP_RESET (20 R690). -/
def execChipReset (cause : Fin 6) (cut : Bool) (s : State) : Host.Outcome State Fault Refusal :=
  onDevAlways s (opChipReset cause.val cut)

/-- LINK_DRIVEN_RESET (19 R659). -/
def execLinkDrivenReset (k : Fin 4) (cut : Bool) (s : State) : Host.Outcome State Fault Refusal :=
  onDevAlways s (opLinkDrivenReset k.val cut)

/-- POWER_LOSS (20 R708). -/
def execPowerLoss (cut : Bool) (s : State) : Host.Outcome State Fault Refusal :=
  onDevAlways s (opPowerLoss cut)

/-- RESET_RELEASE (20 R673). -/
def execResetRelease (straps : BitVec 4) (s : State) : Host.Outcome State Fault Refusal :=
  onDev s (opResetRelease straps)

/-- BOOT_ENTRY (20 R677). -/
def execBootEntry (mode : Option (BitVec 5)) (s : State) : Host.Outcome State Fault Refusal :=
  onControl s (opBootEntry (mode.map BitVec.toInt))

/-- FIRMWARE_BOOT_LOAD (20 R678). -/
def execFirmwareBootLoad (sfdp : Bool) (s : State) : Host.Outcome State Fault Refusal :=
  onControl s (opFirmwareBootLoad sfdp)

/-- MB_IN_GO (23 R763). -/
def execMbInGo (fn : Fin 64) (v : W32) (s : State) : Host.Outcome State Fault Refusal :=
  onHost fn.val s (opMbInGo fn.val v)

/-- MEMORY_INIT_DONE (20 R676). -/
def execMemoryInitDone (s : State) : Host.Outcome State Fault Refusal :=
  onFabric s (opMemoryInitDone)

/-- HELD_ENTRY (20 R680). -/
def execHeldEntry (s : State) : Host.Outcome State Fault Refusal :=
  onControl s (opHeldEntry)

/-- CONFIG_SEAL_EFFECT (20 R687). -/
def execConfigSealEffect (s : State) : Host.Outcome State Fault Refusal :=
  onControl s (opConfigSealEffect)

/-- DRAIN_REQ_SET (20 R671). -/
def execDrainReqSet (fn : Fin 64) (s : State) : Host.Outcome State Fault Refusal :=
  onHost fn.val s (opDrainReqSet fn.val)

/-- DRAIN_REQ_CLEAR (20 R671). -/
def execDrainReqClear (fn : Fin 64) (s : State) : Host.Outcome State Fault Refusal :=
  onHost fn.val s (opDrainReqClear fn.val)

/-- DRAIN_TO_HALTED (20 R700). -/
def execDrainToHalted (s : State) : Host.Outcome State Fault Refusal :=
  onControl s (opDrainToHalted)

/-- THERMAL_TRIP (20 R707). -/
def execThermalTrip (s : State) : Host.Outcome State Fault Refusal :=
  onDev s opThermalTrip

/-- THERMAL_SAMPLE (20 R705). -/
def execThermalSample (isl col : List Int) (s : State) : Host.Outcome State Fault Refusal :=
  onControl s (opThermalSample isl col)

/-- POWER_SAMPLE (20 R701). -/
def execPowerSample (watts : BitVec 16) (s : State) : Host.Outcome State Fault Refusal :=
  onControl s (opPowerSample watts.toNat)

/-- READ_VOUT_POLL (22 R745). -/
def execReadVoutPoll (raw : BitVec 16) (s : State) : Host.Outcome State Fault Refusal :=
  onControl s (opReadVoutPoll raw)

/-- PMBUS_FAULT (22 R746). -/
def execPmbusFault (why : Fin 3) (s : State) : Host.Outcome State Fault Refusal :=
  onControl s (opPmbusFault why.val)

/-- PMB_ALERT (22 R747). -/
def execPmbAlert (st0 st1 : BitVec 16) (s : State) : Host.Outcome State Fault Refusal :=
  onControl s (opPmbAlert st0 st1)

/-- HOST_LINK_UP (19 R641). -/
def execHostLinkUp (rate width : Fin 4) (flit : Bool) (s : State) : Host.Outcome State Fault Refusal :=
  onDev s (opHostLinkUp rate.val width.val flit)

end Sys2Proof.Machine
end

