-- ==== Sys2Proof/Machine/RingCore.lean ====
section
/-!
DEFINITION. The commands of rings and Umber cores (13, 21).
-/
namespace Sys2Proof.Machine

/-- DOORBELL_CMD_TAIL (13 R455). -/
def execDoorbellCmdTail (fn : Fin 64) (r : Fin 1024) (v : W32) (s : State) : Host.Outcome State Fault Refusal :=
  onHost fn.val s (writePage fn.val (0x1000 * r.val) v.toNat)

/-- DOORBELL_STS_HEAD (13 R455). -/
def execDoorbellStsHead (fn : Fin 64) (r : Fin 1024) (v : W32) (s : State) : Host.Outcome State Fault Refusal :=
  onHost fn.val s (writePage fn.val (0x1000 * r.val + 4) v.toNat)

/-- COMMAND_FETCH (13 R458). -/
def execCommandFetch (r : Fin 1024) (s : State) : Host.Outcome State Fault Refusal :=
  onControl s (opCommandFetch r.val)

/-- COMMAND_START (13 R460). -/
def execCommandStart (r : Fin 1024) (s : State) : Host.Outcome State Fault Refusal :=
  onControl s (opCommandStart r.val)

/-- STATUS_REPLY (13 R469). -/
def execStatusReply (r : Fin 1024) (s : State) : Host.Outcome State Fault Refusal :=
  onControl s (opStatusReply r.val)

/-- RING_ENABLE (13 R452). -/
def execRingEnable (fn : Fin 64) (r : Fin 1024) (vector : Fin 64) (s : State) : Host.Outcome State Fault Refusal :=
  onHost fn.val s (opRingEnable fn.val r.val vector.val)

/-- RING_DISABLE (13 R451). -/
def execRingDisable (fn : Fin 64) (r : Fin 1024) (vector : Fin 64) (s : State) : Host.Outcome State Fault Refusal :=
  onHost fn.val s (opRingDisable fn.val r.val vector.val)

/-- RING_CLOSE_DONE (23 R774). -/
def execRingCloseDone (r : Fin 1024) (s : State) : Host.Outcome State Fault Refusal :=
  onControl s (opRingCloseDone r.val)

/-- WATCHDOG_EXPIRY (21 R721). -/
def execWatchdogExpiry (n : Fin 16) (s : State) : Host.Outcome State Fault Refusal :=
  onControl s (opWatchdogExpiry n.val)

/-- CORE_RESET (21 R721). -/
def execCoreReset (fn : Fin 64) (mask : BitVec 16) (s : State) : Host.Outcome State Fault Refusal :=
  onHost fn.val s (opCoreReset fn.val mask)

/-- RESCUE_CORE_RESET (21 R722). -/
def execRescueCoreReset (s : State) : Host.Outcome State Fault Refusal :=
  onControl s (opRescueCoreReset)

/-- CORE_RELEASE (21 R721). -/
def execCoreRelease (n : Fin 16) (s : State) : Host.Outcome State Fault Refusal :=
  onControl s (opCoreRelease n.val)

/-- RING_REHOME (13 R445). -/
def execRingRehome (n : Fin 16) (s : State) : Host.Outcome State Fault Refusal :=
  onControl s (opRingRehome n.val)

/-- INTERRUPTED_COMMAND (21 R725). -/
def execInterruptedCommand (r : Fin 1024) (s : State) : Host.Outcome State Fault Refusal :=
  onControl s (opInterruptedCommand r.val)

/-- BLACKOUT_BOUND_EXPIRY (20 R698). -/
def execBlackoutBoundExpiry (s : State) : Host.Outcome State Fault Refusal :=
  onControl s (opBlackoutBoundExpiry)

end Sys2Proof.Machine
end

