-- ==== Sys2Proof/Machine/TenancyEvents.lean ====
section
/-!
DEFINITION. The commands of faults, grants, programs and their boundaries (11, 14 to 16, 20, 21).
-/
namespace Sys2Proof.Machine

/-- DIGEST_DRAIN (16 R570). -/
def execDigestDrain (t : Fin 32) (s : State) : Host.Outcome State Fault Refusal :=
  onFabric s (opDigestDrain t.val)

/-- FAULT_RAISED (21 R709). -/
def execFaultRaised (t : Fin 32) (code : Byte) (s : State) : Host.Outcome State Fault Refusal :=
  onFabric s (opFaultRaised t.val code.toNat)

/-- FAULT_STOP (21 R712). -/
def execFaultStop (t : Fin 32) (s : State) : Host.Outcome State Fault Refusal :=
  onFabric s (opFaultStop t.val)

/-- GRANT_CHANGE_EFFECT (14 R495). -/
def execGrantChangeEffect (s : State) : Host.Outcome State Fault Refusal :=
  onFabric s (opGrantChangeEffect)

/-- ZEROING_DONE (14 R497). -/
def execZeroingDone (t : Fin 32) (s : State) : Host.Outcome State Fault Refusal :=
  onControl s (opZeroingDone t.val)

/-- LEASE_EXPIRY (14 R506). -/
def execLeaseExpiry (k : Fin 5) (s : State) : Host.Outcome State Fault Refusal :=
  onControl s (opLeaseExpiry k.val)

/-- PART_COUNT_HI (23 R766). -/
def execPartCountHi (fn : Fin 64) (v : W32) (s : State) : Host.Outcome State Fault Refusal :=
  onHost fn.val s (opPartCountHi fn.val v)

/-- PART_CHECK_DONE (23 R766). -/
def execPartCheckDone (s : State) : Host.Outcome State Fault Refusal :=
  onControl s (opPartCheckDone)

/-- PART_SYNC (23 R769). -/
def execPartSync (fn : Fin 64) (s : State) : Host.Outcome State Fault Refusal :=
  onHost fn.val s (opPartSync fn.val)

/-- PART_CANCEL (23 R767). -/
def execPartCancel (fn : Fin 64) (s : State) : Host.Outcome State Fault Refusal :=
  onHost fn.val s (opPartCancel fn.val)

/-- DIRECT_COMMIT_EFFECT (23 R768). -/
def execDirectCommitEffect (s : State) : Host.Outcome State Fault Refusal :=
  onFabric s (opDirectCommitEffect)

/-- BUCKET_SEGMENTS_CURRENT (11 R408). -/
def execBucketSegmentsCurrent (t : Fin 32) (s : State) : Host.Outcome State Fault Refusal :=
  onFabric s (opBucketSegmentsCurrent t.val)

/-- CLUSTER_ARM (07 R283). -/
def execClusterArm (t : Fin 32) (s : State) : Host.Outcome State Fault Refusal :=
  onFabric s (opClusterArm t.val)

/-- LAUNCH_COUNT_REACHED (03 R120). -/
def execLaunchCountReached (t : Fin 32) (s : State) : Host.Outcome State Fault Refusal :=
  onFabric s (opLaunchCountReached t.val)

/-- PROGRAM_COMPLETION_CHECK (11 R399). -/
def execProgramCompletionCheck (t : Fin 32) (s : State) : Host.Outcome State Fault Refusal :=
  onFabric s (opProgramCompletionCheck t.val)

/-- HALT_AT_REACHED (15 R529). -/
def execHaltAtReached (t : Fin 32) (s : State) : Host.Outcome State Fault Refusal :=
  onFabric s (opHaltAtReached t.val)

/-- SUSPEND_EFFECT (14 R501). -/
def execSuspendEffect (t : Fin 32) (s : State) : Host.Outcome State Fault Refusal :=
  onFabric s (opSuspendEffect t.val)

/-- RESUME_EFFECT (14 R502). -/
def execResumeEffect (t : Fin 32) (s : State) : Host.Outcome State Fault Refusal :=
  onFabric s (opResumeEffect t.val)

/-- WAIT_COUNT_REACHED (15 R533). -/
def execWaitCountReached (s : State) : Host.Outcome State Fault Refusal :=
  onControl s (opWaitCountReached)

/-- TENANCY_RESET_EFFECT (15 R555). -/
def execTenancyResetEffect (s : State) : Host.Outcome State Fault Refusal :=
  onFabric s (opTenancyResetEffect)

/-- ISLAND_POWER_OFF_EFFECT (20 R694). -/
def execIslandPowerOffEffect (s : State) : Host.Outcome State Fault Refusal :=
  onFabric s (opIslandPowerOffEffect)

/-- ISLAND_POWER_ON_EFFECT (20 R695). -/
def execIslandPowerOnEffect (s : State) : Host.Outcome State Fault Refusal :=
  onFabric s (opIslandPowerOnEffect)

/-- ISLAND_POWER_ON_DONE (20 R695). -/
def execIslandPowerOnDone (s : State) : Host.Outcome State Fault Refusal :=
  onControl s (opIslandPowerOnDone)

/-- LEASE_REVOKE_EFFECT (14 R507). -/
def execLeaseRevokeEffect (s : State) : Host.Outcome State Fault Refusal :=
  onControl s (opLeaseRevokeEffect)

/-- JOURNAL_CLOSE_ON_VACANT (21 R727). -/
def execJournalCloseOnVacant (t : Fin 32) (s : State) : Host.Outcome State Fault Refusal :=
  onControl s (opJournalCloseOnVacant t.val)

end Sys2Proof.Machine
end

