-- ==== Sys2Proof/Machine/Tiers.lean ====
section
/-!
DEFINITION. The commands of shelf, column and pane (06).
-/
namespace Sys2Proof.Machine

/-- SHELF_WRITE (06 R228). -/
def execShelfWrite (q : Fin 4) (k : Fin 8) (t : Nat) (s : State) : Host.Outcome State Fault Refusal :=
  onFabric s (opShelfWrite q.val k.val t)

/-- SHELF_READ (06 R228). -/
def execShelfRead (q : Fin 4) (k : Fin 8) (t : Nat) (s : State) : Host.Outcome State Fault Refusal :=
  onFabric s (opShelfRead q.val k.val t)

/-- REFRESH_BURST (06 R221). -/
def execRefreshBurst (cl : Fin 512) (m : Nat) (s : State) : Host.Outcome State Fault Refusal :=
  onColumn cl.val s (opRefreshBurst cl.val m)

/-- COLUMN_SLOT (06 R213). -/
def execColumnSlot (cl : Fin 512) (phase : Fin 64) (slot : Fin 1024) (m : Nat) (s : State) : Host.Outcome State Fault Refusal :=
  onColumn cl.val s (opColumnSlotBoard cl.val phase.val slot.val m)

/-- COLUMN_READ_DATA (06 R215). -/
def execColumnReadData (cl : Fin 512) (m : Nat) (s : State) : Host.Outcome State Fault Refusal :=
  onColumn cl.val s (opColumnReadData cl.val m)

/-- PANE_FILL (06 R205). -/
def execPaneFill (cl : Fin 512) (s : State) : Host.Outcome State Fault Refusal :=
  onIsland cl.val s (opPaneFill cl.val)

end Sys2Proof.Machine
end

