-- ==== Sys2Proof/Machine/Tile.lean ====
section
/-!
DEFINITION. The commands of the cluster’s instructions (07 to 10).
-/
namespace Sys2Proof.Machine

/-- BUNDLE_ISSUE (07 R246). -/
def execBundleIssue (cl : Fin 512) (third : Bool) (s : State) : Host.Outcome State Fault Refusal :=
  onIsland cl.val s (opBundleIssue cl.val third)

/-- PENDING_WRITE_EFFECT (07 R250). -/
def execPendingWriteEffect (cl : Fin 512) (s : State) : Host.Outcome State Fault Refusal :=
  onIsland cl.val s (opPendingWriteEffect cl.val)

/-- MMA (09 R335). -/
def execMma (cl : Fin 512) (da db : Fin 16) (acc : Fin 8) (s : State) : Host.Outcome State Fault Refusal :=
  onIsland cl.val s (opIssueOne cl.val { m := .mma da db acc })

/-- MMAZ (09 R339). -/
def execMmaz (cl : Fin 512) (da db : Fin 16) (acc : Fin 8) (s : State) : Host.Outcome State Fault Refusal :=
  onIsland cl.val s (opIssueOne cl.val { m := .mmaz da db acc })

/-- MMAT (09 R335). -/
def execMmat (cl : Fin 512) (da db : Fin 16) (acc : Fin 8) (zero : Bool) (s : State) : Host.Outcome State Fault Refusal :=
  onIsland cl.val s (opIssueOne cl.val { m := .mmat da db acc zero })

/-- ACCZERO (09 R340). -/
def execAcczero (cl : Fin 512) (acc : Fin 8) (cnt cls : Fin 4) (s : State) : Host.Outcome State Fault Refusal :=
  onIsland cl.val s (opIssueOne cl.val { m := .acczero acc cnt cls })

/-- ACCLOAD (09 R341). -/
def execAccload (cl : Fin 512) (dd : Fin 16) (acc : Fin 8) (form : Fin 4) (s : State) : Host.Outcome State Fault Refusal :=
  onIsland cl.val s (opIssueOne cl.val { m := .accload dd acc form })

/-- ACCDRAIN (09 R342). -/
def execAccdrain (cl : Fin 512) (dd : Fin 16) (acc : Fin 8) (wide : Bool) (rnd : Fin 4) (sat : Bool) (srq : Fin 8) (s : State) : Host.Outcome State Fault Refusal :=
  onIsland cl.val s (opIssueOne cl.val { m := .accdrain dd acc wide rnd sat srq })

/-- VADD (10 R375). -/
def execVadd (cl : Fin 512) (f : VArgs) (fo : Bool) (sOrd : Fin 32) (rank : Fin 8) (s : State) : Host.Outcome State Fault Refusal :=
  onIsland cl.val s (opIssueOne cl.val { v := .vadd f fo sOrd rank })

/-- VSUB (10 R365). -/
def execVsub (cl : Fin 512) (f : VArgs) (s : State) : Host.Outcome State Fault Refusal :=
  onIsland cl.val s (opIssueOne cl.val { v := .vsub f })

/-- VMUL (10 R365). -/
def execVmul (cl : Fin 512) (f : VArgs) (s : State) : Host.Outcome State Fault Refusal :=
  onIsland cl.val s (opIssueOne cl.val { v := .vmul f })

/-- VFMA (10 R365). -/
def execVfma (cl : Fin 512) (f : VArgs) (s : State) : Host.Outcome State Fault Refusal :=
  onIsland cl.val s (opIssueOne cl.val { v := .vfma f })

/-- VMAX (10 R369). -/
def execVmax (cl : Fin 512) (f : VArgs) (s : State) : Host.Outcome State Fault Refusal :=
  onIsland cl.val s (opIssueOne cl.val { v := .vmax f })

/-- VMIN (10 R369). -/
def execVmin (cl : Fin 512) (f : VArgs) (s : State) : Host.Outcome State Fault Refusal :=
  onIsland cl.val s (opIssueOne cl.val { v := .vmin f })

/-- VEXP (10 R367). -/
def execVexp (cl : Fin 512) (f : VArgs) (s : State) : Host.Outcome State Fault Refusal :=
  onIsland cl.val s (opIssueOne cl.val { v := .vexp f })

/-- VLOG (10 R367). -/
def execVlog (cl : Fin 512) (f : VArgs) (s : State) : Host.Outcome State Fault Refusal :=
  onIsland cl.val s (opIssueOne cl.val { v := .vlog f })

/-- VRCP (10 R367). -/
def execVrcp (cl : Fin 512) (f : VArgs) (s : State) : Host.Outcome State Fault Refusal :=
  onIsland cl.val s (opIssueOne cl.val { v := .vrcp f })

/-- VRSQ (10 R367). -/
def execVrsq (cl : Fin 512) (f : VArgs) (s : State) : Host.Outcome State Fault Refusal :=
  onIsland cl.val s (opIssueOne cl.val { v := .vrsq f })

/-- VCVT (10 R365). -/
def execVcvt (cl : Fin 512) (f : VArgs) (s : State) : Host.Outcome State Fault Refusal :=
  onIsland cl.val s (opIssueOne cl.val { v := .vcvt f })

/-- VSEL (10 R369). -/
def execVsel (cl : Fin 512) (f : VArgs) (s : State) : Host.Outcome State Fault Refusal :=
  onIsland cl.val s (opIssueOne cl.val { v := .vsel f })

/-- VCMP (10 R370). -/
def execVcmp (cl : Fin 512) (f : VArgs) (cond : Fin 8) (s : State) : Host.Outcome State Fault Refusal :=
  onIsland cl.val s (opIssueOne cl.val { v := .vcmp f cond })

/-- VSUMROW (10 R371). -/
def execVsumrow (cl : Fin 512) (f : VArgs) (s : State) : Host.Outcome State Fault Refusal :=
  onIsland cl.val s (opIssueOne cl.val { v := .vsumrow f })

/-- VMAXROW (10 R372). -/
def execVmaxrow (cl : Fin 512) (f : VArgs) (s : State) : Host.Outcome State Fault Refusal :=
  onIsland cl.val s (opIssueOne cl.val { v := .vmaxrow f })

/-- VSHUF (10 R374). -/
def execVshuf (cl : Fin 512) (f : VArgs) (mode : Fin 4) (sRot : Fin 32) (s : State) : Host.Outcome State Fault Refusal :=
  onIsland cl.val s (opIssueOne cl.val { v := .vshuf f mode sRot })

/-- VRAND (10 R377). -/
def execVrand (cl : Fin 512) (f : VArgs) (draw : Byte) (raw : Bool) (s : State) : Host.Outcome State Fault Refusal :=
  onIsland cl.val s (opIssueOne cl.val { v := .vrand f draw raw })

/-- VSROUND (10 R378). -/
def execVsround (cl : Fin 512) (f : VArgs) (keep : Fin 32) (s : State) : Host.Outcome State Fault Refusal :=
  onIsland cl.val s (opIssueOne cl.val { v := .vsround f keep })

/-- VDIG (10 R381). -/
def execVdig (cl : Fin 512) (f : VArgs) (snap : Bool) (layer : BitVec 16) (s : State) : Host.Outcome State Fault Refusal :=
  onIsland cl.val s (opIssueOne cl.val { v := .vdig f snap layer })

/-- PLOAD (09 R345). -/
def execPload (cl : Fin 512) (dd : Fin 16) (win : Fin 8) (sOff sCst sSlot : Fin 32) (s : State) : Host.Outcome State Fault Refusal :=
  onIsland cl.val s (opIssueOne cl.val { x := .pload dd win sOff sCst sSlot })

/-- PSTORE (09 R345). -/
def execPstore (cl : Fin 512) (dd : Fin 16) (win : Fin 8) (sOff sCst sSlot : Fin 32) (s : State) : Host.Outcome State Fault Refusal :=
  onIsland cl.val s (opIssueOne cl.val { x := .pstore dd win sOff sCst sSlot })

/-- SGET (09 R349). -/
def execSget (cl : Fin 512) (sD sB : Fin 32) (imm : BitVec 22) (s : State) : Host.Outcome State Fault Refusal :=
  onIsland cl.val s (opIssueOne cl.val { x := .sget sD sB imm })

/-- SPUT (09 R349). -/
def execSput (cl : Fin 512) (sS sB : Fin 32) (imm : BitVec 22) (s : State) : Host.Outcome State Fault Refusal :=
  onIsland cl.val s (opIssueOne cl.val { x := .sput sS sB imm })

/-- LAUNCH (09 R350). -/
def execLaunch (cl : Fin 512) (dd : Fin 16) (ls : Fin 8) (sDep sTag : Fin 32) (s : State) : Host.Outcome State Fault Refusal :=
  onIsland cl.val s (opIssueOne cl.val { x := .launch dd ls sDep sTag })

/-- LAND (09 R352). -/
def execLand (cl : Fin 512) (dd : Fin 16) (sTag : Fin 32) (noWrite : Bool) (s : State) : Host.Outcome State Fault Refusal :=
  onIsland cl.val s (opIssueOne cl.val { x := .land dd sTag noWrite })

/-- LANDANY (09 R354). -/
def execLandany (cl : Fin 512) (dd : Fin 16) (sTag : Fin 32) (mask : Byte) (sD : Fin 32) (s : State) : Host.Outcome State Fault Refusal :=
  onIsland cl.val s (opIssueOne cl.val { x := .landany dd sTag mask sD })

/-- LOOP (10 R385). -/
def execLoop (cl : Fin 512) (src : Bool) (sC : Fin 32) (imm : W32) (endIx : BitVec 12) (s : State) : Host.Outcome State Fault Refusal :=
  onIsland cl.val s (opIssueOne cl.val { c := .loop src sC imm endIx })

/-- ENDLOOP (07 R274). -/
def execEndloop (cl : Fin 512) (s : State) : Host.Outcome State Fault Refusal :=
  onIsland cl.val s (opIssueOne cl.val { c := .endloop })

/-- WAITTICK (07 R279). -/
def execWaittick (cl : Fin 512) (t : BitVec 16) (next src : Bool) (sT : Fin 32) (s : State) : Host.Outcome State Fault Refusal :=
  onIsland cl.val s (opIssueOne cl.val { c := .waittick t next src sT })

/-- WAITTICK_RELEASE (07 R280). -/
def execWaittickRelease (cl : Fin 512) (n : Nat) (third : Bool) (s : State) : Host.Outcome State Fault Refusal :=
  onIsland cl.val s (opWaittickRelease cl.val n third)

/-- WAITCYC (10 R388). -/
def execWaitcyc (cl : Fin 512) (n : BitVec 16) (src : Bool) (sN : Fin 32) (s : State) : Host.Outcome State Fault Refusal :=
  onIsland cl.val s (opIssueOne cl.val { c := .waitcyc n src sN })

/-- WAITCYC_RELEASE (07 R282). -/
def execWaitcycRelease (cl : Fin 512) (s : State) : Host.Outcome State Fault Refusal :=
  onIsland cl.val s (opWaitcycRelease cl.val)

/-- SETS (10 R383). -/
def execSets (cl : Fin 512) (dk : Bool) (dst : Fin 32) (fsel : Fin 8) (imm : W32) (s : State) : Host.Outcome State Fault Refusal :=
  onIsland cl.val s (opIssueOne cl.val { c := .sets dk dst fsel imm })

/-- ADDS (10 R383). -/
def execAdds (cl : Fin 512) (dk : Bool) (dst : Fin 32) (fsel : Fin 8) (sA : Fin 32) (src : Bool) (sB : Fin 32) (imm : W32) (s : State) : Host.Outcome State Fault Refusal :=
  onIsland cl.val s (opIssueOne cl.val { c := .adds dk dst fsel sA src sB imm })

/-- MULS (10 R383). -/
def execMuls (cl : Fin 512) (dk : Bool) (dst : Fin 32) (fsel : Fin 8) (sA : Fin 32) (src : Bool) (sB : Fin 32) (imm : W32) (s : State) : Host.Outcome State Fault Refusal :=
  onIsland cl.val s (opIssueOne cl.val { c := .muls dk dst fsel sA src sB imm })

/-- EDGE (10 R390). -/
def execEdge (cl : Fin 512) (mk : Fin 8) (src : Bool) (rowI colI : BitVec 9) (sR sC : Fin 32) (s : State) : Host.Outcome State Fault Refusal :=
  onIsland cl.val s (opIssueOne cl.val { c := .edge mk src rowI colI sR sC })

/-- HALT (10 R391). -/
def execHalt (cl : Fin 512) (s : State) : Host.Outcome State Fault Refusal :=
  onIsland cl.val s (opIssueOne cl.val { c := .halt })

end Sys2Proof.Machine
end

