-- ==== Sys2Proof/Machine/TimerRows.lean ====
section
/-!
DEFINITION. The commands of timers (18).
-/
namespace Sys2Proof.Machine

/-- TIMER_STEP (18 R619). -/
def execTimerStep (n : Fin 16) (t : Nat) (s : State) : Host.Outcome State Fault Refusal :=
  onFabric s (opTimerStep n.val t)

/-- TIMER_START (18 R630). -/
def execTimerStart (t : Nat) (s : State) : Host.Outcome State Fault Refusal :=
  onFabric s (opTimerStart t)

/-- TIMER_START_MISSED (18 R632). -/
def execTimerStartMissed (s : State) : Host.Outcome State Fault Refusal :=
  onFabric s (opTimerStartMissed)

/-- CMP_LO_WRITE (18 R633). -/
def execCmpLoWrite (fn : Fin 64) (n : Fin 16) (v : W32) (s : State) : Host.Outcome State Fault Refusal :=
  onHost fn.val s (opCmpLoWrite fn.val n.val v)

/-- CMP_HI_WRITE (18 R633). -/
def execCmpHiWrite (fn : Fin 64) (n : Fin 16) (v : W32) (s : State) : Host.Outcome State Fault Refusal :=
  onHost fn.val s (opCmpHiWrite fn.val n.val v)

/-- TMR_GSTART (18 R631). -/
def execTmrGstart (fn : Fin 64) (mask : BitVec 16) (s : State) : Host.Outcome State Fault Refusal :=
  onHost fn.val s (opTmrGstart fn.val mask)

/-- PASSED_COMPARE_FIRE (18 R635). -/
def execPassedCompareFire (n : Fin 16) (s : State) : Host.Outcome State Fault Refusal :=
  onFabric s (opPassedCompareFire n.val)

end Sys2Proof.Machine
end

