-- ==== Sys2Proof/Machine/WheelSpan.lean ====
section
/-!
DEFINITION. The commands of the wheel and the span (03).
-/
namespace Sys2Proof.Machine

/-- WHEEL_COUNTER_START (20 R675). -/
def execWheelCounterStart (s : State) : Host.Outcome State Fault Refusal :=
  onFabric s (opWheelCounterStart)

/-- WHEEL_START (03 R85). -/
def execWheelStart (s : State) : Host.Outcome State Fault Refusal :=
  onFabric s (opWheelStart)

/-- PHASE_START (03 R79). -/
def execPhaseStart (p : Fin 64) (s : State) : Host.Outcome State Fault Refusal :=
  onFabric s (opPhaseBegin p.val)

/-- GUARD_APPLIED (03 R95). -/
def execGuardApplied (s : State) : Host.Outcome State Fault Refusal :=
  onFabric s (opGuardApplied)

/-- WHEEL_MARKER_SEND (03 R94). -/
def execWheelMarkerSend (l : Fin 16) (s : State) : Host.Outcome State Fault Refusal :=
  onFabric s (opWheelMarkerSend l.val)

/-- WHEEL_MARKER_RECEIVE (03 R93). -/
def execWheelMarkerReceive (l : Fin 16) (at16 : Nat) (s : State) : Host.Outcome State Fault Refusal :=
  onFabric s (opMarkerReceive l.val at16)

/-- SLIP_INSERT (03 R113). -/
def execSlipInsert (s : State) : Host.Outcome State Fault Refusal :=
  onFabric s (opSlipInsert)

/-- SLIPPED_WHEEL_END (03 R103). -/
def execSlippedWheelEnd (s : State) : Host.Outcome State Fault Refusal :=
  onFabric s (opSlippedWheelEnd)

/-- SLIP_LIMIT (03 R116). -/
def execSlipLimit (s : State) : Host.Outcome State Fault Refusal :=
  onFabric s (opSlipLimit)

/-- MASTER_TAKEOVER (03 R109). -/
def execMasterTakeover (s : State) : Host.Outcome State Fault Refusal :=
  onFabric s (opMasterTakeover)

/-- MARKER_LOSS_HALT (03 R111). -/
def execMarkerLossHalt (s : State) : Host.Outcome State Fault Refusal :=
  onFabric s (opMarkerLossHalt)

/-- SPAN_FORMED (03 R105). -/
def execSpanFormed (s : State) : Host.Outcome State Fault Refusal :=
  onFabric s (opSpanFormed)

/-- FORMING_STRETCH (03 R104). -/
def execFormingStretch (s : State) : Host.Outcome State Fault Refusal :=
  onFabric s (opFormingStretch)

/-- FORMING_TIMEOUT (03 R103). -/
def execFormingTimeout (s : State) : Host.Outcome State Fault Refusal :=
  onFabric s (opFormingTimeout)

/-- SPAN_HALT (05 R194). -/
def execSpanHalt (s : State) : Host.Outcome State Fault Refusal :=
  onFabric s (opSpanHalt)

/-- SYNC_IN_EDGE (03 R101). -/
def execSyncInEdge (t : Nat) (s : State) : Host.Outcome State Fault Refusal :=
  onFabric s (opSyncInEdge t)

/-- SYNC_LOST (03 R102). -/
def execSyncLost (s : State) : Host.Outcome State Fault Refusal :=
  onFabric s (opSyncLost)

/-- SYNC_DISAGREE (03 R102). -/
def execSyncDisagree (s : State) : Host.Outcome State Fault Refusal :=
  onFabric s (opSyncDisagree)

/-- SPAN_LEAVE_EFFECT (15 R539). -/
def execSpanLeaveEffect (s : State) : Host.Outcome State Fault Refusal :=
  onFabric s (opSpanLeaveEffect)

end Sys2Proof.Machine
end

