-- ==== Sys2Proof/Machine/Dispatch.lean ====
section
/-!
DEFINITION. The dispatch: one arm for each command.
-/
namespace Sys2Proof.Machine

def exec (i : Instr) (s : State) : Host.Outcome State Fault Refusal :=
  match i with
  | .chipReset cause cut => Sys2Proof.Machine.execChipReset cause cut s
  | .linkDrivenReset k cut => Sys2Proof.Machine.execLinkDrivenReset k cut s
  | .pllLockConfirm p => Sys2Proof.Machine.execPllLockConfirm p s
  | .pllUngate p => Sys2Proof.Machine.execPllUngate p s
  | .wheelCounterStart => Sys2Proof.Machine.execWheelCounterStart s
  | .bootEntry mode => Sys2Proof.Machine.execBootEntry mode s
  | .firmwareBootLoad sfdp => Sys2Proof.Machine.execFirmwareBootLoad sfdp s
  | .memoryInitDone => Sys2Proof.Machine.execMemoryInitDone s
  | .heldEntry => Sys2Proof.Machine.execHeldEntry s
  | .configSealEffect => Sys2Proof.Machine.execConfigSealEffect s
  | .mbInGo fn v => Sys2Proof.Machine.execMbInGo fn v s
  | .drainReqSet fn => Sys2Proof.Machine.execDrainReqSet fn s
  | .drainReqClear fn => Sys2Proof.Machine.execDrainReqClear fn s
  | .drainToHalted => Sys2Proof.Machine.execDrainToHalted s
  | .thermalTrip => Sys2Proof.Machine.execThermalTrip s
  | .thermalSample isl col => Sys2Proof.Machine.execThermalSample isl col s
  | .powerSample watts => Sys2Proof.Machine.execPowerSample watts s
  | .readVoutPoll raw => Sys2Proof.Machine.execReadVoutPoll raw s
  | .pmbusFault why => Sys2Proof.Machine.execPmbusFault why s
  | .pmbAlert st0 st1 => Sys2Proof.Machine.execPmbAlert st0 st1 s
  | .refclkLost => Sys2Proof.Machine.execRefclkLost s
  | .pllLockLost p => Sys2Proof.Machine.execPllLockLost p s
  | .islandOscStart isl => Sys2Proof.Machine.execIslandOscStart isl s
  | .trackingWindow isl slow => Sys2Proof.Machine.execTrackingWindow isl slow s
  | .slewStep isl => Sys2Proof.Machine.execSlewStep isl s
  | .droopStretch isl n => Sys2Proof.Machine.execDroopStretch isl n s
  | .droopExcess isl => Sys2Proof.Machine.execDroopExcess isl s
  | .setpointWrite fn isl v => Sys2Proof.Machine.execSetpointWrite fn isl v s
  | .droopFlagClear fn mask present => Sys2Proof.Machine.execDroopFlagClear fn mask present s
  | .wheelStart => Sys2Proof.Machine.execWheelStart s
  | .phaseStart p => Sys2Proof.Machine.execPhaseStart p s
  | .guardApplied => Sys2Proof.Machine.execGuardApplied s
  | .wheelMarkerSend l => Sys2Proof.Machine.execWheelMarkerSend l s
  | .wheelMarkerReceive l at16 => Sys2Proof.Machine.execWheelMarkerReceive l at16 s
  | .slipInsert => Sys2Proof.Machine.execSlipInsert s
  | .slippedWheelEnd => Sys2Proof.Machine.execSlippedWheelEnd s
  | .slipLimit => Sys2Proof.Machine.execSlipLimit s
  | .masterTakeover => Sys2Proof.Machine.execMasterTakeover s
  | .markerLossHalt => Sys2Proof.Machine.execMarkerLossHalt s
  | .spanFormed => Sys2Proof.Machine.execSpanFormed s
  | .formingStretch => Sys2Proof.Machine.execFormingStretch s
  | .formingTimeout => Sys2Proof.Machine.execFormingTimeout s
  | .spanHalt => Sys2Proof.Machine.execSpanHalt s
  | .syncInEdge t => Sys2Proof.Machine.execSyncInEdge t s
  | .syncLost => Sys2Proof.Machine.execSyncLost s
  | .syncDisagree => Sys2Proof.Machine.execSyncDisagree s
  | .switchTick isl t => Sys2Proof.Machine.execSwitchTick isl t s
  | .launchDeparture cl ls t => Sys2Proof.Machine.execLaunchDeparture cl ls t s
  | .launchHeaderLate cl ls t => Sys2Proof.Machine.execLaunchHeaderLate cl ls t s
  | .landingWrite cl t => Sys2Proof.Machine.execLandingWrite cl t s
  | .shelfWrite q k t => Sys2Proof.Machine.execShelfWrite q k t s
  | .shelfRead q k t => Sys2Proof.Machine.execShelfRead q k t s
  | .linkFrameTransmit l k => Sys2Proof.Machine.execLinkFrameTransmit l k s
  | .linkFrameReceive l wheel index sched at16 lanes => Sys2Proof.Machine.execLinkFrameReceive l wheel index sched at16 lanes s
  | .replaySend l k => Sys2Proof.Machine.execReplaySend l k s
  | .releaseStoreRelease l t => Sys2Proof.Machine.execReleaseStoreRelease l t s
  | .laneDrop l t => Sys2Proof.Machine.execLaneDrop l t s
  | .linkDetectDone l t lanes => Sys2Proof.Machine.execLinkDetectDone l t lanes s
  | .linkEqualiseDone l t pass => Sys2Proof.Machine.execLinkEqualiseDone l t pass s
  | .linkAlignDone l t peer => Sys2Proof.Machine.execLinkAlignDone l t peer s
  | .linkMeasureDone l t rtts peerFine => Sys2Proof.Machine.execLinkMeasureDone l t rtts peerFine s
  | .linkConfirmDone l t clean => Sys2Proof.Machine.execLinkConfirmDone l t clean s
  | .linkLoss l signal => Sys2Proof.Machine.execLinkLoss l signal s
  | .linkLostTimeout l t => Sys2Proof.Machine.execLinkLostTimeout l t s
  | .refreshBurst cl m => Sys2Proof.Machine.execRefreshBurst cl m s
  | .columnSlot cl phase slot m => Sys2Proof.Machine.execColumnSlot cl phase slot m s
  | .columnReadData cl m => Sys2Proof.Machine.execColumnReadData cl m s
  | .paneFill cl => Sys2Proof.Machine.execPaneFill cl s
  | .bundleIssue cl third => Sys2Proof.Machine.execBundleIssue cl third s
  | .pendingWriteEffect cl => Sys2Proof.Machine.execPendingWriteEffect cl s
  | .mma cl da db acc => Sys2Proof.Machine.execMma cl da db acc s
  | .mmaz cl da db acc => Sys2Proof.Machine.execMmaz cl da db acc s
  | .mmat cl da db acc zero => Sys2Proof.Machine.execMmat cl da db acc zero s
  | .acczero cl acc cnt cls => Sys2Proof.Machine.execAcczero cl acc cnt cls s
  | .accload cl dd acc form => Sys2Proof.Machine.execAccload cl dd acc form s
  | .accdrain cl dd acc wide rnd sat srq => Sys2Proof.Machine.execAccdrain cl dd acc wide rnd sat srq s
  | .vadd cl f fo sOrd rank => Sys2Proof.Machine.execVadd cl f fo sOrd rank s
  | .vsub cl f => Sys2Proof.Machine.execVsub cl f s
  | .vmul cl f => Sys2Proof.Machine.execVmul cl f s
  | .vfma cl f => Sys2Proof.Machine.execVfma cl f s
  | .vmax cl f => Sys2Proof.Machine.execVmax cl f s
  | .vmin cl f => Sys2Proof.Machine.execVmin cl f s
  | .vexp cl f => Sys2Proof.Machine.execVexp cl f s
  | .vlog cl f => Sys2Proof.Machine.execVlog cl f s
  | .vrcp cl f => Sys2Proof.Machine.execVrcp cl f s
  | .vrsq cl f => Sys2Proof.Machine.execVrsq cl f s
  | .vcvt cl f => Sys2Proof.Machine.execVcvt cl f s
  | .vsel cl f => Sys2Proof.Machine.execVsel cl f s
  | .vcmp cl f cond => Sys2Proof.Machine.execVcmp cl f cond s
  | .vsumrow cl f => Sys2Proof.Machine.execVsumrow cl f s
  | .vmaxrow cl f => Sys2Proof.Machine.execVmaxrow cl f s
  | .vshuf cl f mode sRot => Sys2Proof.Machine.execVshuf cl f mode sRot s
  | .vrand cl f draw raw => Sys2Proof.Machine.execVrand cl f draw raw s
  | .vsround cl f keep => Sys2Proof.Machine.execVsround cl f keep s
  | .vdig cl f snap layer => Sys2Proof.Machine.execVdig cl f snap layer s
  | .pload cl dd win sOff sCst sSlot => Sys2Proof.Machine.execPload cl dd win sOff sCst sSlot s
  | .pstore cl dd win sOff sCst sSlot => Sys2Proof.Machine.execPstore cl dd win sOff sCst sSlot s
  | .sget cl sD sB imm => Sys2Proof.Machine.execSget cl sD sB imm s
  | .sput cl sS sB imm => Sys2Proof.Machine.execSput cl sS sB imm s
  | .launch cl dd ls sDep sTag => Sys2Proof.Machine.execLaunch cl dd ls sDep sTag s
  | .land cl dd sTag noWrite => Sys2Proof.Machine.execLand cl dd sTag noWrite s
  | .landany cl dd sTag mask sD => Sys2Proof.Machine.execLandany cl dd sTag mask sD s
  | .loop cl src sC imm endIx => Sys2Proof.Machine.execLoop cl src sC imm endIx s
  | .endloop cl => Sys2Proof.Machine.execEndloop cl s
  | .waittick cl t next src sT => Sys2Proof.Machine.execWaittick cl t next src sT s
  | .waittickRelease cl n third => Sys2Proof.Machine.execWaittickRelease cl n third s
  | .waitcyc cl n src sN => Sys2Proof.Machine.execWaitcyc cl n src sN s
  | .waitcycRelease cl => Sys2Proof.Machine.execWaitcycRelease cl s
  | .sets cl dk dst fsel imm => Sys2Proof.Machine.execSets cl dk dst fsel imm s
  | .adds cl dk dst fsel sA src sB imm => Sys2Proof.Machine.execAdds cl dk dst fsel sA src sB imm s
  | .muls cl dk dst fsel sA src sB imm => Sys2Proof.Machine.execMuls cl dk dst fsel sA src sB imm s
  | .edge cl mk src rowI colI sR sC => Sys2Proof.Machine.execEdge cl mk src rowI colI sR sC s
  | .halt cl => Sys2Proof.Machine.execHalt cl s
  | .digestDrain t => Sys2Proof.Machine.execDigestDrain t s
  | .doorbellCmdTail fn r v => Sys2Proof.Machine.execDoorbellCmdTail fn r v s
  | .doorbellStsHead fn r v => Sys2Proof.Machine.execDoorbellStsHead fn r v s
  | .commandFetch r => Sys2Proof.Machine.execCommandFetch r s
  | .commandStart r => Sys2Proof.Machine.execCommandStart r s
  | .statusReply r => Sys2Proof.Machine.execStatusReply r s
  | .ringEnable fn r vector => Sys2Proof.Machine.execRingEnable fn r vector s
  | .ringDisable fn r vector => Sys2Proof.Machine.execRingDisable fn r vector s
  | .ringCloseDone r => Sys2Proof.Machine.execRingCloseDone r s
  | .registerWrite fn off v droop => Sys2Proof.Machine.execRegisterWrite fn off v droop s
  | .causeClear fn e mask occurs => Sys2Proof.Machine.execCauseClear fn e mask occurs s
  | .causeEnable fn e v => Sys2Proof.Machine.execCauseEnable fn e v s
  | .msixUnmask fn v => Sys2Proof.Machine.execMsixUnmask fn v s
  | .watchdogExpiry n => Sys2Proof.Machine.execWatchdogExpiry n s
  | .coreReset fn mask => Sys2Proof.Machine.execCoreReset fn mask s
  | .rescueCoreReset => Sys2Proof.Machine.execRescueCoreReset s
  | .coreRelease n => Sys2Proof.Machine.execCoreRelease n s
  | .ringRehome n => Sys2Proof.Machine.execRingRehome n s
  | .interruptedCommand r => Sys2Proof.Machine.execInterruptedCommand r s
  | .blackoutBoundExpiry => Sys2Proof.Machine.execBlackoutBoundExpiry s
  | .faultRaised t code => Sys2Proof.Machine.execFaultRaised t code s
  | .faultStop t => Sys2Proof.Machine.execFaultStop t s
  | .grantChangeEffect => Sys2Proof.Machine.execGrantChangeEffect s
  | .zeroingDone t => Sys2Proof.Machine.execZeroingDone t s
  | .leaseExpiry k => Sys2Proof.Machine.execLeaseExpiry k s
  | .partCountHi fn v => Sys2Proof.Machine.execPartCountHi fn v s
  | .partCheckDone => Sys2Proof.Machine.execPartCheckDone s
  | .partSync fn => Sys2Proof.Machine.execPartSync fn s
  | .partCancel fn => Sys2Proof.Machine.execPartCancel fn s
  | .directCommitEffect => Sys2Proof.Machine.execDirectCommitEffect s
  | .bucketSegmentsCurrent t => Sys2Proof.Machine.execBucketSegmentsCurrent t s
  | .clusterArm t => Sys2Proof.Machine.execClusterArm t s
  | .launchCountReached t => Sys2Proof.Machine.execLaunchCountReached t s
  | .programCompletionCheck t => Sys2Proof.Machine.execProgramCompletionCheck t s
  | .haltAtReached t => Sys2Proof.Machine.execHaltAtReached t s
  | .suspendEffect t => Sys2Proof.Machine.execSuspendEffect t s
  | .resumeEffect t => Sys2Proof.Machine.execResumeEffect t s
  | .waitCountReached => Sys2Proof.Machine.execWaitCountReached s
  | .spanLeaveEffect => Sys2Proof.Machine.execSpanLeaveEffect s
  | .tenancyResetEffect => Sys2Proof.Machine.execTenancyResetEffect s
  | .islandPowerOffEffect => Sys2Proof.Machine.execIslandPowerOffEffect s
  | .islandPowerOnEffect => Sys2Proof.Machine.execIslandPowerOnEffect s
  | .islandPowerOnDone => Sys2Proof.Machine.execIslandPowerOnDone s
  | .leaseRevokeEffect => Sys2Proof.Machine.execLeaseRevokeEffect s
  | .dmaDescriptor e t => Sys2Proof.Machine.execDmaDescriptor e t s
  | .dmaReadCompletion e lap tick t data poison => Sys2Proof.Machine.execDmaReadCompletion e lap tick t data poison s
  | .dmaReadDeparture e t => Sys2Proof.Machine.execDmaReadDeparture e t s
  | .dmaWriteArrival e t => Sys2Proof.Machine.execDmaWriteArrival e t s
  | .dmaWriteShort e t => Sys2Proof.Machine.execDmaWriteShort e t s
  | .dmaHostWrite e n => Sys2Proof.Machine.execDmaHostWrite e n s
  | .completionTimeout r => Sys2Proof.Machine.execCompletionTimeout r s
  | .pcieErrorReceived e => Sys2Proof.Machine.execPcieErrorReceived e s
  | .unsupportedRequest fn rd => Sys2Proof.Machine.execUnsupportedRequest fn rd s
  | .functionLevelReset fn => Sys2Proof.Machine.execFunctionLevelReset fn s
  | .flrComplete fn => Sys2Proof.Machine.execFlrComplete fn s
  | .vfEnableClear => Sys2Proof.Machine.execVfEnableClear s
  | .bsuRecordFlit u t => Sys2Proof.Machine.execBsuRecordFlit u t s
  | .bsuNop u => Sys2Proof.Machine.execBsuNop u s
  | .bsuCtx u => Sys2Proof.Machine.execBsuCtx u s
  | .bsuByp u => Sys2Proof.Machine.execBsuByp u s
  | .bsuTerm u => Sys2Proof.Machine.execBsuTerm u s
  | .bsuSym u => Sys2Proof.Machine.execBsuSym u s
  | .bsuLit u => Sys2Proof.Machine.execBsuLit u s
  | .bsuFrameStart u => Sys2Proof.Machine.execBsuFrameStart u s
  | .bsuSegStart u => Sys2Proof.Machine.execBsuSegStart u s
  | .bsuEntry u => Sys2Proof.Machine.execBsuEntry u s
  | .bsuSegEnd u => Sys2Proof.Machine.execBsuSegEnd u s
  | .bsuFrameEnd u => Sys2Proof.Machine.execBsuFrameEnd u s
  | .bsuDrain u => Sys2Proof.Machine.execBsuDrain u s
  | .bsuDrainLine u t => Sys2Proof.Machine.execBsuDrainLine u t s
  | .bsuReset u cause => Sys2Proof.Machine.execBsuReset u cause s
  | .timerStep n t => Sys2Proof.Machine.execTimerStep n t s
  | .timerStart t => Sys2Proof.Machine.execTimerStart t s
  | .timerStartMissed => Sys2Proof.Machine.execTimerStartMissed s
  | .cmpLoWrite fn n v => Sys2Proof.Machine.execCmpLoWrite fn n v s
  | .cmpHiWrite fn n v => Sys2Proof.Machine.execCmpHiWrite fn n v s
  | .tmrGstart fn mask => Sys2Proof.Machine.execTmrGstart fn mask s
  | .passedCompareFire n => Sys2Proof.Machine.execPassedCompareFire n s
  | .smbIdent => Sys2Proof.Machine.execSmbIdent s
  | .smbTelemetry => Sys2Proof.Machine.execSmbTelemetry s
  | .bridgeAddr block => Sys2Proof.Machine.execBridgeAddr block s
  | .bridgeData write droop => Sys2Proof.Machine.execBridgeData write droop s
  | .bridgeStatus => Sys2Proof.Machine.execBridgeStatus s
  | .smbAlertResponse => Sys2Proof.Machine.execSmbAlertResponse s
  | .jtagDebugUpdate dr droop => Sys2Proof.Machine.execJtagDebugUpdate dr droop s
  | .jtagExtest code low => Sys2Proof.Machine.execJtagExtest code low s
  | .jtagTapReset => Sys2Proof.Machine.execJtagTapReset s
  | .nop r => Sys2Proof.Machine.execNop r s
  | .queryDevice r => Sys2Proof.Machine.execQueryDevice r s
  | .queryTenancy r => Sys2Proof.Machine.execQueryTenancy r s
  | .imageStage r => Sys2Proof.Machine.execImageStage r s
  | .imageVerify r => Sys2Proof.Machine.execImageVerify r s
  | .imageLoad r => Sys2Proof.Machine.execImageLoad r s
  | .imageUnload r => Sys2Proof.Machine.execImageUnload r s
  | .bucketSelect r => Sys2Proof.Machine.execBucketSelect r s
  | .bufferWrite r => Sys2Proof.Machine.execBufferWrite r s
  | .bufferRead r => Sys2Proof.Machine.execBufferRead r s
  | .bufferFill r => Sys2Proof.Machine.execBufferFill r s
  | .bufferDigest r => Sys2Proof.Machine.execBufferDigest r s
  | .launchAt r => Sys2Proof.Machine.execLaunchAt r s
  | .launchNext r => Sys2Proof.Machine.execLaunchNext r s
  | .haltAt r => Sys2Proof.Machine.execHaltAt r s
  | .suspend r => Sys2Proof.Machine.execSuspend r s
  | .resume r => Sys2Proof.Machine.execResume r s
  | .fence r => Sys2Proof.Machine.execFence r s
  | .waitCount r => Sys2Proof.Machine.execWaitCount r s
  | .journalStart r => Sys2Proof.Machine.execJournalStart r s
  | .journalStop r => Sys2Proof.Machine.execJournalStop r s
  | .journalCloseOnVacant t => Sys2Proof.Machine.execJournalCloseOnVacant t s
  | .replayStart r => Sys2Proof.Machine.execReplayStart r s
  | .digestTableRead r => Sys2Proof.Machine.execDigestTableRead r s
  | .varianceRead r => Sys2Proof.Machine.execVarianceRead r s
  | .spanJoin r => Sys2Proof.Machine.execSpanJoin r s
  | .spanLeave r => Sys2Proof.Machine.execSpanLeave r s
  | .countRead r => Sys2Proof.Machine.execCountRead r s
  | .timerProgram r => Sys2Proof.Machine.execTimerProgram r s
  | .timerStartGroup r => Sys2Proof.Machine.execTimerStartGroup r s
  | .bsuBind r => Sys2Proof.Machine.execBsuBind r s
  | .bsuConfig r => Sys2Proof.Machine.execBsuConfig r s
  | .bsuFlush r => Sys2Proof.Machine.execBsuFlush r s
  | .partitionStage r => Sys2Proof.Machine.execPartitionStage r s
  | .partitionCommit r => Sys2Proof.Machine.execPartitionCommit r s
  | .partitionRead r => Sys2Proof.Machine.execPartitionRead r s
  | .leaseRevoke r => Sys2Proof.Machine.execLeaseRevoke r s
  | .ringAssign r => Sys2Proof.Machine.execRingAssign r s
  | .powerCapSet r => Sys2Proof.Machine.execPowerCapSet r s
  | .islandPower r => Sys2Proof.Machine.execIslandPower r s
  | .firmwareStage r => Sys2Proof.Machine.execFirmwareStage r s
  | .firmwareActivate r => Sys2Proof.Machine.execFirmwareActivate r s
  | .linkControl r => Sys2Proof.Machine.execLinkControl r s
  | .tenancyReset r => Sys2Proof.Machine.execTenancyReset r s
  | .configSeal r => Sys2Proof.Machine.execConfigSeal r s
  | .resetRelease straps => Sys2Proof.Machine.execResetRelease straps s
  | .fetchCompletion id data => Sys2Proof.Machine.execFetchCompletion id data s
  | .hostLinkUp rate width flit => Sys2Proof.Machine.execHostLinkUp rate width flit s
  | .busMasterEnable fn on => Sys2Proof.Machine.execBusMasterEnable fn on s
  | .powerLoss cut => Sys2Proof.Machine.execPowerLoss cut s
  | .islandSupplyGood isl => Sys2Proof.Machine.execIslandSupplyGood isl s

end Sys2Proof.Machine
end

