-- ==== Sys2Proof/Safety.lean ====
section
/-!
DEFINITION. The terms claims are stated in: the invariant of every run, what a reader of memory sees, and what a chip
reset leaves.
-/
namespace Sys2Proof.Machine

/-- The device promises its behaviour (02 R74; 22 R739). -/
def Promises (s : State) : Prop := s.dev.boot.lost = false

/-- The device promises its behaviour and a domain has its clock (02 R69): the fabric's, the control domain's, the column
domain's of a cluster, and that of the bitstream units and DMA engines, which are on (20 Table PWR-4). -/
abbrev FabricUp (d : Dev) : Prop := d.boot.lost = false ∧ fabricUp d = true
abbrev ControlUp (d : Dev) : Prop := d.boot.lost = false ∧ controlUp d = true
abbrev ColumnUp (c : Nat) (d : Dev) : Prop := d.boot.lost = false ∧ columnUp c d = true
abbrev UnitsUp (d : Dev) : Prop := FabricUp d ∧ unitsOn d = true

/-- A function's BAR 0 takes requests (19 R642, R657). -/
abbrev HostUp (fn : Nat) (d : Dev) : Prop := d.boot.lost = false ∧ hostOpen d fn = true

/-- Whatever waits behind it, a command on a device answers a next state: the queue as it was, and a device that meets P. -/
def Answers (c : Instr) (d : Dev) (P : Dev → Prop) : Prop :=
  ∀ q : List Instr, ∃ e, exec c { pending := q, dev := d } = .next { pending := q, dev := e } ∧ P e

/-- Pane, column and shelf memory keeps its canonical form: addresses strictly rise, and no listed byte is 0. -/
def Inv (s : State) : Prop := Memory.wf s.dev.mem.cells = true

/-- The records in force, and those of PEND, are listed once each, in the order of their tenancies. -/
def GrantsInv (s : State) : Prop :=
  (s.dev.grants.force.map Prod.fst).Pairwise (· < ·) ∧ (s.dev.grants.pend.map Prod.fst).Pairwise (· < ·)

/-- The byte of device memory at a device address. -/
def byteAt (d : Dev) (a : Nat) : Byte := memGet d.mem.cells a

/-- What a protected unit of n bytes at an address reads as once a single-bit error is corrected (06 R232, R233). -/
def heldUnit (m : Mem) (n a : Nat) : Nat := Nat.xor (memRead m.cells a n) (unitFlip (unitCode n) (8 * n) (tabGet 0 m.ecc a))

/-- Route words apply at a fabric tick: it is a schedule tick of a counted wheel, or of a slipped one (03 R114; 04 R138). -/
def scheduleTick (d : Dev) (t : Nat) : Bool := decide (tickAt d.whl t < d.whl.w)

/-- The flit at an input of a switch at a tick, or the void flit of the phase's owner (04 R147, R153). -/
def inputFlit (d : Dev) (i p t owner : Nat) : Flit :=
  match d.fab.flits.find? fun y => y.dest == .swIn i p && y.due == t with
  | some x => x.flit
  | none => voidFlit owner 0

/-- Counters of a port (04 R159). -/
def portCount (d : Dev) (i p : Nat) : FabCtr :=
  if p < 16 then tabGet {} d.fab.clCtr (16 * i + p) else tabGet {} d.fab.portCtr (32 * i + p)

/-- What a chip reset with a cause makes of a device d (20 R690 to R692). -/
def AfterReset (cause : Nat) (d e : Dev) : Prop :=
  e.boot.state = .powerup ∧ e.boot.inReset = true ∧ e.boot.resetCause = cause ∧ e.boot.lost = false ∧
    e.fuse = d.fuse ∧ e.clk = {} ∧ e.whl = {} ∧ e.span = {} ∧ e.fab = {} ∧ e.mem = {} ∧ e.cl = [] ∧ e.ten = [] ∧ e.grants = {} ∧
    e.host.rings = [] ∧ e.host.cmds = [] ∧ e.host.func = [] ∧ e.dma = [] ∧ e.bsu = [] ∧ e.tmr = [] ∧ e.power = {} ∧ e.mail = {}

/-- The always-on flags of 02 R74 and the latched thermal trip of 20 R707. -/
def alwaysOn (d : Dev) : Bool × Bool × Bool × BitVec 4 × Bool :=
  (d.boot.refLoss, d.boot.fabLoss, d.boot.ctlLoss, d.boot.colLoss, d.boot.trip)

/-- A bundle may issue at a cluster now: its clock runs, its sequencer runs, and the bundle passes its checks (07 R246, R251). -/
def MayIssue (d : Dev) (cl : Nat) (b : Bundle) : Prop :=
  d.boot.lost = false ∧ islandRuns cl d = true ∧ (clOf d cl).run = .running ∧ issueOk d.whl.w (clOf d cl) b = true

/-- A cluster has passed on to its next bundle, one island cycle later. -/
def Issued (cl : Nat) (d e : Dev) : Prop :=
  (clOf e cl).pc = (clOf d cl).pc + 1 ∧ (clOf e cl).cyc = (clOf d cl).cyc + 1

/-- Which engines of a cluster are still taken as they were. -/
def SameBusy (m v x : Bool) (cl : Nat) (d e : Dev) : Prop :=
  (m = true → (clOf e cl).busyM = (clOf d cl).busyM) ∧ (v = true → (clOf e cl).busyV = (clOf d cl).busyV) ∧
    (x = true → (clOf e cl).busyX = (clOf d cl).busyX)

/-- Cluster and slot of a vector command (10 Table INV-2). -/
def vectorOf : Instr → Option (Nat × VSlot)
  | .vadd cl f fo sOrd rank => some (cl, .vadd f fo sOrd rank)
  | .vsub cl f => some (cl, .vsub f)
  | .vmul cl f => some (cl, .vmul f)
  | .vfma cl f => some (cl, .vfma f)
  | .vmax cl f => some (cl, .vmax f)
  | .vmin cl f => some (cl, .vmin f)
  | .vexp cl f => some (cl, .vexp f)
  | .vlog cl f => some (cl, .vlog f)
  | .vrcp cl f => some (cl, .vrcp f)
  | .vrsq cl f => some (cl, .vrsq f)
  | .vcvt cl f => some (cl, .vcvt f)
  | .vsel cl f => some (cl, .vsel f)
  | .vcmp cl f cond => some (cl, .vcmp f cond)
  | .vsumrow cl f => some (cl, .vsumrow f)
  | .vmaxrow cl f => some (cl, .vmaxrow f)
  | .vshuf cl f mode sRot => some (cl, .vshuf f mode sRot)
  | .vrand cl f draw raw => some (cl, .vrand f draw raw)
  | .vsround cl f keep => some (cl, .vsround f keep)
  | .vdig cl f snap layer => some (cl, .vdig f snap layer)
  | _ => none

/-- Steps of 32 elements in a tile of a descriptor (10 R361). -/
def tileSteps (d : W64) : Nat := dRows d * ceilDiv (dCols d) 32

/-- Cycles a vector instruction takes its engine (10 Table INV-3). -/
def vectorCycles (k : Cluster) (s : VSlot) : Nat :=
  let dst := tileSteps (dOf k (vArgsOf s).dd)
  let a := tileSteps (dOf k (vArgsOf s).da)
  match s with
  | .vsumrow _ | .vmaxrow _ | .vdig .. => a
  | .vshuf .. => a + dst
  | _ => dst

/-- The cluster of a command of the tile family. -/
def tileCluster : Instr → Option Nat
  | .bundleIssue cl _ | .pendingWriteEffect cl | .mma cl _ _ _ | .mmaz cl _ _ _ | .mmat cl _ _ _ _ | .acczero cl _ _ _ | .accload cl _ _ _
  | .accdrain cl _ _ _ _ _ _ | .pload cl _ _ _ _ _ | .pstore cl _ _ _ _ _ | .sget cl _ _ _ | .sput cl _ _ _ | .launch cl _ _ _ _
  | .land cl _ _ _ | .landany cl _ _ _ _ | .loop cl _ _ _ _ | .endloop cl | .waittick cl _ _ _ _ | .waittickRelease cl _ _
  | .waitcyc cl _ _ _ | .waitcycRelease cl | .sets cl _ _ _ _ | .adds cl _ _ _ _ _ _ _ | .muls cl _ _ _ _ _ _ _ | .edge cl _ _ _ _ _ _
  | .halt cl => some cl
  | c => (vectorOf c).map (·.1)

/-- A command waits for its reply with a status (13 R465). -/
def Settled (d : Dev) (id st : Nat) : Prop := ∃ c ∈ d.host.cmds, c.id = id ∧ c.stage = .done ∧ c.status = st

/-- A command waits for its reply with a status and two result words. -/
def SettledWith (d : Dev) (id st r0 r1 : Nat) : Prop :=
  ∃ c ∈ d.host.cmds, c.id = id ∧ c.stage = .done ∧ c.status = st ∧ c.res0 = r0 ∧ c.res1 = r1

/-- A command waits, posted, for a count (21 R724). -/
def Armed (d : Dev) (id count : Nat) : Prop := ∃ c ∈ d.host.cmds, c.id = id ∧ c.stage = .armed ∧ c.count = count

/-- A ring's next command with an opcode is one that its tenancy t, which holds a grant, may issue (15 R510, R511). -/
def NextFor (d : Dev) (r op t : Nat) (c : Cmd) : Prop :=
  nextCmd d r op = some c ∧ cmdTen d c = t ∧ t < 32 ∧ recClass (grantOf d t) ≠ 0

/-- A command has asked for host data and waits for it (15 R512). -/
def Asked (d : Dev) (id addr len : Nat) : Prop :=
  (∃ c ∈ d.host.cmds, c.id = id ∧ c.stage = .fetch) ∧ ∃ f ∈ d.host.fetches, f.why = .data id ∧ f.addr = addr ∧ f.len = len

/-- The first byte of the memory that a buffer command names (15 R520). -/
def bufStart (d : Dev) (t : Nat) (p : Line) : Nat := areaBase (grantOf d t) (areaOf p) + (areaOf p).off

/-- The parts of the device, memory's bytes apart from the rest of memory. -/
inductive Part where
  | clk | whl | span | fab | lnk | mem | cells | cl | ten | grants | host | dma | bsu | tmr | boot | power | board | flash | mail | fuse
  deriving DecidableEq, Repr

/-- A part of the device is as it was. -/
def Same (p : Part) (d e : Dev) : Prop :=
  match p with
  | .clk => e.clk = d.clk
  | .whl => e.whl = d.whl
  | .span => e.span = d.span
  | .fab => e.fab = d.fab
  | .lnk => e.lnk = d.lnk
  | .mem => e.mem = d.mem
  | .cells => e.mem.cells = d.mem.cells
  | .cl => e.cl = d.cl
  | .ten => e.ten = d.ten
  | .grants => e.grants = d.grants
  | .host => e.host = d.host
  | .dma => e.dma = d.dma
  | .bsu => e.bsu = d.bsu
  | .tmr => e.tmr = d.tmr
  | .boot => e.boot = d.boot
  | .power => e.power = d.power
  | .board => e.board = d.board
  | .flash => e.flash = d.flash
  | .mail => e.mail = d.mail
  | .fuse => e.fuse = d.fuse

/-- Every part of the device but the fuse map, which nothing changes (20 R691). -/
def allButFuse : List Part :=
  [.clk, .whl, .span, .fab, .lnk, .mem, .cells, .cl, .ten, .grants, .host, .dma, .bsu, .tmr, .boot, .power, .board, .flash, .mail]

/-- The parts of the device that a command may change; it leaves every other part as it was. -/
def touched : Instr → List Part
  | .chipReset _ _ | .linkDrivenReset _ _ | .powerLoss _ => allButFuse
  | .pllLockConfirm _ | .pllUngate _ | .islandOscStart _ | .trackingWindow _ _ | .slewStep _ | .droopStretch _ _
    | .setpointWrite _ _ _ | .droopFlagClear _ _ _ | .islandSupplyGood _ => [.clk]
  | .wheelCounterStart | .syncInEdge _ | .syncLost => [.whl]
  | .bootEntry _ | .pmbusFault _ => [.clk, .host, .boot, .power, .board]
  | .firmwareBootLoad _ | .heldEntry | .configSeal _ => [.host, .boot, .mail]
  | .memoryInitDone => [.mem, .cells]
  | .configSealEffect => [.clk, .whl, .lnk, .host, .boot, .power, .board, .flash]
  | .mbInGo _ _ | .commandFetch _ | .ringEnable _ _ _ | .ringDisable _ _ _ | .ringCloseDone _ | .msixUnmask _ _
    | .coreRelease _ | .ringRehome _ | .waitCountReached | .islandPowerOnDone | .unsupportedRequest _ _ | .smbIdent
    | .smbTelemetry | .bridgeStatus | .nop _ | .queryTenancy _ | .imageVerify _ | .suspend _ | .resume _ | .fence _
    | .waitCount _ | .digestTableRead _ | .spanLeave _ | .countRead _ | .partitionCommit _ | .partitionRead _
    | .leaseRevoke _ | .ringAssign _ | .islandPower _ | .tenancyReset _ | .busMasterEnable _ _ => [.host]
  | .drainReqSet _ | .drainReqClear _ | .refclkLost | .pllLockLost _ | .hostLinkUp _ _ _ => [.boot]
  | .drainToHalted => [.clk, .boot]
  | .thermalTrip | .resetRelease _ => [.clk, .boot, .board]
  | .thermalSample _ _ => [.clk, .ten, .host, .power, .board]
  | .powerSample _ => [.clk, .host, .power, .board]
  | .readVoutPoll _ | .pmbAlert _ _ | .powerCapSet _ => [.host, .power]
  | .droopExcess _ => [.clk, .ten, .host]
  | .wheelStart | .slippedWheelEnd => [.whl, .span, .lnk, .host, .boot]
  | .phaseStart _ => [.whl, .span, .mem, .cells, .host, .board]
  | .guardApplied | .formingStretch | .syncDisagree => [.whl, .span]
  | .wheelMarkerSend _ => [.fab]
  | .wheelMarkerReceive _ _ | .linkFrameReceive _ _ _ _ _ _ => [.span, .fab, .lnk, .ten, .host]
  | .slipInsert => [.whl, .span, .lnk, .ten, .host, .boot]
  | .slipLimit => [.span, .ten, .host]
  | .masterTakeover | .markerLossHalt => [.span]
  | .spanFormed => [.whl, .span, .fab, .lnk, .cl, .ten, .host, .boot]
  | .formingTimeout | .spanLeaveEffect | .spanJoin _ => [.span, .host]
  | .spanHalt => [.span, .fab, .lnk, .mem, .cl, .ten, .host, .dma, .bsu]
  | .switchTick _ _ => [.whl, .fab, .ten, .host]
  | .launchDeparture _ _ _ => [.whl, .fab, .cl]
  | .launchHeaderLate _ _ _ => [.whl, .cl]
  | .landingWrite _ _ => [.whl, .fab, .cl, .ten, .host]
  | .shelfWrite _ _ _ => [.whl, .fab, .mem, .cells, .ten, .host]
  | .shelfRead _ _ _ => [.whl, .fab, .mem, .ten, .host]
  | .linkFrameTransmit _ _ => [.span, .fab, .lnk, .host]
  | .replaySend _ _ | .linkLoss _ _ | .linkControl _ => [.span, .lnk, .host]
  | .releaseStoreRelease _ _ => [.whl, .span, .fab, .lnk, .ten, .host]
  | .laneDrop _ _ => [.fab, .lnk]
  | .linkDetectDone _ _ _ | .linkEqualiseDone _ _ _ | .linkAlignDone _ _ _ | .linkMeasureDone _ _ _ _ | .linkConfirmDone _ _ _
    | .linkLostTimeout _ _ => [.lnk, .host]
  | .refreshBurst _ _ => [.whl, .mem]
  | .columnSlot _ _ _ _ => [.mem, .cells, .ten, .host, .board]
  | .columnReadData _ _ => [.mem]
  | .paneFill _ => [.mem, .cells, .cl]
  | .bundleIssue _ _ | .pendingWriteEffect _ | .mma _ _ _ _ | .mmaz _ _ _ _ | .mmat _ _ _ _ _ | .acczero _ _ _ _
    | .accload _ _ _ _ | .accdrain _ _ _ _ _ _ _ | .vadd _ _ _ _ _ | .vsub _ _ | .vmul _ _ | .vfma _ _ | .vmax _ _
    | .vmin _ _ | .vexp _ _ | .vlog _ _ | .vrcp _ _ | .vrsq _ _ | .vcvt _ _ | .vsel _ _ | .vcmp _ _ _ | .vsumrow _ _
    | .vmaxrow _ _ | .vshuf _ _ _ _ | .vrand _ _ _ _ | .vsround _ _ _ | .vdig _ _ _ _ | .pload _ _ _ _ _ _
    | .pstore _ _ _ _ _ _ | .sget _ _ _ _ | .sput _ _ _ _ | .launch _ _ _ _ _ | .land _ _ _ _ | .landany _ _ _ _ _
    | .loop _ _ _ _ _ | .endloop _ | .waittick _ _ _ _ _ | .waittickRelease _ _ _ | .waitcyc _ _ _ _ | .waitcycRelease _
    | .sets _ _ _ _ _ | .adds _ _ _ _ _ _ _ _ | .muls _ _ _ _ _ _ _ _ | .edge _ _ _ _ _ _ _ | .halt _
    => [.mem, .cells, .cl, .ten, .host]
  | .digestDrain _ | .launchCountReached _ => [.fab, .cl, .ten]
  | .doorbellCmdTail _ _ _ | .doorbellStsHead _ _ _ | .commandStart _ | .statusReply _ | .causeClear _ _ _ _
    | .causeEnable _ _ _ | .faultRaised _ _ | .imageStage _ | .bucketSelect _ | .launchAt _ | .launchNext _ | .haltAt _
    | .journalStart _ | .journalStop _ | .journalCloseOnVacant _ | .varianceRead _ => [.ten, .host]
  | .registerWrite _ _ _ _ => [.clk, .whl, .ten, .grants, .host, .tmr, .boot, .mail]
  | .watchdogExpiry _ | .coreReset _ _ | .rescueCoreReset | .blackoutBoundExpiry | .firmwareActivate _ | .fetchCompletion _ _
    => [.host, .boot]
  | .interruptedCommand _ => [.ten, .host, .bsu, .boot]
  | .faultStop _ | .haltAtReached _ => [.fab, .mem, .cl, .ten, .host, .dma, .bsu]
  | .grantChangeEffect | .directCommitEffect => [.fab, .mem, .cl, .ten, .grants, .host, .dma, .bsu, .tmr]
  | .zeroingDone _ | .imageUnload _ => [.fab, .lnk, .mem, .cells, .ten, .host, .bsu, .tmr]
  | .leaseExpiry _ | .leaseRevokeEffect => [.ten, .grants, .host, .bsu]
  | .partCountHi _ _ | .partCheckDone | .partSync _ | .partCancel _ => [.grants]
  | .bucketSegmentsCurrent _ => [.fab, .ten]
  | .clusterArm _ => [.cl, .ten]
  | .programCompletionCheck _ => [.fab, .cl, .ten, .host, .dma]
  | .suspendEffect _ => [.fab, .cl, .ten, .host]
  | .resumeEffect _ => [.fab, .cl, .ten, .host, .bsu]
  | .tenancyResetEffect | .flrComplete _ => [.fab, .lnk, .mem, .cl, .ten, .host, .dma, .bsu, .tmr]
  | .islandPowerOffEffect => [.clk, .fab, .mem, .cells, .cl, .ten, .host, .dma, .bsu]
  | .islandPowerOnEffect => [.clk, .mem, .cells, .cl, .host]
  | .dmaDescriptor _ _ | .dmaReadDeparture _ _ | .dmaWriteArrival _ _ => [.whl, .fab, .ten, .host, .dma]
  | .dmaReadCompletion _ _ _ _ _ _ => [.dma]
  | .dmaWriteShort _ _ => [.whl, .dma]
  | .dmaHostWrite _ _ => [.host, .dma]
  | .completionTimeout _ | .pcieErrorReceived _ => [.ten, .host, .dma, .boot, .mail]
  | .functionLevelReset _ | .vfEnableClear => [.ten, .host, .dma]
  | .bsuRecordFlit _ _ | .bsuDrainLine _ _ => [.whl, .fab, .ten, .host, .bsu]
  | .bsuNop _ | .bsuCtx _ | .bsuByp _ | .bsuTerm _ | .bsuSym _ | .bsuLit _ | .bsuFrameStart _ | .bsuSegStart _ | .bsuEntry _
    | .bsuSegEnd _ | .bsuFrameEnd _ | .bsuDrain _ | .bsuReset _ _ | .bsuConfig _ => [.ten, .host, .bsu]
  | .timerStep _ _ => [.whl, .ten, .host, .tmr]
  | .timerStart _ => [.whl, .host, .tmr]
  | .timerStartMissed | .timerProgram _ | .timerStartGroup _ => [.host, .tmr]
  | .cmpLoWrite _ _ _ | .cmpHiWrite _ _ _ | .tmrGstart _ _ => [.tmr]
  | .passedCompareFire _ => [.ten, .host, .tmr]
  | .bridgeAddr _ | .jtagExtest _ _ | .jtagTapReset => [.board]
  | .bridgeData _ _ | .jtagDebugUpdate _ _
    => [.clk, .whl, .fab, .lnk, .mem, .cells, .cl, .ten, .grants, .host, .tmr, .boot, .board, .mail]
  | .smbAlertResponse => [.host, .board]
  | .queryDevice _ => [.mem, .host]
  | .imageLoad _ => [.fab, .lnk, .mem, .cells, .cl, .ten, .host]
  | .bufferWrite _ | .bufferFill _ => [.mem, .cells, .ten, .host]
  | .bufferRead _ | .bufferDigest _ => [.mem, .ten, .host]
  | .replayStart _ => [.mem, .cells, .ten, .host, .bsu]
  | .bsuBind _ | .bsuFlush _ => [.host, .bsu]
  | .partitionStage _ => [.grants, .host]
  | .firmwareStage _ => [.host, .boot, .flash]

end Sys2Proof.Machine
end

