-- ==== Sys2Proof/Certificates/Slice0/Obligations.lean ====
section
/-!
DEFINITION. The statements for the provers: what the commands do, family by family, by the numbered rules of the spec.
-/
open Sys2Proof Sys2Proof.Machine

/-! ## The queue, the step and the loss of a clock -/

/-- A step takes the command at the front of the queue and runs it with the rest (derived; the model's queue). -/
def Obligations.StepRunsFront : Prop :=
  ∀ (c : Instr) (rest : List Instr) (d : Dev),
    step { pending := c :: rest, dev := d } = exec c { pending := rest, dev := d }

/-- With nothing waiting, the block idles (DESIGN CHOICE, log entry 1). -/
def Obligations.EmptyQueueIdles : Prop := ∀ d : Dev, step { pending := [], dev := d } = .next { pending := [], dev := d }

/-- 02 R74, 22 R739: every command answers a next state while the device promises its behaviour, and no command ever
touches the queue. -/
def Obligations.EveryCommandAnswers : Prop :=
  (∀ (c : Instr) (s : State), Promises s → ∃ t, exec c s = .next t) ∧
  ∀ (c : Instr) (s t : State), exec c s = .next t → t.pending = s.pending

/-- 02 R74: after a clock loss in ACTIVE nothing is promised until the next chip reset, apart from latching the flags of
Table CLK-7. The model says so by a stop: the three commands that reset the chip and the two that report a clock loss act, and every other stops. -/
def Obligations.LostUntilReset : Prop :=
  (∀ s : State, s.dev.boot.state = .active → ∃ t, exec .refclkLost s = .next t ∧ t.dev.boot.lost = true ∧ t.dev.boot.refLoss = true) ∧
  (∀ (s : State) (p : Fin 6), s.dev.boot.state = .active → (pllOf s.dev p).locked = true →
    ∃ t, exec (.pllLockLost p) s = .next t ∧ t.dev.boot.lost = true) ∧
  ∀ (c : Instr) (s : State), s.dev.boot.lost = true →
    (∀ cause cut, c = .chipReset cause cut → ∃ t, exec c s = .next t ∧ t.dev.boot.lost = false) ∧
    (∀ k cut, c = .linkDrivenReset k cut → ∃ t, exec c s = .next t ∧ t.dev.boot.lost = false) ∧
    (∀ cut, c = .powerLoss cut → ∃ t, exec c s = .next t ∧ t.dev.boot.lost = false) ∧
    (c = .refclkLost → ∃ t, exec c s = .next t ∧ t.dev.boot.lost = true ∧ t.dev.boot.refLoss = true) ∧
    (∀ p, c = .pllLockLost p → ∃ t, exec c s = .next t ∧ t.dev.boot.lost = true) ∧
    ((∀ cause cut, c ≠ .chipReset cause cut) → (∀ k cut, c ≠ .linkDrivenReset k cut) → (∀ cut, c ≠ .powerLoss cut) →
      c ≠ .refclkLost → (∀ p, c ≠ .pllLockLost p) → exec c s = .fault .nothingPromised)

/-! ## Invariant -/

/-- Memory and the grants in force have their canonical form right after reset, and the fuse map is one that 01 R31 to R33
give a grade. -/
def Obligations.ResetInv : Prop := Inv State.reset ∧ GrantsInv State.reset ∧ fuseMapOk State.reset.dev.fuse = true

/-- Every step keeps memory in its canonical form (06 R224, R241: a byte that nothing has written reads as 0), and the fuse
map of a part's grade (01 R31 to R33). -/
def Obligations.StepKeepsInv : Prop :=
  ∀ s t : State, step s = .next t →
    (Inv s → Inv t) ∧ (fuseMapOk s.dev.fuse = true → fuseMapOk t.dev.fuse = true)

/-- Every step keeps the records in force and those of PEND in order, one for each tenancy that is not vacant (14 R478; 23 R766). -/
def Obligations.StepKeepsGrants : Prop := ∀ s t : State, GrantsInv s → step s = .next t → GrantsInv t

/-! ## Reset, boot and the states of the device (20) -/

/-- 20 R690, R691, R692; 19 R659; 20 R708; 02 R74: what a chip reset leaves, from every source; what the two clock
losses latch. They act in every state. -/
def Obligations.ResetsAndLosses : Prop :=
  ∀ s : State,
    (∀ (cause : Fin 6) (cut : Bool), ∃ t, exec (.chipReset cause cut) s = .next t ∧ t.pending = s.pending ∧
      AfterReset cause.val s.dev t.dev ∧ (cause ≠ 0 → alwaysOn t.dev = alwaysOn s.dev)) ∧
    (∀ (k : Fin 4) (cut : Bool), ∃ t, exec (.linkDrivenReset k cut) s = .next t ∧ t.pending = s.pending ∧
      AfterReset (2 + k.val) s.dev t.dev ∧ alwaysOn t.dev = alwaysOn s.dev) ∧
    (∀ cut : Bool, ∃ t, exec (.powerLoss cut) s = .next t ∧ t.pending = s.pending ∧
      AfterReset 0 s.dev t.dev ∧ alwaysOn t.dev = (false, false, false, 0, false)) ∧
    (∃ t, exec .refclkLost s = .next t ∧ t.pending = s.pending ∧ t.dev.boot.refLoss = true ∧
      (s.dev.boot.state = .active → t.dev.boot.lost = true)) ∧
    (∀ p : Fin 6, (pllOf s.dev p).locked = true → ∃ t, exec (.pllLockLost p) s = .next t ∧ t.pending = s.pending ∧
      (p = 0 → t.dev.boot.fabLoss = true) ∧ (p = 1 → t.dev.boot.ctlLoss = true) ∧
      (2 ≤ p.val → t.dev.boot.colLoss = s.dev.boot.colLoss ||| BitVec.ofNat 4 (2 ^ (p.val - 2))) ∧
      (s.dev.boot.state = .active → t.dev.boot.lost = true))

/-- 20 R673 to R680; 19 R641; 02 R69 to R73: from the release of reset to HELD, each event completes where the spec lets it
happen; while a PLL is gated, nothing happens in its domain. -/
def Obligations.BootCompletes : Prop :=
  ∀ d : Dev, d.boot.lost = false →
    (∀ straps : BitVec 4, d.boot.inReset = true → Answers (.resetRelease straps) d fun e =>
      e.boot.inReset = false ∧ e.boot.straps = straps ∧ e.clk.pll = [] ∧ e.boot.lost = straps.getLsbD 3) ∧
    (∀ (p : Fin 6) (r : Nat), d.boot.inReset = false → (pllOf d p).locked = false → 256 ≤ r → d.clk.refclk ≤ r →
      Answers (.pllLockConfirm { pll := p, cycle := r }) d fun e => (pllOf e p).locked = true ∧ (pllOf e p).lockedAt = r) ∧
    (∀ (p : Fin 6) (r : Nat), (pllOf d p).locked = true → d.clk.refclk ≤ r → Answers (.pllUngate { pll := p, cycle := r }) d fun e =>
      if (pllOf d p).lockedAt + 4096 ≤ r then (pllOf e p).ungated = true else e = d) ∧
    (fabricUp d = false → (∀ (i : Fin 32) (t : Nat), Answers (.switchTick i t) d fun e => e = d) ∧
      (∀ (c : Fin 512) (t : Nat), Answers (.landingWrite c t) d fun e => e = d) ∧ (Answers .wheelStart d fun e => e = d) ∧
      (∀ (l : Fin 16) (k : Nat), Answers (.linkFrameTransmit l k) d fun e => e = d) ∧
      ∀ (k : Fin 32) (t : Nat), Answers (.dmaReadDeparture k t) d fun e => e = d) ∧
    (controlUp d = false → (∀ r : Fin 1024, (Answers (.commandStart r) d fun e => e = d) ∧ Answers (.statusReply r) d fun e => e = d) ∧
      (Answers .heldEntry d fun e => e = d) ∧
      ∀ (fn : Fin 64) (r : Fin 1024) (v : W32), Answers (.doorbellCmdTail fn r v) d fun e => e = d) ∧
    (∀ (c : Fin 512) (p : Fin 64) (k : Fin 1024) (m : Nat), columnUp c d = false → Answers (.columnSlot c p k m) d fun e => e = d) ∧
    (∀ (rate width : Fin 4) (flit : Bool), d.boot.inReset = false → Answers (.hostLinkUp rate width flit) d fun e => e.boot.linkUp = true ∧ e.boot.rate = rate ∧ e.boot.width = width) ∧
    (d.whl.running = false → fabricUp d = true → (∀ p < 6, p ≠ 1 → (pllOf d p).ungated = true) → Answers .wheelCounterStart d fun e => e.whl.running = true ∧ e.whl.n = 0 ∧ e.whl.start = d.whl.now) ∧
    (∀ mode : Option (BitVec 5), d.boot.state = .powerup → d.boot.inReset = false → (pllOf d 1).ungated = true →
      Answers (.bootEntry mode) d fun e => e.boot.state = .boot ∧
        (∀ x, mode = some x → e.boot.voutExp = x.toInt) ∧ (mode = none → e.boot.pmbusFault = true)) ∧
    (∀ f : Firmware, d.boot.state = .boot → d.boot.firmware = none → d.boot.toHost = false → d.flash.present = true →
      flashFirmware d.flash = some f → controlUp d = true → Answers (.firmwareBootLoad true) d fun e =>
        e.boot.firmware = some f) ∧
    (hostOpen d 0 = true → d.boot.state = .boot → d.boot.toHost = true → (∀ f ∈ d.host.fetches, f.why ≠ .boot) →
      Answers (.mbInGo 0 1) d fun e => ∃ f ∈ e.host.fetches,
        f.why = .boot ∧ f.addr = d.mail.fwAddr.toNat ∧ f.len = d.mail.fwLen.toNat) ∧
    (d.whl.running = true → fabricUp d = true → d.mem.initDone = false → Answers .memoryInitDone d fun e =>
      e.mem.initDone = true ∧ ∀ a, byteAt e a = 0) ∧
    (d.boot.state = .boot → controlUp d = true → d.boot.firmware.isSome = true → d.mem.initDone = true →
      Answers .heldEntry d fun e => e.boot.state = .held)

/-- 20 R671, R682, R687, R700, R707: the seal, DRAIN, HALTED and the thermal trip. -/
def Obligations.DeviceStates : Prop :=
  ∀ d : Dev, d.boot.lost = false →
    (∀ (at_ : Nat) (b : List Byte) (cmd : Option Nat), d.boot.sealPend = some (at_, b, cmd) → d.boot.state = .held →
      countDue d.whl at_ = true → controlUp d = true → Answers .configSealEffect d fun e =>
        e.boot.state = .active ∧ e.boot.sealPend = none ∧ e.whl.w = blkField b 16 4 ∧ e.whl.g = blkField b 20 1 ∧
        e.whl.n = 0 ∧ e.power.cap = blkField b 44 2 ∧ e.board.holdN = false) ∧
    (hostOpen d 0 = true → Answers (.drainReqSet 0) d fun e => e.boot.drainReq = true) ∧
    (hostOpen d 0 = true → Answers (.drainReqClear 0) d fun e => e.boot.drainReq = false) ∧
    (d.boot.state = .drain → controlUp d = true → d.span.joined = false → (∀ i < 32, (tenOf d i).st = .vacant) →
      Answers .drainToHalted d fun e => e.boot.state = .halted ∧
        ∀ i < 32, (islOfDev e i).oscOn = false) ∧
    (Answers .thermalTrip d fun e => e.boot.trip = true ∧ e.board.tripN = true ∧
      (d.boot.state ≠ .powerup → e.boot.state = .halted ∧ ∀ i < 32, (islOfDev e i).oscOn = false))

/-- 20 R701, R705, R707; 22 R744 to R747: samples, temperatures and PMBus. -/
def Obligations.PowerAndHeat : Prop :=
  ∀ d : Dev, ControlUp d →
    (∀ isl col : List Int, firmwareRuns d = true → Answers (.thermalSample isl col) d fun e =>
      e.power.temp = listTab isl ∧ e.power.colTemp = listTab col ∧
      e.power.thermWarn = (isl ++ col).any fun x => decide (800 ≤ x)) ∧
    (∀ w : BitVec 16, firmwareRuns d = true → Answers (.powerSample w) d fun e =>
      e.power.samples = (w.toNat :: d.power.samples).take 10) ∧
    (∀ (raw : BitVec 16) (v : Nat), d.power.vTarget = some v → firmwareRuns d = true →
      Answers (.readVoutPoll raw) d fun e =>
        e.host.posted = d.host.posted ++ [.pmb 0x40 0x8B []] ∧
        e.power.vTarget = (if voutReached d.boot.voutExp raw.toNat v then none else some v)) ∧
    (∀ why : Fin 3, d.boot.inReset = false → d.boot.state ≠ .powerup → (why = 2 → d.power.vTarget.isSome = true) →
      Answers (.pmbusFault why) d fun e => e.boot.pmbusFault = true ∧
        e.board.smbAlert = true ∧ e.power.vcore = d.power.vcore ∧
        ∀ i < 32, (islOfDev e i).limit ≤ codeUnder d.power.vcore) ∧
    (∀ st0 st1 : BitVec 16, firmwareRuns d = true → Answers (.pmbAlert st0 st1) d fun e =>
      e.power.statusLog = d.power.statusLog ++ [(st0.toNat, st1.toNat)])

/-! ## Islands, their clocks and droop (02, 21 R731, 23 R773) -/

/-- 02 R55: a setpoint code above the ceiling code 304 is clamped to it and read back so. 02 R56: the current code moves toward its
effective target by at most 4 codes a step and never past it. An island's supply, oscillator, trim, droop and setpoint. -/
def Obligations.IslandClocks : Prop :=
  ∀ d : Dev, d.boot.lost = false → ∀ i : Fin 32,
    ((islOfDev d i).supplyOn = true → Answers (.islandSupplyGood i) d fun e => (islOfDev e i).supplyGood = true ∧
      ((islOfDev d i).supplyGood = false → (islOfDev e i).goodAt = d.whl.now)) ∧
    ((islOfDev d i).supplyOn = true → (islOfDev d i).supplyGood = true → (islOfDev d i).oscOn = false →
      d.whl.running = true → d.boot.state ≠ .halted → Answers (.islandOscStart i) d fun e =>
        if (islOfDev d i).goodAt + 1024 ≤ d.whl.now then (islOfDev e i).oscOn = true ∧ (islOfDev e i).current = 192 ∧ (islOfDev e i).trim = 0
        else e = d) ∧
    (∀ slow : Option Bool, (islOfDev d i).oscOn = true → Answers (.trackingWindow i slow) d fun e =>
      if (islOfDev d i).window + 1024 ≤ d.whl.now then
        (islOfDev e i).current = (islOfDev d i).current ∧ d.whl.now < (islOfDev e i).window + 1024 ∧
          -(Config.fineSteps : Int) ≤ (islOfDev e i).trim ∧ (islOfDev e i).trim ≤ Config.fineSteps ∧
          (304 ≤ (islOfDev d i).current → (islOfDev e i).trim ≤ 0) ∧
          ((islOfDev d i).current < 304 → slow = some true → -(Config.fineSteps : Int) ≤ (islOfDev d i).trim →
            (islOfDev d i).trim < Config.fineSteps → (islOfDev e i).trim = (islOfDev d i).trim + 1)
      else e = d) ∧
    ((islOfDev d i).oscOn = true → slewReady d.whl.now (islOfDev d i) = true → Answers (.slewStep i) d fun e =>
      (304 ≤ (islOfDev e i).current → (islOfDev e i).trim ≤ 0) ∧
      (effTarget d i < (islOfDev d i).current → (islOfDev e i).current = max ((islOfDev d i).current - 4) (effTarget d i)) ∧
      ((islOfDev d i).current < effTarget d i → (islOfDev e i).current = min ((islOfDev d i).current + 4) (effTarget d i)) ∧
      ((islOfDev d i).current = effTarget d i → (islOfDev e i).current = effTarget d i)) ∧
    (∀ n : Nat, (islOfDev d i).stretch + n < 2 ^ 32 → Answers (.droopStretch i n) d fun e => (islOfDev e i).stretch = (islOfDev d i).stretch + n) ∧
    ((islOfDev d i).droop = false → Answers (.droopExcess i) d fun e => (islOfDev e i).droop = true ∧
      ∀ t < 32, (∃ c < 16, recHasCluster (grantOf d t) (16 * i + c) = true) → (tenOf d t).stopDue = false →
        (tenOf e t).fault = 0x09 ∧ (tenOf e t).stopDue = true) ∧
    (∀ v : W32, hostOpen d 0 = true → v.toNat % 512 ≥ 192 → islandMin d i ≤ v.toNat % 512 →
      Answers (.setpointWrite 0 i v) d fun e => (islOfDev e i).setpoint = min (v.toNat % 512) 304 ∧
        (booted d = true → readReg 0 false (0x50000 + 4 * i) e % 512 = min (v.toNat % 512) 304)) ∧
    (∀ v : W32, hostOpen d 0 = true → v.toNat % 512 ≥ 192 → v.toNat % 512 < islandMin d i →
      Answers (.setpointWrite 0 i v) d fun e => (islOfDev e i).setpoint = (islOfDev d i).setpoint ∧ (islOfDev e i).refused = true) ∧
    (∀ mask present : W32, hostOpen d 0 = true → mask.getLsbD i = true → present.getLsbD i = false →
      Answers (.droopFlagClear 0 mask present) d fun e => (islOfDev e i).droop = false)

/-! ## The wheel, slips and spans (03; 05 R194; 15 R539) -/

/-- 03 R79: the phase of a tick in the wheel. 03 R85: GC at a tick of a counted wheel. A counted wheel starts, its phases
start in order, and its guard is chosen. -/
def Obligations.WheelTurns : Prop :=
  (∀ (w : Wheel) (p k : Nat), 64 ≤ w.w → w.w % 64 = 0 → p < 64 → k < w.w →
    (phaseOf w k = p ↔ p * w.w / 64 ≤ k ∧ k ≤ (p + 1) * w.w / 64 - 1)) ∧
  (∀ (w : Wheel) (k : Nat), w.slip = false → k < w.w → gcOf { w with now := w.start + k } = w.n * w.w + k) ∧
  ∀ d : Dev, FabricUp d → d.whl.running = true →
    (d.whl.slip = false → slipDue d = false → formDue d = false → Answers .wheelStart d fun e =>
      e.whl.n = d.whl.n + 1 ∧ e.whl.start = d.whl.start + d.whl.w + d.whl.guardNext.getD d.whl.g ∧ e.whl.slip = false ∧
        e.whl.phase = 0 ∧ e.whl.guardNext = none) ∧
    (∀ p : Fin 64, d.whl.phase = p → Answers (.phaseStart p) d fun e =>
      e.whl.phase = p + 1 ∧ e.whl.n = d.whl.n ∧ e.whl.now = max d.whl.now (d.whl.start + p * (d.whl.w / 64))) ∧
    (d.whl.guardNext = none → d.whl.syncMode ≠ .sink → follower d.span = false → Answers .guardApplied d fun e =>
      e.whl.guardNext = some d.whl.g) ∧
    (∀ p : Nat, d.whl.guardNext = none → d.whl.syncMode ≠ .sink → d.whl.slip = false → follower d.span = true → d.span.state = .locked →
      d.span.predict16 = some p → Answers .guardApplied d fun e =>
        e.whl.guardNext = some ((d.whl.g : Int) + max (-8) (min 8 (correction d.whl p))).toNat)

/-- 03 R115: a slip counts in the SPAN block and in each tenancy that uses the span. It lies between two counted wheels, and past the
limit faults the span's tenancies. -/
def Obligations.Slips : Prop :=
  ∀ d : Dev, FabricUp d →
    (d.whl.running = true → d.whl.slip = false → slipDue d = true → Answers .slipInsert d fun e =>
      e.whl.slip = true ∧ e.whl.n = d.whl.n ∧ e.whl.start = d.whl.start + d.whl.w + d.whl.guardNext.getD d.whl.g ∧
        e.span.slipsTotal = satInc d.span.slipsTotal ∧ e.span.slipsWindow = satInc (spanWheelStart d.whl d.whl.n d.span).slipsWindow ∧
        ∀ t < 32, (tenOf e t).slips = (tenOf d t).slips + (if usesSpan (tenOf d t) = true then 1 else 0)) ∧
    (d.whl.running = true → d.whl.slip = true → Answers .slippedWheelEnd d fun e => e.whl.slip = false ∧ e.whl.n = d.whl.n + 1 ∧
      (d.span.state = .slipping → d.span.toForm = false → e.span.state = .locked)) ∧
    (∀ x : Nat, d.span.limitAt = some x → x < d.whl.n * d.whl.w → Answers .slipLimit d fun e =>
      e.span.limitAt = none ∧ ∀ t < 32, usesSpan (tenOf d t) = true → (tenOf d t).stopDue = false →
        (tenOf e t).fault = 0x04 ∧ (tenOf e t).stopDue = true)

/-- 03 R93, R94: a marker is sent with the frame at tick 63 W / 64, and a reserved marker only counts as an error. -/
def Obligations.Markers : Prop :=
  ∀ d : Dev, FabricUp d → ∀ l : Fin 16,
    (d.span.joined = true → d.boot.state = .active → d.whl.phase = 64 → l.val ∈ spanLinks d.span →
      (lnkOf d l).state = .ready → (∀ f ∈ d.fab.flits, f.dest ≠ .linkTx l) → follower d.span = false →
      Answers (.wheelMarkerSend l) d fun e => ∃ f ∈ e.fab.flits, f.dest = .linkTx l ∧ f.due = d.whl.start + 63 * (d.whl.w / 64) ∧
        f.flit.ten = 63 ∧ f.flit.data = markerLine (ownMarker d)) ∧
    (∀ (at16 : Nat) (m : Line) (rest : List Line), (lnkOf (drainLink l (at16 / 16 + 6) d) l).markers = m :: rest →
      (markerOf m).reserved = true → Answers (.wheelMarkerReceive l at16) d fun e => (lnkOf e l).markers = rest ∧ e.span.errors = satInc d.span.errors ∧
        e.whl = d.whl) ∧
    (∀ (at16 : Nat) (m : Line) (rest : List Line), (lnkOf (drainLink l (at16 / 16 + 6) d) l).markers = m :: rest →
      (markerOf m).reserved = false → (markerOf m).kind = 1 → d.span.joined = true → l.val ∈ spanLinks d.span → follower d.span = true → (markerOf m).origin = d.span.masterRank →
      d.span.successor ≠ d.span.masterRank → d.span.kept = none →
      (d.span.lastSend.all fun q => q.1 != (markerOf m).originGc) = true →
      Answers (.wheelMarkerReceive l at16) d fun e => (lnkOf e l).markers = rest ∧ e.span.kept = some { marker := markerOf m, link := l, at16 := at16 } ∧
        e.span.newMaster = true ∧ e.span.successor = (markerOf m).successor)

/-- 03 R103 to R106, R109, R111; 05 R194; 15 R539: a span forms, loses its master, halts and is left. -/
def Obligations.SpanEvents : Prop :=
  ∀ d : Dev, FabricUp d →
    (follower d.span = true → d.span.ownRank = d.span.successor → 2 ≤ d.span.missedMaster →
      Answers .masterTakeover d fun e => e.span.masterRank = d.span.ownRank ∧ d.span.masterRank ∈ e.span.dead ∧ follower e.span = false) ∧
    (follower d.span = true → d.span.joined = true → (d.span.state = .locked ∨ d.span.state = .slipping) → d.span.d + 2 ≤ d.span.missedAll →
      Answers .markerLossHalt d fun e => e.span.halting = true ∧ (atBoundary d = true → e.span.haltDue = true)) ∧
    (d.span.state = .forming → follower d.span = false → (∀ l ∈ spanLinks d.span, (lnkOf d l).state = .ready) → formDue d = false →
      Answers .spanFormed d fun e => e.span.lockMark = true ∧ e.span.state = .forming) ∧
    (formDue d = true → d.whl.running = true → d.whl.slip = false →
      Answers .spanFormed d fun e => e.span.state = .locked ∧ e.span.joinCmd = none ∧
        e.whl.n = max (d.whl.n + 1) (d.span.stepTo / d.whl.w)) ∧
    (∀ p : Nat, d.span.state = .forming → follower d.span = true → d.span.stretched = false → sinkStart d = none →
      d.whl.guardNext = none → d.span.predict16 = some p →
      0 < d.whl.w + d.whl.g → Answers .formingStretch d fun e => e.span.stretched = true ∧ e.whl.stretches = satInc d.whl.stretches ∧
        ∃ x < d.whl.w + d.whl.g, e.whl.guardNext = some (d.whl.g + x)) ∧
    (d.span.state = .forming → 4096 ≤ d.span.formWheels → atBoundary d = true → Answers .formingTimeout d fun e =>
      e.span.joined = false ∧ e.span.ranks = [] ∧ e.span.state = .locked) ∧
    (d.span.haltDue = true → d.span.joined = true → (d.span.state = .locked ∨ d.span.state = .slipping) → atBoundary d = true → Answers .spanHalt d fun e =>
      e.span.state = .halted ∧ e.span.halting = false ∧ ∀ l ∈ spanLinks d.span, (lnkOf d l).state = .ready → (lnkOf e l).aborting = 64) ∧
    (∀ c : Cmd, c ∈ d.host.cmds → opcodeOf c = 0x501 → c.stage = .armed → countDue d.whl c.count = true →
      Answers .spanLeaveEffect d fun e => e.span.joined = false ∧ e.span.ranks = [] ∧ ∃ c' ∈ e.host.cmds, c'.id = c.id ∧ c'.stage = .done ∧ c'.status = 0)

/-- 03 R101, R102: the SYNC_IN pulse of a sink, its loss, and its disagreement with the markers. -/
def Obligations.SyncPulse : Prop :=
  ∀ d : Dev, FabricUp d → d.whl.syncMode = .sink →
    (∀ t : Nat, Answers (.syncInEdge t) d fun e => e.whl.syncSeen = true ∧ e.whl.syncStart = some (t + d.whl.syncDelay)) ∧
    (2 ≤ d.whl.syncMissed → Answers .syncLost d fun e => e.whl.syncLost = true ∧ e.whl.syncStart = none) ∧
    (2 ≤ d.whl.syncOff → Answers .syncDisagree d fun e => e.whl.syncDisagree = true ∧ (d.span.joined = true → (d.span.state = .locked ∨ d.span.state = .slipping) → e.span.halting = true))

/-! ## The fabric and the Indigo links (04, 05, 07 R266 to R269) -/

/-- 04 R137, R138, R147, R153, R155, R156: in every tick a switch empties its inputs. In a tick of the schedule each active
route word sends the flit at its input, or a void flit, to every output it names, in a slipped wheel those of PHASE_63 only; a
flit that no word takes is dropped and counted as unrouted. No other flit moves, and nothing else of the device changes. -/
def Obligations.SwitchTick : Prop :=
  ∀ (d : Dev) (i : Fin 32) (t : Nat), FabricUp d → d.whl.now ≤ t →
    (Answers (.switchTick i t) d fun e => e.whl = { d.whl with now := t } ∧
      (∀ y ∈ e.fab.flits, ∀ p, ¬(y.dest = .swIn i p ∧ y.due = t)) ∧
      (∀ y ∈ d.fab.flits, (∀ p, ¬(y.dest = .swIn i p ∧ y.due = t)) → ¬(y.dest = .ctl i ∧ y.due ≤ t) → y ∈ e.fab.flits) ∧
      e.fab.route = d.fab.route ∧ e.fab.phase = d.fab.phase ∧ e.cl = d.cl ∧ e.mem = d.mem ∧ e.grants = d.grants) ∧
    (d.fab.tableEcc = [] → scheduleTick d t = true → (((activeWords i (tickAt d.whl t) d).1.map fun x => rwIn x.2).Nodup) →
      Answers (.switchTick i t) d fun e => e.ten = d.ten ∧
        ∀ x ∈ (activeWords i (tickAt d.whl t) d).1, ∀ (p : Fin 28) (dst : Dest) (lat : Nat), bit (rwOut x.2) p = true →
          portDest i p = some (dst, lat) → (p.val < 16 → clusterDark d (16 * i + p) = false) →
            { dest := dst, due := t + lat, sw := t, flit := inputFlit d i (rwIn x.2) t x.1 } ∈ e.fab.flits) ∧
    (∀ (p : Nat) (x : Flight), d.fab.tableEcc = [] → (d.fab.flits.filter fun y => y.dest == .swIn i p && y.due == t) = [x] →
      (scheduleTick d t = true → ∀ w ∈ (activeWords i (tickAt d.whl t) d).1, rwIn w.2 ≠ p) →
      Answers (.switchTick i t) d fun e => x ∉ e.fab.flits ∧ e.ten = d.ten ∧
        (portCount e i p).unrouted = satInc (portCount d i p).unrouted) ∧
    (∀ x : Flight, (d.fab.flits.filter fun y => y.dest == .ctl i && decide (y.due ≤ t)) = [x] → (eccCheck x.flit).2 = .corrected →
      Answers (.switchTick i t) d fun e => x ∉ e.fab.flits ∧
        (∀ y ∈ e.fab.flits, ¬(y.dest = .ctl i ∧ y.due ≤ t)) ∧ (portCount e i 24).eccCorr = satInc (portCount d i 24).eccCorr)

/-- 07 R266 to R268: the next flit of a launch slot departs at its tick with its payload and tag; a header whose tick has passed
is discarded and counted, as is each flit whose tick lies past the wheel (log entry 98). -/
def Obligations.LaunchSlots : Prop :=
  ∀ (d : Dev) (cl : Fin 512) (ls : Fin 8) (t : Nat) (h : LaunchHdr), FabricUp d → d.whl.slip = false → d.whl.now ≤ t →
    tickAt d.whl t < d.whl.w → (clOf d cl).tvHeld = false → lsOf (clOf d cl) ls = .filled h → h.stamp + 4 ≤ t →
    (∀ p : Payload, reach (h.lap, h.tick + h.next) (d.whl.n % 4, tickAt d.whl t) = .current → h.payloads[h.next]? = some p →
      payloadReady h h.next t = true → Answers (.launchDeparture cl ls t) d fun e =>
        { dest := .swIn (cl / 16) (cl % 16), due := t + 2, sw := t + 2, flit := sealFlit
            { data := p.data, ten := BitVec.ofNat 6 ((holderOf d cl).getD 63), tag := tagAt h.tag h.next, late := false, poison := p.poison, ecc := 0 } } ∈ e.fab.flits ∧
        (h.n ≤ h.next + 1 → lsOf (clOf e cl) ls = .free ((clOf d cl).cyc + 4)) ∧
        (h.next + 1 < h.n → h.tick + h.next + 1 < d.whl.w → lsOf (clOf e cl) ls = .filled { h with next := h.next + 1, accepted := true })) ∧
    (h.tick < d.whl.w → h.accepted = false → reach (h.lap, h.tick) (d.whl.n % 4, tickAt d.whl t) = .passed → Answers (.launchHeaderLate cl ls t) d fun e =>
      lsOf (clOf e cl) ls = .free ((clOf d cl).cyc + 4) ∧ (clOf e cl).lsLate = satAdd (clOf d cl).lsLate 1 ∧ e.fab = d.fab) ∧
    (d.whl.w ≤ h.tick → Answers (.launchDeparture cl ls t) d fun e =>
      lsOf (clOf e cl) ls = .free ((clOf d cl).cyc + 4) ∧ (clOf e cl).lsLate = satAdd (clOf d cl).lsLate h.n ∧ e.fab = d.fab)

/-- 04 R149 to R152, R158: what a landing buffer makes of the flit that reaches it. -/
def Obligations.Landing : Prop :=
  ∀ (d : Dev) (cl : Fin 512) (t : Nat) (x : Flight) (h : Nat), FabricUp d → d.whl.now ≤ t →
    d.fab.flits.find? (fun y => y.dest == .landing cl && y.due == t) = some x → eccCheck x.flit = (x.flit, .clean) → holderOf d cl = some h →
    (x.flit.ten.toNat = h → x.flit.late = false →
      (lbOf (clOf d cl) (32 * (x.flit.tag.toNat / 128) + x.flit.tag.toNat % 32)).full = false → Answers (.landingWrite cl t) d fun e =>
        lbOf (clOf e cl) (32 * (x.flit.tag.toNat / 128) + x.flit.tag.toNat % 32) =
          { full := true, lap := x.flit.tag.toNat / 32 % 4, poison := x.flit.poison, tag := x.flit.tag, data := x.flit.data, tick := t, cyc := (clOf d cl).cyc } ∧
        x ∉ e.fab.flits) ∧
    (x.flit.ten.toNat = h → x.flit.late = true → (tenOf d h).stopDue = false → Answers (.landingWrite cl t) d fun e =>
      (tenOf e h).fault = 0x03 ∧ (tabGet {} e.fab.clCtr cl).voidRx = satInc (tabGet ({} : FabCtr) d.fab.clCtr cl).voidRx) ∧
    (x.flit.ten.toNat ≠ h → x.flit.ten.toNat < 32 → (tenOf d x.flit.ten.toNat).stopDue = false → Answers (.landingWrite cl t) d fun e =>
      (tenOf e x.flit.ten.toNat).fault = 0x02 ∧ (tabGet {} e.fab.clCtr cl).tagMismatch = satInc (tabGet ({} : FabCtr) d.fab.clCtr cl).tagMismatch ∧
        e.cl = d.cl) ∧
    (x.flit.ten.toNat = h → x.flit.late = false →
      (lbOf (clOf d cl) (32 * (x.flit.tag.toNat / 128) + x.flit.tag.toNat % 32)).full = true → Answers (.landingWrite cl t) d fun e =>
        e.cl = d.cl ∧ e.ten = d.ten ∧ x ∉ e.fab.flits ∧
          (tabGet {} e.fab.clCtr cl).lbOverwrite = satInc (tabGet ({} : FabCtr) d.fab.clCtr cl).lbOverwrite) ∧
    (x.flit.ten = 63 → h < 32 → Answers (.landingWrite cl t) d fun e => e.cl = d.cl ∧ e.ten = d.ten ∧ x ∉ e.fab.flits ∧
      (tabGet {} e.fab.clCtr cl).tagMismatch = satInc (tabGet ({} : FabCtr) d.fab.clCtr cl).tagMismatch)

/-- 05 R160 to R167, R183 to R192, R177; 02 R63, R65; 11 R412: frames and fillers sent, frames received, replays, the release store and the lanes of a link. -/
def Obligations.LinkTraffic : Prop :=
  ∀ (d : Dev) (l : Fin 16), FabricUp d → (lnkOf d l).state = .ready → (lnkOf d l).aborting = 0 →
    (∀ k : Nat, d.whl.running = true → 8 * k + 8 ≤ d.whl.w → d.fab.flits = [] → (lnkOf d l).nakTx = [] → (lnkOf d l).absentTx = [] →
      (lnkOf d l).nakRx = [] → Answers (.linkFrameTransmit l k) d fun e =>
        e.host.posted = d.host.posted ++
          [.frame l (toLanes (lnkOf d l).width (lnkOf d l).laneMap (frameSymbols (lnkOf d l).width (fcfBase d k) []))]) ∧
    (∀ k : Nat, d.whl.running = true → 8 * k ≤ d.whl.w + d.whl.guardNext.getD d.whl.g → d.whl.w + d.whl.guardNext.getD d.whl.g < 8 * k + 8 →
      (d.whl.guardNext.getD d.whl.g) % 8 ≠ 0 → Answers (.linkFrameTransmit l k) d fun e => ∃ lanes, lanes.length = (lnkOf d l).width ∧
        e.host.posted = d.host.posted ++ [.filler l lanes (d.whl.guardNext.getD d.whl.g % 8 * 85)]) ∧
    (∀ (k : Nat) (f : Frame), replayFor d l k = some f → linkOpen d l = true → d.whl.slip = false → Answers (.replaySend l k) d fun e =>
      (∃ syms, e.host.posted = d.host.posted ++ [.frame l syms]) ∧
        (lnkOf e l).ctr.replaysSent = satInc (lnkOf d l).ctr.replaysSent ∧ ∀ y ∈ (lnkOf e l).nakRx, y.2 ≠ 8 * k) ∧
    (∀ (wheel index at16 : Nat) (lanes : List (List (BitVec 10))) (k : Link), lnkOf (drainLink l (at16 / 16) d) l = k →
      frameMessage k.width (fromLanes k.width k.rxOrder lanes) = none →
      Answers (.linkFrameReceive l wheel index false at16 lanes) d fun e =>
        (lnkOf e l).ctr.framesUncorr = satInc k.ctr.framesUncorr ∧ (lnkOf e l).uncorrRun = k.uncorrRun + 1 ∧
          (lnkOf e l).nakTx = k.nakTx ++ [(index, 4)]) ∧
    (∀ (wheel index at16 msg : Nat) (lanes : List (List (BitVec 10))) (f : Fcf) (k : Link), lnkOf (drainLink l (at16 / 16) d) l = k →
      (k.width = 4 ∨ k.width = 6 ∨ k.width = 8) → frameMessage k.width (fromLanes k.width k.rxOrder lanes) = some (msg, 0) →
      fcfOf (bits msg (544 * k.width + 239) (544 * k.width)) = some f → f.kind = 1 → f.naks = [] → f.absent = none →
      Answers (.linkFrameReceive l wheel index true at16 lanes) d fun e =>
        (f.valid = 0 → lnkOf e l = { k with uncorrRun := 0, ctr := { k.ctr with symbolsCorr := satAdd k.ctr.symbolsCorr 0 } }) ∧
        (f.valid = 1 → k.rxQ.length < 32 → (lnkOf e l).rxQ = k.rxQ ++
          [{ at_ := at16 / 16, gc := wheel * d.whl.w + 8 * index, flit := slotOfMsg k.width msg f.wheel f.index 0, bad := false }]) ∧
        (f.valid = 1 → 32 ≤ k.rxQ.length → (lnkOf e l).rxQ = k.rxQ ∧ (lnkOf e l).ctr.rxDiscard = satInc k.ctr.rxDiscard)) ∧
    (∀ (t ix : Nat) (r : RelEntry) (f : Flit) (lam : Nat), d.whl.now ≤ t → d.whl.slip = false → tickAt d.whl t < d.whl.w →
      (∀ x ∈ (lnkOf d l).rxQ, t - 1 < x.at_ + 6) → (lnkOf d l).release = [(ix, r)] → r.flit = some f → r.marked = false →
      tabGet none ((lnkOf d l).lambda.map fun x => (x.1, some x.2)) (phaseOfGc d.whl r.gc) = some lam →
      r.gc + lam = d.whl.n * d.whl.w + tickAt d.whl t → Answers (.releaseStoreRelease l t) d fun e =>
        (lnkOf e l).release = [] ∧ ∃ y ∈ e.fab.flits, y.dest = .swIn (islOfLink l) 20 ∧ y.due = t + 2 ∧ y.flit.data = f.data ∧ y.flit.late = f.late) ∧
    (∀ (t : Nat) (x : Flight), d.whl.start ≤ t → laneDrops d.whl (lnkOf d l) (tickAt d.whl t) = true → d.fab.flits = [x] → x.dest = .linkTx l →
      x.due = t → eccCheck x.flit = (x.flit, .clean) → x.flit.ten ≠ 63 → Answers (.laneDrop l t) d fun e =>
        e.fab.flits = [] ∧ (lnkOf e l).ctr.laneDrop = satAdd (lnkOf d l).ctr.laneDrop 1)

/-- 05 R170 to R174, R193, R195: a link trains from DETECT to READY, and loses READY. -/
def Obligations.LinkTraining : Prop :=
  ∀ (d : Dev) (l : Fin 16) (t : Nat), FabricUp d →
    (∀ lanes : Byte, (lnkOf d l).state = .detect → 4 ≤ popcount lanes.toNat → (lnkOf d l).entered + 8192 ≤ t →
      Answers (.linkDetectDone l t lanes) d fun e => (lnkOf e l).state = .equalise ∧ (lnkOf e l).lanesOk = lanes ∧ (lnkOf e l).entered = t) ∧
    (∀ (pass : Byte) (order : BitVec 24) (invert : Byte), (lnkOf d l).state = .equalise → pass &&& (lnkOf d l).lanesOk = (lnkOf d l).lanesOk →
      4 ≤ popcount (lnkOf d l).lanesOk.toNat → Answers (.linkEqualiseDone l t { pass := pass, order := order, invert := invert }) d fun e => (lnkOf e l).state = .align ∧
        (lnkOf e l).width = offer (popcount (lnkOf d l).lanesOk.toNat) (lnkOf d l).widthLimit ∧ (lnkOf e l).rxOrder = order ∧
        (lnkOf e l).laneMap = BitVec.ofNat 24 (laneMapOf (lnkOf d l).lanesOk.toNat (lnkOf e l).width)) ∧
    (∀ p : Line, (lnkOf d l).state = .align → (lnkOf d l).peerRec = some p → 64 ≤ (lnkOf d l).alignRun → Answers (.linkAlignDone l t true) d fun e =>
      (lnkOf e l).state = .measure ∧ (lnkOf e l).width = min (lnkOf d l).width (pkField p 3 1) ∧
        (lnkOf e l).peerSerial = BitVec.ofNat 64 (pkField p 4 8) ∧ (lnkOf e l).peerLink = pkField p 1 1 % 16) ∧
    (∀ (rtts : List Nat) (fine : Nat), (lnkOf d l).state = .measure → 64 ≤ (lnkOf d l).rtts.length → rtts = (lnkOf d l).rtts.take 64 →
      fine = peerFine (lnkOf d l) → Answers (.linkMeasureDone l t rtts fine) d fun e =>
      (lnkOf e l).state = .confirm ∧ fine ≤ (lnkOf e l).fFine ∧
        (∀ r ∈ rtts, (r - 1024) / 2 ≤ (lnkOf e l).fFine) ∧ (lnkOf e l).f = ceilDiv ((lnkOf e l).fFine + 4) 16) ∧
    ((lnkOf d l).state = .confirm → (lnkOf d l).confirmBad = false → confirmed (lnkOf d l) = true → peerConfirmed (lnkOf d l) = true →
      frameBoundary d.whl t = true → Answers (.linkConfirmDone l t true) d fun e => (lnkOf e l).state = .ready) ∧
    ((lnkOf d l).state = .confirm → (lnkOf d l).confirmBad = true → Answers (.linkConfirmDone l t false) d fun e =>
      if (lnkOf d l).width ≤ 4 then (lnkOf e l).state = .detect
      else (lnkOf e l).state = .align ∧ (lnkOf e l).width = if (lnkOf d l).width = 8 then 6 else 4) ∧
    ((lnkOf d l).state = .ready → Answers (.linkLoss l true) d fun e => (lnkOf e l).state = .lost ∧
      (lnkOf e l).ctr.losses = satInc (lnkOf d l).ctr.losses ∧ (d.span.joined = true → l.val ∈ spanLinks d.span →
        (d.span.state = .locked ∨ d.span.state = .slipping) → e.span.halting = true)) ∧
    ((lnkOf d l).state = .lost → (lnkOf d l).entered + 1024 ≤ t → Answers (.linkLostTimeout l t) d fun e =>
      (lnkOf e l).state = if (lnkOf d l).disabled then .off else .detect)

/-! ## Memory tiers (06) -/

/-- 06 R209, R215, R217, R221, R235: a column request executes in the slot it names, the slot of a phase whose mark the column
has observed and that no refresh burst covers: a write replaces the masked nibbles of its line and nothing
else, and a read waits 96 column cycles. -/
def Obligations.ColumnSlots : Prop :=
  ∀ (d : Dev) (cl : Fin 512) (ph : Fin 64) (slot : Fin 1024) (m : Nat) (q : ReqEntry), ColumnUp cl d → Memory.wf d.mem.cells = true →
    columnAccess d cl = none → slotAt d cl ph slot m = true →
    bit (tabGet 0 d.fuse.slots (islOf cl)) (slotOf cl) = true → (clOf d cl).tvHeld = false → tabGet [] d.mem.colQ cl = [q] → q.stamp + 4 ≤ m →
    q.ecc = .ok → tagDistance q.word (d.whl.n % 2) ph slot = 0 → bankFree d cl (reqLine q.word) m = true →
    (q.word.toNat % 4 = 1 → Answers (.columnSlot cl ph slot m) d fun e =>
      memRead e.mem.cells (colLineAddr cl (reqLine q.word)) 64 =
        (if q.mask = 0 then memRead d.mem.cells (colLineAddr cl (reqLine q.word)) 64
         else mergeBits (heldUnit d.mem 64 (colLineAddr cl (reqLine q.word))) q.data.toNat (nibbleBits 128 q.mask.toNat)) ∧
      (∀ a, a < colLineAddr cl (reqLine q.word) ∨ colLineAddr cl (reqLine q.word) + 64 ≤ a → byteAt e a = byteAt d a) ∧
      tabGet [] e.mem.colQ cl = []) ∧
    (q.word.toNat % 4 = 0 → Answers (.columnSlot cl ph slot m) d fun e =>
      tabGet [] e.mem.colRd cl = tabGet [] d.mem.colRd cl ++ [{ slotM := m, line := reqPane q.word, mask := q.mask
                                                                data := (readColLine d.mem cl (reqLine q.word)).data
                                                                poison := (readColLine d.mem cl (reqLine q.word)).poison }] ∧
      (∀ a, byteAt e a = byteAt d a) ∧ tabGet [] e.mem.colQ cl = [])

/-- 06 R205, R215, R221, R227 to R229: read data reaches the fill queue after 96 column cycles, a shelf port reads and writes
whole lines, and a refresh burst moves to the next row. -/
def Obligations.TierMoves : Prop :=
  ∀ (d : Dev), d.boot.lost = false →
    (∀ (cl : Fin 512) (m : Nat) (r : ColRd) (rs : List ColRd), columnUp cl d = true → tabGet [] d.mem.colRd cl = r :: rs → m = r.slotM + 96 →
      (tabGet [] d.mem.fillQ cl).length < 16 → Answers (.columnReadData cl m) d fun e =>
        tabGet [] e.mem.fillQ cl = tabGet [] d.mem.fillQ cl ++ [{ line := r.line, mask := r.mask, data := r.data, poison := r.poison, cyc := (clOf d cl).cyc }] ∧
        tabGet [] e.mem.colRd cl = rs) ∧
    (∀ (cl : Fin 512) (m t : Nat), columnUp cl d = true → d.whl.running = true → bit (tabGet 0 d.fuse.slots (islOf cl)) (slotOf cl) = true →
      (refreshMarks d.whl).find? (fun x => markSeen x m) = some t → tabGet 0 d.mem.mNow (quadOf cl) ≤ m →
      (tabHas d.mem.burst cl && (tabGet (0, 0) d.mem.burst cl).1 == t) = false → Answers (.refreshBurst cl m) d fun e =>
        tabGet 0 e.mem.refRow cl = (tabGet 0 d.mem.refRow cl + 1) % 1536 ∧ (∀ a, byteAt e a = byteAt d a) ∧
        ∀ (ph : Fin 64) (slot : Fin 1024) (k : Nat), m ≤ k → k < m + 3 → slotAt e cl ph slot k = false) ∧
    (∀ (cl : Fin 512) (m : Nat), columnUp cl d = true → (∀ t ∈ refreshMarks d.whl, markSeen t m = false) →
      Answers (.refreshBurst cl m) d fun e => e = d) ∧
    (∀ (cl : Fin 512) (f : FillEntry) (fs : List FillEntry), Memory.wf d.mem.cells = true → islandRuns cl d = true → tabGet [] d.mem.fillQ cl = f :: fs →
      f.cyc + 4 ≤ (clOf d cl).cyc → (∀ x ∈ (clOf d cl).fills, x.cyc = (clOf d cl).cyc → x.line % 16 ≠ f.line % 16) →
      (∀ i < 8, tabGet 0 d.mem.ecc (paneBase cl + 64 * f.line + 8 * i) = 0) → Answers (.paneFill cl) d fun e =>
        tabGet [] e.mem.fillQ cl = fs ∧
        memRead e.mem.cells (paneBase cl + 64 * f.line) 64 =
          mergeBits (memRead d.mem.cells (paneBase cl + 64 * f.line) 64) f.data.toNat (nibbleBits 128 f.mask.toNat) ∧
        ∀ a, a < paneBase cl + 64 * f.line ∨ paneBase cl + 64 * f.line + 64 ≤ a → byteAt e a = byteAt d a) ∧
    (∀ (q : Fin 4) (k : Fin 8) (t : Nat) (x : Flight) (w : W64) (line own : Nat), fabricUp d = true → Memory.wf d.mem.cells = true → d.whl.now ≤ t → d.fab.tableEcc = [] →
      d.fab.flits.find? (fun y => y.dest == .shelf q k && y.due == t) = some x → eccCheck x.flit = (x.flit, .clean) →
      x.flit.ten.toNat = ownerAt { d with whl := { d.whl with now := t } } (centreOf q) x.sw → x.flit.late = false →
      (shelfActive q k x.sw false { d with whl := { d.whl with now := t } }).1 = [(w, line, own)] → Answers (.shelfWrite q k t) d fun e =>
        memRead e.mem.cells (shelfAddr q line) 64 = x.flit.data.toNat ∧
        (∃ o ∈ e.mem.shelfOld, o.tick = t ∧ o.addr = shelfAddr q line ∧ o.data = BitVec.ofNat 512 (memRead d.mem.cells (shelfAddr q line) 64)) ∧
        (∀ a, a < shelfAddr q line ∨ shelfAddr q line + 64 ≤ a → byteAt e a = byteAt d a) ∧ x ∉ e.fab.flits) ∧
    (∀ (q : Fin 4) (k : Fin 8) (t : Nat) (w : W64) (line own : Nat), fabricUp d = true → d.whl.now ≤ t → d.fab.tableEcc = [] → (∀ o ∈ d.mem.shelfOld, o.tick ≠ t) →
      (∀ i < 8, tabGet 0 d.mem.ecc (shelfAddr q line + 8 * i) = 0) →
      (shelfActive q k (t + 6) true { d with whl := { d.whl with now := t } }).1 = [(w, line, own)] → Answers (.shelfRead q k t) d fun e =>
        (∃ y ∈ e.fab.flits, y.dest = .swIn (centreOf q) (20 + k) ∧ y.due = t + 6 ∧ y.flit.data = BitVec.ofNat 512 (memRead d.mem.cells (shelfAddr q line) 64)) ∧
        ∀ a, byteAt e a = byteAt d a) ∧
    (∀ (q : Fin 4) (k : Fin 8) (t : Nat) (w : W64) (line own : Nat) (o : ShelfOld), fabricUp d = true → d.whl.now ≤ t → d.fab.tableEcc = [] → (∀ i < 8, o.checks.getD i 0 = 0) →
      d.mem.shelfOld.find? (fun o => o.tick == t && o.addr == shelfAddr q line) = some o →
      (shelfActive q k (t + 6) true { d with whl := { d.whl with now := t } }).1 = [(w, line, own)] → Answers (.shelfRead q k t) d fun e =>
        (∃ y ∈ e.fab.flits, y.dest = .swIn (centreOf q) (20 + k) ∧ y.due = t + 6 ∧ y.flit.data = o.data) ∧ ∀ a, byteAt e a = byteAt d a)

/-! ## The cluster (07 to 10) -/

/-- 07 R246, R284, R249: BUNDLE_ISSUE runs the bundle at pc; a bundle without a wait or a loop passes on to the next one. -/
def Obligations.BundleIssues : Prop :=
  ∀ (d : Dev) (cl : Fin 512) (third : Bool), MayIssue d cl (fetchBundle (clOf d cl)) → (∀ i < 4, tabGet 0 (clOf d cl).storeEcc (4 * (clOf d cl).pc + i) = 0) →
    (∀ a b c e, (fetchBundle (clOf d cl)).c ≠ .loop a b c e) → (fetchBundle (clOf d cl)).c ≠ .endloop →
    (∀ a b c e, (fetchBundle (clOf d cl)).c ≠ .waittick a b c e) → (∀ a b c, (fetchBundle (clOf d cl)).c ≠ .waitcyc a b c) →
    Answers (.bundleIssue cl third) d fun e => Issued cl d e ∧ (clOf e cl).syncLate = third

/-- 07 R252; 21 R711: a bundle that fails an issue check does not issue, and its tenancy faults. -/
def Obligations.IllegalBundles : Prop :=
  ∀ (d : Dev) (cl : Fin 512) (third : Bool) (t : Nat), d.boot.lost = false → islandRuns cl d = true → (clOf d cl).run = .running →
    (∀ i < 4, tabGet 0 (clOf d cl).storeEcc (4 * (clOf d cl).pc + i) = 0) → cCheck d.whl.w (clOf d cl) (fetchBundle (clOf d cl)).c = false →
    (clOf d cl).tasks = [] → holderOf d cl = some t → (tenOf d t).stopDue = false →
    Answers (.bundleIssue cl third) d fun e => (clOf e cl).run = .faulted ∧ (clOf e cl).pc = (clOf d cl).pc ∧
      (tenOf e t).fault = 0x0E ∧ (tenOf e t).stopDue = true ∧ (∀ a, byteAt e a = byteAt d a) ∧ (clOf e cl).acc = (clOf d cl).acc ∧
      (clOf e cl).busyM = (clOf d cl).busyM ∧ (clOf e cl).busyV = (clOf d cl).busyV ∧ (clOf e cl).busyX = (clOf d cl).busyX ∧
      (clOf e cl).loops = (clOf d cl).loops ∧ ∀ later : Bool, Answers (.bundleIssue cl later) e fun f => clOf f cl = clOf e cl

/-- 07 R250, R262; 09 R335 to R342: a matrix instruction takes its engine for its cycles and marks its accumulators; one that
zeroes does so as it issues. -/
def Obligations.MatrixIssues : Prop :=
  ∀ (d : Dev) (cl : Fin 512) (acc : Fin 8),
    (∀ da db : Fin 16, MayIssue d cl { m := .mma da db acc } → Answers (.mma cl da db acc) d fun e =>
      Issued cl d e ∧ SameBusy false true true cl d e ∧ (clOf e cl).busyM = (clOf d cl).cyc + mmaOcc (clOf d cl) false da db ∧
        ∀ i < accTiles (mmaM (clOf d cl) da) (mmaN (clOf d cl) false db), isPending (clOf e cl) (.acc (acc + i)) = true) ∧
    (∀ (da db : Fin 16) (zero : Bool), MayIssue d cl { m := .mmat da db acc zero } → Answers (.mmat cl da db acc zero) d fun e =>
      Issued cl d e ∧ SameBusy false true true cl d e ∧ (clOf e cl).busyM = (clOf d cl).cyc + mmaOcc (clOf d cl) true da db ∧
        ∀ i < accTiles (mmaM (clOf d cl) da) (mmaN (clOf d cl) true db), isPending (clOf e cl) (.acc (acc + i)) = true) ∧
    (∀ (da db : Fin 16) (c : AccClass) (g : Nat), MayIssue d cl { m := .mmaz da db acc } → (clOf d cl).tasks = [] →
      pairing (dFmt (dOf (clOf d cl) da)) (dFmt (dOf (clOf d cl) db)) = some (c, g) → Answers (.mmaz cl da db acc) d fun e =>
      Issued cl d e ∧ (clOf e cl).busyM = (clOf d cl).cyc + mmaOcc (clOf d cl) false da db ∧
        ∀ i < accTiles (mmaM (clOf d cl) da) (mmaN (clOf d cl) false db),
          accOf (clOf e cl) (acc + i) = { cls := c } ∧ isPending (clOf e cl) (.acc (acc + i)) = true) ∧
    (∀ cnt cls : Fin 4, MayIssue d cl { m := .acczero acc cnt cls } → (clOf d cl).tasks = [] → Answers (.acczero cl acc cnt cls) d fun e =>
      Issued cl d e ∧ (clOf e cl).busyM = (clOf d cl).cyc + 1 ∧
        ∀ i < 2 ^ cnt.val, accOf (clOf e cl) (acc + i) = { cls := if cls = 1 then .exact else if cls = 2 then .ordered else .unset }) ∧
    (∀ (dd : Fin 16) (form : Fin 4), MayIssue d cl { m := .accload dd acc form } → Answers (.accload cl dd acc form) d fun e =>
      Issued cl d e ∧ SameBusy false true true cl d e ∧
        (clOf e cl).busyM = (clOf d cl).cyc + max (16 * accTiles (dRows (dOf (clOf d cl) dd)) (dCols (dOf (clOf d cl) dd)))
          (streamLen (decide (2 ≤ form.val)) (dOf (clOf d cl) dd)) ∧
        ∀ i < accTiles (dRows (dOf (clOf d cl) dd)) (dCols (dOf (clOf d cl) dd)), isPending (clOf e cl) (.acc (acc + i)) = true) ∧
    (∀ (dd : Fin 16) (wide sat : Bool) (rnd : Fin 4) (srq : Fin 8), MayIssue d cl { m := .accdrain dd acc wide rnd sat srq } → (clOf d cl).tasks = [] →
      Answers (.accdrain cl dd acc wide rnd sat srq) d fun e => Issued cl d e ∧ (clOf e cl).acc = (clOf d cl).acc ∧
        (clOf e cl).busyM = (clOf d cl).cyc + max (16 * accTiles (dRows (dOf (clOf d cl) dd)) (dCols (dOf (clOf d cl) dd)))
          (streamLen wide (dOf (clOf d cl) dd)))

/-- 10 R361, Table INV-3: every vector instruction that may issue takes the vector engine for its steps and leaves the other two. -/
def Obligations.VectorIssues : Prop :=
  ∀ (d : Dev) (c : Instr) (cl : Nat) (v : VSlot), vectorOf c = some (cl, v) → MayIssue d cl { v := v } → Answers c d fun e =>
    Issued cl d e ∧ SameBusy true false true cl d e ∧ (clOf e cl).busyV = (clOf d cl).cyc + vectorCycles (clOf d cl) v ∧
      (∀ f snap layer, v = .vdig f snap layer → isPending (clOf e cl) .dig = true)

/-- 09 R345 to R354: a transfer instruction takes its engine for the lines of its tile; LAUNCH takes its slot, and SGET and
LANDANY mark the scalar they will write. -/
def Obligations.TransferIssues : Prop :=
  ∀ (d : Dev) (cl : Fin 512),
    (∀ (dd : Fin 16) (win : Fin 8) (o c l : Fin 32), MayIssue d cl { x := .pload dd win o c l } → Answers (.pload cl dd win o c l) d fun e =>
      Issued cl d e ∧ SameBusy true true false cl d e ∧ (clOf e cl).busyX = (clOf d cl).cyc + streamLen false (dOf (clOf d cl) dd)) ∧
    (∀ (dd : Fin 16) (win : Fin 8) (o c l : Fin 32), MayIssue d cl { x := .pstore dd win o c l } → Answers (.pstore cl dd win o c l) d fun e =>
      Issued cl d e ∧ SameBusy true true false cl d e ∧ (clOf e cl).busyX = (clOf d cl).cyc + streamLen false (dOf (clOf d cl) dd)) ∧
    (∀ (sD sB : Fin 32) (imm : BitVec 22), MayIssue d cl { x := .sget sD sB imm } → Answers (.sget cl sD sB imm) d fun e =>
      Issued cl d e ∧ (clOf e cl).busyX = (clOf d cl).cyc + 1 ∧ isPending (clOf e cl) (.scalar sD) = true) ∧
    (∀ (dd : Fin 16) (ls : Fin 8) (a b : Fin 32) (n : Nat), MayIssue d cl { x := .launch dd ls a b } → (clOf d cl).tasks = [] →
      lsOf (clOf d cl) ls = .free n → n ≤ (clOf d cl).cyc → Answers (.launch cl dd ls a b) d fun e =>
      Issued cl d e ∧ lsOf (clOf e cl) ls = .taken ∧ (clOf e cl).busyX = (clOf d cl).cyc + streamLen false (dOf (clOf d cl) dd)) ∧
    (∀ (dd : Fin 16) (g : Fin 32) (nw : Bool), MayIssue d cl { x := .land dd g nw } → Answers (.land cl dd g nw) d fun e =>
      Issued cl d e ∧ (clOf e cl).busyX = (clOf d cl).cyc + streamLen false (dOf (clOf d cl) dd)) ∧
    (∀ (dd : Fin 16) (g : Fin 32) (mask : Byte) (sD : Fin 32), MayIssue d cl { x := .landany dd g mask sD } → Answers (.landany cl dd g mask sD) d fun e =>
      Issued cl d e ∧ isPending (clOf e cl) (.scalar sD) = true ∧ (clOf e cl).busyX = (clOf d cl).cyc + streamLen false (dOf (clOf d cl) dd))

/-- 09 R349; 06 R203, R239, R232: SPUT stores the low 32 bits of its scalar at its pane offset, and nothing else; the rest of the
protected 8-byte unit keeps what it reads as once corrected. -/
def Obligations.SputStores : Prop :=
  ∀ (d : Dev) (cl : Fin 512) (sS sB : Fin 32) (imm : BitVec 22) (off u : Nat), MayIssue d cl { x := .sput sS sB imm } → Memory.wf d.mem.cells = true →
    (clOf d cl).tasks = [] → (clOf d cl).fills = [] → off = sgetOff (clOf d cl) sB imm.toNat → off < 0x400000 → paneOk d cl (off / 64) = true →
    u = paneBase cl + off / 8 * 8 → Answers (.sput cl sS sB imm) d fun e => Issued cl d e ∧
      (∀ i < 4, byteAt e (paneBase cl + off + i) = BitVec.ofNat 8 (sNat (clOf d cl) sS / 256 ^ i)) ∧
      memRead e.mem.cells u 8 =
        mergeBits (heldUnit d.mem 8 u) (sNat (clOf d cl) sS <<< (off % 8 * 8)) (rangeMask (off % 8 * 8) (off % 8 * 8 + 32)) ∧
      (∀ a, a < u ∨ u + 8 ≤ a → byteAt e a = byteAt d a) ∧
      (tabGet 0 d.mem.ecc u = 0 → ∀ a, a < paneBase cl + off ∨ paneBase cl + off + 4 ≤ a → byteAt e a = byteAt d a)

/-- 09 R349; 07 R250: SGET, a HALT behind it and the cycles to its latency, load the 32-bit word at its pane offset into its
scalar. -/
def Obligations.SgetLoads : Prop :=
  ∀ (d : Dev) (cl : Fin 512) (sD sB : Fin 32) (imm : BitVec 22), MayIssue d cl { x := .sget sD sB imm } →
    (clOf d cl).tasks = [] → (clOf d cl).pend = [] → (clOf d cl).fills = [] → d.mem.ecc = [] → (clOf d cl).pc + 1 < (clOf d cl).bundleCount →
    (∀ x ∈ (clOf d cl).loops.head?, x.endIx ≠ (clOf d cl).pc + 1) →
    sgetOff (clOf d cl) sB imm.toNat < 0x400000 → paneOk d cl (sgetOff (clOf d cl) sB imm.toNat / 64) = true →
    Answers (.sget cl sD sB imm) d fun e1 => isPending (clOf e1 cl) (.scalar sD) = true ∧ Answers (.halt cl) e1 fun e2 =>
      Answers (.pendingWriteEffect cl) e2 fun e => (clOf e cl).cyc = (clOf d cl).cyc + 4 ∧ isPending (clOf e cl) (.scalar sD) = false ∧
        sNat (clOf e cl) sD = memRead d.mem.cells (paneBase cl + sgetOff (clOf d cl) sB imm.toNat) 4

/-- 10 R383: with DK = 0, SETS writes IMM, ADDS a sum and MULS the low 32 bits of a product, modulo 2^32, and a nonzero FSEL fails
the issue check. SETS, ADDS and EDGE write one cycle after they issue; MULS writes after two. -/
def Obligations.ScalarWrites : Prop :=
  ∀ (d : Dev) (cl : Fin 512), (clOf d cl).tasks = [] →
    (∀ (dst : Fin 32) (imm : W32), MayIssue d cl { c := .sets false dst 0 imm } → Answers (.sets cl false dst 0 imm) d fun e =>
      Issued cl d e ∧ sOf (clOf e cl) dst = imm ∧ ∀ j ≠ dst.val, sOf (clOf e cl) j = sOf (clOf d cl) j) ∧
    (∀ (dst : Fin 32) (fsel : Fin 8) (imm : W32) (v : W64), MayIssue d cl { c := .sets true dst fsel imm } →
      fieldResult (clOf d cl) false dst fsel imm.toNat = some v → Answers (.sets cl true dst fsel imm) d fun e =>
      Issued cl d e ∧ dOf (clOf e cl) dst = v ∧ ∀ j ≠ dst.val, dOf (clOf e cl) j = dOf (clOf d cl) j) ∧
    (∀ (dst sA sB : Fin 32) (src : Bool) (imm : W32), MayIssue d cl { c := .adds false dst 0 sA src sB imm } →
      Answers (.adds cl false dst 0 sA src sB imm) d fun e => Issued cl d e ∧
        sOf (clOf e cl) dst = sOf (clOf d cl) sA + (if src then sOf (clOf d cl) sB else imm) ∧ ∀ j ≠ dst.val, sOf (clOf e cl) j = sOf (clOf d cl) j) ∧
    (∀ (dst sB : Fin 32) (fsel : Fin 8) (src : Bool) (imm : W32) (v : W64), MayIssue d cl { c := .adds true dst fsel 0 src sB imm } →
      fieldResult (clOf d cl) true dst fsel (cOperand (clOf d cl) src sB imm) = some v → Answers (.adds cl true dst fsel 0 src sB imm) d fun e =>
      Issued cl d e ∧ dOf (clOf e cl) dst = v ∧ ∀ j ≠ dst.val, dOf (clOf e cl) j = dOf (clOf d cl) j) ∧
    (∀ (m : Fin 8) (src : Bool) (ri ci : BitVec 9) (sR sC : Fin 32), MayIssue d cl { c := .edge m src ri ci sR sC } →
      Answers (.edge cl m src ri ci sR sC) d fun e => Issued cl d e ∧
        mOf (clOf e cl) m = { row := if src then sNat (clOf d cl) sR else ri.toNat, col := if src then sNat (clOf d cl) sC else ci.toNat }) ∧
    (∀ (dst sA sB : Fin 32) (src : Bool) (imm : W32), MayIssue d cl { c := .muls false dst 0 sA src sB imm } → (clOf d cl).pend = [] →
      Answers (.muls cl false dst 0 sA src sB imm) d fun e1 => Issued cl d e1 ∧ (clOf e1 cl).s = (clOf d cl).s ∧ isPending (clOf e1 cl) (.scalar dst) = true ∧
        ((clOf d cl).pc + 1 < (clOf d cl).bundleCount → (∀ x ∈ (clOf d cl).loops.head?, x.endIx ≠ (clOf d cl).pc + 1) → Answers (.halt cl) e1 fun e => (clOf e cl).cyc = (clOf d cl).cyc + 2 ∧
          sOf (clOf e cl) dst = BitVec.ofNat 32 ((sOf (clOf d cl) sA).toNat * (if src then sOf (clOf d cl) sB else imm).toNat))) ∧
    (∀ (w : Nat) (dst sA sB : Fin 32) (fsel : Fin 8) (src : Bool) (imm : W32), fsel ≠ 0 → cCheck w (clOf d cl) (.sets false dst fsel imm) = false ∧
      cCheck w (clOf d cl) (.adds false dst fsel sA src sB imm) = false ∧ cCheck w (clOf d cl) (.muls false dst fsel sA src sB imm) = false)

/-- 10 R391: HALT stops issue and discards the loop stack. Loops turn, and waits hold their bundle and let it go. -/
def Obligations.ControlFlow : Prop :=
  ∀ (d : Dev) (cl : Fin 512),
    (∀ (src : Bool) (sC : Fin 32) (imm : W32) (endIx : BitVec 12), MayIssue d cl { c := .loop src sC imm endIx } → Answers (.loop cl src sC imm endIx) d fun e =>
      (loopCount (clOf d cl) src sC imm = 0 → (clOf e cl).pc = endIx.toNat + 1 ∧ (clOf e cl).loops = (clOf d cl).loops) ∧
      (loopCount (clOf d cl) src sC imm ≠ 0 → (clOf e cl).pc = (clOf d cl).pc + 1 ∧ (clOf e cl).loops =
        { count := loopCount (clOf d cl) src sC imm, body := (clOf d cl).pc + 1, endIx := endIx.toNat } :: (clOf d cl).loops)) ∧
    (∀ (top : LoopEnt) (rest : List LoopEnt), MayIssue d cl { c := .endloop } → (clOf d cl).loops = top :: rest → Answers (.endloop cl) d fun e =>
      (top.count ≤ 1 → (clOf e cl).pc = (clOf d cl).pc + 1 ∧ (clOf e cl).loops = rest) ∧
      (1 < top.count → (clOf e cl).pc = top.body ∧ (clOf e cl).loops = { top with count := top.count - 1 } :: rest)) ∧
    (MayIssue d cl { c := .halt } → (clOf d cl).tasks = [] → Answers (.halt cl) d fun e => (clOf e cl).run = .halted ∧ (clOf e cl).loops = [] ∧
      ∀ later : Bool, Answers (.bundleIssue cl later) e fun f => clOf f cl = clOf e cl) ∧
    (∀ (t : BitVec 16) (next src : Bool) (sT : Fin 32) (lap tick : Nat), MayIssue d cl { c := .waittick t next src sT } → (clOf d cl).tasks = [] →
      waitReachOk (clOf d cl) (.waittick t next src sT) = true → lap = (if next then ((clOf d cl).wcur + 1) % 4 else (clOf d cl).wcur) →
      tick = (if src then sNat (clOf d cl) sT else t.toNat) →
      (reach (lap, tick) (clOf d cl).tv = .future → Answers (.waittick cl t next src sT) d fun e =>
        (clOf e cl).run = .waitTick lap tick ∧ (clOf e cl).wcur = lap ∧ (clOf e cl).pc = (clOf d cl).pc ∧ (clOf e cl).held = { c := .waittick t next src sT }) ∧
      (reach (lap, tick) (clOf d cl).tv = .current → Answers (.waittick cl t next src sT) d fun e =>
        Issued cl d e ∧ (clOf e cl).wcur = lap ∧ (clOf e cl).waitLate = (clOf d cl).waitLate) ∧
      (reach (lap, tick) (clOf d cl).tv = .passed → Answers (.waittick cl t next src sT) d fun e =>
        Issued cl d e ∧ (clOf e cl).wcur = lap ∧ (clOf e cl).waitLate = satInc (clOf d cl).waitLate)) ∧
    (∀ (n : Nat) (third : Bool) (lap tick : Nat), d.boot.lost = false → islandRuns cl d = true → (clOf d cl).run = .waitTick lap tick →
      reach (lap, tick) (clOf d cl).tv ≠ .future → issueOk d.whl.w { clOf d cl with syncLate := third } (clOf d cl).held = true →
      (∃ a b c e, (clOf d cl).held.c = .waittick a b c e) → Answers (.waittickRelease cl n third) d fun e => Issued cl d e) ∧
    (∀ (n : BitVec 16) (src : Bool) (sN : Fin 32) (x : Nat), MayIssue d cl { c := .waitcyc n src sN } → (clOf d cl).tasks = [] →
      waitReachOk (clOf d cl) (.waitcyc n src sN) = true → x = (if src then sNat (clOf d cl) sN else n.toNat) →
      (0 < x → Answers (.waitcyc cl n src sN) d fun e => (clOf e cl).run = .waitCyc ((clOf d cl).cyc + x) ∧ (clOf e cl).pc = (clOf d cl).pc ∧
        (clOf e cl).held = { c := .waitcyc n src sN }) ∧
      (x = 0 → Answers (.waitcyc cl n src sN) d fun e => Issued cl d e)) ∧
    (∀ till : Nat, d.boot.lost = false → islandRuns cl d = true → (clOf d cl).run = .waitCyc till → (clOf d cl).cyc ≤ till → (clOf d cl).tasks = [] →
      (clOf d cl).loops = [] → (clOf d cl).pc < (clOf d cl).bundleCount → (clOf d cl).held = { c := .waitcyc 1 false 0 } → Answers (.waitcycRelease cl) d fun e =>
        (clOf e cl).pc = (clOf d cl).pc + 1 ∧ (clOf e cl).cyc = till + 1 ∧ (clOf e cl).run = .running)

/-- 06 R202, R239; 07 R243: a command of a cluster changes no other cluster, no component of the device but memory, tenancies and
the host's view of them, and no byte of memory outside the cluster's pane. -/
def Obligations.TileFrame : Prop :=
  ∀ (c : Instr) (cl : Nat) (s t : State), tileCluster c = some cl → Inv s → exec c s = .next t →
    t.pending = s.pending ∧ (∀ k ≠ cl, clOf t.dev k = clOf s.dev k) ∧
    (∀ a, a < paneBase cl ∨ paneBase cl + 0x400000 ≤ a → byteAt t.dev a = byteAt s.dev a) ∧
    t.dev.clk = s.dev.clk ∧ t.dev.whl = s.dev.whl ∧ t.dev.span = s.dev.span ∧ t.dev.fab = s.dev.fab ∧ t.dev.lnk = s.dev.lnk ∧
    t.dev.grants = s.dev.grants ∧ t.dev.dma = s.dev.dma ∧ t.dev.bsu = s.dev.bsu ∧ t.dev.tmr = s.dev.tmr ∧ t.dev.boot = s.dev.boot ∧
    t.dev.power = s.dev.power ∧ t.dev.board = s.dev.board ∧ t.dev.flash = s.dev.flash ∧ t.dev.mail = s.dev.mail ∧ t.dev.fuse = s.dev.fuse

/-! ## Rings and cores (13, 21) -/

/-- 13 R454, R455, R456; 23 Table REG-13: a doorbell of the ring's own function stores its value; one that is not below the
entry count of an ENABLED pair stops it with its cause. -/
def Obligations.Doorbells : Prop :=
  ∀ (d : Dev) (fn : Fin 64) (r : Fin 1024) (v : W32), d.boot.lost = false → hostOpen d fn = true → ringOwned d fn r = true →
    (Answers (.doorbellCmdTail fn r v) d fun e => (ringOf e r).tail = v.toNat ∧ (ringOf e r).head = (ringOf d r).head ∧
      ((ringOf d r).st = .enabled → 2 ^ (ringOf d r).cmdLog ≤ v.toNat → (ringOf e r).st = .stopped ∧ (ringOf e r).cause = 4) ∧
      (v.toNat < 2 ^ (ringOf d r).cmdLog → (ringOf e r).st = (ringOf d r).st) ∧
      ∀ x, x ≠ r.val → ringOf e x = ringOf d x) ∧
    (Answers (.doorbellStsHead fn r v) d fun e => (ringOf e r).stsHead = v.toNat ∧ (ringOf e r).stsTail = (ringOf d r).stsTail ∧
      ((ringOf d r).st = .enabled → 2 ^ (ringOf d r).stsLog ≤ v.toNat → (ringOf e r).st = .stopped ∧ (ringOf e r).cause = 5) ∧
      (v.toNat < 2 ^ (ringOf d r).stsLog → (ringOf e r).st = (ringOf d r).st) ∧
      ∀ x, x ≠ r.val → ringOf e x = ringOf d x)

/-- 13 R449, R451, R452; 23 R774: a pair with aligned bases, legal sizes and a vector of its function enables from READY with
its indexes 0; one that fails stays READY with its cause; a pair closes once it has nothing outstanding. -/
def Obligations.RingStates : Prop :=
  ∀ (d : Dev) (fn : Fin 64) (r : Fin 1024) (v : Fin 64), ControlUp d →
    (hostOpen d fn = true → ringOwned d fn r = true →
      ((ringOf d r).st = .ready → (ringOf d r).cmdBase.toNat % 4096 = 0 → (ringOf d r).stsBase.toNat % 4096 = 0 →
        4 ≤ (ringOf d r).cmdLog → (ringOf d r).cmdLog ≤ 16 → 4 ≤ (ringOf d r).stsLog → (ringOf d r).stsLog ≤ 16 →
        v.val < tableSize fn → Answers (.ringEnable fn r v) d fun e => (ringOf e r).st = .enabled ∧ (ringOf e r).head = 0 ∧
          (ringOf e r).tail = 0 ∧ (ringOf e r).stsTail = 0 ∧ (ringOf e r).stsHead = 0 ∧ (ringOf e r).cause = 0) ∧
      ((ringOf d r).st = .ready → (ringOf d r).cmdBase.toNat % 4096 ≠ 0 →
        Answers (.ringEnable fn r v) d fun e => (ringOf e r).st = .ready ∧ (ringOf e r).cause = 1) ∧
      ((ringOf d r).st = .enabled → outstanding d r = 0 → Answers (.ringDisable fn r v) d fun e =>
        (ringOf e r).st = .ready ∧ (ringOf e r).enable = false) ∧
      ((ringOf d r).st = .enabled → outstanding d r ≠ 0 → Answers (.ringDisable fn r v) d fun e =>
        (ringOf e r).st = .enabled ∧ (ringOf e r).closing = true ∧ (ringOf e r).enable = false)) ∧
    ((ringOf d r).closing = true → outstanding d r = 0 → Answers (.ringCloseDone r) d fun e =>
      (ringOf e r).st = .ready ∧ (ringOf e r).closing = false ∧ e.host.cmds = d.host.cmds)

/-- 13 R458, R460, R469, R470, Table UMB-7: an entry is read once, its command starts when its fence, count and status entry
allow, and the oldest settled command is answered and retired. A shared core takes the rings with work in turn (13 R446). -/
def Obligations.CommandTravels : Prop :=
  ∀ (d : Dev) (r : Fin 1024), ControlUp d → coreServes d (ringOf d r).serving = true →
    ((ringOf d r).st = .enabled → (ringOf d r).closing = false → (ringOf d r).head ≠ (ringOf d r).tail → (ringOf d r).fetching = false → booted d = true →
      Answers (.commandFetch r) d fun e => (ringOf e r).fetching = true ∧ (ringOf e r).head = (ringOf d r).head ∧ ∃ f ∈ e.host.fetches,
        f.why = .packet r ∧ f.addr = (ringOf d r).cmdBase.toNat + 64 * (ringOf d r).head ∧ f.len = 64) ∧
    (∀ p : Line, (ringOf d r).packet = some p → (ringOf d r).st = .enabled → (ringOf d r).closing = false → booted d = true →
      (cmdFence p = true → outstanding d r = 0) → (pkField p 8 8 ≠ 0 → countPassed d.whl (pkField p 8 8) = true) → outstanding d r < 16 → changePending d r = false →
      myTurn d r = true → outstanding d r + (ringOf d r).unreleased < 2 ^ (ringOf d r).stsLog → (∀ c ∈ d.host.cmds, c.id ≠ d.host.nextId) →
      Answers (.commandStart r) d fun e =>
        (ringOf e r).head = ((ringOf d r).head + 1) % 2 ^ (ringOf d r).cmdLog ∧ (ringOf e r).packet = none ∧ outstanding e r = outstanding d r + 1 ∧
          ∃ c ∈ e.host.cmds, c.id = d.host.nextId ∧ c.ring = r.val ∧ c.pkt = p ∧
            (listed (pkField p 0 2) = false → c.stage = .done ∧ c.status = 4)) ∧
    (∀ p : Line, (ringOf d r).packet = some p → myTurn d r = false → Answers (.commandStart r) d fun e => e = d) ∧
    (∀ c : Cmd, (ringOf d r).st = .enabled → findCmd d (replyReady d r) = some c → myTurn d r = true → canIssue d (ringOf d r).function = true → cmdIrq c.pkt = false →
      Answers (.statusReply r) d fun e => e.host.cmds = d.host.cmds.filter (fun x => x.id != c.id) ∧
        (ringOf e r).stsTail = ((ringOf d r).stsTail + 1) % 2 ^ (ringOf d r).stsLog ∧
        e.host.posted = d.host.posted ++
          [.hostWrite (ringOf d r).function ((ringOf d r).stsBase.toNat + 32 * (ringOf d r).stsTail)
              (replyBytes c (c.gcDone.getD (gcOf d.whl)) (ringOf d r).ten),
            .hostWrite (ringOf d r).function ((ringOf d r).stsBase.toNat + 32 * (ringOf d r).stsTail + 30) [if (ringOf d r).lap % 2 = 0 then 1 else 0, 0]])

/-- 21 R720 to R723; 13 R445: a core whose watchdog expires, or that is reset, is held while the core that must act is up; its
rings go to UMB_15, and back to it at a boundary after its release. -/
def Obligations.CoreResets : Prop :=
  ∀ (d : Dev) (n : Fin 16), ControlUp d → booted d = true →
    (coreUp d n = true → (coreOf d n).wdHeld = false → coreUp d (rescuer n) = true → Answers (.watchdogExpiry n) d fun e =>
      (coreOf e n).reset = true ∧ e.boot.coreResets = (d.boot.coreResets + 1) % 2 ^ 32 ∧ bit e.host.dcause.toNat 6 = true ∧
        ∀ r : Nat, (ringOf d r).home = n.val → (ringOf d r).st ≠ .unassigned → (ringOf e r).serving = 15) ∧
    (coreUp d n = true → (coreOf d n).wdHeld = false → coreUp d (rescuer n) = false → Answers (.watchdogExpiry n) d fun e =>
      e.boot.controlLost = true ∧ (coreOf e n).reset = (coreOf d n).reset ∧ bit e.host.dcause.toNat 7 = true) ∧
    (hostOpen d 0 = true → coreUp d n = true → coreUp d (rescuer n) = true → Answers (.coreReset 0 (BitVec.ofNat 16 (2 ^ n.val))) d fun e =>
      (coreOf e n).reset = true ∧ ∀ m : Fin 16, m ≠ n → coreOf e m = coreOf d m) ∧
    (coreUp d 15 = true → (coreOf d 15).wdHeld = false → coreUp d 0 = true → Answers .rescueCoreReset d fun e => (coreOf e 15).reset = true) ∧
    ((coreOf d n).reset = true → (coreOf d n).retired = false → coreUp d (rescuer n) = true → Answers (.coreRelease n) d fun e =>
      (coreOf e n).reset = false ∧ (coreOf e n).rehome = if n = 15 then none else some (nextBoundary d.whl)) ∧
    (∀ b : Nat, (coreOf d n).rehome = some b → coreUp d n = true → countDue d.whl b = true → Answers (.ringRehome n) d fun e =>
      (coreOf e n).rehome = none ∧ ∀ r : Nat, (ringOf d r).home = n.val → (ringOf d r).st ≠ .unassigned → (ringOf e r).serving = n.val) ∧
    (∀ (r : Fin 1024) (c : Cmd), coreServes d (ringOf d r).serving = true →
      (findCmd d fun c => c.ring == r.val && c.interrupted && c.stage != .done && !mustWait d c) = some c → (opcodeOf c = 0x001 ∨ opcodeOf c = 0x300) →
      Answers (.interruptedCommand r) d fun e => ∃ x ∈ e.host.cmds, x.id = c.id ∧ x.interrupted = false ∧
        (opcodeOf c = 0x001 → x.stage = .ready ∧ x.now = gcOf d.whl) ∧ (opcodeOf c = 0x300 → x.stage = .done ∧ x.status = 13 ∧ x.fault = 8)) ∧
    (∀ id : Nat, d.boot.activating = some id → coreUp d 15 = true → Answers .blackoutBoundExpiry d fun e =>
      e.boot.activating = none ∧ (coreOf e 0).reset = true ∧ ∀ x ∈ e.host.cmds, x.id = id → x.stage = .done ∧ x.status = 13 ∧ x.fault = 8)

/-! ## Faults, programs and grants (11, 14 to 16, 20, 21) -/

/-- 21 R709, R710, R712: a tenancy records its first fault, and at its stop it is FAULTED and its clusters issue no more. -/
def Obligations.FaultsStop : Prop :=
  ∀ (d : Dev) (t : Fin 32), FabricUp d →
    (∀ code : Byte, (tenOf d t).stopDue = false → Answers (.faultRaised t code) d fun e =>
      (tenOf e t).fault = code.toNat ∧ (tenOf e t).faultTick = d.whl.now ∧ (tenOf e t).stopDue = true ∧ bit (tenOf e t).tcause.toNat 0 = true ∧
        ∀ u : Fin 32, u ≠ t → tenOf e u = tenOf d u) ∧
    (faultDue d t = true → isLive (tenOf d t).st = true → Answers (.faultStop t) d fun e =>
      (tenOf e t).st = .faulted ∧ (tenOf e t).stopDue = false ∧
        (∀ cl < 512, recHasCluster (grantOf d t) cl = true → (clOf e cl).run = .idle ∨ (clOf e cl).run = .stopped) ∧
        ∀ i, (tabGet ({} : PhaseEnt) e.fab.phase i).owner = t.val → (tabGet ({} : PhaseEnt) e.fab.phase i).len = 0)

/-- 03 R120; 07 R283; 11 R398, R399, R408; 14 R503: the life of a program from its last wheel of waiting to its completion. -/
def Obligations.ProgramsRun : Prop :=
  ∀ (d : Dev) (t : Fin 32) (p : Program) (im : Loaded), FabricUp d → (tenOf d t).program = some p → (tenOf d t).image = some im →
    ((tenOf d t).st = .armed → p.current = false → countDue d.whl (p.launch - d.whl.w) = true → Answers (.bucketSegmentsCurrent t) d fun e =>
      (tenOf e t).program = some { p with current := true } ∧
        ∀ q ∈ im.routes, segInBucket p.bucket q = true → (tabGet ({} : PhaseEnt) e.fab.phase q.ix).owner = t.val) ∧
    ((tenOf d t).st = .armed → p.armed = false → countPassed d.whl (p.launch - d.whl.w) = true → Answers (.clusterArm t) d fun e =>
      (tenOf e t).program = some { p with armed := true } ∧
        ∀ cl ∈ im.clusters, (clOf e cl).run = .armed ∧ (clOf e cl).acc = [] ∧ (clOf e cl).dig = 0 ∧ (clOf e cl).wcur = p.launch / d.whl.w % 4) ∧
    ((tenOf d t).st = .armed → countDue d.whl p.launch = true → faultDue d t = false → commitDue d = false → haltBy d t p.launch = false →
      Answers (.launchCountReached t) d fun e => (tenOf e t).st = .running ∧ (tenOf e t).launchCount = p.launch ∧
        (tenOf e t).completion = p.launch + im.ticks ∧ ∀ u : Fin 32, u ≠ t → tenOf e u = tenOf d u) ∧
    ((tenOf d t).st = .running → countDue d.whl p.completion = true → faultDue d t = false → (tenOf d t).stopDue = false → allHalted d t = true →
      Answers (.programCompletionCheck t) d fun e => (tenOf e t).st = .loaded ∧ (tenOf e t).image = some im ∧
        ∀ i, (tabGet ({} : PhaseEnt) e.fab.phase i).owner = t.val → (tabGet ({} : PhaseEnt) e.fab.phase i).len = 0) ∧
    ((tenOf d t).st = .running → countDue d.whl p.completion = true → faultDue d t = false → (tenOf d t).stopDue = false → allHalted d t = false →
      Answers (.programCompletionCheck t) d fun e => (tenOf e t).st = .running ∧ (tenOf e t).fault = 3 ∧ (tenOf e t).stopDue = true) ∧
    (∀ x : Nat, x = d.whl.start + 63 * (d.whl.w / 64) → x ≤ d.whl.now → counted d.whl = true → Answers (.digestDrain t) d fun e =>
      (∀ y ∈ d.fab.flits, y ∈ e.fab.flits) ∧ ∀ cl ∈ im.clusters, (∀ s ∈ (clOf e cl).snaps.head?, x < s.stamp + 4) ∧
        ∀ s ∈ (clOf d cl).snaps.takeWhile (fun s => decide (s.stamp + 4 ≤ x)), snapFlight cl x s ∈ e.fab.flits)

/-- 15 R533: WAIT_COUNT completes at its count, with GC_DONE equal to it, or at once if the count has passed. A program halts,
is suspended and resumes at its count. -/
def Obligations.CountsReached : Prop :=
  (∀ (d : Dev) (t : Fin 32) (p : Program) (c : Cmd), FabricUp d → controlUp d = true → faultDue d t = false → countDue d.whl c.count = true →
    ((tenOf d t).program = some p → isLive (tenOf d t).st = true → earliestArmed d t 0x302 = some c → c.aux = p.launch →
      (∀ h, (tenOf d t).replay.bind (·.haltAt) = some h → c.count < h) → c.count < p.completion →
      Answers (.haltAtReached t) d fun e => (tenOf e t).st = .loaded ∧ SettledWith e c.id 0 c.count 1 ∧
        ∀ cl < 512, recHasCluster (grantOf d t) cl = true → (clOf e cl).run = .idle ∨ (clOf e cl).run = .stopped) ∧
    ((tenOf d t).program = some p → isLive (tenOf d t).st = true → earliestArmed d t 0x302 = some c → c.aux ≠ p.launch →
      (∀ h, (tenOf d t).replay.bind (·.haltAt) = some h → c.count < h) → c.count < p.completion →
      Answers (.haltAtReached t) d fun e => (tenOf e t).st = (tenOf d t).st ∧ SettledWith e c.id 0 c.count 0 ∧ e.cl = d.cl) ∧
    ((tenOf d t).program = some p → (tenOf d t).st = .running → earliestArmed d t 0x303 = some c → haltBy d t c.count = false → c.count < p.completion →
      Answers (.suspendEffect t) d fun e => (tenOf e t).st = .suspended ∧ (tenOf e t).suspendedAt = some (c.count / d.whl.w) ∧ Settled e c.id 0) ∧
    (∀ s : Nat, (tenOf d t).program = some p → (tenOf d t).st = .suspended → (tenOf d t).suspendedAt = some s → earliestArmed d t 0x304 = some c →
      commitDue d = false → p.started = true → Answers (.resumeEffect t) d fun e => (tenOf e t).st = .running ∧ (tenOf e t).suspendedAt = none ∧
        (tenOf e t).completion = (tenOf d t).completion + c.count / d.whl.w * d.whl.w - s * d.whl.w ∧ SettledWith e c.id 0 c.count 0) ∧
    (c ∈ d.host.cmds → opcodeOf c = 0x306 → c.stage = .armed → Answers .waitCountReached d fun e =>
      ∃ x ∈ e.host.cmds, x.id = c.id ∧ x.stage = .done ∧ x.status = 0 ∧ x.gcDone = some c.count)) ∧
  ∀ (d : Dev) (r : Fin 1024) (y : Cmd), ControlUp d → nextCmd d r 0x306 = some y →
    (countPassed d.whl (pkField y.pkt 16 8) = true → Answers (.waitCount r) d fun e => Settled e y.id 0) ∧
    (countPassed d.whl (pkField y.pkt 16 8) = false → Answers (.waitCount r) d fun e => Armed e y.id (pkField y.pkt 16 8))

/-- 14 R495, R497, R506, R507; 15 R555; 23 R766 to R769: sets of grants, leases and resets at their boundaries, and the zeroing
of what was released. -/
def Obligations.GrantsChange : Prop :=
  ∀ d : Dev, FabricUp d → controlUp d = true →
    (∀ v : W32, hostOpen d 0 = true → booted d = true → partBusy d = false → Answers (.partCountHi 0 v) d fun e =>
      e.grants.state = 1 ∧ e.grants.count = v.toNat * 2 ^ 32 + d.grants.countLo ∧ e.grants.force = d.grants.force) ∧
    (hostOpen d 0 = true → booted d = true → partBusy d = false → Answers (.partSync 0) d fun e => e.grants.pend = d.grants.force) ∧
    (hostOpen d 0 = true → booted d = true → d.grants.state = 1 → Answers (.partCancel 0) d fun e =>
      e.grants.state = 0 ∧ e.grants.cancelled = true ∧ e.grants.force = d.grants.force) ∧
    (d.grants.state = 1 → d.grants.count % d.whl.w = 0 → setInvalid d (recOf d.grants.pend) = none → Answers .partCheckDone d fun e =>
      e.grants.state = 2 ∧ e.grants.effect = boundaryAt d d.grants.count ∧ e.grants.force = d.grants.force) ∧
    (∀ f : Nat × Nat, d.grants.state = 1 → d.grants.count % d.whl.w = 0 → setInvalid d (recOf d.grants.pend) = some f → Answers .partCheckDone d fun e =>
      e.grants.state = 4 ∧ e.grants.rule = f.1 ∧ e.grants.ten = f.2 ∧ e.grants.force = d.grants.force) ∧
    (d.grants.state = 2 → countDue d.whl d.grants.effect = true → (d.grants.force.map Prod.fst).Pairwise (· < ·) → Answers .directCommitEffect d fun e =>
      e.grants.state = 3 ∧ ∀ t : Fin 32, grantOf e t = recOf d.grants.pend t) ∧
    (∀ (c : Cmd) (s : Staging), openCmds d (fun c => opcodeOf c == 0xF01 && c.stage == .armed && countDue d.whl c.count && !directFirst d c.count) = [c] →
      d.grants.staging = some s → c.count ≤ s.expiry → setInvalid d (recOf s.recs) = none → (d.grants.force.map Prod.fst).Pairwise (· < ·) → Answers .grantChangeEffect d fun e =>
        e.grants.staging = none ∧ SettledWith e c.id 0 c.count 0 ∧ ∀ t : Fin 32, grantOf e t = recOf s.recs t) ∧
    (∀ t : Fin 32, (tenOf d t).st = .draining → coreServes d (tenCore d t) = true → drained d t = true → Answers (.zeroingDone t) d fun e =>
      (tenOf e t).st = .vacant ∧ (tenOf e t).zeroing = [] ∧ ∀ p ∈ (tenOf d t).zeroing, ∀ a, p.1 ≤ a → a < p.1 + p.2 → byteAt e a = 0) ∧
    (∀ (k : Fin 5) (t x : Nat), k.val < 4 → (bsuOf d k).lease = some (t, x) → countDue d.whl x = true → Answers (.leaseExpiry k) d fun e =>
      (bsuOf e k).lease = none) ∧
    (∀ s : Staging, d.grants.staging = some s → countDue d.whl s.expiry = true → d.host.cmds = [] → Answers (.leaseExpiry 4) d fun e =>
      e.grants.staging = none ∧ e.grants.force = d.grants.force) ∧
    (∀ c : Cmd, openCmds d (fun c => opcodeOf c == 0xF03 && c.stage == .armed && countDue d.whl c.count) = [c] → c.aux = 4 → d.grants.staging.isSome = true →
      Answers .leaseRevokeEffect d fun e => e.grants.staging = none ∧ SettledWith e c.id 0 c.count 0xFE) ∧
    (∀ c : Cmd, openCmds d (fun c => opcodeOf c == 0xF0A && c.stage == .armed && decide (c.aux < 256) && countDue d.whl c.count) = [c] →
      ((tenOf d c.aux).st = .staged → Answers .tenancyResetEffect d fun e => (tenOf e c.aux).st = .vacant ∧ SettledWith e c.id 0 c.count 0) ∧
      ((tenOf d c.aux).st = .running → Answers .tenancyResetEffect d fun e => (tenOf e c.aux).st = .draining)) ∧
    (∀ t : Fin 32, (tenOf d t).st = .vacant → Answers (.journalCloseOnVacant t) d fun e => (tenOf e t).journal = none ∧ ∀ a, byteAt e a = byteAt d a)

/-- 20 R694 to R696: an island that goes off loses its clock and its pane; one that comes on starts from zero. -/
def Obligations.IslandsSwitch : Prop :=
  ∀ (d : Dev) (c : Cmd) (i : Fin 32), FabricUp d → controlUp d = true → bit (powMask c.pkt) i = true →
    (openCmds d (fun c => opcodeOf c == 0xF06 && c.stage == .armed && !powOn c.pkt && countDue d.whl c.count) = [c] →
      powForce c.pkt = true → Answers .islandPowerOffEffect d fun e => (islOfDev e i).oscOn = false ∧ (islOfDev e i).supplyOn = false ∧
        SettledWith e c.id 0 c.count 0 ∧ ∀ s < 16, (clOf e (16 * i + s)).powered = false ∧
          ∀ a < 0x400000, byteAt e (paneBase (16 * i + s) + a) = 0) ∧
    (openCmds d (fun c => opcodeOf c == 0xF06 && c.stage == .armed && powOn c.pkt && c.aux == 0 && countDue d.whl c.count) = [c] →
      (islOfDev d i).supplyOn = false → Answers .islandPowerOnEffect d fun e => (islOfDev e i).supplyOn = true ∧ (islOfDev e i).oscOn = false ∧
        ∀ s < 16, (clOf e (16 * i + s)).powered = true ∧ ∀ a < 0x400000, byteAt e (paneBase (16 * i + s) + a) = 0) ∧
    (openCmds d (fun c => opcodeOf c == 0xF06 && c.stage == .armed && powOn c.pkt && c.aux == 1 && islandsReady d (powMask c.pkt)) = [c] →
      Answers .islandPowerOnDone d fun e => SettledWith e c.id 0 c.count 0 ∧ e.clk = d.clk)

/-! ## DMA, host link, bitstream units, timers and board (17 to 19, 22, 23) -/

/-- 19 R660 to R666: what an engine does with a descriptor, with read data, with write data, and with their absence. -/
def Obligations.DmaEngines : Prop :=
  ∀ (d : Dev) (e : Fin 32) (t : Nat) (x : Flight), UnitsUp d → d.whl.now = t →
    (d.fab.flits.find? (fun y => y.dest == .dma e && y.due == t) = some x → eccCheck x.flit = (x.flit, .clean) → dmaOwnerOk d e x.sw x.flit = true →
      x.flit.tag = 0x3FF → x.flit.late = false → x.flit.poison = false → descAccepted d e x.flit.ten.toNat x.flit.data = true →
      Answers (.dmaDescriptor e t) d fun f => ∃ y : DmaDesc, (dmaOf f e).pend = (dmaOf d e).pend ++ [y] ∧
        y.read = (descKind x.flit.data == 1) ∧ y.n = descN x.flit.data ∧ y.tick = descTick x.flit.data ∧ y.lap = descLap x.flit.data ∧
        y.addr = descAddr x.flit.data ∧ y.ten = x.flit.ten.toNat ∧ y.next = 0 ∧ (dmaOf f e).descErr = (dmaOf d e).descErr ∧ x ∉ f.fab.flits) ∧
    (d.fab.flits.find? (fun y => y.dest == .dma e && y.due == t) = some x → eccCheck x.flit = (x.flit, .clean) → dmaOwnerOk d e x.sw x.flit = true →
      x.flit.tag = 0x3FF → x.flit.late = false → x.flit.poison = false → descAccepted d e x.flit.ten.toNat x.flit.data = false →
      (tenOf d x.flit.ten.toNat).stopDue = false → Answers (.dmaDescriptor e t) d fun f => (dmaOf f e).pend = (dmaOf d e).pend ∧
        (dmaOf f e).descErr = satInc (dmaOf d e).descErr ∧ (tenOf f x.flit.ten.toNat).fault = 0x0C) ∧
    (∀ (lap : Fin 4) (tick : BitVec 16) (data : Line) (poison : Bool) (y : DmaDesc), (dmaOf d e).owed = [] → (dmaOf d e).pend = [y] →
      holdsFlit lap tick.toNat y = true → y.flits = List.replicate y.n .waiting → Answers (.dmaReadCompletion e lap tick t data poison) d fun f =>
        ∃ z : DmaDesc, (dmaOf f e).pend = [z] ∧ z.n = y.n ∧ z.flits.getD (tick.toNat - y.tick) .failed = .data data poison t ∧
          ∀ i < y.n, i ≠ tick.toNat - y.tick → z.flits.getD i .failed = .waiting) ∧
    (∀ (lap : Fin 4) (tick : BitVec 16) (data : Line) (poison : Bool), (lap.val, tick.toNat) ∈ (dmaOf d e).owed →
      Answers (.dmaReadCompletion e lap tick t data poison) d fun f => (dmaOf f e).pend = (dmaOf d e).pend ∧
        (dmaOf f e).lateCompl = satInc (dmaOf d e).lateCompl ∧ (lap.val, tick.toNat) ∉ (dmaOf f e).owed) ∧
    (∀ (y : DmaDesc) (l : Line) (poison : Bool) (at_ : Nat), dueDesc d e true = some y → y.flits.getD y.next .failed = .data l poison at_ → at_ + 4 ≤ t →
      Answers (.dmaReadDeparture e t) d fun f => (dmaOf f e).readFlits = satInc (dmaOf d e).readFlits ∧
        { dest := .swIn (islOfDma e) (20 + e % 4), due := t + 2, sw := t + 2, flit := sealFlit
            { data := l, ten := BitVec.ofNat 6 y.ten, tag := tagAt y.tag y.next, late := false, poison := poison, ecc := 0 } } ∈ f.fab.flits) ∧
    (∀ y : DmaDesc, dueDesc d e true = some y → y.flits.getD y.next .failed = .waiting → (tenOf d y.ten).stopDue = false →
      Answers (.dmaReadDeparture e t) d fun f => (dmaOf f e).starved = satInc (dmaOf d e).starved ∧ (tenOf f y.ten).fault = 0x0C ∧
        (y.lap, y.tick + y.next) ∈ (dmaOf f e).owed ∧
          { dest := .swIn (islOfDma e) (20 + e % 4), due := t + 2, sw := t + 2, flit := voidFlit y.ten (tagAt y.tag y.next) } ∈ f.fab.flits) ∧
    (∀ y : DmaDesc, d.fab.flits.find? (fun y => y.dest == .dma e && y.due == t) = some x → eccCheck x.flit = (x.flit, .clean) → dmaOwnerOk d e x.sw x.flit = true →
      x.flit.tag ≠ 0x3FF → x.flit.late = false → x.flit.poison = false → dueDesc d e false = some y → y.ten = x.flit.ten.toNat → (dmaOf d e).writeQ.length < 64 →
      Answers (.dmaWriteArrival e t) d fun f => (dmaOf f e).writeFlits = satInc (dmaOf d e).writeFlits ∧ (dmaOf f e).writeQ = (dmaOf d e).writeQ ++
        [{ fn := recFunction (grantOf d y.ten), ten := y.ten, addr := y.addr + 64 * y.next, data := x.flit.data, at_ := t }]) ∧
    (∀ y : DmaDesc, (∀ z ∈ d.fab.flits, z.dest ≠ .dma e) → dueDesc d e false = some y → Answers (.dmaWriteShort e t) d fun f =>
      (dmaOf f e).short = satInc (dmaOf d e).short ∧ (dmaOf f e).writeQ = (dmaOf d e).writeQ) ∧
    (∀ (n : Nat) (w : DmaWr), (dmaOf d e).writeQ = [w] → canIssue d w.fn = true → Answers (.dmaHostWrite e n) d fun f =>
      (dmaOf f e).writeQ = [] ∧ f.host.posted = d.host.posted ++ [.hostWrite w.fn w.addr (leBytes 64 w.data.toNat)])

/-- 19 R645, R647, R652, R655 to R658; 23 R772, Table REG-11: errors, masks, cause bits and resets of the host link. -/
def Obligations.HostLinkEvents : Prop :=
  ∀ (d : Dev) (fn : Fin 64), ControlUp d →
    (∀ mask occurs : W32, hostOpen d 0 = true → booted d = true → mask &&& occurs &&& d.host.dcause = 0 → Answers (.causeClear 0 none mask occurs) d fun e =>
      e.host.dcause = d.host.dcause &&& ~~~(mask &&& ~~~occurs) ∧ e.host.posted = d.host.posted ∧ e.ten = d.ten) ∧
    (∀ v : W32, hostOpen d 0 = true → booted d = true → v &&& d.host.dcause = 0 → Answers (.causeEnable 0 none v) d fun e =>
      e.host.denable = v &&& 8191 ∧ e.host.dcause = d.host.dcause ∧ e.host.posted = d.host.posted) ∧
    (∀ v : Fin 64, hostOpen d fn = true → v.val < tableSize fn → canIssue d fn = true → (funcOf d fn).mask = false →
      (tabGet {} (funcOf d fn).msix v).withheld = 1 → Answers (.msixUnmask fn (some v)) d fun e =>
        e.host.posted = d.host.posted ++ [.msix fn v (tabGet {} (funcOf d fn).msix v).addr (tabGet {} (funcOf d fn).msix v).data] ∧
          (tabGet {} (funcOf e fn).msix v).mask = false ∧ (tabGet {} (funcOf e fn).msix v).withheld = 0) ∧
    (∀ (id : Nat) (f : Fetch) (came : List Byte), (d.host.fetches.find? fun f => f.id == id) = some f → Answers (.completionTimeout (.fetch id came)) d fun e =>
      bit (funcOf e f.fn).aerUnc.toNat 14 = true ∧ ∀ g ∈ e.host.fetches, g.id ≠ id) ∧
    (Answers (.pcieErrorReceived .badTlp) d fun e => bit (funcOf e 0).aerCor.toNat 6 = true ∧ e.mem = d.mem) ∧
    (Answers (.pcieErrorReceived (.poisonedWrite fn)) d fun e => bit (funcOf e fn).aerUnc.toNat 12 = true ∧ e.mem = d.mem) ∧
    (Answers (.unsupportedRequest fn true) d fun e => bit (funcOf e fn).aerUnc.toNat 20 = true ∧ e.host.posted = d.host.posted ++ [.ur fn]) ∧
    (Answers (.unsupportedRequest fn false) d fun e => bit (funcOf e fn).aerUnc.toNat 20 = true ∧ e.host.posted = d.host.posted) ∧
    (fn ≠ 0 → (funcOf d fn).enabled = true → (funcOf d fn).flr = false → Answers (.functionLevelReset fn) d fun e =>
      (funcOf e fn).flr = true ∧ (funcOf e fn).msix = [] ∧ (funcOf e fn).flrAt = nextBoundary d.whl ∧
        (∀ r : Nat, (ringOf d r).st ≠ .unassigned → (ringOf d r).function = fn.val → (ringOf e r).st = .ready ∧ (ringOf e r).cause = 8) ∧
        ∀ f ∈ e.host.fetches, f.fn ≠ fn.val) ∧
    ((funcOf d fn).flr = true → countDue d.whl (funcOf d fn).flrAt = true → Answers (.flrComplete fn) d fun e =>
      (funcOf e fn).flr = false ∧ (funcOf e fn).bme = false ∧ (funcOf e fn).aerUnc = 0) ∧
    (Answers .vfEnableClear d fun e => ∀ k : Fin 64, k ≠ 0 → (funcOf e k).enabled = false) ∧
    (∀ (id r : Nat) (f : Fetch) (data : List Byte), (d.host.fetches.find? fun f => f.id == id) = some f → f.why = .packet r → data.length = f.len →
      (ringOf d r).fetching = true → Answers (.fetchCompletion id data) d fun e => (ringOf e r).packet = some (BitVec.ofNat 512 (leNat data))) ∧
    (∀ on : Bool, d.boot.inReset = false → (on = true → d.host.blocked = []) → Answers (.busMasterEnable fn on) d fun e =>
      (funcOf e fn).bme = on ∧ e.host.posted = d.host.posted)

/-- 23 R759 to R761, Tables REG-3 to REG-13; 00 R17: REGISTER_WRITE answers in every state; what it writes, block by block, and
what every write leaves alone. -/
def Obligations.RegisterWrites : Prop :=
  (∀ (d : Dev) (fn : Fin 64) (off : BitVec 21) (v droop : W32), d.boot.lost = false → Answers (.registerWrite fn off v droop) d fun e =>
    e.span = d.span ∧ e.fab = d.fab ∧ e.lnk = d.lnk ∧ e.mem = d.mem ∧ e.cl = d.cl ∧ e.dma = d.dma ∧ e.bsu = d.bsu ∧ e.power = d.power ∧
      e.board = d.board ∧ e.flash = d.flash ∧ e.fuse = d.fuse ∧
      (hostOpen d fn = false ∨ off.toNat % 4 ≠ 0 → e = d) ∧ (booted d = false → 0x3000 ≤ off.toNat → e = d) ∧
      (off.toNat < 0x1000 ∨ (0x3000 ≤ off.toNat ∧ off.toNat < 0x10000) ∨ (0x11000 ≤ off.toNat ∧ off.toNat < 0x20000) ∨
        (0x23000 ≤ off.toNat ∧ off.toNat < 0x30000) ∨ (0x30100 ≤ off.toNat ∧ off.toNat < 0x40000) ∨
        (0x50400 ≤ off.toNat ∧ off.toNat < 0x100000) ∨ 0x110000 ≤ off.toNat → e = d) ∧
      (fn ≠ 0 → off.toNat < 0x3000 ∨ (0x20000 ≤ off.toNat ∧ off.toNat < 0x40000) ∨ (0x50000 ≤ off.toNat ∧ off.toNat < 0x100000) → e = d)) ∧
  ∀ (d : Dev) (v droop : W32), d.boot.lost = false → hostOpen d 0 = true →
    (Answers (.registerWrite 0 0x1000 v droop) d fun e => e.boot.drainReq = bit v.toNat 8) ∧
    (Answers (.registerWrite 0 0x1008 v droop) d fun e => e.boot.refLoss = (d.boot.refLoss && !(bit v.toNat 0 && !bit droop.toNat 0)) ∧
      e.boot.fabLoss = (d.boot.fabLoss && !(bit v.toNat 1 && !bit droop.toNat 1)) ∧
      e.boot.ctlLoss = (d.boot.ctlLoss && !(bit v.toNat 2 && !bit droop.toNat 2))) ∧
    (Answers (.registerWrite 0 0x2408 v droop) d fun e => e.mail.fwLen = v ∧ e.mail.fwAddr = d.mail.fwAddr) ∧
    (∀ hi : W32, Answers (.registerWrite 0 0x2400 v droop) d fun f => f.mail.fwAddr = d.mail.fwAddr ∧
      Answers (.registerWrite 0 0x2404 hi droop) f fun e => e.mail.fwAddr = hi ++ v) ∧
    (∀ k : Fin 1024, booted d = true → partBusy d = false → (d.grants.pend.map Prod.fst).Pairwise (· < ·) →
      Answers (.registerWrite 0 (BitVec.ofNat 21 (0x20000 + 4 * k)) v droop) d fun e =>
        readReg 0 false (0x20000 + 4 * k) e = Nat.land v.toNat (wordOf recMask (k % 32)) ∧ e.grants.force = d.grants.force ∧
          ∀ t, t ≠ k.val / 32 → recOf e.grants.pend t = recOf d.grants.pend t) ∧
    (booted d = true → partBusy d = true → ∀ k : Fin 1024, Answers (.registerWrite 0 (BitVec.ofNat 21 (0x20000 + 4 * k)) v droop) d fun e =>
      e.grants = { d.grants with ignored := true }) ∧
    (booted d = true → partBusy d = false → Answers (.registerWrite 0 0x22008 v droop) d fun e =>
      e.grants.countLo = v.toNat ∧ e.grants.force = d.grants.force) ∧
    (booted d = true → Answers (.registerWrite 0 0x22010 v droop) d fun e =>
      e.grants.ignored = (d.grants.ignored && !bit v.toNat 24) ∧ e.grants.cancelled = (d.grants.cancelled && !bit v.toNat 25) ∧
        e.grants.stagedBusy = (d.grants.stagedBusy && !bit v.toNat 26)) ∧
    (booted d = true → Answers (.registerWrite 0 0x30060 v droop) d fun e =>
      e.whl.syncLost = (d.whl.syncLost && !bit v.toNat 16) ∧ e.whl.syncDisagree = (d.whl.syncDisagree && !bit v.toNat 17)) ∧
    (booted d = true → Answers (.registerWrite 0 0x40408 v droop) d fun e => e.host.dvector = v.toNat % 64 ∧ e.host.dcause = d.host.dcause) ∧
    (∀ (fn n : Fin 64), booted d = true → hostOpen d fn = true → n.val < tableSize fn →
      Answers (.registerWrite fn (BitVec.ofNat 21 (0x48008 + 16 * n)) v droop) d fun e =>
        readReg fn false (0x48008 + 16 * n) e = v.toNat ∧ e.host.posted = d.host.posted ∧ ∀ f : Fin 64, f ≠ fn → funcOf e f = funcOf d f) ∧
    (∀ r : Fin 1024, booted d = true → ringOwned d 0 r = true → (ringOf d r).st = .ready →
      (∀ hi : W32, Answers (.registerWrite 0 (BitVec.ofNat 21 (0x100000 + 64 * r)) v droop) d fun f => (ringOf f r).cmdBase = (ringOf d r).cmdBase ∧
        Answers (.registerWrite 0 (BitVec.ofNat 21 (0x100000 + 64 * r + 4)) hi droop) f fun e => (ringOf e r).cmdBase = hi ++ (v &&& 0xFFFFF000#32)) ∧
      Answers (.registerWrite 0 (BitVec.ofNat 21 (0x100000 + 64 * r + 0x10)) v droop) d fun e =>
        (ringOf e r).cmdLog = v.toNat % 32 ∧ (ringOf e r).stsLog = v.toNat / 256 % 32 ∧ ∀ x, x ≠ r.val → ringOf e x = ringOf d x)

/-- 17 R591 to R599: the engine takes the record at the head of its queue once it has finished it; a record that is wrong for
the unit resets it and faults its holder. A drain that has arrived is taken before (17 R604). -/
def Obligations.BitstreamRecords : Prop :=
  ∀ (d b : Dev) (u : Fin 4) (c : Instr) (k : Nat) (r : BsuRec), UnitsUp d → b = takeDrains u (bsuOf d u).drainIn.length d →
    (c, k) ∈ [(.bsuNop u, 0), (.bsuCtx u, 1), (.bsuByp u, 2), (.bsuTerm u, 3), (.bsuSym u, 4), (.bsuLit u, 5), (.bsuFrameStart u, 8), (.bsuSegStart u, 9),
      (.bsuEntry u, 10), (.bsuSegEnd u, 11), (.bsuFrameEnd u, 12)] → headDone (bsuOf b u) (engineNow b u) = some r → recKind r.word = k → (bsuOf b u).skip = false →
    (recordGood (bsuOf b u) r.word = true → Answers c d fun e =>
      (bsuOf e u).queue = (bsuOf b u).queue.tail ∧ (bsuOf e u).pos = recordStart (bsuOf b u) r + recordCost (bsuOf b u) r.word ∧
        (bsuOf e u).skip = false ∧ e.host = b.host ∧
        (k = 8 → ∃ f, (bsuOf e u).frame = some f ∧ f.inSeg = false ∧ f.bank = (if bit r.word.toNat 32 then 1 else 0)) ∧
        (k = 9 → ∃ f, (bsuOf e u).frame = some f ∧ f.inSeg = true ∧ f.ops = []) ∧
        (k = 1 → (bsuOf e u).bins = satAdd (bsuOf b u).bins (r.word.toNat / 32 % 4 + 1)) ∧
        (k = 2 → (bsuOf e u).bins = satAdd (bsuOf b u).bins (r.word.toNat / 256 % 32 + 1)) ∧
        (k = 3 → (bsuOf e u).bins = satAdd (bsuOf b u).bins 1) ∧
        (k = 4 → (bsuOf e u).symbols = satAdd (bsuOf b u).symbols (r.word.toNat / 32 % 2 + 1)) ∧
        (k = 11 → ∃ f, (bsuOf e u).frame = some f ∧ f.inSeg = false) ∧
        (k = 12 → (bsuOf e u).frame = none)) ∧
    (recordGood (bsuOf b u) r.word = false → ∀ t < 32, bsuHolder b u = some t → (tenOf b t).stopDue = false → Answers c d fun e =>
      (bsuOf e u).configured = false ∧ (bsuOf e u).queue = [] ∧ (bsuOf e u).lastReset = 1 ∧ (tenOf e t).fault = 0x0B)

/-- 17 R600, R601, R604, R609, R610: flits, drains and lines of a unit, and its reset. -/
def Obligations.BitstreamPorts : Prop :=
  ∀ (d : Dev) (u : Fin 4) (t : Nat), UnitsUp d → d.whl.now = t →
    (∀ x : Flight, d.fab.flits.find? (fun y => y.dest == .bsu u && y.due == t) = some x → eccCheck x.flit = (x.flit, .clean) →
      bsuHolder d u = some x.flit.ten.toNat → x.flit.late = false → x.flit.poison = false → (bsuOf d u).configured = true →
      queueFlits (bsuOf d u).queue < 2048 → (∀ y ∈ (bsuOf d u).drainIn, fieldsOk (bsuOf d u).codec 0 y.word = true) → (∀ i < 8, bits x.flit.data.toNat (64 * i + 3) (64 * i) ≠ 13) → Answers (.bsuRecordFlit u t) d fun e =>
        (bsuOf e u).queue.length = (bsuOf d u).queue.length + 8 ∧ (bsuOf e u).seq = (bsuOf d u).seq + 8 ∧
          ∀ i < 8, ∃ r ∈ (bsuOf e u).queue, r.word = BitVec.ofNat 64 (x.flit.data.toNat / 2 ^ (64 * i)) ∧ r.seq = (bsuOf d u).seq + i) ∧
    (∀ (r : BsuRec) (rest : List BsuRec) (a : Nat), (bsuOf d u).drainIn = r :: rest → fieldsOk (bsuOf d u).codec 0 r.word = true →
      departTick d.whl (bsuOf d u).held r.arr (wBits r.word 9 8) (wBits r.word 25 10) = some a → (bsuOf d u).drains = [] →
      (r.arr + 16 ≤ a → Answers (.bsuDrain u) d fun e => (bsuOf e u).drainIn = rest ∧ ∃ q, (bsuOf e u).drains = [q] ∧ q.at_ = a ∧
        q.n = wBits r.word 49 39 + 1 ∧ q.first = wBits r.word 38 26) ∧
      (a < r.arr + 16 → Answers (.bsuDrain u) d fun e => (bsuOf e u).drainIn = rest ∧ (bsuOf e u).drains = [] ∧
        (bsuOf e u).drainLate = satInc (bsuOf d u).drainLate)) ∧
    (∀ (h : Nat) (q : Drain), bsuHolder d u = some h → (tenOf d h).suspendedAt = none → counted d.whl = true → (bsuOf d u).drainIn = [] → (bsuOf d u).queue = [] →
      (bsuOf d u).drains = [q] → q.at_ + q.next = gcOf d.whl - (bsuOf d u).held → Answers (.bsuDrainLine u t) d fun e =>
        (∃ f : Flit, { dest := .swIn (islOfBsu u) 24, due := t + 2, sw := t + 2, flit := f } ∈ e.fab.flits ∧ f.late = false ∧ f.poison = false) ∧
          (bsuOf e u).drains = (if q.next + 1 < q.n then [{ q with next := q.next + 1 }] else [])) ∧
    (∀ cause : Fin 7, cause.val ≠ 0 → (bsuOf d u).configured = true → Answers (.bsuReset u cause) d fun e => (bsuOf e u).configured = false ∧
      (bsuOf e u).lastReset = cause.val ∧ (bsuOf e u).queue = [] ∧ (bsuOf e u).resets = satInc (bsuOf d u).resets)

/-- 18 R619 to R635; 23 R765: steps, starts, compare writes and pins of a channel. -/
def Obligations.TimerChannels : Prop :=
  ∀ (d : Dev) (n : Fin 16) (t : Nat), FabricUp d → d.whl.now ≤ t →
    ((tmrOf d n).running = true → (tmrOf d n).refclk = false → t = (tmrOf d n).last + (tmrOf d n).prescale + 1 → Answers (.timerStep n t) d fun e =>
      (tmrOf e n).last = t ∧ (tmrOf e n).cnt = (stepCount (tmrOf d n)).1 ∧
        ((tmrOf d n).mode = 1 → (tmrOf d n).cnt < (tmrOf d n).top → (tmrOf e n).cnt = (tmrOf d n).cnt + 1 ∧ (tmrOf e n).running = true) ∧
        ((tmrOf d n).mode = 1 → (tmrOf d n).top ≤ (tmrOf d n).cnt → (tmrOf e n).cnt = 0 ∧ (tmrOf e n).running = true) ∧
        ((tmrOf d n).mode = 0 → (tmrOf d n).top ≤ (tmrOf d n).cnt → (tmrOf e n).cnt = (tmrOf d n).cnt ∧ (tmrOf e n).running = false) ∧
        ∀ m : Fin 16, m ≠ n → tmrOf e m = tmrOf d m) ∧
    ((tmrOf d n).waiting = true → (tmrOf d n).startTick = some t → Answers (.timerStart t) d fun e =>
      (tmrOf e n).running = true ∧ (tmrOf e n).waiting = false ∧ (tmrOf e n).cnt = 0 ∧ (tmrOf e n).last = t) ∧
    (∀ g : Nat, (tmrOf d n).waiting = true → (tmrOf d n).startGc = some g → g < gcOf d.whl → Answers .timerStartMissed d fun e =>
      (tmrOf e n).startGc = none ∧ ((tmrOf d n).fireIfPast = false → (tmrOf e n).missed = true ∧ (tmrOf e n).waiting = true) ∧
        ((tmrOf d n).fireIfPast = true → (tmrOf e n).startTick = some (d.whl.now + 1))) ∧
    (∀ (fn : Fin 64) (v : W32), hostOpen d fn = true → tmrWritable d = true → tmrFn d n = fn.val →
      (Answers (.cmpLoWrite fn n v) d fun e => (tmrOf e n).staged = true ∧ (tmrOf e n).stagedLo = v.toNat ∧ (tmrOf e n).compare = (tmrOf d n).compare) ∧
      ((tmrOf d n).staged = true → v.toNat * 2 ^ 32 + (tmrOf d n).stagedLo ≤ (tmrOf d n).top → Answers (.cmpHiWrite fn n v) d fun e =>
        (tmrOf e n).compare = v.toNat * 2 ^ 32 + (tmrOf d n).stagedLo ∧ (tmrOf e n).staged = false) ∧
      ((tmrOf d n).staged = true → (tmrOf d n).top < v.toNat * 2 ^ 32 + (tmrOf d n).stagedLo → Answers (.cmpHiWrite fn n v) d fun e =>
        (tmrOf e n).compare = (tmrOf d n).compare ∧ (tmrOf e n).missed = true) ∧
      ((tmrOf d n).waiting = true → Answers (.tmrGstart fn (BitVec.ofNat 16 (2 ^ n.val))) d fun e =>
        (tmrOf e n).running = true ∧ (tmrOf e n).cnt = 0 ∧ ∀ m : Fin 16, m ≠ n → tmrOf e m = tmrOf d m)) ∧
    ((tmrOf d n).fire = true → Answers (.passedCompareFire n) d fun e => (tmrOf e n).fire = false ∧
      (tmrOf e n).pin = ((if (tmrOf d n).actions % 4 = 1 then true else if (tmrOf d n).actions % 4 = 2 then false
        else if (tmrOf d n).actions % 4 = 3 then !(tmrOf d n).pin else (tmrOf d n).pin) && (tmrOf d n).pinEn) ∧
      (bit (tmrOf d n).actions 2 = true → (tmrOf e n).evtCmp = true))

/-- 22 R745, R751 to R758: what the SMBus target and the JTAG port answer and change. -/
def Obligations.BoardPorts : Prop :=
  ∀ d : Dev, d.boot.lost = false →
    (Answers .smbIdent d fun e => ∃ b : List Byte, b.length = 16 ∧ e.host.posted = d.host.posted ++ [.smb b] ∧ e.mem = d.mem) ∧
    (Answers .smbTelemetry d fun e => ∃ b : List Byte, b.length = 16 ∧ e.host.posted = d.host.posted ++ [.smb b] ∧
      blkField b 4 2 = d.power.cap % 65536) ∧
    (∀ a : W64, (a.toNat < 2 ^ 48 → Answers (.bridgeAddr a) d fun e => e.board.bridge = a.toNat) ∧
      (2 ^ 48 ≤ a.toNat → Answers (.bridgeAddr a) d fun e => e = d)) ∧
    (∀ (w : Option W32) (droop : W32), d.board.acc = [] → placeOf d d.board.bridge = .absent → Answers (.bridgeData w droop) d fun e =>
      e.board.bridge = (d.board.bridge + 4) % 2 ^ 48 ∧ e.board.bridgeFailed = true ∧ e.boot.boardAccess = true ∧ e.mem = d.mem) ∧
    (∀ droop : W32, d.board.acc = [] → d.boot.inReset = false → d.board.bridge = 0x002000001008 → Answers (.bridgeData none droop) d fun e =>
      e.board.bridgeFailed = false ∧ e.board.bridge = 0x00200000100C ∧ e.boot.boardAccess = true ∧ e.mem = d.mem) ∧
    (Answers .bridgeStatus d fun e => e.host.posted = d.host.posted ++
      [.smb [BitVec.ofNat 8 ((if d.board.bridgeFailed then 1 else 0) + (if d.board.acc.any (fun x => !x.jtag) then 2 else 0))]]) ∧
    (d.board.smbAlert = true → Answers .smbAlertResponse d fun e => e.board.smbAlert = false ∧ e.host.posted = d.host.posted ++ [.smb [0xB4]]) ∧
    (∀ (dr : BitVec 128) (droop : W32), d.board.debugDone = true →
      (dr.toNat / 2 ^ 113 % 4 = 1 → dr.toNat / 2 ^ 117 = 0 → dr.toNat / 2 ^ 64 % 2 ^ 48 % 8 ≠ 0 → Answers (.jtagDebugUpdate dr droop) d fun e =>
        e.board.debugDone = true ∧ e.board.debugError = true ∧ e.boot.boardAccess = true ∧ e.mem = d.mem) ∧
      (dr.toNat / 2 ^ 117 ≠ 0 → Answers (.jtagDebugUpdate dr droop) d fun e => e.board.debugError = true ∧ e.boot = d.boot ∧ e.mem = d.mem) ∧
      (dr.toNat / 2 ^ 112 = 2 → dr.toNat / 2 ^ 64 % 2 ^ 48 = 0x001000000000 → d.boot.inReset = false → bit (tabGet 0 d.fuse.slots 0) 0 = true →
        (clOf d 0).powered = true → Answers (.jtagDebugUpdate dr droop) d fun e => e.board.debugDone = true ∧ e.board.debugError = false ∧
          e.boot.boardAccess = true ∧ e.boot.boardWrite = d.boot.boardWrite ∧ e.mem.cells = d.mem.cells)) ∧
    (∀ (code : Fin 3) (low : Bool), Answers (.jtagExtest code low) d fun e => e.board.tapIr = BitVec.ofNat 8 (3 + code) ∧
      e.board.scan = (if low && d.boot.inReset then 3 + code.val else 0)) ∧
    (Answers .jtagTapReset d fun e => e.board.tapIr = 0x01 ∧ e.board.scan = 0)

/-! ## The command set (13, 15, 16) -/

/-- 15 R515, R532, R533, R536, R537, R540, R547, Table CMD-6: commands that read, and those that wait. -/
def Obligations.QueryCommands : Prop :=
  ∀ (d : Dev) (r : Fin 1024) (c : Cmd) (t : Nat), ControlUp d →
    (nextCmd d r 0x0001 = some c → Answers (.nop r) d fun e => SettledWith e c.id 0 0 0 ∧ e.ten = d.ten ∧ e.mem = d.mem) ∧
    (nextCmd d r 0x0002 = some c → pkField c.pkt 16 8 % 64 = 0 → pkField c.pkt 28 1 = 0 → 256 ≤ pkField c.pkt 24 4 → canIssue d (cmdFn d c) = true →
      Answers (.queryDevice r) d fun e => SettledWith e c.id 0 256 256 ∧
        ∃ b, b.length = 256 ∧ e.host.posted = d.host.posted ++ [.hostWrite (cmdFn d c) (pkField c.pkt 16 8) b]) ∧
    (nextCmd d r 0x0002 = some c → pkField c.pkt 16 8 % 64 = 0 → pkField c.pkt 28 1 = 5 → 16448 ≤ pkField c.pkt 24 4 →
      Answers (.queryDevice r) d fun e => SettledWith e c.id 0 16448 16448 ∧ e.mem.log = []) ∧
    (NextFor d r 0x0003 t c → pkField c.pkt 29 1 = 0xFF → pkField c.pkt 28 1 = 0 → pkField c.pkt 16 8 % 64 = 0 → 256 ≤ pkField c.pkt 24 4 →
      canIssue d (cmdFn d c) = true → Answers (.queryTenancy r) d fun e => SettledWith e c.id 0 256 256 ∧
        ∃ b, b.length = 256 ∧ e.host.posted = d.host.posted ++ [.hostWrite (cmdFn d c) (pkField c.pkt 16 8) b]) ∧
    (nextCmd d r 0x0502 = some c → Answers (.countRead r) d fun e =>
      (∃ x ∈ e.host.cmds, x.id = c.id ∧ x.stage = .done ∧ x.status = 0 ∧ x.gcDone = some (gcOf d.whl) ∧ x.res0 = gcOf d.whl / d.whl.w) ∧ e.whl = d.whl) ∧
    (nextCmd d r 0x0305 = some c → ((d.host.cmds.takeWhile fun x => x.id != c.id).any fun x => x.ring == c.ring) = false →
      Answers (.fence r) d fun e => SettledWith e c.id 0 0 0) ∧
    (nextCmd d r 0x0305 = some c → ((d.host.cmds.takeWhile fun x => x.id != c.id).any fun x => x.ring == c.ring) = true →
      Answers (.fence r) d fun e => e.host.cmds = d.host.cmds ∧ e.host.posted = d.host.posted ∧ e.ten = d.ten ∧ e.mem = d.mem) ∧
    (nextCmd d r 0x0306 = some c → countPassed d.whl (pkField c.pkt 16 8) = true → Answers (.waitCount r) d fun e => SettledWith e c.id 0 0 0) ∧
    (nextCmd d r 0x0306 = some c → countPassed d.whl (pkField c.pkt 16 8) = false → Answers (.waitCount r) d fun e => Armed e c.id (pkField c.pkt 16 8)) ∧
    (NextFor d r 0x0403 t c → pkField c.pkt 16 8 % 64 = 0 → pkField c.pkt 24 4 = 16 * (tenOf d t).digTable.length → canIssue d (cmdFn d c) = true →
      Answers (.digestTableRead r) d fun e => SettledWith e c.id 0 (tenOf d t).digTable.length (if (tenOf d t).digMark then 1 else 0) ∧
        e.host.posted = d.host.posted ++ [.hostWrite (cmdFn d c) (pkField c.pkt 16 8) (digBytes (tenOf d t))]) ∧
    (NextFor d r 0x0404 t c → pkField c.pkt 16 8 % 64 = 0 → Answers (.varianceRead r) d fun e => SettledWith e c.id 0 0 0 ∧
      (bit (pkField c.pkt 24 1) 0 = true → varCounts (tenOf e t) = [0, 0, 0, 0, 0]) ∧ (bit (pkField c.pkt 24 1) 0 = false → e.ten = d.ten)) ∧
    (nextCmd d r 0x0F02 = some c → pkField c.pkt 16 1 = 0 → pkField c.pkt 17 1 = 0 → pkField c.pkt 18 1 = 32 → pkField c.pkt 24 8 % 64 = 0 →
      canIssue d (cmdFn d c) = true → Answers (.partitionRead r) d fun e => SettledWith e c.id 0 0 0 ∧ e.host.posted = d.host.posted ++
        [.hostWrite (cmdFn d c) (pkField c.pkt 24 8) ((List.range 32).flatMap fun k => leBytes 128 (recOf d.grants.force k).toNat)])

/-- 12 R442: a load that succeeds completes with OK and leaves the tenancy LOADED, with IMAGE_ID and the number of clusters mapped
in its result words; one that meets an uncorrectable store or route
word completes with BAD_IMAGE and check 0x1E, and leaves the tenancy as it was (12 R440). An image is staged, verified,
unloaded, and its bucket chosen. A shared core runs a long command in steps (13 R446; log entry 109). -/
def Obligations.ImageCommands : Prop :=
  ∀ (d : Dev) (r : Fin 1024) (c : Cmd) (t : Nat), ControlUp d →
    (∀ x ∈ [(Instr.imageVerify r, 0x101), (.imageLoad r, 0x102), (.bufferWrite r, 0x200), (.bufferRead r, 0x201), (.bufferFill r, 0x202), (.bufferDigest r, 0x203)],
      nextCmd d r x.2 = some c → 0 < c.steps → Answers x.1 d fun e => e.ten = d.ten ∧ e.mem = d.mem ∧ e.cl = d.cl ∧
        ∃ y ∈ e.host.cmds, y.id = c.id ∧ y.stage = c.stage ∧ y.steps = c.steps - 1) ∧
    (NextFor d r 0x100 t c → c.stage = .ready → (tenOf d t).st = .vacant → (tenOf d t).loading = none → pkField c.pkt 16 8 % 64 = 0 →
      Answers (.imageStage r) d fun e => Asked e c.id (pkField c.pkt 16 8) 192 ∧ (tenOf e t).st = .vacant) ∧
    (NextFor d r 0x100 t c → c.stage = .fetched → c.status = 0 → (tenOf d t).st = .vacant → (tenOf d t).loading = none →
      headerOk (imgArray c.data) (pkField c.pkt 24 4) = true → Answers (.imageStage r) d fun e => Settled e c.id 0 ∧ (tenOf e t).st = .staged ∧
        (tenOf e t).stagedAddr = pkField c.pkt 16 8 ∧ (tenOf e t).stagedLen = pkField c.pkt 24 4 ∧ e.mem = d.mem) ∧
    (NextFor d r 0x101 t c → c.steps = 0 → c.stage = .ready → (tenOf d t).st = .staged → (tenOf d t).loading = none → Answers (.imageVerify r) d fun e =>
      Asked e c.id (tenOf d t).stagedAddr (tenOf d t).stagedLen) ∧
    (NextFor d r 0x101 t c → c.steps = 0 → c.stage = .fetched → c.status = 0 → verifyRefuse d.whl (imgArray c.data) (tenOf d t).stagedLen = none →
      Answers (.imageVerify r) d fun e => SettledWith e c.id 0 0 0 ∧ e.ten = d.ten ∧ e.mem = d.mem) ∧
    (NextFor d r 0x102 t c → c.steps = 0 → c.stage = .ready → (tenOf d t).st = .staged → (tenOf d t).loading = none → isClearing d t = false →
      Answers (.imageLoad r) d fun e => Asked e c.id (tenOf d t).stagedAddr (tenOf d t).stagedLen ∧ (tenOf e t).loading = some c.id) ∧
    (∀ g : Dev, g = withGrant t (tenOf d t).loadGrant (tookTurn r d) → NextFor d r 0x102 t c → c.steps = 0 → c.stage = .fetched → c.status = 0 →
      loadFailure t (tenOf d t).stagedHead (tenOf d t).stagedLen (imgArray c.data) g = none →
      (storeStruck g t (imgArray c.data) = false → routeStruck g (imgArray c.data) = false → Answers (.imageLoad r) d fun e =>
        SettledWith e c.id 0 (imgField (imgArray c.data) 16 8) (mapped g t (imgArray c.data)).length ∧ (tenOf e t).st = .loaded ∧
          (tenOf e t).loading = none ∧ (tenOf e t).image.isSome = true ∧ e.grants = d.grants) ∧
      (storeStruck g t (imgArray c.data) = true ∨ routeStruck g (imgArray c.data) = true → Answers (.imageLoad r) d fun e =>
        SettledWith e c.id 6 (res0Of 0x1E 0xFF 0xFF 0xFF 0xFFFFFFFF) 0xFFFFFFFF ∧ (tenOf e t).st = (tenOf d t).st ∧ (tenOf e t).loading = none ∧
          (tenOf e t).image = (tenOf d t).image ∧ e.grants = d.grants)) ∧
    (NextFor d r 0x103 t c → (tenOf d t).loading = none → (tenOf d t).st = .staged → Answers (.imageUnload r) d fun e =>
      (tenOf e t).st = .vacant ∧ SettledWith e c.id 0 0 0) ∧
    (NextFor d r 0x103 t c → (tenOf d t).loading = none → (tenOf d t).st = .loaded → Answers (.imageUnload r) d fun e =>
      (tenOf e t).st = .draining ∧ (tenOf e t).image = none ∧ ∃ x ∈ e.host.cmds, x.id = c.id ∧ x.stage = .armed) ∧
    (∀ im : Loaded, NextFor d r 0x104 t c → (tenOf d t).loading = none → (tenOf d t).st = .loaded → (tenOf d t).image = some im → recording (tenOf d t) c.pkt = false →
      (pkField c.pkt 16 1 < im.numBuckets ∨ pkField c.pkt 16 1 = 255) → Answers (.bucketSelect r) d fun e =>
        (tenOf e t).bucket = pkField c.pkt 16 1 ∧ SettledWith e c.id 0 0 0 ∧ e.mem = d.mem)

/-- 15 R520 to R526; 10 R379, R380: buffer commands store, send and digest exactly the bytes they name. -/
def Obligations.BufferCommands : Prop :=
  ∀ (d : Dev) (r : Fin 1024) (c : Cmd) (t : Nat), ControlUp d → Memory.wf d.mem.cells = true →
    (NextFor d r 0x200 t c → c.steps = 0 → c.stage = .ready → bufferAdmits d t = true → moveRefuse d t 0x200 c.pkt = none → recording (tenOf d t) c.pkt = false →
      Answers (.bufferWrite r) d fun e => Asked e c.id (pkField c.pkt 32 8) (pkField c.pkt 40 4) ∧ e.mem = d.mem) ∧
    (NextFor d r 0x200 t c → c.steps = 0 → c.stage = .fetched → c.status = 0 → c.data.length = pkField c.pkt 40 4 → moveRefuse d t 0x200 c.pkt = none → (tenOf d t).journal = none →
      Answers (.bufferWrite r) d fun e => SettledWith e c.id 0 (pkField c.pkt 40 4) 0 ∧
        (∀ i < c.data.length, byteAt e (bufStart d t c.pkt + i) = c.data.getD i 0) ∧
        ∀ a, a < bufStart d t c.pkt ∨ bufStart d t c.pkt + c.data.length ≤ a → byteAt e a = byteAt d a) ∧
    (NextFor d r 0x202 t c → c.steps = 0 → bufferAdmits d t = true → moveRefuse d t 0x202 c.pkt = none → recording (tenOf d t) c.pkt = false →
      Answers (.bufferFill r) d fun e => SettledWith e c.id 0 (pkField c.pkt 40 4) 0 ∧
        (∀ i < pkField c.pkt 40 4, byteAt e (bufStart d t c.pkt + i) = BitVec.ofNat 8 (pkField c.pkt 32 8 / 256 ^ (i % 8))) ∧
        ∀ a, a < bufStart d t c.pkt ∨ bufStart d t c.pkt + pkField c.pkt 40 4 ≤ a → byteAt e a = byteAt d a) ∧
    (NextFor d r 0x201 t c → c.steps = 0 → bufferAdmits d t = true → moveRefuse d t 0x201 c.pkt = none → d.mem.ecc = [] → ((areaOf c.pkt).tier = 0 → (clOf d (areaOf c.pkt).cl).powered = true) →
      canIssue d (cmdFn d c) = true → Answers (.bufferRead r) d fun e => SettledWith e c.id 0 (pkField c.pkt 40 4) 0 ∧ e.mem.cells = d.mem.cells ∧
        ∃ b : List Byte, e.host.posted = d.host.posted ++ [.hostWrite (cmdFn d c) (pkField c.pkt 32 8) b] ∧ b.length = pkField c.pkt 40 4 ∧
          ∀ i < b.length, b.getD i 0 = byteAt d (bufStart d t c.pkt + i)) ∧
    (NextFor d r 0x203 t c → c.steps = 0 → bufferAdmits d t = true → digestOk c.pkt = true → digestHeld (grantOf d t) c.pkt = true → d.mem.ecc = [] →
      ((areaOf c.pkt).tier = 0 → (clOf d (areaOf c.pkt).cl).powered = true) → pkField c.pkt 32 4 = 1 → pkField c.pkt 36 4 = 1 → pkField c.pkt 18 1 = 0 →
      Answers (.bufferDigest r) d fun e => e.mem.cells = d.mem.cells ∧ SettledWith e c.id 0
        (mask64 (dmix (pkField c.pkt 44 3) (pkField c.pkt 48 8 % 2 ^ 48) 0 (memRead d.mem.cells (bufStart d t c.pkt) 4))) 0)

/-- 15 R534, R535; 16 R576, R582: the Sepia journal is started, stopped and read for a replay. -/
def Obligations.JournalCommands : Prop :=
  ∀ (d : Dev) (r : Fin 1024) (c : Cmd) (t : Nat), ControlUp d →
    (NextFor d r 0x400 t c → (tenOf d t).st ≠ .draining → (tenOf d t).journal = none → (tenOf d t).replay = none → journalArea (pkField c.pkt 16 8) (pkField c.pkt 24 4) = true →
      Answers (.journalStart r) d fun e => SettledWith e c.id 0 (gcOf d.whl) 0 ∧ e.mem = d.mem ∧ ∃ j, (tenOf e t).journal = some j ∧
        j.addr = pkField c.pkt 16 8 ∧ j.length = pkField c.pkt 24 4 ∧ j.startGc = gcOf d.whl) ∧
    (∀ j : Journal, NextFor d r 0x401 t c → (tenOf d t).journal = some j → (∀ p, (tenOf d t).program = some p → p.held = []) → Answers (.journalStop r) d fun e =>
      SettledWith e c.id 0 j.used j.records ∧ (tenOf e t).journal = none ∧ e.mem = d.mem) ∧
    (∀ j : Journal, NextFor d r 0x401 t c → (tenOf (journalFlush t (tookTurn r d)) t).journal = some j → Answers (.journalStop r) d fun e =>
      SettledWith e c.id 0 j.used j.records ∧ (tenOf e t).journal = none ∧ e.mem = d.mem) ∧
    ((findCmd d fun c => c.ring == r.val && opcodeOf c == 0x402 && c.stage == .armed && !c.interrupted) = none → NextFor d r 0x402 t c →
      (tenOf d t).replay = none → (tenOf d t).st = .loaded → (tenOf d t).loading = none → 64 ≤ pkField c.pkt 24 4 → Answers (.replayStart r) d fun e =>
        Asked e c.id (pkField c.pkt 16 8) (pkField c.pkt 24 4) ∧ (tenOf e t).st = .loaded ∧ ∃ p, (tenOf e t).replay = some p ∧ p.cmd = c.id)

/-- 03 R118: a LAUNCH_AT count that is no multiple of W is refused with BAD_PARAM. 03 R119: one below now + 2 W is refused with LATE
and starts nothing. 14 R482: SUSPEND and RESUME of a tenancy of class A or B are refused with NOT_PERMITTED. Launches that pass are
posted, and halts, suspensions and resumptions wait for their boundary. -/
def Obligations.LaunchCommands : Prop :=
  ∀ (d : Dev) (r : Fin 1024) (c : Cmd) (t : Nat), ControlUp d → recording (tenOf d t) c.pkt = false →
    (∀ (im : Loaded) (k : Nat) (ws : List Nat), (tenOf d t).st = .loaded → (tenOf d t).image = some im → bufferOpen d t = false → (tenOf d t).loading = none →
      (tenOf d t).replay = none → spanRuns d im = true → selectBucket (tenOf d t) im c.pkt = .ok (k, ws) →
      (NextFor d r 0x300 t c → pkField c.pkt 16 8 % d.whl.w = 0 → gcOf d.whl + 2 * d.whl.w ≤ pkField c.pkt 16 8 → Answers (.launchAt r) d fun e =>
        (tenOf e t).st = .armed ∧ Armed e c.id (pkField c.pkt 16 8) ∧ ∃ p, (tenOf e t).program = some p ∧ p.launch = pkField c.pkt 16 8 ∧
          p.completion = pkField c.pkt 16 8 + im.ticks ∧ p.bucket = k ∧ p.words = ws) ∧
      (NextFor d r 0x301 t c → im.bound = [] → Answers (.launchNext r) d fun e => (tenOf e t).st = .armed ∧
        ∃ p, (tenOf e t).program = some p ∧ p.launch = ceilDiv (gcOf d.whl + 2 * d.whl.w) d.whl.w * d.whl.w ∧ p.bucket = k ∧ p.words = ws) ∧
      (NextFor d r 0x300 t c → pkField c.pkt 16 8 % d.whl.w = 0 → pkField c.pkt 16 8 < gcOf d.whl + 2 * d.whl.w → Answers (.launchAt r) d fun e =>
        e.ten = d.ten ∧ SettledWith e c.id 1 0 0) ∧
      (NextFor d r 0x300 t c → pkField c.pkt 16 8 % d.whl.w ≠ 0 → Answers (.launchAt r) d fun e =>
        e.ten = d.ten ∧ SettledWith e c.id 5 0 0)) ∧
    (NextFor d r 0x302 t c → isLive (tenOf d t).st = true → pkField c.pkt 16 8 % d.whl.w = 0 → Answers (.haltAt r) d fun e =>
      Armed e c.id (boundaryAt d (pkField c.pkt 16 8)) ∧ e.ten = d.ten) ∧
    (NextFor d r 0x303 t c → recClass (grantOf d t) = 3 → bindsLink (tenOf d t) = false → (tenOf d t).st = .running → pkField c.pkt 16 8 % d.whl.w = 0 →
      Answers (.suspend r) d fun e => Armed e c.id (boundaryAt d (pkField c.pkt 16 8)) ∧ e.ten = d.ten) ∧
    (NextFor d r 0x303 t c → recClass (grantOf d t) ≠ 3 → Answers (.suspend r) d fun e => SettledWith e c.id 3 0 0 ∧ e.ten = d.ten) ∧
    (NextFor d r 0x304 t c → recClass (grantOf d t) ≠ 3 → Answers (.resume r) d fun e => SettledWith e c.id 3 0 0 ∧ e.ten = d.ten) ∧
    (∀ s : Nat, NextFor d r 0x304 t c → recClass (grantOf d t) = 3 → (tenOf d t).st = .suspended → (tenOf d t).suspendedAt = some s → bufferOpen d t = false →
      Answers (.resume r) d fun e => e.ten = d.ten ∧
        Armed e c.id (resumeWheel s (boundaryAt d (ceilDiv (pkField c.pkt 16 8) d.whl.w * d.whl.w) / d.whl.w) * d.whl.w))

/-- 15 R538, R539, R541 to R544; 14 R506: spans, timers and bitstream units. -/
def Obligations.UnitCommands : Prop :=
  ∀ (d : Dev) (r : Fin 1024) (c : Cmd) (t : Nat), ControlUp d →
    (nextCmd d r 0x500 = some c → cmdFn d c = 0 → d.span.joined = false → d.span.toForm = false → fileOk d c.block (pkField c.pkt 24 4) = true →
      Answers (.spanJoin r) d fun e => e.span.toForm = true ∧ e.span.joinCmd = some c.id ∧ e.span.ranks = ranksOf c.block ∧ Armed e c.id 0) ∧
    (nextCmd d r 0x501 = some c → cmdFn d c = 0 → d.span.toForm = false → d.span.state ≠ .forming → spanInUse d = false →
      Answers (.spanLeave r) d fun e => Armed e c.id (nextBoundary d.whl) ∧ e.span = d.span) ∧
    (nextCmd d r 0x503 = some c → (ringOf d r).ten = t → t < 32 → recClass (grantOf d t) ≠ 0 → (tenOf d t).st ≠ .draining → timerBadParam c.pkt = false →
      mayProgram d r (pkField c.pkt 16 1) = true →
      (pkField c.pkt 40 1 = 0 → Answers (.timerProgram r) d fun e => SettledWith e c.id 0 0 0 ∧ (tmrOf e (pkField c.pkt 16 1)).waiting = true ∧
        (tmrOf e (pkField c.pkt 16 1)).running = false ∧ (tmrOf e (pkField c.pkt 16 1)).top = pkField c.pkt 32 8 ∧
        (tmrOf e (pkField c.pkt 16 1)).compare = pkField c.pkt 24 8 ∧ ∀ m, m ≠ pkField c.pkt 16 1 → tmrOf e m = tmrOf d m) ∧
      (pkField c.pkt 40 1 = 1 → Answers (.timerProgram r) d fun e => SettledWith e c.id 0 (gcOf d.whl) 0 ∧
        (tmrOf e (pkField c.pkt 16 1)).running = true ∧ (tmrOf e (pkField c.pkt 16 1)).cnt = 0 ∧ (tmrOf e (pkField c.pkt 16 1)).last = d.whl.now)) ∧
    (nextCmd d r 0x504 = some c → (ringOf d r).ten = t → t < 32 → recClass (grantOf d t) ≠ 0 → (tenOf d t).st ≠ .draining →
      (∀ n ∈ maskChannels (pkField c.pkt 16 2), mayProgram d r n = true ∧ (tmrOf d n).waiting = true ∧ (tmrOf d n).group = true) → pkField c.pkt 24 8 = 0 →
      Answers (.timerStartGroup r) d fun e => ∀ n ∈ maskChannels (pkField c.pkt 16 2), (tmrOf e n).startTick = some (d.whl.now + 1)) ∧
    (∀ n : Nat, NextFor d r 0x600 t c → (tenOf d t).st ≠ .faulted → (tenOf d t).st ≠ .draining → pkField c.pkt 16 1 < 4 → recBsu (grantOf d t) (pkField c.pkt 16 1) = 1 →
      (bsuOf d (pkField c.pkt 16 1)).lease = none → bit (pkField c.pkt 17 1) 0 = false → pkField c.pkt 20 4 = n → n ≠ 0 → n ≤ recLease (grantOf d t) →
      Answers (.bsuBind r) d fun e => (bsuOf e (pkField c.pkt 16 1)).lease = some (t, ceilDiv (gcOf d.whl + n) d.whl.w * d.whl.w) ∧
        SettledWith e c.id 0 (ceilDiv (gcOf d.whl + n) d.whl.w * d.whl.w) 0) ∧
    (∀ u x : Nat, NextFor d r 0x600 t c → (tenOf d t).st ≠ .faulted → (tenOf d t).st ≠ .draining → pkField c.pkt 16 1 < 4 →
      recBsu (grantOf d t) (pkField c.pkt 16 1) = 1 → (bsuOf d (pkField c.pkt 16 1)).lease = some (u, x) → u ≠ t → Answers (.bsuBind r) d fun e =>
        SettledWith e c.id 2 x 0 ∧ e.bsu = d.bsu) ∧
    (NextFor d r 0x601 t c → (tenOf d t).st = .loaded → configOk c.block = true → bsuHolder d (blkField c.block 0 1) = some t → recording (tenOf d t) c.pkt = false →
      Answers (.bsuConfig r) d fun e => SettledWith e c.id 0 0 0 ∧ (bsuOf e (blkField c.block 0 1)).configured = true ∧
        (bsuOf e (blkField c.block 0 1)).codec = blkField c.block 1 1 ∧ (bsuOf e (blkField c.block 0 1)).bankLines = blkField c.block 4 2 ∧
        (bsuOf e (blkField c.block 0 1)).lastReset = 6) ∧
    (NextFor d r 0x602 t c → (tenOf d t).st = .loaded → pkField c.pkt 16 1 < 4 → bsuHolder d (pkField c.pkt 16 1) = some t → (bsuOf d (pkField c.pkt 16 1)).queue ≠ [] →
      (∀ x ∈ d.host.cmds, opcodeOf x = 0x602 → x = c) → Answers (.bsuFlush r) d fun e => Armed e c.id (gcOf d.whl) ∧ e.bsu = d.bsu)

/-- 15 R545 to R555; 14 R490 to R492; 20 R682 to R685, R697, R702: the commands of the root. -/
def Obligations.RootCommands : Prop :=
  ∀ (d : Dev) (r : Fin 1024) (c : Cmd), ControlUp d →
    (nextCmd d r 0xF00 = some c → stageOk c.block (pkField c.pkt 24 4) = true → Answers (.partitionStage r) d fun e =>
      SettledWith e c.id 0 (ceilDiv (gcOf d.whl + blkField c.block 0 4) d.whl.w * d.whl.w) 0 ∧ e.grants.force = d.grants.force ∧
        ∃ s, e.grants.staging = some s ∧ s.expiry = ceilDiv (gcOf d.whl + blkField c.block 0 4) d.whl.w * d.whl.w) ∧
    (nextCmd d r 0xF01 = some c → d.host.cmds = [c] → c.stage = .ready → pkField c.pkt 16 8 % d.whl.w = 0 → d.grants.staging.isSome = true →
      Answers (.partitionCommit r) d fun e => Armed e c.id (boundaryAt d (pkField c.pkt 16 8)) ∧ e.grants = d.grants) ∧
    (nextCmd d r 0xF03 = some c → pkField c.pkt 16 1 = 1 → pkField c.pkt 17 1 < 4 → Answers (.leaseRevoke r) d fun e =>
      Armed e c.id (nextBoundary d.whl) ∧ e.bsu = d.bsu) ∧
    (nextCmd d r 0xF04 = some c → pkField c.pkt 16 2 < 1024 → pkField c.pkt 18 1 < 64 → pkField c.pkt 19 1 = 0xFF → pkField c.pkt 20 1 = 0 →
      (ringOf d (pkField c.pkt 16 2)).st = .unassigned → Answers (.ringAssign r) d fun e => SettledWith e c.id 0 0 0 ∧
        (ringOf e (pkField c.pkt 16 2)).st = .ready ∧ (ringOf e (pkField c.pkt 16 2)).function = pkField c.pkt 18 1 ∧
        (ringOf e (pkField c.pkt 16 2)).ten = 0xFF ∧ (ringOf e (pkField c.pkt 16 2)).home = 0 ∧ ∀ x, x ≠ pkField c.pkt 16 2 → ringOf e x = ringOf d x) ∧
    (nextCmd d r 0xF05 = some c → pkField c.pkt 16 2 ≠ 0 → pkField c.pkt 16 2 ≤ 700 →
      (lowestCapNow (tookTurn r d) ≤ pkField c.pkt 16 2 → Answers (.powerCapSet r) d fun e => e.power.cap = pkField c.pkt 16 2 ∧ SettledWith e c.id 0 (pkField c.pkt 16 2) 0) ∧
      (pkField c.pkt 16 2 < lowestCapNow (tookTurn r d) → Answers (.powerCapSet r) d fun e => e.power = d.power ∧ SettledWith e c.id 15 0 (lowestCapNow (tookTurn r d)))) ∧
    (nextCmd d r 0xF06 = some c → d.host.cmds = [c] → c.stage = .ready → pkField c.pkt 20 1 = 1 → pkField c.pkt 24 8 % d.whl.w = 0 →
      Answers (.islandPower r) d fun e => Armed e c.id (boundaryAt d (pkField c.pkt 24 8)) ∧ e.clk = d.clk) ∧
    (nextCmd d r 0xF07 = some c → c.stage = .ready → pkField c.pkt 24 4 ≠ 0 → pkField c.pkt 24 4 % 64 = 0 → pkField c.pkt 24 4 ≤ 16777216 →
      Answers (.firmwareStage r) d fun e => Asked e c.id (pkField c.pkt 16 8) (pkField c.pkt 24 4) ∧ e.boot = d.boot) ∧
    (∀ f : Firmware, nextCmd d r 0xF08 = some c → d.boot.activating = none → d.boot.staged = some f → (∀ x ∈ d.host.cmds, x.ring = r.val) →
      Answers (.firmwareActivate r) d fun e => e.boot.activating = some c.id ∧ Armed e c.id 0 ∧ ∀ n < 16, (coreOf e n).wdHeld = true) ∧
    (∀ (f : Firmware) (id : Nat), d.boot.activating = some id → d.boot.staged = some f → (findCmd d fun c => c.id == id && c.ring == r.val) = some c →
      Answers (.firmwareActivate r) d fun e => e.boot.activating = none ∧ e.boot.firmware = some f ∧ Settled e id 0 ∧ ∀ n < 16, (coreOf e n).wdHeld = false) ∧
    (nextCmd d r 0xF09 = some c → pkField c.pkt 16 1 < 16 → pkField c.pkt 17 1 = 2 → pkField c.pkt 18 1 = 0 → bit d.fuse.links (pkField c.pkt 16 1) = true →
      d.span.joined = false → Answers (.linkControl r) d fun e => (lnkOf e (pkField c.pkt 16 1)).state = .off ∧ (lnkOf e (pkField c.pkt 16 1)).disabled = true ∧
        Settled e c.id 0 ∧ ∀ x, x ≠ pkField c.pkt 16 1 → lnkOf e x = lnkOf d x) ∧
    (nextCmd d r 0xF0A = some c → pkField c.pkt 16 1 < 32 → pkField c.pkt 24 8 = 0 → Answers (.tenancyReset r) d fun e =>
      Armed e c.id (nextBoundary d.whl) ∧ e.ten = d.ten) ∧
    (nextCmd d r 0xF0B = some c → pkField c.pkt 24 4 = (cfgLength c.block + 63) / 64 * 64 → d.boot.sealPend = none → cfgErrors (tookTurn r d) c.block true = [] →
      Answers (.configSeal r) d fun e => e.boot.sealPend.isSome = true ∧ e.boot.state = d.boot.state ∧ Armed e c.id 0) ∧
    (∀ (x : CfgErr) (xs : List CfgErr), nextCmd d r 0xF0B = some c → pkField c.pkt 24 4 = (cfgLength c.block + 63) / 64 * 64 → d.boot.sealPend = none →
      cfgErrors (tookTurn r d) c.block true = x :: xs → Answers (.configSeal r) d fun e => SettledWith e c.id 17 (xs.length + 1) x.rule ∧
        e.boot.sealPend = none ∧ e.boot.state = d.boot.state)
/-! ## Frames, check codes and sums -/

/-- Every section read as a whole: a command leaves the queue and every part of the device
outside its touched parts as they were, memory's bytes among them. -/
def Obligations.DeviceFrame : Prop :=
  ∀ (c : Instr) (s t : State), exec c s = .next t → t.pending = s.pending ∧ ∀ p : Part, p ∉ touched c → Same p s.dev t.dev

/-- 04 R131: H(n) in order; each check bit is the exclusive OR of the data bits that H names, payload before sideband.
04 R132: what a receiver makes of each syndrome. A sealed flit with one data bit inverted on its way comes back whole. -/
def Obligations.FlitEcc : Prop :=
  hList = ((List.range 16384).filter fun v =>
    decide ((List.range 14).countP (fun k => v.testBit k) % 2 = 1 ∧ 3 ≤ (List.range 14).countP fun k => v.testBit k)).take 530 ∧
  hList.length = 530 ∧ hList.take 5 = [0x0007, 0x000B, 0x000D, 0x000E, 0x0013] ∧
  (∀ f : Flit, (∀ n < 512, (flitData f).testBit n = f.data.getLsbD n) ∧ (∀ n < 6, (flitData f).testBit (512 + n) = f.ten.getLsbD n) ∧
    (∀ n < 10, (flitData f).testBit (518 + n) = f.tag.getLsbD n) ∧ (flitData f).testBit 528 = f.late ∧
    (flitData f).testBit 529 = f.poison ∧ flitData f < 2 ^ 530) ∧
  (∀ (f : Flit) (k : Nat), k < 14 → (eccOf f).getLsbD k =
    (List.range 530).foldl (fun a n => a ^^ ((hList.getD n 0).testBit k && (flitData f).testBit n)) false) ∧
  (∀ f : Flit, f.ecc = eccOf f → eccCheck f = (f, .clean)) ∧
  (∀ (f : Flit) (k : Nat), k < 14 → (f.ecc ^^^ eccOf f).toNat = 2 ^ k → eccCheck f = ({ f with ecc := eccOf f }, .corrected)) ∧
  (∀ (f : Flit) (n : Nat), n < 530 → (f.ecc ^^^ eccOf f).toNat = hList.getD n 0 →
    ∃ g, eccCheck f = (g, .corrected) ∧ flitData g = flitData f ^^^ 2 ^ n ∧ g.ecc = f.ecc) ∧
  (∀ f : Flit, f.ecc ≠ eccOf f → (∀ k < 14, (f.ecc ^^^ eccOf f).toNat ≠ 2 ^ k) → (f.ecc ^^^ eccOf f).toNat ∉ hList →
    eccCheck f = ({ f with poison := true }, .bad)) ∧
  (∀ (f g : Flit) (n : Nat), n < 530 → f.ecc = eccOf f → flitData g = flitData f ^^^ 2 ^ n → g.ecc = f.ecc →
    eccCheck g = (f, .corrected))

/-- 08 R311: what a contribution adds, and that the final sum and flags of an element do not depend on the order of its
contributions or on how they were grouped into wide partials. -/
def Obligations.ExactSums : Prop :=
  (∀ (x : ExElem) (sign : Bool) (m : Nat) (e : Int), -32 ≤ e →
    exAdd x (.fin sign m e) = { x with a := BitVec.ofInt 96 (x.a.toInt + (if sign then -1 else 1) * (m * 2 ^ (e + 32).toNat : Nat)) }) ∧
  (∀ x : ExElem, exAdd x (.inf false) = { x with pos := true } ∧ exAdd x (.inf true) = { x with neg := true } ∧
    exAdd x .nan = { x with nan := true }) ∧
  (∀ (s u : Bool) (m : Nat) (e : Int), m ≠ 0 → valMul (.inf s) (.fin u m e) = .inf (s != u) ∧
    valMul (.fin u m e) (.inf s) = .inf (u != s)) ∧
  (∀ (s u : Bool) (e : Int), valMul (.inf s) (.fin u 0 e) = .nan ∧ valMul (.fin u 0 e) (.inf s) = .nan) ∧
  (∀ (x : ExElem) (vs : List Val), (x.nan = true → (vs.foldl exAdd x).nan = true) ∧
    (x.pos = true → (vs.foldl exAdd x).pos = true) ∧ (x.neg = true → (vs.foldl exAdd x).neg = true)) ∧
  (∀ (x : ExElem) (vs us : List Val), vs.Perm us → vs.foldl exAdd x = us.foldl exAdd x) ∧
  (∀ (x : ExElem) (vs us : List Val), (vs ++ us).foldl exAdd x = exMerge (vs.foldl exAdd x) (us.foldl exAdd {})) ∧
  (∀ x y z : ExElem, exMerge x y = exMerge y x ∧ exMerge (exMerge x y) z = exMerge x (exMerge y z))
end

