-- ==== Sys2Proof/Laws/State.lean ====
section
/-!
SUPPORT. One lemma for each field of the device and each named update of it, true by unfolding once, so that no later
proof unfolds a record update.
-/
namespace Sys2Proof.Machine

variable (d : Dev)

@[simp] theorem modTen_clk (t : Nat) (f : Tenancy → Tenancy) : (modTen t f d).clk = d.clk := (rfl)
@[simp] theorem modTen_whl (t : Nat) (f : Tenancy → Tenancy) : (modTen t f d).whl = d.whl := (rfl)
@[simp] theorem modTen_span (t : Nat) (f : Tenancy → Tenancy) : (modTen t f d).span = d.span := (rfl)
@[simp] theorem modTen_fab (t : Nat) (f : Tenancy → Tenancy) : (modTen t f d).fab = d.fab := (rfl)
@[simp] theorem modTen_lnk (t : Nat) (f : Tenancy → Tenancy) : (modTen t f d).lnk = d.lnk := (rfl)
@[simp] theorem modTen_mem (t : Nat) (f : Tenancy → Tenancy) : (modTen t f d).mem = d.mem := (rfl)
@[simp] theorem modTen_cl (t : Nat) (f : Tenancy → Tenancy) : (modTen t f d).cl = d.cl := (rfl)
@[simp] theorem modTen_ten (t : Nat) (f : Tenancy → Tenancy) : (modTen t f d).ten = tabMod {} t f d.ten := (rfl)
@[simp] theorem modTen_grants (t : Nat) (f : Tenancy → Tenancy) : (modTen t f d).grants = d.grants := (rfl)
@[simp] theorem modTen_host (t : Nat) (f : Tenancy → Tenancy) : (modTen t f d).host = d.host := (rfl)
@[simp] theorem modTen_dma (t : Nat) (f : Tenancy → Tenancy) : (modTen t f d).dma = d.dma := (rfl)
@[simp] theorem modTen_bsu (t : Nat) (f : Tenancy → Tenancy) : (modTen t f d).bsu = d.bsu := (rfl)
@[simp] theorem modTen_tmr (t : Nat) (f : Tenancy → Tenancy) : (modTen t f d).tmr = d.tmr := (rfl)
@[simp] theorem modTen_boot (t : Nat) (f : Tenancy → Tenancy) : (modTen t f d).boot = d.boot := (rfl)
@[simp] theorem modTen_power (t : Nat) (f : Tenancy → Tenancy) : (modTen t f d).power = d.power := (rfl)
@[simp] theorem modTen_board (t : Nat) (f : Tenancy → Tenancy) : (modTen t f d).board = d.board := (rfl)
@[simp] theorem modTen_flash (t : Nat) (f : Tenancy → Tenancy) : (modTen t f d).flash = d.flash := (rfl)
@[simp] theorem modTen_mail (t : Nat) (f : Tenancy → Tenancy) : (modTen t f d).mail = d.mail := (rfl)
@[simp] theorem modTen_fuse (t : Nat) (f : Tenancy → Tenancy) : (modTen t f d).fuse = d.fuse := (rfl)

@[simp] theorem setCl_clk (c : Nat) (k : Cluster) : (setCl c k d).clk = d.clk := (rfl)
@[simp] theorem setCl_whl (c : Nat) (k : Cluster) : (setCl c k d).whl = d.whl := (rfl)
@[simp] theorem setCl_span (c : Nat) (k : Cluster) : (setCl c k d).span = d.span := (rfl)
@[simp] theorem setCl_fab (c : Nat) (k : Cluster) : (setCl c k d).fab = d.fab := (rfl)
@[simp] theorem setCl_lnk (c : Nat) (k : Cluster) : (setCl c k d).lnk = d.lnk := (rfl)
@[simp] theorem setCl_mem (c : Nat) (k : Cluster) : (setCl c k d).mem = d.mem := (rfl)
@[simp] theorem setCl_cl (c : Nat) (k : Cluster) : (setCl c k d).cl = tabSet c k d.cl := (rfl)
@[simp] theorem setCl_ten (c : Nat) (k : Cluster) : (setCl c k d).ten = d.ten := (rfl)
@[simp] theorem setCl_grants (c : Nat) (k : Cluster) : (setCl c k d).grants = d.grants := (rfl)
@[simp] theorem setCl_host (c : Nat) (k : Cluster) : (setCl c k d).host = d.host := (rfl)
@[simp] theorem setCl_dma (c : Nat) (k : Cluster) : (setCl c k d).dma = d.dma := (rfl)
@[simp] theorem setCl_bsu (c : Nat) (k : Cluster) : (setCl c k d).bsu = d.bsu := (rfl)
@[simp] theorem setCl_tmr (c : Nat) (k : Cluster) : (setCl c k d).tmr = d.tmr := (rfl)
@[simp] theorem setCl_boot (c : Nat) (k : Cluster) : (setCl c k d).boot = d.boot := (rfl)
@[simp] theorem setCl_power (c : Nat) (k : Cluster) : (setCl c k d).power = d.power := (rfl)
@[simp] theorem setCl_board (c : Nat) (k : Cluster) : (setCl c k d).board = d.board := (rfl)
@[simp] theorem setCl_flash (c : Nat) (k : Cluster) : (setCl c k d).flash = d.flash := (rfl)
@[simp] theorem setCl_mail (c : Nat) (k : Cluster) : (setCl c k d).mail = d.mail := (rfl)
@[simp] theorem setCl_fuse (c : Nat) (k : Cluster) : (setCl c k d).fuse = d.fuse := (rfl)

@[simp] theorem modCl_clk (c : Nat) (f : Cluster → Cluster) : (modCl c f d).clk = d.clk := (rfl)
@[simp] theorem modCl_whl (c : Nat) (f : Cluster → Cluster) : (modCl c f d).whl = d.whl := (rfl)
@[simp] theorem modCl_span (c : Nat) (f : Cluster → Cluster) : (modCl c f d).span = d.span := (rfl)
@[simp] theorem modCl_fab (c : Nat) (f : Cluster → Cluster) : (modCl c f d).fab = d.fab := (rfl)
@[simp] theorem modCl_lnk (c : Nat) (f : Cluster → Cluster) : (modCl c f d).lnk = d.lnk := (rfl)
@[simp] theorem modCl_mem (c : Nat) (f : Cluster → Cluster) : (modCl c f d).mem = d.mem := (rfl)
@[simp] theorem modCl_cl (c : Nat) (f : Cluster → Cluster) : (modCl c f d).cl = tabMod {} c f d.cl := (rfl)
@[simp] theorem modCl_ten (c : Nat) (f : Cluster → Cluster) : (modCl c f d).ten = d.ten := (rfl)
@[simp] theorem modCl_grants (c : Nat) (f : Cluster → Cluster) : (modCl c f d).grants = d.grants := (rfl)
@[simp] theorem modCl_host (c : Nat) (f : Cluster → Cluster) : (modCl c f d).host = d.host := (rfl)
@[simp] theorem modCl_dma (c : Nat) (f : Cluster → Cluster) : (modCl c f d).dma = d.dma := (rfl)
@[simp] theorem modCl_bsu (c : Nat) (f : Cluster → Cluster) : (modCl c f d).bsu = d.bsu := (rfl)
@[simp] theorem modCl_tmr (c : Nat) (f : Cluster → Cluster) : (modCl c f d).tmr = d.tmr := (rfl)
@[simp] theorem modCl_boot (c : Nat) (f : Cluster → Cluster) : (modCl c f d).boot = d.boot := (rfl)
@[simp] theorem modCl_power (c : Nat) (f : Cluster → Cluster) : (modCl c f d).power = d.power := (rfl)
@[simp] theorem modCl_board (c : Nat) (f : Cluster → Cluster) : (modCl c f d).board = d.board := (rfl)
@[simp] theorem modCl_flash (c : Nat) (f : Cluster → Cluster) : (modCl c f d).flash = d.flash := (rfl)
@[simp] theorem modCl_mail (c : Nat) (f : Cluster → Cluster) : (modCl c f d).mail = d.mail := (rfl)
@[simp] theorem modCl_fuse (c : Nat) (f : Cluster → Cluster) : (modCl c f d).fuse = d.fuse := (rfl)

@[simp] theorem memCtr_clk (c : Nat) (f : MemCtr → MemCtr) : (memCtr c f d).clk = d.clk := (rfl)
@[simp] theorem memCtr_whl (c : Nat) (f : MemCtr → MemCtr) : (memCtr c f d).whl = d.whl := (rfl)
@[simp] theorem memCtr_span (c : Nat) (f : MemCtr → MemCtr) : (memCtr c f d).span = d.span := (rfl)
@[simp] theorem memCtr_fab (c : Nat) (f : MemCtr → MemCtr) : (memCtr c f d).fab = d.fab := (rfl)
@[simp] theorem memCtr_lnk (c : Nat) (f : MemCtr → MemCtr) : (memCtr c f d).lnk = d.lnk := (rfl)
@[simp] theorem memCtr_mem (c : Nat) (f : MemCtr → MemCtr) : (memCtr c f d).mem = { d.mem with ctr := tabMod {} c f d.mem.ctr } := (rfl)
@[simp] theorem memCtr_cl (c : Nat) (f : MemCtr → MemCtr) : (memCtr c f d).cl = d.cl := (rfl)
@[simp] theorem memCtr_ten (c : Nat) (f : MemCtr → MemCtr) : (memCtr c f d).ten = d.ten := (rfl)
@[simp] theorem memCtr_grants (c : Nat) (f : MemCtr → MemCtr) : (memCtr c f d).grants = d.grants := (rfl)
@[simp] theorem memCtr_host (c : Nat) (f : MemCtr → MemCtr) : (memCtr c f d).host = d.host := (rfl)
@[simp] theorem memCtr_dma (c : Nat) (f : MemCtr → MemCtr) : (memCtr c f d).dma = d.dma := (rfl)
@[simp] theorem memCtr_bsu (c : Nat) (f : MemCtr → MemCtr) : (memCtr c f d).bsu = d.bsu := (rfl)
@[simp] theorem memCtr_tmr (c : Nat) (f : MemCtr → MemCtr) : (memCtr c f d).tmr = d.tmr := (rfl)
@[simp] theorem memCtr_boot (c : Nat) (f : MemCtr → MemCtr) : (memCtr c f d).boot = d.boot := (rfl)
@[simp] theorem memCtr_power (c : Nat) (f : MemCtr → MemCtr) : (memCtr c f d).power = d.power := (rfl)
@[simp] theorem memCtr_board (c : Nat) (f : MemCtr → MemCtr) : (memCtr c f d).board = d.board := (rfl)
@[simp] theorem memCtr_flash (c : Nat) (f : MemCtr → MemCtr) : (memCtr c f d).flash = d.flash := (rfl)
@[simp] theorem memCtr_mail (c : Nat) (f : MemCtr → MemCtr) : (memCtr c f d).mail = d.mail := (rfl)
@[simp] theorem memCtr_fuse (c : Nat) (f : MemCtr → MemCtr) : (memCtr c f d).fuse = d.fuse := (rfl)

@[simp] theorem modFunc_clk (n : Nat) (f : Func → Func) : (modFunc n f d).clk = d.clk := (rfl)
@[simp] theorem modFunc_whl (n : Nat) (f : Func → Func) : (modFunc n f d).whl = d.whl := (rfl)
@[simp] theorem modFunc_span (n : Nat) (f : Func → Func) : (modFunc n f d).span = d.span := (rfl)
@[simp] theorem modFunc_fab (n : Nat) (f : Func → Func) : (modFunc n f d).fab = d.fab := (rfl)
@[simp] theorem modFunc_lnk (n : Nat) (f : Func → Func) : (modFunc n f d).lnk = d.lnk := (rfl)
@[simp] theorem modFunc_mem (n : Nat) (f : Func → Func) : (modFunc n f d).mem = d.mem := (rfl)
@[simp] theorem modFunc_cl (n : Nat) (f : Func → Func) : (modFunc n f d).cl = d.cl := (rfl)
@[simp] theorem modFunc_ten (n : Nat) (f : Func → Func) : (modFunc n f d).ten = d.ten := (rfl)
@[simp] theorem modFunc_grants (n : Nat) (f : Func → Func) : (modFunc n f d).grants = d.grants := (rfl)
@[simp] theorem modFunc_host (n : Nat) (f : Func → Func) : (modFunc n f d).host = { d.host with func := tabMod {} n f d.host.func } := (rfl)
@[simp] theorem modFunc_dma (n : Nat) (f : Func → Func) : (modFunc n f d).dma = d.dma := (rfl)
@[simp] theorem modFunc_bsu (n : Nat) (f : Func → Func) : (modFunc n f d).bsu = d.bsu := (rfl)
@[simp] theorem modFunc_tmr (n : Nat) (f : Func → Func) : (modFunc n f d).tmr = d.tmr := (rfl)
@[simp] theorem modFunc_boot (n : Nat) (f : Func → Func) : (modFunc n f d).boot = d.boot := (rfl)
@[simp] theorem modFunc_power (n : Nat) (f : Func → Func) : (modFunc n f d).power = d.power := (rfl)
@[simp] theorem modFunc_board (n : Nat) (f : Func → Func) : (modFunc n f d).board = d.board := (rfl)
@[simp] theorem modFunc_flash (n : Nat) (f : Func → Func) : (modFunc n f d).flash = d.flash := (rfl)
@[simp] theorem modFunc_mail (n : Nat) (f : Func → Func) : (modFunc n f d).mail = d.mail := (rfl)
@[simp] theorem modFunc_fuse (n : Nat) (f : Func → Func) : (modFunc n f d).fuse = d.fuse := (rfl)

@[simp] theorem emit_clk (o : Out) : (emit o d).clk = d.clk := (rfl)
@[simp] theorem emit_whl (o : Out) : (emit o d).whl = d.whl := (rfl)
@[simp] theorem emit_span (o : Out) : (emit o d).span = d.span := (rfl)
@[simp] theorem emit_fab (o : Out) : (emit o d).fab = d.fab := (rfl)
@[simp] theorem emit_lnk (o : Out) : (emit o d).lnk = d.lnk := (rfl)
@[simp] theorem emit_mem (o : Out) : (emit o d).mem = d.mem := (rfl)
@[simp] theorem emit_cl (o : Out) : (emit o d).cl = d.cl := (rfl)
@[simp] theorem emit_ten (o : Out) : (emit o d).ten = d.ten := (rfl)
@[simp] theorem emit_grants (o : Out) : (emit o d).grants = d.grants := (rfl)
@[simp] theorem emit_host (o : Out) : (emit o d).host = { d.host with posted := d.host.posted ++ [o] } := (rfl)
@[simp] theorem emit_dma (o : Out) : (emit o d).dma = d.dma := (rfl)
@[simp] theorem emit_bsu (o : Out) : (emit o d).bsu = d.bsu := (rfl)
@[simp] theorem emit_tmr (o : Out) : (emit o d).tmr = d.tmr := (rfl)
@[simp] theorem emit_boot (o : Out) : (emit o d).boot = d.boot := (rfl)
@[simp] theorem emit_power (o : Out) : (emit o d).power = d.power := (rfl)
@[simp] theorem emit_board (o : Out) : (emit o d).board = d.board := (rfl)
@[simp] theorem emit_flash (o : Out) : (emit o d).flash = d.flash := (rfl)
@[simp] theorem emit_mail (o : Out) : (emit o d).mail = d.mail := (rfl)
@[simp] theorem emit_fuse (o : Out) : (emit o d).fuse = d.fuse := (rfl)

@[simp] theorem setPll_clk (p : Nat) (x : Pll) : (setPll p x d).clk = { d.clk with pll := tabSet p x d.clk.pll } := (rfl)
@[simp] theorem setPll_whl (p : Nat) (x : Pll) : (setPll p x d).whl = d.whl := (rfl)
@[simp] theorem setPll_span (p : Nat) (x : Pll) : (setPll p x d).span = d.span := (rfl)
@[simp] theorem setPll_fab (p : Nat) (x : Pll) : (setPll p x d).fab = d.fab := (rfl)
@[simp] theorem setPll_lnk (p : Nat) (x : Pll) : (setPll p x d).lnk = d.lnk := (rfl)
@[simp] theorem setPll_mem (p : Nat) (x : Pll) : (setPll p x d).mem = d.mem := (rfl)
@[simp] theorem setPll_cl (p : Nat) (x : Pll) : (setPll p x d).cl = d.cl := (rfl)
@[simp] theorem setPll_ten (p : Nat) (x : Pll) : (setPll p x d).ten = d.ten := (rfl)
@[simp] theorem setPll_grants (p : Nat) (x : Pll) : (setPll p x d).grants = d.grants := (rfl)
@[simp] theorem setPll_host (p : Nat) (x : Pll) : (setPll p x d).host = d.host := (rfl)
@[simp] theorem setPll_dma (p : Nat) (x : Pll) : (setPll p x d).dma = d.dma := (rfl)
@[simp] theorem setPll_bsu (p : Nat) (x : Pll) : (setPll p x d).bsu = d.bsu := (rfl)
@[simp] theorem setPll_tmr (p : Nat) (x : Pll) : (setPll p x d).tmr = d.tmr := (rfl)
@[simp] theorem setPll_boot (p : Nat) (x : Pll) : (setPll p x d).boot = d.boot := (rfl)
@[simp] theorem setPll_power (p : Nat) (x : Pll) : (setPll p x d).power = d.power := (rfl)
@[simp] theorem setPll_board (p : Nat) (x : Pll) : (setPll p x d).board = d.board := (rfl)
@[simp] theorem setPll_flash (p : Nat) (x : Pll) : (setPll p x d).flash = d.flash := (rfl)
@[simp] theorem setPll_mail (p : Nat) (x : Pll) : (setPll p x d).mail = d.mail := (rfl)
@[simp] theorem setPll_fuse (p : Nat) (x : Pll) : (setPll p x d).fuse = d.fuse := (rfl)

@[simp] theorem modIsl_clk (i : Nat) (f : Island → Island) : (modIsl i f d).clk = { d.clk with isl := tabMod {} i f d.clk.isl } := (rfl)
@[simp] theorem modIsl_whl (i : Nat) (f : Island → Island) : (modIsl i f d).whl = d.whl := (rfl)
@[simp] theorem modIsl_span (i : Nat) (f : Island → Island) : (modIsl i f d).span = d.span := (rfl)
@[simp] theorem modIsl_fab (i : Nat) (f : Island → Island) : (modIsl i f d).fab = d.fab := (rfl)
@[simp] theorem modIsl_lnk (i : Nat) (f : Island → Island) : (modIsl i f d).lnk = d.lnk := (rfl)
@[simp] theorem modIsl_mem (i : Nat) (f : Island → Island) : (modIsl i f d).mem = d.mem := (rfl)
@[simp] theorem modIsl_cl (i : Nat) (f : Island → Island) : (modIsl i f d).cl = d.cl := (rfl)
@[simp] theorem modIsl_ten (i : Nat) (f : Island → Island) : (modIsl i f d).ten = d.ten := (rfl)
@[simp] theorem modIsl_grants (i : Nat) (f : Island → Island) : (modIsl i f d).grants = d.grants := (rfl)
@[simp] theorem modIsl_host (i : Nat) (f : Island → Island) : (modIsl i f d).host = d.host := (rfl)
@[simp] theorem modIsl_dma (i : Nat) (f : Island → Island) : (modIsl i f d).dma = d.dma := (rfl)
@[simp] theorem modIsl_bsu (i : Nat) (f : Island → Island) : (modIsl i f d).bsu = d.bsu := (rfl)
@[simp] theorem modIsl_tmr (i : Nat) (f : Island → Island) : (modIsl i f d).tmr = d.tmr := (rfl)
@[simp] theorem modIsl_boot (i : Nat) (f : Island → Island) : (modIsl i f d).boot = d.boot := (rfl)
@[simp] theorem modIsl_power (i : Nat) (f : Island → Island) : (modIsl i f d).power = d.power := (rfl)
@[simp] theorem modIsl_board (i : Nat) (f : Island → Island) : (modIsl i f d).board = d.board := (rfl)
@[simp] theorem modIsl_flash (i : Nat) (f : Island → Island) : (modIsl i f d).flash = d.flash := (rfl)
@[simp] theorem modIsl_mail (i : Nat) (f : Island → Island) : (modIsl i f d).mail = d.mail := (rfl)
@[simp] theorem modIsl_fuse (i : Nat) (f : Island → Island) : (modIsl i f d).fuse = d.fuse := (rfl)

@[simp] theorem modMem_clk (f : Mem → Mem) : (modMem f d).clk = d.clk := (rfl)
@[simp] theorem modMem_whl (f : Mem → Mem) : (modMem f d).whl = d.whl := (rfl)
@[simp] theorem modMem_span (f : Mem → Mem) : (modMem f d).span = d.span := (rfl)
@[simp] theorem modMem_fab (f : Mem → Mem) : (modMem f d).fab = d.fab := (rfl)
@[simp] theorem modMem_lnk (f : Mem → Mem) : (modMem f d).lnk = d.lnk := (rfl)
@[simp] theorem modMem_mem (f : Mem → Mem) : (modMem f d).mem = f d.mem := (rfl)
@[simp] theorem modMem_cl (f : Mem → Mem) : (modMem f d).cl = d.cl := (rfl)
@[simp] theorem modMem_ten (f : Mem → Mem) : (modMem f d).ten = d.ten := (rfl)
@[simp] theorem modMem_grants (f : Mem → Mem) : (modMem f d).grants = d.grants := (rfl)
@[simp] theorem modMem_host (f : Mem → Mem) : (modMem f d).host = d.host := (rfl)
@[simp] theorem modMem_dma (f : Mem → Mem) : (modMem f d).dma = d.dma := (rfl)
@[simp] theorem modMem_bsu (f : Mem → Mem) : (modMem f d).bsu = d.bsu := (rfl)
@[simp] theorem modMem_tmr (f : Mem → Mem) : (modMem f d).tmr = d.tmr := (rfl)
@[simp] theorem modMem_boot (f : Mem → Mem) : (modMem f d).boot = d.boot := (rfl)
@[simp] theorem modMem_power (f : Mem → Mem) : (modMem f d).power = d.power := (rfl)
@[simp] theorem modMem_board (f : Mem → Mem) : (modMem f d).board = d.board := (rfl)
@[simp] theorem modMem_flash (f : Mem → Mem) : (modMem f d).flash = d.flash := (rfl)
@[simp] theorem modMem_mail (f : Mem → Mem) : (modMem f d).mail = d.mail := (rfl)
@[simp] theorem modMem_fuse (f : Mem → Mem) : (modMem f d).fuse = d.fuse := (rfl)

@[simp] theorem modShelfCtr_clk (q : Nat) (f : ShelfCtr → ShelfCtr) : (modShelfCtr q f d).clk = d.clk := (rfl)
@[simp] theorem modShelfCtr_whl (q : Nat) (f : ShelfCtr → ShelfCtr) : (modShelfCtr q f d).whl = d.whl := (rfl)
@[simp] theorem modShelfCtr_span (q : Nat) (f : ShelfCtr → ShelfCtr) : (modShelfCtr q f d).span = d.span := (rfl)
@[simp] theorem modShelfCtr_fab (q : Nat) (f : ShelfCtr → ShelfCtr) : (modShelfCtr q f d).fab = d.fab := (rfl)
@[simp] theorem modShelfCtr_lnk (q : Nat) (f : ShelfCtr → ShelfCtr) : (modShelfCtr q f d).lnk = d.lnk := (rfl)
@[simp] theorem modShelfCtr_mem (q : Nat) (f : ShelfCtr → ShelfCtr) : (modShelfCtr q f d).mem = { d.mem with shelfCtr := tabMod {} q f d.mem.shelfCtr } := (rfl)
@[simp] theorem modShelfCtr_cl (q : Nat) (f : ShelfCtr → ShelfCtr) : (modShelfCtr q f d).cl = d.cl := (rfl)
@[simp] theorem modShelfCtr_ten (q : Nat) (f : ShelfCtr → ShelfCtr) : (modShelfCtr q f d).ten = d.ten := (rfl)
@[simp] theorem modShelfCtr_grants (q : Nat) (f : ShelfCtr → ShelfCtr) : (modShelfCtr q f d).grants = d.grants := (rfl)
@[simp] theorem modShelfCtr_host (q : Nat) (f : ShelfCtr → ShelfCtr) : (modShelfCtr q f d).host = d.host := (rfl)
@[simp] theorem modShelfCtr_dma (q : Nat) (f : ShelfCtr → ShelfCtr) : (modShelfCtr q f d).dma = d.dma := (rfl)
@[simp] theorem modShelfCtr_bsu (q : Nat) (f : ShelfCtr → ShelfCtr) : (modShelfCtr q f d).bsu = d.bsu := (rfl)
@[simp] theorem modShelfCtr_tmr (q : Nat) (f : ShelfCtr → ShelfCtr) : (modShelfCtr q f d).tmr = d.tmr := (rfl)
@[simp] theorem modShelfCtr_boot (q : Nat) (f : ShelfCtr → ShelfCtr) : (modShelfCtr q f d).boot = d.boot := (rfl)
@[simp] theorem modShelfCtr_power (q : Nat) (f : ShelfCtr → ShelfCtr) : (modShelfCtr q f d).power = d.power := (rfl)
@[simp] theorem modShelfCtr_board (q : Nat) (f : ShelfCtr → ShelfCtr) : (modShelfCtr q f d).board = d.board := (rfl)
@[simp] theorem modShelfCtr_flash (q : Nat) (f : ShelfCtr → ShelfCtr) : (modShelfCtr q f d).flash = d.flash := (rfl)
@[simp] theorem modShelfCtr_mail (q : Nat) (f : ShelfCtr → ShelfCtr) : (modShelfCtr q f d).mail = d.mail := (rfl)
@[simp] theorem modShelfCtr_fuse (q : Nat) (f : ShelfCtr → ShelfCtr) : (modShelfCtr q f d).fuse = d.fuse := (rfl)

@[simp] theorem modHost_clk (f : HostIf → HostIf) : (modHost f d).clk = d.clk := (rfl)
@[simp] theorem modHost_whl (f : HostIf → HostIf) : (modHost f d).whl = d.whl := (rfl)
@[simp] theorem modHost_span (f : HostIf → HostIf) : (modHost f d).span = d.span := (rfl)
@[simp] theorem modHost_fab (f : HostIf → HostIf) : (modHost f d).fab = d.fab := (rfl)
@[simp] theorem modHost_lnk (f : HostIf → HostIf) : (modHost f d).lnk = d.lnk := (rfl)
@[simp] theorem modHost_mem (f : HostIf → HostIf) : (modHost f d).mem = d.mem := (rfl)
@[simp] theorem modHost_cl (f : HostIf → HostIf) : (modHost f d).cl = d.cl := (rfl)
@[simp] theorem modHost_ten (f : HostIf → HostIf) : (modHost f d).ten = d.ten := (rfl)
@[simp] theorem modHost_grants (f : HostIf → HostIf) : (modHost f d).grants = d.grants := (rfl)
@[simp] theorem modHost_host (f : HostIf → HostIf) : (modHost f d).host = f d.host := (rfl)
@[simp] theorem modHost_dma (f : HostIf → HostIf) : (modHost f d).dma = d.dma := (rfl)
@[simp] theorem modHost_bsu (f : HostIf → HostIf) : (modHost f d).bsu = d.bsu := (rfl)
@[simp] theorem modHost_tmr (f : HostIf → HostIf) : (modHost f d).tmr = d.tmr := (rfl)
@[simp] theorem modHost_boot (f : HostIf → HostIf) : (modHost f d).boot = d.boot := (rfl)
@[simp] theorem modHost_power (f : HostIf → HostIf) : (modHost f d).power = d.power := (rfl)
@[simp] theorem modHost_board (f : HostIf → HostIf) : (modHost f d).board = d.board := (rfl)
@[simp] theorem modHost_flash (f : HostIf → HostIf) : (modHost f d).flash = d.flash := (rfl)
@[simp] theorem modHost_mail (f : HostIf → HostIf) : (modHost f d).mail = d.mail := (rfl)
@[simp] theorem modHost_fuse (f : HostIf → HostIf) : (modHost f d).fuse = d.fuse := (rfl)

@[simp] theorem modBoot_clk (f : Boot → Boot) : (modBoot f d).clk = d.clk := (rfl)
@[simp] theorem modBoot_whl (f : Boot → Boot) : (modBoot f d).whl = d.whl := (rfl)
@[simp] theorem modBoot_span (f : Boot → Boot) : (modBoot f d).span = d.span := (rfl)
@[simp] theorem modBoot_fab (f : Boot → Boot) : (modBoot f d).fab = d.fab := (rfl)
@[simp] theorem modBoot_lnk (f : Boot → Boot) : (modBoot f d).lnk = d.lnk := (rfl)
@[simp] theorem modBoot_mem (f : Boot → Boot) : (modBoot f d).mem = d.mem := (rfl)
@[simp] theorem modBoot_cl (f : Boot → Boot) : (modBoot f d).cl = d.cl := (rfl)
@[simp] theorem modBoot_ten (f : Boot → Boot) : (modBoot f d).ten = d.ten := (rfl)
@[simp] theorem modBoot_grants (f : Boot → Boot) : (modBoot f d).grants = d.grants := (rfl)
@[simp] theorem modBoot_host (f : Boot → Boot) : (modBoot f d).host = d.host := (rfl)
@[simp] theorem modBoot_dma (f : Boot → Boot) : (modBoot f d).dma = d.dma := (rfl)
@[simp] theorem modBoot_bsu (f : Boot → Boot) : (modBoot f d).bsu = d.bsu := (rfl)
@[simp] theorem modBoot_tmr (f : Boot → Boot) : (modBoot f d).tmr = d.tmr := (rfl)
@[simp] theorem modBoot_boot (f : Boot → Boot) : (modBoot f d).boot = f d.boot := (rfl)
@[simp] theorem modBoot_power (f : Boot → Boot) : (modBoot f d).power = d.power := (rfl)
@[simp] theorem modBoot_board (f : Boot → Boot) : (modBoot f d).board = d.board := (rfl)
@[simp] theorem modBoot_flash (f : Boot → Boot) : (modBoot f d).flash = d.flash := (rfl)
@[simp] theorem modBoot_mail (f : Boot → Boot) : (modBoot f d).mail = d.mail := (rfl)
@[simp] theorem modBoot_fuse (f : Boot → Boot) : (modBoot f d).fuse = d.fuse := (rfl)

@[simp] theorem modRing_clk (r : Nat) (f : Ring → Ring) : (modRing r f d).clk = d.clk := (rfl)
@[simp] theorem modRing_whl (r : Nat) (f : Ring → Ring) : (modRing r f d).whl = d.whl := (rfl)
@[simp] theorem modRing_span (r : Nat) (f : Ring → Ring) : (modRing r f d).span = d.span := (rfl)
@[simp] theorem modRing_fab (r : Nat) (f : Ring → Ring) : (modRing r f d).fab = d.fab := (rfl)
@[simp] theorem modRing_lnk (r : Nat) (f : Ring → Ring) : (modRing r f d).lnk = d.lnk := (rfl)
@[simp] theorem modRing_mem (r : Nat) (f : Ring → Ring) : (modRing r f d).mem = d.mem := (rfl)
@[simp] theorem modRing_cl (r : Nat) (f : Ring → Ring) : (modRing r f d).cl = d.cl := (rfl)
@[simp] theorem modRing_ten (r : Nat) (f : Ring → Ring) : (modRing r f d).ten = d.ten := (rfl)
@[simp] theorem modRing_grants (r : Nat) (f : Ring → Ring) : (modRing r f d).grants = d.grants := (rfl)
@[simp] theorem modRing_host (r : Nat) (f : Ring → Ring) : (modRing r f d).host = { d.host with rings := tabMod {} r f d.host.rings } := (rfl)
@[simp] theorem modRing_dma (r : Nat) (f : Ring → Ring) : (modRing r f d).dma = d.dma := (rfl)
@[simp] theorem modRing_bsu (r : Nat) (f : Ring → Ring) : (modRing r f d).bsu = d.bsu := (rfl)
@[simp] theorem modRing_tmr (r : Nat) (f : Ring → Ring) : (modRing r f d).tmr = d.tmr := (rfl)
@[simp] theorem modRing_boot (r : Nat) (f : Ring → Ring) : (modRing r f d).boot = d.boot := (rfl)
@[simp] theorem modRing_power (r : Nat) (f : Ring → Ring) : (modRing r f d).power = d.power := (rfl)
@[simp] theorem modRing_board (r : Nat) (f : Ring → Ring) : (modRing r f d).board = d.board := (rfl)
@[simp] theorem modRing_flash (r : Nat) (f : Ring → Ring) : (modRing r f d).flash = d.flash := (rfl)
@[simp] theorem modRing_mail (r : Nat) (f : Ring → Ring) : (modRing r f d).mail = d.mail := (rfl)
@[simp] theorem modRing_fuse (r : Nat) (f : Ring → Ring) : (modRing r f d).fuse = d.fuse := (rfl)

@[simp] theorem modCore_clk (n : Nat) (f : Core → Core) : (modCore n f d).clk = d.clk := (rfl)
@[simp] theorem modCore_whl (n : Nat) (f : Core → Core) : (modCore n f d).whl = d.whl := (rfl)
@[simp] theorem modCore_span (n : Nat) (f : Core → Core) : (modCore n f d).span = d.span := (rfl)
@[simp] theorem modCore_fab (n : Nat) (f : Core → Core) : (modCore n f d).fab = d.fab := (rfl)
@[simp] theorem modCore_lnk (n : Nat) (f : Core → Core) : (modCore n f d).lnk = d.lnk := (rfl)
@[simp] theorem modCore_mem (n : Nat) (f : Core → Core) : (modCore n f d).mem = d.mem := (rfl)
@[simp] theorem modCore_cl (n : Nat) (f : Core → Core) : (modCore n f d).cl = d.cl := (rfl)
@[simp] theorem modCore_ten (n : Nat) (f : Core → Core) : (modCore n f d).ten = d.ten := (rfl)
@[simp] theorem modCore_grants (n : Nat) (f : Core → Core) : (modCore n f d).grants = d.grants := (rfl)
@[simp] theorem modCore_host (n : Nat) (f : Core → Core) : (modCore n f d).host = { d.host with cores := tabMod {} n f d.host.cores } := (rfl)
@[simp] theorem modCore_dma (n : Nat) (f : Core → Core) : (modCore n f d).dma = d.dma := (rfl)
@[simp] theorem modCore_bsu (n : Nat) (f : Core → Core) : (modCore n f d).bsu = d.bsu := (rfl)
@[simp] theorem modCore_tmr (n : Nat) (f : Core → Core) : (modCore n f d).tmr = d.tmr := (rfl)
@[simp] theorem modCore_boot (n : Nat) (f : Core → Core) : (modCore n f d).boot = d.boot := (rfl)
@[simp] theorem modCore_power (n : Nat) (f : Core → Core) : (modCore n f d).power = d.power := (rfl)
@[simp] theorem modCore_board (n : Nat) (f : Core → Core) : (modCore n f d).board = d.board := (rfl)
@[simp] theorem modCore_flash (n : Nat) (f : Core → Core) : (modCore n f d).flash = d.flash := (rfl)
@[simp] theorem modCore_mail (n : Nat) (f : Core → Core) : (modCore n f d).mail = d.mail := (rfl)
@[simp] theorem modCore_fuse (n : Nat) (f : Core → Core) : (modCore n f d).fuse = d.fuse := (rfl)

@[simp] theorem modCmd_clk (i : Nat) (f : Cmd → Cmd) : (modCmd i f d).clk = d.clk := (rfl)
@[simp] theorem modCmd_whl (i : Nat) (f : Cmd → Cmd) : (modCmd i f d).whl = d.whl := (rfl)
@[simp] theorem modCmd_span (i : Nat) (f : Cmd → Cmd) : (modCmd i f d).span = d.span := (rfl)
@[simp] theorem modCmd_fab (i : Nat) (f : Cmd → Cmd) : (modCmd i f d).fab = d.fab := (rfl)
@[simp] theorem modCmd_lnk (i : Nat) (f : Cmd → Cmd) : (modCmd i f d).lnk = d.lnk := (rfl)
@[simp] theorem modCmd_mem (i : Nat) (f : Cmd → Cmd) : (modCmd i f d).mem = d.mem := (rfl)
@[simp] theorem modCmd_cl (i : Nat) (f : Cmd → Cmd) : (modCmd i f d).cl = d.cl := (rfl)
@[simp] theorem modCmd_ten (i : Nat) (f : Cmd → Cmd) : (modCmd i f d).ten = d.ten := (rfl)
@[simp] theorem modCmd_grants (i : Nat) (f : Cmd → Cmd) : (modCmd i f d).grants = d.grants := (rfl)
@[simp] theorem modCmd_host (i : Nat) (f : Cmd → Cmd) : (modCmd i f d).host = { d.host with cmds := d.host.cmds.map fun c => if c.id = i then f c else c } := (rfl)
@[simp] theorem modCmd_dma (i : Nat) (f : Cmd → Cmd) : (modCmd i f d).dma = d.dma := (rfl)
@[simp] theorem modCmd_bsu (i : Nat) (f : Cmd → Cmd) : (modCmd i f d).bsu = d.bsu := (rfl)
@[simp] theorem modCmd_tmr (i : Nat) (f : Cmd → Cmd) : (modCmd i f d).tmr = d.tmr := (rfl)
@[simp] theorem modCmd_boot (i : Nat) (f : Cmd → Cmd) : (modCmd i f d).boot = d.boot := (rfl)
@[simp] theorem modCmd_power (i : Nat) (f : Cmd → Cmd) : (modCmd i f d).power = d.power := (rfl)
@[simp] theorem modCmd_board (i : Nat) (f : Cmd → Cmd) : (modCmd i f d).board = d.board := (rfl)
@[simp] theorem modCmd_flash (i : Nat) (f : Cmd → Cmd) : (modCmd i f d).flash = d.flash := (rfl)
@[simp] theorem modCmd_mail (i : Nat) (f : Cmd → Cmd) : (modCmd i f d).mail = d.mail := (rfl)
@[simp] theorem modCmd_fuse (i : Nat) (f : Cmd → Cmd) : (modCmd i f d).fuse = d.fuse := (rfl)

@[simp] theorem modBsu_clk (u : Nat) (f : Bsu → Bsu) : (modBsu u f d).clk = d.clk := (rfl)
@[simp] theorem modBsu_whl (u : Nat) (f : Bsu → Bsu) : (modBsu u f d).whl = d.whl := (rfl)
@[simp] theorem modBsu_span (u : Nat) (f : Bsu → Bsu) : (modBsu u f d).span = d.span := (rfl)
@[simp] theorem modBsu_fab (u : Nat) (f : Bsu → Bsu) : (modBsu u f d).fab = d.fab := (rfl)
@[simp] theorem modBsu_lnk (u : Nat) (f : Bsu → Bsu) : (modBsu u f d).lnk = d.lnk := (rfl)
@[simp] theorem modBsu_mem (u : Nat) (f : Bsu → Bsu) : (modBsu u f d).mem = d.mem := (rfl)
@[simp] theorem modBsu_cl (u : Nat) (f : Bsu → Bsu) : (modBsu u f d).cl = d.cl := (rfl)
@[simp] theorem modBsu_ten (u : Nat) (f : Bsu → Bsu) : (modBsu u f d).ten = d.ten := (rfl)
@[simp] theorem modBsu_grants (u : Nat) (f : Bsu → Bsu) : (modBsu u f d).grants = d.grants := (rfl)
@[simp] theorem modBsu_host (u : Nat) (f : Bsu → Bsu) : (modBsu u f d).host = d.host := (rfl)
@[simp] theorem modBsu_dma (u : Nat) (f : Bsu → Bsu) : (modBsu u f d).dma = d.dma := (rfl)
@[simp] theorem modBsu_bsu (u : Nat) (f : Bsu → Bsu) : (modBsu u f d).bsu = tabMod {} u f d.bsu := (rfl)
@[simp] theorem modBsu_tmr (u : Nat) (f : Bsu → Bsu) : (modBsu u f d).tmr = d.tmr := (rfl)
@[simp] theorem modBsu_boot (u : Nat) (f : Bsu → Bsu) : (modBsu u f d).boot = d.boot := (rfl)
@[simp] theorem modBsu_power (u : Nat) (f : Bsu → Bsu) : (modBsu u f d).power = d.power := (rfl)
@[simp] theorem modBsu_board (u : Nat) (f : Bsu → Bsu) : (modBsu u f d).board = d.board := (rfl)
@[simp] theorem modBsu_flash (u : Nat) (f : Bsu → Bsu) : (modBsu u f d).flash = d.flash := (rfl)
@[simp] theorem modBsu_mail (u : Nat) (f : Bsu → Bsu) : (modBsu u f d).mail = d.mail := (rfl)
@[simp] theorem modBsu_fuse (u : Nat) (f : Bsu → Bsu) : (modBsu u f d).fuse = d.fuse := (rfl)

@[simp] theorem modLnk_clk (l : Nat) (f : Link → Link) : (modLnk l f d).clk = d.clk := (rfl)
@[simp] theorem modLnk_whl (l : Nat) (f : Link → Link) : (modLnk l f d).whl = d.whl := (rfl)
@[simp] theorem modLnk_span (l : Nat) (f : Link → Link) : (modLnk l f d).span = d.span := (rfl)
@[simp] theorem modLnk_fab (l : Nat) (f : Link → Link) : (modLnk l f d).fab = d.fab := (rfl)
@[simp] theorem modLnk_lnk (l : Nat) (f : Link → Link) : (modLnk l f d).lnk = tabMod {} l f d.lnk := (rfl)
@[simp] theorem modLnk_mem (l : Nat) (f : Link → Link) : (modLnk l f d).mem = d.mem := (rfl)
@[simp] theorem modLnk_cl (l : Nat) (f : Link → Link) : (modLnk l f d).cl = d.cl := (rfl)
@[simp] theorem modLnk_ten (l : Nat) (f : Link → Link) : (modLnk l f d).ten = d.ten := (rfl)
@[simp] theorem modLnk_grants (l : Nat) (f : Link → Link) : (modLnk l f d).grants = d.grants := (rfl)
@[simp] theorem modLnk_host (l : Nat) (f : Link → Link) : (modLnk l f d).host = d.host := (rfl)
@[simp] theorem modLnk_dma (l : Nat) (f : Link → Link) : (modLnk l f d).dma = d.dma := (rfl)
@[simp] theorem modLnk_bsu (l : Nat) (f : Link → Link) : (modLnk l f d).bsu = d.bsu := (rfl)
@[simp] theorem modLnk_tmr (l : Nat) (f : Link → Link) : (modLnk l f d).tmr = d.tmr := (rfl)
@[simp] theorem modLnk_boot (l : Nat) (f : Link → Link) : (modLnk l f d).boot = d.boot := (rfl)
@[simp] theorem modLnk_power (l : Nat) (f : Link → Link) : (modLnk l f d).power = d.power := (rfl)
@[simp] theorem modLnk_board (l : Nat) (f : Link → Link) : (modLnk l f d).board = d.board := (rfl)
@[simp] theorem modLnk_flash (l : Nat) (f : Link → Link) : (modLnk l f d).flash = d.flash := (rfl)
@[simp] theorem modLnk_mail (l : Nat) (f : Link → Link) : (modLnk l f d).mail = d.mail := (rfl)
@[simp] theorem modLnk_fuse (l : Nat) (f : Link → Link) : (modLnk l f d).fuse = d.fuse := (rfl)

@[simp] theorem modWhl_clk (f : Wheel → Wheel) : (modWhl f d).clk = d.clk := (rfl)
@[simp] theorem modWhl_whl (f : Wheel → Wheel) : (modWhl f d).whl = f d.whl := (rfl)
@[simp] theorem modWhl_span (f : Wheel → Wheel) : (modWhl f d).span = d.span := (rfl)
@[simp] theorem modWhl_fab (f : Wheel → Wheel) : (modWhl f d).fab = d.fab := (rfl)
@[simp] theorem modWhl_lnk (f : Wheel → Wheel) : (modWhl f d).lnk = d.lnk := (rfl)
@[simp] theorem modWhl_mem (f : Wheel → Wheel) : (modWhl f d).mem = d.mem := (rfl)
@[simp] theorem modWhl_cl (f : Wheel → Wheel) : (modWhl f d).cl = d.cl := (rfl)
@[simp] theorem modWhl_ten (f : Wheel → Wheel) : (modWhl f d).ten = d.ten := (rfl)
@[simp] theorem modWhl_grants (f : Wheel → Wheel) : (modWhl f d).grants = d.grants := (rfl)
@[simp] theorem modWhl_host (f : Wheel → Wheel) : (modWhl f d).host = d.host := (rfl)
@[simp] theorem modWhl_dma (f : Wheel → Wheel) : (modWhl f d).dma = d.dma := (rfl)
@[simp] theorem modWhl_bsu (f : Wheel → Wheel) : (modWhl f d).bsu = d.bsu := (rfl)
@[simp] theorem modWhl_tmr (f : Wheel → Wheel) : (modWhl f d).tmr = d.tmr := (rfl)
@[simp] theorem modWhl_boot (f : Wheel → Wheel) : (modWhl f d).boot = d.boot := (rfl)
@[simp] theorem modWhl_power (f : Wheel → Wheel) : (modWhl f d).power = d.power := (rfl)
@[simp] theorem modWhl_board (f : Wheel → Wheel) : (modWhl f d).board = d.board := (rfl)
@[simp] theorem modWhl_flash (f : Wheel → Wheel) : (modWhl f d).flash = d.flash := (rfl)
@[simp] theorem modWhl_mail (f : Wheel → Wheel) : (modWhl f d).mail = d.mail := (rfl)
@[simp] theorem modWhl_fuse (f : Wheel → Wheel) : (modWhl f d).fuse = d.fuse := (rfl)

@[simp] theorem modSpan_clk (f : Span → Span) : (modSpan f d).clk = d.clk := (rfl)
@[simp] theorem modSpan_whl (f : Span → Span) : (modSpan f d).whl = d.whl := (rfl)
@[simp] theorem modSpan_span (f : Span → Span) : (modSpan f d).span = f d.span := (rfl)
@[simp] theorem modSpan_fab (f : Span → Span) : (modSpan f d).fab = d.fab := (rfl)
@[simp] theorem modSpan_lnk (f : Span → Span) : (modSpan f d).lnk = d.lnk := (rfl)
@[simp] theorem modSpan_mem (f : Span → Span) : (modSpan f d).mem = d.mem := (rfl)
@[simp] theorem modSpan_cl (f : Span → Span) : (modSpan f d).cl = d.cl := (rfl)
@[simp] theorem modSpan_ten (f : Span → Span) : (modSpan f d).ten = d.ten := (rfl)
@[simp] theorem modSpan_grants (f : Span → Span) : (modSpan f d).grants = d.grants := (rfl)
@[simp] theorem modSpan_host (f : Span → Span) : (modSpan f d).host = d.host := (rfl)
@[simp] theorem modSpan_dma (f : Span → Span) : (modSpan f d).dma = d.dma := (rfl)
@[simp] theorem modSpan_bsu (f : Span → Span) : (modSpan f d).bsu = d.bsu := (rfl)
@[simp] theorem modSpan_tmr (f : Span → Span) : (modSpan f d).tmr = d.tmr := (rfl)
@[simp] theorem modSpan_boot (f : Span → Span) : (modSpan f d).boot = d.boot := (rfl)
@[simp] theorem modSpan_power (f : Span → Span) : (modSpan f d).power = d.power := (rfl)
@[simp] theorem modSpan_board (f : Span → Span) : (modSpan f d).board = d.board := (rfl)
@[simp] theorem modSpan_flash (f : Span → Span) : (modSpan f d).flash = d.flash := (rfl)
@[simp] theorem modSpan_mail (f : Span → Span) : (modSpan f d).mail = d.mail := (rfl)
@[simp] theorem modSpan_fuse (f : Span → Span) : (modSpan f d).fuse = d.fuse := (rfl)

@[simp] theorem modTmr_clk (n : Nat) (f : Timer → Timer) : (modTmr n f d).clk = d.clk := (rfl)
@[simp] theorem modTmr_whl (n : Nat) (f : Timer → Timer) : (modTmr n f d).whl = d.whl := (rfl)
@[simp] theorem modTmr_span (n : Nat) (f : Timer → Timer) : (modTmr n f d).span = d.span := (rfl)
@[simp] theorem modTmr_fab (n : Nat) (f : Timer → Timer) : (modTmr n f d).fab = d.fab := (rfl)
@[simp] theorem modTmr_lnk (n : Nat) (f : Timer → Timer) : (modTmr n f d).lnk = d.lnk := (rfl)
@[simp] theorem modTmr_mem (n : Nat) (f : Timer → Timer) : (modTmr n f d).mem = d.mem := (rfl)
@[simp] theorem modTmr_cl (n : Nat) (f : Timer → Timer) : (modTmr n f d).cl = d.cl := (rfl)
@[simp] theorem modTmr_ten (n : Nat) (f : Timer → Timer) : (modTmr n f d).ten = d.ten := (rfl)
@[simp] theorem modTmr_grants (n : Nat) (f : Timer → Timer) : (modTmr n f d).grants = d.grants := (rfl)
@[simp] theorem modTmr_host (n : Nat) (f : Timer → Timer) : (modTmr n f d).host = d.host := (rfl)
@[simp] theorem modTmr_dma (n : Nat) (f : Timer → Timer) : (modTmr n f d).dma = d.dma := (rfl)
@[simp] theorem modTmr_bsu (n : Nat) (f : Timer → Timer) : (modTmr n f d).bsu = d.bsu := (rfl)
@[simp] theorem modTmr_tmr (n : Nat) (f : Timer → Timer) : (modTmr n f d).tmr = tabMod {} n f d.tmr := (rfl)
@[simp] theorem modTmr_boot (n : Nat) (f : Timer → Timer) : (modTmr n f d).boot = d.boot := (rfl)
@[simp] theorem modTmr_power (n : Nat) (f : Timer → Timer) : (modTmr n f d).power = d.power := (rfl)
@[simp] theorem modTmr_board (n : Nat) (f : Timer → Timer) : (modTmr n f d).board = d.board := (rfl)
@[simp] theorem modTmr_flash (n : Nat) (f : Timer → Timer) : (modTmr n f d).flash = d.flash := (rfl)
@[simp] theorem modTmr_mail (n : Nat) (f : Timer → Timer) : (modTmr n f d).mail = d.mail := (rfl)
@[simp] theorem modTmr_fuse (n : Nat) (f : Timer → Timer) : (modTmr n f d).fuse = d.fuse := (rfl)

@[simp] theorem modDma_clk (e : Nat) (f : Dma → Dma) : (modDma e f d).clk = d.clk := (rfl)
@[simp] theorem modDma_whl (e : Nat) (f : Dma → Dma) : (modDma e f d).whl = d.whl := (rfl)
@[simp] theorem modDma_span (e : Nat) (f : Dma → Dma) : (modDma e f d).span = d.span := (rfl)
@[simp] theorem modDma_fab (e : Nat) (f : Dma → Dma) : (modDma e f d).fab = d.fab := (rfl)
@[simp] theorem modDma_lnk (e : Nat) (f : Dma → Dma) : (modDma e f d).lnk = d.lnk := (rfl)
@[simp] theorem modDma_mem (e : Nat) (f : Dma → Dma) : (modDma e f d).mem = d.mem := (rfl)
@[simp] theorem modDma_cl (e : Nat) (f : Dma → Dma) : (modDma e f d).cl = d.cl := (rfl)
@[simp] theorem modDma_ten (e : Nat) (f : Dma → Dma) : (modDma e f d).ten = d.ten := (rfl)
@[simp] theorem modDma_grants (e : Nat) (f : Dma → Dma) : (modDma e f d).grants = d.grants := (rfl)
@[simp] theorem modDma_host (e : Nat) (f : Dma → Dma) : (modDma e f d).host = d.host := (rfl)
@[simp] theorem modDma_dma (e : Nat) (f : Dma → Dma) : (modDma e f d).dma = tabMod {} e f d.dma := (rfl)
@[simp] theorem modDma_bsu (e : Nat) (f : Dma → Dma) : (modDma e f d).bsu = d.bsu := (rfl)
@[simp] theorem modDma_tmr (e : Nat) (f : Dma → Dma) : (modDma e f d).tmr = d.tmr := (rfl)
@[simp] theorem modDma_boot (e : Nat) (f : Dma → Dma) : (modDma e f d).boot = d.boot := (rfl)
@[simp] theorem modDma_power (e : Nat) (f : Dma → Dma) : (modDma e f d).power = d.power := (rfl)
@[simp] theorem modDma_board (e : Nat) (f : Dma → Dma) : (modDma e f d).board = d.board := (rfl)
@[simp] theorem modDma_flash (e : Nat) (f : Dma → Dma) : (modDma e f d).flash = d.flash := (rfl)
@[simp] theorem modDma_mail (e : Nat) (f : Dma → Dma) : (modDma e f d).mail = d.mail := (rfl)
@[simp] theorem modDma_fuse (e : Nat) (f : Dma → Dma) : (modDma e f d).fuse = d.fuse := (rfl)

@[simp] theorem modGrants_clk (f : Grants → Grants) : (modGrants f d).clk = d.clk := (rfl)
@[simp] theorem modGrants_whl (f : Grants → Grants) : (modGrants f d).whl = d.whl := (rfl)
@[simp] theorem modGrants_span (f : Grants → Grants) : (modGrants f d).span = d.span := (rfl)
@[simp] theorem modGrants_fab (f : Grants → Grants) : (modGrants f d).fab = d.fab := (rfl)
@[simp] theorem modGrants_lnk (f : Grants → Grants) : (modGrants f d).lnk = d.lnk := (rfl)
@[simp] theorem modGrants_mem (f : Grants → Grants) : (modGrants f d).mem = d.mem := (rfl)
@[simp] theorem modGrants_cl (f : Grants → Grants) : (modGrants f d).cl = d.cl := (rfl)
@[simp] theorem modGrants_ten (f : Grants → Grants) : (modGrants f d).ten = d.ten := (rfl)
@[simp] theorem modGrants_grants (f : Grants → Grants) : (modGrants f d).grants = f d.grants := (rfl)
@[simp] theorem modGrants_host (f : Grants → Grants) : (modGrants f d).host = d.host := (rfl)
@[simp] theorem modGrants_dma (f : Grants → Grants) : (modGrants f d).dma = d.dma := (rfl)
@[simp] theorem modGrants_bsu (f : Grants → Grants) : (modGrants f d).bsu = d.bsu := (rfl)
@[simp] theorem modGrants_tmr (f : Grants → Grants) : (modGrants f d).tmr = d.tmr := (rfl)
@[simp] theorem modGrants_boot (f : Grants → Grants) : (modGrants f d).boot = d.boot := (rfl)
@[simp] theorem modGrants_power (f : Grants → Grants) : (modGrants f d).power = d.power := (rfl)
@[simp] theorem modGrants_board (f : Grants → Grants) : (modGrants f d).board = d.board := (rfl)
@[simp] theorem modGrants_flash (f : Grants → Grants) : (modGrants f d).flash = d.flash := (rfl)
@[simp] theorem modGrants_mail (f : Grants → Grants) : (modGrants f d).mail = d.mail := (rfl)
@[simp] theorem modGrants_fuse (f : Grants → Grants) : (modGrants f d).fuse = d.fuse := (rfl)

@[simp] theorem modMail_clk (f : Mailbox → Mailbox) : (modMail f d).clk = d.clk := (rfl)
@[simp] theorem modMail_whl (f : Mailbox → Mailbox) : (modMail f d).whl = d.whl := (rfl)
@[simp] theorem modMail_span (f : Mailbox → Mailbox) : (modMail f d).span = d.span := (rfl)
@[simp] theorem modMail_fab (f : Mailbox → Mailbox) : (modMail f d).fab = d.fab := (rfl)
@[simp] theorem modMail_lnk (f : Mailbox → Mailbox) : (modMail f d).lnk = d.lnk := (rfl)
@[simp] theorem modMail_mem (f : Mailbox → Mailbox) : (modMail f d).mem = d.mem := (rfl)
@[simp] theorem modMail_cl (f : Mailbox → Mailbox) : (modMail f d).cl = d.cl := (rfl)
@[simp] theorem modMail_ten (f : Mailbox → Mailbox) : (modMail f d).ten = d.ten := (rfl)
@[simp] theorem modMail_grants (f : Mailbox → Mailbox) : (modMail f d).grants = d.grants := (rfl)
@[simp] theorem modMail_host (f : Mailbox → Mailbox) : (modMail f d).host = d.host := (rfl)
@[simp] theorem modMail_dma (f : Mailbox → Mailbox) : (modMail f d).dma = d.dma := (rfl)
@[simp] theorem modMail_bsu (f : Mailbox → Mailbox) : (modMail f d).bsu = d.bsu := (rfl)
@[simp] theorem modMail_tmr (f : Mailbox → Mailbox) : (modMail f d).tmr = d.tmr := (rfl)
@[simp] theorem modMail_boot (f : Mailbox → Mailbox) : (modMail f d).boot = d.boot := (rfl)
@[simp] theorem modMail_power (f : Mailbox → Mailbox) : (modMail f d).power = d.power := (rfl)
@[simp] theorem modMail_board (f : Mailbox → Mailbox) : (modMail f d).board = d.board := (rfl)
@[simp] theorem modMail_flash (f : Mailbox → Mailbox) : (modMail f d).flash = d.flash := (rfl)
@[simp] theorem modMail_mail (f : Mailbox → Mailbox) : (modMail f d).mail = f d.mail := (rfl)
@[simp] theorem modMail_fuse (f : Mailbox → Mailbox) : (modMail f d).fuse = d.fuse := (rfl)

@[simp] theorem modPower_clk (f : Power → Power) : (modPower f d).clk = d.clk := (rfl)
@[simp] theorem modPower_whl (f : Power → Power) : (modPower f d).whl = d.whl := (rfl)
@[simp] theorem modPower_span (f : Power → Power) : (modPower f d).span = d.span := (rfl)
@[simp] theorem modPower_fab (f : Power → Power) : (modPower f d).fab = d.fab := (rfl)
@[simp] theorem modPower_lnk (f : Power → Power) : (modPower f d).lnk = d.lnk := (rfl)
@[simp] theorem modPower_mem (f : Power → Power) : (modPower f d).mem = d.mem := (rfl)
@[simp] theorem modPower_cl (f : Power → Power) : (modPower f d).cl = d.cl := (rfl)
@[simp] theorem modPower_ten (f : Power → Power) : (modPower f d).ten = d.ten := (rfl)
@[simp] theorem modPower_grants (f : Power → Power) : (modPower f d).grants = d.grants := (rfl)
@[simp] theorem modPower_host (f : Power → Power) : (modPower f d).host = d.host := (rfl)
@[simp] theorem modPower_dma (f : Power → Power) : (modPower f d).dma = d.dma := (rfl)
@[simp] theorem modPower_bsu (f : Power → Power) : (modPower f d).bsu = d.bsu := (rfl)
@[simp] theorem modPower_tmr (f : Power → Power) : (modPower f d).tmr = d.tmr := (rfl)
@[simp] theorem modPower_boot (f : Power → Power) : (modPower f d).boot = d.boot := (rfl)
@[simp] theorem modPower_power (f : Power → Power) : (modPower f d).power = f d.power := (rfl)
@[simp] theorem modPower_board (f : Power → Power) : (modPower f d).board = d.board := (rfl)
@[simp] theorem modPower_flash (f : Power → Power) : (modPower f d).flash = d.flash := (rfl)
@[simp] theorem modPower_mail (f : Power → Power) : (modPower f d).mail = d.mail := (rfl)
@[simp] theorem modPower_fuse (f : Power → Power) : (modPower f d).fuse = d.fuse := (rfl)

@[simp] theorem modBoard_clk (f : Board → Board) : (modBoard f d).clk = d.clk := (rfl)
@[simp] theorem modBoard_whl (f : Board → Board) : (modBoard f d).whl = d.whl := (rfl)
@[simp] theorem modBoard_span (f : Board → Board) : (modBoard f d).span = d.span := (rfl)
@[simp] theorem modBoard_fab (f : Board → Board) : (modBoard f d).fab = d.fab := (rfl)
@[simp] theorem modBoard_lnk (f : Board → Board) : (modBoard f d).lnk = d.lnk := (rfl)
@[simp] theorem modBoard_mem (f : Board → Board) : (modBoard f d).mem = d.mem := (rfl)
@[simp] theorem modBoard_cl (f : Board → Board) : (modBoard f d).cl = d.cl := (rfl)
@[simp] theorem modBoard_ten (f : Board → Board) : (modBoard f d).ten = d.ten := (rfl)
@[simp] theorem modBoard_grants (f : Board → Board) : (modBoard f d).grants = d.grants := (rfl)
@[simp] theorem modBoard_host (f : Board → Board) : (modBoard f d).host = d.host := (rfl)
@[simp] theorem modBoard_dma (f : Board → Board) : (modBoard f d).dma = d.dma := (rfl)
@[simp] theorem modBoard_bsu (f : Board → Board) : (modBoard f d).bsu = d.bsu := (rfl)
@[simp] theorem modBoard_tmr (f : Board → Board) : (modBoard f d).tmr = d.tmr := (rfl)
@[simp] theorem modBoard_boot (f : Board → Board) : (modBoard f d).boot = d.boot := (rfl)
@[simp] theorem modBoard_power (f : Board → Board) : (modBoard f d).power = d.power := (rfl)
@[simp] theorem modBoard_board (f : Board → Board) : (modBoard f d).board = f d.board := (rfl)
@[simp] theorem modBoard_flash (f : Board → Board) : (modBoard f d).flash = d.flash := (rfl)
@[simp] theorem modBoard_mail (f : Board → Board) : (modBoard f d).mail = d.mail := (rfl)
@[simp] theorem modBoard_fuse (f : Board → Board) : (modBoard f d).fuse = d.fuse := (rfl)

end Sys2Proof.Machine
end

