-- ==== Sys2Proof/Laws/Tables.lean ====
section
/-!
SUPPORT. Tables: what an entry reads as after an update.
-/
namespace Sys2Proof.Machine

variable {α : Type}

@[simp] theorem tabGet_nil (e : α) (k : Nat) : tabGet e [] k = e := rfl

/-- The entry that was set reads as it was set. -/
@[simp] theorem tabGet_tabSet_same (e : α) (k : Nat) (a : α) (t : Tab α) : tabGet e (tabSet k a t) k = a := by
  induction t with
  | nil => simp [tabSet, tabGet]
  | cons x t ih =>
    obtain ⟨i, b⟩ := x
    simp only [tabSet]
    split
    · simp [tabGet]
    · split
      · simp [tabGet]
      · rename_i h1 h2
        simp [tabGet, h1, h2, ih]

/-- Every other entry reads as before. -/
theorem tabGet_tabSet_ne (e : α) {k j : Nat} (a : α) (t : Tab α) (h : j ≠ k) : tabGet e (tabSet k a t) j = tabGet e t j := by
  induction t with
  | nil => simp [tabSet, tabGet]; intro h'; exact absurd h'.symm h
  | cons x t ih =>
    obtain ⟨i, b⟩ := x
    simp only [tabSet]
    split
    · rename_i h1; subst h1
      simp only [tabGet]
      have : i ≠ j := fun e => h e.symm
      simp [this]
    · split
      · rename_i h1 h2
        have hk : k ≠ j := fun e => h e.symm
        simp only [tabGet, hk, if_false]
        split
        · rename_i h3
          have : i ≠ j := by omega
          have h4 : j < i := by omega
          simp [this, h4]
        · rfl
      · simp only [tabGet, ih]

/-- An entry that was changed by a function. -/
@[simp] theorem tabGet_tabMod_same (e : α) (k : Nat) (f : α → α) (t : Tab α) : tabGet e (tabMod e k f t) k = f (tabGet e t k) := by
  simp [tabMod]

theorem tabGet_tabMod_ne (e e' : α) {k j : Nat} (f : α → α) (t : Tab α) (h : j ≠ k) :
    tabGet e (tabMod e' k f t) j = tabGet e t j := tabGet_tabSet_ne e _ t h

end Sys2Proof.Machine
end

