-- ==== Sys2Proof/Laws/Access.lean ====
section
/-!
SUPPORT. What each numbered part of the device reads as after an update of one of its kind.
-/
namespace Sys2Proof.Machine

@[simp] theorem islOfDev_modIsl_same (i : Nat) (f : Island → Island) (d : Dev) : islOfDev (modIsl i f d) i = f (islOfDev d i) :=
  tabGet_tabMod_same _ _ _ _

@[simp] theorem islOfDev_modIsl_ne {i k : Nat} (f : Island → Island) (d : Dev) (h : k ≠ i) : islOfDev (modIsl i f d) k = islOfDev d k :=
  tabGet_tabMod_ne _ _ _ _ h

@[simp] theorem tenOf_modTen_same (t : Nat) (f : Tenancy → Tenancy) (d : Dev) : tenOf (modTen t f d) t = f (tenOf d t) :=
  tabGet_tabMod_same _ _ _ _

@[simp] theorem tenOf_modTen_ne {t k : Nat} (f : Tenancy → Tenancy) (d : Dev) (h : k ≠ t) : tenOf (modTen t f d) k = tenOf d k :=
  tabGet_tabMod_ne _ _ _ _ h

@[simp] theorem lnkOf_modLnk_same (l : Nat) (f : Link → Link) (d : Dev) : lnkOf (modLnk l f d) l = f (lnkOf d l) :=
  tabGet_tabMod_same _ _ _ _

@[simp] theorem lnkOf_modLnk_ne {l k : Nat} (f : Link → Link) (d : Dev) (h : k ≠ l) : lnkOf (modLnk l f d) k = lnkOf d k :=
  tabGet_tabMod_ne _ _ _ _ h

@[simp] theorem clOf_modCl_same (c : Nat) (f : Cluster → Cluster) (d : Dev) : clOf (modCl c f d) c = f (clOf d c) :=
  tabGet_tabMod_same _ _ _ _

@[simp] theorem clOf_modCl_ne {c k : Nat} (f : Cluster → Cluster) (d : Dev) (h : k ≠ c) : clOf (modCl c f d) k = clOf d k :=
  tabGet_tabMod_ne _ _ _ _ h

@[simp] theorem ringOf_modRing_same (r : Nat) (f : Ring → Ring) (d : Dev) : ringOf (modRing r f d) r = f (ringOf d r) :=
  tabGet_tabMod_same _ _ _ _

@[simp] theorem ringOf_modRing_ne {r k : Nat} (f : Ring → Ring) (d : Dev) (h : k ≠ r) : ringOf (modRing r f d) k = ringOf d k :=
  tabGet_tabMod_ne _ _ _ _ h

@[simp] theorem coreOf_modCore_same (n : Nat) (f : Core → Core) (d : Dev) : coreOf (modCore n f d) n = f (coreOf d n) :=
  tabGet_tabMod_same _ _ _ _

@[simp] theorem coreOf_modCore_ne {n k : Nat} (f : Core → Core) (d : Dev) (h : k ≠ n) : coreOf (modCore n f d) k = coreOf d k :=
  tabGet_tabMod_ne _ _ _ _ h

@[simp] theorem funcOf_modFunc_same (fn : Nat) (f : Func → Func) (d : Dev) : funcOf (modFunc fn f d) fn = f (funcOf d fn) :=
  tabGet_tabMod_same _ _ _ _

@[simp] theorem funcOf_modFunc_ne {fn k : Nat} (f : Func → Func) (d : Dev) (h : k ≠ fn) : funcOf (modFunc fn f d) k = funcOf d k :=
  tabGet_tabMod_ne _ _ _ _ h

@[simp] theorem bsuOf_modBsu_same (u : Nat) (f : Bsu → Bsu) (d : Dev) : bsuOf (modBsu u f d) u = f (bsuOf d u) :=
  tabGet_tabMod_same _ _ _ _

@[simp] theorem bsuOf_modBsu_ne {u k : Nat} (f : Bsu → Bsu) (d : Dev) (h : k ≠ u) : bsuOf (modBsu u f d) k = bsuOf d k :=
  tabGet_tabMod_ne _ _ _ _ h

@[simp] theorem dmaOf_modDma_same (e : Nat) (f : Dma → Dma) (d : Dev) : dmaOf (modDma e f d) e = f (dmaOf d e) :=
  tabGet_tabMod_same _ _ _ _

@[simp] theorem dmaOf_modDma_ne {e k : Nat} (f : Dma → Dma) (d : Dev) (h : k ≠ e) : dmaOf (modDma e f d) k = dmaOf d k :=
  tabGet_tabMod_ne _ _ _ _ h

@[simp] theorem tmrOf_modTmr_same (n : Nat) (f : Timer → Timer) (d : Dev) : tmrOf (modTmr n f d) n = f (tmrOf d n) :=
  tabGet_tabMod_same _ _ _ _

@[simp] theorem tmrOf_modTmr_ne {n k : Nat} (f : Timer → Timer) (d : Dev) (h : k ≠ n) : tmrOf (modTmr n f d) k = tmrOf d k :=
  tabGet_tabMod_ne _ _ _ _ h

@[simp] theorem clOf_setCl_same (c : Nat) (x : Cluster) (d : Dev) : clOf (setCl c x d) c = x := tabGet_tabSet_same _ _ _ _

@[simp] theorem clOf_setCl_ne {c k : Nat} (x : Cluster) (d : Dev) (h : k ≠ c) : clOf (setCl c x d) k = clOf d k :=
  tabGet_tabSet_ne _ _ _ h

@[simp] theorem pllOf_setPll_same (p : Nat) (x : Pll) (d : Dev) : pllOf (setPll p x d) p = x := tabGet_tabSet_same _ _ _ _

@[simp] theorem pllOf_setPll_ne {p k : Nat} (x : Pll) (d : Dev) (h : k ≠ p) : pllOf (setPll p x d) k = pllOf d k :=
  tabGet_tabSet_ne _ _ _ h

/-! A part depends on its component alone. -/

theorem islOfDev_congr {d e : Dev} (h : d.clk = e.clk) (k : Nat) : islOfDev d k = islOfDev e k := by simp [islOfDev, h]
theorem pllOf_congr {d e : Dev} (h : d.clk = e.clk) (k : Nat) : pllOf d k = pllOf e k := by simp [pllOf, h]
theorem tenOf_congr {d e : Dev} (h : d.ten = e.ten) (k : Nat) : tenOf d k = tenOf e k := by simp [tenOf, h]
theorem lnkOf_congr {d e : Dev} (h : d.lnk = e.lnk) (k : Nat) : lnkOf d k = lnkOf e k := by simp [lnkOf, h]
theorem clOf_congr {d e : Dev} (h : d.cl = e.cl) (k : Nat) : clOf d k = clOf e k := by simp [clOf, h]
theorem ringOf_congr {d e : Dev} (h : d.host = e.host) (k : Nat) : ringOf d k = ringOf e k := by simp [ringOf, h]
theorem coreOf_congr {d e : Dev} (h : d.host = e.host) (k : Nat) : coreOf d k = coreOf e k := by simp [coreOf, h]
theorem funcOf_congr {d e : Dev} (h : d.host = e.host) (k : Nat) : funcOf d k = funcOf e k := by simp [funcOf, h]
theorem bsuOf_congr {d e : Dev} (h : d.bsu = e.bsu) (k : Nat) : bsuOf d k = bsuOf e k := by simp [bsuOf, h]
theorem dmaOf_congr {d e : Dev} (h : d.dma = e.dma) (k : Nat) : dmaOf d k = dmaOf e k := by simp [dmaOf, h]
theorem tmrOf_congr {d e : Dev} (h : d.tmr = e.tmr) (k : Nat) : tmrOf d k = tmrOf e k := by simp [tmrOf, h]
theorem grantOf_congr {d e : Dev} (h : d.grants = e.grants) (k : Nat) : grantOf d k = grantOf e k := by simp [grantOf, h]

/-! ## Faults of tenancies (21 R709, R710) -/

@[simp] theorem sendMsix_ten (fn v : Nat) (d : Dev) : (sendMsix fn v d).ten = d.ten := by
  unfold sendMsix; dsimp only; (repeat' split) <;> simp [modFunc, issueOut, apply_ite Dev.ten]

theorem raiseCause_ten (t b : Nat) (d : Dev) :
    (raiseCause t b d).ten = (modTen t (fun x => { x with tcause := x.tcause ||| BitVec.ofNat 32 (pow2 b) }) d).ten := by
  unfold raiseCause; dsimp only; split <;> simp

@[simp] theorem raiseDev_ten (b : Nat) (d : Dev) : (raiseDev b d).ten = d.ten := by
  unfold raiseDev; dsimp only; split <;> simp

/-- A fault is recorded in its tenancy, whose cause bit it sets. -/
theorem tenOf_raiseFault_same (t code : Nat) (d : Dev) :
    tenOf (raiseFault t code d) t =
      { recordFault (gcOf d.whl) d.whl.now code (tenOf d t) with
        tcause := (recordFault (gcOf d.whl) d.whl.now code (tenOf d t)).tcause ||| BitVec.ofNat 32 (pow2 0) } := by
  rw [raiseFault, tenOf_congr (raiseCause_ten _ _ _)]; simp

@[simp] theorem tenOf_raiseFault_ne {t u : Nat} (code : Nat) (d : Dev) (h : u ≠ t) : tenOf (raiseFault t code d) u = tenOf d u := by
  rw [raiseFault, tenOf_congr (raiseCause_ten _ _ _)]; simp [h]

/-- The first fault of a tenancy since its last stop is the one it records. -/
theorem raiseFault_first (t code : Nat) (d : Dev) (h : (tenOf d t).stopDue = false) :
    (tenOf (raiseFault t code d) t).fault = code ∧ (tenOf (raiseFault t code d) t).stopDue = true := by
  simp [tenOf_raiseFault_same, recordFault, h]

/-- A tenancy that already has the fault keeps it when the same fault comes again. -/
theorem raiseFault_again (t u code : Nat) (d : Dev) (h : (tenOf d u).fault = code ∧ (tenOf d u).stopDue = true) :
    (tenOf (raiseFault t code d) u).fault = code ∧ (tenOf (raiseFault t code d) u).stopDue = true := by
  by_cases e : u = t
  · subst e
    obtain ⟨h1, h2⟩ := h
    rw [tenOf_raiseFault_same]
    simp only [recordFault, h2, if_true]
    repeat' split
    all_goals simp_all
  · simp [e, h]

/-- Every tenancy of a list that had no fault to stop for has this one afterwards. -/
theorem faultAll_first (ts : List Nat) (code : Nat) (d : Dev) (t : Nat) (ht : t ∈ ts) (h : (tenOf d t).stopDue = false) :
    (tenOf (faultAll ts code d) t).fault = code ∧ (tenOf (faultAll ts code d) t).stopDue = true := by
  have keep : ∀ (ts : List Nat) (d : Dev), (tenOf d t).fault = code ∧ (tenOf d t).stopDue = true →
      (tenOf (faultAll ts code d) t).fault = code ∧ (tenOf (faultAll ts code d) t).stopDue = true := by
    intro ts
    induction ts with
    | nil => intro d h; exact h
    | cons u us ih => intro d h; exact ih _ (raiseFault_again u t code d h)
  induction ts generalizing d with
  | nil => cases ht
  | cons u us ih =>
    by_cases e : t = u
    · subst e; exact keep us _ (raiseFault_first t code d h)
    · refine ih _ ?_ ?_
      · simpa [e] using ht
      · simpa [e] using h

end Sys2Proof.Machine
end

