-- ==== Sys2Proof/Laws/Fold.lean ====
section
/-!
SUPPORT. A field that every step of a fold keeps is kept by the fold; the same for the ways a command is run.
-/
namespace Sys2Proof.Machine

theorem foldl_keeps {α β : Type} (π : Dev → β) (g : Dev → α → Dev) (h : ∀ a x, π (g a x) = π a) (l : List α) (d : Dev) :
    π (l.foldl g d) = π d := by
  induction l generalizing d with
  | nil => rfl
  | cons x l ih => simp [ih, h]

/-- The same for a fold that carries something beside the device. -/
theorem foldl_snd_keeps {α β σ : Type} (π : Dev → β) (g : σ × Dev → α → σ × Dev) (h : ∀ r x, π (g r x).2 = π r.2) (l : List α)
    (r : σ × Dev) : π (l.foldl g r).2 = π r.2 := by
  induction l generalizing r with
  | nil => rfl
  | cons x l ih => simp [ih, h]

theorem runCmd_keeps {β : Type} (π : Dev → β) (r op : Nat) (body : Cmd → Dev → Dev) (d : Dev) (h : ∀ c a, π (body c a) = π a)
    (hh : ∀ (f : HostIf → HostIf) (a : Dev), π (modHost f a) = π a) : π (runCmd r op body d) = π d := by
  have ht (a : Dev) : π (tookTurn r a) = π a := by
    unfold tookTurn; dsimp only; split
    · exact hh (fun x => { x with cores := tabMod {} (ringOf a r).serving (fun c => { c with last := some r }) x.cores }) a
    · rfl
  unfold runCmd; split
  · rename_i c _
    split
    · exact (hh (fun x => { x with cmds := x.cmds.map fun y => if y.id = c.id then { y with steps := y.steps - 1 } else y }) _).trans (ht d)
    · exact (h _ _).trans (ht d)
  · rfl

@[simp] theorem foldl_clk {α : Type} (g : Dev → α → Dev) (h : ∀ a x, (g a x).clk = a.clk) (l : List α) (d : Dev) :
    (l.foldl g d).clk = d.clk := foldl_keeps (·.clk) g h l d
@[simp] theorem runCmd_clk (r op : Nat) (body : Cmd → Dev → Dev) (d : Dev) (h : ∀ c a, (body c a).clk = a.clk) :
    (runCmd r op body d).clk = d.clk := runCmd_keeps (·.clk) r op body d h fun _ _ => rfl
@[simp] theorem foldl_whl {α : Type} (g : Dev → α → Dev) (h : ∀ a x, (g a x).whl = a.whl) (l : List α) (d : Dev) :
    (l.foldl g d).whl = d.whl := foldl_keeps (·.whl) g h l d
@[simp] theorem runCmd_whl (r op : Nat) (body : Cmd → Dev → Dev) (d : Dev) (h : ∀ c a, (body c a).whl = a.whl) :
    (runCmd r op body d).whl = d.whl := runCmd_keeps (·.whl) r op body d h fun _ _ => rfl
@[simp] theorem foldl_span {α : Type} (g : Dev → α → Dev) (h : ∀ a x, (g a x).span = a.span) (l : List α) (d : Dev) :
    (l.foldl g d).span = d.span := foldl_keeps (·.span) g h l d
@[simp] theorem runCmd_span (r op : Nat) (body : Cmd → Dev → Dev) (d : Dev) (h : ∀ c a, (body c a).span = a.span) :
    (runCmd r op body d).span = d.span := runCmd_keeps (·.span) r op body d h fun _ _ => rfl
@[simp] theorem foldl_fab {α : Type} (g : Dev → α → Dev) (h : ∀ a x, (g a x).fab = a.fab) (l : List α) (d : Dev) :
    (l.foldl g d).fab = d.fab := foldl_keeps (·.fab) g h l d
@[simp] theorem runCmd_fab (r op : Nat) (body : Cmd → Dev → Dev) (d : Dev) (h : ∀ c a, (body c a).fab = a.fab) :
    (runCmd r op body d).fab = d.fab := runCmd_keeps (·.fab) r op body d h fun _ _ => rfl
@[simp] theorem foldl_lnk {α : Type} (g : Dev → α → Dev) (h : ∀ a x, (g a x).lnk = a.lnk) (l : List α) (d : Dev) :
    (l.foldl g d).lnk = d.lnk := foldl_keeps (·.lnk) g h l d
@[simp] theorem runCmd_lnk (r op : Nat) (body : Cmd → Dev → Dev) (d : Dev) (h : ∀ c a, (body c a).lnk = a.lnk) :
    (runCmd r op body d).lnk = d.lnk := runCmd_keeps (·.lnk) r op body d h fun _ _ => rfl
@[simp] theorem foldl_mem {α : Type} (g : Dev → α → Dev) (h : ∀ a x, (g a x).mem = a.mem) (l : List α) (d : Dev) :
    (l.foldl g d).mem = d.mem := foldl_keeps (·.mem) g h l d
@[simp] theorem runCmd_mem (r op : Nat) (body : Cmd → Dev → Dev) (d : Dev) (h : ∀ c a, (body c a).mem = a.mem) :
    (runCmd r op body d).mem = d.mem := runCmd_keeps (·.mem) r op body d h fun _ _ => rfl
@[simp] theorem foldl_cl {α : Type} (g : Dev → α → Dev) (h : ∀ a x, (g a x).cl = a.cl) (l : List α) (d : Dev) :
    (l.foldl g d).cl = d.cl := foldl_keeps (·.cl) g h l d
@[simp] theorem runCmd_cl (r op : Nat) (body : Cmd → Dev → Dev) (d : Dev) (h : ∀ c a, (body c a).cl = a.cl) :
    (runCmd r op body d).cl = d.cl := runCmd_keeps (·.cl) r op body d h fun _ _ => rfl
@[simp] theorem foldl_ten {α : Type} (g : Dev → α → Dev) (h : ∀ a x, (g a x).ten = a.ten) (l : List α) (d : Dev) :
    (l.foldl g d).ten = d.ten := foldl_keeps (·.ten) g h l d
@[simp] theorem runCmd_ten (r op : Nat) (body : Cmd → Dev → Dev) (d : Dev) (h : ∀ c a, (body c a).ten = a.ten) :
    (runCmd r op body d).ten = d.ten := runCmd_keeps (·.ten) r op body d h fun _ _ => rfl
@[simp] theorem foldl_grants {α : Type} (g : Dev → α → Dev) (h : ∀ a x, (g a x).grants = a.grants) (l : List α) (d : Dev) :
    (l.foldl g d).grants = d.grants := foldl_keeps (·.grants) g h l d
@[simp] theorem runCmd_grants (r op : Nat) (body : Cmd → Dev → Dev) (d : Dev) (h : ∀ c a, (body c a).grants = a.grants) :
    (runCmd r op body d).grants = d.grants := runCmd_keeps (·.grants) r op body d h fun _ _ => rfl
@[simp] theorem foldl_host {α : Type} (g : Dev → α → Dev) (h : ∀ a x, (g a x).host = a.host) (l : List α) (d : Dev) :
    (l.foldl g d).host = d.host := foldl_keeps (·.host) g h l d
@[simp] theorem foldl_dma {α : Type} (g : Dev → α → Dev) (h : ∀ a x, (g a x).dma = a.dma) (l : List α) (d : Dev) :
    (l.foldl g d).dma = d.dma := foldl_keeps (·.dma) g h l d
@[simp] theorem runCmd_dma (r op : Nat) (body : Cmd → Dev → Dev) (d : Dev) (h : ∀ c a, (body c a).dma = a.dma) :
    (runCmd r op body d).dma = d.dma := runCmd_keeps (·.dma) r op body d h fun _ _ => rfl
@[simp] theorem foldl_bsu {α : Type} (g : Dev → α → Dev) (h : ∀ a x, (g a x).bsu = a.bsu) (l : List α) (d : Dev) :
    (l.foldl g d).bsu = d.bsu := foldl_keeps (·.bsu) g h l d
@[simp] theorem runCmd_bsu (r op : Nat) (body : Cmd → Dev → Dev) (d : Dev) (h : ∀ c a, (body c a).bsu = a.bsu) :
    (runCmd r op body d).bsu = d.bsu := runCmd_keeps (·.bsu) r op body d h fun _ _ => rfl
@[simp] theorem foldl_tmr {α : Type} (g : Dev → α → Dev) (h : ∀ a x, (g a x).tmr = a.tmr) (l : List α) (d : Dev) :
    (l.foldl g d).tmr = d.tmr := foldl_keeps (·.tmr) g h l d
@[simp] theorem runCmd_tmr (r op : Nat) (body : Cmd → Dev → Dev) (d : Dev) (h : ∀ c a, (body c a).tmr = a.tmr) :
    (runCmd r op body d).tmr = d.tmr := runCmd_keeps (·.tmr) r op body d h fun _ _ => rfl
@[simp] theorem foldl_boot {α : Type} (g : Dev → α → Dev) (h : ∀ a x, (g a x).boot = a.boot) (l : List α) (d : Dev) :
    (l.foldl g d).boot = d.boot := foldl_keeps (·.boot) g h l d
@[simp] theorem runCmd_boot (r op : Nat) (body : Cmd → Dev → Dev) (d : Dev) (h : ∀ c a, (body c a).boot = a.boot) :
    (runCmd r op body d).boot = d.boot := runCmd_keeps (·.boot) r op body d h fun _ _ => rfl
@[simp] theorem foldl_power {α : Type} (g : Dev → α → Dev) (h : ∀ a x, (g a x).power = a.power) (l : List α) (d : Dev) :
    (l.foldl g d).power = d.power := foldl_keeps (·.power) g h l d
@[simp] theorem runCmd_power (r op : Nat) (body : Cmd → Dev → Dev) (d : Dev) (h : ∀ c a, (body c a).power = a.power) :
    (runCmd r op body d).power = d.power := runCmd_keeps (·.power) r op body d h fun _ _ => rfl
@[simp] theorem foldl_board {α : Type} (g : Dev → α → Dev) (h : ∀ a x, (g a x).board = a.board) (l : List α) (d : Dev) :
    (l.foldl g d).board = d.board := foldl_keeps (·.board) g h l d
@[simp] theorem runCmd_board (r op : Nat) (body : Cmd → Dev → Dev) (d : Dev) (h : ∀ c a, (body c a).board = a.board) :
    (runCmd r op body d).board = d.board := runCmd_keeps (·.board) r op body d h fun _ _ => rfl
@[simp] theorem foldl_flash {α : Type} (g : Dev → α → Dev) (h : ∀ a x, (g a x).flash = a.flash) (l : List α) (d : Dev) :
    (l.foldl g d).flash = d.flash := foldl_keeps (·.flash) g h l d
@[simp] theorem runCmd_flash (r op : Nat) (body : Cmd → Dev → Dev) (d : Dev) (h : ∀ c a, (body c a).flash = a.flash) :
    (runCmd r op body d).flash = d.flash := runCmd_keeps (·.flash) r op body d h fun _ _ => rfl
@[simp] theorem foldl_mail {α : Type} (g : Dev → α → Dev) (h : ∀ a x, (g a x).mail = a.mail) (l : List α) (d : Dev) :
    (l.foldl g d).mail = d.mail := foldl_keeps (·.mail) g h l d
@[simp] theorem runCmd_mail (r op : Nat) (body : Cmd → Dev → Dev) (d : Dev) (h : ∀ c a, (body c a).mail = a.mail) :
    (runCmd r op body d).mail = d.mail := runCmd_keeps (·.mail) r op body d h fun _ _ => rfl
@[simp] theorem foldl_fuse {α : Type} (g : Dev → α → Dev) (h : ∀ a x, (g a x).fuse = a.fuse) (l : List α) (d : Dev) :
    (l.foldl g d).fuse = d.fuse := foldl_keeps (·.fuse) g h l d
@[simp] theorem runCmd_fuse (r op : Nat) (body : Cmd → Dev → Dev) (d : Dev) (h : ∀ c a, (body c a).fuse = a.fuse) :
    (runCmd r op body d).fuse = d.fuse := runCmd_keeps (·.fuse) r op body d h fun _ _ => rfl


/-- The cells of memory, kept where counters, queues or ECC states change. -/
@[simp] theorem foldl_mem_cells {α : Type} (g : Dev → α → Dev) (h : ∀ a x, (g a x).mem.cells = a.mem.cells) (l : List α) (d : Dev) :
    (l.foldl g d).mem.cells = d.mem.cells := foldl_keeps (·.mem.cells) g h l d
@[simp] theorem runCmd_mem_cells (r op : Nat) (body : Cmd → Dev → Dev) (d : Dev) (h : ∀ c a, (body c a).mem.cells = a.mem.cells) :
    (runCmd r op body d).mem.cells = d.mem.cells := runCmd_keeps (·.mem.cells) r op body d h fun _ _ => rfl

theorem runPf_keeps {β : Type} (π : Dev → β) (r op : Nat) (body : Cmd → Dev → Dev) (d : Dev)
    (hf : ∀ i st a b e, π (finish i st a b e) = π e) (hh : ∀ (f : HostIf → HostIf) (a : Dev), π (modHost f a) = π a)
    (h : ∀ c a, π (body c a) = π a) : π (runPf r op body d) = π d := by
  unfold runPf; refine runCmd_keeps _ _ _ _ _ ?_ hh; intro c a; split <;> simp [h, hf]

theorem runTen_keeps {β : Type} (π : Dev → β) (r op : Nat) (body : Nat → Cmd → Dev → Dev) (d : Dev)
    (hf : ∀ i st a b e, π (finish i st a b e) = π e) (hh : ∀ (f : HostIf → HostIf) (a : Dev), π (modHost f a) = π a)
    (h : ∀ t c a, π (body t c a) = π a) : π (runTen r op body d) = π d := by
  unfold runTen; refine runCmd_keeps _ _ _ _ _ ?_ hh; intro c a; dsimp only; split <;> simp [h, hf]

@[simp] theorem runPf_mem (r op : Nat) (body : Cmd → Dev → Dev) (d : Dev) (h : ∀ c a, (body c a).mem = a.mem) :
    (runPf r op body d).mem = d.mem := runPf_keeps (·.mem) r op body d (fun _ _ _ _ _ => rfl) (fun _ _ => rfl) h
@[simp] theorem runTen_mem (r op : Nat) (body : Nat → Cmd → Dev → Dev) (d : Dev) (h : ∀ t c a, (body t c a).mem = a.mem) :
    (runTen r op body d).mem = d.mem := runTen_keeps (·.mem) r op body d (fun _ _ _ _ _ => rfl) (fun _ _ => rfl) h
@[simp] theorem runPf_mem_cells (r op : Nat) (body : Cmd → Dev → Dev) (d : Dev) (h : ∀ c a, (body c a).mem.cells = a.mem.cells) :
    (runPf r op body d).mem.cells = d.mem.cells := runPf_keeps (·.mem.cells) r op body d (fun _ _ _ _ _ => rfl) (fun _ _ => rfl) h
@[simp] theorem runTen_mem_cells (r op : Nat) (body : Nat → Cmd → Dev → Dev) (d : Dev) (h : ∀ t c a, (body t c a).mem.cells = a.mem.cells) :
    (runTen r op body d).mem.cells = d.mem.cells := runTen_keeps (·.mem.cells) r op body d (fun _ _ _ _ _ => rfl) (fun _ _ => rfl) h

/-! ## The canonical form through folds and commands -/

@[simp] theorem foldl_wf {α : Type} (g : Dev → α → Dev) (h : ∀ a x, Memory.wf a.mem.cells = true → Memory.wf (g a x).mem.cells = true)
    (l : List α) (d : Dev) (hd : Memory.wf d.mem.cells = true) : Memory.wf (l.foldl g d).mem.cells = true := by
  induction l generalizing d with
  | nil => exact hd
  | cons x l ih => exact ih _ (h d x hd)

@[simp] theorem runCmd_wf (r op : Nat) (body : Cmd → Dev → Dev) (d : Dev) (hd : Memory.wf d.mem.cells = true)
    (h : ∀ c a, Memory.wf a.mem.cells = true → Memory.wf (body c a).mem.cells = true) : Memory.wf (runCmd r op body d).mem.cells = true := by
  have ht : Memory.wf (tookTurn r d).mem.cells = true := by
    unfold tookTurn; dsimp only; split
    · exact hd
    · exact hd
  unfold runCmd; split
  · split
    · exact ht
    · exact h _ _ ht
  · exact hd

@[simp] theorem runPf_wf (r op : Nat) (body : Cmd → Dev → Dev) (d : Dev) (hd : Memory.wf d.mem.cells = true)
    (h : ∀ c a, Memory.wf a.mem.cells = true → Memory.wf (body c a).mem.cells = true) : Memory.wf (runPf r op body d).mem.cells = true := by
  unfold runPf; apply runCmd_wf _ _ _ _ hd; intro c a ha; split
  · exact ha
  · exact h _ _ ha

@[simp] theorem runTen_wf (r op : Nat) (body : Nat → Cmd → Dev → Dev) (d : Dev) (hd : Memory.wf d.mem.cells = true)
    (h : ∀ t c a, Memory.wf a.mem.cells = true → Memory.wf (body t c a).mem.cells = true) : Memory.wf (runTen r op body d).mem.cells = true := by
  unfold runTen; apply runCmd_wf _ _ _ _ hd; intro c a ha; dsimp only; split
  · exact ha
  · exact h _ _ _ ha

end Sys2Proof.Machine
end

