-- ==== Sys2Proof/Laws/Memory.lean ====
section
/-!
SUPPORT. Byte memory: what a write leaves, and that every memory operation keeps the canonical form.
-/
namespace Sys2Proof.Machine

/-! ## The canonical form -/

@[simp] theorem wf_nil : Memory.wf [] = true := rfl

/-- The canonical form of a list with a first cell: it is not 0, it lies below the next one, and the rest has the form. -/
theorem wf_cons (a : Nat) (b : Byte) (t : List Host.Cell) :
    Memory.wf ((a, b) :: t) = true ↔ b ≠ unwritten ∧ (∀ c ∈ t.head?, a < c.1) ∧ Memory.wf t = true := by
  cases t with
  | nil => simp [Memory.wf]
  | cons c t => obtain ⟨a', b'⟩ := c; simp [Memory.wf, and_assoc]

theorem wf_tail {c : Host.Cell} {t : List Host.Cell} (h : Memory.wf (c :: t) = true) : Memory.wf t = true := by
  obtain ⟨a, b⟩ := c; exact ((wf_cons a b t).1 h).2.2

/-- In canonical memory every later cell lies above the first. -/
theorem wf_lt {a : Nat} {b : Byte} {t : List Host.Cell} (h : Memory.wf ((a, b) :: t) = true) : ∀ c ∈ t, a < c.1 := by
  induction t generalizing a b with
  | nil => simp
  | cons x t ih =>
    obtain ⟨a', b'⟩ := x
    have h1 := (wf_cons a b _).1 h
    have h2 : a < a' := h1.2.1 (a', b') (by simp)
    intro c hc
    rcases List.mem_cons.1 hc with rfl | hc
    · exact h2
    · exact Nat.lt_trans h2 (ih h1.2.2 c hc)

theorem tabDel_head {a k : Nat} {t : List Host.Cell} (h : ∀ c ∈ t, a < c.1) : ∀ c ∈ tabDel k t, a < c.1 := by
  induction t with
  | nil => simp [tabDel]
  | cons x t ih =>
    obtain ⟨i, v⟩ := x
    have ht : ∀ c ∈ t, a < c.1 := fun c hc => h c (List.mem_cons_of_mem _ hc)
    simp only [tabDel]
    split
    · exact ht
    · split
      · exact h
      · intro c hc
        rcases List.mem_cons.1 hc with rfl | hc
        · exact h _ (by simp)
        · exact ih ht c hc

theorem tabSet_head {a k : Nat} {b : Byte} {t : List Host.Cell} (h : ∀ c ∈ t, a < c.1) (hk : a < k) : ∀ c ∈ tabSet k b t, a < c.1 := by
  induction t with
  | nil => simp [tabSet, hk]
  | cons x t ih =>
    obtain ⟨i, v⟩ := x
    have ht : ∀ c ∈ t, a < c.1 := fun c hc => h c (List.mem_cons_of_mem _ hc)
    simp only [tabSet]
    split
    · intro c hc
      rcases List.mem_cons.1 hc with rfl | hc
      · exact hk
      · exact ht c hc
    · split
      · intro c hc
        rcases List.mem_cons.1 hc with rfl | hc
        · exact hk
        · exact h c hc
      · intro c hc
        rcases List.mem_cons.1 hc with rfl | hc
        · exact h _ (by simp)
        · exact ih ht c hc

theorem wf_of_lt {a : Nat} {b : Byte} {t : List Host.Cell} (hb : b ≠ unwritten) (h : ∀ c ∈ t, a < c.1) (ht : Memory.wf t = true) :
    Memory.wf ((a, b) :: t) = true :=
  (wf_cons a b t).2 ⟨hb, fun c hc => h c (List.mem_of_mem_head? hc), ht⟩

theorem wf_tabDel (k : Nat) (t : List Host.Cell) (h : Memory.wf t = true) : Memory.wf (tabDel k t) = true := by
  induction t with
  | nil => rfl
  | cons x t ih =>
    obtain ⟨i, v⟩ := x
    simp only [tabDel]
    split
    · exact wf_tail h
    · split
      · exact h
      · exact wf_of_lt ((wf_cons i v t).1 h).1 (tabDel_head (wf_lt h)) (ih (wf_tail h))

theorem wf_tabSet (k : Nat) (b : Byte) (t : List Host.Cell) (hb : b ≠ unwritten) (h : Memory.wf t = true) :
    Memory.wf (tabSet k b t) = true := by
  induction t with
  | nil => exact wf_of_lt hb (by simp) rfl
  | cons x t ih =>
    obtain ⟨i, v⟩ := x
    simp only [tabSet]
    split
    · rename_i hi; subst hi
      exact wf_of_lt hb (wf_lt h) (wf_tail h)
    · split
      · rename_i h1 h2
        refine wf_of_lt hb (fun c hc => ?_) h
        rcases List.mem_cons.1 hc with rfl | hc
        · exact h2
        · exact Nat.lt_trans h2 (wf_lt h c hc)
      · rename_i h1 h2
        exact wf_of_lt ((wf_cons i v t).1 h).1 (tabSet_head (wf_lt h) (by omega)) (ih (wf_tail h))

/-- A byte write keeps the canonical form. -/
theorem wf_memSet (m : List Host.Cell) (a : Nat) (b : Byte) (h : Memory.wf m = true) : Memory.wf (memSet m a b) = true := by
  unfold memSet
  split
  · exact wf_tabDel a m h
  · rename_i hb; exact wf_tabSet a b m hb h

/-- A write of n bytes keeps the canonical form. -/
theorem wf_memWrite (n : Nat) (m : List Host.Cell) (a v : Nat) (h : Memory.wf m = true) : Memory.wf (memWrite m a n v) = true := by
  induction n generalizing m a v with
  | zero => exact h
  | succ n ih => exact ih _ _ _ (wf_memSet m a _ h)

/-- Taking cells out keeps the canonical form. -/
theorem wf_filter (p : Host.Cell → Bool) (t : List Host.Cell) (h : Memory.wf t = true) : Memory.wf (t.filter p) = true := by
  induction t with
  | nil => rfl
  | cons x t ih =>
    obtain ⟨a, b⟩ := x
    rw [List.filter_cons]
    split
    · exact wf_of_lt ((wf_cons a b t).1 h).1 (fun c hc => wf_lt h c ((List.mem_filter.1 hc).1)) (ih (wf_tail h))
    · exact ih (wf_tail h)

/-! ## Reading after writing -/

theorem tabGet_above {α : Type} (e : α) (k : Nat) (t : Tab α) (h : ∀ c ∈ t, k < c.1) : tabGet e t k = e := by
  cases t with
  | nil => rfl
  | cons x t =>
    obtain ⟨i, b⟩ := x
    have : k < i := h (i, b) (by simp)
    have h1 : i ≠ k := by omega
    simp [tabGet, h1, this]

theorem memGet_tabDel (m : List Host.Cell) (a x : Nat) (h : Memory.wf m = true) :
    memGet (tabDel a m) x = if x = a then 0 else memGet m x := by
  induction m with
  | nil => simp [tabDel, memGet, unwritten]
  | cons c t ih =>
    obtain ⟨i, b⟩ := c
    have hl := wf_lt h
    have ih' := ih (wf_tail h)
    by_cases hi : i = a
    · subst hi
      simp only [tabDel, if_true]
      by_cases hx : x = i
      · subst hx; simp only [if_true]; exact tabGet_above _ _ _ hl
      · simp only [hx, if_false, memGet, tabGet]
        have hx' : i ≠ x := fun e => hx e.symm
        simp only [hx', if_false]
        split
        · rename_i hlt; exact tabGet_above _ _ _ fun c hc => Nat.lt_trans hlt (hl c hc)
        · rfl
    · by_cases hlt : a < i
      · simp only [tabDel, hi, if_false, hlt, if_true]
        by_cases hx : x = a
        · subst hx; simp [memGet, tabGet, hi, hlt, unwritten]
        · simp [hx]
      · simp only [tabDel, hi, if_false, hlt, memGet, tabGet]
        by_cases h1 : i = x
        · subst h1; simp [hi]
        · simp only [h1, if_false]
          split
          · rename_i h2
            have : x ≠ a := by omega
            simp [this]
          · exact ih'

/-- A byte that was written reads as it was written, and every other byte as before. -/
theorem memGet_memSet (m : List Host.Cell) (a x : Nat) (b : Byte) (h : Memory.wf m = true) :
    memGet (memSet m a b) x = if x = a then b else memGet m x := by
  unfold memSet
  split
  · rename_i hb; subst hb; exact memGet_tabDel m a x h
  · by_cases hx : x = a
    · subst hx; simp [memGet]
    · simp only [hx, if_false]; exact tabGet_tabSet_ne _ _ _ hx

/-- A write of n bytes leaves every byte outside them as it was. -/
theorem memGet_memWrite_outside (n : Nat) (m : List Host.Cell) (a v x : Nat) (h : Memory.wf m = true) (hx : x < a ∨ a + n ≤ x) :
    memGet (memWrite m a n v) x = memGet m x := by
  induction n generalizing m a v with
  | zero => rfl
  | succ n ih =>
    simp only [memWrite]
    rw [ih _ _ _ (wf_memSet m a _ h) (by omega), memGet_memSet m a x _ h]
    have : x ≠ a := by omega
    simp [this]

/-- A write of n bytes puts byte i of the value at the address i above. -/
theorem memGet_memWrite_inside (n : Nat) (m : List Host.Cell) (a v i : Nat) (h : Memory.wf m = true) (hi : i < n) :
    memGet (memWrite m a n v) (a + i) = BitVec.ofNat 8 (v / 256 ^ i) := by
  induction n generalizing m a v i with
  | zero => omega
  | succ n ih =>
    simp only [memWrite]
    cases i with
    | zero =>
      rw [memGet_memWrite_outside n _ _ _ _ (wf_memSet m a _ h) (by omega), memGet_memSet m a _ _ h]
      simp
    | succ i =>
      have := ih (memSet m a (BitVec.ofNat 8 v)) (a + 1) (v / 256) i (wf_memSet m a _ h) (by omega)
      rw [show a + (i + 1) = a + 1 + i by omega, this, Nat.div_div_eq_div_mul, Nat.pow_succ, Nat.mul_comm]

/-! ## Protected units and lines (06 R232 to R235) -/

theorem wf_writeUnit (n a v mask : Nat) (p : Bool) (m : Mem) (h : Memory.wf m.cells = true) :
    Memory.wf (writeUnit n a v mask p m).1.cells = true := by
  unfold writeUnit
  split
  · exact h
  · exact wf_memWrite n _ _ _ h

/-- A fold over a pair keeps what every step keeps. -/
theorem foldl_inv {σ α : Type} (P : σ → Prop) (g : σ → α → σ) (h : ∀ a x, P a → P (g a x)) (l : List α) (s : σ) (hs : P s) :
    P (l.foldl g s) := by
  induction l generalizing s with
  | nil => exact hs
  | cons x l ih => exact ih _ (h s x hs)

theorem wf_writeLine8 (a v mask p : Nat) (m : Mem) (h : Memory.wf m.cells = true) :
    Memory.wf (writeLine8 a v mask p m).1.cells = true := by
  unfold writeLine8
  refine foldl_inv (fun r : Mem × Nat × Nat => Memory.wf r.1.cells = true) _ (fun r x hr => ?_) _ _ h
  exact wf_writeUnit _ _ _ _ _ _ hr

end Sys2Proof.Machine
end

