-- ==== Sys2Proof/Laws/FramesTile.lean ====
section
/-!
SUPPORT. What each operation does to device memory: it leaves it alone, or keeps its canonical form (the wheel of events of a cluster, the fabric and the columns).
-/
namespace Sys2Proof.Machine

/-! ## Machine/Ops.lean -/

@[simp] theorem advanceTo_mem (t : Nat) (d : Dev) : (advanceTo t d).mem = d.mem := by simp [advanceTo, apply_ite Dev.mem]

/-! ## Machine/Flags.lean -/

@[simp] theorem issueOut_mem (fn : Nat) (o : Out) (d : Dev) : (issueOut fn o d).mem = d.mem := by simp [issueOut, apply_ite Dev.mem]
@[simp] theorem sendMsix_mem (fn v : Nat) (d : Dev) : (sendMsix fn v d).mem = d.mem := by simp [sendMsix, apply_ite Dev.mem]
@[simp] theorem raiseCause_mem (t b : Nat) (d : Dev) : (raiseCause t b d).mem = d.mem := by simp [raiseCause, apply_ite Dev.mem]
@[simp] theorem raiseDev_mem (b : Nat) (d : Dev) : (raiseDev b d).mem = d.mem := by simp [raiseDev, apply_ite Dev.mem]
@[simp] theorem raiseFault_mem (t code : Nat) (d : Dev) : (raiseFault t code d).mem = d.mem := by simp [raiseFault]
@[simp] theorem faultHolder_mem (cl code : Nat) (d : Dev) : (faultHolder cl code d).mem = d.mem := by unfold faultHolder; (repeat' split) <;> simp

/-! ## Machine/Cycle.lean -/

@[simp] theorem logError_mem_cells (key addr kind : Nat) (ten : Option Nat) (d : Dev) : (logError key addr kind ten d).mem.cells = d.mem.cells := by simp [logError, apply_ite Dev.mem, apply_ite Mem.cells]
@[simp] theorem logRead_mem_cells (key a : Nat) (r : LineRead) (ten : Option Nat) (d : Dev) : (logRead key a r ten d).mem.cells = d.mem.cells := by simp [logRead, apply_ite Dev.mem, apply_ite Mem.cells]
@[simp] theorem countPane_mem_cells (cl a : Nat) (r : LineRead) (d : Dev) : (countPane cl a r d).mem.cells = d.mem.cells := by simp [countPane]
@[simp] theorem logMerge_mem_cells (cl a mask : Nat) (m : Mem) (d : Dev) : (logMerge cl a mask m d).mem.cells = d.mem.cells := by unfold logMerge; (repeat' split) <;> simp
@[simp] theorem paneWrite_wf (cl line v mask poison : Nat) (d : Dev) (h : Memory.wf d.mem.cells = true) :
    Memory.wf (paneWrite cl line v mask poison d).mem.cells = true := by
  unfold paneWrite; dsimp only; split
  · simpa using h
  · simpa using wf_writeLine8 _ _ _ _ _ h
@[simp] theorem clusterFault_mem (cl code : Nat) (d : Dev) : (clusterFault cl code d).mem = d.mem := by simp [clusterFault]
@[simp] theorem doClear_mem (cl buf e : Nat) (d : Dev) : (doClear cl buf e d).mem = d.mem := by simp [doClear]
@[simp] theorem doPayload_mem (cl : Nat) (t : Task) (i : Nat) (d : Dev) : (doPayload cl t i d).mem = d.mem := by unfold doPayload; (repeat' split) <;> simp
@[simp] theorem doDone_mem (cl : Nat) (t : Task) (d : Dev) : (doDone cl t d).mem = d.mem := by
  unfold doDone; dsimp only; (repeat' split) <;> simp

/-- The device an operation of a task leaves. -/
def microDev : MicroOut → Dev
  | .go _ d => d
  | .stop d => d
  | .stopLater _ d => d

theorem doMicro_wf (cl : Nat) (t : Task) (o : Micro) (d : Dev) (h : Memory.wf d.mem.cells = true) :
    Memory.wf (microDev (doMicro cl t o d)).mem.cells = true := by
  cases o <;> simp only [doMicro, doRead, doWrite, doSget, doSput, doExam, doRequest] <;> (repeat' split) <;> simp [microDev, h]

theorem runOps_wf (cl c : Nat) (sel : Micro → Bool) (os : List Micro) (t : Task) (d : Dev) (h : Memory.wf d.mem.cells = true) :
    Memory.wf (runOps cl c sel os t d).2.mem.cells = true := by
  induction os generalizing t d with
  | nil => exact h
  | cons o os ih =>
    simp only [runOps]
    have := doMicro_wf cl t o d h
    split
    · split <;> rename_i e <;> rw [e] at this
      · exact ih _ _ this
      · exact this
      · exact this
    · exact ih _ _ h

theorem runTasks_wf (cl c : Nat) (sel : Micro → Bool) (ts : List Task) (d : Dev) (h : Memory.wf d.mem.cells = true) :
    Memory.wf (runTasks cl c sel ts d).2.mem.cells = true := by
  induction ts generalizing d with
  | nil => exact h
  | cons t ts ih => exact ih _ (runOps_wf cl c sel _ t d h)
@[simp] theorem phaseOps_wf (cl : Nat) (sel : Micro → Bool) (d : Dev) (h : Memory.wf d.mem.cells = true) :
    Memory.wf (phaseOps cl sel d).mem.cells = true := by
  simpa [phaseOps] using runTasks_wf cl _ sel _ d h
@[simp] theorem accessCycle_wf (cl : Nat) (d : Dev) (h : Memory.wf d.mem.cells = true) :
    Memory.wf (accessCycle cl d).mem.cells = true := by simp [accessCycle, h, apply_ite Dev.mem, apply_ite Mem.cells]
@[simp] theorem beginCycle_wf (cl : Nat) (d : Dev) (h : Memory.wf d.mem.cells = true) :
    Memory.wf (beginCycle cl d).mem.cells = true := by simp [beginCycle, h]
@[simp] theorem tickCluster_wf (cl : Nat) (d : Dev) (h : Memory.wf d.mem.cells = true) : Memory.wf (tickCluster cl d).mem.cells = true := by
  simp [tickCluster, h]

@[simp] theorem runCycles_wf (cl n : Nat) (d : Dev) (h : Memory.wf d.mem.cells = true) : Memory.wf (runCycles cl n d).mem.cells = true := by
  induction n generalizing d with
  | zero => exact h
  | succ n ih => exact ih _ (tickCluster_wf cl d h)
@[simp] theorem issueCounts_mem (cl : Nat) (k : Cluster) (b : Bundle) (d : Dev) : (issueCounts cl k b d).mem = d.mem := by unfold issueCounts; (repeat' split) <;> simp
@[simp] theorem issueSlots_mem (cl : Nat) (b : Bundle) (d : Dev) : (issueSlots cl b d).mem = d.mem := by simp [issueSlots]
@[simp] theorem issueBundle_wf (cl : Nat) (b : Bundle) (d : Dev) (h : Memory.wf d.mem.cells = true) :
    Memory.wf (issueBundle cl b d).mem.cells = true := by unfold issueBundle; (repeat' split) <;> simp [h]
@[simp] theorem reachBundle_wf (cl : Nat) (b : Bundle) (d : Dev) (h : Memory.wf d.mem.cells = true) :
    Memory.wf (reachBundle cl b d).mem.cells = true := by unfold reachBundle; dsimp only; (repeat' split) <;> simp [h]
@[simp] theorem opBundleIssue_wf (cl : Nat) (third : Bool) (d : Dev) (h : Memory.wf d.mem.cells = true) :
    Memory.wf (opBundleIssue cl third d).mem.cells = true := by unfold opBundleIssue; dsimp only; (repeat' split) <;> simp [h]
@[simp] theorem opIssueOne_wf (cl : Nat) (b : Bundle) (d : Dev) (h : Memory.wf d.mem.cells = true) :
    Memory.wf (opIssueOne cl b d).mem.cells = true := by
  unfold opIssueOne; split <;> simp [h]

@[simp] theorem waitLoop_wf (cl n : Nat) (d : Dev) (h : Memory.wf d.mem.cells = true) : Memory.wf (waitLoop cl n d).mem.cells = true := by
  induction n generalizing d with
  | zero => unfold waitLoop; dsimp only; (repeat' split) <;> simp_all
  | succ n ih =>
    unfold waitLoop; dsimp only
    have := ih _ (tickCluster_wf cl d h)
    (repeat' split) <;> simp_all
@[simp] theorem opWaittickRelease_wf (cl n : Nat) (third : Bool) (d : Dev) (h : Memory.wf d.mem.cells = true) :
    Memory.wf (opWaittickRelease cl n third d).mem.cells = true := by unfold opWaittickRelease; (repeat' split) <;> simp [h]
@[simp] theorem cycRelease_wf (cl till : Nat) (d : Dev) (h : Memory.wf d.mem.cells = true) :
    Memory.wf (cycRelease cl till d).mem.cells = true := by unfold cycRelease; dsimp only; (repeat' split) <;> simp [h]
@[simp] theorem opWaitcycRelease_wf (cl : Nat) (d : Dev) (h : Memory.wf d.mem.cells = true) :
    Memory.wf (opWaitcycRelease cl d).mem.cells = true := by unfold opWaitcycRelease; (repeat' split) <;> simp [h]
@[simp] theorem opPendingWriteEffect_wf (cl : Nat) (d : Dev) (h : Memory.wf d.mem.cells = true) :
    Memory.wf (opPendingWriteEffect cl d).mem.cells = true := by unfold opPendingWriteEffect; dsimp only; (repeat' split) <;> simp [h]

/-! ## Machine/Islands.lean -/

@[simp] theorem opPllLockConfirm_mem (p r : Nat) (d : Dev) : (opPllLockConfirm p r d).mem = d.mem := by simp [opPllLockConfirm, apply_ite Dev.mem]
@[simp] theorem opPllUngate_mem (p r : Nat) (d : Dev) : (opPllUngate p r d).mem = d.mem := by simp [opPllUngate, apply_ite Dev.mem]
@[simp] theorem opIslandOscStart_mem (i : Nat) (d : Dev) : (opIslandOscStart i d).mem = d.mem := by simp [opIslandOscStart, apply_ite Dev.mem]
@[simp] theorem opIslandSupplyGood_mem (i : Nat) (d : Dev) : (opIslandSupplyGood i d).mem = d.mem := by simp [opIslandSupplyGood, apply_ite Dev.mem]
@[simp] theorem opTrackingWindow_mem (i : Nat) (slow : Option Bool) (d : Dev) : (opTrackingWindow i slow d).mem = d.mem := by simp [opTrackingWindow, apply_ite Dev.mem]
@[simp] theorem opSlewStep_mem (i : Nat) (d : Dev) : (opSlewStep i d).mem = d.mem := by simp [opSlewStep, apply_ite Dev.mem]
@[simp] theorem opDroopStretch_mem (i n : Nat) (d : Dev) : (opDroopStretch i n d).mem = d.mem := by simp [opDroopStretch]
@[simp] theorem faultAll_mem (ts : List Nat) (code : Nat) (d : Dev) : (faultAll ts code d).mem = d.mem := by simp [faultAll]
@[simp] theorem opDroopExcess_mem (i : Nat) (d : Dev) : (opDroopExcess i d).mem = d.mem := by simp [opDroopExcess, apply_ite Dev.mem]
@[simp] theorem opSetpointWrite_mem (fn i : Nat) (v : BitVec 32) (d : Dev) : (opSetpointWrite fn i v d).mem = d.mem := by simp [opSetpointWrite, apply_ite Dev.mem]
@[simp] theorem opDroopFlagClear_mem (fn : Nat) (mask present : BitVec 32) (d : Dev) : (opDroopFlagClear fn mask present d).mem = d.mem := by simp [opDroopFlagClear, apply_ite Dev.mem]

/-! ## Machine/Fabric.lean -/

@[simp] theorem clCtr_mem (c : Nat) (f : FabCtr → FabCtr) (d : Dev) : (clCtr c f d).mem = d.mem := by simp [clCtr]
@[simp] theorem portCtr_mem (i p : Nat) (f : FabCtr → FabCtr) (d : Dev) : (portCtr i p f d).mem = d.mem := by simp [portCtr]
@[simp] theorem ctrAt_mem (i p : Nat) (f : FabCtr → FabCtr) (d : Dev) : (ctrAt i p f d).mem = d.mem := by simp [ctrAt, apply_ite Dev.mem]
@[simp] theorem addFlight_mem (x : Flight) (d : Dev) : (addFlight x d).mem = d.mem := by simp [addFlight]
@[simp] theorem takeFlight_mem (dst : Dest) (t : Nat) (d : Dev) : (takeFlight dst t d).2.mem = d.mem := by simp [takeFlight]
@[simp] theorem tableRead_mem (addr unit : Nat) (d : Dev) : (tableRead addr unit d).2.mem = d.mem := by unfold tableRead; (repeat' split) <;> simp
@[simp] theorem faultOwner_mem (owner code : Nat) (d : Dev) : (faultOwner owner code d).mem = d.mem := by simp [faultOwner, apply_ite Dev.mem]
@[simp] theorem tableUse_mem (addr unit owner : Nat) (d : Dev) : (tableUse addr unit owner d).2.mem = d.mem := by unfold tableUse; dsimp only; (repeat' split) <;> simp
@[simp] theorem sendCopy_mem (i p t : Nat) (f : Flit) (d : Dev) : (sendCopy i p t f d).mem = d.mem := by unfold sendCopy; (repeat' split) <;> simp
@[simp] theorem applyWord_mem (i t owner : Nat) (w : W64) (d : Dev) : (applyWord i t owner w d).mem = d.mem := by unfold applyWord; dsimp only; (repeat' split) <;> simp
theorem segmentWords_keeps {β : Type} (π : Dev → β) (i k p : Nat) (d : Dev) (h : ∀ a u o e, π (tableUse a u o e).2 = π e) :
    π (segmentWords i k p d).2 = π d := by
  unfold segmentWords; dsimp only
  have hf (js : List Nat) (g : List (Nat × W64) × Dev → Nat → List (Nat × W64) × Dev) (e : Dev)
      (hg : ∀ r j, π (g r j).2 = π r.2) (he : π e = π d) : π (js.foldl g ([], e)).2 = π d :=
    (foldl_snd_keeps π g hg js _).trans he
  split <;> split <;> first
    | exact h _ _ _ _
    | rfl
    | (refine hf _ _ _ (fun r j => ?_) (by first | rfl | exact h _ _ _ _)
       split <;> exact h _ _ _ _)
@[simp] theorem segmentWords_mem (i k p : Nat) (d : Dev) : (segmentWords i k p d).2.mem = d.mem :=
  segmentWords_keeps _ i k p d fun _ _ _ _ => by simp
theorem activeWords_keeps {β : Type} (π : Dev → β) (i k : Nat) (d : Dev) (h : ∀ a u o e, π (tableUse a u o e).2 = π e) :
    π (activeWords i k d).2 = π d := by
  unfold activeWords
  refine (foldl_snd_keeps π _ (fun r p => ?_) _ _).trans rfl
  split
  · rfl
  · exact segmentWords_keeps π i k p r.2 h
@[simp] theorem activeWords_mem (i k : Nat) (d : Dev) : (activeWords i k d).2.mem = d.mem :=
  activeWords_keeps _ i k d fun _ _ _ _ => by simp
@[simp] theorem dropUnrouted_mem (i t : Nat) (d : Dev) : (dropUnrouted i t d).mem = d.mem := by
  unfold dropUnrouted
  exact (foldl_mem _ (fun a x => by split <;> simp) _ _).trans rfl
@[simp] theorem countEcc_mem (o : EccOut) (count : (FabCtr → FabCtr) → Dev → Dev) (d : Dev)
    (h : ∀ g a, (count g a).mem = a.mem) : (countEcc o count d).mem = d.mem := by
  unfold countEcc; split <;> simp [h]
@[simp] theorem controlPort_mem (i t : Nat) (d : Dev) : (controlPort i t d).mem = d.mem := by
  unfold controlPort
  exact (foldl_mem _ (fun a x => by simp) _ _).trans rfl
@[simp] theorem opSwitchTick_mem (i t : Nat) (d : Dev) : (opSwitchTick i t d).mem = d.mem := by
  unfold opSwitchTick; dsimp only; (repeat' split) <;> simp
@[simp] theorem freeSlot_mem (cl ls : Nat) (d : Dev) : (freeSlot cl ls d).mem = d.mem := by simp [freeSlot]
@[simp] theorem countLate_mem (cl n : Nat) (d : Dev) : (countLate cl n d).mem = d.mem := by simp [countLate]
@[simp] theorem sendFromCluster_mem (cl t : Nat) (f : Flit) (d : Dev) : (sendFromCluster cl t f d).mem = d.mem := by simp [sendFromCluster]
@[simp] theorem slotNext_mem (cl ls : Nat) (h : LaunchHdr) (i : Nat) (d : Dev) : (slotNext cl ls h i d).mem = d.mem := by simp [slotNext, apply_ite Dev.mem]
@[simp] theorem opLaunchDeparture_mem (cl ls t : Nat) (d : Dev) : (opLaunchDeparture cl ls t d).mem = d.mem := by unfold opLaunchDeparture; dsimp only; (repeat' split) <;> simp
@[simp] theorem opLaunchHeaderLate_mem (cl ls t : Nat) (d : Dev) : (opLaunchHeaderLate cl ls t d).mem = d.mem := by unfold opLaunchHeaderLate; dsimp only; (repeat' split) <;> simp
@[simp] theorem tagMismatch_mem (f : Flit) (bad : Bool) (count : (FabCtr → FabCtr) → Dev → Dev) (d : Dev)
    (h : ∀ g a, (count g a).mem = a.mem) : (tagMismatch f bad count d).mem = d.mem := by
  unfold tagMismatch; dsimp only; split <;> simp [h]
@[simp] theorem opLandingWrite_mem (cl t : Nat) (d : Dev) : (opLandingWrite cl t d).mem = d.mem := by unfold opLandingWrite; dsimp only; (repeat' split) <;> simp
theorem shelfSegment_keeps {β : Type} (π : Dev → β) (q k tk p : Nat) (dir : Bool) (d : Dev) (h : ∀ a u o e, π (tableUse a u o e).2 = π e)
    (hl : ∀ k a e, π (logError k a 1 none e) = π e) : π (shelfSegment q k tk p dir d).2 = π d := by
  unfold shelfSegment; dsimp only
  have hl' (b : Bool) (a : Nat) (e : Dev) (c : Dev) (he : π e = π c) :
      π (if b = true then e else logError (1024 + q) a 1 none e) = π c := by
    split
    · exact he
    · exact (hl _ _ _).trans he
  have hf (js : List Nat) (g : List (W64 × Nat × Nat) × Dev → Nat → List (W64 × Nat × Nat) × Dev) (e : Dev)
      (hg : ∀ r j, π (g r j).2 = π r.2) (he : π e = π d) : π (js.foldl g ([], e)).2 = π d :=
    (foldl_snd_keeps π g hg js _).trans he
  split <;> split <;> first
    | exact hl' _ _ _ _ (h _ _ _ _)
    | (rename_i h0; simp at h0; done)
    | (refine hf _ _ _ (fun r j => ?_) (by first | rfl | exact h _ _ _ _)
       split
       · exact h _ _ _ _
       · exact hl' _ _ _ _ (h _ _ _ _))
@[simp] theorem shelfSegment_mem_cells (q k tk p : Nat) (dir : Bool) (d : Dev) :
    (shelfSegment q k tk p dir d).2.mem.cells = d.mem.cells :=
  shelfSegment_keeps (·.mem.cells) q k tk p dir d (fun _ _ _ _ => by simp) (fun _ _ _ => by simp)
theorem shelfActive_keeps {β : Type} (π : Dev → β) (q k x : Nat) (dir : Bool) (d : Dev) (h : ∀ a u o e, π (tableUse a u o e).2 = π e)
    (hl : ∀ k a e, π (logError k a 1 none e) = π e) : π (shelfActive q k x dir d).2 = π d := by
  unfold shelfActive; dsimp only; split
  · refine (foldl_snd_keeps π _ (fun r p => ?_) _ _).trans rfl
    split
    · rfl
    · exact shelfSegment_keeps π q k _ p dir r.2 h hl
  · rfl
@[simp] theorem shelfActive_mem_cells (q k x : Nat) (dir : Bool) (d : Dev) : (shelfActive q k x dir d).2.mem.cells = d.mem.cells :=
  shelfActive_keeps (·.mem.cells) q k x dir d (fun _ _ _ _ => by simp) (fun _ _ _ => by simp)
@[simp] theorem shelfLost_mem_cells (q k : Nat) (d : Dev) : (shelfLost q k d).mem.cells = d.mem.cells := by simp [shelfLost]
@[simp] theorem shelfStore_wf (q t a : Nat) (f : Flit) (d : Dev) (h : Memory.wf d.mem.cells = true) :
    Memory.wf (shelfStore q t a f d).mem.cells = true := by
  unfold shelfStore
  exact wf_writeLine8 _ _ _ _ _ h
theorem shelfFetch_keeps {β : Type} (π : Dev → β) (q t : Nat) (x : W64 × Nat × Nat) (d : Dev)
    (h : ∀ k a r u e, π (logRead k a r u e) = π e) (hc : ∀ k f e, π (modShelfCtr k f e) = π e) : π (shelfFetch q t x d).2 = π d :=
  (h _ _ _ _ _).trans (hc _ _ _)
@[simp] theorem shelfFetch_mem_cells (q t : Nat) (x : W64 × Nat × Nat) (d : Dev) : (shelfFetch q t x d).2.mem.cells = d.mem.cells :=
  shelfFetch_keeps (·.mem.cells) q t x d (fun _ _ _ _ _ => by simp) (fun _ _ _ => by simp)
theorem shelfFetches_keeps {β : Type} (π : Dev → β) (q t : Nat) (xs : List (W64 × Nat × Nat)) (d : Dev)
    (h : ∀ x e, π (shelfFetch q t x e).2 = π e) : π (shelfFetches q t xs d).2 = π d := by
  induction xs generalizing d with
  | nil => rfl
  | cons x xs ih => exact (ih _).trans (h _ _)
@[simp] theorem shelfFetches_mem_cells (q t : Nat) (xs : List (W64 × Nat × Nat)) (d : Dev) :
    (shelfFetches q t xs d).2.mem.cells = d.mem.cells :=
  shelfFetches_keeps (·.mem.cells) q t xs d fun _ _ => by simp
@[simp] theorem opShelfWrite_wf (q k t : Nat) (d : Dev) (h : Memory.wf d.mem.cells = true) :
    Memory.wf (opShelfWrite q k t d).mem.cells = true := by
  unfold opShelfWrite; dsimp only
  (repeat' split) <;> first
    | (simp [h, apply_ite Dev.mem]; done)
    | exact foldl_wf _ (fun a x ha => by exact shelfStore_wf _ _ _ _ _ ha) _ _ (by simp [h])
@[simp] theorem opShelfRead_mem_cells (q k t : Nat) (d : Dev) : (opShelfRead q k t d).mem.cells = d.mem.cells := by unfold opShelfRead; dsimp only; (repeat' split) <;> simp

/-! ## Machine/Column.lean -/

@[simp] theorem advanceM_mem_cells (q m : Nat) (d : Dev) : (advanceM q m d).mem.cells = d.mem.cells := by simp [advanceM, apply_ite Dev.mem, apply_ite Mem.cells]
@[simp] theorem noteMark_mem_cells (cl phase slot m : Nat) (d : Dev) : (noteMark cl phase slot m d).mem.cells = d.mem.cells := by simp [noteMark]
@[simp] theorem countCol_mem_cells (cl l : Nat) (r : ColRead) (d : Dev) : (countCol cl l r d).mem.cells = d.mem.cells := by unfold countCol; (repeat' split) <;> simp
@[simp] theorem touchBank_mem_cells (cl l m : Nat) (d : Dev) : (touchBank cl l m d).mem.cells = d.mem.cells := by simp [touchBank]
@[simp] theorem pushRead_mem_cells (cl : Nat) (r : ColRd) (d : Dev) : (pushRead cl r d).mem.cells = d.mem.cells := by simp [pushRead]
@[simp] theorem mergeCol_wf (cl l v mask : Nat) (poison : Bool) (d : Dev) (h : Memory.wf d.mem.cells = true) :
    Memory.wf (mergeCol cl l v mask poison d).mem.cells = true := by
  have := wf_writeUnit 64 (colLineAddr cl l) v mask poison d.mem h
  unfold mergeCol; dsimp only; (repeat' split) <;> simpa using this
@[simp] theorem writeColLine_wf (cl l : Nat) (e : ReqEntry) (d : Dev) (h : Memory.wf d.mem.cells = true) :
    Memory.wf (writeColLine cl l e d).mem.cells = true := by simp [writeColLine, h]
@[simp] theorem countBusy_mem_cells (cl l : Nat) (d : Dev) : (countBusy cl l d).mem.cells = d.mem.cells := by simp [countBusy]
@[simp] theorem execRequest_wf (cl m : Nat) (e : ReqEntry) (d : Dev) (h : Memory.wf d.mem.cells = true) :
    Memory.wf (execRequest cl m e d).mem.cells = true := by
  unfold execRequest; dsimp only; (repeat' split) <;> simp [h]

@[simp] theorem drainQueue_wf (cl lap ph slot m : Nat) (q : List ReqEntry) (d : Dev) (h : Memory.wf d.mem.cells = true) :
    Memory.wf (drainQueue cl lap ph slot m q d).mem.cells = true := by
  induction q generalizing d with
  | nil => simpa [drainQueue] using h
  | cons e es ih =>
    unfold drainQueue; dsimp only
    (repeat' split) <;> simp [h, ih]
@[simp] theorem opColumnSlot_wf (cl ph slot m : Nat) (d : Dev) (h : Memory.wf d.mem.cells = true) :
    Memory.wf (opColumnSlot cl ph slot m d).mem.cells = true := by
  unfold opColumnSlot; dsimp only; (repeat' split) <;> simp [h]
@[simp] theorem opColumnReadData_mem_cells (cl m : Nat) (d : Dev) : (opColumnReadData cl m d).mem.cells = d.mem.cells := by unfold opColumnReadData; dsimp only; (repeat' split) <;> simp
@[simp] theorem opPaneFill_wf (cl : Nat) (d : Dev) (h : Memory.wf d.mem.cells = true) :
    Memory.wf (opPaneFill cl d).mem.cells = true := by
  unfold opPaneFill; dsimp only
  (repeat' split) <;> simp [h, wf_writeLine8]
@[simp] theorem opRefreshBurst_mem_cells (cl m : Nat) (d : Dev) : (opRefreshBurst cl m d).mem.cells = d.mem.cells := by unfold opRefreshBurst; dsimp only; (repeat' split) <;> simp

end Sys2Proof.Machine
end

