-- ==== Sys2Proof/Laws/FramesTenancy.lean ====
section
/-!
SUPPORT. What each operation does to device memory: it leaves it alone, or keeps its canonical form (rings, journals, tenancies, the wheel, links, images and execution).
-/
namespace Sys2Proof.Machine

/-! ## Machine/Rings.lean -/

@[simp] theorem finish_mem (id st r0 r1 : Nat) (d : Dev) : (finish id st r0 r1 d).mem = d.mem := by simp [finish]
@[simp] theorem finishAt_mem (id st r0 r1 gc : Nat) (d : Dev) : (finishAt id st r0 r1 gc d).mem = d.mem := by simp [finishAt]
@[simp] theorem abortCmd_mem (id st fault : Nat) (d : Dev) : (abortCmd id st fault d).mem = d.mem := by simp [abortCmd]
@[simp] theorem armCmd_mem (id count aux : Nat) (d : Dev) : (armCmd id count aux d).mem = d.mem := by simp [armCmd]
@[simp] theorem abortCmds_mem (p : Cmd → Bool) (st fault : Nat) (gc : Option Nat) (d : Dev) : (abortCmds p st fault gc d).mem = d.mem := by simp [abortCmds]
@[simp] theorem issueFetch_mem (why : FetchFor) (fn addr len : Nat) (d : Dev) : (issueFetch why fn addr len d).mem = d.mem := by simp [issueFetch]
@[simp] theorem fetchData_mem (c : Cmd) (addr len : Nat) (d : Dev) : (fetchData c addr len d).mem = d.mem := by simp [fetchData]
@[simp] theorem hostWrite_mem (c : Cmd) (addr : Nat) (data : List Byte) (d : Dev) : (hostWrite c addr data d).mem = d.mem := by simp [hostWrite]
@[simp] theorem dropPacket_mem (r : Nat) (d : Dev) : (dropPacket r d).mem = d.mem := by simp [dropPacket]
@[simp] theorem stopRing_mem (r cause : Nat) (d : Dev) : (stopRing r cause d).mem = d.mem := by simp [stopRing, apply_ite Dev.mem]
@[simp] theorem opDoorbellCmdTail_mem (fn r v : Nat) (d : Dev) : (opDoorbellCmdTail fn r v d).mem = d.mem := by simp [opDoorbellCmdTail, apply_ite Dev.mem]
@[simp] theorem opDoorbellStsHead_mem (fn r v : Nat) (d : Dev) : (opDoorbellStsHead fn r v d).mem = d.mem := by simp [opDoorbellStsHead, apply_ite Dev.mem]
@[simp] theorem writePage_mem (fn off v : Nat) (d : Dev) : (writePage fn off v d).mem = d.mem := by unfold writePage; (repeat' split) <;> simp
@[simp] theorem opRingEnable_mem (fn r vector : Nat) (d : Dev) : (opRingEnable fn r vector d).mem = d.mem := by simp [opRingEnable, apply_ite Dev.mem]
@[simp] theorem opRingDisable_mem (fn r vector : Nat) (d : Dev) : (opRingDisable fn r vector d).mem = d.mem := by unfold opRingDisable; dsimp only; (repeat' split) <;> simp
@[simp] theorem opRingCloseDone_mem (r : Nat) (d : Dev) : (opRingCloseDone r d).mem = d.mem := by simp [opRingCloseDone, apply_ite Dev.mem]
@[simp] theorem opCommandFetch_mem (r : Nat) (d : Dev) : (opCommandFetch r d).mem = d.mem := by simp [opCommandFetch, apply_ite Dev.mem]
@[simp] theorem startChecks_mem (c : Cmd) (d : Dev) : (startChecks c d).mem = d.mem := by unfold startChecks; dsimp only; (repeat' split) <;> simp
@[simp] theorem tookTurn_mem (r : Nat) (d : Dev) : (tookTurn r d).mem = d.mem := by simp [tookTurn, apply_ite Dev.mem]
@[simp] theorem noteService_mem (out : Bool) (c : Cmd) (d : Dev) : (noteService out c d).mem = d.mem := by simp [noteService, apply_ite Dev.mem]
@[simp] theorem opCommandStart_mem (r : Nat) (d : Dev) : (opCommandStart r d).mem = d.mem := by unfold opCommandStart; dsimp only; (repeat' split) <;> simp
@[simp] theorem fetchDone_mem (f : Fetch) (data : List Byte) (d : Dev) : (fetchDone f data d).mem = d.mem := by unfold fetchDone; (repeat' split) <;> simp
@[simp] theorem fetchFailed_mem (f : Fetch) (came : List Byte) (d : Dev) : (fetchFailed f came d).mem = d.mem := by unfold fetchFailed; (repeat' split) <;> simp
@[simp] theorem takeFetch_mem (id : Nat) (d : Dev) : (takeFetch id d).2.mem = d.mem := by simp [takeFetch]
@[simp] theorem writeReply_mem (send : Nat → Out → Dev → Dev) (c : Cmd) (d : Dev) (h : ∀ f o a, (send f o a).mem = a.mem) :
    (writeReply send c d).mem = d.mem := by
  unfold writeReply; dsimp only; split <;> simp [h]
@[simp] theorem opStatusReply_mem (r : Nat) (d : Dev) : (opStatusReply r d).mem = d.mem := by
  unfold opStatusReply; dsimp only; (repeat' split) <;> simp

/-! ## Machine/Journal.lean -/

@[simp] theorem drainCluster_mem (t cl : Nat) (ready : Snap → Bool) (d : Dev) : (drainCluster t cl ready d).mem = d.mem := by simp [drainCluster]
@[simp] theorem drainAll_mem (t : Nat) (d : Dev) : (drainAll t d).mem = d.mem := by simp [drainAll]
@[simp] theorem sendSnaps_mem (t cl at_ : Nat) (ready : Snap → Bool) (d : Dev) : (sendSnaps t cl at_ ready d).mem = d.mem := by simp [sendSnaps]
@[simp] theorem opDigestDrain_mem (t : Nat) (d : Dev) : (opDigestDrain t d).mem = d.mem := by simp [opDigestDrain, apply_ite Dev.mem]
@[simp] theorem journalWrite_mem (j : Journal) (off : Nat) (data : List Byte) (d : Dev) : (journalWrite j off data d).mem = d.mem := by simp [journalWrite]
@[simp] theorem journalAppend_mem (t : Nat) (r : List Byte) (d : Dev) : (journalAppend t r d).mem = d.mem := by unfold journalAppend; (repeat' split) <;> simp
@[simp] theorem modProgram_mem (t : Nat) (f : Program → Program) (d : Dev) : (modProgram t f d).mem = d.mem := by simp [modProgram]
@[simp] theorem writeRef_mem (t : Nat) (r : Xfer) (d : Dev) : (writeRef t r d).mem = d.mem := by unfold writeRef; (repeat' split) <;> simp
@[simp] theorem flushRefs_mem (t : Nat) (d : Dev) : (flushRefs t d).mem = d.mem := by unfold flushRefs; (repeat' split) <;> simp
@[simp] theorem recordXfer_mem (t : Nat) (r : Xfer) (d : Dev) : (recordXfer t r d).mem = d.mem := by simp [recordXfer]
@[simp] theorem dropDescs_mem (t : Nat) (d : Dev) : (dropDescs t d).mem = d.mem := by simp [dropDescs]
@[simp] theorem journalLaunchEnd_mem (t status fault gc : Nat) (d0 : Dev) : (journalLaunchEnd t status fault gc d0).mem = d0.mem := by unfold journalLaunchEnd; dsimp only; (repeat' split) <;> simp
@[simp] theorem journalFlush_mem (t : Nat) (d : Dev) : (journalFlush t d).mem = d.mem := by simp [journalFlush]
@[simp] theorem journalClose_mem (t : Nat) (d0 : Dev) : (journalClose t d0).mem = d0.mem := by unfold journalClose; dsimp only; (repeat' split) <;> simp
@[simp] theorem opJournalCloseOnVacant_mem (t : Nat) (d : Dev) : (opJournalCloseOnVacant t d).mem = d.mem := by simp [opJournalCloseOnVacant, apply_ite Dev.mem]

/-! ## Machine/Tenants.lean -/

@[simp] theorem bsuReset_mem (u cause : Nat) (d : Dev) : (bsuReset u cause d).mem = d.mem := by unfold bsuReset; dsimp only; (repeat' split) <;> simp
@[simp] theorem holdUnits_mem (t gc : Nat) (d : Dev) : (holdUnits t gc d).mem = d.mem := by simp [holdUnits, apply_ite Dev.mem]
@[simp] theorem failFlush_mem (u : Nat) (d : Dev) : (failFlush u d).mem = d.mem := by simp [failFlush]
@[simp] theorem releaseUnits_mem (t : Nat) (d : Dev) : (releaseUnits t d).mem = d.mem := by simp [releaseUnits, apply_ite Dev.mem]
@[simp] theorem emptyCluster_mem_cells (cl : Nat) (d : Dev) : (emptyCluster cl d).mem.cells = d.mem.cells := by simp [emptyCluster]
@[simp] theorem closeSegs_mem (t : Nat) (d : Dev) : (closeSegs t d).mem = d.mem := by simp [closeSegs]
@[simp] theorem freePhases_mem (t : Nat) (d : Dev) : (freePhases t d).mem = d.mem := by simp [freePhases]
@[simp] theorem stopHardware_mem_cells (t : Nat) (d : Dev) : (stopHardware t d).mem.cells = d.mem.cells := by simp [stopHardware]
@[simp] theorem endProgram_mem (t status fault gc : Nat) (halted : Bool) (d : Dev) : (endProgram t status fault gc halted d).mem = d.mem := by unfold endProgram; dsimp only; (repeat' split) <;> simp
@[simp] theorem zeroRange_wf (a n : Nat) (d : Dev) (h : Memory.wf d.mem.cells = true) :
    Memory.wf (zeroRange a n d).mem.cells = true := wf_filter _ _ h
@[simp] theorem zeroParts_wf (ps : List (Nat × Nat)) (d : Dev) (h : Memory.wf d.mem.cells = true) :
    Memory.wf (zeroParts ps d).mem.cells = true := by unfold zeroParts; (try dsimp only); (repeat' split) <;> simp_all [apply_ite Dev.mem, apply_ite Mem.cells, h]
@[simp] theorem clearImage_mem (t : Nat) (d : Dev) : (clearImage t d).mem = d.mem := by unfold clearImage; (repeat' split) <;> simp
@[simp] theorem stopChannels_mem (mask : Nat) (d : Dev) : (stopChannels mask d).mem = d.mem := by simp [stopChannels]
@[simp] theorem becomeVacant_mem (t : Nat) (d : Dev) : (becomeVacant t d).mem = d.mem := by simp [becomeVacant, apply_ite Dev.mem]
@[simp] theorem undoLoad_mem (t status fault : Nat) (d : Dev) : (undoLoad t status fault d).mem = d.mem := by unfold undoLoad; (repeat' split) <;> simp
@[simp] theorem beginDrain_mem (t : Nat) (d : Dev) : (beginDrain t d).mem = d.mem := by simp [beginDrain]
@[simp] theorem opZeroingDone_wf (t : Nat) (d0 : Dev) (h : Memory.wf d0.mem.cells = true) :
    Memory.wf (opZeroingDone t d0).mem.cells = true := by unfold opZeroingDone; dsimp only; (repeat' split) <;> simp [h]
@[simp] theorem revokeTenancy_mem_cells (t gc : Nat) (d : Dev) : (revokeTenancy t gc d).mem.cells = d.mem.cells := by simp [revokeTenancy, apply_ite Dev.mem, apply_ite Mem.cells]
@[simp] theorem shrinkTenancy_mem_cells (t gc : Nat) (a b : GrantRec) (d : Dev) : (shrinkTenancy t gc a b d).mem.cells = d.mem.cells := by simp [shrinkTenancy, apply_ite Dev.mem, apply_ite Mem.cells]
@[simp] theorem rehomeRings_mem (t : Nat) (a b : GrantRec) (d : Dev) : (rehomeRings t a b d).mem = d.mem := by simp [rehomeRings, apply_ite Dev.mem]
@[simp] theorem putRecord_mem_cells (t gc : Nat) (b : GrantRec) (d : Dev) : (putRecord t gc b d).mem.cells = d.mem.cells := by simp [putRecord, apply_ite Dev.mem, apply_ite Mem.cells]
@[simp] theorem putSet_mem_cells (gc : Nat) (g : Nat → GrantRec) (d : Dev) : (putSet gc g d).mem.cells = d.mem.cells := by simp [putSet]

/-! ## Machine/Wheel.lean -/

@[simp] theorem opWheelCounterStart_mem (d : Dev) : (opWheelCounterStart d).mem = d.mem := by simp [opWheelCounterStart, apply_ite Dev.mem]
@[simp] theorem turn_mem (slip : Bool) (n g : Nat) (d : Dev) : (turn slip n g d).mem = d.mem := by unfold turn; dsimp only; (repeat' split) <;> simp
@[simp] theorem opWheelStart_mem (d : Dev) : (opWheelStart d).mem = d.mem := by simp [opWheelStart, apply_ite Dev.mem]
@[simp] theorem opSlipInsert_mem (d : Dev) : (opSlipInsert d).mem = d.mem := by simp [opSlipInsert, apply_ite Dev.mem]
@[simp] theorem opSlippedWheelEnd_mem (d : Dev) : (opSlippedWheelEnd d).mem = d.mem := by simp [opSlippedWheelEnd, apply_ite Dev.mem]
@[simp] theorem takeRequests_mem (d : Dev) : (takeRequests d).mem = d.mem := by simp [takeRequests, apply_ite Dev.mem]
@[simp] theorem opPhaseStart_mem (p : Nat) (d : Dev) : (opPhaseStart p d).mem = d.mem := by simp [opPhaseStart, apply_ite Dev.mem]
@[simp] theorem opGuardApplied_mem (d : Dev) : (opGuardApplied d).mem = d.mem := by unfold opGuardApplied; dsimp only; (repeat' split) <;> simp
@[simp] theorem opWheelMarkerSend_mem (l : Nat) (d : Dev) : (opWheelMarkerSend l d).mem = d.mem := by unfold opWheelMarkerSend; dsimp only; (repeat' split) <;> simp
@[simp] theorem adoptMarker_mem (m : Marker) (l at16 : Nat) (d : Dev) : (adoptMarker m l at16 d).mem = d.mem := by simp [adoptMarker]
@[simp] theorem opWheelMarkerReceive_mem (l at16 : Nat) (d : Dev) : (opWheelMarkerReceive l at16 d).mem = d.mem := by unfold opWheelMarkerReceive; dsimp only; (repeat' split) <;> simp
@[simp] theorem spanOfOne_mem (d : Dev) : (spanOfOne d).mem = d.mem := by simp [spanOfOne]
@[simp] theorem spanStop_mem_cells (t : Nat) (d : Dev) : (spanStop t d).mem.cells = d.mem.cells := by simp [spanStop, apply_ite Dev.mem, apply_ite Mem.cells]
@[simp] theorem opSpanHalt_mem_cells (d : Dev) : (opSpanHalt d).mem.cells = d.mem.cells := by simp [opSpanHalt, apply_ite Dev.mem, apply_ite Mem.cells]
@[simp] theorem opSlipLimit_mem (d : Dev) : (opSlipLimit d).mem = d.mem := by unfold opSlipLimit; (repeat' split) <;> simp
@[simp] theorem opMasterTakeover_mem (d : Dev) : (opMasterTakeover d).mem = d.mem := by simp [opMasterTakeover, apply_ite Dev.mem]
@[simp] theorem opMarkerLossHalt_mem (d : Dev) : (opMarkerLossHalt d).mem = d.mem := by simp [opMarkerLossHalt, apply_ite Dev.mem]
@[simp] theorem skipLaunches_mem (gc : Nat) (d : Dev) : (skipLaunches gc d).mem = d.mem := by
  unfold skipLaunches
  refine foldl_mem _ (fun a t => ?_) _ _
  split <;> (try split) <;> simp
@[simp] theorem opSpanFormed_mem (d : Dev) : (opSpanFormed d).mem = d.mem := by unfold opSpanFormed; dsimp only; (repeat' split) <;> simp
@[simp] theorem opFormingStretch_mem (d : Dev) : (opFormingStretch d).mem = d.mem := by unfold opFormingStretch; dsimp only; (repeat' split) <;> simp
@[simp] theorem opFormingTimeout_mem (d : Dev) : (opFormingTimeout d).mem = d.mem := by unfold opFormingTimeout; (repeat' split) <;> simp
@[simp] theorem opSyncInEdge_mem (t : Nat) (d : Dev) : (opSyncInEdge t d).mem = d.mem := by simp [opSyncInEdge, apply_ite Dev.mem]
@[simp] theorem opSyncLost_mem (d : Dev) : (opSyncLost d).mem = d.mem := by simp [opSyncLost, apply_ite Dev.mem]
@[simp] theorem opSyncDisagree_mem (d : Dev) : (opSyncDisagree d).mem = d.mem := by simp [opSyncDisagree, apply_ite Dev.mem]
@[simp] theorem opSpanLeaveEffect_mem (d : Dev) : (opSpanLeaveEffect d).mem = d.mem := by unfold opSpanLeaveEffect; (repeat' split) <;> simp

/-! ## Machine/Links.lean -/

@[simp] theorem countLink_mem (l : Nat) (f : LinkCtr → LinkCtr) (d : Dev) : (countLink l f d).mem = d.mem := by simp [countLink]
@[simp] theorem checkTx_mem (l : Nat) (f : Flit) (d : Dev) : (checkTx l f d).2.mem = d.mem := by simp [checkTx]
@[simp] theorem opLaneDrop_mem (l t : Nat) (d : Dev) : (opLaneDrop l t d).mem = d.mem := by unfold opLaneDrop; dsimp only; (repeat' split) <;> simp
@[simp] theorem raiseSlip_mem (l : Nat) (d : Dev) : (raiseSlip l d).mem = d.mem := by simp [raiseSlip, apply_ite Dev.mem]
@[simp] theorem sendFrame_mem (l : Nat) (f : Fcf) (slots : Tab Flit) (d : Dev) : (sendFrame l f slots d).mem = d.mem := by simp [sendFrame]
@[simp] theorem takeSlots_mem (l k : Nat) (d : Dev) : (takeSlots l k d).2.mem = d.mem := by
  unfold takeSlots
  generalize List.range 8 = xs
  refine foldl_inv (fun r : Tab Flit × Dev => r.2.mem = d.mem) _ ?_ xs ([], d) (Eq.refl d.mem)
  intro r j hr
  have h1 := takeFlight_mem (.linkTx l) (d.whl.start + 8 * k + j) r.2
  dsimp only
  cases (takeFlight (.linkTx l) (d.whl.start + 8 * k + j) r.2).1 with
  | none => exact hr
  | some x => dsimp only; split <;> simp [h1, hr]
@[simp] theorem sendReplay_mem (l k : Nat) (f : Frame) (d : Dev) : (sendReplay l k f d).mem = d.mem := by simp [sendReplay, apply_ite Dev.mem]
@[simp] theorem sendData_mem (l k : Nat) (d : Dev) : (sendData l k d).mem = d.mem := by simp [sendData, apply_ite Dev.mem]
@[simp] theorem sendTrain_mem (l k : Nat) (abort : Bool) (d : Dev) : (sendTrain l k abort d).mem = d.mem := by simp [sendTrain]
@[simp] theorem loseLink_mem (l : Nat) (d : Dev) : (loseLink l d).mem = d.mem := by simp [loseLink]
@[simp] theorem sendFiller_mem (l g : Nat) (d : Dev) : (sendFiller l g d).mem = d.mem := by simp [sendFiller]
@[simp] theorem opLinkFrameTransmit_mem (l k : Nat) (d : Dev) : (opLinkFrameTransmit l k d).mem = d.mem := by unfold opLinkFrameTransmit; dsimp only; (repeat' split) <;> simp
@[simp] theorem opReplaySend_mem (l k : Nat) (d : Dev) : (opReplaySend l k d).mem = d.mem := by unfold opReplaySend; (repeat' split) <;> simp
@[simp] theorem lambdaOf_mem (l p : Nat) (d : Dev) : (lambdaOf l p d).2.mem = d.mem := by unfold lambdaOf; dsimp only; (repeat' split) <;> simp
@[simp] theorem storeFlit_mem (l s : Nat) (f : Flit) (marked : Bool) (d : Dev) : (storeFlit l s f marked d).mem = d.mem := by unfold storeFlit; dsimp only; (repeat' split) <;> simp
@[simp] theorem receiveSlot_mem (l s : Nat) (f0 : Flit) (d : Dev) : (receiveSlot l s f0 d).mem = d.mem := by simp [receiveSlot, apply_ite Dev.mem]
@[simp] theorem rxPush_mem (l : Nat) (e : RxEntry) (d : Dev) : (rxPush l e d).mem = d.mem := by simp [rxPush, apply_ite Dev.mem]
@[simp] theorem rxTake_mem (l : Nat) (e : RxEntry) (d : Dev) : (rxTake l e d).mem = d.mem := by simp [rxTake, apply_ite Dev.mem]
@[simp] theorem drainLink_mem (l t : Nat) (d : Dev) : (drainLink l t d).mem = d.mem := by simp [drainLink, apply_ite Dev.mem]
@[simp] theorem receiveNak_mem (l : Nat) (d : Dev) (n : Nat) : (receiveNak l d n).mem = d.mem := by unfold receiveNak; dsimp only; (repeat' split) <;> simp
@[simp] theorem receiveAbsent_mem (l : Nat) (d : Dev) (a : Option (Nat × Nat)) : (receiveAbsent l d a).mem = d.mem := by unfold receiveAbsent; dsimp only; (repeat' split) <;> simp
@[simp] theorem frameBad_mem (l wheel index t : Nat) (sched : Bool) (msg : Nat) (d : Dev) : (frameBad l wheel index t sched msg d).mem = d.mem := by simp [frameBad, apply_ite Dev.mem]
@[simp] theorem countReplay_mem (l p : Nat) (d : Dev) : (countReplay l p d).mem = d.mem := by unfold countReplay; dsimp only; (repeat' split) <;> simp
@[simp] theorem receiveReplay_mem (l wheel t : Nat) (f : Fcf) (msg L : Nat) (d : Dev) : (receiveReplay l wheel t f msg L d).mem = d.mem := by simp [receiveReplay, apply_ite Dev.mem]
@[simp] theorem receiveTrain_mem (l at16 : Nat) (p : Line) (d : Dev) : (receiveTrain l at16 p d).mem = d.mem := by simp [receiveTrain]
@[simp] theorem acceptFrame_mem (l wheel index at16 : Nat) (sched : Bool) (msg L n : Nat) (f : Fcf) (d : Dev) : (acceptFrame l wheel index at16 sched msg L n f d).mem = d.mem := by simp [acceptFrame, apply_ite Dev.mem]
@[simp] theorem opMarkerReceive_mem (l at16 : Nat) (d : Dev) : (opMarkerReceive l at16 d).mem = d.mem := by simp [opMarkerReceive]
@[simp] theorem opLinkFrameReceive_mem (l wheel index : Nat) (sched : Bool) (at16 : Nat) (lanes : List (List (BitVec 10))) (d0 : Dev) :
    (opLinkFrameReceive l wheel index sched at16 lanes d0).mem = d0.mem := by
  unfold opLinkFrameReceive; dsimp only
  (repeat' split) <;> first | rfl | simp
@[simp] theorem opReleaseStoreRelease_mem (l t : Nat) (d : Dev) : (opReleaseStoreRelease l t d).mem = d.mem := by
  unfold opReleaseStoreRelease; dsimp only; (repeat' split) <;> simp
@[simp] theorem enterState_mem (l : Nat) (s : LinkState) (t : Nat) (d : Dev) : (enterState l s t d).mem = d.mem := by simp [enterState, apply_ite Dev.mem]
@[simp] theorem opLinkDetectDone_mem (l t : Nat) (lanes : BitVec 8) (d : Dev) : (opLinkDetectDone l t lanes d).mem = d.mem := by simp [opLinkDetectDone, apply_ite Dev.mem]
@[simp] theorem opLinkEqualiseDone_mem (l t : Nat) (pass : BitVec 8) (order : BitVec 24) (invert : BitVec 8) (d : Dev) : (opLinkEqualiseDone l t pass order invert d).mem = d.mem := by simp [opLinkEqualiseDone, apply_ite Dev.mem]
@[simp] theorem opLinkAlignDone_mem (l t : Nat) (agreed : Bool) (d : Dev) : (opLinkAlignDone l t agreed d).mem = d.mem := by unfold opLinkAlignDone; dsimp only; (repeat' split) <;> simp
@[simp] theorem opLinkMeasureDone_mem (l t : Nat) (rtts : List Nat) (fine : Nat) (d : Dev) : (opLinkMeasureDone l t rtts fine d).mem = d.mem := by simp [opLinkMeasureDone, apply_ite Dev.mem]
@[simp] theorem opLinkConfirmDone_mem (l t : Nat) (clean : Bool) (d : Dev) : (opLinkConfirmDone l t clean d).mem = d.mem := by simp [opLinkConfirmDone, apply_ite Dev.mem]
@[simp] theorem opLinkLoss_mem (l : Nat) (signal : Bool) (d : Dev) : (opLinkLoss l signal d).mem = d.mem := by simp [opLinkLoss, apply_ite Dev.mem]
@[simp] theorem opLinkLostTimeout_mem (l t : Nat) (d : Dev) : (opLinkLostTimeout l t d).mem = d.mem := by simp [opLinkLostTimeout, apply_ite Dev.mem]

/-! ## Machine/Loader.lean -/

theorem wf_storeUnits (n a : Nat) (data : List Byte) (m : Mem) (h : Memory.wf m.cells = true) :
    Memory.wf (storeUnits n a data m).1.cells = true := by
  unfold storeUnits
  exact foldl_inv (fun x : Mem × Nat × Nat × Option Nat => Memory.wf x.1.cells = true) _
    (fun x k hx => wf_writeUnit _ _ _ _ _ _ hx) _ _ h

theorem wf_storeBytes (n a : Nat) (data : List Byte) (m : Mem) (h : Memory.wf m.cells = true) :
    Memory.wf (storeBytes n a data m).cells = true := wf_storeUnits _ _ _ _ h

@[simp] theorem storeTier_wf (tier unit a ten : Nat) (data : List Byte) (d : Dev) (h : Memory.wf d.mem.cells = true) :
    Memory.wf (storeTier tier unit a ten data d).mem.cells = true := by
  have h64 := wf_storeUnits 64 a data d.mem h
  have h8 := wf_storeUnits 8 a data d.mem h
  unfold storeTier; dsimp only
  (repeat' split) <;> first | (simpa using h64) | (simpa using h8)
@[simp] theorem loadData_wf (g : Dev) (t : Nat) (b : Array Byte) (r : IRec) (d : Dev) (h : Memory.wf d.mem.cells = true) :
    Memory.wf (loadData g t b r d).mem.cells = true := by unfold loadData; (repeat' split) <;> simp [h]
@[simp] theorem applyLoad_wf (t : Nat) (b : Array Byte) (d : Dev) (h : Memory.wf d.mem.cells = true) :
    Memory.wf (applyLoad t b d).mem.cells = true := by unfold applyLoad; (try dsimp only); (repeat' split) <;> simp_all [apply_ite Dev.mem, apply_ite Mem.cells, h]
@[simp] theorem refuse_mem (c : Cmd) (f : Refuse) (d : Dev) : (refuse c f d).mem = d.mem := by simp [refuse]
@[simp] theorem opImageStage_mem (r : Nat) (d : Dev) : (opImageStage r d).mem = d.mem := by simp [opImageStage, apply_ite Dev.mem]
@[simp] theorem opImageVerify_mem (r : Nat) (d : Dev) : (opImageVerify r d).mem = d.mem := by
  refine runTen_mem _ _ _ _ fun t c a => ?_
  dsimp only; (repeat' split) <;> simp
@[simp] theorem withGrant_mem (t : Nat) (g : GrantRec) (d : Dev) : (withGrant t g d).mem = d.mem := by simp [withGrant]
@[simp] theorem undoWrites_wf (t : Nat) (b : Array Byte) (g d : Dev) (h : Memory.wf d.mem.cells = true) :
    Memory.wf (undoWrites t b g d).mem.cells = true := by
  have h1 : Memory.wf ((uptoStruck g t b (bundleRecs b)).foldl (fun a r => modCl (recCluster g t b r) emptyStore a) d).mem.cells = true := by
    simpa using h
  unfold undoWrites; dsimp only; split
  · exact h1
  · refine foldl_wf _ (fun a r ha => ?_) _ _ h1
    split <;> simp [ha]

@[simp] theorem opImageLoad_wf (r : Nat) (d : Dev) (h : Memory.wf d.mem.cells = true) : Memory.wf (opImageLoad r d).mem.cells = true := by
  refine runTen_wf _ _ _ _ h fun t c a h => ?_
  have hg : ∀ g, Memory.wf (withGrant t g a).mem.cells = true := fun _ => h
  dsimp only; (repeat' split) <;> simp [h, hg]
@[simp] theorem opImageUnload_wf (r : Nat) (d : Dev) (h : Memory.wf d.mem.cells = true) : Memory.wf (opImageUnload r d).mem.cells = true := by
  refine runTen_wf _ _ _ _ h fun t c a h => ?_
  (repeat' split) <;> simp [h]
@[simp] theorem opBucketSelect_mem (r : Nat) (d : Dev) : (opBucketSelect r d).mem = d.mem := by
  refine runTen_mem _ _ _ _ fun t c a => ?_
  dsimp only; (repeat' split) <;> simp

/-! ## Machine/Exec.lean -/

@[simp] theorem openSegs_mem (t k : Nat) (d : Dev) : (openSegs t k d).mem = d.mem := by unfold openSegs; (repeat' split) <;> simp
@[simp] theorem opBucketSegmentsCurrent_mem (t : Nat) (d : Dev) : (opBucketSegmentsCurrent t d).mem = d.mem := by unfold opBucketSegmentsCurrent; dsimp only; (repeat' split) <;> simp
@[simp] theorem armClusters_mem (t : Nat) (d : Dev) : (armClusters t d).mem = d.mem := by unfold armClusters; (repeat' split) <;> simp
@[simp] theorem opClusterArm_mem (t : Nat) (d : Dev) : (opClusterArm t d).mem = d.mem := by unfold opClusterArm; dsimp only; (repeat' split) <;> simp
@[simp] theorem startProgram_mem (t completion : Nat) (d : Dev) : (startProgram t completion d).mem = d.mem := by unfold startProgram; (try dsimp only); (repeat' split) <;> simp [apply_ite Dev.mem]
@[simp] theorem opLaunchCountReached_mem (t : Nat) (d : Dev) : (opLaunchCountReached t d).mem = d.mem := by unfold opLaunchCountReached; dsimp only; (repeat' split) <;> simp
@[simp] theorem completeProgram_mem (t gc : Nat) (d : Dev) : (completeProgram t gc d).mem = d.mem := by simp [completeProgram]
@[simp] theorem opProgramCompletionCheck_mem (t : Nat) (d : Dev) : (opProgramCompletionCheck t d).mem = d.mem := by unfold opProgramCompletionCheck; dsimp only; (repeat' split) <;> simp
@[simp] theorem haltProgram_mem_cells (t gc : Nat) (d : Dev) : (haltProgram t gc d).mem.cells = d.mem.cells := by simp [haltProgram]
@[simp] theorem completeBefore_mem (t gc : Nat) (d : Dev) : (completeBefore t gc d).mem = d.mem := by unfold completeBefore; (repeat' split) <;> simp
@[simp] theorem haltByRing_mem_cells (t : Nat) (c : Cmd) (d0 : Dev) : (haltByRing t c d0).mem.cells = d0.mem.cells := by simp [haltByRing, apply_ite Dev.mem, apply_ite Mem.cells]
@[simp] theorem haltByReplay_mem_cells (t h : Nat) (d0 : Dev) : (haltByReplay t h d0).mem.cells = d0.mem.cells := by simp [haltByReplay, apply_ite Dev.mem, apply_ite Mem.cells]
@[simp] theorem opHaltAtReached_mem_cells (t : Nat) (d : Dev) : (opHaltAtReached t d).mem.cells = d.mem.cells := by unfold opHaltAtReached; dsimp only; (repeat' split) <;> simp
@[simp] theorem holdViews_mem (t s : Nat) (d : Dev) : (holdViews t s d).mem = d.mem := by simp [holdViews]
@[simp] theorem releaseViews_mem (t : Nat) (d : Dev) : (releaseViews t d).mem = d.mem := by simp [releaseViews]
@[simp] theorem opSuspendEffect_mem (t : Nat) (d : Dev) : (opSuspendEffect t d).mem = d.mem := by unfold opSuspendEffect; dsimp only; (repeat' split) <;> simp
@[simp] theorem opResumeEffect_mem (t : Nat) (d : Dev) : (opResumeEffect t d).mem = d.mem := by unfold opResumeEffect; dsimp only; (repeat' split) <;> simp
@[simp] theorem opWaitCountReached_mem (d : Dev) : (opWaitCountReached d).mem = d.mem := by simp [opWaitCountReached]
@[simp] theorem opFaultRaised_mem (t code : Nat) (d : Dev) : (opFaultRaised t code d).mem = d.mem := by simp [opFaultRaised]
@[simp] theorem stopFaulted_mem_cells (t gc : Nat) (d : Dev) : (stopFaulted t gc d).mem.cells = d.mem.cells := by simp [stopFaulted, apply_ite Dev.mem, apply_ite Mem.cells]
@[simp] theorem opFaultStop_mem_cells (t : Nat) (d : Dev) : (opFaultStop t d).mem.cells = d.mem.cells := by simp [opFaultStop, apply_ite Dev.mem, apply_ite Mem.cells]
@[simp] theorem postLaunch_mem (t launch k : Nat) (words : List Nat) (cmd : Nat) (rec_ replayed : Bool) (d : Dev) : (postLaunch t launch k words cmd rec_ replayed d).mem = d.mem := by simp [postLaunch]
@[simp] theorem reserveEnd_mem (t : Nat) (d : Dev) : (reserveEnd t d).mem = d.mem := by simp [reserveEnd]
@[simp] theorem launchBody_mem (t launch : Nat) (c : Cmd) (im : Loaded) (d : Dev) : (launchBody t launch c im d).mem = d.mem := by unfold launchBody; dsimp only; (repeat' split) <;> simp
@[simp] theorem opLaunchAt_mem (r : Nat) (d : Dev) : (opLaunchAt r d).mem = d.mem := by
  refine runTen_mem _ _ _ _ fun t c a => ?_
  dsimp only; (repeat' split) <;> simp
@[simp] theorem opLaunchNext_mem (r : Nat) (d : Dev) : (opLaunchNext r d).mem = d.mem := by
  refine runTen_mem _ _ _ _ fun t c a => ?_
  dsimp only; (repeat' split) <;> simp
@[simp] theorem opHaltAt_mem (r : Nat) (d : Dev) : (opHaltAt r d).mem = d.mem := by
  refine runTen_mem _ _ _ _ fun t c a => ?_
  dsimp only; (repeat' split) <;> simp
@[simp] theorem opSuspend_mem (r : Nat) (d : Dev) : (opSuspend r d).mem = d.mem := by simp [opSuspend, apply_ite Dev.mem]
@[simp] theorem opResume_mem (r : Nat) (d : Dev) : (opResume r d).mem = d.mem := by
  refine runTen_mem _ _ _ _ fun t c a => ?_
  dsimp only; (repeat' split) <;> simp
@[simp] theorem opFence_mem (r : Nat) (d : Dev) : (opFence r d).mem = d.mem := by simp [opFence, apply_ite Dev.mem]
@[simp] theorem opWaitCount_mem (r : Nat) (d : Dev) : (opWaitCount r d).mem = d.mem := by simp [opWaitCount, apply_ite Dev.mem]

end Sys2Proof.Machine
end

