-- ==== Sys2Proof/Laws/FramesCommands.lean ====
section
/-!
SUPPORT. What each operation does to device memory: it leaves it alone, or keeps its canonical form (timers, queries, buffers, bitstream units, replay, partition, root, boot, power and cores).
-/
namespace Sys2Proof.Machine

/-! ## Machine/Timers.lean -/

@[simp] theorem tmrCause_mem (n : Nat) (d : Dev) : (tmrCause n d).mem = d.mem := by unfold tmrCause; (repeat' split) <;> simp
@[simp] theorem signalEvents_mem (n : Nat) (was : Timer) (cmp wrap : Bool) (d : Dev) : (signalEvents n was cmp wrap d).mem = d.mem := by simp [signalEvents, apply_ite Dev.mem]
@[simp] theorem opTimerStep_mem (n t : Nat) (d : Dev) : (opTimerStep n t d).mem = d.mem := by simp [opTimerStep, apply_ite Dev.mem]
@[simp] theorem opPassedCompareFire_mem (n : Nat) (d : Dev) : (opPassedCompareFire n d).mem = d.mem := by simp [opPassedCompareFire, apply_ite Dev.mem]
@[simp] theorem opTimerStart_mem (t : Nat) (d : Dev) : (opTimerStart t d).mem = d.mem := by simp [opTimerStart, apply_ite Dev.mem]
@[simp] theorem opTimerStartMissed_mem (d : Dev) : (opTimerStartMissed d).mem = d.mem := by simp [opTimerStartMissed, apply_ite Dev.mem]
@[simp] theorem opCmpLoWrite_mem (fn n : Nat) (v : BitVec 32) (d : Dev) : (opCmpLoWrite fn n v d).mem = d.mem := by simp [opCmpLoWrite, apply_ite Dev.mem]
@[simp] theorem opCmpHiWrite_mem (fn n : Nat) (v : BitVec 32) (d : Dev) : (opCmpHiWrite fn n v d).mem = d.mem := by simp [opCmpHiWrite, apply_ite Dev.mem]
@[simp] theorem opTmrGstart_mem (fn : Nat) (mask : BitVec 16) (d : Dev) : (opTmrGstart fn mask d).mem = d.mem := by simp [opTmrGstart, apply_ite Dev.mem]
theorem runTimer_keeps {β : Type} (π : Dev → β) (r op : Nat) (body : Cmd → Dev → Dev) (d : Dev) (h : ∀ c a, π (body c a) = π a)
    (hf : ∀ id st r0 r1 a, π (finish id st r0 r1 a) = π a) (hh : ∀ (f : HostIf → HostIf) (a : Dev), π (modHost f a) = π a) :
    π (runTimer r op body d) = π d := by
  refine runCmd_keeps π _ _ _ _ (fun c a => ?_) hh
  dsimp only; (repeat' split) <;> first | exact h _ _ | exact hf _ _ _ _ _

@[simp] theorem runTimer_mem (r op : Nat) (body : Cmd → Dev → Dev) (d : Dev) (h : ∀ c a, (body c a).mem = a.mem) :
    (runTimer r op body d).mem = d.mem := runTimer_keeps Dev.mem r op body d h (fun _ _ _ _ _ => by simp) fun _ _ => rfl
@[simp] theorem opTimerProgram_mem (r : Nat) (d : Dev) : (opTimerProgram r d).mem = d.mem := by
  refine runTimer_mem _ _ _ _ fun c a => ?_
  dsimp only; (repeat' split) <;> simp
@[simp] theorem opTimerStartGroup_mem (r : Nat) (d : Dev) : (opTimerStartGroup r d).mem = d.mem := by
  refine runTimer_mem _ _ _ _ fun c a => ?_
  dsimp only; (repeat' split) <;> simp

/-! ## Machine/Queries.lean -/

@[simp] theorem opNop_mem (r : Nat) (d : Dev) : (opNop r d).mem = d.mem := by simp [opNop]
@[simp] theorem opQueryDevice_mem_cells (r : Nat) (d : Dev) : (opQueryDevice r d).mem.cells = d.mem.cells := by
  refine runCmd_mem_cells _ _ _ _ fun c a => ?_
  dsimp only; (repeat' split) <;> simp
@[simp] theorem opQueryTenancy_mem (r : Nat) (d : Dev) : (opQueryTenancy r d).mem = d.mem := by
  refine runCmd_mem _ _ _ _ fun c a => ?_
  dsimp only; (repeat' split) <;> simp
@[simp] theorem opCountRead_mem (r : Nat) (d : Dev) : (opCountRead r d).mem = d.mem := by simp [opCountRead]

/-! ## Machine/Buffers.lean -/

@[simp] theorem readAreaLine_mem_cells (a : BufArea) (addr : Nat) (d : Dev) : (readAreaLine a addr d).2.2.mem.cells = d.mem.cells := by
  unfold readAreaLine; dsimp only; (repeat' split) <;> simp

@[simp] theorem readArea_mem_cells (a : BufArea) (addr used n at_ : Nat) (d : Dev) :
    (readArea a addr used n at_ d).2.2.mem.cells = d.mem.cells := by
  induction n generalizing at_ d with
  | zero => rfl
  | succ n ih => unfold readArea; dsimp only; (repeat' split) <;> simp [ih]

@[simp] theorem foldRows_mem_cells (a : BufArea) (addr stride f n t p k r i acc : Nat) (d : Dev) :
    (foldRows a addr stride f n t p k r i acc d).2.2.mem.cells = d.mem.cells := by
  induction k generalizing r i acc d with
  | zero => rfl
  | succ k ih => unfold foldRows; dsimp only; split <;> simp [ih]
@[simp] theorem markBuffer_mem (t : Nat) (d : Dev) : (markBuffer t d).mem = d.mem := by simp [markBuffer]
@[simp] theorem storeArea_wf (r : GrantRec) (a : BufArea) (data : List Byte) (d : Dev) (h : Memory.wf d.mem.cells = true) :
    Memory.wf (storeArea r a data d).mem.cells = true := wf_storeBytes _ _ _ _ h
@[simp] theorem opBufferWrite_wf (r : Nat) (d : Dev) (h : Memory.wf d.mem.cells = true) : Memory.wf (opBufferWrite r d).mem.cells = true := by
  refine runTen_wf _ _ _ _ h fun t c a h => ?_
  dsimp only; (repeat' split) <;> simp [h]
@[simp] theorem opBufferFill_wf (r : Nat) (d : Dev) (h : Memory.wf d.mem.cells = true) : Memory.wf (opBufferFill r d).mem.cells = true := by
  refine runTen_wf _ _ _ _ h fun t c a h => ?_
  dsimp only; (repeat' split) <;> simp [h]
@[simp] theorem finishPoison_mem (c : Cmd) (moved : Nat) (d : Dev) : (finishPoison c moved d).mem = d.mem := by simp [finishPoison]
@[simp] theorem opBufferRead_mem_cells (r : Nat) (d : Dev) : (opBufferRead r d).mem.cells = d.mem.cells := by
  refine runTen_mem_cells _ _ _ _ fun t c a => ?_
  dsimp only; (repeat' split) <;> simp
@[simp] theorem opBufferDigest_mem_cells (r : Nat) (d : Dev) : (opBufferDigest r d).mem.cells = d.mem.cells := by
  refine runTen_mem_cells _ _ _ _ fun t c a => ?_
  dsimp only; (repeat' split) <;> simp
@[simp] theorem opJournalStart_mem (r : Nat) (d : Dev) : (opJournalStart r d).mem = d.mem := by simp [opJournalStart, apply_ite Dev.mem]
@[simp] theorem opJournalStop_mem (r : Nat) (d : Dev) : (opJournalStop r d).mem = d.mem := by
  refine runTen_mem _ _ _ _ fun t c a => ?_
  (repeat' split) <;> simp
@[simp] theorem opDigestTableRead_mem (r : Nat) (d : Dev) : (opDigestTableRead r d).mem = d.mem := by simp [opDigestTableRead, apply_ite Dev.mem]
@[simp] theorem opVarianceRead_mem (r : Nat) (d : Dev) : (opVarianceRead r d).mem = d.mem := by simp [opVarianceRead, apply_ite Dev.mem]

/-! ## Machine/Bsu.lean -/

@[simp] theorem bsuFail_mem (u cause code : Nat) (d : Dev) : (bsuFail u cause code d).mem = d.mem := by unfold bsuFail; dsimp only; (repeat' split) <;> simp
@[simp] theorem takeRecord_mem (u : Nat) (r : BsuRec) (d : Dev) : (takeRecord u r d).mem = d.mem := by simp [takeRecord, apply_ite Dev.mem]
@[simp] theorem opBsuDrain_mem (u : Nat) (d : Dev) : (opBsuDrain u d).mem = d.mem := by
  unfold opBsuDrain; (try dsimp only); (repeat' split) <;> simp

@[simp] theorem takeDrains_mem (u n : Nat) (d : Dev) : (takeDrains u n d).mem = d.mem := by
  induction n generalizing d with
  | zero => rfl
  | succ n ih => unfold takeDrains; simp [ih]

@[simp] theorem runEngine_mem (u limit n : Nat) (d : Dev) : (runEngine u limit n d).mem = d.mem := by
  induction n generalizing d with
  | zero => rfl
  | succ n ih => unfold runEngine; split <;> simp [ih]
@[simp] theorem opBsuRecord_mem (u kind : Nat) (d0 : Dev) : (opBsuRecord u kind d0).mem = d0.mem := by unfold opBsuRecord; dsimp only; (repeat' split) <;> simp
@[simp] theorem opBsuNop_mem (u : Nat) (d : Dev) : (opBsuNop u d).mem = d.mem := by simp [opBsuNop]
@[simp] theorem opBsuCtx_mem (u : Nat) (d : Dev) : (opBsuCtx u d).mem = d.mem := by simp [opBsuCtx]
@[simp] theorem opBsuByp_mem (u : Nat) (d : Dev) : (opBsuByp u d).mem = d.mem := by simp [opBsuByp]
@[simp] theorem opBsuTerm_mem (u : Nat) (d : Dev) : (opBsuTerm u d).mem = d.mem := by simp [opBsuTerm]
@[simp] theorem opBsuSym_mem (u : Nat) (d : Dev) : (opBsuSym u d).mem = d.mem := by simp [opBsuSym]
@[simp] theorem opBsuLit_mem (u : Nat) (d : Dev) : (opBsuLit u d).mem = d.mem := by simp [opBsuLit]
@[simp] theorem opBsuFrameStart_mem (u : Nat) (d : Dev) : (opBsuFrameStart u d).mem = d.mem := by simp [opBsuFrameStart]
@[simp] theorem opBsuSegStart_mem (u : Nat) (d : Dev) : (opBsuSegStart u d).mem = d.mem := by simp [opBsuSegStart]
@[simp] theorem opBsuEntry_mem (u : Nat) (d : Dev) : (opBsuEntry u d).mem = d.mem := by simp [opBsuEntry]
@[simp] theorem opBsuSegEnd_mem (u : Nat) (d : Dev) : (opBsuSegEnd u d).mem = d.mem := by simp [opBsuSegEnd]
@[simp] theorem opBsuFrameEnd_mem (u : Nat) (d : Dev) : (opBsuFrameEnd u d).mem = d.mem := by simp [opBsuFrameEnd]
@[simp] theorem acceptFlit_mem (u : Nat) (f : Line) (arr : Nat) (d : Dev) : (acceptFlit u f arr d).mem = d.mem := by simp [acceptFlit, apply_ite Dev.mem]
@[simp] theorem opBsuRecordFlit_mem (u t : Nat) (d : Dev) : (opBsuRecordFlit u t d).mem = d.mem := by
  unfold opBsuRecordFlit; dsimp only; (repeat' split) <;> simp
@[simp] theorem opBsuDrainLine_mem (u t : Nat) (d : Dev) : (opBsuDrainLine u t d).mem = d.mem := by
  unfold opBsuDrainLine; dsimp only
  (repeat' split) <;> (try simp) <;> (repeat' split) <;> (try simp)
@[simp] theorem opBsuReset_mem (u cause : Nat) (d : Dev) : (opBsuReset u cause d).mem = d.mem := by unfold opBsuReset; (repeat' split) <;> simp
@[simp] theorem endLease_mem (u : Nat) (d : Dev) : (endLease u d).mem = d.mem := by simp [endLease]
@[simp] theorem opBsuBind_mem (r : Nat) (d : Dev) : (opBsuBind r d).mem = d.mem := by
  refine runTen_mem _ _ _ _ fun t c a => ?_
  dsimp only; (repeat' split) <;> simp
@[simp] theorem applyConfig_mem (b : List Byte) (d : Dev) : (applyConfig b d).mem = d.mem := by simp [applyConfig]
@[simp] theorem opBsuConfig_mem (r : Nat) (d : Dev) : (opBsuConfig r d).mem = d.mem := by
  refine runTen_mem _ _ _ _ fun t c a => ?_
  dsimp only; (repeat' split) <;> simp
@[simp] theorem endFlush_mem (c : Cmd) (u : Nat) (d : Dev) : (endFlush c u d).mem = d.mem := by simp [endFlush]
@[simp] theorem opBsuFlush_mem (r : Nat) (d : Dev) : (opBsuFlush r d).mem = d.mem := by unfold opBsuFlush; (try dsimp only); (repeat' split) <;> simp [apply_ite Dev.mem]

/-! ## Machine/Replay.lean -/

@[simp] theorem modReplay_mem (t : Nat) (f : Replay → Replay) (d : Dev) : (modReplay t f d).mem = d.mem := by simp [modReplay]
@[simp] theorem endReplay_mem (t id st r0 r1 fault : Nat) (d : Dev) : (endReplay t id st r0 r1 fault d).mem = d.mem := by simp [endReplay]
@[simp] theorem diverge_mem (t : Nat) (r : Replay) (layer : Nat) (d : Dev) : (diverge t r layer d).mem = d.mem := by simp [diverge]
@[simp] theorem replayLaunch_mem (t : Nat) (r : Replay) (d : Dev) : (replayLaunch t r d).mem = d.mem := by unfold replayLaunch; dsimp only; (repeat' split) <;> simp
@[simp] theorem replayCommand_wf (t : Nat) (c : Cmd) (r : Replay) (d : Dev) (h : Memory.wf d.mem.cells = true) :
    Memory.wf (replayCommand t c r d).mem.cells = true := by
  unfold replayCommand; dsimp only; (repeat' split) <;> simp [h]
@[simp] theorem replayRef_mem (t : Nat) (r : Replay) (d : Dev) : (replayRef t r d).mem = d.mem := by unfold replayRef; (repeat' split) <;> simp
@[simp] theorem replayEnd_mem (t : Nat) (r : Replay) (d : Dev) : (replayEnd t r d).mem = d.mem := by unfold replayEnd; dsimp only; (repeat' split) <;> simp
@[simp] theorem replayStep_wf (t : Nat) (c : Cmd) (r : Replay) (d : Dev) (h : Memory.wf d.mem.cells = true) :
    Memory.wf (replayStep t c r d).mem.cells = true := by
  unfold replayStep; (repeat' split) <;> simp [h]
@[simp] theorem replayBegin_mem (t : Nat) (c : Cmd) (d : Dev) : (replayBegin t c d).mem = d.mem := by unfold replayBegin; dsimp only; (repeat' split) <;> simp
@[simp] theorem replayWrite_wf (t : Nat) (c : Cmd) (r : Replay) (d : Dev) (h : Memory.wf d.mem.cells = true) :
    Memory.wf (replayWrite t c r d).mem.cells = true := by
  unfold replayWrite; dsimp only; split <;> simp [h]
@[simp] theorem opReplayStart_wf (r : Nat) (d : Dev) (h : Memory.wf d.mem.cells = true) : Memory.wf (opReplayStart r d).mem.cells = true := by
  unfold opReplayStart; split
  · split <;> simp [h]
  · refine runTen_wf _ _ _ _ h fun t c a h => ?_
    (repeat' split) <;> simp [h]

/-! ## Machine/Spans.lean -/

@[simp] theorem opSpanJoin_mem (r : Nat) (d : Dev) : (opSpanJoin r d).mem = d.mem := by simp [opSpanJoin, apply_ite Dev.mem]
@[simp] theorem opSpanLeave_mem (r : Nat) (d : Dev) : (opSpanLeave r d).mem = d.mem := by simp [opSpanLeave, apply_ite Dev.mem]

/-! ## Machine/Parts.lean -/

@[simp] theorem opPartitionStage_mem (r : Nat) (d : Dev) : (opPartitionStage r d).mem = d.mem := by simp [opPartitionStage, apply_ite Dev.mem]
@[simp] theorem opPartitionCommit_mem (r : Nat) (d : Dev) : (opPartitionCommit r d).mem = d.mem := by simp [opPartitionCommit, apply_ite Dev.mem]
@[simp] theorem commitStaged_mem_cells (c : Cmd) (d : Dev) : (commitStaged c d).mem.cells = d.mem.cells := by unfold commitStaged; (repeat' split) <;> simp
@[simp] theorem opGrantChangeEffect_mem_cells (d : Dev) : (opGrantChangeEffect d).mem.cells = d.mem.cells := by unfold opGrantChangeEffect; (repeat' split) <;> simp
@[simp] theorem opPartitionRead_mem (r : Nat) (d : Dev) : (opPartitionRead r d).mem = d.mem := by
  refine runCmd_mem _ _ _ _ fun c a => ?_
  dsimp only; (repeat' split) <;> simp
@[simp] theorem partIgnore_mem (d : Dev) : (partIgnore d).mem = d.mem := by simp [partIgnore]
@[simp] theorem opPartCountHi_mem (fn : Nat) (v : BitVec 32) (d : Dev) : (opPartCountHi fn v d).mem = d.mem := by simp [opPartCountHi, apply_ite Dev.mem]
@[simp] theorem opPartCheckDone_mem (d : Dev) : (opPartCheckDone d).mem = d.mem := by unfold opPartCheckDone; (repeat' split) <;> simp
@[simp] theorem opPartSync_mem (fn : Nat) (d : Dev) : (opPartSync fn d).mem = d.mem := by simp [opPartSync, apply_ite Dev.mem]
@[simp] theorem opPartCancel_mem (fn : Nat) (d : Dev) : (opPartCancel fn d).mem = d.mem := by simp [opPartCancel, apply_ite Dev.mem]
@[simp] theorem opDirectCommitEffect_mem_cells (d : Dev) : (opDirectCommitEffect d).mem.cells = d.mem.cells := by simp [opDirectCommitEffect, apply_ite Dev.mem, apply_ite Mem.cells]
@[simp] theorem dropStaging_mem (d : Dev) : (dropStaging d).mem = d.mem := by simp [dropStaging]
@[simp] theorem opLeaseExpiry_mem (k : Nat) (d : Dev) : (opLeaseExpiry k d).mem = d.mem := by unfold opLeaseExpiry; dsimp only; (repeat' split) <;> simp
@[simp] theorem opLeaseRevoke_mem (r : Nat) (d : Dev) : (opLeaseRevoke r d).mem = d.mem := by simp [opLeaseRevoke, apply_ite Dev.mem]
@[simp] theorem revokeLease_mem (c : Cmd) (d : Dev) : (revokeLease c d).mem = d.mem := by unfold revokeLease; (repeat' split) <;> simp
@[simp] theorem opLeaseRevokeEffect_mem (d : Dev) : (opLeaseRevokeEffect d).mem = d.mem := by simp [opLeaseRevokeEffect]

/-! ## Machine/Root.lean -/

@[simp] theorem opRingAssign_mem (r : Nat) (d : Dev) : (opRingAssign r d).mem = d.mem := by simp [opRingAssign, apply_ite Dev.mem]
@[simp] theorem opPowerCapSet_mem (r : Nat) (d : Dev) : (opPowerCapSet r d).mem = d.mem := by simp [opPowerCapSet, apply_ite Dev.mem]
@[simp] theorem opIslandPower_mem (r : Nat) (d : Dev) : (opIslandPower r d).mem = d.mem := by simp [opIslandPower, apply_ite Dev.mem]
@[simp] theorem darkenIsland_wf (i : Nat) (d : Dev) (h : Memory.wf d.mem.cells = true) :
    Memory.wf (darkenIsland i d).mem.cells = true := by unfold darkenIsland; (try dsimp only); (repeat' split) <;> simp_all [apply_ite Dev.mem, apply_ite Mem.cells, h]
@[simp] theorem gateIsland_mem (i : Nat) (d : Dev) : (gateIsland i d).mem = d.mem := by simp [gateIsland]
@[simp] theorem islandsOff_wf (c : Cmd) (d : Dev) (h : Memory.wf d.mem.cells = true) :
    Memory.wf (islandsOff c d).mem.cells = true := by unfold islandsOff; (try dsimp only); (repeat' split) <;> simp_all [apply_ite Dev.mem, apply_ite Mem.cells, h]
@[simp] theorem opIslandPowerOffEffect_wf (d : Dev) (h : Memory.wf d.mem.cells = true) :
    Memory.wf (opIslandPowerOffEffect d).mem.cells = true := by unfold opIslandPowerOffEffect; (try dsimp only); (repeat' split) <;> simp_all [apply_ite Dev.mem, apply_ite Mem.cells, h]
@[simp] theorem lightIsland_wf (i : Nat) (d : Dev) (h : Memory.wf d.mem.cells = true) :
    Memory.wf (lightIsland i d).mem.cells = true := by unfold lightIsland; (try dsimp only); (repeat' split) <;> simp_all [apply_ite Dev.mem, apply_ite Mem.cells, h]
@[simp] theorem opIslandPowerOnEffect_wf (d : Dev) (h : Memory.wf d.mem.cells = true) :
    Memory.wf (opIslandPowerOnEffect d).mem.cells = true := by
  refine foldl_wf _ (fun a c h => ?_) _ _ h
  rw [modCmd_mem]
  exact foldl_wf _ (fun _ _ h => lightIsland_wf _ _ h) _ _ h
@[simp] theorem opIslandPowerOnDone_mem (d : Dev) : (opIslandPowerOnDone d).mem = d.mem := by simp [opIslandPowerOnDone]
@[simp] theorem persistFirmware_mem (f : Firmware) (d : Dev) : (persistFirmware f d).mem = d.mem := by simp [persistFirmware, apply_ite Dev.mem]
@[simp] theorem opFirmwareStage_mem (r : Nat) (d : Dev) : (opFirmwareStage r d).mem = d.mem := by simp [opFirmwareStage, apply_ite Dev.mem]
@[simp] theorem holdWatchdogs_mem (h : Bool) (d : Dev) : (holdWatchdogs h d).mem = d.mem := by simp [holdWatchdogs]
@[simp] theorem opFirmwareActivate_mem (r : Nat) (d : Dev) : (opFirmwareActivate r d).mem = d.mem := by
  unfold opFirmwareActivate; split
  · split <;> simp
  · refine runCmd_mem _ _ _ _ fun c a => ?_
    (repeat' split) <;> simp
@[simp] theorem forceLost_mem (l : Nat) (d : Dev) : (forceLost l d).mem = d.mem := by simp [forceLost, apply_ite Dev.mem]
@[simp] theorem linkAction_mem (l act w : Nat) (d : Dev) : (linkAction l act w d).mem = d.mem := by unfold linkAction; dsimp only; (repeat' split) <;> simp
@[simp] theorem linkForced_mem (l act w : Nat) (d : Dev) : (linkForced l act w d).mem = d.mem := by unfold linkForced; (repeat' split) <;> simp
@[simp] theorem opLinkControl_mem (r : Nat) (d : Dev) : (opLinkControl r d).mem = d.mem := by simp [opLinkControl, apply_ite Dev.mem]
@[simp] theorem opTenancyReset_mem (r : Nat) (d : Dev) : (opTenancyReset r d).mem = d.mem := by simp [opTenancyReset, apply_ite Dev.mem]
@[simp] theorem stopForReset_mem_cells (t gc : Nat) (d : Dev) : (stopForReset t gc d).mem.cells = d.mem.cells := by simp [stopForReset, apply_ite Dev.mem, apply_ite Mem.cells]
@[simp] theorem resetTenancy_mem_cells (c : Cmd) (d : Dev) : (resetTenancy c d).mem.cells = d.mem.cells := by unfold resetTenancy; dsimp only; (repeat' split) <;> simp
@[simp] theorem opTenancyResetEffect_mem_cells (d : Dev) : (opTenancyResetEffect d).mem.cells = d.mem.cells := by simp [opTenancyResetEffect]

/-! ## Machine/Boot.lean -/

@[simp] theorem chipReset_wf (cause : Nat) (cut : Bool) (d : Dev) (h : Memory.wf d.mem.cells = true) :
    Memory.wf (chipReset cause cut d).mem.cells = true := by simp [chipReset, h]
@[simp] theorem opChipReset_wf (cause : Nat) (cut : Bool) (d : Dev) (h : Memory.wf d.mem.cells = true) :
    Memory.wf (opChipReset cause cut d).mem.cells = true := by simp [opChipReset, h]
@[simp] theorem opLinkDrivenReset_wf (k : Nat) (cut : Bool) (d : Dev) (h : Memory.wf d.mem.cells = true) :
    Memory.wf (opLinkDrivenReset k cut d).mem.cells = true := by simp [opLinkDrivenReset, h]
@[simp] theorem opPowerLoss_wf (cut : Bool) (d : Dev) (h : Memory.wf d.mem.cells = true) :
    Memory.wf (opPowerLoss cut d).mem.cells = true := by simp [opPowerLoss, h]
@[simp] theorem opResetRelease_mem (straps : BitVec 4) (d : Dev) : (opResetRelease straps d).mem = d.mem := by simp [opResetRelease, apply_ite Dev.mem]
@[simp] theorem pmbus_mem (target cmd : Nat) (data : List Byte) (d : Dev) : (pmbus target cmd data d).mem = d.mem := by simp [pmbus]
@[simp] theorem pmbusFail_mem (avs : Bool) (d : Dev) : (pmbusFail avs d).mem = d.mem := by simp [pmbusFail]
@[simp] theorem opBootEntry_mem (mode : Option Int) (d : Dev) : (opBootEntry mode d).mem = d.mem := by unfold opBootEntry; (repeat' split) <;> simp
@[simp] theorem mailMessage_mem (kind : Nat) (data : List Byte) (d : Dev) : (mailMessage kind data d).mem = d.mem := by simp [mailMessage]
@[simp] theorem bootStatus_mem (d : Dev) : (bootStatus d).mem = d.mem := by simp [bootStatus]
@[simp] theorem bootFail_mem (code : Nat) (d : Dev) : (bootFail code d).mem = d.mem := by simp [bootFail]
@[simp] theorem bootFlash_mem (sfdp : Bool) (d : Dev) : (bootFlash sfdp d).mem = d.mem := by unfold bootFlash; (repeat' split) <;> simp
@[simp] theorem opFirmwareBootLoad_mem (sfdp : Bool) (d : Dev) : (opFirmwareBootLoad sfdp d).mem = d.mem := by unfold opFirmwareBootLoad; (repeat' split) <;> simp
@[simp] theorem opMbInGo_mem (fn : Nat) (v : BitVec 32) (d : Dev) : (opMbInGo fn v d).mem = d.mem := by simp [opMbInGo, apply_ite Dev.mem]
@[simp] theorem opMemoryInitDone_wf (d : Dev) (h : Memory.wf d.mem.cells = true) :
    Memory.wf (opMemoryInitDone d).mem.cells = true := by unfold opMemoryInitDone; (repeat' split) <;> simp [h]
@[simp] theorem armSeal_mem (b : List Byte) (cmd : Option Nat) (d : Dev) : (armSeal b cmd d).mem = d.mem := by simp [armSeal]
@[simp] theorem opConfigSeal_mem (r : Nat) (d : Dev) : (opConfigSeal r d).mem = d.mem := by
  refine runCmd_mem _ _ _ _ fun c a => ?_
  (repeat' split) <;> simp
@[simp] theorem autoSeal_mem (d : Dev) : (autoSeal d).mem = d.mem := by unfold autoSeal; (repeat' split) <;> simp
@[simp] theorem opHeldEntry_mem (d : Dev) : (opHeldEntry d).mem = d.mem := by simp [opHeldEntry, apply_ite Dev.mem]
@[simp] theorem sealLink_mem (b : List Byte) (d : Dev) (l : Nat) : (sealLink b d l).mem = d.mem := by simp [sealLink, apply_ite Dev.mem]
@[simp] theorem applySeal_mem (b : List Byte) (d : Dev) : (applySeal b d).mem = d.mem := by simp [applySeal]
@[simp] theorem opConfigSealEffect_mem (d : Dev) : (opConfigSealEffect d).mem = d.mem := by unfold opConfigSealEffect; (repeat' split) <;> simp
@[simp] theorem opDrainReqSet_mem (fn : Nat) (d : Dev) : (opDrainReqSet fn d).mem = d.mem := by simp [opDrainReqSet, apply_ite Dev.mem]
@[simp] theorem opDrainReqClear_mem (fn : Nat) (d : Dev) : (opDrainReqClear fn d).mem = d.mem := by simp [opDrainReqClear, apply_ite Dev.mem]
@[simp] theorem haltDevice_mem (d : Dev) : (haltDevice d).mem = d.mem := by simp [haltDevice]
@[simp] theorem opDrainToHalted_mem (d : Dev) : (opDrainToHalted d).mem = d.mem := by simp [opDrainToHalted, apply_ite Dev.mem]
@[simp] theorem opThermalTrip_mem (d : Dev) : (opThermalTrip d).mem = d.mem := by simp [opThermalTrip, apply_ite Dev.mem]
@[simp] theorem opRefclkLost_mem (d : Dev) : (opRefclkLost d).mem = d.mem := by simp [opRefclkLost]
@[simp] theorem opPllLockLost_mem (p : Nat) (d : Dev) : (opPllLockLost p d).mem = d.mem := by simp [opPllLockLost, apply_ite Dev.mem]
@[simp] theorem opHostLinkUp_mem (rate width : Nat) (flit : Bool) (d : Dev) : (opHostLinkUp rate width flit d).mem = d.mem := by simp [opHostLinkUp, apply_ite Dev.mem]

/-! ## Machine/Power.lean -/

@[simp] theorem setLimit_mem (i n : Nat) (d : Dev) : (setLimit i n d).mem = d.mem := by simp [setLimit]
@[simp] theorem lowerLimits_mem (d : Dev) : (lowerLimits d).mem = d.mem := by simp [lowerLimits]
@[simp] theorem putLimits_mem (ls : List Nat) (d : Dev) : (putLimits ls d).mem = d.mem := by simp [putLimits, apply_ite Dev.mem]
@[simp] theorem commandVoltage_mem (mv : Nat) (d : Dev) : (commandVoltage mv d).mem = d.mem := by simp [commandVoltage]
@[simp] theorem followLimits_mem (d : Dev) : (followLimits d).mem = d.mem := by simp [followLimits, apply_ite Dev.mem]
@[simp] theorem raiseLimits_mem (d : Dev) : (raiseLimits d).mem = d.mem := by simp [raiseLimits, apply_ite Dev.mem]
@[simp] theorem markCap_mem (on : Bool) (d : Dev) : (markCap on d).mem = d.mem := by simp [markCap, apply_ite Dev.mem]
@[simp] theorem opPowerSample_mem (watts : Nat) (d : Dev) : (opPowerSample watts d).mem = d.mem := by simp [opPowerSample, apply_ite Dev.mem]
@[simp] theorem markWarm_mem (on : Bool) (d : Dev) : (markWarm on d).mem = d.mem := by simp [markWarm, apply_ite Dev.mem]
@[simp] theorem opThermalSample_mem (isl col : List Int) (d : Dev) : (opThermalSample isl col d).mem = d.mem := by simp [opThermalSample, apply_ite Dev.mem]
@[simp] theorem opReadVoutPoll_mem (raw : BitVec 16) (d : Dev) : (opReadVoutPoll raw d).mem = d.mem := by unfold opReadVoutPoll; (repeat' split) <;> simp
@[simp] theorem opPmbusFault_mem (why : Nat) (d : Dev) : (opPmbusFault why d).mem = d.mem := by simp [opPmbusFault, apply_ite Dev.mem]
@[simp] theorem opPmbAlert_mem (st0 st1 : BitVec 16) (d : Dev) : (opPmbAlert st0 st1 d).mem = d.mem := by simp [opPmbAlert, apply_ite Dev.mem]
@[simp] theorem opSmbAlertResponse_mem (d : Dev) : (opSmbAlertResponse d).mem = d.mem := by simp [opSmbAlertResponse, apply_ite Dev.mem]

/-! ## Machine/Cores.lean -/

@[simp] theorem interruptCmds_mem (n : Nat) (d : Dev) : (interruptCmds n d).mem = d.mem := by simp [interruptCmds]
@[simp] theorem holdCore_mem (n : Nat) (d : Dev) : (holdCore n d).mem = d.mem := by simp [holdCore]
@[simp] theorem expireCore_mem (n : Nat) (d : Dev) : (expireCore n d).mem = d.mem := by simp [expireCore, apply_ite Dev.mem]
@[simp] theorem opWatchdogExpiry_mem (n : Nat) (d : Dev) : (opWatchdogExpiry n d).mem = d.mem := by simp [opWatchdogExpiry, apply_ite Dev.mem]
@[simp] theorem opCoreReset_mem (fn : Nat) (mask : BitVec 16) (d : Dev) : (opCoreReset fn mask d).mem = d.mem := by simp [opCoreReset, apply_ite Dev.mem]
@[simp] theorem opRescueCoreReset_mem (d : Dev) : (opRescueCoreReset d).mem = d.mem := by simp [opRescueCoreReset, apply_ite Dev.mem]
@[simp] theorem opCoreRelease_mem (n : Nat) (d : Dev) : (opCoreRelease n d).mem = d.mem := by simp [opCoreRelease, apply_ite Dev.mem]
@[simp] theorem opRingRehome_mem (n : Nat) (d : Dev) : (opRingRehome n d).mem = d.mem := by unfold opRingRehome; (repeat' split) <;> simp
@[simp] theorem restartCmd_mem (c : Cmd) (d : Dev) : (restartCmd c d).mem = d.mem := by simp [restartCmd, apply_ite Dev.mem]
@[simp] theorem lostCmd_mem (c : Cmd) (d : Dev) : (lostCmd c d).mem = d.mem := by simp [lostCmd]
@[simp] theorem bsuLeftReset_mem (u : Nat) (d : Dev) : (bsuLeftReset u d).mem = d.mem := by unfold bsuLeftReset; (repeat' split) <;> simp
@[simp] theorem loseCmd_mem (c : Cmd) (d : Dev) : (loseCmd c d).mem = d.mem := by unfold loseCmd; dsimp only; (repeat' split) <;> simp
@[simp] theorem opInterruptedCommand_mem (r : Nat) (d : Dev) : (opInterruptedCommand r d).mem = d.mem := by unfold opInterruptedCommand; (repeat' split) <;> simp
@[simp] theorem opBlackoutBoundExpiry_mem (d : Dev) : (opBlackoutBoundExpiry d).mem = d.mem := by unfold opBlackoutBoundExpiry; (repeat' split) <;> simp

end Sys2Proof.Machine
end

