-- ==== Sys2Proof/Laws/FramesPorts.lean ====
section
/-!
SUPPORT. What each operation does to device memory: it leaves it alone, or keeps its canonical form (DMA engines, PCI Express, registers and the board port).
-/
namespace Sys2Proof.Machine

/-! ## Machine/Dma.lean -/

@[simp] theorem opDmaDescriptor_mem (e t : Nat) (d : Dev) : (opDmaDescriptor e t d).mem = d.mem := by
  unfold opDmaDescriptor; dsimp only; (repeat' split) <;> simp [dmaCtr]
@[simp] theorem opDmaReadCompletion_mem (e lap tick t : Nat) (data : Line) (poison : Bool) (d : Dev) : (opDmaReadCompletion e lap tick t data poison d).mem = d.mem := by simp [opDmaReadCompletion, apply_ite Dev.mem]
@[simp] theorem failReads_mem (e lap tick n : Nat) (d : Dev) : (failReads e lap tick n d).mem = d.mem := by simp [failReads]
@[simp] theorem recordRead_mem (e : Nat) (x : DmaDesc) (d : Dev) : (recordRead e x d).mem = d.mem := by simp [recordRead, apply_ite Dev.mem]
@[simp] theorem stepDesc_mem (e : Nat) (x : DmaDesc) (d : Dev) : (stepDesc e x d).mem = d.mem := by simp [stepDesc]
@[simp] theorem opDmaReadDeparture_mem (e t : Nat) (d : Dev) : (opDmaReadDeparture e t d).mem = d.mem := by unfold opDmaReadDeparture; dsimp only; (repeat' split) <;> simp
@[simp] theorem opDmaWriteArrival_mem (e t : Nat) (d : Dev) : (opDmaWriteArrival e t d).mem = d.mem := by
  unfold opDmaWriteArrival; dsimp only; (repeat' split) <;> simp [dmaCtr]
@[simp] theorem opDmaWriteShort_mem (e t : Nat) (d : Dev) : (opDmaWriteShort e t d).mem = d.mem := by unfold opDmaWriteShort; dsimp only; (repeat' split) <;> simp
@[simp] theorem opDmaHostWrite_mem (e n : Nat) (d : Dev) : (opDmaHostWrite e n d).mem = d.mem := by unfold opDmaHostWrite; (repeat' split) <;> simp

/-! ## Machine/Pcie.lean -/

@[simp] theorem releaseBlocked_mem (fn : Nat) (d : Dev) : (releaseBlocked fn d).mem = d.mem := by simp [releaseBlocked, apply_ite Dev.mem]
@[simp] theorem opBusMasterEnable_mem (fn : Nat) (on : Bool) (d : Dev) : (opBusMasterEnable fn on d).mem = d.mem := by simp [opBusMasterEnable, apply_ite Dev.mem]
@[simp] theorem sendWithheld_mem (fn v : Nat) (d : Dev) : (sendWithheld fn v d).mem = d.mem := by simp [sendWithheld, apply_ite Dev.mem]
@[simp] theorem opMsixUnmask_mem (fn : Nat) (v : Option Nat) (d : Dev) : (opMsixUnmask fn v d).mem = d.mem := by unfold opMsixUnmask; (repeat' split) <;> simp
@[simp] theorem aerUnc_mem (fn b : Nat) (d : Dev) : (aerUnc fn b d).mem = d.mem := by simp [aerUnc]
@[simp] theorem aerCor_mem (b : Nat) (d : Dev) : (aerCor b d).mem = d.mem := by simp [aerCor]
@[simp] theorem failFetch_mem (f : Fetch) (came : List Byte) (d : Dev) : (failFetch f came d).mem = d.mem := by simp [failFetch, apply_ite Dev.mem]
@[simp] theorem failRead_mem (r : ReadRef) (d : Dev) : (failRead r d).mem = d.mem := by unfold failRead; dsimp only; (repeat' split) <;> simp
@[simp] theorem opCompletionTimeout_mem (r : ReadRef) (d : Dev) : (opCompletionTimeout r d).mem = d.mem := by simp [opCompletionTimeout]
@[simp] theorem opUnsupportedRequest_mem (fn : Nat) (read : Bool) (d : Dev) : (opUnsupportedRequest fn read d).mem = d.mem := by simp [opUnsupportedRequest, apply_ite Dev.mem]
@[simp] theorem opPcieErrorReceived_mem (e : PcieError) (d : Dev) : (opPcieErrorReceived e d).mem = d.mem := by unfold opPcieErrorReceived; (repeat' split) <;> simp
@[simp] theorem opFetchCompletion_mem (id : Nat) (data : List Byte) (d : Dev) : (opFetchCompletion id data d).mem = d.mem := by unfold opFetchCompletion; dsimp only; (repeat' split) <;> simp
@[simp] theorem startFlr_mem (fn : Nat) (d : Dev) : (startFlr fn d).mem = d.mem := by simp [startFlr]
@[simp] theorem opFunctionLevelReset_mem (fn : Nat) (d : Dev) : (opFunctionLevelReset fn d).mem = d.mem := by simp [opFunctionLevelReset, apply_ite Dev.mem]
@[simp] theorem flrTenancy_mem_cells (t gc : Nat) (d : Dev) : (flrTenancy t gc d).mem.cells = d.mem.cells := by unfold flrTenancy; (repeat' split) <;> simp
@[simp] theorem opFlrComplete_mem_cells (fn : Nat) (d : Dev) : (opFlrComplete fn d).mem.cells = d.mem.cells := by simp [opFlrComplete, apply_ite Dev.mem, apply_ite Mem.cells]
@[simp] theorem opVfEnableClear_mem (d : Dev) : (opVfEnableClear d).mem = d.mem := by simp [opVfEnableClear, apply_ite Dev.mem]

/-! ## Machine/Registers.lean -/

@[simp] theorem sendEntry_mem (e : Option Nat) (d : Dev) : (sendEntry e d).mem = d.mem := by unfold sendEntry; (repeat' split) <;> simp
@[simp] theorem putCause_mem (e : Option Nat) (v : BitVec 32) (d : Dev) : (putCause e v d).mem = d.mem := by unfold putCause; (repeat' split) <;> simp
@[simp] theorem putEnable_mem (e : Option Nat) (v : BitVec 32) (d : Dev) : (putEnable e v d).mem = d.mem := by unfold putEnable; (repeat' split) <;> simp
@[simp] theorem clearCause_mem (e : Option Nat) (mask occurs : BitVec 32) (d : Dev) : (clearCause e mask occurs d).mem = d.mem := by simp [clearCause]
@[simp] theorem opCauseClear_mem (fn : Nat) (e : Option Nat) (mask occurs : BitVec 32) (d : Dev) : (opCauseClear fn e mask occurs d).mem = d.mem := by simp [opCauseClear, apply_ite Dev.mem]
@[simp] theorem setEnable_mem (e : Option Nat) (v : BitVec 32) (d : Dev) : (setEnable e v d).mem = d.mem := by simp [setEnable]
@[simp] theorem opCauseEnable_mem (fn : Nat) (e : Option Nat) (v : BitVec 32) (d : Dev) : (opCauseEnable fn e v d).mem = d.mem := by simp [opCauseEnable, apply_ite Dev.mem]
@[simp] theorem writeState_mem (off : Nat) (v0 lasts : W32) (d : Dev) : (writeState off v0 lasts d).mem = d.mem := by unfold writeState; (repeat' split) <;> simp
@[simp] theorem writeMailbox_mem (off : Nat) (v : W32) (d : Dev) : (writeMailbox off v d).mem = d.mem := by unfold writeMailbox; (repeat' split) <;> simp
@[simp] theorem writeTmr_mem (fn : Nat) (all : Bool) (off : Nat) (v : W32) (d : Dev) : (writeTmr fn all off v d).mem = d.mem := by unfold writeTmr; dsimp only; (repeat' split) <;> simp
@[simp] theorem writePart_mem (off : Nat) (v : W32) (d : Dev) : (writePart off v d).mem = d.mem := by unfold writePart; (repeat' split) <;> simp
@[simp] theorem writeSpanBlock_mem (off : Nat) (v : W32) (d : Dev) : (writeSpanBlock off v d).mem = d.mem := by simp [writeSpanBlock, apply_ite Dev.mem]
@[simp] theorem putVector_mem (e : Option Nat) (fn : Nat) (v : W32) (d : Dev) : (putVector e fn v d).mem = d.mem := by unfold putVector; dsimp only; (repeat' split) <;> simp
@[simp] theorem writeMsix_mem (fn off : Nat) (v : W32) (d : Dev) : (writeMsix fn off v d).mem = d.mem := by unfold writeMsix; dsimp only; (repeat' split) <;> simp
@[simp] theorem writeIntr_mem (fn : Nat) (all : Bool) (off : Nat) (v : W32) (d : Dev) : (writeIntr fn all off v d).mem = d.mem := by unfold writeIntr; dsimp only; (repeat' split) <;> simp
@[simp] theorem writeThermal_mem (off : Nat) (v droop : W32) (d : Dev) : (writeThermal off v droop d).mem = d.mem := by simp [writeThermal, apply_ite Dev.mem]
@[simp] theorem writeRing_mem (fn : Nat) (all : Bool) (off : Nat) (v : W32) (d : Dev) : (writeRing fn all off v d).mem = d.mem := by unfold writeRing; dsimp only; (repeat' split) <;> simp
@[simp] theorem writeReg_mem (fn : Nat) (all : Bool) (off : Nat) (v droop : W32) (d : Dev) : (writeReg fn all off v droop d).mem = d.mem := by simp [writeReg, apply_ite Dev.mem]
@[simp] theorem opRegisterWrite_mem (fn off : Nat) (v droop : W32) (d : Dev) : (opRegisterWrite fn off v droop d).mem = d.mem := by simp [opRegisterWrite, apply_ite Dev.mem]

/-! ## Machine/Board.lean -/

@[simp] theorem cleanTable_mem (a : Nat) (f : Fab → Fab) (d : Dev) : (cleanTable a f d).mem = d.mem := by simp [cleanTable]
@[simp] theorem putLambda_mem (l p : Nat) (v : W32) (d : Dev) : (putLambda l p v d).mem = d.mem := by simp [putLambda]
@[simp] theorem putSlot_mem (cl ix slot : Nat) (v : Nat) (d : Dev) : (putSlot cl ix slot v d).mem = d.mem := by simp [putSlot, apply_ite Dev.mem]
@[simp] theorem putPlace_mem (a : Nat) (p : BoardPlace) (half : Option Nat) (v : Nat) (droop : W32) (d : Dev) : (putPlace a p half v droop d).mem = d.mem := by unfold putPlace; dsimp only; (repeat' split) <;> simp
@[simp] theorem accPane_wf (cl : Nat) (x : BoardAcc) (d : Dev) (h : Memory.wf d.mem.cells = true) :
    Memory.wf (accPane cl x d).2.mem.cells = true := by
  unfold accPane; dsimp only; (repeat' split) <;> simp [h, wf_writeLine8]
@[simp] theorem accColumn_wf (cl l m : Nat) (x : BoardAcc) (d : Dev) (h : Memory.wf d.mem.cells = true) :
    Memory.wf (accColumn cl l m x d).2.mem.cells = true := by
  unfold accColumn; dsimp only; (repeat' split) <;> simp [h, wf_writeUnit]
@[simp] theorem accShelf_wf (q : Nat) (x : BoardAcc) (d : Dev) (h : Memory.wf d.mem.cells = true) :
    Memory.wf (accShelf q x d).2.mem.cells = true := by
  have hw (v m p : Nat) (a : Nat) : Memory.wf (writeLine8 a v m p (keepOld d.whl.now a d.mem)).1.cells = true := wf_writeLine8 _ _ _ _ _ h
  unfold accShelf; dsimp only; (repeat' split) <;> simp [h, hw]
@[simp] theorem accEnd_mem (x : BoardAcc) (failed : Bool) (v : Nat) (d : Dev) : (accEnd x failed v d).mem = d.mem := by simp [accEnd, apply_ite Dev.mem]
@[simp] theorem accNow_wf (p : BoardPlace) (x : BoardAcc) (d : Dev) (h : Memory.wf d.mem.cells = true) :
    Memory.wf (accNow p x d).mem.cells = true := by
  unfold accNow; dsimp only; (repeat' split) <;> simp [h]
@[simp] theorem markAccess_mem (write : Bool) (d : Dev) : (markAccess write d).mem = d.mem := by simp [markAccess, apply_ite Dev.mem]
@[simp] theorem accStart_wf (x : BoardAcc) (d : Dev) (h : Memory.wf d.mem.cells = true) :
    Memory.wf (accStart x d).mem.cells = true := by
  unfold accStart; dsimp only; (repeat' split) <;> simp [h]
@[simp] theorem boardShelf_wf (d : Dev) (h : Memory.wf d.mem.cells = true) : Memory.wf (boardShelf d).mem.cells = true := by
  unfold boardShelf
  exact foldl_wf _ (fun a x h => by simp [h]) _ _ (by simpa using h)
@[simp] theorem opPhaseBegin_wf (p : Nat) (d : Dev) (h : Memory.wf d.mem.cells = true) : Memory.wf (opPhaseBegin p d).mem.cells = true := by
  unfold opPhaseBegin; dsimp only; split <;> simp [h]
@[simp] theorem opColumnSlotBoard_wf (cl ph slot m : Nat) (d : Dev) (h : Memory.wf d.mem.cells = true) :
    Memory.wf (opColumnSlotBoard cl ph slot m d).mem.cells = true := by
  unfold opColumnSlotBoard; dsimp only; (repeat' split) <;> simp [h]
@[simp] theorem opSmbIdent_mem (d : Dev) : (opSmbIdent d).mem = d.mem := by simp [opSmbIdent]
@[simp] theorem opSmbTelemetry_mem (d : Dev) : (opSmbTelemetry d).mem = d.mem := by simp [opSmbTelemetry]
@[simp] theorem opBridgeAddr_mem (block : W64) (d : Dev) : (opBridgeAddr block d).mem = d.mem := by simp [opBridgeAddr, apply_ite Dev.mem]
@[simp] theorem opBridgeData_wf (w : Option W32) (v : W32) (d : Dev) (h : Memory.wf d.mem.cells = true) :
    Memory.wf (opBridgeData w v d).mem.cells = true := by
  unfold opBridgeData; dsimp only; (repeat' split) <;> simp [h]
@[simp] theorem opBridgeStatus_mem (d : Dev) : (opBridgeStatus d).mem = d.mem := by simp [opBridgeStatus]
@[simp] theorem opJtagDebugUpdate_wf (dr : BitVec 128) (v : W32) (d : Dev) (h : Memory.wf d.mem.cells = true) :
    Memory.wf (opJtagDebugUpdate dr v d).mem.cells = true := by
  unfold opJtagDebugUpdate; dsimp only; (repeat' split) <;> simp [h]
@[simp] theorem opJtagExtest_mem (code : Fin 3) (low : Bool) (d : Dev) : (opJtagExtest code low d).mem = d.mem := by simp [opJtagExtest]
@[simp] theorem opJtagTapReset_mem (d : Dev) : (opJtagTapReset d).mem = d.mem := by simp [opJtagTapReset]

end Sys2Proof.Machine
end

