-- ==== Sys2Proof/Laws/Guards.lean ====
section
/-!
SUPPORT. What each way of running a command answers, once for all commands.
-/
namespace Sys2Proof.Machine

/-- A state whose device has been replaced. -/
def State.withDev (s : State) (d : Dev) : State := { s with dev := d }

@[simp] theorem State.withDev_dev (s : State) (d : Dev) : (s.withDev d).dev = d := rfl
@[simp] theorem State.withDev_pending (s : State) (d : Dev) : (s.withDev d).pending = s.pending := rfl

theorem onDevAlways_eq (s : State) (f : Dev → Dev) : onDevAlways s f = .next (s.withDev (f s.dev)) := rfl

theorem onDev_eq {s : State} (h : Promises s) (f : Dev → Dev) : onDev s f = .next (s.withDev (f s.dev)) := by
  have h' : s.dev.boot.lost = false := h
  simp [onDev, h', State.withDev]

theorem onDev_lost {s : State} (h : s.dev.boot.lost = true) (f : Dev → Dev) : onDev s f = .fault .nothingPromised := by
  simp [onDev, h]

theorem onDev_cases {s t : State} {f : Dev → Dev} (h : onDev s f = .next t) : Promises s ∧ t = s.withDev (f s.dev) := by
  unfold onDev at h
  split at h
  · cases h
  · rename_i hl
    exact ⟨by simpa [Promises] using hl, by cases h; rfl⟩

theorem onlyIf_pos {c : Dev → Bool} {f : Dev → Dev} {d : Dev} (h : c d = true) : onlyIf c f d = f d := by simp [onlyIf, h]

theorem onlyIf_neg {c : Dev → Bool} {f : Dev → Dev} {d : Dev} (h : c d = false) : onlyIf c f d = d := by simp [onlyIf, h]

theorem onIsland_eq {s : State} (h : Promises s) {cl : Nat} (hr : islandRuns cl s.dev = true) (f : Dev → Dev) :
    onIsland cl s f = .next (s.withDev (f s.dev)) := by rw [onIsland, onDev_eq h, onlyIf_pos hr]

theorem onFabric_eq {s : State} (h : Promises s) (hr : fabricUp s.dev = true) (f : Dev → Dev) :
    onFabric s f = .next (s.withDev (f s.dev)) := by rw [onFabric, onDev_eq h, onlyIf_pos hr]

theorem onControl_eq {s : State} (h : Promises s) (hr : controlUp s.dev = true) (f : Dev → Dev) :
    onControl s f = .next (s.withDev (f s.dev)) := by rw [onControl, onDev_eq h, onlyIf_pos hr]

theorem onColumn_eq {s : State} (h : Promises s) {cl : Nat} (hr : columnUp cl s.dev = true) (f : Dev → Dev) :
    onColumn cl s f = .next (s.withDev (f s.dev)) := by rw [onColumn, onDev_eq h, onlyIf_pos hr]

/-- In a gated domain nothing happens. -/
theorem onFabric_gated {s : State} (h : Promises s) (hr : fabricUp s.dev = false) (f : Dev → Dev) : onFabric s f = .next s := by
  rw [onFabric, onDev_eq h, onlyIf_neg hr]; rfl

theorem onControl_gated {s : State} (h : Promises s) (hr : controlUp s.dev = false) (f : Dev → Dev) : onControl s f = .next s := by
  rw [onControl, onDev_eq h, onlyIf_neg hr]; rfl

theorem onColumn_gated {s : State} (h : Promises s) {cl : Nat} (hr : columnUp cl s.dev = false) (f : Dev → Dev) :
    onColumn cl s f = .next s := by rw [onColumn, onDev_eq h, onlyIf_neg hr]; rfl

theorem onUnits_eq {s : State} (h : Promises s) (hr : unitsOn s.dev = true) (hf : fabricUp s.dev = true) (f : Dev → Dev) :
    onUnits s f = .next (s.withDev (f s.dev)) := by
  rw [onUnits, onDev_eq h, onlyIf_pos (c := fun d => unitsOn d && fabricUp d) (by simp [hr, hf])]

theorem onHost_eq {s : State} (h : Promises s) {fn : Nat} (hr : hostOpen s.dev fn = true) (f : Dev → Dev) :
    onHost fn s f = .next (s.withDev (f s.dev)) := by
  rw [onHost, onDev_eq h, onlyIf_pos (c := fun d => hostOpen d fn) hr]

@[simp] theorem onlyIf_wf (c : Dev → Bool) (f : Dev → Dev) (d : Dev) (h : Memory.wf d.mem.cells = true)
    (hf : Memory.wf (f d).mem.cells = true) : Memory.wf (onlyIf c f d).mem.cells = true := by
  unfold onlyIf; split <;> assumption

end Sys2Proof.Machine
end

