-- ==== Sys2Proof/Laws/Keeps.lean ====
section
/-!
SUPPORT. Which components of the device each operation leaves as they were: the events of clusters, the fabric and the columns.
-/
namespace Sys2Proof.Machine

/-! ## Machine/Ops.lean -/

@[simp] theorem advanceTo_frame (t : Nat) (d : Dev) :
    (advanceTo t d).clk = d.clk ∧ (advanceTo t d).span = d.span ∧ (advanceTo t d).fab = d.fab ∧ (advanceTo t d).lnk = d.lnk ∧ (advanceTo t d).cl = d.cl ∧ (advanceTo t d).ten = d.ten ∧ (advanceTo t d).grants = d.grants ∧ (advanceTo t d).host = d.host ∧ (advanceTo t d).dma = d.dma ∧ (advanceTo t d).bsu = d.bsu ∧ (advanceTo t d).tmr = d.tmr ∧ (advanceTo t d).boot = d.boot ∧ (advanceTo t d).power = d.power ∧ (advanceTo t d).board = d.board ∧ (advanceTo t d).flash = d.flash ∧ (advanceTo t d).mail = d.mail ∧ (advanceTo t d).fuse = d.fuse := by unfold advanceTo; (repeat' split) <;> simp

/-! ## Machine/Flags.lean -/

@[simp] theorem issueOut_frame (fn : Nat) (o : Out) (d : Dev) :
    (issueOut fn o d).clk = d.clk ∧ (issueOut fn o d).whl = d.whl ∧ (issueOut fn o d).span = d.span ∧ (issueOut fn o d).fab = d.fab ∧ (issueOut fn o d).lnk = d.lnk ∧ (issueOut fn o d).cl = d.cl ∧ (issueOut fn o d).ten = d.ten ∧ (issueOut fn o d).grants = d.grants ∧ (issueOut fn o d).dma = d.dma ∧ (issueOut fn o d).bsu = d.bsu ∧ (issueOut fn o d).tmr = d.tmr ∧ (issueOut fn o d).boot = d.boot ∧ (issueOut fn o d).power = d.power ∧ (issueOut fn o d).board = d.board ∧ (issueOut fn o d).flash = d.flash ∧ (issueOut fn o d).mail = d.mail ∧ (issueOut fn o d).fuse = d.fuse := by unfold issueOut; (repeat' split) <;> simp
@[simp] theorem sendMsix_frame (fn v : Nat) (d : Dev) :
    (sendMsix fn v d).clk = d.clk ∧ (sendMsix fn v d).whl = d.whl ∧ (sendMsix fn v d).span = d.span ∧ (sendMsix fn v d).fab = d.fab ∧ (sendMsix fn v d).lnk = d.lnk ∧ (sendMsix fn v d).cl = d.cl ∧ (sendMsix fn v d).ten = d.ten ∧ (sendMsix fn v d).grants = d.grants ∧ (sendMsix fn v d).dma = d.dma ∧ (sendMsix fn v d).bsu = d.bsu ∧ (sendMsix fn v d).tmr = d.tmr ∧ (sendMsix fn v d).boot = d.boot ∧ (sendMsix fn v d).power = d.power ∧ (sendMsix fn v d).board = d.board ∧ (sendMsix fn v d).flash = d.flash ∧ (sendMsix fn v d).mail = d.mail ∧ (sendMsix fn v d).fuse = d.fuse := by unfold sendMsix; dsimp only; (repeat' split) <;> simp
@[simp] theorem raiseCause_frame (t b : Nat) (d : Dev) :
    (raiseCause t b d).clk = d.clk ∧ (raiseCause t b d).whl = d.whl ∧ (raiseCause t b d).span = d.span ∧ (raiseCause t b d).fab = d.fab ∧ (raiseCause t b d).lnk = d.lnk ∧ (raiseCause t b d).cl = d.cl ∧ (raiseCause t b d).grants = d.grants ∧ (raiseCause t b d).dma = d.dma ∧ (raiseCause t b d).bsu = d.bsu ∧ (raiseCause t b d).tmr = d.tmr ∧ (raiseCause t b d).boot = d.boot ∧ (raiseCause t b d).power = d.power ∧ (raiseCause t b d).board = d.board ∧ (raiseCause t b d).flash = d.flash ∧ (raiseCause t b d).mail = d.mail ∧ (raiseCause t b d).fuse = d.fuse := by unfold raiseCause; dsimp only; (repeat' split) <;> simp
@[simp] theorem raiseDev_frame (b : Nat) (d : Dev) :
    (raiseDev b d).clk = d.clk ∧ (raiseDev b d).whl = d.whl ∧ (raiseDev b d).span = d.span ∧ (raiseDev b d).fab = d.fab ∧ (raiseDev b d).lnk = d.lnk ∧ (raiseDev b d).cl = d.cl ∧ (raiseDev b d).ten = d.ten ∧ (raiseDev b d).grants = d.grants ∧ (raiseDev b d).dma = d.dma ∧ (raiseDev b d).bsu = d.bsu ∧ (raiseDev b d).tmr = d.tmr ∧ (raiseDev b d).boot = d.boot ∧ (raiseDev b d).power = d.power ∧ (raiseDev b d).board = d.board ∧ (raiseDev b d).flash = d.flash ∧ (raiseDev b d).mail = d.mail ∧ (raiseDev b d).fuse = d.fuse := by unfold raiseDev; (repeat' split) <;> simp
@[simp] theorem raiseFault_frame (t code : Nat) (d : Dev) :
    (raiseFault t code d).clk = d.clk ∧ (raiseFault t code d).whl = d.whl ∧ (raiseFault t code d).span = d.span ∧ (raiseFault t code d).fab = d.fab ∧ (raiseFault t code d).lnk = d.lnk ∧ (raiseFault t code d).cl = d.cl ∧ (raiseFault t code d).grants = d.grants ∧ (raiseFault t code d).dma = d.dma ∧ (raiseFault t code d).bsu = d.bsu ∧ (raiseFault t code d).tmr = d.tmr ∧ (raiseFault t code d).boot = d.boot ∧ (raiseFault t code d).power = d.power ∧ (raiseFault t code d).board = d.board ∧ (raiseFault t code d).flash = d.flash ∧ (raiseFault t code d).mail = d.mail ∧ (raiseFault t code d).fuse = d.fuse := by simp [raiseFault]
@[simp] theorem faultHolder_frame (cl code : Nat) (d : Dev) :
    (faultHolder cl code d).clk = d.clk ∧ (faultHolder cl code d).whl = d.whl ∧ (faultHolder cl code d).span = d.span ∧ (faultHolder cl code d).fab = d.fab ∧ (faultHolder cl code d).lnk = d.lnk ∧ (faultHolder cl code d).cl = d.cl ∧ (faultHolder cl code d).grants = d.grants ∧ (faultHolder cl code d).dma = d.dma ∧ (faultHolder cl code d).bsu = d.bsu ∧ (faultHolder cl code d).tmr = d.tmr ∧ (faultHolder cl code d).boot = d.boot ∧ (faultHolder cl code d).power = d.power ∧ (faultHolder cl code d).board = d.board ∧ (faultHolder cl code d).flash = d.flash ∧ (faultHolder cl code d).mail = d.mail ∧ (faultHolder cl code d).fuse = d.fuse := by unfold faultHolder; (repeat' split) <;> simp

/-! ## Machine/Cycle.lean -/

@[simp] theorem logError_frame (key addr kind : Nat) (ten : Option Nat) (d : Dev) :
    (logError key addr kind ten d).clk = d.clk ∧ (logError key addr kind ten d).whl = d.whl ∧ (logError key addr kind ten d).span = d.span ∧ (logError key addr kind ten d).fab = d.fab ∧ (logError key addr kind ten d).lnk = d.lnk ∧ (logError key addr kind ten d).cl = d.cl ∧ (logError key addr kind ten d).ten = d.ten ∧ (logError key addr kind ten d).grants = d.grants ∧ (logError key addr kind ten d).host = d.host ∧ (logError key addr kind ten d).dma = d.dma ∧ (logError key addr kind ten d).bsu = d.bsu ∧ (logError key addr kind ten d).tmr = d.tmr ∧ (logError key addr kind ten d).boot = d.boot ∧ (logError key addr kind ten d).power = d.power ∧ (logError key addr kind ten d).board = d.board ∧ (logError key addr kind ten d).flash = d.flash ∧ (logError key addr kind ten d).mail = d.mail ∧ (logError key addr kind ten d).fuse = d.fuse := by unfold logError; (repeat' split) <;> simp
@[simp] theorem logRead_frame (key a : Nat) (r : LineRead) (ten : Option Nat) (d : Dev) :
    (logRead key a r ten d).clk = d.clk ∧ (logRead key a r ten d).whl = d.whl ∧ (logRead key a r ten d).span = d.span ∧ (logRead key a r ten d).fab = d.fab ∧ (logRead key a r ten d).lnk = d.lnk ∧ (logRead key a r ten d).cl = d.cl ∧ (logRead key a r ten d).ten = d.ten ∧ (logRead key a r ten d).grants = d.grants ∧ (logRead key a r ten d).host = d.host ∧ (logRead key a r ten d).dma = d.dma ∧ (logRead key a r ten d).bsu = d.bsu ∧ (logRead key a r ten d).tmr = d.tmr ∧ (logRead key a r ten d).boot = d.boot ∧ (logRead key a r ten d).power = d.power ∧ (logRead key a r ten d).board = d.board ∧ (logRead key a r ten d).flash = d.flash ∧ (logRead key a r ten d).mail = d.mail ∧ (logRead key a r ten d).fuse = d.fuse := by unfold logRead; (repeat' split) <;> simp
@[simp] theorem countPane_frame (cl a : Nat) (r : LineRead) (d : Dev) :
    (countPane cl a r d).clk = d.clk ∧ (countPane cl a r d).whl = d.whl ∧ (countPane cl a r d).span = d.span ∧ (countPane cl a r d).fab = d.fab ∧ (countPane cl a r d).lnk = d.lnk ∧ (countPane cl a r d).cl = d.cl ∧ (countPane cl a r d).ten = d.ten ∧ (countPane cl a r d).grants = d.grants ∧ (countPane cl a r d).host = d.host ∧ (countPane cl a r d).dma = d.dma ∧ (countPane cl a r d).bsu = d.bsu ∧ (countPane cl a r d).tmr = d.tmr ∧ (countPane cl a r d).boot = d.boot ∧ (countPane cl a r d).power = d.power ∧ (countPane cl a r d).board = d.board ∧ (countPane cl a r d).flash = d.flash ∧ (countPane cl a r d).mail = d.mail ∧ (countPane cl a r d).fuse = d.fuse := by simp [countPane]
@[simp] theorem logMerge_frame (cl a mask : Nat) (m : Mem) (d : Dev) :
    (logMerge cl a mask m d).clk = d.clk ∧ (logMerge cl a mask m d).whl = d.whl ∧ (logMerge cl a mask m d).span = d.span ∧ (logMerge cl a mask m d).fab = d.fab ∧ (logMerge cl a mask m d).lnk = d.lnk ∧ (logMerge cl a mask m d).cl = d.cl ∧ (logMerge cl a mask m d).ten = d.ten ∧ (logMerge cl a mask m d).grants = d.grants ∧ (logMerge cl a mask m d).host = d.host ∧ (logMerge cl a mask m d).dma = d.dma ∧ (logMerge cl a mask m d).bsu = d.bsu ∧ (logMerge cl a mask m d).tmr = d.tmr ∧ (logMerge cl a mask m d).boot = d.boot ∧ (logMerge cl a mask m d).power = d.power ∧ (logMerge cl a mask m d).board = d.board ∧ (logMerge cl a mask m d).flash = d.flash ∧ (logMerge cl a mask m d).mail = d.mail ∧ (logMerge cl a mask m d).fuse = d.fuse := by unfold logMerge; (repeat' split) <;> simp
@[simp] theorem paneWrite_frame (cl line v mask poison : Nat) (d : Dev) :
    (paneWrite cl line v mask poison d).clk = d.clk ∧ (paneWrite cl line v mask poison d).whl = d.whl ∧ (paneWrite cl line v mask poison d).span = d.span ∧ (paneWrite cl line v mask poison d).fab = d.fab ∧ (paneWrite cl line v mask poison d).lnk = d.lnk ∧ (paneWrite cl line v mask poison d).cl = d.cl ∧ (paneWrite cl line v mask poison d).ten = d.ten ∧ (paneWrite cl line v mask poison d).grants = d.grants ∧ (paneWrite cl line v mask poison d).host = d.host ∧ (paneWrite cl line v mask poison d).dma = d.dma ∧ (paneWrite cl line v mask poison d).bsu = d.bsu ∧ (paneWrite cl line v mask poison d).tmr = d.tmr ∧ (paneWrite cl line v mask poison d).boot = d.boot ∧ (paneWrite cl line v mask poison d).power = d.power ∧ (paneWrite cl line v mask poison d).board = d.board ∧ (paneWrite cl line v mask poison d).flash = d.flash ∧ (paneWrite cl line v mask poison d).mail = d.mail ∧ (paneWrite cl line v mask poison d).fuse = d.fuse := by unfold paneWrite; dsimp only; (repeat' split) <;> simp
@[simp] theorem clusterFault_frame (cl code : Nat) (d : Dev) :
    (clusterFault cl code d).clk = d.clk ∧ (clusterFault cl code d).whl = d.whl ∧ (clusterFault cl code d).span = d.span ∧ (clusterFault cl code d).fab = d.fab ∧ (clusterFault cl code d).lnk = d.lnk ∧ (clusterFault cl code d).grants = d.grants ∧ (clusterFault cl code d).dma = d.dma ∧ (clusterFault cl code d).bsu = d.bsu ∧ (clusterFault cl code d).tmr = d.tmr ∧ (clusterFault cl code d).boot = d.boot ∧ (clusterFault cl code d).power = d.power ∧ (clusterFault cl code d).board = d.board ∧ (clusterFault cl code d).flash = d.flash ∧ (clusterFault cl code d).mail = d.mail ∧ (clusterFault cl code d).fuse = d.fuse := by simp [clusterFault]
@[simp] theorem doClear_frame (cl buf e : Nat) (d : Dev) :
    (doClear cl buf e d).clk = d.clk ∧ (doClear cl buf e d).whl = d.whl ∧ (doClear cl buf e d).span = d.span ∧ (doClear cl buf e d).fab = d.fab ∧ (doClear cl buf e d).lnk = d.lnk ∧ (doClear cl buf e d).ten = d.ten ∧ (doClear cl buf e d).grants = d.grants ∧ (doClear cl buf e d).host = d.host ∧ (doClear cl buf e d).dma = d.dma ∧ (doClear cl buf e d).bsu = d.bsu ∧ (doClear cl buf e d).tmr = d.tmr ∧ (doClear cl buf e d).boot = d.boot ∧ (doClear cl buf e d).power = d.power ∧ (doClear cl buf e d).board = d.board ∧ (doClear cl buf e d).flash = d.flash ∧ (doClear cl buf e d).mail = d.mail ∧ (doClear cl buf e d).fuse = d.fuse := by simp [doClear]
@[simp] theorem doPayload_frame (cl : Nat) (t : Task) (i : Nat) (d : Dev) :
    (doPayload cl t i d).clk = d.clk ∧ (doPayload cl t i d).whl = d.whl ∧ (doPayload cl t i d).span = d.span ∧ (doPayload cl t i d).fab = d.fab ∧ (doPayload cl t i d).lnk = d.lnk ∧ (doPayload cl t i d).ten = d.ten ∧ (doPayload cl t i d).grants = d.grants ∧ (doPayload cl t i d).host = d.host ∧ (doPayload cl t i d).dma = d.dma ∧ (doPayload cl t i d).bsu = d.bsu ∧ (doPayload cl t i d).tmr = d.tmr ∧ (doPayload cl t i d).boot = d.boot ∧ (doPayload cl t i d).power = d.power ∧ (doPayload cl t i d).board = d.board ∧ (doPayload cl t i d).flash = d.flash ∧ (doPayload cl t i d).mail = d.mail ∧ (doPayload cl t i d).fuse = d.fuse := by unfold doPayload; (repeat' split) <;> simp
@[simp] theorem doDone_frame (cl : Nat) (t : Task) (d : Dev) :
    (doDone cl t d).clk = d.clk ∧ (doDone cl t d).whl = d.whl ∧ (doDone cl t d).span = d.span ∧ (doDone cl t d).fab = d.fab ∧ (doDone cl t d).lnk = d.lnk ∧ (doDone cl t d).grants = d.grants ∧ (doDone cl t d).host = d.host ∧ (doDone cl t d).dma = d.dma ∧ (doDone cl t d).bsu = d.bsu ∧ (doDone cl t d).tmr = d.tmr ∧ (doDone cl t d).boot = d.boot ∧ (doDone cl t d).power = d.power ∧ (doDone cl t d).board = d.board ∧ (doDone cl t d).flash = d.flash ∧ (doDone cl t d).mail = d.mail ∧ (doDone cl t d).fuse = d.fuse := by unfold doDone; dsimp only; (repeat' split) <;> simp
/-- The components of a device that no event of a cluster changes. -/
def tileRest (d : Dev) : Clk × Wheel × Span × Fab × Tab Link × Grants × Tab Dma × Tab Bsu × Tab Timer × Boot × Power × Board × Flash × Mailbox × Fuse :=
  (d.clk, d.whl, d.span, d.fab, d.lnk, d.grants, d.dma, d.bsu, d.tmr, d.boot, d.power, d.board, d.flash, d.mail, d.fuse)

theorem doMicro_tileRest (cl : Nat) (t : Task) (o : Micro) (d : Dev) : tileRest (microDev (doMicro cl t o d)) = tileRest d := by
  cases o <;> simp only [doMicro, doRead, doWrite, doSget, doSput, doExam, doRequest] <;> (repeat' split) <;> simp [microDev, tileRest]

theorem runOps_tileRest (cl c : Nat) (sel : Micro → Bool) (os : List Micro) (t : Task) (d : Dev) : tileRest (runOps cl c sel os t d).2 = tileRest d := by
  induction os generalizing t d with
  | nil => rfl
  | cons o os ih =>
    simp only [runOps]
    have := doMicro_tileRest cl t o d
    split
    · split <;> rename_i e <;> rw [e] at this
      · exact (ih _ _).trans this
      · exact this
      · exact this
    · exact ih _ _

theorem runTasks_tileRest (cl c : Nat) (sel : Micro → Bool) (ts : List Task) (d : Dev) : tileRest (runTasks cl c sel ts d).2 = tileRest d := by
  induction ts generalizing d with
  | nil => rfl
  | cons t ts ih => exact (ih _).trans (runOps_tileRest cl c sel _ t d)

theorem phaseOps_tileRest (cl : Nat) (sel : Micro → Bool) (d : Dev) : tileRest (phaseOps cl sel d) = tileRest d := by
  unfold phaseOps; exact runTasks_tileRest cl _ sel _ d

@[simp] theorem phaseOps_frame (cl : Nat) (sel : Micro → Bool) (d : Dev) :
    (phaseOps cl sel d).clk = d.clk ∧ (phaseOps cl sel d).whl = d.whl ∧ (phaseOps cl sel d).span = d.span ∧ (phaseOps cl sel d).fab = d.fab ∧ (phaseOps cl sel d).lnk = d.lnk ∧ (phaseOps cl sel d).grants = d.grants ∧ (phaseOps cl sel d).dma = d.dma ∧ (phaseOps cl sel d).bsu = d.bsu ∧ (phaseOps cl sel d).tmr = d.tmr ∧ (phaseOps cl sel d).boot = d.boot ∧ (phaseOps cl sel d).power = d.power ∧ (phaseOps cl sel d).board = d.board ∧ (phaseOps cl sel d).flash = d.flash ∧ (phaseOps cl sel d).mail = d.mail ∧ (phaseOps cl sel d).fuse = d.fuse := by simpa [tileRest] using phaseOps_tileRest cl sel d
@[simp] theorem accessCycle_frame (cl : Nat) (d : Dev) :
    (accessCycle cl d).clk = d.clk ∧ (accessCycle cl d).whl = d.whl ∧ (accessCycle cl d).span = d.span ∧ (accessCycle cl d).fab = d.fab ∧ (accessCycle cl d).lnk = d.lnk ∧ (accessCycle cl d).grants = d.grants ∧ (accessCycle cl d).dma = d.dma ∧ (accessCycle cl d).bsu = d.bsu ∧ (accessCycle cl d).tmr = d.tmr ∧ (accessCycle cl d).boot = d.boot ∧ (accessCycle cl d).power = d.power ∧ (accessCycle cl d).board = d.board ∧ (accessCycle cl d).flash = d.flash ∧ (accessCycle cl d).mail = d.mail ∧ (accessCycle cl d).fuse = d.fuse := by unfold accessCycle; dsimp only; (repeat' split) <;> simp
@[simp] theorem beginCycle_frame (cl : Nat) (d : Dev) :
    (beginCycle cl d).clk = d.clk ∧ (beginCycle cl d).whl = d.whl ∧ (beginCycle cl d).span = d.span ∧ (beginCycle cl d).fab = d.fab ∧ (beginCycle cl d).lnk = d.lnk ∧ (beginCycle cl d).grants = d.grants ∧ (beginCycle cl d).dma = d.dma ∧ (beginCycle cl d).bsu = d.bsu ∧ (beginCycle cl d).tmr = d.tmr ∧ (beginCycle cl d).boot = d.boot ∧ (beginCycle cl d).power = d.power ∧ (beginCycle cl d).board = d.board ∧ (beginCycle cl d).flash = d.flash ∧ (beginCycle cl d).mail = d.mail ∧ (beginCycle cl d).fuse = d.fuse := by simp [beginCycle]
@[simp] theorem tickCluster_frame (cl : Nat) (d : Dev) :
    (tickCluster cl d).clk = d.clk ∧ (tickCluster cl d).whl = d.whl ∧ (tickCluster cl d).span = d.span ∧ (tickCluster cl d).fab = d.fab ∧ (tickCluster cl d).lnk = d.lnk ∧ (tickCluster cl d).grants = d.grants ∧ (tickCluster cl d).dma = d.dma ∧ (tickCluster cl d).bsu = d.bsu ∧ (tickCluster cl d).tmr = d.tmr ∧ (tickCluster cl d).boot = d.boot ∧ (tickCluster cl d).power = d.power ∧ (tickCluster cl d).board = d.board ∧ (tickCluster cl d).flash = d.flash ∧ (tickCluster cl d).mail = d.mail ∧ (tickCluster cl d).fuse = d.fuse := by simp [tickCluster]
@[simp] theorem issueCounts_frame (cl : Nat) (k : Cluster) (b : Bundle) (d : Dev) :
    (issueCounts cl k b d).clk = d.clk ∧ (issueCounts cl k b d).whl = d.whl ∧ (issueCounts cl k b d).span = d.span ∧ (issueCounts cl k b d).fab = d.fab ∧ (issueCounts cl k b d).lnk = d.lnk ∧ (issueCounts cl k b d).cl = d.cl ∧ (issueCounts cl k b d).grants = d.grants ∧ (issueCounts cl k b d).host = d.host ∧ (issueCounts cl k b d).dma = d.dma ∧ (issueCounts cl k b d).bsu = d.bsu ∧ (issueCounts cl k b d).tmr = d.tmr ∧ (issueCounts cl k b d).boot = d.boot ∧ (issueCounts cl k b d).power = d.power ∧ (issueCounts cl k b d).board = d.board ∧ (issueCounts cl k b d).flash = d.flash ∧ (issueCounts cl k b d).mail = d.mail ∧ (issueCounts cl k b d).fuse = d.fuse := by unfold issueCounts; (repeat' split) <;> simp
@[simp] theorem issueSlots_frame (cl : Nat) (b : Bundle) (d : Dev) :
    (issueSlots cl b d).clk = d.clk ∧ (issueSlots cl b d).whl = d.whl ∧ (issueSlots cl b d).span = d.span ∧ (issueSlots cl b d).fab = d.fab ∧ (issueSlots cl b d).lnk = d.lnk ∧ (issueSlots cl b d).grants = d.grants ∧ (issueSlots cl b d).host = d.host ∧ (issueSlots cl b d).dma = d.dma ∧ (issueSlots cl b d).bsu = d.bsu ∧ (issueSlots cl b d).tmr = d.tmr ∧ (issueSlots cl b d).boot = d.boot ∧ (issueSlots cl b d).power = d.power ∧ (issueSlots cl b d).board = d.board ∧ (issueSlots cl b d).flash = d.flash ∧ (issueSlots cl b d).mail = d.mail ∧ (issueSlots cl b d).fuse = d.fuse := by simp [issueSlots]
@[simp] theorem issueBundle_frame (cl : Nat) (b : Bundle) (d : Dev) :
    (issueBundle cl b d).clk = d.clk ∧ (issueBundle cl b d).whl = d.whl ∧ (issueBundle cl b d).span = d.span ∧ (issueBundle cl b d).fab = d.fab ∧ (issueBundle cl b d).lnk = d.lnk ∧ (issueBundle cl b d).grants = d.grants ∧ (issueBundle cl b d).dma = d.dma ∧ (issueBundle cl b d).bsu = d.bsu ∧ (issueBundle cl b d).tmr = d.tmr ∧ (issueBundle cl b d).boot = d.boot ∧ (issueBundle cl b d).power = d.power ∧ (issueBundle cl b d).board = d.board ∧ (issueBundle cl b d).flash = d.flash ∧ (issueBundle cl b d).mail = d.mail ∧ (issueBundle cl b d).fuse = d.fuse := by unfold issueBundle; (repeat' split) <;> simp
@[simp] theorem reachBundle_frame (cl : Nat) (b : Bundle) (d : Dev) :
    (reachBundle cl b d).clk = d.clk ∧ (reachBundle cl b d).whl = d.whl ∧ (reachBundle cl b d).span = d.span ∧ (reachBundle cl b d).fab = d.fab ∧ (reachBundle cl b d).lnk = d.lnk ∧ (reachBundle cl b d).grants = d.grants ∧ (reachBundle cl b d).dma = d.dma ∧ (reachBundle cl b d).bsu = d.bsu ∧ (reachBundle cl b d).tmr = d.tmr ∧ (reachBundle cl b d).boot = d.boot ∧ (reachBundle cl b d).power = d.power ∧ (reachBundle cl b d).board = d.board ∧ (reachBundle cl b d).flash = d.flash ∧ (reachBundle cl b d).mail = d.mail ∧ (reachBundle cl b d).fuse = d.fuse := by unfold reachBundle; dsimp only; (repeat' split) <;> simp
@[simp] theorem opBundleIssue_frame (cl : Nat) (third : Bool) (d : Dev) :
    (opBundleIssue cl third d).clk = d.clk ∧ (opBundleIssue cl third d).whl = d.whl ∧ (opBundleIssue cl third d).span = d.span ∧ (opBundleIssue cl third d).fab = d.fab ∧ (opBundleIssue cl third d).lnk = d.lnk ∧ (opBundleIssue cl third d).grants = d.grants ∧ (opBundleIssue cl third d).dma = d.dma ∧ (opBundleIssue cl third d).bsu = d.bsu ∧ (opBundleIssue cl third d).tmr = d.tmr ∧ (opBundleIssue cl third d).boot = d.boot ∧ (opBundleIssue cl third d).power = d.power ∧ (opBundleIssue cl third d).board = d.board ∧ (opBundleIssue cl third d).flash = d.flash ∧ (opBundleIssue cl third d).mail = d.mail ∧ (opBundleIssue cl third d).fuse = d.fuse := by unfold opBundleIssue; dsimp only; (repeat' split) <;> simp
@[simp] theorem runCycles_clk (cl n : Nat) (d : Dev) : (runCycles cl n d).clk = d.clk := by
  induction n generalizing d with
  | zero => rfl
  | succ n ih => exact (ih _).trans (by simp)
@[simp] theorem runCycles_whl (cl n : Nat) (d : Dev) : (runCycles cl n d).whl = d.whl := by
  induction n generalizing d with
  | zero => rfl
  | succ n ih => exact (ih _).trans (by simp)
@[simp] theorem runCycles_span (cl n : Nat) (d : Dev) : (runCycles cl n d).span = d.span := by
  induction n generalizing d with
  | zero => rfl
  | succ n ih => exact (ih _).trans (by simp)
@[simp] theorem runCycles_fab (cl n : Nat) (d : Dev) : (runCycles cl n d).fab = d.fab := by
  induction n generalizing d with
  | zero => rfl
  | succ n ih => exact (ih _).trans (by simp)
@[simp] theorem runCycles_lnk (cl n : Nat) (d : Dev) : (runCycles cl n d).lnk = d.lnk := by
  induction n generalizing d with
  | zero => rfl
  | succ n ih => exact (ih _).trans (by simp)
@[simp] theorem runCycles_grants (cl n : Nat) (d : Dev) : (runCycles cl n d).grants = d.grants := by
  induction n generalizing d with
  | zero => rfl
  | succ n ih => exact (ih _).trans (by simp)
@[simp] theorem runCycles_dma (cl n : Nat) (d : Dev) : (runCycles cl n d).dma = d.dma := by
  induction n generalizing d with
  | zero => rfl
  | succ n ih => exact (ih _).trans (by simp)
@[simp] theorem runCycles_bsu (cl n : Nat) (d : Dev) : (runCycles cl n d).bsu = d.bsu := by
  induction n generalizing d with
  | zero => rfl
  | succ n ih => exact (ih _).trans (by simp)
@[simp] theorem runCycles_tmr (cl n : Nat) (d : Dev) : (runCycles cl n d).tmr = d.tmr := by
  induction n generalizing d with
  | zero => rfl
  | succ n ih => exact (ih _).trans (by simp)
@[simp] theorem runCycles_boot (cl n : Nat) (d : Dev) : (runCycles cl n d).boot = d.boot := by
  induction n generalizing d with
  | zero => rfl
  | succ n ih => exact (ih _).trans (by simp)
@[simp] theorem runCycles_power (cl n : Nat) (d : Dev) : (runCycles cl n d).power = d.power := by
  induction n generalizing d with
  | zero => rfl
  | succ n ih => exact (ih _).trans (by simp)
@[simp] theorem runCycles_board (cl n : Nat) (d : Dev) : (runCycles cl n d).board = d.board := by
  induction n generalizing d with
  | zero => rfl
  | succ n ih => exact (ih _).trans (by simp)
@[simp] theorem runCycles_flash (cl n : Nat) (d : Dev) : (runCycles cl n d).flash = d.flash := by
  induction n generalizing d with
  | zero => rfl
  | succ n ih => exact (ih _).trans (by simp)
@[simp] theorem runCycles_mail (cl n : Nat) (d : Dev) : (runCycles cl n d).mail = d.mail := by
  induction n generalizing d with
  | zero => rfl
  | succ n ih => exact (ih _).trans (by simp)
@[simp] theorem runCycles_fuse (cl n : Nat) (d : Dev) : (runCycles cl n d).fuse = d.fuse := by
  induction n generalizing d with
  | zero => rfl
  | succ n ih => exact (ih _).trans (by simp)
@[simp] theorem opIssueOne_frame (cl : Nat) (b : Bundle) (d : Dev) :
    (opIssueOne cl b d).clk = d.clk ∧ (opIssueOne cl b d).whl = d.whl ∧ (opIssueOne cl b d).span = d.span ∧ (opIssueOne cl b d).fab = d.fab ∧ (opIssueOne cl b d).lnk = d.lnk ∧ (opIssueOne cl b d).grants = d.grants ∧ (opIssueOne cl b d).dma = d.dma ∧ (opIssueOne cl b d).bsu = d.bsu ∧ (opIssueOne cl b d).tmr = d.tmr ∧ (opIssueOne cl b d).boot = d.boot ∧ (opIssueOne cl b d).power = d.power ∧ (opIssueOne cl b d).board = d.board ∧ (opIssueOne cl b d).flash = d.flash ∧ (opIssueOne cl b d).mail = d.mail ∧ (opIssueOne cl b d).fuse = d.fuse := by unfold opIssueOne; (repeat' split) <;> simp
@[simp] theorem waitLoop_clk (cl n : Nat) (d : Dev) : (waitLoop cl n d).clk = d.clk := by
  induction n generalizing d with
  | zero => unfold waitLoop; dsimp only; (repeat' split) <;> simp
  | succ n ih =>
    unfold waitLoop; dsimp only
    have := ih (tickCluster cl d)
    (repeat' split) <;> simp [this]
@[simp] theorem waitLoop_whl (cl n : Nat) (d : Dev) : (waitLoop cl n d).whl = d.whl := by
  induction n generalizing d with
  | zero => unfold waitLoop; dsimp only; (repeat' split) <;> simp
  | succ n ih =>
    unfold waitLoop; dsimp only
    have := ih (tickCluster cl d)
    (repeat' split) <;> simp [this]
@[simp] theorem waitLoop_span (cl n : Nat) (d : Dev) : (waitLoop cl n d).span = d.span := by
  induction n generalizing d with
  | zero => unfold waitLoop; dsimp only; (repeat' split) <;> simp
  | succ n ih =>
    unfold waitLoop; dsimp only
    have := ih (tickCluster cl d)
    (repeat' split) <;> simp [this]
@[simp] theorem waitLoop_fab (cl n : Nat) (d : Dev) : (waitLoop cl n d).fab = d.fab := by
  induction n generalizing d with
  | zero => unfold waitLoop; dsimp only; (repeat' split) <;> simp
  | succ n ih =>
    unfold waitLoop; dsimp only
    have := ih (tickCluster cl d)
    (repeat' split) <;> simp [this]
@[simp] theorem waitLoop_lnk (cl n : Nat) (d : Dev) : (waitLoop cl n d).lnk = d.lnk := by
  induction n generalizing d with
  | zero => unfold waitLoop; dsimp only; (repeat' split) <;> simp
  | succ n ih =>
    unfold waitLoop; dsimp only
    have := ih (tickCluster cl d)
    (repeat' split) <;> simp [this]
@[simp] theorem waitLoop_grants (cl n : Nat) (d : Dev) : (waitLoop cl n d).grants = d.grants := by
  induction n generalizing d with
  | zero => unfold waitLoop; dsimp only; (repeat' split) <;> simp
  | succ n ih =>
    unfold waitLoop; dsimp only
    have := ih (tickCluster cl d)
    (repeat' split) <;> simp [this]
@[simp] theorem waitLoop_dma (cl n : Nat) (d : Dev) : (waitLoop cl n d).dma = d.dma := by
  induction n generalizing d with
  | zero => unfold waitLoop; dsimp only; (repeat' split) <;> simp
  | succ n ih =>
    unfold waitLoop; dsimp only
    have := ih (tickCluster cl d)
    (repeat' split) <;> simp [this]
@[simp] theorem waitLoop_bsu (cl n : Nat) (d : Dev) : (waitLoop cl n d).bsu = d.bsu := by
  induction n generalizing d with
  | zero => unfold waitLoop; dsimp only; (repeat' split) <;> simp
  | succ n ih =>
    unfold waitLoop; dsimp only
    have := ih (tickCluster cl d)
    (repeat' split) <;> simp [this]
@[simp] theorem waitLoop_tmr (cl n : Nat) (d : Dev) : (waitLoop cl n d).tmr = d.tmr := by
  induction n generalizing d with
  | zero => unfold waitLoop; dsimp only; (repeat' split) <;> simp
  | succ n ih =>
    unfold waitLoop; dsimp only
    have := ih (tickCluster cl d)
    (repeat' split) <;> simp [this]
@[simp] theorem waitLoop_boot (cl n : Nat) (d : Dev) : (waitLoop cl n d).boot = d.boot := by
  induction n generalizing d with
  | zero => unfold waitLoop; dsimp only; (repeat' split) <;> simp
  | succ n ih =>
    unfold waitLoop; dsimp only
    have := ih (tickCluster cl d)
    (repeat' split) <;> simp [this]
@[simp] theorem waitLoop_power (cl n : Nat) (d : Dev) : (waitLoop cl n d).power = d.power := by
  induction n generalizing d with
  | zero => unfold waitLoop; dsimp only; (repeat' split) <;> simp
  | succ n ih =>
    unfold waitLoop; dsimp only
    have := ih (tickCluster cl d)
    (repeat' split) <;> simp [this]
@[simp] theorem waitLoop_board (cl n : Nat) (d : Dev) : (waitLoop cl n d).board = d.board := by
  induction n generalizing d with
  | zero => unfold waitLoop; dsimp only; (repeat' split) <;> simp
  | succ n ih =>
    unfold waitLoop; dsimp only
    have := ih (tickCluster cl d)
    (repeat' split) <;> simp [this]
@[simp] theorem waitLoop_flash (cl n : Nat) (d : Dev) : (waitLoop cl n d).flash = d.flash := by
  induction n generalizing d with
  | zero => unfold waitLoop; dsimp only; (repeat' split) <;> simp
  | succ n ih =>
    unfold waitLoop; dsimp only
    have := ih (tickCluster cl d)
    (repeat' split) <;> simp [this]
@[simp] theorem waitLoop_mail (cl n : Nat) (d : Dev) : (waitLoop cl n d).mail = d.mail := by
  induction n generalizing d with
  | zero => unfold waitLoop; dsimp only; (repeat' split) <;> simp
  | succ n ih =>
    unfold waitLoop; dsimp only
    have := ih (tickCluster cl d)
    (repeat' split) <;> simp [this]
@[simp] theorem waitLoop_fuse (cl n : Nat) (d : Dev) : (waitLoop cl n d).fuse = d.fuse := by
  induction n generalizing d with
  | zero => unfold waitLoop; dsimp only; (repeat' split) <;> simp
  | succ n ih =>
    unfold waitLoop; dsimp only
    have := ih (tickCluster cl d)
    (repeat' split) <;> simp [this]
@[simp] theorem opWaittickRelease_frame (cl n : Nat) (third : Bool) (d : Dev) :
    (opWaittickRelease cl n third d).clk = d.clk ∧ (opWaittickRelease cl n third d).whl = d.whl ∧ (opWaittickRelease cl n third d).span = d.span ∧ (opWaittickRelease cl n third d).fab = d.fab ∧ (opWaittickRelease cl n third d).lnk = d.lnk ∧ (opWaittickRelease cl n third d).grants = d.grants ∧ (opWaittickRelease cl n third d).dma = d.dma ∧ (opWaittickRelease cl n third d).bsu = d.bsu ∧ (opWaittickRelease cl n third d).tmr = d.tmr ∧ (opWaittickRelease cl n third d).boot = d.boot ∧ (opWaittickRelease cl n third d).power = d.power ∧ (opWaittickRelease cl n third d).board = d.board ∧ (opWaittickRelease cl n third d).flash = d.flash ∧ (opWaittickRelease cl n third d).mail = d.mail ∧ (opWaittickRelease cl n third d).fuse = d.fuse := by unfold opWaittickRelease; (repeat' split) <;> simp
@[simp] theorem cycRelease_frame (cl till : Nat) (d : Dev) :
    (cycRelease cl till d).clk = d.clk ∧ (cycRelease cl till d).whl = d.whl ∧ (cycRelease cl till d).span = d.span ∧ (cycRelease cl till d).fab = d.fab ∧ (cycRelease cl till d).lnk = d.lnk ∧ (cycRelease cl till d).grants = d.grants ∧ (cycRelease cl till d).dma = d.dma ∧ (cycRelease cl till d).bsu = d.bsu ∧ (cycRelease cl till d).tmr = d.tmr ∧ (cycRelease cl till d).boot = d.boot ∧ (cycRelease cl till d).power = d.power ∧ (cycRelease cl till d).board = d.board ∧ (cycRelease cl till d).flash = d.flash ∧ (cycRelease cl till d).mail = d.mail ∧ (cycRelease cl till d).fuse = d.fuse := by unfold cycRelease; dsimp only; (repeat' split) <;> simp
@[simp] theorem opWaitcycRelease_frame (cl : Nat) (d : Dev) :
    (opWaitcycRelease cl d).clk = d.clk ∧ (opWaitcycRelease cl d).whl = d.whl ∧ (opWaitcycRelease cl d).span = d.span ∧ (opWaitcycRelease cl d).fab = d.fab ∧ (opWaitcycRelease cl d).lnk = d.lnk ∧ (opWaitcycRelease cl d).grants = d.grants ∧ (opWaitcycRelease cl d).dma = d.dma ∧ (opWaitcycRelease cl d).bsu = d.bsu ∧ (opWaitcycRelease cl d).tmr = d.tmr ∧ (opWaitcycRelease cl d).boot = d.boot ∧ (opWaitcycRelease cl d).power = d.power ∧ (opWaitcycRelease cl d).board = d.board ∧ (opWaitcycRelease cl d).flash = d.flash ∧ (opWaitcycRelease cl d).mail = d.mail ∧ (opWaitcycRelease cl d).fuse = d.fuse := by unfold opWaitcycRelease; (repeat' split) <;> simp
@[simp] theorem opPendingWriteEffect_frame (cl : Nat) (d : Dev) :
    (opPendingWriteEffect cl d).clk = d.clk ∧ (opPendingWriteEffect cl d).whl = d.whl ∧ (opPendingWriteEffect cl d).span = d.span ∧ (opPendingWriteEffect cl d).fab = d.fab ∧ (opPendingWriteEffect cl d).lnk = d.lnk ∧ (opPendingWriteEffect cl d).grants = d.grants ∧ (opPendingWriteEffect cl d).dma = d.dma ∧ (opPendingWriteEffect cl d).bsu = d.bsu ∧ (opPendingWriteEffect cl d).tmr = d.tmr ∧ (opPendingWriteEffect cl d).boot = d.boot ∧ (opPendingWriteEffect cl d).power = d.power ∧ (opPendingWriteEffect cl d).board = d.board ∧ (opPendingWriteEffect cl d).flash = d.flash ∧ (opPendingWriteEffect cl d).mail = d.mail ∧ (opPendingWriteEffect cl d).fuse = d.fuse := by unfold opPendingWriteEffect; dsimp only; (repeat' split) <;> simp

/-! ## Machine/Islands.lean -/

@[simp] theorem opPllLockConfirm_frame (p r : Nat) (d : Dev) :
    (opPllLockConfirm p r d).whl = d.whl ∧ (opPllLockConfirm p r d).span = d.span ∧ (opPllLockConfirm p r d).fab = d.fab ∧ (opPllLockConfirm p r d).lnk = d.lnk ∧ (opPllLockConfirm p r d).cl = d.cl ∧ (opPllLockConfirm p r d).ten = d.ten ∧ (opPllLockConfirm p r d).grants = d.grants ∧ (opPllLockConfirm p r d).host = d.host ∧ (opPllLockConfirm p r d).dma = d.dma ∧ (opPllLockConfirm p r d).bsu = d.bsu ∧ (opPllLockConfirm p r d).tmr = d.tmr ∧ (opPllLockConfirm p r d).boot = d.boot ∧ (opPllLockConfirm p r d).power = d.power ∧ (opPllLockConfirm p r d).board = d.board ∧ (opPllLockConfirm p r d).flash = d.flash ∧ (opPllLockConfirm p r d).mail = d.mail ∧ (opPllLockConfirm p r d).fuse = d.fuse := by unfold opPllLockConfirm; (repeat' split) <;> simp
@[simp] theorem opPllUngate_frame (p r : Nat) (d : Dev) :
    (opPllUngate p r d).whl = d.whl ∧ (opPllUngate p r d).span = d.span ∧ (opPllUngate p r d).fab = d.fab ∧ (opPllUngate p r d).lnk = d.lnk ∧ (opPllUngate p r d).cl = d.cl ∧ (opPllUngate p r d).ten = d.ten ∧ (opPllUngate p r d).grants = d.grants ∧ (opPllUngate p r d).host = d.host ∧ (opPllUngate p r d).dma = d.dma ∧ (opPllUngate p r d).bsu = d.bsu ∧ (opPllUngate p r d).tmr = d.tmr ∧ (opPllUngate p r d).boot = d.boot ∧ (opPllUngate p r d).power = d.power ∧ (opPllUngate p r d).board = d.board ∧ (opPllUngate p r d).flash = d.flash ∧ (opPllUngate p r d).mail = d.mail ∧ (opPllUngate p r d).fuse = d.fuse := by unfold opPllUngate; (repeat' split) <;> simp
@[simp] theorem opIslandOscStart_frame (i : Nat) (d : Dev) :
    (opIslandOscStart i d).whl = d.whl ∧ (opIslandOscStart i d).span = d.span ∧ (opIslandOscStart i d).fab = d.fab ∧ (opIslandOscStart i d).lnk = d.lnk ∧ (opIslandOscStart i d).cl = d.cl ∧ (opIslandOscStart i d).ten = d.ten ∧ (opIslandOscStart i d).grants = d.grants ∧ (opIslandOscStart i d).host = d.host ∧ (opIslandOscStart i d).dma = d.dma ∧ (opIslandOscStart i d).bsu = d.bsu ∧ (opIslandOscStart i d).tmr = d.tmr ∧ (opIslandOscStart i d).boot = d.boot ∧ (opIslandOscStart i d).power = d.power ∧ (opIslandOscStart i d).board = d.board ∧ (opIslandOscStart i d).flash = d.flash ∧ (opIslandOscStart i d).mail = d.mail ∧ (opIslandOscStart i d).fuse = d.fuse := by unfold opIslandOscStart; dsimp only; (repeat' split) <;> simp
@[simp] theorem opIslandSupplyGood_frame (i : Nat) (d : Dev) :
    (opIslandSupplyGood i d).whl = d.whl ∧ (opIslandSupplyGood i d).span = d.span ∧ (opIslandSupplyGood i d).fab = d.fab ∧ (opIslandSupplyGood i d).lnk = d.lnk ∧ (opIslandSupplyGood i d).cl = d.cl ∧ (opIslandSupplyGood i d).ten = d.ten ∧ (opIslandSupplyGood i d).grants = d.grants ∧ (opIslandSupplyGood i d).host = d.host ∧ (opIslandSupplyGood i d).dma = d.dma ∧ (opIslandSupplyGood i d).bsu = d.bsu ∧ (opIslandSupplyGood i d).tmr = d.tmr ∧ (opIslandSupplyGood i d).boot = d.boot ∧ (opIslandSupplyGood i d).power = d.power ∧ (opIslandSupplyGood i d).board = d.board ∧ (opIslandSupplyGood i d).flash = d.flash ∧ (opIslandSupplyGood i d).mail = d.mail ∧ (opIslandSupplyGood i d).fuse = d.fuse := by unfold opIslandSupplyGood; (repeat' split) <;> simp
@[simp] theorem opTrackingWindow_frame (i : Nat) (slow : Option Bool) (d : Dev) :
    (opTrackingWindow i slow d).whl = d.whl ∧ (opTrackingWindow i slow d).span = d.span ∧ (opTrackingWindow i slow d).fab = d.fab ∧ (opTrackingWindow i slow d).lnk = d.lnk ∧ (opTrackingWindow i slow d).cl = d.cl ∧ (opTrackingWindow i slow d).ten = d.ten ∧ (opTrackingWindow i slow d).grants = d.grants ∧ (opTrackingWindow i slow d).host = d.host ∧ (opTrackingWindow i slow d).dma = d.dma ∧ (opTrackingWindow i slow d).bsu = d.bsu ∧ (opTrackingWindow i slow d).tmr = d.tmr ∧ (opTrackingWindow i slow d).boot = d.boot ∧ (opTrackingWindow i slow d).power = d.power ∧ (opTrackingWindow i slow d).board = d.board ∧ (opTrackingWindow i slow d).flash = d.flash ∧ (opTrackingWindow i slow d).mail = d.mail ∧ (opTrackingWindow i slow d).fuse = d.fuse := by unfold opTrackingWindow; dsimp only; (repeat' split) <;> simp
@[simp] theorem opSlewStep_frame (i : Nat) (d : Dev) :
    (opSlewStep i d).whl = d.whl ∧ (opSlewStep i d).span = d.span ∧ (opSlewStep i d).fab = d.fab ∧ (opSlewStep i d).lnk = d.lnk ∧ (opSlewStep i d).cl = d.cl ∧ (opSlewStep i d).ten = d.ten ∧ (opSlewStep i d).grants = d.grants ∧ (opSlewStep i d).host = d.host ∧ (opSlewStep i d).dma = d.dma ∧ (opSlewStep i d).bsu = d.bsu ∧ (opSlewStep i d).tmr = d.tmr ∧ (opSlewStep i d).boot = d.boot ∧ (opSlewStep i d).power = d.power ∧ (opSlewStep i d).board = d.board ∧ (opSlewStep i d).flash = d.flash ∧ (opSlewStep i d).mail = d.mail ∧ (opSlewStep i d).fuse = d.fuse := by unfold opSlewStep; dsimp only; (repeat' split) <;> simp
@[simp] theorem opDroopStretch_frame (i n : Nat) (d : Dev) :
    (opDroopStretch i n d).whl = d.whl ∧ (opDroopStretch i n d).span = d.span ∧ (opDroopStretch i n d).fab = d.fab ∧ (opDroopStretch i n d).lnk = d.lnk ∧ (opDroopStretch i n d).cl = d.cl ∧ (opDroopStretch i n d).ten = d.ten ∧ (opDroopStretch i n d).grants = d.grants ∧ (opDroopStretch i n d).host = d.host ∧ (opDroopStretch i n d).dma = d.dma ∧ (opDroopStretch i n d).bsu = d.bsu ∧ (opDroopStretch i n d).tmr = d.tmr ∧ (opDroopStretch i n d).boot = d.boot ∧ (opDroopStretch i n d).power = d.power ∧ (opDroopStretch i n d).board = d.board ∧ (opDroopStretch i n d).flash = d.flash ∧ (opDroopStretch i n d).mail = d.mail ∧ (opDroopStretch i n d).fuse = d.fuse := by simp [opDroopStretch]
@[simp] theorem faultAll_frame (ts : List Nat) (code : Nat) (d : Dev) :
    (faultAll ts code d).clk = d.clk ∧ (faultAll ts code d).whl = d.whl ∧ (faultAll ts code d).span = d.span ∧ (faultAll ts code d).fab = d.fab ∧ (faultAll ts code d).lnk = d.lnk ∧ (faultAll ts code d).cl = d.cl ∧ (faultAll ts code d).grants = d.grants ∧ (faultAll ts code d).dma = d.dma ∧ (faultAll ts code d).bsu = d.bsu ∧ (faultAll ts code d).tmr = d.tmr ∧ (faultAll ts code d).boot = d.boot ∧ (faultAll ts code d).power = d.power ∧ (faultAll ts code d).board = d.board ∧ (faultAll ts code d).flash = d.flash ∧ (faultAll ts code d).mail = d.mail ∧ (faultAll ts code d).fuse = d.fuse := by simp [faultAll]
@[simp] theorem opDroopExcess_frame (i : Nat) (d : Dev) :
    (opDroopExcess i d).whl = d.whl ∧ (opDroopExcess i d).span = d.span ∧ (opDroopExcess i d).fab = d.fab ∧ (opDroopExcess i d).lnk = d.lnk ∧ (opDroopExcess i d).cl = d.cl ∧ (opDroopExcess i d).grants = d.grants ∧ (opDroopExcess i d).dma = d.dma ∧ (opDroopExcess i d).bsu = d.bsu ∧ (opDroopExcess i d).tmr = d.tmr ∧ (opDroopExcess i d).boot = d.boot ∧ (opDroopExcess i d).power = d.power ∧ (opDroopExcess i d).board = d.board ∧ (opDroopExcess i d).flash = d.flash ∧ (opDroopExcess i d).mail = d.mail ∧ (opDroopExcess i d).fuse = d.fuse := by unfold opDroopExcess; (repeat' split) <;> simp
@[simp] theorem opSetpointWrite_frame (fn i : Nat) (v : BitVec 32) (d : Dev) :
    (opSetpointWrite fn i v d).whl = d.whl ∧ (opSetpointWrite fn i v d).span = d.span ∧ (opSetpointWrite fn i v d).fab = d.fab ∧ (opSetpointWrite fn i v d).lnk = d.lnk ∧ (opSetpointWrite fn i v d).cl = d.cl ∧ (opSetpointWrite fn i v d).ten = d.ten ∧ (opSetpointWrite fn i v d).grants = d.grants ∧ (opSetpointWrite fn i v d).host = d.host ∧ (opSetpointWrite fn i v d).dma = d.dma ∧ (opSetpointWrite fn i v d).bsu = d.bsu ∧ (opSetpointWrite fn i v d).tmr = d.tmr ∧ (opSetpointWrite fn i v d).boot = d.boot ∧ (opSetpointWrite fn i v d).power = d.power ∧ (opSetpointWrite fn i v d).board = d.board ∧ (opSetpointWrite fn i v d).flash = d.flash ∧ (opSetpointWrite fn i v d).mail = d.mail ∧ (opSetpointWrite fn i v d).fuse = d.fuse := by unfold opSetpointWrite; dsimp only; (repeat' split) <;> simp
@[simp] theorem opDroopFlagClear_frame (fn : Nat) (mask present : BitVec 32) (d : Dev) :
    (opDroopFlagClear fn mask present d).whl = d.whl ∧ (opDroopFlagClear fn mask present d).span = d.span ∧ (opDroopFlagClear fn mask present d).fab = d.fab ∧ (opDroopFlagClear fn mask present d).lnk = d.lnk ∧ (opDroopFlagClear fn mask present d).cl = d.cl ∧ (opDroopFlagClear fn mask present d).ten = d.ten ∧ (opDroopFlagClear fn mask present d).grants = d.grants ∧ (opDroopFlagClear fn mask present d).host = d.host ∧ (opDroopFlagClear fn mask present d).dma = d.dma ∧ (opDroopFlagClear fn mask present d).bsu = d.bsu ∧ (opDroopFlagClear fn mask present d).tmr = d.tmr ∧ (opDroopFlagClear fn mask present d).boot = d.boot ∧ (opDroopFlagClear fn mask present d).power = d.power ∧ (opDroopFlagClear fn mask present d).board = d.board ∧ (opDroopFlagClear fn mask present d).flash = d.flash ∧ (opDroopFlagClear fn mask present d).mail = d.mail ∧ (opDroopFlagClear fn mask present d).fuse = d.fuse := by unfold opDroopFlagClear; (try dsimp only); (repeat' split) <;> simp [apply_ite Dev.whl, apply_ite Dev.span, apply_ite Dev.fab, apply_ite Dev.lnk, apply_ite Dev.cl, apply_ite Dev.ten, apply_ite Dev.grants, apply_ite Dev.host, apply_ite Dev.dma, apply_ite Dev.bsu, apply_ite Dev.tmr, apply_ite Dev.boot, apply_ite Dev.power, apply_ite Dev.board, apply_ite Dev.flash, apply_ite Dev.mail, apply_ite Dev.fuse]

/-! ## Machine/Fabric.lean -/

@[simp] theorem clCtr_frame (c : Nat) (f : FabCtr → FabCtr) (d : Dev) :
    (clCtr c f d).clk = d.clk ∧ (clCtr c f d).whl = d.whl ∧ (clCtr c f d).span = d.span ∧ (clCtr c f d).lnk = d.lnk ∧ (clCtr c f d).cl = d.cl ∧ (clCtr c f d).ten = d.ten ∧ (clCtr c f d).grants = d.grants ∧ (clCtr c f d).host = d.host ∧ (clCtr c f d).dma = d.dma ∧ (clCtr c f d).bsu = d.bsu ∧ (clCtr c f d).tmr = d.tmr ∧ (clCtr c f d).boot = d.boot ∧ (clCtr c f d).power = d.power ∧ (clCtr c f d).board = d.board ∧ (clCtr c f d).flash = d.flash ∧ (clCtr c f d).mail = d.mail ∧ (clCtr c f d).fuse = d.fuse := by simp [clCtr]
@[simp] theorem portCtr_frame (i p : Nat) (f : FabCtr → FabCtr) (d : Dev) :
    (portCtr i p f d).clk = d.clk ∧ (portCtr i p f d).whl = d.whl ∧ (portCtr i p f d).span = d.span ∧ (portCtr i p f d).lnk = d.lnk ∧ (portCtr i p f d).cl = d.cl ∧ (portCtr i p f d).ten = d.ten ∧ (portCtr i p f d).grants = d.grants ∧ (portCtr i p f d).host = d.host ∧ (portCtr i p f d).dma = d.dma ∧ (portCtr i p f d).bsu = d.bsu ∧ (portCtr i p f d).tmr = d.tmr ∧ (portCtr i p f d).boot = d.boot ∧ (portCtr i p f d).power = d.power ∧ (portCtr i p f d).board = d.board ∧ (portCtr i p f d).flash = d.flash ∧ (portCtr i p f d).mail = d.mail ∧ (portCtr i p f d).fuse = d.fuse := by simp [portCtr]
@[simp] theorem ctrAt_frame (i p : Nat) (f : FabCtr → FabCtr) (d : Dev) :
    (ctrAt i p f d).clk = d.clk ∧ (ctrAt i p f d).whl = d.whl ∧ (ctrAt i p f d).span = d.span ∧ (ctrAt i p f d).lnk = d.lnk ∧ (ctrAt i p f d).cl = d.cl ∧ (ctrAt i p f d).ten = d.ten ∧ (ctrAt i p f d).grants = d.grants ∧ (ctrAt i p f d).host = d.host ∧ (ctrAt i p f d).dma = d.dma ∧ (ctrAt i p f d).bsu = d.bsu ∧ (ctrAt i p f d).tmr = d.tmr ∧ (ctrAt i p f d).boot = d.boot ∧ (ctrAt i p f d).power = d.power ∧ (ctrAt i p f d).board = d.board ∧ (ctrAt i p f d).flash = d.flash ∧ (ctrAt i p f d).mail = d.mail ∧ (ctrAt i p f d).fuse = d.fuse := by unfold ctrAt; (repeat' split) <;> simp
@[simp] theorem addFlight_frame (x : Flight) (d : Dev) :
    (addFlight x d).clk = d.clk ∧ (addFlight x d).whl = d.whl ∧ (addFlight x d).span = d.span ∧ (addFlight x d).lnk = d.lnk ∧ (addFlight x d).cl = d.cl ∧ (addFlight x d).ten = d.ten ∧ (addFlight x d).grants = d.grants ∧ (addFlight x d).host = d.host ∧ (addFlight x d).dma = d.dma ∧ (addFlight x d).bsu = d.bsu ∧ (addFlight x d).tmr = d.tmr ∧ (addFlight x d).boot = d.boot ∧ (addFlight x d).power = d.power ∧ (addFlight x d).board = d.board ∧ (addFlight x d).flash = d.flash ∧ (addFlight x d).mail = d.mail ∧ (addFlight x d).fuse = d.fuse := by simp [addFlight]
@[simp] theorem takeFlight_frame (dst : Dest) (t : Nat) (d : Dev) :
    (takeFlight dst t d).2.clk = d.clk ∧ (takeFlight dst t d).2.whl = d.whl ∧ (takeFlight dst t d).2.span = d.span ∧ (takeFlight dst t d).2.lnk = d.lnk ∧ (takeFlight dst t d).2.cl = d.cl ∧ (takeFlight dst t d).2.ten = d.ten ∧ (takeFlight dst t d).2.grants = d.grants ∧ (takeFlight dst t d).2.host = d.host ∧ (takeFlight dst t d).2.dma = d.dma ∧ (takeFlight dst t d).2.bsu = d.bsu ∧ (takeFlight dst t d).2.tmr = d.tmr ∧ (takeFlight dst t d).2.boot = d.boot ∧ (takeFlight dst t d).2.power = d.power ∧ (takeFlight dst t d).2.board = d.board ∧ (takeFlight dst t d).2.flash = d.flash ∧ (takeFlight dst t d).2.mail = d.mail ∧ (takeFlight dst t d).2.fuse = d.fuse := by simp [takeFlight]
@[simp] theorem tableRead_frame (addr unit : Nat) (d : Dev) :
    (tableRead addr unit d).2.clk = d.clk ∧ (tableRead addr unit d).2.whl = d.whl ∧ (tableRead addr unit d).2.span = d.span ∧ (tableRead addr unit d).2.lnk = d.lnk ∧ (tableRead addr unit d).2.cl = d.cl ∧ (tableRead addr unit d).2.ten = d.ten ∧ (tableRead addr unit d).2.grants = d.grants ∧ (tableRead addr unit d).2.host = d.host ∧ (tableRead addr unit d).2.dma = d.dma ∧ (tableRead addr unit d).2.bsu = d.bsu ∧ (tableRead addr unit d).2.tmr = d.tmr ∧ (tableRead addr unit d).2.boot = d.boot ∧ (tableRead addr unit d).2.power = d.power ∧ (tableRead addr unit d).2.board = d.board ∧ (tableRead addr unit d).2.flash = d.flash ∧ (tableRead addr unit d).2.mail = d.mail ∧ (tableRead addr unit d).2.fuse = d.fuse := by unfold tableRead; (repeat' split) <;> simp
@[simp] theorem faultOwner_frame (owner code : Nat) (d : Dev) :
    (faultOwner owner code d).clk = d.clk ∧ (faultOwner owner code d).whl = d.whl ∧ (faultOwner owner code d).span = d.span ∧ (faultOwner owner code d).fab = d.fab ∧ (faultOwner owner code d).lnk = d.lnk ∧ (faultOwner owner code d).cl = d.cl ∧ (faultOwner owner code d).grants = d.grants ∧ (faultOwner owner code d).dma = d.dma ∧ (faultOwner owner code d).bsu = d.bsu ∧ (faultOwner owner code d).tmr = d.tmr ∧ (faultOwner owner code d).boot = d.boot ∧ (faultOwner owner code d).power = d.power ∧ (faultOwner owner code d).board = d.board ∧ (faultOwner owner code d).flash = d.flash ∧ (faultOwner owner code d).mail = d.mail ∧ (faultOwner owner code d).fuse = d.fuse := by unfold faultOwner; (repeat' split) <;> simp
@[simp] theorem tableUse_frame (addr unit owner : Nat) (d : Dev) :
    (tableUse addr unit owner d).2.clk = d.clk ∧ (tableUse addr unit owner d).2.whl = d.whl ∧ (tableUse addr unit owner d).2.span = d.span ∧ (tableUse addr unit owner d).2.lnk = d.lnk ∧ (tableUse addr unit owner d).2.cl = d.cl ∧ (tableUse addr unit owner d).2.grants = d.grants ∧ (tableUse addr unit owner d).2.dma = d.dma ∧ (tableUse addr unit owner d).2.bsu = d.bsu ∧ (tableUse addr unit owner d).2.tmr = d.tmr ∧ (tableUse addr unit owner d).2.boot = d.boot ∧ (tableUse addr unit owner d).2.power = d.power ∧ (tableUse addr unit owner d).2.board = d.board ∧ (tableUse addr unit owner d).2.flash = d.flash ∧ (tableUse addr unit owner d).2.mail = d.mail ∧ (tableUse addr unit owner d).2.fuse = d.fuse := by unfold tableUse; dsimp only; (repeat' split) <;> simp
@[simp] theorem sendCopy_frame (i p t : Nat) (f : Flit) (d : Dev) :
    (sendCopy i p t f d).clk = d.clk ∧ (sendCopy i p t f d).whl = d.whl ∧ (sendCopy i p t f d).span = d.span ∧ (sendCopy i p t f d).lnk = d.lnk ∧ (sendCopy i p t f d).cl = d.cl ∧ (sendCopy i p t f d).ten = d.ten ∧ (sendCopy i p t f d).grants = d.grants ∧ (sendCopy i p t f d).host = d.host ∧ (sendCopy i p t f d).dma = d.dma ∧ (sendCopy i p t f d).bsu = d.bsu ∧ (sendCopy i p t f d).tmr = d.tmr ∧ (sendCopy i p t f d).boot = d.boot ∧ (sendCopy i p t f d).power = d.power ∧ (sendCopy i p t f d).board = d.board ∧ (sendCopy i p t f d).flash = d.flash ∧ (sendCopy i p t f d).mail = d.mail ∧ (sendCopy i p t f d).fuse = d.fuse := by unfold sendCopy; (repeat' split) <;> simp
@[simp] theorem applyWord_frame (i t owner : Nat) (w : W64) (d : Dev) :
    (applyWord i t owner w d).clk = d.clk ∧ (applyWord i t owner w d).whl = d.whl ∧ (applyWord i t owner w d).span = d.span ∧ (applyWord i t owner w d).lnk = d.lnk ∧ (applyWord i t owner w d).cl = d.cl ∧ (applyWord i t owner w d).ten = d.ten ∧ (applyWord i t owner w d).grants = d.grants ∧ (applyWord i t owner w d).host = d.host ∧ (applyWord i t owner w d).dma = d.dma ∧ (applyWord i t owner w d).bsu = d.bsu ∧ (applyWord i t owner w d).tmr = d.tmr ∧ (applyWord i t owner w d).boot = d.boot ∧ (applyWord i t owner w d).power = d.power ∧ (applyWord i t owner w d).board = d.board ∧ (applyWord i t owner w d).flash = d.flash ∧ (applyWord i t owner w d).mail = d.mail ∧ (applyWord i t owner w d).fuse = d.fuse := by unfold applyWord; dsimp only; (repeat' split) <;> simp
@[simp] theorem segmentWords_clk (i k p : Nat) (d : Dev) : (segmentWords i k p d).2.clk = d.clk :=
  segmentWords_keeps _ i k p d fun _ _ _ _ => by simp
@[simp] theorem segmentWords_whl (i k p : Nat) (d : Dev) : (segmentWords i k p d).2.whl = d.whl :=
  segmentWords_keeps _ i k p d fun _ _ _ _ => by simp
@[simp] theorem segmentWords_span (i k p : Nat) (d : Dev) : (segmentWords i k p d).2.span = d.span :=
  segmentWords_keeps _ i k p d fun _ _ _ _ => by simp
@[simp] theorem segmentWords_lnk (i k p : Nat) (d : Dev) : (segmentWords i k p d).2.lnk = d.lnk :=
  segmentWords_keeps _ i k p d fun _ _ _ _ => by simp
@[simp] theorem segmentWords_cl (i k p : Nat) (d : Dev) : (segmentWords i k p d).2.cl = d.cl :=
  segmentWords_keeps _ i k p d fun _ _ _ _ => by simp
@[simp] theorem segmentWords_grants (i k p : Nat) (d : Dev) : (segmentWords i k p d).2.grants = d.grants :=
  segmentWords_keeps _ i k p d fun _ _ _ _ => by simp
@[simp] theorem segmentWords_dma (i k p : Nat) (d : Dev) : (segmentWords i k p d).2.dma = d.dma :=
  segmentWords_keeps _ i k p d fun _ _ _ _ => by simp
@[simp] theorem segmentWords_bsu (i k p : Nat) (d : Dev) : (segmentWords i k p d).2.bsu = d.bsu :=
  segmentWords_keeps _ i k p d fun _ _ _ _ => by simp
@[simp] theorem segmentWords_tmr (i k p : Nat) (d : Dev) : (segmentWords i k p d).2.tmr = d.tmr :=
  segmentWords_keeps _ i k p d fun _ _ _ _ => by simp
@[simp] theorem segmentWords_boot (i k p : Nat) (d : Dev) : (segmentWords i k p d).2.boot = d.boot :=
  segmentWords_keeps _ i k p d fun _ _ _ _ => by simp
@[simp] theorem segmentWords_power (i k p : Nat) (d : Dev) : (segmentWords i k p d).2.power = d.power :=
  segmentWords_keeps _ i k p d fun _ _ _ _ => by simp
@[simp] theorem segmentWords_board (i k p : Nat) (d : Dev) : (segmentWords i k p d).2.board = d.board :=
  segmentWords_keeps _ i k p d fun _ _ _ _ => by simp
@[simp] theorem segmentWords_flash (i k p : Nat) (d : Dev) : (segmentWords i k p d).2.flash = d.flash :=
  segmentWords_keeps _ i k p d fun _ _ _ _ => by simp
@[simp] theorem segmentWords_mail (i k p : Nat) (d : Dev) : (segmentWords i k p d).2.mail = d.mail :=
  segmentWords_keeps _ i k p d fun _ _ _ _ => by simp
@[simp] theorem segmentWords_fuse (i k p : Nat) (d : Dev) : (segmentWords i k p d).2.fuse = d.fuse :=
  segmentWords_keeps _ i k p d fun _ _ _ _ => by simp
@[simp] theorem activeWords_clk (i k : Nat) (d : Dev) : (activeWords i k d).2.clk = d.clk :=
  activeWords_keeps _ i k d fun _ _ _ _ => by simp
@[simp] theorem activeWords_whl (i k : Nat) (d : Dev) : (activeWords i k d).2.whl = d.whl :=
  activeWords_keeps _ i k d fun _ _ _ _ => by simp
@[simp] theorem activeWords_span (i k : Nat) (d : Dev) : (activeWords i k d).2.span = d.span :=
  activeWords_keeps _ i k d fun _ _ _ _ => by simp
@[simp] theorem activeWords_lnk (i k : Nat) (d : Dev) : (activeWords i k d).2.lnk = d.lnk :=
  activeWords_keeps _ i k d fun _ _ _ _ => by simp
@[simp] theorem activeWords_cl (i k : Nat) (d : Dev) : (activeWords i k d).2.cl = d.cl :=
  activeWords_keeps _ i k d fun _ _ _ _ => by simp
@[simp] theorem activeWords_grants (i k : Nat) (d : Dev) : (activeWords i k d).2.grants = d.grants :=
  activeWords_keeps _ i k d fun _ _ _ _ => by simp
@[simp] theorem activeWords_dma (i k : Nat) (d : Dev) : (activeWords i k d).2.dma = d.dma :=
  activeWords_keeps _ i k d fun _ _ _ _ => by simp
@[simp] theorem activeWords_bsu (i k : Nat) (d : Dev) : (activeWords i k d).2.bsu = d.bsu :=
  activeWords_keeps _ i k d fun _ _ _ _ => by simp
@[simp] theorem activeWords_tmr (i k : Nat) (d : Dev) : (activeWords i k d).2.tmr = d.tmr :=
  activeWords_keeps _ i k d fun _ _ _ _ => by simp
@[simp] theorem activeWords_boot (i k : Nat) (d : Dev) : (activeWords i k d).2.boot = d.boot :=
  activeWords_keeps _ i k d fun _ _ _ _ => by simp
@[simp] theorem activeWords_power (i k : Nat) (d : Dev) : (activeWords i k d).2.power = d.power :=
  activeWords_keeps _ i k d fun _ _ _ _ => by simp
@[simp] theorem activeWords_board (i k : Nat) (d : Dev) : (activeWords i k d).2.board = d.board :=
  activeWords_keeps _ i k d fun _ _ _ _ => by simp
@[simp] theorem activeWords_flash (i k : Nat) (d : Dev) : (activeWords i k d).2.flash = d.flash :=
  activeWords_keeps _ i k d fun _ _ _ _ => by simp
@[simp] theorem activeWords_mail (i k : Nat) (d : Dev) : (activeWords i k d).2.mail = d.mail :=
  activeWords_keeps _ i k d fun _ _ _ _ => by simp
@[simp] theorem activeWords_fuse (i k : Nat) (d : Dev) : (activeWords i k d).2.fuse = d.fuse :=
  activeWords_keeps _ i k d fun _ _ _ _ => by simp
@[simp] theorem dropUnrouted_clk (i t : Nat) (d : Dev) : (dropUnrouted i t d).clk = d.clk := by
  unfold dropUnrouted
  exact (foldl_clk _ (fun a x => by split <;> simp) _ _).trans rfl
@[simp] theorem dropUnrouted_whl (i t : Nat) (d : Dev) : (dropUnrouted i t d).whl = d.whl := by
  unfold dropUnrouted
  exact (foldl_whl _ (fun a x => by split <;> simp) _ _).trans rfl
@[simp] theorem dropUnrouted_span (i t : Nat) (d : Dev) : (dropUnrouted i t d).span = d.span := by
  unfold dropUnrouted
  exact (foldl_span _ (fun a x => by split <;> simp) _ _).trans rfl
@[simp] theorem dropUnrouted_lnk (i t : Nat) (d : Dev) : (dropUnrouted i t d).lnk = d.lnk := by
  unfold dropUnrouted
  exact (foldl_lnk _ (fun a x => by split <;> simp) _ _).trans rfl
@[simp] theorem dropUnrouted_cl (i t : Nat) (d : Dev) : (dropUnrouted i t d).cl = d.cl := by
  unfold dropUnrouted
  exact (foldl_cl _ (fun a x => by split <;> simp) _ _).trans rfl
@[simp] theorem dropUnrouted_ten (i t : Nat) (d : Dev) : (dropUnrouted i t d).ten = d.ten := by
  unfold dropUnrouted
  exact (foldl_ten _ (fun a x => by split <;> simp) _ _).trans rfl
@[simp] theorem dropUnrouted_grants (i t : Nat) (d : Dev) : (dropUnrouted i t d).grants = d.grants := by
  unfold dropUnrouted
  exact (foldl_grants _ (fun a x => by split <;> simp) _ _).trans rfl
@[simp] theorem dropUnrouted_host (i t : Nat) (d : Dev) : (dropUnrouted i t d).host = d.host := by
  unfold dropUnrouted
  exact (foldl_host _ (fun a x => by split <;> simp) _ _).trans rfl
@[simp] theorem dropUnrouted_dma (i t : Nat) (d : Dev) : (dropUnrouted i t d).dma = d.dma := by
  unfold dropUnrouted
  exact (foldl_dma _ (fun a x => by split <;> simp) _ _).trans rfl
@[simp] theorem dropUnrouted_bsu (i t : Nat) (d : Dev) : (dropUnrouted i t d).bsu = d.bsu := by
  unfold dropUnrouted
  exact (foldl_bsu _ (fun a x => by split <;> simp) _ _).trans rfl
@[simp] theorem dropUnrouted_tmr (i t : Nat) (d : Dev) : (dropUnrouted i t d).tmr = d.tmr := by
  unfold dropUnrouted
  exact (foldl_tmr _ (fun a x => by split <;> simp) _ _).trans rfl
@[simp] theorem dropUnrouted_boot (i t : Nat) (d : Dev) : (dropUnrouted i t d).boot = d.boot := by
  unfold dropUnrouted
  exact (foldl_boot _ (fun a x => by split <;> simp) _ _).trans rfl
@[simp] theorem dropUnrouted_power (i t : Nat) (d : Dev) : (dropUnrouted i t d).power = d.power := by
  unfold dropUnrouted
  exact (foldl_power _ (fun a x => by split <;> simp) _ _).trans rfl
@[simp] theorem dropUnrouted_board (i t : Nat) (d : Dev) : (dropUnrouted i t d).board = d.board := by
  unfold dropUnrouted
  exact (foldl_board _ (fun a x => by split <;> simp) _ _).trans rfl
@[simp] theorem dropUnrouted_flash (i t : Nat) (d : Dev) : (dropUnrouted i t d).flash = d.flash := by
  unfold dropUnrouted
  exact (foldl_flash _ (fun a x => by split <;> simp) _ _).trans rfl
@[simp] theorem dropUnrouted_mail (i t : Nat) (d : Dev) : (dropUnrouted i t d).mail = d.mail := by
  unfold dropUnrouted
  exact (foldl_mail _ (fun a x => by split <;> simp) _ _).trans rfl
@[simp] theorem dropUnrouted_fuse (i t : Nat) (d : Dev) : (dropUnrouted i t d).fuse = d.fuse := by
  unfold dropUnrouted
  exact (foldl_fuse _ (fun a x => by split <;> simp) _ _).trans rfl
@[simp] theorem countEcc_clk (o : EccOut) (count : (FabCtr → FabCtr) → Dev → Dev) (d : Dev)
    (h : ∀ g a, (count g a).clk = a.clk) : (countEcc o count d).clk = d.clk := by
  unfold countEcc; split <;> simp [h]
@[simp] theorem countEcc_whl (o : EccOut) (count : (FabCtr → FabCtr) → Dev → Dev) (d : Dev)
    (h : ∀ g a, (count g a).whl = a.whl) : (countEcc o count d).whl = d.whl := by
  unfold countEcc; split <;> simp [h]
@[simp] theorem countEcc_span (o : EccOut) (count : (FabCtr → FabCtr) → Dev → Dev) (d : Dev)
    (h : ∀ g a, (count g a).span = a.span) : (countEcc o count d).span = d.span := by
  unfold countEcc; split <;> simp [h]
@[simp] theorem countEcc_fab (o : EccOut) (count : (FabCtr → FabCtr) → Dev → Dev) (d : Dev)
    (h : ∀ g a, (count g a).fab = a.fab) : (countEcc o count d).fab = d.fab := by
  unfold countEcc; split <;> simp [h]
@[simp] theorem countEcc_lnk (o : EccOut) (count : (FabCtr → FabCtr) → Dev → Dev) (d : Dev)
    (h : ∀ g a, (count g a).lnk = a.lnk) : (countEcc o count d).lnk = d.lnk := by
  unfold countEcc; split <;> simp [h]
@[simp] theorem countEcc_cl (o : EccOut) (count : (FabCtr → FabCtr) → Dev → Dev) (d : Dev)
    (h : ∀ g a, (count g a).cl = a.cl) : (countEcc o count d).cl = d.cl := by
  unfold countEcc; split <;> simp [h]
@[simp] theorem countEcc_ten (o : EccOut) (count : (FabCtr → FabCtr) → Dev → Dev) (d : Dev)
    (h : ∀ g a, (count g a).ten = a.ten) : (countEcc o count d).ten = d.ten := by
  unfold countEcc; split <;> simp [h]
@[simp] theorem countEcc_grants (o : EccOut) (count : (FabCtr → FabCtr) → Dev → Dev) (d : Dev)
    (h : ∀ g a, (count g a).grants = a.grants) : (countEcc o count d).grants = d.grants := by
  unfold countEcc; split <;> simp [h]
@[simp] theorem countEcc_host (o : EccOut) (count : (FabCtr → FabCtr) → Dev → Dev) (d : Dev)
    (h : ∀ g a, (count g a).host = a.host) : (countEcc o count d).host = d.host := by
  unfold countEcc; split <;> simp [h]
@[simp] theorem countEcc_dma (o : EccOut) (count : (FabCtr → FabCtr) → Dev → Dev) (d : Dev)
    (h : ∀ g a, (count g a).dma = a.dma) : (countEcc o count d).dma = d.dma := by
  unfold countEcc; split <;> simp [h]
@[simp] theorem countEcc_bsu (o : EccOut) (count : (FabCtr → FabCtr) → Dev → Dev) (d : Dev)
    (h : ∀ g a, (count g a).bsu = a.bsu) : (countEcc o count d).bsu = d.bsu := by
  unfold countEcc; split <;> simp [h]
@[simp] theorem countEcc_tmr (o : EccOut) (count : (FabCtr → FabCtr) → Dev → Dev) (d : Dev)
    (h : ∀ g a, (count g a).tmr = a.tmr) : (countEcc o count d).tmr = d.tmr := by
  unfold countEcc; split <;> simp [h]
@[simp] theorem countEcc_boot (o : EccOut) (count : (FabCtr → FabCtr) → Dev → Dev) (d : Dev)
    (h : ∀ g a, (count g a).boot = a.boot) : (countEcc o count d).boot = d.boot := by
  unfold countEcc; split <;> simp [h]
@[simp] theorem countEcc_power (o : EccOut) (count : (FabCtr → FabCtr) → Dev → Dev) (d : Dev)
    (h : ∀ g a, (count g a).power = a.power) : (countEcc o count d).power = d.power := by
  unfold countEcc; split <;> simp [h]
@[simp] theorem countEcc_board (o : EccOut) (count : (FabCtr → FabCtr) → Dev → Dev) (d : Dev)
    (h : ∀ g a, (count g a).board = a.board) : (countEcc o count d).board = d.board := by
  unfold countEcc; split <;> simp [h]
@[simp] theorem countEcc_flash (o : EccOut) (count : (FabCtr → FabCtr) → Dev → Dev) (d : Dev)
    (h : ∀ g a, (count g a).flash = a.flash) : (countEcc o count d).flash = d.flash := by
  unfold countEcc; split <;> simp [h]
@[simp] theorem countEcc_mail (o : EccOut) (count : (FabCtr → FabCtr) → Dev → Dev) (d : Dev)
    (h : ∀ g a, (count g a).mail = a.mail) : (countEcc o count d).mail = d.mail := by
  unfold countEcc; split <;> simp [h]
@[simp] theorem countEcc_fuse (o : EccOut) (count : (FabCtr → FabCtr) → Dev → Dev) (d : Dev)
    (h : ∀ g a, (count g a).fuse = a.fuse) : (countEcc o count d).fuse = d.fuse := by
  unfold countEcc; split <;> simp [h]
@[simp] theorem controlPort_frame (i t : Nat) (d : Dev) :
    (controlPort i t d).clk = d.clk ∧ (controlPort i t d).whl = d.whl ∧ (controlPort i t d).span = d.span ∧ (controlPort i t d).lnk = d.lnk ∧ (controlPort i t d).cl = d.cl ∧ (controlPort i t d).ten = d.ten ∧ (controlPort i t d).grants = d.grants ∧ (controlPort i t d).host = d.host ∧ (controlPort i t d).dma = d.dma ∧ (controlPort i t d).bsu = d.bsu ∧ (controlPort i t d).tmr = d.tmr ∧ (controlPort i t d).boot = d.boot ∧ (controlPort i t d).power = d.power ∧ (controlPort i t d).board = d.board ∧ (controlPort i t d).flash = d.flash ∧ (controlPort i t d).mail = d.mail ∧ (controlPort i t d).fuse = d.fuse := by simp [controlPort]
@[simp] theorem opSwitchTick_frame (i t : Nat) (d : Dev) :
    (opSwitchTick i t d).clk = d.clk ∧ (opSwitchTick i t d).span = d.span ∧ (opSwitchTick i t d).lnk = d.lnk ∧ (opSwitchTick i t d).cl = d.cl ∧ (opSwitchTick i t d).grants = d.grants ∧ (opSwitchTick i t d).dma = d.dma ∧ (opSwitchTick i t d).bsu = d.bsu ∧ (opSwitchTick i t d).tmr = d.tmr ∧ (opSwitchTick i t d).boot = d.boot ∧ (opSwitchTick i t d).power = d.power ∧ (opSwitchTick i t d).board = d.board ∧ (opSwitchTick i t d).flash = d.flash ∧ (opSwitchTick i t d).mail = d.mail ∧ (opSwitchTick i t d).fuse = d.fuse := by unfold opSwitchTick; dsimp only; (repeat' split) <;> simp
@[simp] theorem freeSlot_frame (cl ls : Nat) (d : Dev) :
    (freeSlot cl ls d).clk = d.clk ∧ (freeSlot cl ls d).whl = d.whl ∧ (freeSlot cl ls d).span = d.span ∧ (freeSlot cl ls d).fab = d.fab ∧ (freeSlot cl ls d).lnk = d.lnk ∧ (freeSlot cl ls d).ten = d.ten ∧ (freeSlot cl ls d).grants = d.grants ∧ (freeSlot cl ls d).host = d.host ∧ (freeSlot cl ls d).dma = d.dma ∧ (freeSlot cl ls d).bsu = d.bsu ∧ (freeSlot cl ls d).tmr = d.tmr ∧ (freeSlot cl ls d).boot = d.boot ∧ (freeSlot cl ls d).power = d.power ∧ (freeSlot cl ls d).board = d.board ∧ (freeSlot cl ls d).flash = d.flash ∧ (freeSlot cl ls d).mail = d.mail ∧ (freeSlot cl ls d).fuse = d.fuse := by simp [freeSlot]
@[simp] theorem countLate_frame (cl n : Nat) (d : Dev) :
    (countLate cl n d).clk = d.clk ∧ (countLate cl n d).whl = d.whl ∧ (countLate cl n d).span = d.span ∧ (countLate cl n d).fab = d.fab ∧ (countLate cl n d).lnk = d.lnk ∧ (countLate cl n d).ten = d.ten ∧ (countLate cl n d).grants = d.grants ∧ (countLate cl n d).host = d.host ∧ (countLate cl n d).dma = d.dma ∧ (countLate cl n d).bsu = d.bsu ∧ (countLate cl n d).tmr = d.tmr ∧ (countLate cl n d).boot = d.boot ∧ (countLate cl n d).power = d.power ∧ (countLate cl n d).board = d.board ∧ (countLate cl n d).flash = d.flash ∧ (countLate cl n d).mail = d.mail ∧ (countLate cl n d).fuse = d.fuse := by simp [countLate]
@[simp] theorem sendFromCluster_frame (cl t : Nat) (f : Flit) (d : Dev) :
    (sendFromCluster cl t f d).clk = d.clk ∧ (sendFromCluster cl t f d).whl = d.whl ∧ (sendFromCluster cl t f d).span = d.span ∧ (sendFromCluster cl t f d).lnk = d.lnk ∧ (sendFromCluster cl t f d).cl = d.cl ∧ (sendFromCluster cl t f d).ten = d.ten ∧ (sendFromCluster cl t f d).grants = d.grants ∧ (sendFromCluster cl t f d).host = d.host ∧ (sendFromCluster cl t f d).dma = d.dma ∧ (sendFromCluster cl t f d).bsu = d.bsu ∧ (sendFromCluster cl t f d).tmr = d.tmr ∧ (sendFromCluster cl t f d).boot = d.boot ∧ (sendFromCluster cl t f d).power = d.power ∧ (sendFromCluster cl t f d).board = d.board ∧ (sendFromCluster cl t f d).flash = d.flash ∧ (sendFromCluster cl t f d).mail = d.mail ∧ (sendFromCluster cl t f d).fuse = d.fuse := by simp [sendFromCluster]
@[simp] theorem slotNext_frame (cl ls : Nat) (h : LaunchHdr) (i : Nat) (d : Dev) :
    (slotNext cl ls h i d).clk = d.clk ∧ (slotNext cl ls h i d).whl = d.whl ∧ (slotNext cl ls h i d).span = d.span ∧ (slotNext cl ls h i d).fab = d.fab ∧ (slotNext cl ls h i d).lnk = d.lnk ∧ (slotNext cl ls h i d).ten = d.ten ∧ (slotNext cl ls h i d).grants = d.grants ∧ (slotNext cl ls h i d).host = d.host ∧ (slotNext cl ls h i d).dma = d.dma ∧ (slotNext cl ls h i d).bsu = d.bsu ∧ (slotNext cl ls h i d).tmr = d.tmr ∧ (slotNext cl ls h i d).boot = d.boot ∧ (slotNext cl ls h i d).power = d.power ∧ (slotNext cl ls h i d).board = d.board ∧ (slotNext cl ls h i d).flash = d.flash ∧ (slotNext cl ls h i d).mail = d.mail ∧ (slotNext cl ls h i d).fuse = d.fuse := by unfold slotNext; (repeat' split) <;> simp
@[simp] theorem opLaunchDeparture_frame (cl ls t : Nat) (d : Dev) :
    (opLaunchDeparture cl ls t d).clk = d.clk ∧ (opLaunchDeparture cl ls t d).span = d.span ∧ (opLaunchDeparture cl ls t d).lnk = d.lnk ∧ (opLaunchDeparture cl ls t d).ten = d.ten ∧ (opLaunchDeparture cl ls t d).grants = d.grants ∧ (opLaunchDeparture cl ls t d).host = d.host ∧ (opLaunchDeparture cl ls t d).dma = d.dma ∧ (opLaunchDeparture cl ls t d).bsu = d.bsu ∧ (opLaunchDeparture cl ls t d).tmr = d.tmr ∧ (opLaunchDeparture cl ls t d).boot = d.boot ∧ (opLaunchDeparture cl ls t d).power = d.power ∧ (opLaunchDeparture cl ls t d).board = d.board ∧ (opLaunchDeparture cl ls t d).flash = d.flash ∧ (opLaunchDeparture cl ls t d).mail = d.mail ∧ (opLaunchDeparture cl ls t d).fuse = d.fuse := by unfold opLaunchDeparture; dsimp only; (repeat' split) <;> simp
@[simp] theorem opLaunchHeaderLate_frame (cl ls t : Nat) (d : Dev) :
    (opLaunchHeaderLate cl ls t d).clk = d.clk ∧ (opLaunchHeaderLate cl ls t d).span = d.span ∧ (opLaunchHeaderLate cl ls t d).fab = d.fab ∧ (opLaunchHeaderLate cl ls t d).lnk = d.lnk ∧ (opLaunchHeaderLate cl ls t d).ten = d.ten ∧ (opLaunchHeaderLate cl ls t d).grants = d.grants ∧ (opLaunchHeaderLate cl ls t d).host = d.host ∧ (opLaunchHeaderLate cl ls t d).dma = d.dma ∧ (opLaunchHeaderLate cl ls t d).bsu = d.bsu ∧ (opLaunchHeaderLate cl ls t d).tmr = d.tmr ∧ (opLaunchHeaderLate cl ls t d).boot = d.boot ∧ (opLaunchHeaderLate cl ls t d).power = d.power ∧ (opLaunchHeaderLate cl ls t d).board = d.board ∧ (opLaunchHeaderLate cl ls t d).flash = d.flash ∧ (opLaunchHeaderLate cl ls t d).mail = d.mail ∧ (opLaunchHeaderLate cl ls t d).fuse = d.fuse := by unfold opLaunchHeaderLate; dsimp only; (repeat' split) <;> simp
@[simp] theorem tagMismatch_clk (f : Flit) (bad : Bool) (count : (FabCtr → FabCtr) → Dev → Dev) (d : Dev)
    (h : ∀ g a, (count g a).clk = a.clk) : (tagMismatch f bad count d).clk = d.clk := by
  unfold tagMismatch; dsimp only; split <;> simp [h]
@[simp] theorem tagMismatch_whl (f : Flit) (bad : Bool) (count : (FabCtr → FabCtr) → Dev → Dev) (d : Dev)
    (h : ∀ g a, (count g a).whl = a.whl) : (tagMismatch f bad count d).whl = d.whl := by
  unfold tagMismatch; dsimp only; split <;> simp [h]
@[simp] theorem tagMismatch_span (f : Flit) (bad : Bool) (count : (FabCtr → FabCtr) → Dev → Dev) (d : Dev)
    (h : ∀ g a, (count g a).span = a.span) : (tagMismatch f bad count d).span = d.span := by
  unfold tagMismatch; dsimp only; split <;> simp [h]
@[simp] theorem tagMismatch_fab (f : Flit) (bad : Bool) (count : (FabCtr → FabCtr) → Dev → Dev) (d : Dev)
    (h : ∀ g a, (count g a).fab = a.fab) : (tagMismatch f bad count d).fab = d.fab := by
  unfold tagMismatch; dsimp only; split <;> simp [h]
@[simp] theorem tagMismatch_lnk (f : Flit) (bad : Bool) (count : (FabCtr → FabCtr) → Dev → Dev) (d : Dev)
    (h : ∀ g a, (count g a).lnk = a.lnk) : (tagMismatch f bad count d).lnk = d.lnk := by
  unfold tagMismatch; dsimp only; split <;> simp [h]
@[simp] theorem tagMismatch_cl (f : Flit) (bad : Bool) (count : (FabCtr → FabCtr) → Dev → Dev) (d : Dev)
    (h : ∀ g a, (count g a).cl = a.cl) : (tagMismatch f bad count d).cl = d.cl := by
  unfold tagMismatch; dsimp only; split <;> simp [h]
@[simp] theorem tagMismatch_grants (f : Flit) (bad : Bool) (count : (FabCtr → FabCtr) → Dev → Dev) (d : Dev)
    (h : ∀ g a, (count g a).grants = a.grants) : (tagMismatch f bad count d).grants = d.grants := by
  unfold tagMismatch; dsimp only; split <;> simp [h]
@[simp] theorem tagMismatch_dma (f : Flit) (bad : Bool) (count : (FabCtr → FabCtr) → Dev → Dev) (d : Dev)
    (h : ∀ g a, (count g a).dma = a.dma) : (tagMismatch f bad count d).dma = d.dma := by
  unfold tagMismatch; dsimp only; split <;> simp [h]
@[simp] theorem tagMismatch_bsu (f : Flit) (bad : Bool) (count : (FabCtr → FabCtr) → Dev → Dev) (d : Dev)
    (h : ∀ g a, (count g a).bsu = a.bsu) : (tagMismatch f bad count d).bsu = d.bsu := by
  unfold tagMismatch; dsimp only; split <;> simp [h]
@[simp] theorem tagMismatch_tmr (f : Flit) (bad : Bool) (count : (FabCtr → FabCtr) → Dev → Dev) (d : Dev)
    (h : ∀ g a, (count g a).tmr = a.tmr) : (tagMismatch f bad count d).tmr = d.tmr := by
  unfold tagMismatch; dsimp only; split <;> simp [h]
@[simp] theorem tagMismatch_boot (f : Flit) (bad : Bool) (count : (FabCtr → FabCtr) → Dev → Dev) (d : Dev)
    (h : ∀ g a, (count g a).boot = a.boot) : (tagMismatch f bad count d).boot = d.boot := by
  unfold tagMismatch; dsimp only; split <;> simp [h]
@[simp] theorem tagMismatch_power (f : Flit) (bad : Bool) (count : (FabCtr → FabCtr) → Dev → Dev) (d : Dev)
    (h : ∀ g a, (count g a).power = a.power) : (tagMismatch f bad count d).power = d.power := by
  unfold tagMismatch; dsimp only; split <;> simp [h]
@[simp] theorem tagMismatch_board (f : Flit) (bad : Bool) (count : (FabCtr → FabCtr) → Dev → Dev) (d : Dev)
    (h : ∀ g a, (count g a).board = a.board) : (tagMismatch f bad count d).board = d.board := by
  unfold tagMismatch; dsimp only; split <;> simp [h]
@[simp] theorem tagMismatch_flash (f : Flit) (bad : Bool) (count : (FabCtr → FabCtr) → Dev → Dev) (d : Dev)
    (h : ∀ g a, (count g a).flash = a.flash) : (tagMismatch f bad count d).flash = d.flash := by
  unfold tagMismatch; dsimp only; split <;> simp [h]
@[simp] theorem tagMismatch_mail (f : Flit) (bad : Bool) (count : (FabCtr → FabCtr) → Dev → Dev) (d : Dev)
    (h : ∀ g a, (count g a).mail = a.mail) : (tagMismatch f bad count d).mail = d.mail := by
  unfold tagMismatch; dsimp only; split <;> simp [h]
@[simp] theorem tagMismatch_fuse (f : Flit) (bad : Bool) (count : (FabCtr → FabCtr) → Dev → Dev) (d : Dev)
    (h : ∀ g a, (count g a).fuse = a.fuse) : (tagMismatch f bad count d).fuse = d.fuse := by
  unfold tagMismatch; dsimp only; split <;> simp [h]
@[simp] theorem opLandingWrite_frame (cl t : Nat) (d : Dev) :
    (opLandingWrite cl t d).clk = d.clk ∧ (opLandingWrite cl t d).span = d.span ∧ (opLandingWrite cl t d).lnk = d.lnk ∧ (opLandingWrite cl t d).grants = d.grants ∧ (opLandingWrite cl t d).dma = d.dma ∧ (opLandingWrite cl t d).bsu = d.bsu ∧ (opLandingWrite cl t d).tmr = d.tmr ∧ (opLandingWrite cl t d).boot = d.boot ∧ (opLandingWrite cl t d).power = d.power ∧ (opLandingWrite cl t d).board = d.board ∧ (opLandingWrite cl t d).flash = d.flash ∧ (opLandingWrite cl t d).mail = d.mail ∧ (opLandingWrite cl t d).fuse = d.fuse := by unfold opLandingWrite; dsimp only; (repeat' split) <;> simp
@[simp] theorem shelfSegment_clk (q k tk p : Nat) (dir : Bool) (d : Dev) : (shelfSegment q k tk p dir d).2.clk = d.clk :=
  shelfSegment_keeps (·.clk) q k tk p dir d (fun _ _ _ _ => by simp) (fun _ _ _ => by simp)
@[simp] theorem shelfSegment_whl (q k tk p : Nat) (dir : Bool) (d : Dev) : (shelfSegment q k tk p dir d).2.whl = d.whl :=
  shelfSegment_keeps (·.whl) q k tk p dir d (fun _ _ _ _ => by simp) (fun _ _ _ => by simp)
@[simp] theorem shelfSegment_span (q k tk p : Nat) (dir : Bool) (d : Dev) : (shelfSegment q k tk p dir d).2.span = d.span :=
  shelfSegment_keeps (·.span) q k tk p dir d (fun _ _ _ _ => by simp) (fun _ _ _ => by simp)
@[simp] theorem shelfSegment_lnk (q k tk p : Nat) (dir : Bool) (d : Dev) : (shelfSegment q k tk p dir d).2.lnk = d.lnk :=
  shelfSegment_keeps (·.lnk) q k tk p dir d (fun _ _ _ _ => by simp) (fun _ _ _ => by simp)
@[simp] theorem shelfSegment_cl (q k tk p : Nat) (dir : Bool) (d : Dev) : (shelfSegment q k tk p dir d).2.cl = d.cl :=
  shelfSegment_keeps (·.cl) q k tk p dir d (fun _ _ _ _ => by simp) (fun _ _ _ => by simp)
@[simp] theorem shelfSegment_grants (q k tk p : Nat) (dir : Bool) (d : Dev) : (shelfSegment q k tk p dir d).2.grants = d.grants :=
  shelfSegment_keeps (·.grants) q k tk p dir d (fun _ _ _ _ => by simp) (fun _ _ _ => by simp)
@[simp] theorem shelfSegment_dma (q k tk p : Nat) (dir : Bool) (d : Dev) : (shelfSegment q k tk p dir d).2.dma = d.dma :=
  shelfSegment_keeps (·.dma) q k tk p dir d (fun _ _ _ _ => by simp) (fun _ _ _ => by simp)
@[simp] theorem shelfSegment_bsu (q k tk p : Nat) (dir : Bool) (d : Dev) : (shelfSegment q k tk p dir d).2.bsu = d.bsu :=
  shelfSegment_keeps (·.bsu) q k tk p dir d (fun _ _ _ _ => by simp) (fun _ _ _ => by simp)
@[simp] theorem shelfSegment_tmr (q k tk p : Nat) (dir : Bool) (d : Dev) : (shelfSegment q k tk p dir d).2.tmr = d.tmr :=
  shelfSegment_keeps (·.tmr) q k tk p dir d (fun _ _ _ _ => by simp) (fun _ _ _ => by simp)
@[simp] theorem shelfSegment_boot (q k tk p : Nat) (dir : Bool) (d : Dev) : (shelfSegment q k tk p dir d).2.boot = d.boot :=
  shelfSegment_keeps (·.boot) q k tk p dir d (fun _ _ _ _ => by simp) (fun _ _ _ => by simp)
@[simp] theorem shelfSegment_power (q k tk p : Nat) (dir : Bool) (d : Dev) : (shelfSegment q k tk p dir d).2.power = d.power :=
  shelfSegment_keeps (·.power) q k tk p dir d (fun _ _ _ _ => by simp) (fun _ _ _ => by simp)
@[simp] theorem shelfSegment_board (q k tk p : Nat) (dir : Bool) (d : Dev) : (shelfSegment q k tk p dir d).2.board = d.board :=
  shelfSegment_keeps (·.board) q k tk p dir d (fun _ _ _ _ => by simp) (fun _ _ _ => by simp)
@[simp] theorem shelfSegment_flash (q k tk p : Nat) (dir : Bool) (d : Dev) : (shelfSegment q k tk p dir d).2.flash = d.flash :=
  shelfSegment_keeps (·.flash) q k tk p dir d (fun _ _ _ _ => by simp) (fun _ _ _ => by simp)
@[simp] theorem shelfSegment_mail (q k tk p : Nat) (dir : Bool) (d : Dev) : (shelfSegment q k tk p dir d).2.mail = d.mail :=
  shelfSegment_keeps (·.mail) q k tk p dir d (fun _ _ _ _ => by simp) (fun _ _ _ => by simp)
@[simp] theorem shelfSegment_fuse (q k tk p : Nat) (dir : Bool) (d : Dev) : (shelfSegment q k tk p dir d).2.fuse = d.fuse :=
  shelfSegment_keeps (·.fuse) q k tk p dir d (fun _ _ _ _ => by simp) (fun _ _ _ => by simp)
@[simp] theorem shelfActive_clk (q k x : Nat) (dir : Bool) (d : Dev) : (shelfActive q k x dir d).2.clk = d.clk :=
  shelfActive_keeps (·.clk) q k x dir d (fun _ _ _ _ => by simp) (fun _ _ _ => by simp)
@[simp] theorem shelfActive_whl (q k x : Nat) (dir : Bool) (d : Dev) : (shelfActive q k x dir d).2.whl = d.whl :=
  shelfActive_keeps (·.whl) q k x dir d (fun _ _ _ _ => by simp) (fun _ _ _ => by simp)
@[simp] theorem shelfActive_span (q k x : Nat) (dir : Bool) (d : Dev) : (shelfActive q k x dir d).2.span = d.span :=
  shelfActive_keeps (·.span) q k x dir d (fun _ _ _ _ => by simp) (fun _ _ _ => by simp)
@[simp] theorem shelfActive_lnk (q k x : Nat) (dir : Bool) (d : Dev) : (shelfActive q k x dir d).2.lnk = d.lnk :=
  shelfActive_keeps (·.lnk) q k x dir d (fun _ _ _ _ => by simp) (fun _ _ _ => by simp)
@[simp] theorem shelfActive_cl (q k x : Nat) (dir : Bool) (d : Dev) : (shelfActive q k x dir d).2.cl = d.cl :=
  shelfActive_keeps (·.cl) q k x dir d (fun _ _ _ _ => by simp) (fun _ _ _ => by simp)
@[simp] theorem shelfActive_grants (q k x : Nat) (dir : Bool) (d : Dev) : (shelfActive q k x dir d).2.grants = d.grants :=
  shelfActive_keeps (·.grants) q k x dir d (fun _ _ _ _ => by simp) (fun _ _ _ => by simp)
@[simp] theorem shelfActive_dma (q k x : Nat) (dir : Bool) (d : Dev) : (shelfActive q k x dir d).2.dma = d.dma :=
  shelfActive_keeps (·.dma) q k x dir d (fun _ _ _ _ => by simp) (fun _ _ _ => by simp)
@[simp] theorem shelfActive_bsu (q k x : Nat) (dir : Bool) (d : Dev) : (shelfActive q k x dir d).2.bsu = d.bsu :=
  shelfActive_keeps (·.bsu) q k x dir d (fun _ _ _ _ => by simp) (fun _ _ _ => by simp)
@[simp] theorem shelfActive_tmr (q k x : Nat) (dir : Bool) (d : Dev) : (shelfActive q k x dir d).2.tmr = d.tmr :=
  shelfActive_keeps (·.tmr) q k x dir d (fun _ _ _ _ => by simp) (fun _ _ _ => by simp)
@[simp] theorem shelfActive_boot (q k x : Nat) (dir : Bool) (d : Dev) : (shelfActive q k x dir d).2.boot = d.boot :=
  shelfActive_keeps (·.boot) q k x dir d (fun _ _ _ _ => by simp) (fun _ _ _ => by simp)
@[simp] theorem shelfActive_power (q k x : Nat) (dir : Bool) (d : Dev) : (shelfActive q k x dir d).2.power = d.power :=
  shelfActive_keeps (·.power) q k x dir d (fun _ _ _ _ => by simp) (fun _ _ _ => by simp)
@[simp] theorem shelfActive_board (q k x : Nat) (dir : Bool) (d : Dev) : (shelfActive q k x dir d).2.board = d.board :=
  shelfActive_keeps (·.board) q k x dir d (fun _ _ _ _ => by simp) (fun _ _ _ => by simp)
@[simp] theorem shelfActive_flash (q k x : Nat) (dir : Bool) (d : Dev) : (shelfActive q k x dir d).2.flash = d.flash :=
  shelfActive_keeps (·.flash) q k x dir d (fun _ _ _ _ => by simp) (fun _ _ _ => by simp)
@[simp] theorem shelfActive_mail (q k x : Nat) (dir : Bool) (d : Dev) : (shelfActive q k x dir d).2.mail = d.mail :=
  shelfActive_keeps (·.mail) q k x dir d (fun _ _ _ _ => by simp) (fun _ _ _ => by simp)
@[simp] theorem shelfActive_fuse (q k x : Nat) (dir : Bool) (d : Dev) : (shelfActive q k x dir d).2.fuse = d.fuse :=
  shelfActive_keeps (·.fuse) q k x dir d (fun _ _ _ _ => by simp) (fun _ _ _ => by simp)
@[simp] theorem shelfLost_frame (q k : Nat) (d : Dev) :
    (shelfLost q k d).clk = d.clk ∧ (shelfLost q k d).whl = d.whl ∧ (shelfLost q k d).span = d.span ∧ (shelfLost q k d).fab = d.fab ∧ (shelfLost q k d).lnk = d.lnk ∧ (shelfLost q k d).cl = d.cl ∧ (shelfLost q k d).ten = d.ten ∧ (shelfLost q k d).grants = d.grants ∧ (shelfLost q k d).host = d.host ∧ (shelfLost q k d).dma = d.dma ∧ (shelfLost q k d).bsu = d.bsu ∧ (shelfLost q k d).tmr = d.tmr ∧ (shelfLost q k d).boot = d.boot ∧ (shelfLost q k d).power = d.power ∧ (shelfLost q k d).board = d.board ∧ (shelfLost q k d).flash = d.flash ∧ (shelfLost q k d).mail = d.mail ∧ (shelfLost q k d).fuse = d.fuse := by simp [shelfLost]
@[simp] theorem shelfStore_frame (q t line : Nat) (f : Flit) (d : Dev) :
    (shelfStore q t line f d).clk = d.clk ∧ (shelfStore q t line f d).whl = d.whl ∧ (shelfStore q t line f d).span = d.span ∧ (shelfStore q t line f d).fab = d.fab ∧ (shelfStore q t line f d).lnk = d.lnk ∧ (shelfStore q t line f d).cl = d.cl ∧ (shelfStore q t line f d).ten = d.ten ∧ (shelfStore q t line f d).grants = d.grants ∧ (shelfStore q t line f d).host = d.host ∧ (shelfStore q t line f d).dma = d.dma ∧ (shelfStore q t line f d).bsu = d.bsu ∧ (shelfStore q t line f d).tmr = d.tmr ∧ (shelfStore q t line f d).boot = d.boot ∧ (shelfStore q t line f d).power = d.power ∧ (shelfStore q t line f d).board = d.board ∧ (shelfStore q t line f d).flash = d.flash ∧ (shelfStore q t line f d).mail = d.mail ∧ (shelfStore q t line f d).fuse = d.fuse := by simp [shelfStore]
@[simp] theorem shelfFetch_clk (q t : Nat) (x : W64 × Nat × Nat) (d : Dev) : (shelfFetch q t x d).2.clk = d.clk :=
  shelfFetch_keeps (·.clk) q t x d (fun _ _ _ _ _ => by simp) (fun _ _ _ => by simp)
@[simp] theorem shelfFetches_clk (q t : Nat) (xs : List (W64 × Nat × Nat)) (d : Dev) : (shelfFetches q t xs d).2.clk = d.clk :=
  shelfFetches_keeps (·.clk) q t xs d fun _ _ => by simp
@[simp] theorem shelfFetch_whl (q t : Nat) (x : W64 × Nat × Nat) (d : Dev) : (shelfFetch q t x d).2.whl = d.whl :=
  shelfFetch_keeps (·.whl) q t x d (fun _ _ _ _ _ => by simp) (fun _ _ _ => by simp)
@[simp] theorem shelfFetches_whl (q t : Nat) (xs : List (W64 × Nat × Nat)) (d : Dev) : (shelfFetches q t xs d).2.whl = d.whl :=
  shelfFetches_keeps (·.whl) q t xs d fun _ _ => by simp
@[simp] theorem shelfFetch_span (q t : Nat) (x : W64 × Nat × Nat) (d : Dev) : (shelfFetch q t x d).2.span = d.span :=
  shelfFetch_keeps (·.span) q t x d (fun _ _ _ _ _ => by simp) (fun _ _ _ => by simp)
@[simp] theorem shelfFetches_span (q t : Nat) (xs : List (W64 × Nat × Nat)) (d : Dev) : (shelfFetches q t xs d).2.span = d.span :=
  shelfFetches_keeps (·.span) q t xs d fun _ _ => by simp
@[simp] theorem shelfFetch_fab (q t : Nat) (x : W64 × Nat × Nat) (d : Dev) : (shelfFetch q t x d).2.fab = d.fab :=
  shelfFetch_keeps (·.fab) q t x d (fun _ _ _ _ _ => by simp) (fun _ _ _ => by simp)
@[simp] theorem shelfFetches_fab (q t : Nat) (xs : List (W64 × Nat × Nat)) (d : Dev) : (shelfFetches q t xs d).2.fab = d.fab :=
  shelfFetches_keeps (·.fab) q t xs d fun _ _ => by simp
@[simp] theorem shelfFetch_lnk (q t : Nat) (x : W64 × Nat × Nat) (d : Dev) : (shelfFetch q t x d).2.lnk = d.lnk :=
  shelfFetch_keeps (·.lnk) q t x d (fun _ _ _ _ _ => by simp) (fun _ _ _ => by simp)
@[simp] theorem shelfFetches_lnk (q t : Nat) (xs : List (W64 × Nat × Nat)) (d : Dev) : (shelfFetches q t xs d).2.lnk = d.lnk :=
  shelfFetches_keeps (·.lnk) q t xs d fun _ _ => by simp
@[simp] theorem shelfFetch_cl (q t : Nat) (x : W64 × Nat × Nat) (d : Dev) : (shelfFetch q t x d).2.cl = d.cl :=
  shelfFetch_keeps (·.cl) q t x d (fun _ _ _ _ _ => by simp) (fun _ _ _ => by simp)
@[simp] theorem shelfFetches_cl (q t : Nat) (xs : List (W64 × Nat × Nat)) (d : Dev) : (shelfFetches q t xs d).2.cl = d.cl :=
  shelfFetches_keeps (·.cl) q t xs d fun _ _ => by simp
@[simp] theorem shelfFetch_ten (q t : Nat) (x : W64 × Nat × Nat) (d : Dev) : (shelfFetch q t x d).2.ten = d.ten :=
  shelfFetch_keeps (·.ten) q t x d (fun _ _ _ _ _ => by simp) (fun _ _ _ => by simp)
@[simp] theorem shelfFetches_ten (q t : Nat) (xs : List (W64 × Nat × Nat)) (d : Dev) : (shelfFetches q t xs d).2.ten = d.ten :=
  shelfFetches_keeps (·.ten) q t xs d fun _ _ => by simp
@[simp] theorem shelfFetch_grants (q t : Nat) (x : W64 × Nat × Nat) (d : Dev) : (shelfFetch q t x d).2.grants = d.grants :=
  shelfFetch_keeps (·.grants) q t x d (fun _ _ _ _ _ => by simp) (fun _ _ _ => by simp)
@[simp] theorem shelfFetches_grants (q t : Nat) (xs : List (W64 × Nat × Nat)) (d : Dev) : (shelfFetches q t xs d).2.grants = d.grants :=
  shelfFetches_keeps (·.grants) q t xs d fun _ _ => by simp
@[simp] theorem shelfFetch_host (q t : Nat) (x : W64 × Nat × Nat) (d : Dev) : (shelfFetch q t x d).2.host = d.host :=
  shelfFetch_keeps (·.host) q t x d (fun _ _ _ _ _ => by simp) (fun _ _ _ => by simp)
@[simp] theorem shelfFetches_host (q t : Nat) (xs : List (W64 × Nat × Nat)) (d : Dev) : (shelfFetches q t xs d).2.host = d.host :=
  shelfFetches_keeps (·.host) q t xs d fun _ _ => by simp
@[simp] theorem shelfFetch_dma (q t : Nat) (x : W64 × Nat × Nat) (d : Dev) : (shelfFetch q t x d).2.dma = d.dma :=
  shelfFetch_keeps (·.dma) q t x d (fun _ _ _ _ _ => by simp) (fun _ _ _ => by simp)
@[simp] theorem shelfFetches_dma (q t : Nat) (xs : List (W64 × Nat × Nat)) (d : Dev) : (shelfFetches q t xs d).2.dma = d.dma :=
  shelfFetches_keeps (·.dma) q t xs d fun _ _ => by simp
@[simp] theorem shelfFetch_bsu (q t : Nat) (x : W64 × Nat × Nat) (d : Dev) : (shelfFetch q t x d).2.bsu = d.bsu :=
  shelfFetch_keeps (·.bsu) q t x d (fun _ _ _ _ _ => by simp) (fun _ _ _ => by simp)
@[simp] theorem shelfFetches_bsu (q t : Nat) (xs : List (W64 × Nat × Nat)) (d : Dev) : (shelfFetches q t xs d).2.bsu = d.bsu :=
  shelfFetches_keeps (·.bsu) q t xs d fun _ _ => by simp
@[simp] theorem shelfFetch_tmr (q t : Nat) (x : W64 × Nat × Nat) (d : Dev) : (shelfFetch q t x d).2.tmr = d.tmr :=
  shelfFetch_keeps (·.tmr) q t x d (fun _ _ _ _ _ => by simp) (fun _ _ _ => by simp)
@[simp] theorem shelfFetches_tmr (q t : Nat) (xs : List (W64 × Nat × Nat)) (d : Dev) : (shelfFetches q t xs d).2.tmr = d.tmr :=
  shelfFetches_keeps (·.tmr) q t xs d fun _ _ => by simp
@[simp] theorem shelfFetch_boot (q t : Nat) (x : W64 × Nat × Nat) (d : Dev) : (shelfFetch q t x d).2.boot = d.boot :=
  shelfFetch_keeps (·.boot) q t x d (fun _ _ _ _ _ => by simp) (fun _ _ _ => by simp)
@[simp] theorem shelfFetches_boot (q t : Nat) (xs : List (W64 × Nat × Nat)) (d : Dev) : (shelfFetches q t xs d).2.boot = d.boot :=
  shelfFetches_keeps (·.boot) q t xs d fun _ _ => by simp
@[simp] theorem shelfFetch_power (q t : Nat) (x : W64 × Nat × Nat) (d : Dev) : (shelfFetch q t x d).2.power = d.power :=
  shelfFetch_keeps (·.power) q t x d (fun _ _ _ _ _ => by simp) (fun _ _ _ => by simp)
@[simp] theorem shelfFetches_power (q t : Nat) (xs : List (W64 × Nat × Nat)) (d : Dev) : (shelfFetches q t xs d).2.power = d.power :=
  shelfFetches_keeps (·.power) q t xs d fun _ _ => by simp
@[simp] theorem shelfFetch_board (q t : Nat) (x : W64 × Nat × Nat) (d : Dev) : (shelfFetch q t x d).2.board = d.board :=
  shelfFetch_keeps (·.board) q t x d (fun _ _ _ _ _ => by simp) (fun _ _ _ => by simp)
@[simp] theorem shelfFetches_board (q t : Nat) (xs : List (W64 × Nat × Nat)) (d : Dev) : (shelfFetches q t xs d).2.board = d.board :=
  shelfFetches_keeps (·.board) q t xs d fun _ _ => by simp
@[simp] theorem shelfFetch_flash (q t : Nat) (x : W64 × Nat × Nat) (d : Dev) : (shelfFetch q t x d).2.flash = d.flash :=
  shelfFetch_keeps (·.flash) q t x d (fun _ _ _ _ _ => by simp) (fun _ _ _ => by simp)
@[simp] theorem shelfFetches_flash (q t : Nat) (xs : List (W64 × Nat × Nat)) (d : Dev) : (shelfFetches q t xs d).2.flash = d.flash :=
  shelfFetches_keeps (·.flash) q t xs d fun _ _ => by simp
@[simp] theorem shelfFetch_mail (q t : Nat) (x : W64 × Nat × Nat) (d : Dev) : (shelfFetch q t x d).2.mail = d.mail :=
  shelfFetch_keeps (·.mail) q t x d (fun _ _ _ _ _ => by simp) (fun _ _ _ => by simp)
@[simp] theorem shelfFetches_mail (q t : Nat) (xs : List (W64 × Nat × Nat)) (d : Dev) : (shelfFetches q t xs d).2.mail = d.mail :=
  shelfFetches_keeps (·.mail) q t xs d fun _ _ => by simp
@[simp] theorem shelfFetch_fuse (q t : Nat) (x : W64 × Nat × Nat) (d : Dev) : (shelfFetch q t x d).2.fuse = d.fuse :=
  shelfFetch_keeps (·.fuse) q t x d (fun _ _ _ _ _ => by simp) (fun _ _ _ => by simp)
@[simp] theorem shelfFetches_fuse (q t : Nat) (xs : List (W64 × Nat × Nat)) (d : Dev) : (shelfFetches q t xs d).2.fuse = d.fuse :=
  shelfFetches_keeps (·.fuse) q t xs d fun _ _ => by simp
@[simp] theorem opShelfWrite_frame (q k t : Nat) (d : Dev) :
    (opShelfWrite q k t d).clk = d.clk ∧ (opShelfWrite q k t d).span = d.span ∧ (opShelfWrite q k t d).lnk = d.lnk ∧ (opShelfWrite q k t d).cl = d.cl ∧ (opShelfWrite q k t d).grants = d.grants ∧ (opShelfWrite q k t d).dma = d.dma ∧ (opShelfWrite q k t d).bsu = d.bsu ∧ (opShelfWrite q k t d).tmr = d.tmr ∧ (opShelfWrite q k t d).boot = d.boot ∧ (opShelfWrite q k t d).power = d.power ∧ (opShelfWrite q k t d).board = d.board ∧ (opShelfWrite q k t d).flash = d.flash ∧ (opShelfWrite q k t d).mail = d.mail ∧ (opShelfWrite q k t d).fuse = d.fuse := by unfold opShelfWrite; dsimp only; (repeat' split) <;> simp
@[simp] theorem opShelfRead_frame (q k t : Nat) (d : Dev) :
    (opShelfRead q k t d).clk = d.clk ∧ (opShelfRead q k t d).span = d.span ∧ (opShelfRead q k t d).lnk = d.lnk ∧ (opShelfRead q k t d).cl = d.cl ∧ (opShelfRead q k t d).grants = d.grants ∧ (opShelfRead q k t d).dma = d.dma ∧ (opShelfRead q k t d).bsu = d.bsu ∧ (opShelfRead q k t d).tmr = d.tmr ∧ (opShelfRead q k t d).boot = d.boot ∧ (opShelfRead q k t d).power = d.power ∧ (opShelfRead q k t d).board = d.board ∧ (opShelfRead q k t d).flash = d.flash ∧ (opShelfRead q k t d).mail = d.mail ∧ (opShelfRead q k t d).fuse = d.fuse := by unfold opShelfRead; dsimp only; (repeat' split) <;> simp

/-! ## Machine/Column.lean -/

@[simp] theorem advanceM_frame (q m : Nat) (d : Dev) :
    (advanceM q m d).clk = d.clk ∧ (advanceM q m d).whl = d.whl ∧ (advanceM q m d).span = d.span ∧ (advanceM q m d).fab = d.fab ∧ (advanceM q m d).lnk = d.lnk ∧ (advanceM q m d).cl = d.cl ∧ (advanceM q m d).ten = d.ten ∧ (advanceM q m d).grants = d.grants ∧ (advanceM q m d).host = d.host ∧ (advanceM q m d).dma = d.dma ∧ (advanceM q m d).bsu = d.bsu ∧ (advanceM q m d).tmr = d.tmr ∧ (advanceM q m d).boot = d.boot ∧ (advanceM q m d).power = d.power ∧ (advanceM q m d).board = d.board ∧ (advanceM q m d).flash = d.flash ∧ (advanceM q m d).mail = d.mail ∧ (advanceM q m d).fuse = d.fuse := by unfold advanceM; (repeat' split) <;> simp
@[simp] theorem noteMark_frame (cl phase slot m : Nat) (d : Dev) :
    (noteMark cl phase slot m d).clk = d.clk ∧ (noteMark cl phase slot m d).whl = d.whl ∧ (noteMark cl phase slot m d).span = d.span ∧ (noteMark cl phase slot m d).fab = d.fab ∧ (noteMark cl phase slot m d).lnk = d.lnk ∧ (noteMark cl phase slot m d).cl = d.cl ∧ (noteMark cl phase slot m d).ten = d.ten ∧ (noteMark cl phase slot m d).grants = d.grants ∧ (noteMark cl phase slot m d).host = d.host ∧ (noteMark cl phase slot m d).dma = d.dma ∧ (noteMark cl phase slot m d).bsu = d.bsu ∧ (noteMark cl phase slot m d).tmr = d.tmr ∧ (noteMark cl phase slot m d).boot = d.boot ∧ (noteMark cl phase slot m d).power = d.power ∧ (noteMark cl phase slot m d).board = d.board ∧ (noteMark cl phase slot m d).flash = d.flash ∧ (noteMark cl phase slot m d).mail = d.mail ∧ (noteMark cl phase slot m d).fuse = d.fuse := by simp [noteMark]
@[simp] theorem countCol_frame (cl l : Nat) (r : ColRead) (d : Dev) :
    (countCol cl l r d).clk = d.clk ∧ (countCol cl l r d).whl = d.whl ∧ (countCol cl l r d).span = d.span ∧ (countCol cl l r d).fab = d.fab ∧ (countCol cl l r d).lnk = d.lnk ∧ (countCol cl l r d).cl = d.cl ∧ (countCol cl l r d).ten = d.ten ∧ (countCol cl l r d).grants = d.grants ∧ (countCol cl l r d).host = d.host ∧ (countCol cl l r d).dma = d.dma ∧ (countCol cl l r d).bsu = d.bsu ∧ (countCol cl l r d).tmr = d.tmr ∧ (countCol cl l r d).boot = d.boot ∧ (countCol cl l r d).power = d.power ∧ (countCol cl l r d).board = d.board ∧ (countCol cl l r d).flash = d.flash ∧ (countCol cl l r d).mail = d.mail ∧ (countCol cl l r d).fuse = d.fuse := by unfold countCol; (repeat' split) <;> simp
@[simp] theorem touchBank_frame (cl l m : Nat) (d : Dev) :
    (touchBank cl l m d).clk = d.clk ∧ (touchBank cl l m d).whl = d.whl ∧ (touchBank cl l m d).span = d.span ∧ (touchBank cl l m d).fab = d.fab ∧ (touchBank cl l m d).lnk = d.lnk ∧ (touchBank cl l m d).cl = d.cl ∧ (touchBank cl l m d).ten = d.ten ∧ (touchBank cl l m d).grants = d.grants ∧ (touchBank cl l m d).host = d.host ∧ (touchBank cl l m d).dma = d.dma ∧ (touchBank cl l m d).bsu = d.bsu ∧ (touchBank cl l m d).tmr = d.tmr ∧ (touchBank cl l m d).boot = d.boot ∧ (touchBank cl l m d).power = d.power ∧ (touchBank cl l m d).board = d.board ∧ (touchBank cl l m d).flash = d.flash ∧ (touchBank cl l m d).mail = d.mail ∧ (touchBank cl l m d).fuse = d.fuse := by simp [touchBank]
@[simp] theorem pushRead_frame (cl : Nat) (r : ColRd) (d : Dev) :
    (pushRead cl r d).clk = d.clk ∧ (pushRead cl r d).whl = d.whl ∧ (pushRead cl r d).span = d.span ∧ (pushRead cl r d).fab = d.fab ∧ (pushRead cl r d).lnk = d.lnk ∧ (pushRead cl r d).cl = d.cl ∧ (pushRead cl r d).ten = d.ten ∧ (pushRead cl r d).grants = d.grants ∧ (pushRead cl r d).host = d.host ∧ (pushRead cl r d).dma = d.dma ∧ (pushRead cl r d).bsu = d.bsu ∧ (pushRead cl r d).tmr = d.tmr ∧ (pushRead cl r d).boot = d.boot ∧ (pushRead cl r d).power = d.power ∧ (pushRead cl r d).board = d.board ∧ (pushRead cl r d).flash = d.flash ∧ (pushRead cl r d).mail = d.mail ∧ (pushRead cl r d).fuse = d.fuse := by simp [pushRead]
@[simp] theorem mergeCol_frame (cl l v mask : Nat) (poison : Bool) (d : Dev) :
    (mergeCol cl l v mask poison d).clk = d.clk ∧ (mergeCol cl l v mask poison d).whl = d.whl ∧ (mergeCol cl l v mask poison d).span = d.span ∧ (mergeCol cl l v mask poison d).fab = d.fab ∧ (mergeCol cl l v mask poison d).lnk = d.lnk ∧ (mergeCol cl l v mask poison d).cl = d.cl ∧ (mergeCol cl l v mask poison d).ten = d.ten ∧ (mergeCol cl l v mask poison d).grants = d.grants ∧ (mergeCol cl l v mask poison d).host = d.host ∧ (mergeCol cl l v mask poison d).dma = d.dma ∧ (mergeCol cl l v mask poison d).bsu = d.bsu ∧ (mergeCol cl l v mask poison d).tmr = d.tmr ∧ (mergeCol cl l v mask poison d).boot = d.boot ∧ (mergeCol cl l v mask poison d).power = d.power ∧ (mergeCol cl l v mask poison d).board = d.board ∧ (mergeCol cl l v mask poison d).flash = d.flash ∧ (mergeCol cl l v mask poison d).mail = d.mail ∧ (mergeCol cl l v mask poison d).fuse = d.fuse := by unfold mergeCol; dsimp only; (repeat' split) <;> simp
@[simp] theorem writeColLine_frame (cl l : Nat) (e : ReqEntry) (d : Dev) :
    (writeColLine cl l e d).clk = d.clk ∧ (writeColLine cl l e d).whl = d.whl ∧ (writeColLine cl l e d).span = d.span ∧ (writeColLine cl l e d).fab = d.fab ∧ (writeColLine cl l e d).lnk = d.lnk ∧ (writeColLine cl l e d).cl = d.cl ∧ (writeColLine cl l e d).ten = d.ten ∧ (writeColLine cl l e d).grants = d.grants ∧ (writeColLine cl l e d).host = d.host ∧ (writeColLine cl l e d).dma = d.dma ∧ (writeColLine cl l e d).bsu = d.bsu ∧ (writeColLine cl l e d).tmr = d.tmr ∧ (writeColLine cl l e d).boot = d.boot ∧ (writeColLine cl l e d).power = d.power ∧ (writeColLine cl l e d).board = d.board ∧ (writeColLine cl l e d).flash = d.flash ∧ (writeColLine cl l e d).mail = d.mail ∧ (writeColLine cl l e d).fuse = d.fuse := by simp [writeColLine]
@[simp] theorem countBusy_frame (cl l : Nat) (d : Dev) :
    (countBusy cl l d).clk = d.clk ∧ (countBusy cl l d).whl = d.whl ∧ (countBusy cl l d).span = d.span ∧ (countBusy cl l d).fab = d.fab ∧ (countBusy cl l d).lnk = d.lnk ∧ (countBusy cl l d).cl = d.cl ∧ (countBusy cl l d).ten = d.ten ∧ (countBusy cl l d).grants = d.grants ∧ (countBusy cl l d).host = d.host ∧ (countBusy cl l d).dma = d.dma ∧ (countBusy cl l d).bsu = d.bsu ∧ (countBusy cl l d).tmr = d.tmr ∧ (countBusy cl l d).boot = d.boot ∧ (countBusy cl l d).power = d.power ∧ (countBusy cl l d).board = d.board ∧ (countBusy cl l d).flash = d.flash ∧ (countBusy cl l d).mail = d.mail ∧ (countBusy cl l d).fuse = d.fuse := by simp [countBusy]
@[simp] theorem execRequest_clk (cl m : Nat) (e : ReqEntry) (d : Dev) : (execRequest cl m e d).clk = d.clk := by
  unfold execRequest; dsimp only; (repeat' split) <;> simp
@[simp] theorem drainQueue_clk (cl lap ph slot m : Nat) (q : List ReqEntry) (d : Dev) : (drainQueue cl lap ph slot m q d).clk = d.clk := by
  induction q generalizing d with
  | nil => simp [drainQueue]
  | cons e es ih =>
    unfold drainQueue; dsimp only
    (repeat' split) <;> simp [ih]
@[simp] theorem execRequest_whl (cl m : Nat) (e : ReqEntry) (d : Dev) : (execRequest cl m e d).whl = d.whl := by
  unfold execRequest; dsimp only; (repeat' split) <;> simp
@[simp] theorem drainQueue_whl (cl lap ph slot m : Nat) (q : List ReqEntry) (d : Dev) : (drainQueue cl lap ph slot m q d).whl = d.whl := by
  induction q generalizing d with
  | nil => simp [drainQueue]
  | cons e es ih =>
    unfold drainQueue; dsimp only
    (repeat' split) <;> simp [ih]
@[simp] theorem execRequest_span (cl m : Nat) (e : ReqEntry) (d : Dev) : (execRequest cl m e d).span = d.span := by
  unfold execRequest; dsimp only; (repeat' split) <;> simp
@[simp] theorem drainQueue_span (cl lap ph slot m : Nat) (q : List ReqEntry) (d : Dev) : (drainQueue cl lap ph slot m q d).span = d.span := by
  induction q generalizing d with
  | nil => simp [drainQueue]
  | cons e es ih =>
    unfold drainQueue; dsimp only
    (repeat' split) <;> simp [ih]
@[simp] theorem execRequest_fab (cl m : Nat) (e : ReqEntry) (d : Dev) : (execRequest cl m e d).fab = d.fab := by
  unfold execRequest; dsimp only; (repeat' split) <;> simp
@[simp] theorem drainQueue_fab (cl lap ph slot m : Nat) (q : List ReqEntry) (d : Dev) : (drainQueue cl lap ph slot m q d).fab = d.fab := by
  induction q generalizing d with
  | nil => simp [drainQueue]
  | cons e es ih =>
    unfold drainQueue; dsimp only
    (repeat' split) <;> simp [ih]
@[simp] theorem execRequest_lnk (cl m : Nat) (e : ReqEntry) (d : Dev) : (execRequest cl m e d).lnk = d.lnk := by
  unfold execRequest; dsimp only; (repeat' split) <;> simp
@[simp] theorem drainQueue_lnk (cl lap ph slot m : Nat) (q : List ReqEntry) (d : Dev) : (drainQueue cl lap ph slot m q d).lnk = d.lnk := by
  induction q generalizing d with
  | nil => simp [drainQueue]
  | cons e es ih =>
    unfold drainQueue; dsimp only
    (repeat' split) <;> simp [ih]
@[simp] theorem execRequest_cl (cl m : Nat) (e : ReqEntry) (d : Dev) : (execRequest cl m e d).cl = d.cl := by
  unfold execRequest; dsimp only; (repeat' split) <;> simp
@[simp] theorem drainQueue_cl (cl lap ph slot m : Nat) (q : List ReqEntry) (d : Dev) : (drainQueue cl lap ph slot m q d).cl = d.cl := by
  induction q generalizing d with
  | nil => simp [drainQueue]
  | cons e es ih =>
    unfold drainQueue; dsimp only
    (repeat' split) <;> simp [ih]
@[simp] theorem execRequest_grants (cl m : Nat) (e : ReqEntry) (d : Dev) : (execRequest cl m e d).grants = d.grants := by
  unfold execRequest; dsimp only; (repeat' split) <;> simp
@[simp] theorem drainQueue_grants (cl lap ph slot m : Nat) (q : List ReqEntry) (d : Dev) : (drainQueue cl lap ph slot m q d).grants = d.grants := by
  induction q generalizing d with
  | nil => simp [drainQueue]
  | cons e es ih =>
    unfold drainQueue; dsimp only
    (repeat' split) <;> simp [ih]
@[simp] theorem execRequest_dma (cl m : Nat) (e : ReqEntry) (d : Dev) : (execRequest cl m e d).dma = d.dma := by
  unfold execRequest; dsimp only; (repeat' split) <;> simp
@[simp] theorem drainQueue_dma (cl lap ph slot m : Nat) (q : List ReqEntry) (d : Dev) : (drainQueue cl lap ph slot m q d).dma = d.dma := by
  induction q generalizing d with
  | nil => simp [drainQueue]
  | cons e es ih =>
    unfold drainQueue; dsimp only
    (repeat' split) <;> simp [ih]
@[simp] theorem execRequest_bsu (cl m : Nat) (e : ReqEntry) (d : Dev) : (execRequest cl m e d).bsu = d.bsu := by
  unfold execRequest; dsimp only; (repeat' split) <;> simp
@[simp] theorem drainQueue_bsu (cl lap ph slot m : Nat) (q : List ReqEntry) (d : Dev) : (drainQueue cl lap ph slot m q d).bsu = d.bsu := by
  induction q generalizing d with
  | nil => simp [drainQueue]
  | cons e es ih =>
    unfold drainQueue; dsimp only
    (repeat' split) <;> simp [ih]
@[simp] theorem execRequest_tmr (cl m : Nat) (e : ReqEntry) (d : Dev) : (execRequest cl m e d).tmr = d.tmr := by
  unfold execRequest; dsimp only; (repeat' split) <;> simp
@[simp] theorem drainQueue_tmr (cl lap ph slot m : Nat) (q : List ReqEntry) (d : Dev) : (drainQueue cl lap ph slot m q d).tmr = d.tmr := by
  induction q generalizing d with
  | nil => simp [drainQueue]
  | cons e es ih =>
    unfold drainQueue; dsimp only
    (repeat' split) <;> simp [ih]
@[simp] theorem execRequest_boot (cl m : Nat) (e : ReqEntry) (d : Dev) : (execRequest cl m e d).boot = d.boot := by
  unfold execRequest; dsimp only; (repeat' split) <;> simp
@[simp] theorem drainQueue_boot (cl lap ph slot m : Nat) (q : List ReqEntry) (d : Dev) : (drainQueue cl lap ph slot m q d).boot = d.boot := by
  induction q generalizing d with
  | nil => simp [drainQueue]
  | cons e es ih =>
    unfold drainQueue; dsimp only
    (repeat' split) <;> simp [ih]
@[simp] theorem execRequest_power (cl m : Nat) (e : ReqEntry) (d : Dev) : (execRequest cl m e d).power = d.power := by
  unfold execRequest; dsimp only; (repeat' split) <;> simp
@[simp] theorem drainQueue_power (cl lap ph slot m : Nat) (q : List ReqEntry) (d : Dev) : (drainQueue cl lap ph slot m q d).power = d.power := by
  induction q generalizing d with
  | nil => simp [drainQueue]
  | cons e es ih =>
    unfold drainQueue; dsimp only
    (repeat' split) <;> simp [ih]
@[simp] theorem execRequest_board (cl m : Nat) (e : ReqEntry) (d : Dev) : (execRequest cl m e d).board = d.board := by
  unfold execRequest; dsimp only; (repeat' split) <;> simp
@[simp] theorem drainQueue_board (cl lap ph slot m : Nat) (q : List ReqEntry) (d : Dev) : (drainQueue cl lap ph slot m q d).board = d.board := by
  induction q generalizing d with
  | nil => simp [drainQueue]
  | cons e es ih =>
    unfold drainQueue; dsimp only
    (repeat' split) <;> simp [ih]
@[simp] theorem execRequest_flash (cl m : Nat) (e : ReqEntry) (d : Dev) : (execRequest cl m e d).flash = d.flash := by
  unfold execRequest; dsimp only; (repeat' split) <;> simp
@[simp] theorem drainQueue_flash (cl lap ph slot m : Nat) (q : List ReqEntry) (d : Dev) : (drainQueue cl lap ph slot m q d).flash = d.flash := by
  induction q generalizing d with
  | nil => simp [drainQueue]
  | cons e es ih =>
    unfold drainQueue; dsimp only
    (repeat' split) <;> simp [ih]
@[simp] theorem execRequest_mail (cl m : Nat) (e : ReqEntry) (d : Dev) : (execRequest cl m e d).mail = d.mail := by
  unfold execRequest; dsimp only; (repeat' split) <;> simp
@[simp] theorem drainQueue_mail (cl lap ph slot m : Nat) (q : List ReqEntry) (d : Dev) : (drainQueue cl lap ph slot m q d).mail = d.mail := by
  induction q generalizing d with
  | nil => simp [drainQueue]
  | cons e es ih =>
    unfold drainQueue; dsimp only
    (repeat' split) <;> simp [ih]
@[simp] theorem execRequest_fuse (cl m : Nat) (e : ReqEntry) (d : Dev) : (execRequest cl m e d).fuse = d.fuse := by
  unfold execRequest; dsimp only; (repeat' split) <;> simp
@[simp] theorem drainQueue_fuse (cl lap ph slot m : Nat) (q : List ReqEntry) (d : Dev) : (drainQueue cl lap ph slot m q d).fuse = d.fuse := by
  induction q generalizing d with
  | nil => simp [drainQueue]
  | cons e es ih =>
    unfold drainQueue; dsimp only
    (repeat' split) <;> simp [ih]
@[simp] theorem opColumnSlot_frame (cl phase slot m : Nat) (d : Dev) :
    (opColumnSlot cl phase slot m d).clk = d.clk ∧ (opColumnSlot cl phase slot m d).whl = d.whl ∧ (opColumnSlot cl phase slot m d).span = d.span ∧ (opColumnSlot cl phase slot m d).fab = d.fab ∧ (opColumnSlot cl phase slot m d).lnk = d.lnk ∧ (opColumnSlot cl phase slot m d).cl = d.cl ∧ (opColumnSlot cl phase slot m d).grants = d.grants ∧ (opColumnSlot cl phase slot m d).dma = d.dma ∧ (opColumnSlot cl phase slot m d).bsu = d.bsu ∧ (opColumnSlot cl phase slot m d).tmr = d.tmr ∧ (opColumnSlot cl phase slot m d).boot = d.boot ∧ (opColumnSlot cl phase slot m d).power = d.power ∧ (opColumnSlot cl phase slot m d).board = d.board ∧ (opColumnSlot cl phase slot m d).flash = d.flash ∧ (opColumnSlot cl phase slot m d).mail = d.mail ∧ (opColumnSlot cl phase slot m d).fuse = d.fuse := by unfold opColumnSlot; dsimp only; (repeat' split) <;> simp
@[simp] theorem opColumnReadData_frame (cl m : Nat) (d : Dev) :
    (opColumnReadData cl m d).clk = d.clk ∧ (opColumnReadData cl m d).whl = d.whl ∧ (opColumnReadData cl m d).span = d.span ∧ (opColumnReadData cl m d).fab = d.fab ∧ (opColumnReadData cl m d).lnk = d.lnk ∧ (opColumnReadData cl m d).cl = d.cl ∧ (opColumnReadData cl m d).ten = d.ten ∧ (opColumnReadData cl m d).grants = d.grants ∧ (opColumnReadData cl m d).host = d.host ∧ (opColumnReadData cl m d).dma = d.dma ∧ (opColumnReadData cl m d).bsu = d.bsu ∧ (opColumnReadData cl m d).tmr = d.tmr ∧ (opColumnReadData cl m d).boot = d.boot ∧ (opColumnReadData cl m d).power = d.power ∧ (opColumnReadData cl m d).board = d.board ∧ (opColumnReadData cl m d).flash = d.flash ∧ (opColumnReadData cl m d).mail = d.mail ∧ (opColumnReadData cl m d).fuse = d.fuse := by unfold opColumnReadData; dsimp only; (repeat' split) <;> simp
@[simp] theorem opPaneFill_frame (cl : Nat) (d : Dev) :
    (opPaneFill cl d).clk = d.clk ∧ (opPaneFill cl d).whl = d.whl ∧ (opPaneFill cl d).span = d.span ∧ (opPaneFill cl d).fab = d.fab ∧ (opPaneFill cl d).lnk = d.lnk ∧ (opPaneFill cl d).ten = d.ten ∧ (opPaneFill cl d).grants = d.grants ∧ (opPaneFill cl d).host = d.host ∧ (opPaneFill cl d).dma = d.dma ∧ (opPaneFill cl d).bsu = d.bsu ∧ (opPaneFill cl d).tmr = d.tmr ∧ (opPaneFill cl d).boot = d.boot ∧ (opPaneFill cl d).power = d.power ∧ (opPaneFill cl d).board = d.board ∧ (opPaneFill cl d).flash = d.flash ∧ (opPaneFill cl d).mail = d.mail ∧ (opPaneFill cl d).fuse = d.fuse := by unfold opPaneFill; dsimp only; (repeat' split) <;> simp
@[simp] theorem opRefreshBurst_frame (cl m : Nat) (d : Dev) :
    (opRefreshBurst cl m d).clk = d.clk ∧ (opRefreshBurst cl m d).span = d.span ∧ (opRefreshBurst cl m d).fab = d.fab ∧ (opRefreshBurst cl m d).lnk = d.lnk ∧ (opRefreshBurst cl m d).cl = d.cl ∧ (opRefreshBurst cl m d).ten = d.ten ∧ (opRefreshBurst cl m d).grants = d.grants ∧ (opRefreshBurst cl m d).host = d.host ∧ (opRefreshBurst cl m d).dma = d.dma ∧ (opRefreshBurst cl m d).bsu = d.bsu ∧ (opRefreshBurst cl m d).tmr = d.tmr ∧ (opRefreshBurst cl m d).boot = d.boot ∧ (opRefreshBurst cl m d).power = d.power ∧ (opRefreshBurst cl m d).board = d.board ∧ (opRefreshBurst cl m d).flash = d.flash ∧ (opRefreshBurst cl m d).mail = d.mail ∧ (opRefreshBurst cl m d).fuse = d.fuse := by unfold opRefreshBurst; dsimp only; (repeat' split) <;> simp

end Sys2Proof.Machine
end

