-- ==== Sys2Proof/Laws/KeepsCommands.lean ====
section
/-!
SUPPORT. Which components of the device each operation leaves as they were: rings, journals, tenancies, the wheel, links, images and programs.
-/
namespace Sys2Proof.Machine

/-! ## Machine/Rings.lean -/

@[simp] theorem finish_frame (id st r0 r1 : Nat) (d : Dev) :
    (finish id st r0 r1 d).clk = d.clk ∧ (finish id st r0 r1 d).whl = d.whl ∧ (finish id st r0 r1 d).span = d.span ∧ (finish id st r0 r1 d).fab = d.fab ∧ (finish id st r0 r1 d).lnk = d.lnk ∧ (finish id st r0 r1 d).cl = d.cl ∧ (finish id st r0 r1 d).ten = d.ten ∧ (finish id st r0 r1 d).grants = d.grants ∧ (finish id st r0 r1 d).dma = d.dma ∧ (finish id st r0 r1 d).bsu = d.bsu ∧ (finish id st r0 r1 d).tmr = d.tmr ∧ (finish id st r0 r1 d).boot = d.boot ∧ (finish id st r0 r1 d).power = d.power ∧ (finish id st r0 r1 d).board = d.board ∧ (finish id st r0 r1 d).flash = d.flash ∧ (finish id st r0 r1 d).mail = d.mail ∧ (finish id st r0 r1 d).fuse = d.fuse := by simp [finish]
@[simp] theorem finishAt_frame (id st r0 r1 gc : Nat) (d : Dev) :
    (finishAt id st r0 r1 gc d).clk = d.clk ∧ (finishAt id st r0 r1 gc d).whl = d.whl ∧ (finishAt id st r0 r1 gc d).span = d.span ∧ (finishAt id st r0 r1 gc d).fab = d.fab ∧ (finishAt id st r0 r1 gc d).lnk = d.lnk ∧ (finishAt id st r0 r1 gc d).cl = d.cl ∧ (finishAt id st r0 r1 gc d).ten = d.ten ∧ (finishAt id st r0 r1 gc d).grants = d.grants ∧ (finishAt id st r0 r1 gc d).dma = d.dma ∧ (finishAt id st r0 r1 gc d).bsu = d.bsu ∧ (finishAt id st r0 r1 gc d).tmr = d.tmr ∧ (finishAt id st r0 r1 gc d).boot = d.boot ∧ (finishAt id st r0 r1 gc d).power = d.power ∧ (finishAt id st r0 r1 gc d).board = d.board ∧ (finishAt id st r0 r1 gc d).flash = d.flash ∧ (finishAt id st r0 r1 gc d).mail = d.mail ∧ (finishAt id st r0 r1 gc d).fuse = d.fuse := by simp [finishAt]
@[simp] theorem abortCmd_frame (id st fault : Nat) (d : Dev) :
    (abortCmd id st fault d).clk = d.clk ∧ (abortCmd id st fault d).whl = d.whl ∧ (abortCmd id st fault d).span = d.span ∧ (abortCmd id st fault d).fab = d.fab ∧ (abortCmd id st fault d).lnk = d.lnk ∧ (abortCmd id st fault d).cl = d.cl ∧ (abortCmd id st fault d).ten = d.ten ∧ (abortCmd id st fault d).grants = d.grants ∧ (abortCmd id st fault d).dma = d.dma ∧ (abortCmd id st fault d).bsu = d.bsu ∧ (abortCmd id st fault d).tmr = d.tmr ∧ (abortCmd id st fault d).boot = d.boot ∧ (abortCmd id st fault d).power = d.power ∧ (abortCmd id st fault d).board = d.board ∧ (abortCmd id st fault d).flash = d.flash ∧ (abortCmd id st fault d).mail = d.mail ∧ (abortCmd id st fault d).fuse = d.fuse := by simp [abortCmd]
@[simp] theorem armCmd_frame (id count aux : Nat) (d : Dev) :
    (armCmd id count aux d).clk = d.clk ∧ (armCmd id count aux d).whl = d.whl ∧ (armCmd id count aux d).span = d.span ∧ (armCmd id count aux d).fab = d.fab ∧ (armCmd id count aux d).lnk = d.lnk ∧ (armCmd id count aux d).cl = d.cl ∧ (armCmd id count aux d).ten = d.ten ∧ (armCmd id count aux d).grants = d.grants ∧ (armCmd id count aux d).dma = d.dma ∧ (armCmd id count aux d).bsu = d.bsu ∧ (armCmd id count aux d).tmr = d.tmr ∧ (armCmd id count aux d).boot = d.boot ∧ (armCmd id count aux d).power = d.power ∧ (armCmd id count aux d).board = d.board ∧ (armCmd id count aux d).flash = d.flash ∧ (armCmd id count aux d).mail = d.mail ∧ (armCmd id count aux d).fuse = d.fuse := by simp [armCmd]
@[simp] theorem abortCmds_frame (p : Cmd → Bool) (st fault : Nat) (gc : Option Nat) (d : Dev) :
    (abortCmds p st fault gc d).clk = d.clk ∧ (abortCmds p st fault gc d).whl = d.whl ∧ (abortCmds p st fault gc d).span = d.span ∧ (abortCmds p st fault gc d).fab = d.fab ∧ (abortCmds p st fault gc d).lnk = d.lnk ∧ (abortCmds p st fault gc d).cl = d.cl ∧ (abortCmds p st fault gc d).ten = d.ten ∧ (abortCmds p st fault gc d).grants = d.grants ∧ (abortCmds p st fault gc d).dma = d.dma ∧ (abortCmds p st fault gc d).bsu = d.bsu ∧ (abortCmds p st fault gc d).tmr = d.tmr ∧ (abortCmds p st fault gc d).boot = d.boot ∧ (abortCmds p st fault gc d).power = d.power ∧ (abortCmds p st fault gc d).board = d.board ∧ (abortCmds p st fault gc d).flash = d.flash ∧ (abortCmds p st fault gc d).mail = d.mail ∧ (abortCmds p st fault gc d).fuse = d.fuse := by simp [abortCmds]
@[simp] theorem issueFetch_frame (why : FetchFor) (fn addr len : Nat) (d : Dev) :
    (issueFetch why fn addr len d).clk = d.clk ∧ (issueFetch why fn addr len d).whl = d.whl ∧ (issueFetch why fn addr len d).span = d.span ∧ (issueFetch why fn addr len d).fab = d.fab ∧ (issueFetch why fn addr len d).lnk = d.lnk ∧ (issueFetch why fn addr len d).cl = d.cl ∧ (issueFetch why fn addr len d).ten = d.ten ∧ (issueFetch why fn addr len d).grants = d.grants ∧ (issueFetch why fn addr len d).dma = d.dma ∧ (issueFetch why fn addr len d).bsu = d.bsu ∧ (issueFetch why fn addr len d).tmr = d.tmr ∧ (issueFetch why fn addr len d).boot = d.boot ∧ (issueFetch why fn addr len d).power = d.power ∧ (issueFetch why fn addr len d).board = d.board ∧ (issueFetch why fn addr len d).flash = d.flash ∧ (issueFetch why fn addr len d).mail = d.mail ∧ (issueFetch why fn addr len d).fuse = d.fuse := by simp [issueFetch]
@[simp] theorem fetchData_frame (c : Cmd) (addr len : Nat) (d : Dev) :
    (fetchData c addr len d).clk = d.clk ∧ (fetchData c addr len d).whl = d.whl ∧ (fetchData c addr len d).span = d.span ∧ (fetchData c addr len d).fab = d.fab ∧ (fetchData c addr len d).lnk = d.lnk ∧ (fetchData c addr len d).cl = d.cl ∧ (fetchData c addr len d).ten = d.ten ∧ (fetchData c addr len d).grants = d.grants ∧ (fetchData c addr len d).dma = d.dma ∧ (fetchData c addr len d).bsu = d.bsu ∧ (fetchData c addr len d).tmr = d.tmr ∧ (fetchData c addr len d).boot = d.boot ∧ (fetchData c addr len d).power = d.power ∧ (fetchData c addr len d).board = d.board ∧ (fetchData c addr len d).flash = d.flash ∧ (fetchData c addr len d).mail = d.mail ∧ (fetchData c addr len d).fuse = d.fuse := by simp [fetchData]
@[simp] theorem hostWrite_frame (c : Cmd) (addr : Nat) (data : List Byte) (d : Dev) :
    (hostWrite c addr data d).clk = d.clk ∧ (hostWrite c addr data d).whl = d.whl ∧ (hostWrite c addr data d).span = d.span ∧ (hostWrite c addr data d).fab = d.fab ∧ (hostWrite c addr data d).lnk = d.lnk ∧ (hostWrite c addr data d).cl = d.cl ∧ (hostWrite c addr data d).ten = d.ten ∧ (hostWrite c addr data d).grants = d.grants ∧ (hostWrite c addr data d).dma = d.dma ∧ (hostWrite c addr data d).bsu = d.bsu ∧ (hostWrite c addr data d).tmr = d.tmr ∧ (hostWrite c addr data d).boot = d.boot ∧ (hostWrite c addr data d).power = d.power ∧ (hostWrite c addr data d).board = d.board ∧ (hostWrite c addr data d).flash = d.flash ∧ (hostWrite c addr data d).mail = d.mail ∧ (hostWrite c addr data d).fuse = d.fuse := by simp [hostWrite]
@[simp] theorem dropPacket_frame (r : Nat) (d : Dev) :
    (dropPacket r d).clk = d.clk ∧ (dropPacket r d).whl = d.whl ∧ (dropPacket r d).span = d.span ∧ (dropPacket r d).fab = d.fab ∧ (dropPacket r d).lnk = d.lnk ∧ (dropPacket r d).cl = d.cl ∧ (dropPacket r d).ten = d.ten ∧ (dropPacket r d).grants = d.grants ∧ (dropPacket r d).dma = d.dma ∧ (dropPacket r d).bsu = d.bsu ∧ (dropPacket r d).tmr = d.tmr ∧ (dropPacket r d).boot = d.boot ∧ (dropPacket r d).power = d.power ∧ (dropPacket r d).board = d.board ∧ (dropPacket r d).flash = d.flash ∧ (dropPacket r d).mail = d.mail ∧ (dropPacket r d).fuse = d.fuse := by simp [dropPacket]
@[simp] theorem stopRing_frame (r cause : Nat) (d : Dev) :
    (stopRing r cause d).clk = d.clk ∧ (stopRing r cause d).whl = d.whl ∧ (stopRing r cause d).span = d.span ∧ (stopRing r cause d).fab = d.fab ∧ (stopRing r cause d).lnk = d.lnk ∧ (stopRing r cause d).cl = d.cl ∧ (stopRing r cause d).grants = d.grants ∧ (stopRing r cause d).dma = d.dma ∧ (stopRing r cause d).bsu = d.bsu ∧ (stopRing r cause d).tmr = d.tmr ∧ (stopRing r cause d).boot = d.boot ∧ (stopRing r cause d).power = d.power ∧ (stopRing r cause d).board = d.board ∧ (stopRing r cause d).flash = d.flash ∧ (stopRing r cause d).mail = d.mail ∧ (stopRing r cause d).fuse = d.fuse := by unfold stopRing; dsimp only; (repeat' split) <;> simp
@[simp] theorem opDoorbellCmdTail_frame (fn r v : Nat) (d : Dev) :
    (opDoorbellCmdTail fn r v d).clk = d.clk ∧ (opDoorbellCmdTail fn r v d).whl = d.whl ∧ (opDoorbellCmdTail fn r v d).span = d.span ∧ (opDoorbellCmdTail fn r v d).fab = d.fab ∧ (opDoorbellCmdTail fn r v d).lnk = d.lnk ∧ (opDoorbellCmdTail fn r v d).cl = d.cl ∧ (opDoorbellCmdTail fn r v d).grants = d.grants ∧ (opDoorbellCmdTail fn r v d).dma = d.dma ∧ (opDoorbellCmdTail fn r v d).bsu = d.bsu ∧ (opDoorbellCmdTail fn r v d).tmr = d.tmr ∧ (opDoorbellCmdTail fn r v d).boot = d.boot ∧ (opDoorbellCmdTail fn r v d).power = d.power ∧ (opDoorbellCmdTail fn r v d).board = d.board ∧ (opDoorbellCmdTail fn r v d).flash = d.flash ∧ (opDoorbellCmdTail fn r v d).mail = d.mail ∧ (opDoorbellCmdTail fn r v d).fuse = d.fuse := by unfold opDoorbellCmdTail; (repeat' split) <;> simp
@[simp] theorem opDoorbellStsHead_frame (fn r v : Nat) (d : Dev) :
    (opDoorbellStsHead fn r v d).clk = d.clk ∧ (opDoorbellStsHead fn r v d).whl = d.whl ∧ (opDoorbellStsHead fn r v d).span = d.span ∧ (opDoorbellStsHead fn r v d).fab = d.fab ∧ (opDoorbellStsHead fn r v d).lnk = d.lnk ∧ (opDoorbellStsHead fn r v d).cl = d.cl ∧ (opDoorbellStsHead fn r v d).grants = d.grants ∧ (opDoorbellStsHead fn r v d).dma = d.dma ∧ (opDoorbellStsHead fn r v d).bsu = d.bsu ∧ (opDoorbellStsHead fn r v d).tmr = d.tmr ∧ (opDoorbellStsHead fn r v d).boot = d.boot ∧ (opDoorbellStsHead fn r v d).power = d.power ∧ (opDoorbellStsHead fn r v d).board = d.board ∧ (opDoorbellStsHead fn r v d).flash = d.flash ∧ (opDoorbellStsHead fn r v d).mail = d.mail ∧ (opDoorbellStsHead fn r v d).fuse = d.fuse := by unfold opDoorbellStsHead; (repeat' split) <;> simp
@[simp] theorem writePage_frame (fn off v : Nat) (d : Dev) :
    (writePage fn off v d).clk = d.clk ∧ (writePage fn off v d).whl = d.whl ∧ (writePage fn off v d).span = d.span ∧ (writePage fn off v d).fab = d.fab ∧ (writePage fn off v d).lnk = d.lnk ∧ (writePage fn off v d).cl = d.cl ∧ (writePage fn off v d).grants = d.grants ∧ (writePage fn off v d).dma = d.dma ∧ (writePage fn off v d).bsu = d.bsu ∧ (writePage fn off v d).tmr = d.tmr ∧ (writePage fn off v d).boot = d.boot ∧ (writePage fn off v d).power = d.power ∧ (writePage fn off v d).board = d.board ∧ (writePage fn off v d).flash = d.flash ∧ (writePage fn off v d).mail = d.mail ∧ (writePage fn off v d).fuse = d.fuse := by unfold writePage; (repeat' split) <;> simp
@[simp] theorem opRingEnable_frame (fn r vector : Nat) (d : Dev) :
    (opRingEnable fn r vector d).clk = d.clk ∧ (opRingEnable fn r vector d).whl = d.whl ∧ (opRingEnable fn r vector d).span = d.span ∧ (opRingEnable fn r vector d).fab = d.fab ∧ (opRingEnable fn r vector d).lnk = d.lnk ∧ (opRingEnable fn r vector d).cl = d.cl ∧ (opRingEnable fn r vector d).ten = d.ten ∧ (opRingEnable fn r vector d).grants = d.grants ∧ (opRingEnable fn r vector d).dma = d.dma ∧ (opRingEnable fn r vector d).bsu = d.bsu ∧ (opRingEnable fn r vector d).tmr = d.tmr ∧ (opRingEnable fn r vector d).boot = d.boot ∧ (opRingEnable fn r vector d).power = d.power ∧ (opRingEnable fn r vector d).board = d.board ∧ (opRingEnable fn r vector d).flash = d.flash ∧ (opRingEnable fn r vector d).mail = d.mail ∧ (opRingEnable fn r vector d).fuse = d.fuse := by unfold opRingEnable; dsimp only; (repeat' split) <;> simp
@[simp] theorem opRingDisable_frame (fn r vector : Nat) (d : Dev) :
    (opRingDisable fn r vector d).clk = d.clk ∧ (opRingDisable fn r vector d).whl = d.whl ∧ (opRingDisable fn r vector d).span = d.span ∧ (opRingDisable fn r vector d).fab = d.fab ∧ (opRingDisable fn r vector d).lnk = d.lnk ∧ (opRingDisable fn r vector d).cl = d.cl ∧ (opRingDisable fn r vector d).ten = d.ten ∧ (opRingDisable fn r vector d).grants = d.grants ∧ (opRingDisable fn r vector d).dma = d.dma ∧ (opRingDisable fn r vector d).bsu = d.bsu ∧ (opRingDisable fn r vector d).tmr = d.tmr ∧ (opRingDisable fn r vector d).boot = d.boot ∧ (opRingDisable fn r vector d).power = d.power ∧ (opRingDisable fn r vector d).board = d.board ∧ (opRingDisable fn r vector d).flash = d.flash ∧ (opRingDisable fn r vector d).mail = d.mail ∧ (opRingDisable fn r vector d).fuse = d.fuse := by unfold opRingDisable; dsimp only; (repeat' split) <;> simp
@[simp] theorem opRingCloseDone_frame (r : Nat) (d : Dev) :
    (opRingCloseDone r d).clk = d.clk ∧ (opRingCloseDone r d).whl = d.whl ∧ (opRingCloseDone r d).span = d.span ∧ (opRingCloseDone r d).fab = d.fab ∧ (opRingCloseDone r d).lnk = d.lnk ∧ (opRingCloseDone r d).cl = d.cl ∧ (opRingCloseDone r d).ten = d.ten ∧ (opRingCloseDone r d).grants = d.grants ∧ (opRingCloseDone r d).dma = d.dma ∧ (opRingCloseDone r d).bsu = d.bsu ∧ (opRingCloseDone r d).tmr = d.tmr ∧ (opRingCloseDone r d).boot = d.boot ∧ (opRingCloseDone r d).power = d.power ∧ (opRingCloseDone r d).board = d.board ∧ (opRingCloseDone r d).flash = d.flash ∧ (opRingCloseDone r d).mail = d.mail ∧ (opRingCloseDone r d).fuse = d.fuse := by unfold opRingCloseDone; (repeat' split) <;> simp
@[simp] theorem opCommandFetch_frame (r : Nat) (d : Dev) :
    (opCommandFetch r d).clk = d.clk ∧ (opCommandFetch r d).whl = d.whl ∧ (opCommandFetch r d).span = d.span ∧ (opCommandFetch r d).fab = d.fab ∧ (opCommandFetch r d).lnk = d.lnk ∧ (opCommandFetch r d).cl = d.cl ∧ (opCommandFetch r d).ten = d.ten ∧ (opCommandFetch r d).grants = d.grants ∧ (opCommandFetch r d).dma = d.dma ∧ (opCommandFetch r d).bsu = d.bsu ∧ (opCommandFetch r d).tmr = d.tmr ∧ (opCommandFetch r d).boot = d.boot ∧ (opCommandFetch r d).power = d.power ∧ (opCommandFetch r d).board = d.board ∧ (opCommandFetch r d).flash = d.flash ∧ (opCommandFetch r d).mail = d.mail ∧ (opCommandFetch r d).fuse = d.fuse := by unfold opCommandFetch; dsimp only; (repeat' split) <;> simp
@[simp] theorem startChecks_frame (c : Cmd) (d : Dev) :
    (startChecks c d).clk = d.clk ∧ (startChecks c d).whl = d.whl ∧ (startChecks c d).span = d.span ∧ (startChecks c d).fab = d.fab ∧ (startChecks c d).lnk = d.lnk ∧ (startChecks c d).cl = d.cl ∧ (startChecks c d).ten = d.ten ∧ (startChecks c d).grants = d.grants ∧ (startChecks c d).dma = d.dma ∧ (startChecks c d).bsu = d.bsu ∧ (startChecks c d).tmr = d.tmr ∧ (startChecks c d).boot = d.boot ∧ (startChecks c d).power = d.power ∧ (startChecks c d).board = d.board ∧ (startChecks c d).flash = d.flash ∧ (startChecks c d).mail = d.mail ∧ (startChecks c d).fuse = d.fuse := by unfold startChecks; dsimp only; (repeat' split) <;> simp
@[simp] theorem tookTurn_frame (r : Nat) (d : Dev) :
    (tookTurn r d).clk = d.clk ∧ (tookTurn r d).whl = d.whl ∧ (tookTurn r d).span = d.span ∧ (tookTurn r d).fab = d.fab ∧ (tookTurn r d).lnk = d.lnk ∧ (tookTurn r d).cl = d.cl ∧ (tookTurn r d).ten = d.ten ∧ (tookTurn r d).grants = d.grants ∧ (tookTurn r d).dma = d.dma ∧ (tookTurn r d).bsu = d.bsu ∧ (tookTurn r d).tmr = d.tmr ∧ (tookTurn r d).boot = d.boot ∧ (tookTurn r d).power = d.power ∧ (tookTurn r d).board = d.board ∧ (tookTurn r d).flash = d.flash ∧ (tookTurn r d).mail = d.mail ∧ (tookTurn r d).fuse = d.fuse := by unfold tookTurn; dsimp only; (repeat' split) <;> simp
@[simp] theorem noteService_frame (out : Bool) (c : Cmd) (d : Dev) :
    (noteService out c d).clk = d.clk ∧ (noteService out c d).whl = d.whl ∧ (noteService out c d).span = d.span ∧ (noteService out c d).fab = d.fab ∧ (noteService out c d).lnk = d.lnk ∧ (noteService out c d).cl = d.cl ∧ (noteService out c d).grants = d.grants ∧ (noteService out c d).host = d.host ∧ (noteService out c d).dma = d.dma ∧ (noteService out c d).bsu = d.bsu ∧ (noteService out c d).tmr = d.tmr ∧ (noteService out c d).boot = d.boot ∧ (noteService out c d).power = d.power ∧ (noteService out c d).board = d.board ∧ (noteService out c d).flash = d.flash ∧ (noteService out c d).mail = d.mail ∧ (noteService out c d).fuse = d.fuse := by unfold noteService; dsimp only; (repeat' split) <;> simp
@[simp] theorem opCommandStart_frame (r : Nat) (d : Dev) :
    (opCommandStart r d).clk = d.clk ∧ (opCommandStart r d).whl = d.whl ∧ (opCommandStart r d).span = d.span ∧ (opCommandStart r d).fab = d.fab ∧ (opCommandStart r d).lnk = d.lnk ∧ (opCommandStart r d).cl = d.cl ∧ (opCommandStart r d).grants = d.grants ∧ (opCommandStart r d).dma = d.dma ∧ (opCommandStart r d).bsu = d.bsu ∧ (opCommandStart r d).tmr = d.tmr ∧ (opCommandStart r d).boot = d.boot ∧ (opCommandStart r d).power = d.power ∧ (opCommandStart r d).board = d.board ∧ (opCommandStart r d).flash = d.flash ∧ (opCommandStart r d).mail = d.mail ∧ (opCommandStart r d).fuse = d.fuse := by unfold opCommandStart; dsimp only; (repeat' split) <;> simp
@[simp] theorem fetchDone_frame (f : Fetch) (data : List Byte) (d : Dev) :
    (fetchDone f data d).clk = d.clk ∧ (fetchDone f data d).whl = d.whl ∧ (fetchDone f data d).span = d.span ∧ (fetchDone f data d).fab = d.fab ∧ (fetchDone f data d).lnk = d.lnk ∧ (fetchDone f data d).cl = d.cl ∧ (fetchDone f data d).ten = d.ten ∧ (fetchDone f data d).grants = d.grants ∧ (fetchDone f data d).dma = d.dma ∧ (fetchDone f data d).bsu = d.bsu ∧ (fetchDone f data d).tmr = d.tmr ∧ (fetchDone f data d).boot = d.boot ∧ (fetchDone f data d).power = d.power ∧ (fetchDone f data d).board = d.board ∧ (fetchDone f data d).flash = d.flash ∧ (fetchDone f data d).mail = d.mail ∧ (fetchDone f data d).fuse = d.fuse := by unfold fetchDone; (repeat' split) <;> simp
@[simp] theorem fetchFailed_frame (f : Fetch) (came : List Byte) (d : Dev) :
    (fetchFailed f came d).clk = d.clk ∧ (fetchFailed f came d).whl = d.whl ∧ (fetchFailed f came d).span = d.span ∧ (fetchFailed f came d).fab = d.fab ∧ (fetchFailed f came d).lnk = d.lnk ∧ (fetchFailed f came d).cl = d.cl ∧ (fetchFailed f came d).grants = d.grants ∧ (fetchFailed f came d).dma = d.dma ∧ (fetchFailed f came d).bsu = d.bsu ∧ (fetchFailed f came d).tmr = d.tmr ∧ (fetchFailed f came d).boot = d.boot ∧ (fetchFailed f came d).power = d.power ∧ (fetchFailed f came d).board = d.board ∧ (fetchFailed f came d).flash = d.flash ∧ (fetchFailed f came d).mail = d.mail ∧ (fetchFailed f came d).fuse = d.fuse := by unfold fetchFailed; (repeat' split) <;> simp
@[simp] theorem takeFetch_frame (id : Nat) (d : Dev) :
    (takeFetch id d).2.clk = d.clk ∧ (takeFetch id d).2.whl = d.whl ∧ (takeFetch id d).2.span = d.span ∧ (takeFetch id d).2.fab = d.fab ∧ (takeFetch id d).2.lnk = d.lnk ∧ (takeFetch id d).2.cl = d.cl ∧ (takeFetch id d).2.ten = d.ten ∧ (takeFetch id d).2.grants = d.grants ∧ (takeFetch id d).2.dma = d.dma ∧ (takeFetch id d).2.bsu = d.bsu ∧ (takeFetch id d).2.tmr = d.tmr ∧ (takeFetch id d).2.boot = d.boot ∧ (takeFetch id d).2.power = d.power ∧ (takeFetch id d).2.board = d.board ∧ (takeFetch id d).2.flash = d.flash ∧ (takeFetch id d).2.mail = d.mail ∧ (takeFetch id d).2.fuse = d.fuse := by simp [takeFetch]
@[simp] theorem writeReply_clk (send : Nat → Out → Dev → Dev) (c : Cmd) (d : Dev) (h : ∀ f o a, (send f o a).clk = a.clk) :
    (writeReply send c d).clk = d.clk := by
  unfold writeReply; dsimp only; split <;> simp [h]
@[simp] theorem writeReply_whl (send : Nat → Out → Dev → Dev) (c : Cmd) (d : Dev) (h : ∀ f o a, (send f o a).whl = a.whl) :
    (writeReply send c d).whl = d.whl := by
  unfold writeReply; dsimp only; split <;> simp [h]
@[simp] theorem writeReply_span (send : Nat → Out → Dev → Dev) (c : Cmd) (d : Dev) (h : ∀ f o a, (send f o a).span = a.span) :
    (writeReply send c d).span = d.span := by
  unfold writeReply; dsimp only; split <;> simp [h]
@[simp] theorem writeReply_fab (send : Nat → Out → Dev → Dev) (c : Cmd) (d : Dev) (h : ∀ f o a, (send f o a).fab = a.fab) :
    (writeReply send c d).fab = d.fab := by
  unfold writeReply; dsimp only; split <;> simp [h]
@[simp] theorem writeReply_lnk (send : Nat → Out → Dev → Dev) (c : Cmd) (d : Dev) (h : ∀ f o a, (send f o a).lnk = a.lnk) :
    (writeReply send c d).lnk = d.lnk := by
  unfold writeReply; dsimp only; split <;> simp [h]
@[simp] theorem writeReply_cl (send : Nat → Out → Dev → Dev) (c : Cmd) (d : Dev) (h : ∀ f o a, (send f o a).cl = a.cl) :
    (writeReply send c d).cl = d.cl := by
  unfold writeReply; dsimp only; split <;> simp [h]
@[simp] theorem writeReply_ten (send : Nat → Out → Dev → Dev) (c : Cmd) (d : Dev) (h : ∀ f o a, (send f o a).ten = a.ten) :
    (writeReply send c d).ten = d.ten := by
  unfold writeReply; dsimp only; split <;> simp [h]
@[simp] theorem writeReply_grants (send : Nat → Out → Dev → Dev) (c : Cmd) (d : Dev) (h : ∀ f o a, (send f o a).grants = a.grants) :
    (writeReply send c d).grants = d.grants := by
  unfold writeReply; dsimp only; split <;> simp [h]
@[simp] theorem writeReply_dma (send : Nat → Out → Dev → Dev) (c : Cmd) (d : Dev) (h : ∀ f o a, (send f o a).dma = a.dma) :
    (writeReply send c d).dma = d.dma := by
  unfold writeReply; dsimp only; split <;> simp [h]
@[simp] theorem writeReply_bsu (send : Nat → Out → Dev → Dev) (c : Cmd) (d : Dev) (h : ∀ f o a, (send f o a).bsu = a.bsu) :
    (writeReply send c d).bsu = d.bsu := by
  unfold writeReply; dsimp only; split <;> simp [h]
@[simp] theorem writeReply_tmr (send : Nat → Out → Dev → Dev) (c : Cmd) (d : Dev) (h : ∀ f o a, (send f o a).tmr = a.tmr) :
    (writeReply send c d).tmr = d.tmr := by
  unfold writeReply; dsimp only; split <;> simp [h]
@[simp] theorem writeReply_boot (send : Nat → Out → Dev → Dev) (c : Cmd) (d : Dev) (h : ∀ f o a, (send f o a).boot = a.boot) :
    (writeReply send c d).boot = d.boot := by
  unfold writeReply; dsimp only; split <;> simp [h]
@[simp] theorem writeReply_power (send : Nat → Out → Dev → Dev) (c : Cmd) (d : Dev) (h : ∀ f o a, (send f o a).power = a.power) :
    (writeReply send c d).power = d.power := by
  unfold writeReply; dsimp only; split <;> simp [h]
@[simp] theorem writeReply_board (send : Nat → Out → Dev → Dev) (c : Cmd) (d : Dev) (h : ∀ f o a, (send f o a).board = a.board) :
    (writeReply send c d).board = d.board := by
  unfold writeReply; dsimp only; split <;> simp [h]
@[simp] theorem writeReply_flash (send : Nat → Out → Dev → Dev) (c : Cmd) (d : Dev) (h : ∀ f o a, (send f o a).flash = a.flash) :
    (writeReply send c d).flash = d.flash := by
  unfold writeReply; dsimp only; split <;> simp [h]
@[simp] theorem writeReply_mail (send : Nat → Out → Dev → Dev) (c : Cmd) (d : Dev) (h : ∀ f o a, (send f o a).mail = a.mail) :
    (writeReply send c d).mail = d.mail := by
  unfold writeReply; dsimp only; split <;> simp [h]
@[simp] theorem writeReply_fuse (send : Nat → Out → Dev → Dev) (c : Cmd) (d : Dev) (h : ∀ f o a, (send f o a).fuse = a.fuse) :
    (writeReply send c d).fuse = d.fuse := by
  unfold writeReply; dsimp only; split <;> simp [h]
@[simp] theorem opStatusReply_frame (r : Nat) (d : Dev) :
    (opStatusReply r d).clk = d.clk ∧ (opStatusReply r d).whl = d.whl ∧ (opStatusReply r d).span = d.span ∧ (opStatusReply r d).fab = d.fab ∧ (opStatusReply r d).lnk = d.lnk ∧ (opStatusReply r d).cl = d.cl ∧ (opStatusReply r d).grants = d.grants ∧ (opStatusReply r d).dma = d.dma ∧ (opStatusReply r d).bsu = d.bsu ∧ (opStatusReply r d).tmr = d.tmr ∧ (opStatusReply r d).boot = d.boot ∧ (opStatusReply r d).power = d.power ∧ (opStatusReply r d).board = d.board ∧ (opStatusReply r d).flash = d.flash ∧ (opStatusReply r d).mail = d.mail ∧ (opStatusReply r d).fuse = d.fuse := by unfold opStatusReply; dsimp only; (repeat' split) <;> simp

/-! ## Machine/Journal.lean -/

@[simp] theorem drainCluster_frame (t cl : Nat) (ready : Snap → Bool) (d : Dev) :
    (drainCluster t cl ready d).clk = d.clk ∧ (drainCluster t cl ready d).whl = d.whl ∧ (drainCluster t cl ready d).span = d.span ∧ (drainCluster t cl ready d).fab = d.fab ∧ (drainCluster t cl ready d).lnk = d.lnk ∧ (drainCluster t cl ready d).grants = d.grants ∧ (drainCluster t cl ready d).host = d.host ∧ (drainCluster t cl ready d).dma = d.dma ∧ (drainCluster t cl ready d).bsu = d.bsu ∧ (drainCluster t cl ready d).tmr = d.tmr ∧ (drainCluster t cl ready d).boot = d.boot ∧ (drainCluster t cl ready d).power = d.power ∧ (drainCluster t cl ready d).board = d.board ∧ (drainCluster t cl ready d).flash = d.flash ∧ (drainCluster t cl ready d).mail = d.mail ∧ (drainCluster t cl ready d).fuse = d.fuse := by simp [drainCluster]
@[simp] theorem drainAll_frame (t : Nat) (d : Dev) :
    (drainAll t d).clk = d.clk ∧ (drainAll t d).whl = d.whl ∧ (drainAll t d).span = d.span ∧ (drainAll t d).fab = d.fab ∧ (drainAll t d).lnk = d.lnk ∧ (drainAll t d).grants = d.grants ∧ (drainAll t d).host = d.host ∧ (drainAll t d).dma = d.dma ∧ (drainAll t d).bsu = d.bsu ∧ (drainAll t d).tmr = d.tmr ∧ (drainAll t d).boot = d.boot ∧ (drainAll t d).power = d.power ∧ (drainAll t d).board = d.board ∧ (drainAll t d).flash = d.flash ∧ (drainAll t d).mail = d.mail ∧ (drainAll t d).fuse = d.fuse := by simp [drainAll]
@[simp] theorem sendSnaps_frame (t cl at_ : Nat) (ready : Snap → Bool) (d : Dev) :
    (sendSnaps t cl at_ ready d).clk = d.clk ∧ (sendSnaps t cl at_ ready d).whl = d.whl ∧ (sendSnaps t cl at_ ready d).span = d.span ∧ (sendSnaps t cl at_ ready d).lnk = d.lnk ∧ (sendSnaps t cl at_ ready d).grants = d.grants ∧ (sendSnaps t cl at_ ready d).host = d.host ∧ (sendSnaps t cl at_ ready d).dma = d.dma ∧ (sendSnaps t cl at_ ready d).bsu = d.bsu ∧ (sendSnaps t cl at_ ready d).tmr = d.tmr ∧ (sendSnaps t cl at_ ready d).boot = d.boot ∧ (sendSnaps t cl at_ ready d).power = d.power ∧ (sendSnaps t cl at_ ready d).board = d.board ∧ (sendSnaps t cl at_ ready d).flash = d.flash ∧ (sendSnaps t cl at_ ready d).mail = d.mail ∧ (sendSnaps t cl at_ ready d).fuse = d.fuse := by simp [sendSnaps]
@[simp] theorem opDigestDrain_frame (t : Nat) (d : Dev) :
    (opDigestDrain t d).clk = d.clk ∧ (opDigestDrain t d).whl = d.whl ∧ (opDigestDrain t d).span = d.span ∧ (opDigestDrain t d).lnk = d.lnk ∧ (opDigestDrain t d).grants = d.grants ∧ (opDigestDrain t d).host = d.host ∧ (opDigestDrain t d).dma = d.dma ∧ (opDigestDrain t d).bsu = d.bsu ∧ (opDigestDrain t d).tmr = d.tmr ∧ (opDigestDrain t d).boot = d.boot ∧ (opDigestDrain t d).power = d.power ∧ (opDigestDrain t d).board = d.board ∧ (opDigestDrain t d).flash = d.flash ∧ (opDigestDrain t d).mail = d.mail ∧ (opDigestDrain t d).fuse = d.fuse := by unfold opDigestDrain; dsimp only; (repeat' split) <;> simp
@[simp] theorem journalWrite_frame (j : Journal) (off : Nat) (data : List Byte) (d : Dev) :
    (journalWrite j off data d).clk = d.clk ∧ (journalWrite j off data d).whl = d.whl ∧ (journalWrite j off data d).span = d.span ∧ (journalWrite j off data d).fab = d.fab ∧ (journalWrite j off data d).lnk = d.lnk ∧ (journalWrite j off data d).cl = d.cl ∧ (journalWrite j off data d).ten = d.ten ∧ (journalWrite j off data d).grants = d.grants ∧ (journalWrite j off data d).dma = d.dma ∧ (journalWrite j off data d).bsu = d.bsu ∧ (journalWrite j off data d).tmr = d.tmr ∧ (journalWrite j off data d).boot = d.boot ∧ (journalWrite j off data d).power = d.power ∧ (journalWrite j off data d).board = d.board ∧ (journalWrite j off data d).flash = d.flash ∧ (journalWrite j off data d).mail = d.mail ∧ (journalWrite j off data d).fuse = d.fuse := by simp [journalWrite]
@[simp] theorem journalAppend_frame (t : Nat) (r : List Byte) (d : Dev) :
    (journalAppend t r d).clk = d.clk ∧ (journalAppend t r d).whl = d.whl ∧ (journalAppend t r d).span = d.span ∧ (journalAppend t r d).fab = d.fab ∧ (journalAppend t r d).lnk = d.lnk ∧ (journalAppend t r d).cl = d.cl ∧ (journalAppend t r d).grants = d.grants ∧ (journalAppend t r d).dma = d.dma ∧ (journalAppend t r d).bsu = d.bsu ∧ (journalAppend t r d).tmr = d.tmr ∧ (journalAppend t r d).boot = d.boot ∧ (journalAppend t r d).power = d.power ∧ (journalAppend t r d).board = d.board ∧ (journalAppend t r d).flash = d.flash ∧ (journalAppend t r d).mail = d.mail ∧ (journalAppend t r d).fuse = d.fuse := by unfold journalAppend; (repeat' split) <;> simp
@[simp] theorem modProgram_frame (t : Nat) (f : Program → Program) (d : Dev) :
    (modProgram t f d).clk = d.clk ∧ (modProgram t f d).whl = d.whl ∧ (modProgram t f d).span = d.span ∧ (modProgram t f d).fab = d.fab ∧ (modProgram t f d).lnk = d.lnk ∧ (modProgram t f d).cl = d.cl ∧ (modProgram t f d).grants = d.grants ∧ (modProgram t f d).host = d.host ∧ (modProgram t f d).dma = d.dma ∧ (modProgram t f d).bsu = d.bsu ∧ (modProgram t f d).tmr = d.tmr ∧ (modProgram t f d).boot = d.boot ∧ (modProgram t f d).power = d.power ∧ (modProgram t f d).board = d.board ∧ (modProgram t f d).flash = d.flash ∧ (modProgram t f d).mail = d.mail ∧ (modProgram t f d).fuse = d.fuse := by simp [modProgram]
@[simp] theorem writeRef_frame (t : Nat) (r : Xfer) (d : Dev) :
    (writeRef t r d).clk = d.clk ∧ (writeRef t r d).whl = d.whl ∧ (writeRef t r d).span = d.span ∧ (writeRef t r d).fab = d.fab ∧ (writeRef t r d).lnk = d.lnk ∧ (writeRef t r d).cl = d.cl ∧ (writeRef t r d).grants = d.grants ∧ (writeRef t r d).dma = d.dma ∧ (writeRef t r d).bsu = d.bsu ∧ (writeRef t r d).tmr = d.tmr ∧ (writeRef t r d).boot = d.boot ∧ (writeRef t r d).power = d.power ∧ (writeRef t r d).board = d.board ∧ (writeRef t r d).flash = d.flash ∧ (writeRef t r d).mail = d.mail ∧ (writeRef t r d).fuse = d.fuse := by unfold writeRef; (repeat' split) <;> simp
@[simp] theorem flushRefs_frame (t : Nat) (d : Dev) :
    (flushRefs t d).clk = d.clk ∧ (flushRefs t d).whl = d.whl ∧ (flushRefs t d).span = d.span ∧ (flushRefs t d).fab = d.fab ∧ (flushRefs t d).lnk = d.lnk ∧ (flushRefs t d).cl = d.cl ∧ (flushRefs t d).grants = d.grants ∧ (flushRefs t d).dma = d.dma ∧ (flushRefs t d).bsu = d.bsu ∧ (flushRefs t d).tmr = d.tmr ∧ (flushRefs t d).boot = d.boot ∧ (flushRefs t d).power = d.power ∧ (flushRefs t d).board = d.board ∧ (flushRefs t d).flash = d.flash ∧ (flushRefs t d).mail = d.mail ∧ (flushRefs t d).fuse = d.fuse := by unfold flushRefs; (repeat' split) <;> simp
@[simp] theorem recordXfer_frame (t : Nat) (r : Xfer) (d : Dev) :
    (recordXfer t r d).clk = d.clk ∧ (recordXfer t r d).whl = d.whl ∧ (recordXfer t r d).span = d.span ∧ (recordXfer t r d).fab = d.fab ∧ (recordXfer t r d).lnk = d.lnk ∧ (recordXfer t r d).cl = d.cl ∧ (recordXfer t r d).grants = d.grants ∧ (recordXfer t r d).dma = d.dma ∧ (recordXfer t r d).bsu = d.bsu ∧ (recordXfer t r d).tmr = d.tmr ∧ (recordXfer t r d).boot = d.boot ∧ (recordXfer t r d).power = d.power ∧ (recordXfer t r d).board = d.board ∧ (recordXfer t r d).flash = d.flash ∧ (recordXfer t r d).mail = d.mail ∧ (recordXfer t r d).fuse = d.fuse := by simp [recordXfer]
@[simp] theorem dropDescs_frame (t : Nat) (d : Dev) :
    (dropDescs t d).clk = d.clk ∧ (dropDescs t d).whl = d.whl ∧ (dropDescs t d).span = d.span ∧ (dropDescs t d).fab = d.fab ∧ (dropDescs t d).lnk = d.lnk ∧ (dropDescs t d).cl = d.cl ∧ (dropDescs t d).grants = d.grants ∧ (dropDescs t d).bsu = d.bsu ∧ (dropDescs t d).tmr = d.tmr ∧ (dropDescs t d).boot = d.boot ∧ (dropDescs t d).power = d.power ∧ (dropDescs t d).board = d.board ∧ (dropDescs t d).flash = d.flash ∧ (dropDescs t d).mail = d.mail ∧ (dropDescs t d).fuse = d.fuse := by simp [dropDescs]
@[simp] theorem journalLaunchEnd_frame (t status fault gc : Nat) (d0 : Dev) :
    (journalLaunchEnd t status fault gc d0).clk = d0.clk ∧ (journalLaunchEnd t status fault gc d0).whl = d0.whl ∧ (journalLaunchEnd t status fault gc d0).span = d0.span ∧ (journalLaunchEnd t status fault gc d0).fab = d0.fab ∧ (journalLaunchEnd t status fault gc d0).lnk = d0.lnk ∧ (journalLaunchEnd t status fault gc d0).cl = d0.cl ∧ (journalLaunchEnd t status fault gc d0).grants = d0.grants ∧ (journalLaunchEnd t status fault gc d0).dma = d0.dma ∧ (journalLaunchEnd t status fault gc d0).bsu = d0.bsu ∧ (journalLaunchEnd t status fault gc d0).tmr = d0.tmr ∧ (journalLaunchEnd t status fault gc d0).boot = d0.boot ∧ (journalLaunchEnd t status fault gc d0).power = d0.power ∧ (journalLaunchEnd t status fault gc d0).board = d0.board ∧ (journalLaunchEnd t status fault gc d0).flash = d0.flash ∧ (journalLaunchEnd t status fault gc d0).mail = d0.mail ∧ (journalLaunchEnd t status fault gc d0).fuse = d0.fuse := by unfold journalLaunchEnd; dsimp only; (repeat' split) <;> simp
@[simp] theorem journalFlush_frame (t : Nat) (d : Dev) :
    (journalFlush t d).clk = d.clk ∧ (journalFlush t d).whl = d.whl ∧ (journalFlush t d).span = d.span ∧ (journalFlush t d).fab = d.fab ∧ (journalFlush t d).lnk = d.lnk ∧ (journalFlush t d).cl = d.cl ∧ (journalFlush t d).grants = d.grants ∧ (journalFlush t d).dma = d.dma ∧ (journalFlush t d).bsu = d.bsu ∧ (journalFlush t d).tmr = d.tmr ∧ (journalFlush t d).boot = d.boot ∧ (journalFlush t d).power = d.power ∧ (journalFlush t d).board = d.board ∧ (journalFlush t d).flash = d.flash ∧ (journalFlush t d).mail = d.mail ∧ (journalFlush t d).fuse = d.fuse := by simp [journalFlush]
@[simp] theorem journalClose_frame (t : Nat) (d0 : Dev) :
    (journalClose t d0).clk = d0.clk ∧ (journalClose t d0).whl = d0.whl ∧ (journalClose t d0).span = d0.span ∧ (journalClose t d0).fab = d0.fab ∧ (journalClose t d0).lnk = d0.lnk ∧ (journalClose t d0).cl = d0.cl ∧ (journalClose t d0).grants = d0.grants ∧ (journalClose t d0).dma = d0.dma ∧ (journalClose t d0).bsu = d0.bsu ∧ (journalClose t d0).tmr = d0.tmr ∧ (journalClose t d0).boot = d0.boot ∧ (journalClose t d0).power = d0.power ∧ (journalClose t d0).board = d0.board ∧ (journalClose t d0).flash = d0.flash ∧ (journalClose t d0).mail = d0.mail ∧ (journalClose t d0).fuse = d0.fuse := by unfold journalClose; dsimp only; (repeat' split) <;> simp
@[simp] theorem opJournalCloseOnVacant_frame (t : Nat) (d : Dev) :
    (opJournalCloseOnVacant t d).clk = d.clk ∧ (opJournalCloseOnVacant t d).whl = d.whl ∧ (opJournalCloseOnVacant t d).span = d.span ∧ (opJournalCloseOnVacant t d).fab = d.fab ∧ (opJournalCloseOnVacant t d).lnk = d.lnk ∧ (opJournalCloseOnVacant t d).cl = d.cl ∧ (opJournalCloseOnVacant t d).grants = d.grants ∧ (opJournalCloseOnVacant t d).dma = d.dma ∧ (opJournalCloseOnVacant t d).bsu = d.bsu ∧ (opJournalCloseOnVacant t d).tmr = d.tmr ∧ (opJournalCloseOnVacant t d).boot = d.boot ∧ (opJournalCloseOnVacant t d).power = d.power ∧ (opJournalCloseOnVacant t d).board = d.board ∧ (opJournalCloseOnVacant t d).flash = d.flash ∧ (opJournalCloseOnVacant t d).mail = d.mail ∧ (opJournalCloseOnVacant t d).fuse = d.fuse := by unfold opJournalCloseOnVacant; (repeat' split) <;> simp

/-! ## Machine/Tenants.lean -/

@[simp] theorem bsuReset_frame (u cause : Nat) (d : Dev) :
    (bsuReset u cause d).clk = d.clk ∧ (bsuReset u cause d).whl = d.whl ∧ (bsuReset u cause d).span = d.span ∧ (bsuReset u cause d).fab = d.fab ∧ (bsuReset u cause d).lnk = d.lnk ∧ (bsuReset u cause d).cl = d.cl ∧ (bsuReset u cause d).grants = d.grants ∧ (bsuReset u cause d).dma = d.dma ∧ (bsuReset u cause d).tmr = d.tmr ∧ (bsuReset u cause d).boot = d.boot ∧ (bsuReset u cause d).power = d.power ∧ (bsuReset u cause d).board = d.board ∧ (bsuReset u cause d).flash = d.flash ∧ (bsuReset u cause d).mail = d.mail ∧ (bsuReset u cause d).fuse = d.fuse := by unfold bsuReset; dsimp only; (repeat' split) <;> simp
@[simp] theorem holdUnits_frame (t gc : Nat) (d : Dev) :
    (holdUnits t gc d).clk = d.clk ∧ (holdUnits t gc d).whl = d.whl ∧ (holdUnits t gc d).span = d.span ∧ (holdUnits t gc d).fab = d.fab ∧ (holdUnits t gc d).lnk = d.lnk ∧ (holdUnits t gc d).cl = d.cl ∧ (holdUnits t gc d).ten = d.ten ∧ (holdUnits t gc d).grants = d.grants ∧ (holdUnits t gc d).host = d.host ∧ (holdUnits t gc d).dma = d.dma ∧ (holdUnits t gc d).tmr = d.tmr ∧ (holdUnits t gc d).boot = d.boot ∧ (holdUnits t gc d).power = d.power ∧ (holdUnits t gc d).board = d.board ∧ (holdUnits t gc d).flash = d.flash ∧ (holdUnits t gc d).mail = d.mail ∧ (holdUnits t gc d).fuse = d.fuse := by unfold holdUnits; (try dsimp only); (repeat' split) <;> simp [apply_ite Dev.clk, apply_ite Dev.whl, apply_ite Dev.span, apply_ite Dev.fab, apply_ite Dev.lnk, apply_ite Dev.cl, apply_ite Dev.ten, apply_ite Dev.grants, apply_ite Dev.host, apply_ite Dev.dma, apply_ite Dev.tmr, apply_ite Dev.boot, apply_ite Dev.power, apply_ite Dev.board, apply_ite Dev.flash, apply_ite Dev.mail, apply_ite Dev.fuse]
@[simp] theorem failFlush_frame (u : Nat) (d : Dev) :
    (failFlush u d).clk = d.clk ∧ (failFlush u d).whl = d.whl ∧ (failFlush u d).span = d.span ∧ (failFlush u d).fab = d.fab ∧ (failFlush u d).lnk = d.lnk ∧ (failFlush u d).cl = d.cl ∧ (failFlush u d).ten = d.ten ∧ (failFlush u d).grants = d.grants ∧ (failFlush u d).dma = d.dma ∧ (failFlush u d).bsu = d.bsu ∧ (failFlush u d).tmr = d.tmr ∧ (failFlush u d).boot = d.boot ∧ (failFlush u d).power = d.power ∧ (failFlush u d).board = d.board ∧ (failFlush u d).flash = d.flash ∧ (failFlush u d).mail = d.mail ∧ (failFlush u d).fuse = d.fuse := by simp [failFlush]
@[simp] theorem releaseUnits_frame (t : Nat) (d : Dev) :
    (releaseUnits t d).clk = d.clk ∧ (releaseUnits t d).whl = d.whl ∧ (releaseUnits t d).span = d.span ∧ (releaseUnits t d).fab = d.fab ∧ (releaseUnits t d).lnk = d.lnk ∧ (releaseUnits t d).cl = d.cl ∧ (releaseUnits t d).grants = d.grants ∧ (releaseUnits t d).dma = d.dma ∧ (releaseUnits t d).tmr = d.tmr ∧ (releaseUnits t d).boot = d.boot ∧ (releaseUnits t d).power = d.power ∧ (releaseUnits t d).board = d.board ∧ (releaseUnits t d).flash = d.flash ∧ (releaseUnits t d).mail = d.mail ∧ (releaseUnits t d).fuse = d.fuse := by unfold releaseUnits; (try dsimp only); (repeat' split) <;> simp [apply_ite Dev.clk, apply_ite Dev.whl, apply_ite Dev.span, apply_ite Dev.fab, apply_ite Dev.lnk, apply_ite Dev.cl, apply_ite Dev.grants, apply_ite Dev.dma, apply_ite Dev.tmr, apply_ite Dev.boot, apply_ite Dev.power, apply_ite Dev.board, apply_ite Dev.flash, apply_ite Dev.mail, apply_ite Dev.fuse]
@[simp] theorem emptyCluster_frame (cl : Nat) (d : Dev) :
    (emptyCluster cl d).clk = d.clk ∧ (emptyCluster cl d).whl = d.whl ∧ (emptyCluster cl d).span = d.span ∧ (emptyCluster cl d).fab = d.fab ∧ (emptyCluster cl d).lnk = d.lnk ∧ (emptyCluster cl d).ten = d.ten ∧ (emptyCluster cl d).grants = d.grants ∧ (emptyCluster cl d).host = d.host ∧ (emptyCluster cl d).dma = d.dma ∧ (emptyCluster cl d).bsu = d.bsu ∧ (emptyCluster cl d).tmr = d.tmr ∧ (emptyCluster cl d).boot = d.boot ∧ (emptyCluster cl d).power = d.power ∧ (emptyCluster cl d).board = d.board ∧ (emptyCluster cl d).flash = d.flash ∧ (emptyCluster cl d).mail = d.mail ∧ (emptyCluster cl d).fuse = d.fuse := by simp [emptyCluster]
@[simp] theorem closeSegs_frame (t : Nat) (d : Dev) :
    (closeSegs t d).clk = d.clk ∧ (closeSegs t d).whl = d.whl ∧ (closeSegs t d).span = d.span ∧ (closeSegs t d).lnk = d.lnk ∧ (closeSegs t d).cl = d.cl ∧ (closeSegs t d).ten = d.ten ∧ (closeSegs t d).grants = d.grants ∧ (closeSegs t d).host = d.host ∧ (closeSegs t d).dma = d.dma ∧ (closeSegs t d).bsu = d.bsu ∧ (closeSegs t d).tmr = d.tmr ∧ (closeSegs t d).boot = d.boot ∧ (closeSegs t d).power = d.power ∧ (closeSegs t d).board = d.board ∧ (closeSegs t d).flash = d.flash ∧ (closeSegs t d).mail = d.mail ∧ (closeSegs t d).fuse = d.fuse := by simp [closeSegs]
@[simp] theorem freePhases_frame (t : Nat) (d : Dev) :
    (freePhases t d).clk = d.clk ∧ (freePhases t d).whl = d.whl ∧ (freePhases t d).span = d.span ∧ (freePhases t d).lnk = d.lnk ∧ (freePhases t d).cl = d.cl ∧ (freePhases t d).ten = d.ten ∧ (freePhases t d).grants = d.grants ∧ (freePhases t d).host = d.host ∧ (freePhases t d).dma = d.dma ∧ (freePhases t d).bsu = d.bsu ∧ (freePhases t d).tmr = d.tmr ∧ (freePhases t d).boot = d.boot ∧ (freePhases t d).power = d.power ∧ (freePhases t d).board = d.board ∧ (freePhases t d).flash = d.flash ∧ (freePhases t d).mail = d.mail ∧ (freePhases t d).fuse = d.fuse := by simp [freePhases]
@[simp] theorem stopHardware_frame (t : Nat) (d : Dev) :
    (stopHardware t d).clk = d.clk ∧ (stopHardware t d).whl = d.whl ∧ (stopHardware t d).span = d.span ∧ (stopHardware t d).lnk = d.lnk ∧ (stopHardware t d).grants = d.grants ∧ (stopHardware t d).bsu = d.bsu ∧ (stopHardware t d).tmr = d.tmr ∧ (stopHardware t d).boot = d.boot ∧ (stopHardware t d).power = d.power ∧ (stopHardware t d).board = d.board ∧ (stopHardware t d).flash = d.flash ∧ (stopHardware t d).mail = d.mail ∧ (stopHardware t d).fuse = d.fuse := by simp [stopHardware]
@[simp] theorem endProgram_frame (t status fault gc : Nat) (halted : Bool) (d : Dev) :
    (endProgram t status fault gc halted d).clk = d.clk ∧ (endProgram t status fault gc halted d).whl = d.whl ∧ (endProgram t status fault gc halted d).span = d.span ∧ (endProgram t status fault gc halted d).fab = d.fab ∧ (endProgram t status fault gc halted d).lnk = d.lnk ∧ (endProgram t status fault gc halted d).grants = d.grants ∧ (endProgram t status fault gc halted d).dma = d.dma ∧ (endProgram t status fault gc halted d).bsu = d.bsu ∧ (endProgram t status fault gc halted d).tmr = d.tmr ∧ (endProgram t status fault gc halted d).boot = d.boot ∧ (endProgram t status fault gc halted d).power = d.power ∧ (endProgram t status fault gc halted d).board = d.board ∧ (endProgram t status fault gc halted d).flash = d.flash ∧ (endProgram t status fault gc halted d).mail = d.mail ∧ (endProgram t status fault gc halted d).fuse = d.fuse := by unfold endProgram; dsimp only; (repeat' split) <;> simp
@[simp] theorem zeroRange_frame (a n : Nat) (d : Dev) :
    (zeroRange a n d).clk = d.clk ∧ (zeroRange a n d).whl = d.whl ∧ (zeroRange a n d).span = d.span ∧ (zeroRange a n d).fab = d.fab ∧ (zeroRange a n d).lnk = d.lnk ∧ (zeroRange a n d).cl = d.cl ∧ (zeroRange a n d).ten = d.ten ∧ (zeroRange a n d).grants = d.grants ∧ (zeroRange a n d).host = d.host ∧ (zeroRange a n d).dma = d.dma ∧ (zeroRange a n d).bsu = d.bsu ∧ (zeroRange a n d).tmr = d.tmr ∧ (zeroRange a n d).boot = d.boot ∧ (zeroRange a n d).power = d.power ∧ (zeroRange a n d).board = d.board ∧ (zeroRange a n d).flash = d.flash ∧ (zeroRange a n d).mail = d.mail ∧ (zeroRange a n d).fuse = d.fuse := by simp [zeroRange]
@[simp] theorem zeroParts_frame (ps : List (Nat × Nat)) (d : Dev) :
    (zeroParts ps d).clk = d.clk ∧ (zeroParts ps d).whl = d.whl ∧ (zeroParts ps d).span = d.span ∧ (zeroParts ps d).fab = d.fab ∧ (zeroParts ps d).lnk = d.lnk ∧ (zeroParts ps d).cl = d.cl ∧ (zeroParts ps d).ten = d.ten ∧ (zeroParts ps d).grants = d.grants ∧ (zeroParts ps d).host = d.host ∧ (zeroParts ps d).dma = d.dma ∧ (zeroParts ps d).bsu = d.bsu ∧ (zeroParts ps d).tmr = d.tmr ∧ (zeroParts ps d).boot = d.boot ∧ (zeroParts ps d).power = d.power ∧ (zeroParts ps d).board = d.board ∧ (zeroParts ps d).flash = d.flash ∧ (zeroParts ps d).mail = d.mail ∧ (zeroParts ps d).fuse = d.fuse := by simp [zeroParts]
@[simp] theorem clearImage_frame (t : Nat) (d : Dev) :
    (clearImage t d).clk = d.clk ∧ (clearImage t d).whl = d.whl ∧ (clearImage t d).span = d.span ∧ (clearImage t d).cl = d.cl ∧ (clearImage t d).grants = d.grants ∧ (clearImage t d).host = d.host ∧ (clearImage t d).dma = d.dma ∧ (clearImage t d).bsu = d.bsu ∧ (clearImage t d).tmr = d.tmr ∧ (clearImage t d).boot = d.boot ∧ (clearImage t d).power = d.power ∧ (clearImage t d).board = d.board ∧ (clearImage t d).flash = d.flash ∧ (clearImage t d).mail = d.mail ∧ (clearImage t d).fuse = d.fuse := by unfold clearImage; (repeat' split) <;> simp
@[simp] theorem stopChannels_frame (mask : Nat) (d : Dev) :
    (stopChannels mask d).clk = d.clk ∧ (stopChannels mask d).whl = d.whl ∧ (stopChannels mask d).span = d.span ∧ (stopChannels mask d).fab = d.fab ∧ (stopChannels mask d).lnk = d.lnk ∧ (stopChannels mask d).cl = d.cl ∧ (stopChannels mask d).ten = d.ten ∧ (stopChannels mask d).grants = d.grants ∧ (stopChannels mask d).host = d.host ∧ (stopChannels mask d).dma = d.dma ∧ (stopChannels mask d).bsu = d.bsu ∧ (stopChannels mask d).boot = d.boot ∧ (stopChannels mask d).power = d.power ∧ (stopChannels mask d).board = d.board ∧ (stopChannels mask d).flash = d.flash ∧ (stopChannels mask d).mail = d.mail ∧ (stopChannels mask d).fuse = d.fuse := by simp [stopChannels]
@[simp] theorem becomeVacant_frame (t : Nat) (d : Dev) :
    (becomeVacant t d).clk = d.clk ∧ (becomeVacant t d).whl = d.whl ∧ (becomeVacant t d).span = d.span ∧ (becomeVacant t d).fab = d.fab ∧ (becomeVacant t d).lnk = d.lnk ∧ (becomeVacant t d).cl = d.cl ∧ (becomeVacant t d).grants = d.grants ∧ (becomeVacant t d).dma = d.dma ∧ (becomeVacant t d).boot = d.boot ∧ (becomeVacant t d).power = d.power ∧ (becomeVacant t d).board = d.board ∧ (becomeVacant t d).flash = d.flash ∧ (becomeVacant t d).mail = d.mail ∧ (becomeVacant t d).fuse = d.fuse := by unfold becomeVacant; (repeat' split) <;> simp
@[simp] theorem undoLoad_frame (t status fault : Nat) (d : Dev) :
    (undoLoad t status fault d).clk = d.clk ∧ (undoLoad t status fault d).whl = d.whl ∧ (undoLoad t status fault d).span = d.span ∧ (undoLoad t status fault d).fab = d.fab ∧ (undoLoad t status fault d).lnk = d.lnk ∧ (undoLoad t status fault d).cl = d.cl ∧ (undoLoad t status fault d).grants = d.grants ∧ (undoLoad t status fault d).dma = d.dma ∧ (undoLoad t status fault d).bsu = d.bsu ∧ (undoLoad t status fault d).tmr = d.tmr ∧ (undoLoad t status fault d).boot = d.boot ∧ (undoLoad t status fault d).power = d.power ∧ (undoLoad t status fault d).board = d.board ∧ (undoLoad t status fault d).flash = d.flash ∧ (undoLoad t status fault d).mail = d.mail ∧ (undoLoad t status fault d).fuse = d.fuse := by unfold undoLoad; (repeat' split) <;> simp
@[simp] theorem beginDrain_frame (t : Nat) (d : Dev) :
    (beginDrain t d).clk = d.clk ∧ (beginDrain t d).whl = d.whl ∧ (beginDrain t d).span = d.span ∧ (beginDrain t d).cl = d.cl ∧ (beginDrain t d).grants = d.grants ∧ (beginDrain t d).dma = d.dma ∧ (beginDrain t d).tmr = d.tmr ∧ (beginDrain t d).boot = d.boot ∧ (beginDrain t d).power = d.power ∧ (beginDrain t d).board = d.board ∧ (beginDrain t d).flash = d.flash ∧ (beginDrain t d).mail = d.mail ∧ (beginDrain t d).fuse = d.fuse := by simp [beginDrain]
@[simp] theorem opZeroingDone_frame (t : Nat) (d0 : Dev) :
    (opZeroingDone t d0).clk = d0.clk ∧ (opZeroingDone t d0).whl = d0.whl ∧ (opZeroingDone t d0).span = d0.span ∧ (opZeroingDone t d0).cl = d0.cl ∧ (opZeroingDone t d0).grants = d0.grants ∧ (opZeroingDone t d0).dma = d0.dma ∧ (opZeroingDone t d0).boot = d0.boot ∧ (opZeroingDone t d0).power = d0.power ∧ (opZeroingDone t d0).board = d0.board ∧ (opZeroingDone t d0).flash = d0.flash ∧ (opZeroingDone t d0).mail = d0.mail ∧ (opZeroingDone t d0).fuse = d0.fuse := by unfold opZeroingDone; dsimp only; (repeat' split) <;> simp
@[simp] theorem revokeTenancy_frame (t gc : Nat) (d : Dev) :
    (revokeTenancy t gc d).clk = d.clk ∧ (revokeTenancy t gc d).whl = d.whl ∧ (revokeTenancy t gc d).span = d.span ∧ (revokeTenancy t gc d).lnk = d.lnk ∧ (revokeTenancy t gc d).grants = d.grants ∧ (revokeTenancy t gc d).tmr = d.tmr ∧ (revokeTenancy t gc d).boot = d.boot ∧ (revokeTenancy t gc d).power = d.power ∧ (revokeTenancy t gc d).board = d.board ∧ (revokeTenancy t gc d).flash = d.flash ∧ (revokeTenancy t gc d).mail = d.mail ∧ (revokeTenancy t gc d).fuse = d.fuse := by unfold revokeTenancy; dsimp only; (repeat' split) <;> simp
@[simp] theorem shrinkTenancy_frame (t gc : Nat) (a b : GrantRec) (d : Dev) :
    (shrinkTenancy t gc a b d).clk = d.clk ∧ (shrinkTenancy t gc a b d).whl = d.whl ∧ (shrinkTenancy t gc a b d).span = d.span ∧ (shrinkTenancy t gc a b d).lnk = d.lnk ∧ (shrinkTenancy t gc a b d).grants = d.grants ∧ (shrinkTenancy t gc a b d).tmr = d.tmr ∧ (shrinkTenancy t gc a b d).boot = d.boot ∧ (shrinkTenancy t gc a b d).power = d.power ∧ (shrinkTenancy t gc a b d).board = d.board ∧ (shrinkTenancy t gc a b d).flash = d.flash ∧ (shrinkTenancy t gc a b d).mail = d.mail ∧ (shrinkTenancy t gc a b d).fuse = d.fuse := by unfold shrinkTenancy; (repeat' split) <;> simp
@[simp] theorem rehomeRings_frame (t : Nat) (a b : GrantRec) (d : Dev) :
    (rehomeRings t a b d).clk = d.clk ∧ (rehomeRings t a b d).whl = d.whl ∧ (rehomeRings t a b d).span = d.span ∧ (rehomeRings t a b d).fab = d.fab ∧ (rehomeRings t a b d).lnk = d.lnk ∧ (rehomeRings t a b d).cl = d.cl ∧ (rehomeRings t a b d).grants = d.grants ∧ (rehomeRings t a b d).dma = d.dma ∧ (rehomeRings t a b d).bsu = d.bsu ∧ (rehomeRings t a b d).tmr = d.tmr ∧ (rehomeRings t a b d).boot = d.boot ∧ (rehomeRings t a b d).power = d.power ∧ (rehomeRings t a b d).board = d.board ∧ (rehomeRings t a b d).flash = d.flash ∧ (rehomeRings t a b d).mail = d.mail ∧ (rehomeRings t a b d).fuse = d.fuse := by unfold rehomeRings; (try dsimp only); (repeat' split) <;> simp [apply_ite Dev.clk, apply_ite Dev.whl, apply_ite Dev.span, apply_ite Dev.fab, apply_ite Dev.lnk, apply_ite Dev.cl, apply_ite Dev.grants, apply_ite Dev.dma, apply_ite Dev.bsu, apply_ite Dev.tmr, apply_ite Dev.boot, apply_ite Dev.power, apply_ite Dev.board, apply_ite Dev.flash, apply_ite Dev.mail, apply_ite Dev.fuse]
@[simp] theorem putRecord_frame (t gc : Nat) (b : GrantRec) (d : Dev) :
    (putRecord t gc b d).clk = d.clk ∧ (putRecord t gc b d).whl = d.whl ∧ (putRecord t gc b d).span = d.span ∧ (putRecord t gc b d).lnk = d.lnk ∧ (putRecord t gc b d).boot = d.boot ∧ (putRecord t gc b d).power = d.power ∧ (putRecord t gc b d).board = d.board ∧ (putRecord t gc b d).flash = d.flash ∧ (putRecord t gc b d).mail = d.mail ∧ (putRecord t gc b d).fuse = d.fuse := by unfold putRecord; dsimp only; (repeat' split) <;> simp
@[simp] theorem putSet_frame (gc : Nat) (g : Nat → GrantRec) (d : Dev) :
    (putSet gc g d).clk = d.clk ∧ (putSet gc g d).whl = d.whl ∧ (putSet gc g d).span = d.span ∧ (putSet gc g d).lnk = d.lnk ∧ (putSet gc g d).boot = d.boot ∧ (putSet gc g d).power = d.power ∧ (putSet gc g d).board = d.board ∧ (putSet gc g d).flash = d.flash ∧ (putSet gc g d).mail = d.mail ∧ (putSet gc g d).fuse = d.fuse := by simp [putSet]

/-! ## Machine/Wheel.lean -/

@[simp] theorem opWheelCounterStart_frame (d : Dev) :
    (opWheelCounterStart d).clk = d.clk ∧ (opWheelCounterStart d).span = d.span ∧ (opWheelCounterStart d).fab = d.fab ∧ (opWheelCounterStart d).lnk = d.lnk ∧ (opWheelCounterStart d).cl = d.cl ∧ (opWheelCounterStart d).ten = d.ten ∧ (opWheelCounterStart d).grants = d.grants ∧ (opWheelCounterStart d).host = d.host ∧ (opWheelCounterStart d).dma = d.dma ∧ (opWheelCounterStart d).bsu = d.bsu ∧ (opWheelCounterStart d).tmr = d.tmr ∧ (opWheelCounterStart d).boot = d.boot ∧ (opWheelCounterStart d).power = d.power ∧ (opWheelCounterStart d).board = d.board ∧ (opWheelCounterStart d).flash = d.flash ∧ (opWheelCounterStart d).mail = d.mail ∧ (opWheelCounterStart d).fuse = d.fuse := by unfold opWheelCounterStart; (repeat' split) <;> simp
@[simp] theorem turn_frame (slip : Bool) (n g : Nat) (d : Dev) :
    (turn slip n g d).clk = d.clk ∧ (turn slip n g d).fab = d.fab ∧ (turn slip n g d).cl = d.cl ∧ (turn slip n g d).ten = d.ten ∧ (turn slip n g d).grants = d.grants ∧ (turn slip n g d).dma = d.dma ∧ (turn slip n g d).bsu = d.bsu ∧ (turn slip n g d).tmr = d.tmr ∧ (turn slip n g d).power = d.power ∧ (turn slip n g d).board = d.board ∧ (turn slip n g d).flash = d.flash ∧ (turn slip n g d).mail = d.mail ∧ (turn slip n g d).fuse = d.fuse := by unfold turn; dsimp only; (repeat' split) <;> simp
@[simp] theorem opWheelStart_frame (d : Dev) :
    (opWheelStart d).clk = d.clk ∧ (opWheelStart d).fab = d.fab ∧ (opWheelStart d).cl = d.cl ∧ (opWheelStart d).ten = d.ten ∧ (opWheelStart d).grants = d.grants ∧ (opWheelStart d).dma = d.dma ∧ (opWheelStart d).bsu = d.bsu ∧ (opWheelStart d).tmr = d.tmr ∧ (opWheelStart d).power = d.power ∧ (opWheelStart d).board = d.board ∧ (opWheelStart d).flash = d.flash ∧ (opWheelStart d).mail = d.mail ∧ (opWheelStart d).fuse = d.fuse := by unfold opWheelStart; (repeat' split) <;> simp
@[simp] theorem opSlipInsert_frame (d : Dev) :
    (opSlipInsert d).clk = d.clk ∧ (opSlipInsert d).fab = d.fab ∧ (opSlipInsert d).cl = d.cl ∧ (opSlipInsert d).grants = d.grants ∧ (opSlipInsert d).dma = d.dma ∧ (opSlipInsert d).bsu = d.bsu ∧ (opSlipInsert d).tmr = d.tmr ∧ (opSlipInsert d).power = d.power ∧ (opSlipInsert d).board = d.board ∧ (opSlipInsert d).flash = d.flash ∧ (opSlipInsert d).mail = d.mail ∧ (opSlipInsert d).fuse = d.fuse := by unfold opSlipInsert; (repeat' split) <;> simp
@[simp] theorem opSlippedWheelEnd_frame (d : Dev) :
    (opSlippedWheelEnd d).clk = d.clk ∧ (opSlippedWheelEnd d).fab = d.fab ∧ (opSlippedWheelEnd d).cl = d.cl ∧ (opSlippedWheelEnd d).ten = d.ten ∧ (opSlippedWheelEnd d).grants = d.grants ∧ (opSlippedWheelEnd d).dma = d.dma ∧ (opSlippedWheelEnd d).bsu = d.bsu ∧ (opSlippedWheelEnd d).tmr = d.tmr ∧ (opSlippedWheelEnd d).power = d.power ∧ (opSlippedWheelEnd d).board = d.board ∧ (opSlippedWheelEnd d).flash = d.flash ∧ (opSlippedWheelEnd d).mail = d.mail ∧ (opSlippedWheelEnd d).fuse = d.fuse := by unfold opSlippedWheelEnd; (repeat' split) <;> simp
@[simp] theorem takeRequests_frame (d : Dev) :
    (takeRequests d).clk = d.clk ∧ (takeRequests d).whl = d.whl ∧ (takeRequests d).fab = d.fab ∧ (takeRequests d).lnk = d.lnk ∧ (takeRequests d).cl = d.cl ∧ (takeRequests d).ten = d.ten ∧ (takeRequests d).grants = d.grants ∧ (takeRequests d).host = d.host ∧ (takeRequests d).dma = d.dma ∧ (takeRequests d).bsu = d.bsu ∧ (takeRequests d).tmr = d.tmr ∧ (takeRequests d).boot = d.boot ∧ (takeRequests d).power = d.power ∧ (takeRequests d).board = d.board ∧ (takeRequests d).flash = d.flash ∧ (takeRequests d).mail = d.mail ∧ (takeRequests d).fuse = d.fuse := by unfold takeRequests; dsimp only; (repeat' split) <;> simp
@[simp] theorem opPhaseStart_frame (p : Nat) (d : Dev) :
    (opPhaseStart p d).clk = d.clk ∧ (opPhaseStart p d).fab = d.fab ∧ (opPhaseStart p d).lnk = d.lnk ∧ (opPhaseStart p d).cl = d.cl ∧ (opPhaseStart p d).ten = d.ten ∧ (opPhaseStart p d).grants = d.grants ∧ (opPhaseStart p d).host = d.host ∧ (opPhaseStart p d).dma = d.dma ∧ (opPhaseStart p d).bsu = d.bsu ∧ (opPhaseStart p d).tmr = d.tmr ∧ (opPhaseStart p d).boot = d.boot ∧ (opPhaseStart p d).power = d.power ∧ (opPhaseStart p d).board = d.board ∧ (opPhaseStart p d).flash = d.flash ∧ (opPhaseStart p d).mail = d.mail ∧ (opPhaseStart p d).fuse = d.fuse := by unfold opPhaseStart; (repeat' split) <;> simp
@[simp] theorem opGuardApplied_frame (d : Dev) :
    (opGuardApplied d).clk = d.clk ∧ (opGuardApplied d).fab = d.fab ∧ (opGuardApplied d).lnk = d.lnk ∧ (opGuardApplied d).cl = d.cl ∧ (opGuardApplied d).ten = d.ten ∧ (opGuardApplied d).grants = d.grants ∧ (opGuardApplied d).host = d.host ∧ (opGuardApplied d).dma = d.dma ∧ (opGuardApplied d).bsu = d.bsu ∧ (opGuardApplied d).tmr = d.tmr ∧ (opGuardApplied d).boot = d.boot ∧ (opGuardApplied d).power = d.power ∧ (opGuardApplied d).board = d.board ∧ (opGuardApplied d).flash = d.flash ∧ (opGuardApplied d).mail = d.mail ∧ (opGuardApplied d).fuse = d.fuse := by unfold opGuardApplied; dsimp only; (repeat' split) <;> simp
@[simp] theorem opWheelMarkerSend_frame (l : Nat) (d : Dev) :
    (opWheelMarkerSend l d).clk = d.clk ∧ (opWheelMarkerSend l d).whl = d.whl ∧ (opWheelMarkerSend l d).span = d.span ∧ (opWheelMarkerSend l d).lnk = d.lnk ∧ (opWheelMarkerSend l d).cl = d.cl ∧ (opWheelMarkerSend l d).ten = d.ten ∧ (opWheelMarkerSend l d).grants = d.grants ∧ (opWheelMarkerSend l d).host = d.host ∧ (opWheelMarkerSend l d).dma = d.dma ∧ (opWheelMarkerSend l d).bsu = d.bsu ∧ (opWheelMarkerSend l d).tmr = d.tmr ∧ (opWheelMarkerSend l d).boot = d.boot ∧ (opWheelMarkerSend l d).power = d.power ∧ (opWheelMarkerSend l d).board = d.board ∧ (opWheelMarkerSend l d).flash = d.flash ∧ (opWheelMarkerSend l d).mail = d.mail ∧ (opWheelMarkerSend l d).fuse = d.fuse := by unfold opWheelMarkerSend; dsimp only; (repeat' split) <;> simp
@[simp] theorem adoptMarker_frame (m : Marker) (l at16 : Nat) (d : Dev) :
    (adoptMarker m l at16 d).clk = d.clk ∧ (adoptMarker m l at16 d).whl = d.whl ∧ (adoptMarker m l at16 d).fab = d.fab ∧ (adoptMarker m l at16 d).lnk = d.lnk ∧ (adoptMarker m l at16 d).cl = d.cl ∧ (adoptMarker m l at16 d).ten = d.ten ∧ (adoptMarker m l at16 d).grants = d.grants ∧ (adoptMarker m l at16 d).host = d.host ∧ (adoptMarker m l at16 d).dma = d.dma ∧ (adoptMarker m l at16 d).bsu = d.bsu ∧ (adoptMarker m l at16 d).tmr = d.tmr ∧ (adoptMarker m l at16 d).boot = d.boot ∧ (adoptMarker m l at16 d).power = d.power ∧ (adoptMarker m l at16 d).board = d.board ∧ (adoptMarker m l at16 d).flash = d.flash ∧ (adoptMarker m l at16 d).mail = d.mail ∧ (adoptMarker m l at16 d).fuse = d.fuse := by simp [adoptMarker]
@[simp] theorem opWheelMarkerReceive_frame (l at16 : Nat) (d : Dev) :
    (opWheelMarkerReceive l at16 d).clk = d.clk ∧ (opWheelMarkerReceive l at16 d).whl = d.whl ∧ (opWheelMarkerReceive l at16 d).fab = d.fab ∧ (opWheelMarkerReceive l at16 d).cl = d.cl ∧ (opWheelMarkerReceive l at16 d).ten = d.ten ∧ (opWheelMarkerReceive l at16 d).grants = d.grants ∧ (opWheelMarkerReceive l at16 d).host = d.host ∧ (opWheelMarkerReceive l at16 d).dma = d.dma ∧ (opWheelMarkerReceive l at16 d).bsu = d.bsu ∧ (opWheelMarkerReceive l at16 d).tmr = d.tmr ∧ (opWheelMarkerReceive l at16 d).boot = d.boot ∧ (opWheelMarkerReceive l at16 d).power = d.power ∧ (opWheelMarkerReceive l at16 d).board = d.board ∧ (opWheelMarkerReceive l at16 d).flash = d.flash ∧ (opWheelMarkerReceive l at16 d).mail = d.mail ∧ (opWheelMarkerReceive l at16 d).fuse = d.fuse := by unfold opWheelMarkerReceive; dsimp only; (repeat' split) <;> simp
@[simp] theorem spanOfOne_frame (d : Dev) :
    (spanOfOne d).clk = d.clk ∧ (spanOfOne d).whl = d.whl ∧ (spanOfOne d).fab = d.fab ∧ (spanOfOne d).lnk = d.lnk ∧ (spanOfOne d).cl = d.cl ∧ (spanOfOne d).ten = d.ten ∧ (spanOfOne d).grants = d.grants ∧ (spanOfOne d).host = d.host ∧ (spanOfOne d).dma = d.dma ∧ (spanOfOne d).bsu = d.bsu ∧ (spanOfOne d).tmr = d.tmr ∧ (spanOfOne d).boot = d.boot ∧ (spanOfOne d).power = d.power ∧ (spanOfOne d).board = d.board ∧ (spanOfOne d).flash = d.flash ∧ (spanOfOne d).mail = d.mail ∧ (spanOfOne d).fuse = d.fuse := by simp [spanOfOne]
@[simp] theorem spanStop_frame (t : Nat) (d : Dev) :
    (spanStop t d).clk = d.clk ∧ (spanStop t d).whl = d.whl ∧ (spanStop t d).span = d.span ∧ (spanStop t d).lnk = d.lnk ∧ (spanStop t d).grants = d.grants ∧ (spanStop t d).tmr = d.tmr ∧ (spanStop t d).boot = d.boot ∧ (spanStop t d).power = d.power ∧ (spanStop t d).board = d.board ∧ (spanStop t d).flash = d.flash ∧ (spanStop t d).mail = d.mail ∧ (spanStop t d).fuse = d.fuse := by unfold spanStop; (repeat' split) <;> simp
@[simp] theorem opSpanHalt_frame (d : Dev) :
    (opSpanHalt d).clk = d.clk ∧ (opSpanHalt d).whl = d.whl ∧ (opSpanHalt d).grants = d.grants ∧ (opSpanHalt d).tmr = d.tmr ∧ (opSpanHalt d).boot = d.boot ∧ (opSpanHalt d).power = d.power ∧ (opSpanHalt d).board = d.board ∧ (opSpanHalt d).flash = d.flash ∧ (opSpanHalt d).mail = d.mail ∧ (opSpanHalt d).fuse = d.fuse := by unfold opSpanHalt; (repeat' split) <;> simp
@[simp] theorem opSlipLimit_frame (d : Dev) :
    (opSlipLimit d).clk = d.clk ∧ (opSlipLimit d).whl = d.whl ∧ (opSlipLimit d).fab = d.fab ∧ (opSlipLimit d).lnk = d.lnk ∧ (opSlipLimit d).cl = d.cl ∧ (opSlipLimit d).grants = d.grants ∧ (opSlipLimit d).dma = d.dma ∧ (opSlipLimit d).bsu = d.bsu ∧ (opSlipLimit d).tmr = d.tmr ∧ (opSlipLimit d).boot = d.boot ∧ (opSlipLimit d).power = d.power ∧ (opSlipLimit d).board = d.board ∧ (opSlipLimit d).flash = d.flash ∧ (opSlipLimit d).mail = d.mail ∧ (opSlipLimit d).fuse = d.fuse := by unfold opSlipLimit; (repeat' split) <;> simp
@[simp] theorem opMasterTakeover_frame (d : Dev) :
    (opMasterTakeover d).clk = d.clk ∧ (opMasterTakeover d).whl = d.whl ∧ (opMasterTakeover d).fab = d.fab ∧ (opMasterTakeover d).lnk = d.lnk ∧ (opMasterTakeover d).cl = d.cl ∧ (opMasterTakeover d).ten = d.ten ∧ (opMasterTakeover d).grants = d.grants ∧ (opMasterTakeover d).host = d.host ∧ (opMasterTakeover d).dma = d.dma ∧ (opMasterTakeover d).bsu = d.bsu ∧ (opMasterTakeover d).tmr = d.tmr ∧ (opMasterTakeover d).boot = d.boot ∧ (opMasterTakeover d).power = d.power ∧ (opMasterTakeover d).board = d.board ∧ (opMasterTakeover d).flash = d.flash ∧ (opMasterTakeover d).mail = d.mail ∧ (opMasterTakeover d).fuse = d.fuse := by unfold opMasterTakeover; dsimp only; (repeat' split) <;> simp
@[simp] theorem opMarkerLossHalt_frame (d : Dev) :
    (opMarkerLossHalt d).clk = d.clk ∧ (opMarkerLossHalt d).whl = d.whl ∧ (opMarkerLossHalt d).fab = d.fab ∧ (opMarkerLossHalt d).lnk = d.lnk ∧ (opMarkerLossHalt d).cl = d.cl ∧ (opMarkerLossHalt d).ten = d.ten ∧ (opMarkerLossHalt d).grants = d.grants ∧ (opMarkerLossHalt d).host = d.host ∧ (opMarkerLossHalt d).dma = d.dma ∧ (opMarkerLossHalt d).bsu = d.bsu ∧ (opMarkerLossHalt d).tmr = d.tmr ∧ (opMarkerLossHalt d).boot = d.boot ∧ (opMarkerLossHalt d).power = d.power ∧ (opMarkerLossHalt d).board = d.board ∧ (opMarkerLossHalt d).flash = d.flash ∧ (opMarkerLossHalt d).mail = d.mail ∧ (opMarkerLossHalt d).fuse = d.fuse := by unfold opMarkerLossHalt; (repeat' split) <;> simp
@[simp] theorem skipLaunches_clk (gc : Nat) (d : Dev) : (skipLaunches gc d).clk = d.clk := by
  unfold skipLaunches
  refine foldl_clk _ (fun a t => ?_) _ _
  split <;> (try split) <;> simp
@[simp] theorem skipLaunches_whl (gc : Nat) (d : Dev) : (skipLaunches gc d).whl = d.whl := by
  unfold skipLaunches
  refine foldl_whl _ (fun a t => ?_) _ _
  split <;> (try split) <;> simp
@[simp] theorem skipLaunches_span (gc : Nat) (d : Dev) : (skipLaunches gc d).span = d.span := by
  unfold skipLaunches
  refine foldl_span _ (fun a t => ?_) _ _
  split <;> (try split) <;> simp
@[simp] theorem skipLaunches_lnk (gc : Nat) (d : Dev) : (skipLaunches gc d).lnk = d.lnk := by
  unfold skipLaunches
  refine foldl_lnk _ (fun a t => ?_) _ _
  split <;> (try split) <;> simp
@[simp] theorem skipLaunches_grants (gc : Nat) (d : Dev) : (skipLaunches gc d).grants = d.grants := by
  unfold skipLaunches
  refine foldl_grants _ (fun a t => ?_) _ _
  split <;> (try split) <;> simp
@[simp] theorem skipLaunches_dma (gc : Nat) (d : Dev) : (skipLaunches gc d).dma = d.dma := by
  unfold skipLaunches
  refine foldl_dma _ (fun a t => ?_) _ _
  split <;> (try split) <;> simp
@[simp] theorem skipLaunches_bsu (gc : Nat) (d : Dev) : (skipLaunches gc d).bsu = d.bsu := by
  unfold skipLaunches
  refine foldl_bsu _ (fun a t => ?_) _ _
  split <;> (try split) <;> simp
@[simp] theorem skipLaunches_tmr (gc : Nat) (d : Dev) : (skipLaunches gc d).tmr = d.tmr := by
  unfold skipLaunches
  refine foldl_tmr _ (fun a t => ?_) _ _
  split <;> (try split) <;> simp
@[simp] theorem skipLaunches_boot (gc : Nat) (d : Dev) : (skipLaunches gc d).boot = d.boot := by
  unfold skipLaunches
  refine foldl_boot _ (fun a t => ?_) _ _
  split <;> (try split) <;> simp
@[simp] theorem skipLaunches_power (gc : Nat) (d : Dev) : (skipLaunches gc d).power = d.power := by
  unfold skipLaunches
  refine foldl_power _ (fun a t => ?_) _ _
  split <;> (try split) <;> simp
@[simp] theorem skipLaunches_board (gc : Nat) (d : Dev) : (skipLaunches gc d).board = d.board := by
  unfold skipLaunches
  refine foldl_board _ (fun a t => ?_) _ _
  split <;> (try split) <;> simp
@[simp] theorem skipLaunches_flash (gc : Nat) (d : Dev) : (skipLaunches gc d).flash = d.flash := by
  unfold skipLaunches
  refine foldl_flash _ (fun a t => ?_) _ _
  split <;> (try split) <;> simp
@[simp] theorem skipLaunches_mail (gc : Nat) (d : Dev) : (skipLaunches gc d).mail = d.mail := by
  unfold skipLaunches
  refine foldl_mail _ (fun a t => ?_) _ _
  split <;> (try split) <;> simp
@[simp] theorem skipLaunches_fuse (gc : Nat) (d : Dev) : (skipLaunches gc d).fuse = d.fuse := by
  unfold skipLaunches
  refine foldl_fuse _ (fun a t => ?_) _ _
  split <;> (try split) <;> simp
@[simp] theorem opSpanFormed_frame (d : Dev) :
    (opSpanFormed d).clk = d.clk ∧ (opSpanFormed d).grants = d.grants ∧ (opSpanFormed d).dma = d.dma ∧ (opSpanFormed d).bsu = d.bsu ∧ (opSpanFormed d).tmr = d.tmr ∧ (opSpanFormed d).power = d.power ∧ (opSpanFormed d).board = d.board ∧ (opSpanFormed d).flash = d.flash ∧ (opSpanFormed d).mail = d.mail ∧ (opSpanFormed d).fuse = d.fuse := by unfold opSpanFormed; dsimp only; (repeat' split) <;> simp
@[simp] theorem opFormingStretch_frame (d : Dev) :
    (opFormingStretch d).clk = d.clk ∧ (opFormingStretch d).fab = d.fab ∧ (opFormingStretch d).lnk = d.lnk ∧ (opFormingStretch d).cl = d.cl ∧ (opFormingStretch d).ten = d.ten ∧ (opFormingStretch d).grants = d.grants ∧ (opFormingStretch d).host = d.host ∧ (opFormingStretch d).dma = d.dma ∧ (opFormingStretch d).bsu = d.bsu ∧ (opFormingStretch d).tmr = d.tmr ∧ (opFormingStretch d).boot = d.boot ∧ (opFormingStretch d).power = d.power ∧ (opFormingStretch d).board = d.board ∧ (opFormingStretch d).flash = d.flash ∧ (opFormingStretch d).mail = d.mail ∧ (opFormingStretch d).fuse = d.fuse := by unfold opFormingStretch; dsimp only; (repeat' split) <;> simp
@[simp] theorem opFormingTimeout_frame (d : Dev) :
    (opFormingTimeout d).clk = d.clk ∧ (opFormingTimeout d).whl = d.whl ∧ (opFormingTimeout d).fab = d.fab ∧ (opFormingTimeout d).lnk = d.lnk ∧ (opFormingTimeout d).cl = d.cl ∧ (opFormingTimeout d).ten = d.ten ∧ (opFormingTimeout d).grants = d.grants ∧ (opFormingTimeout d).dma = d.dma ∧ (opFormingTimeout d).bsu = d.bsu ∧ (opFormingTimeout d).tmr = d.tmr ∧ (opFormingTimeout d).boot = d.boot ∧ (opFormingTimeout d).power = d.power ∧ (opFormingTimeout d).board = d.board ∧ (opFormingTimeout d).flash = d.flash ∧ (opFormingTimeout d).mail = d.mail ∧ (opFormingTimeout d).fuse = d.fuse := by unfold opFormingTimeout; (repeat' split) <;> simp
@[simp] theorem opSyncInEdge_frame (t : Nat) (d : Dev) :
    (opSyncInEdge t d).clk = d.clk ∧ (opSyncInEdge t d).span = d.span ∧ (opSyncInEdge t d).fab = d.fab ∧ (opSyncInEdge t d).lnk = d.lnk ∧ (opSyncInEdge t d).cl = d.cl ∧ (opSyncInEdge t d).ten = d.ten ∧ (opSyncInEdge t d).grants = d.grants ∧ (opSyncInEdge t d).host = d.host ∧ (opSyncInEdge t d).dma = d.dma ∧ (opSyncInEdge t d).bsu = d.bsu ∧ (opSyncInEdge t d).tmr = d.tmr ∧ (opSyncInEdge t d).boot = d.boot ∧ (opSyncInEdge t d).power = d.power ∧ (opSyncInEdge t d).board = d.board ∧ (opSyncInEdge t d).flash = d.flash ∧ (opSyncInEdge t d).mail = d.mail ∧ (opSyncInEdge t d).fuse = d.fuse := by unfold opSyncInEdge; (repeat' split) <;> simp
@[simp] theorem opSyncLost_frame (d : Dev) :
    (opSyncLost d).clk = d.clk ∧ (opSyncLost d).span = d.span ∧ (opSyncLost d).fab = d.fab ∧ (opSyncLost d).lnk = d.lnk ∧ (opSyncLost d).cl = d.cl ∧ (opSyncLost d).ten = d.ten ∧ (opSyncLost d).grants = d.grants ∧ (opSyncLost d).host = d.host ∧ (opSyncLost d).dma = d.dma ∧ (opSyncLost d).bsu = d.bsu ∧ (opSyncLost d).tmr = d.tmr ∧ (opSyncLost d).boot = d.boot ∧ (opSyncLost d).power = d.power ∧ (opSyncLost d).board = d.board ∧ (opSyncLost d).flash = d.flash ∧ (opSyncLost d).mail = d.mail ∧ (opSyncLost d).fuse = d.fuse := by unfold opSyncLost; (repeat' split) <;> simp
@[simp] theorem opSyncDisagree_frame (d : Dev) :
    (opSyncDisagree d).clk = d.clk ∧ (opSyncDisagree d).fab = d.fab ∧ (opSyncDisagree d).lnk = d.lnk ∧ (opSyncDisagree d).cl = d.cl ∧ (opSyncDisagree d).ten = d.ten ∧ (opSyncDisagree d).grants = d.grants ∧ (opSyncDisagree d).host = d.host ∧ (opSyncDisagree d).dma = d.dma ∧ (opSyncDisagree d).bsu = d.bsu ∧ (opSyncDisagree d).tmr = d.tmr ∧ (opSyncDisagree d).boot = d.boot ∧ (opSyncDisagree d).power = d.power ∧ (opSyncDisagree d).board = d.board ∧ (opSyncDisagree d).flash = d.flash ∧ (opSyncDisagree d).mail = d.mail ∧ (opSyncDisagree d).fuse = d.fuse := by unfold opSyncDisagree; (repeat' split) <;> simp
@[simp] theorem opSpanLeaveEffect_frame (d : Dev) :
    (opSpanLeaveEffect d).clk = d.clk ∧ (opSpanLeaveEffect d).whl = d.whl ∧ (opSpanLeaveEffect d).fab = d.fab ∧ (opSpanLeaveEffect d).lnk = d.lnk ∧ (opSpanLeaveEffect d).cl = d.cl ∧ (opSpanLeaveEffect d).ten = d.ten ∧ (opSpanLeaveEffect d).grants = d.grants ∧ (opSpanLeaveEffect d).dma = d.dma ∧ (opSpanLeaveEffect d).bsu = d.bsu ∧ (opSpanLeaveEffect d).tmr = d.tmr ∧ (opSpanLeaveEffect d).boot = d.boot ∧ (opSpanLeaveEffect d).power = d.power ∧ (opSpanLeaveEffect d).board = d.board ∧ (opSpanLeaveEffect d).flash = d.flash ∧ (opSpanLeaveEffect d).mail = d.mail ∧ (opSpanLeaveEffect d).fuse = d.fuse := by unfold opSpanLeaveEffect; (repeat' split) <;> simp

/-! ## Machine/Links.lean -/

@[simp] theorem countLink_frame (l : Nat) (f : LinkCtr → LinkCtr) (d : Dev) :
    (countLink l f d).clk = d.clk ∧ (countLink l f d).whl = d.whl ∧ (countLink l f d).span = d.span ∧ (countLink l f d).fab = d.fab ∧ (countLink l f d).cl = d.cl ∧ (countLink l f d).ten = d.ten ∧ (countLink l f d).grants = d.grants ∧ (countLink l f d).host = d.host ∧ (countLink l f d).dma = d.dma ∧ (countLink l f d).bsu = d.bsu ∧ (countLink l f d).tmr = d.tmr ∧ (countLink l f d).boot = d.boot ∧ (countLink l f d).power = d.power ∧ (countLink l f d).board = d.board ∧ (countLink l f d).flash = d.flash ∧ (countLink l f d).mail = d.mail ∧ (countLink l f d).fuse = d.fuse := by simp [countLink]
@[simp] theorem checkTx_frame (l : Nat) (f : Flit) (d : Dev) :
    (checkTx l f d).2.clk = d.clk ∧ (checkTx l f d).2.whl = d.whl ∧ (checkTx l f d).2.span = d.span ∧ (checkTx l f d).2.lnk = d.lnk ∧ (checkTx l f d).2.cl = d.cl ∧ (checkTx l f d).2.ten = d.ten ∧ (checkTx l f d).2.grants = d.grants ∧ (checkTx l f d).2.host = d.host ∧ (checkTx l f d).2.dma = d.dma ∧ (checkTx l f d).2.bsu = d.bsu ∧ (checkTx l f d).2.tmr = d.tmr ∧ (checkTx l f d).2.boot = d.boot ∧ (checkTx l f d).2.power = d.power ∧ (checkTx l f d).2.board = d.board ∧ (checkTx l f d).2.flash = d.flash ∧ (checkTx l f d).2.mail = d.mail ∧ (checkTx l f d).2.fuse = d.fuse := by simp [checkTx]
@[simp] theorem opLaneDrop_frame (l t : Nat) (d : Dev) :
    (opLaneDrop l t d).clk = d.clk ∧ (opLaneDrop l t d).whl = d.whl ∧ (opLaneDrop l t d).span = d.span ∧ (opLaneDrop l t d).cl = d.cl ∧ (opLaneDrop l t d).ten = d.ten ∧ (opLaneDrop l t d).grants = d.grants ∧ (opLaneDrop l t d).host = d.host ∧ (opLaneDrop l t d).dma = d.dma ∧ (opLaneDrop l t d).bsu = d.bsu ∧ (opLaneDrop l t d).tmr = d.tmr ∧ (opLaneDrop l t d).boot = d.boot ∧ (opLaneDrop l t d).power = d.power ∧ (opLaneDrop l t d).board = d.board ∧ (opLaneDrop l t d).flash = d.flash ∧ (opLaneDrop l t d).mail = d.mail ∧ (opLaneDrop l t d).fuse = d.fuse := by unfold opLaneDrop; dsimp only; (repeat' split) <;> simp
@[simp] theorem raiseSlip_frame (l : Nat) (d : Dev) :
    (raiseSlip l d).clk = d.clk ∧ (raiseSlip l d).whl = d.whl ∧ (raiseSlip l d).fab = d.fab ∧ (raiseSlip l d).cl = d.cl ∧ (raiseSlip l d).ten = d.ten ∧ (raiseSlip l d).grants = d.grants ∧ (raiseSlip l d).host = d.host ∧ (raiseSlip l d).dma = d.dma ∧ (raiseSlip l d).bsu = d.bsu ∧ (raiseSlip l d).tmr = d.tmr ∧ (raiseSlip l d).boot = d.boot ∧ (raiseSlip l d).power = d.power ∧ (raiseSlip l d).board = d.board ∧ (raiseSlip l d).flash = d.flash ∧ (raiseSlip l d).mail = d.mail ∧ (raiseSlip l d).fuse = d.fuse := by unfold raiseSlip; (repeat' split) <;> simp
@[simp] theorem sendFrame_frame (l : Nat) (f : Fcf) (slots : Tab Flit) (d : Dev) :
    (sendFrame l f slots d).clk = d.clk ∧ (sendFrame l f slots d).whl = d.whl ∧ (sendFrame l f slots d).span = d.span ∧ (sendFrame l f slots d).fab = d.fab ∧ (sendFrame l f slots d).cl = d.cl ∧ (sendFrame l f slots d).ten = d.ten ∧ (sendFrame l f slots d).grants = d.grants ∧ (sendFrame l f slots d).dma = d.dma ∧ (sendFrame l f slots d).bsu = d.bsu ∧ (sendFrame l f slots d).tmr = d.tmr ∧ (sendFrame l f slots d).boot = d.boot ∧ (sendFrame l f slots d).power = d.power ∧ (sendFrame l f slots d).board = d.board ∧ (sendFrame l f slots d).flash = d.flash ∧ (sendFrame l f slots d).mail = d.mail ∧ (sendFrame l f slots d).fuse = d.fuse := by simp [sendFrame]
@[simp] theorem takeSlots_clk (l k : Nat) (d : Dev) : (takeSlots l k d).2.clk = d.clk := by
  unfold takeSlots
  generalize List.range 8 = xs
  refine foldl_inv (fun r : Tab Flit × Dev => r.2.clk = d.clk) _ ?_ xs ([], d) (Eq.refl d.clk)
  intro r j hr
  have h1 : (takeFlight (.linkTx l) (d.whl.start + 8 * k + j) r.2).2.clk = r.2.clk := by simp
  dsimp only
  cases (takeFlight (.linkTx l) (d.whl.start + 8 * k + j) r.2).1 with
  | none => exact hr
  | some x => dsimp only; split <;> simp [h1, hr]
@[simp] theorem takeSlots_whl (l k : Nat) (d : Dev) : (takeSlots l k d).2.whl = d.whl := by
  unfold takeSlots
  generalize List.range 8 = xs
  refine foldl_inv (fun r : Tab Flit × Dev => r.2.whl = d.whl) _ ?_ xs ([], d) (Eq.refl d.whl)
  intro r j hr
  have h1 : (takeFlight (.linkTx l) (d.whl.start + 8 * k + j) r.2).2.whl = r.2.whl := by simp
  dsimp only
  cases (takeFlight (.linkTx l) (d.whl.start + 8 * k + j) r.2).1 with
  | none => exact hr
  | some x => dsimp only; split <;> simp [h1, hr]
@[simp] theorem takeSlots_span (l k : Nat) (d : Dev) : (takeSlots l k d).2.span = d.span := by
  unfold takeSlots
  generalize List.range 8 = xs
  refine foldl_inv (fun r : Tab Flit × Dev => r.2.span = d.span) _ ?_ xs ([], d) (Eq.refl d.span)
  intro r j hr
  have h1 : (takeFlight (.linkTx l) (d.whl.start + 8 * k + j) r.2).2.span = r.2.span := by simp
  dsimp only
  cases (takeFlight (.linkTx l) (d.whl.start + 8 * k + j) r.2).1 with
  | none => exact hr
  | some x => dsimp only; split <;> simp [h1, hr]
@[simp] theorem takeSlots_cl (l k : Nat) (d : Dev) : (takeSlots l k d).2.cl = d.cl := by
  unfold takeSlots
  generalize List.range 8 = xs
  refine foldl_inv (fun r : Tab Flit × Dev => r.2.cl = d.cl) _ ?_ xs ([], d) (Eq.refl d.cl)
  intro r j hr
  have h1 : (takeFlight (.linkTx l) (d.whl.start + 8 * k + j) r.2).2.cl = r.2.cl := by simp
  dsimp only
  cases (takeFlight (.linkTx l) (d.whl.start + 8 * k + j) r.2).1 with
  | none => exact hr
  | some x => dsimp only; split <;> simp [h1, hr]
@[simp] theorem takeSlots_ten (l k : Nat) (d : Dev) : (takeSlots l k d).2.ten = d.ten := by
  unfold takeSlots
  generalize List.range 8 = xs
  refine foldl_inv (fun r : Tab Flit × Dev => r.2.ten = d.ten) _ ?_ xs ([], d) (Eq.refl d.ten)
  intro r j hr
  have h1 : (takeFlight (.linkTx l) (d.whl.start + 8 * k + j) r.2).2.ten = r.2.ten := by simp
  dsimp only
  cases (takeFlight (.linkTx l) (d.whl.start + 8 * k + j) r.2).1 with
  | none => exact hr
  | some x => dsimp only; split <;> simp [h1, hr]
@[simp] theorem takeSlots_grants (l k : Nat) (d : Dev) : (takeSlots l k d).2.grants = d.grants := by
  unfold takeSlots
  generalize List.range 8 = xs
  refine foldl_inv (fun r : Tab Flit × Dev => r.2.grants = d.grants) _ ?_ xs ([], d) (Eq.refl d.grants)
  intro r j hr
  have h1 : (takeFlight (.linkTx l) (d.whl.start + 8 * k + j) r.2).2.grants = r.2.grants := by simp
  dsimp only
  cases (takeFlight (.linkTx l) (d.whl.start + 8 * k + j) r.2).1 with
  | none => exact hr
  | some x => dsimp only; split <;> simp [h1, hr]
@[simp] theorem takeSlots_host (l k : Nat) (d : Dev) : (takeSlots l k d).2.host = d.host := by
  unfold takeSlots
  generalize List.range 8 = xs
  refine foldl_inv (fun r : Tab Flit × Dev => r.2.host = d.host) _ ?_ xs ([], d) (Eq.refl d.host)
  intro r j hr
  have h1 : (takeFlight (.linkTx l) (d.whl.start + 8 * k + j) r.2).2.host = r.2.host := by simp
  dsimp only
  cases (takeFlight (.linkTx l) (d.whl.start + 8 * k + j) r.2).1 with
  | none => exact hr
  | some x => dsimp only; split <;> simp [h1, hr]
@[simp] theorem takeSlots_dma (l k : Nat) (d : Dev) : (takeSlots l k d).2.dma = d.dma := by
  unfold takeSlots
  generalize List.range 8 = xs
  refine foldl_inv (fun r : Tab Flit × Dev => r.2.dma = d.dma) _ ?_ xs ([], d) (Eq.refl d.dma)
  intro r j hr
  have h1 : (takeFlight (.linkTx l) (d.whl.start + 8 * k + j) r.2).2.dma = r.2.dma := by simp
  dsimp only
  cases (takeFlight (.linkTx l) (d.whl.start + 8 * k + j) r.2).1 with
  | none => exact hr
  | some x => dsimp only; split <;> simp [h1, hr]
@[simp] theorem takeSlots_bsu (l k : Nat) (d : Dev) : (takeSlots l k d).2.bsu = d.bsu := by
  unfold takeSlots
  generalize List.range 8 = xs
  refine foldl_inv (fun r : Tab Flit × Dev => r.2.bsu = d.bsu) _ ?_ xs ([], d) (Eq.refl d.bsu)
  intro r j hr
  have h1 : (takeFlight (.linkTx l) (d.whl.start + 8 * k + j) r.2).2.bsu = r.2.bsu := by simp
  dsimp only
  cases (takeFlight (.linkTx l) (d.whl.start + 8 * k + j) r.2).1 with
  | none => exact hr
  | some x => dsimp only; split <;> simp [h1, hr]
@[simp] theorem takeSlots_tmr (l k : Nat) (d : Dev) : (takeSlots l k d).2.tmr = d.tmr := by
  unfold takeSlots
  generalize List.range 8 = xs
  refine foldl_inv (fun r : Tab Flit × Dev => r.2.tmr = d.tmr) _ ?_ xs ([], d) (Eq.refl d.tmr)
  intro r j hr
  have h1 : (takeFlight (.linkTx l) (d.whl.start + 8 * k + j) r.2).2.tmr = r.2.tmr := by simp
  dsimp only
  cases (takeFlight (.linkTx l) (d.whl.start + 8 * k + j) r.2).1 with
  | none => exact hr
  | some x => dsimp only; split <;> simp [h1, hr]
@[simp] theorem takeSlots_boot (l k : Nat) (d : Dev) : (takeSlots l k d).2.boot = d.boot := by
  unfold takeSlots
  generalize List.range 8 = xs
  refine foldl_inv (fun r : Tab Flit × Dev => r.2.boot = d.boot) _ ?_ xs ([], d) (Eq.refl d.boot)
  intro r j hr
  have h1 : (takeFlight (.linkTx l) (d.whl.start + 8 * k + j) r.2).2.boot = r.2.boot := by simp
  dsimp only
  cases (takeFlight (.linkTx l) (d.whl.start + 8 * k + j) r.2).1 with
  | none => exact hr
  | some x => dsimp only; split <;> simp [h1, hr]
@[simp] theorem takeSlots_power (l k : Nat) (d : Dev) : (takeSlots l k d).2.power = d.power := by
  unfold takeSlots
  generalize List.range 8 = xs
  refine foldl_inv (fun r : Tab Flit × Dev => r.2.power = d.power) _ ?_ xs ([], d) (Eq.refl d.power)
  intro r j hr
  have h1 : (takeFlight (.linkTx l) (d.whl.start + 8 * k + j) r.2).2.power = r.2.power := by simp
  dsimp only
  cases (takeFlight (.linkTx l) (d.whl.start + 8 * k + j) r.2).1 with
  | none => exact hr
  | some x => dsimp only; split <;> simp [h1, hr]
@[simp] theorem takeSlots_board (l k : Nat) (d : Dev) : (takeSlots l k d).2.board = d.board := by
  unfold takeSlots
  generalize List.range 8 = xs
  refine foldl_inv (fun r : Tab Flit × Dev => r.2.board = d.board) _ ?_ xs ([], d) (Eq.refl d.board)
  intro r j hr
  have h1 : (takeFlight (.linkTx l) (d.whl.start + 8 * k + j) r.2).2.board = r.2.board := by simp
  dsimp only
  cases (takeFlight (.linkTx l) (d.whl.start + 8 * k + j) r.2).1 with
  | none => exact hr
  | some x => dsimp only; split <;> simp [h1, hr]
@[simp] theorem takeSlots_flash (l k : Nat) (d : Dev) : (takeSlots l k d).2.flash = d.flash := by
  unfold takeSlots
  generalize List.range 8 = xs
  refine foldl_inv (fun r : Tab Flit × Dev => r.2.flash = d.flash) _ ?_ xs ([], d) (Eq.refl d.flash)
  intro r j hr
  have h1 : (takeFlight (.linkTx l) (d.whl.start + 8 * k + j) r.2).2.flash = r.2.flash := by simp
  dsimp only
  cases (takeFlight (.linkTx l) (d.whl.start + 8 * k + j) r.2).1 with
  | none => exact hr
  | some x => dsimp only; split <;> simp [h1, hr]
@[simp] theorem takeSlots_mail (l k : Nat) (d : Dev) : (takeSlots l k d).2.mail = d.mail := by
  unfold takeSlots
  generalize List.range 8 = xs
  refine foldl_inv (fun r : Tab Flit × Dev => r.2.mail = d.mail) _ ?_ xs ([], d) (Eq.refl d.mail)
  intro r j hr
  have h1 : (takeFlight (.linkTx l) (d.whl.start + 8 * k + j) r.2).2.mail = r.2.mail := by simp
  dsimp only
  cases (takeFlight (.linkTx l) (d.whl.start + 8 * k + j) r.2).1 with
  | none => exact hr
  | some x => dsimp only; split <;> simp [h1, hr]
@[simp] theorem takeSlots_fuse (l k : Nat) (d : Dev) : (takeSlots l k d).2.fuse = d.fuse := by
  unfold takeSlots
  generalize List.range 8 = xs
  refine foldl_inv (fun r : Tab Flit × Dev => r.2.fuse = d.fuse) _ ?_ xs ([], d) (Eq.refl d.fuse)
  intro r j hr
  have h1 : (takeFlight (.linkTx l) (d.whl.start + 8 * k + j) r.2).2.fuse = r.2.fuse := by simp
  dsimp only
  cases (takeFlight (.linkTx l) (d.whl.start + 8 * k + j) r.2).1 with
  | none => exact hr
  | some x => dsimp only; split <;> simp [h1, hr]
@[simp] theorem sendReplay_frame (l k : Nat) (f : Frame) (d : Dev) :
    (sendReplay l k f d).clk = d.clk ∧ (sendReplay l k f d).whl = d.whl ∧ (sendReplay l k f d).fab = d.fab ∧ (sendReplay l k f d).cl = d.cl ∧ (sendReplay l k f d).ten = d.ten ∧ (sendReplay l k f d).grants = d.grants ∧ (sendReplay l k f d).dma = d.dma ∧ (sendReplay l k f d).bsu = d.bsu ∧ (sendReplay l k f d).tmr = d.tmr ∧ (sendReplay l k f d).boot = d.boot ∧ (sendReplay l k f d).power = d.power ∧ (sendReplay l k f d).board = d.board ∧ (sendReplay l k f d).flash = d.flash ∧ (sendReplay l k f d).mail = d.mail ∧ (sendReplay l k f d).fuse = d.fuse := by unfold sendReplay; dsimp only; (repeat' split) <;> simp
@[simp] theorem sendData_frame (l k : Nat) (d : Dev) :
    (sendData l k d).clk = d.clk ∧ (sendData l k d).whl = d.whl ∧ (sendData l k d).span = d.span ∧ (sendData l k d).cl = d.cl ∧ (sendData l k d).ten = d.ten ∧ (sendData l k d).grants = d.grants ∧ (sendData l k d).dma = d.dma ∧ (sendData l k d).bsu = d.bsu ∧ (sendData l k d).tmr = d.tmr ∧ (sendData l k d).boot = d.boot ∧ (sendData l k d).power = d.power ∧ (sendData l k d).board = d.board ∧ (sendData l k d).flash = d.flash ∧ (sendData l k d).mail = d.mail ∧ (sendData l k d).fuse = d.fuse := by unfold sendData; dsimp only; (repeat' split) <;> simp
@[simp] theorem sendTrain_frame (l k : Nat) (abort : Bool) (d : Dev) :
    (sendTrain l k abort d).clk = d.clk ∧ (sendTrain l k abort d).whl = d.whl ∧ (sendTrain l k abort d).span = d.span ∧ (sendTrain l k abort d).cl = d.cl ∧ (sendTrain l k abort d).ten = d.ten ∧ (sendTrain l k abort d).grants = d.grants ∧ (sendTrain l k abort d).dma = d.dma ∧ (sendTrain l k abort d).bsu = d.bsu ∧ (sendTrain l k abort d).tmr = d.tmr ∧ (sendTrain l k abort d).boot = d.boot ∧ (sendTrain l k abort d).power = d.power ∧ (sendTrain l k abort d).board = d.board ∧ (sendTrain l k abort d).flash = d.flash ∧ (sendTrain l k abort d).mail = d.mail ∧ (sendTrain l k abort d).fuse = d.fuse := by simp [sendTrain]
@[simp] theorem loseLink_frame (l : Nat) (d : Dev) :
    (loseLink l d).clk = d.clk ∧ (loseLink l d).whl = d.whl ∧ (loseLink l d).span = d.span ∧ (loseLink l d).fab = d.fab ∧ (loseLink l d).cl = d.cl ∧ (loseLink l d).ten = d.ten ∧ (loseLink l d).grants = d.grants ∧ (loseLink l d).dma = d.dma ∧ (loseLink l d).bsu = d.bsu ∧ (loseLink l d).tmr = d.tmr ∧ (loseLink l d).boot = d.boot ∧ (loseLink l d).power = d.power ∧ (loseLink l d).board = d.board ∧ (loseLink l d).flash = d.flash ∧ (loseLink l d).mail = d.mail ∧ (loseLink l d).fuse = d.fuse := by simp [loseLink]
@[simp] theorem sendFiller_frame (l g : Nat) (d : Dev) :
    (sendFiller l g d).clk = d.clk ∧ (sendFiller l g d).whl = d.whl ∧ (sendFiller l g d).span = d.span ∧ (sendFiller l g d).fab = d.fab ∧ (sendFiller l g d).lnk = d.lnk ∧ (sendFiller l g d).cl = d.cl ∧ (sendFiller l g d).ten = d.ten ∧ (sendFiller l g d).grants = d.grants ∧ (sendFiller l g d).dma = d.dma ∧ (sendFiller l g d).bsu = d.bsu ∧ (sendFiller l g d).tmr = d.tmr ∧ (sendFiller l g d).boot = d.boot ∧ (sendFiller l g d).power = d.power ∧ (sendFiller l g d).board = d.board ∧ (sendFiller l g d).flash = d.flash ∧ (sendFiller l g d).mail = d.mail ∧ (sendFiller l g d).fuse = d.fuse := by simp [sendFiller]
@[simp] theorem opLinkFrameTransmit_frame (l k : Nat) (d : Dev) :
    (opLinkFrameTransmit l k d).clk = d.clk ∧ (opLinkFrameTransmit l k d).whl = d.whl ∧ (opLinkFrameTransmit l k d).cl = d.cl ∧ (opLinkFrameTransmit l k d).ten = d.ten ∧ (opLinkFrameTransmit l k d).grants = d.grants ∧ (opLinkFrameTransmit l k d).dma = d.dma ∧ (opLinkFrameTransmit l k d).bsu = d.bsu ∧ (opLinkFrameTransmit l k d).tmr = d.tmr ∧ (opLinkFrameTransmit l k d).boot = d.boot ∧ (opLinkFrameTransmit l k d).power = d.power ∧ (opLinkFrameTransmit l k d).board = d.board ∧ (opLinkFrameTransmit l k d).flash = d.flash ∧ (opLinkFrameTransmit l k d).mail = d.mail ∧ (opLinkFrameTransmit l k d).fuse = d.fuse := by unfold opLinkFrameTransmit; dsimp only; (repeat' split) <;> simp
@[simp] theorem opReplaySend_frame (l k : Nat) (d : Dev) :
    (opReplaySend l k d).clk = d.clk ∧ (opReplaySend l k d).whl = d.whl ∧ (opReplaySend l k d).fab = d.fab ∧ (opReplaySend l k d).cl = d.cl ∧ (opReplaySend l k d).ten = d.ten ∧ (opReplaySend l k d).grants = d.grants ∧ (opReplaySend l k d).dma = d.dma ∧ (opReplaySend l k d).bsu = d.bsu ∧ (opReplaySend l k d).tmr = d.tmr ∧ (opReplaySend l k d).boot = d.boot ∧ (opReplaySend l k d).power = d.power ∧ (opReplaySend l k d).board = d.board ∧ (opReplaySend l k d).flash = d.flash ∧ (opReplaySend l k d).mail = d.mail ∧ (opReplaySend l k d).fuse = d.fuse := by unfold opReplaySend; (repeat' split) <;> simp
@[simp] theorem lambdaOf_frame (l p : Nat) (d : Dev) :
    (lambdaOf l p d).2.clk = d.clk ∧ (lambdaOf l p d).2.whl = d.whl ∧ (lambdaOf l p d).2.span = d.span ∧ (lambdaOf l p d).2.lnk = d.lnk ∧ (lambdaOf l p d).2.cl = d.cl ∧ (lambdaOf l p d).2.grants = d.grants ∧ (lambdaOf l p d).2.dma = d.dma ∧ (lambdaOf l p d).2.bsu = d.bsu ∧ (lambdaOf l p d).2.tmr = d.tmr ∧ (lambdaOf l p d).2.boot = d.boot ∧ (lambdaOf l p d).2.power = d.power ∧ (lambdaOf l p d).2.board = d.board ∧ (lambdaOf l p d).2.flash = d.flash ∧ (lambdaOf l p d).2.mail = d.mail ∧ (lambdaOf l p d).2.fuse = d.fuse := by unfold lambdaOf; dsimp only; (repeat' split) <;> simp
@[simp] theorem storeFlit_frame (l s : Nat) (f : Flit) (marked : Bool) (d : Dev) :
    (storeFlit l s f marked d).clk = d.clk ∧ (storeFlit l s f marked d).whl = d.whl ∧ (storeFlit l s f marked d).span = d.span ∧ (storeFlit l s f marked d).cl = d.cl ∧ (storeFlit l s f marked d).grants = d.grants ∧ (storeFlit l s f marked d).dma = d.dma ∧ (storeFlit l s f marked d).bsu = d.bsu ∧ (storeFlit l s f marked d).tmr = d.tmr ∧ (storeFlit l s f marked d).boot = d.boot ∧ (storeFlit l s f marked d).power = d.power ∧ (storeFlit l s f marked d).board = d.board ∧ (storeFlit l s f marked d).flash = d.flash ∧ (storeFlit l s f marked d).mail = d.mail ∧ (storeFlit l s f marked d).fuse = d.fuse := by unfold storeFlit; dsimp only; (repeat' split) <;> simp
@[simp] theorem receiveSlot_frame (l s : Nat) (f0 : Flit) (d : Dev) :
    (receiveSlot l s f0 d).clk = d.clk ∧ (receiveSlot l s f0 d).whl = d.whl ∧ (receiveSlot l s f0 d).span = d.span ∧ (receiveSlot l s f0 d).cl = d.cl ∧ (receiveSlot l s f0 d).grants = d.grants ∧ (receiveSlot l s f0 d).dma = d.dma ∧ (receiveSlot l s f0 d).bsu = d.bsu ∧ (receiveSlot l s f0 d).tmr = d.tmr ∧ (receiveSlot l s f0 d).boot = d.boot ∧ (receiveSlot l s f0 d).power = d.power ∧ (receiveSlot l s f0 d).board = d.board ∧ (receiveSlot l s f0 d).flash = d.flash ∧ (receiveSlot l s f0 d).mail = d.mail ∧ (receiveSlot l s f0 d).fuse = d.fuse := by unfold receiveSlot; dsimp only; (repeat' split) <;> simp
@[simp] theorem rxPush_frame (l : Nat) (e : RxEntry) (d : Dev) :
    (rxPush l e d).clk = d.clk ∧ (rxPush l e d).whl = d.whl ∧ (rxPush l e d).span = d.span ∧ (rxPush l e d).fab = d.fab ∧ (rxPush l e d).cl = d.cl ∧ (rxPush l e d).ten = d.ten ∧ (rxPush l e d).grants = d.grants ∧ (rxPush l e d).host = d.host ∧ (rxPush l e d).dma = d.dma ∧ (rxPush l e d).bsu = d.bsu ∧ (rxPush l e d).tmr = d.tmr ∧ (rxPush l e d).boot = d.boot ∧ (rxPush l e d).power = d.power ∧ (rxPush l e d).board = d.board ∧ (rxPush l e d).flash = d.flash ∧ (rxPush l e d).mail = d.mail ∧ (rxPush l e d).fuse = d.fuse := by unfold rxPush; (repeat' split) <;> simp
@[simp] theorem rxTake_frame (l : Nat) (e : RxEntry) (d : Dev) :
    (rxTake l e d).clk = d.clk ∧ (rxTake l e d).whl = d.whl ∧ (rxTake l e d).span = d.span ∧ (rxTake l e d).cl = d.cl ∧ (rxTake l e d).grants = d.grants ∧ (rxTake l e d).dma = d.dma ∧ (rxTake l e d).bsu = d.bsu ∧ (rxTake l e d).tmr = d.tmr ∧ (rxTake l e d).boot = d.boot ∧ (rxTake l e d).power = d.power ∧ (rxTake l e d).board = d.board ∧ (rxTake l e d).flash = d.flash ∧ (rxTake l e d).mail = d.mail ∧ (rxTake l e d).fuse = d.fuse := by unfold rxTake; (repeat' split) <;> simp
@[simp] theorem drainLink_frame (l t : Nat) (d : Dev) :
    (drainLink l t d).clk = d.clk ∧ (drainLink l t d).whl = d.whl ∧ (drainLink l t d).span = d.span ∧ (drainLink l t d).cl = d.cl ∧ (drainLink l t d).grants = d.grants ∧ (drainLink l t d).dma = d.dma ∧ (drainLink l t d).bsu = d.bsu ∧ (drainLink l t d).tmr = d.tmr ∧ (drainLink l t d).boot = d.boot ∧ (drainLink l t d).power = d.power ∧ (drainLink l t d).board = d.board ∧ (drainLink l t d).flash = d.flash ∧ (drainLink l t d).mail = d.mail ∧ (drainLink l t d).fuse = d.fuse := by unfold drainLink; dsimp only; (repeat' split) <;> simp
@[simp] theorem receiveNak_frame (l : Nat) (d : Dev) (n : Nat) :
    (receiveNak l d n).clk = d.clk ∧ (receiveNak l d n).whl = d.whl ∧ (receiveNak l d n).fab = d.fab ∧ (receiveNak l d n).cl = d.cl ∧ (receiveNak l d n).ten = d.ten ∧ (receiveNak l d n).grants = d.grants ∧ (receiveNak l d n).host = d.host ∧ (receiveNak l d n).dma = d.dma ∧ (receiveNak l d n).bsu = d.bsu ∧ (receiveNak l d n).tmr = d.tmr ∧ (receiveNak l d n).boot = d.boot ∧ (receiveNak l d n).power = d.power ∧ (receiveNak l d n).board = d.board ∧ (receiveNak l d n).flash = d.flash ∧ (receiveNak l d n).mail = d.mail ∧ (receiveNak l d n).fuse = d.fuse := by unfold receiveNak; dsimp only; (repeat' split) <;> simp
@[simp] theorem receiveAbsent_frame (l : Nat) (d : Dev) (a : Option (Nat × Nat)) :
    (receiveAbsent l d a).clk = d.clk ∧ (receiveAbsent l d a).whl = d.whl ∧ (receiveAbsent l d a).span = d.span ∧ (receiveAbsent l d a).fab = d.fab ∧ (receiveAbsent l d a).lnk = d.lnk ∧ (receiveAbsent l d a).cl = d.cl ∧ (receiveAbsent l d a).grants = d.grants ∧ (receiveAbsent l d a).dma = d.dma ∧ (receiveAbsent l d a).bsu = d.bsu ∧ (receiveAbsent l d a).tmr = d.tmr ∧ (receiveAbsent l d a).boot = d.boot ∧ (receiveAbsent l d a).power = d.power ∧ (receiveAbsent l d a).board = d.board ∧ (receiveAbsent l d a).flash = d.flash ∧ (receiveAbsent l d a).mail = d.mail ∧ (receiveAbsent l d a).fuse = d.fuse := by unfold receiveAbsent; dsimp only; (repeat' split) <;> simp
@[simp] theorem frameBad_frame (l wheel index t : Nat) (sched : Bool) (msg : Nat) (d : Dev) :
    (frameBad l wheel index t sched msg d).clk = d.clk ∧ (frameBad l wheel index t sched msg d).whl = d.whl ∧ (frameBad l wheel index t sched msg d).span = d.span ∧ (frameBad l wheel index t sched msg d).fab = d.fab ∧ (frameBad l wheel index t sched msg d).cl = d.cl ∧ (frameBad l wheel index t sched msg d).ten = d.ten ∧ (frameBad l wheel index t sched msg d).grants = d.grants ∧ (frameBad l wheel index t sched msg d).host = d.host ∧ (frameBad l wheel index t sched msg d).dma = d.dma ∧ (frameBad l wheel index t sched msg d).bsu = d.bsu ∧ (frameBad l wheel index t sched msg d).tmr = d.tmr ∧ (frameBad l wheel index t sched msg d).boot = d.boot ∧ (frameBad l wheel index t sched msg d).power = d.power ∧ (frameBad l wheel index t sched msg d).board = d.board ∧ (frameBad l wheel index t sched msg d).flash = d.flash ∧ (frameBad l wheel index t sched msg d).mail = d.mail ∧ (frameBad l wheel index t sched msg d).fuse = d.fuse := by unfold frameBad; dsimp only; (repeat' split) <;> simp
@[simp] theorem countReplay_frame (l p : Nat) (d : Dev) :
    (countReplay l p d).clk = d.clk ∧ (countReplay l p d).whl = d.whl ∧ (countReplay l p d).span = d.span ∧ (countReplay l p d).fab = d.fab ∧ (countReplay l p d).lnk = d.lnk ∧ (countReplay l p d).cl = d.cl ∧ (countReplay l p d).grants = d.grants ∧ (countReplay l p d).host = d.host ∧ (countReplay l p d).dma = d.dma ∧ (countReplay l p d).bsu = d.bsu ∧ (countReplay l p d).tmr = d.tmr ∧ (countReplay l p d).boot = d.boot ∧ (countReplay l p d).power = d.power ∧ (countReplay l p d).board = d.board ∧ (countReplay l p d).flash = d.flash ∧ (countReplay l p d).mail = d.mail ∧ (countReplay l p d).fuse = d.fuse := by unfold countReplay; dsimp only; (repeat' split) <;> simp
@[simp] theorem receiveReplay_frame (l wheel t : Nat) (f : Fcf) (msg L : Nat) (d : Dev) :
    (receiveReplay l wheel t f msg L d).clk = d.clk ∧ (receiveReplay l wheel t f msg L d).whl = d.whl ∧ (receiveReplay l wheel t f msg L d).span = d.span ∧ (receiveReplay l wheel t f msg L d).fab = d.fab ∧ (receiveReplay l wheel t f msg L d).cl = d.cl ∧ (receiveReplay l wheel t f msg L d).grants = d.grants ∧ (receiveReplay l wheel t f msg L d).host = d.host ∧ (receiveReplay l wheel t f msg L d).dma = d.dma ∧ (receiveReplay l wheel t f msg L d).bsu = d.bsu ∧ (receiveReplay l wheel t f msg L d).tmr = d.tmr ∧ (receiveReplay l wheel t f msg L d).boot = d.boot ∧ (receiveReplay l wheel t f msg L d).power = d.power ∧ (receiveReplay l wheel t f msg L d).board = d.board ∧ (receiveReplay l wheel t f msg L d).flash = d.flash ∧ (receiveReplay l wheel t f msg L d).mail = d.mail ∧ (receiveReplay l wheel t f msg L d).fuse = d.fuse := by unfold receiveReplay; (try dsimp only); (repeat' split) <;> simp [apply_ite Dev.clk, apply_ite Dev.whl, apply_ite Dev.span, apply_ite Dev.fab, apply_ite Dev.cl, apply_ite Dev.grants, apply_ite Dev.host, apply_ite Dev.dma, apply_ite Dev.bsu, apply_ite Dev.tmr, apply_ite Dev.boot, apply_ite Dev.power, apply_ite Dev.board, apply_ite Dev.flash, apply_ite Dev.mail, apply_ite Dev.fuse]
@[simp] theorem receiveTrain_frame (l at16 : Nat) (p : Line) (d : Dev) :
    (receiveTrain l at16 p d).clk = d.clk ∧ (receiveTrain l at16 p d).whl = d.whl ∧ (receiveTrain l at16 p d).span = d.span ∧ (receiveTrain l at16 p d).fab = d.fab ∧ (receiveTrain l at16 p d).cl = d.cl ∧ (receiveTrain l at16 p d).ten = d.ten ∧ (receiveTrain l at16 p d).grants = d.grants ∧ (receiveTrain l at16 p d).host = d.host ∧ (receiveTrain l at16 p d).dma = d.dma ∧ (receiveTrain l at16 p d).bsu = d.bsu ∧ (receiveTrain l at16 p d).tmr = d.tmr ∧ (receiveTrain l at16 p d).boot = d.boot ∧ (receiveTrain l at16 p d).power = d.power ∧ (receiveTrain l at16 p d).board = d.board ∧ (receiveTrain l at16 p d).flash = d.flash ∧ (receiveTrain l at16 p d).mail = d.mail ∧ (receiveTrain l at16 p d).fuse = d.fuse := by simp [receiveTrain]
@[simp] theorem acceptFrame_frame (l wheel index at16 : Nat) (sched : Bool) (msg L n : Nat) (f : Fcf) (d : Dev) :
    (acceptFrame l wheel index at16 sched msg L n f d).clk = d.clk ∧ (acceptFrame l wheel index at16 sched msg L n f d).whl = d.whl ∧ (acceptFrame l wheel index at16 sched msg L n f d).fab = d.fab ∧ (acceptFrame l wheel index at16 sched msg L n f d).cl = d.cl ∧ (acceptFrame l wheel index at16 sched msg L n f d).grants = d.grants ∧ (acceptFrame l wheel index at16 sched msg L n f d).dma = d.dma ∧ (acceptFrame l wheel index at16 sched msg L n f d).bsu = d.bsu ∧ (acceptFrame l wheel index at16 sched msg L n f d).tmr = d.tmr ∧ (acceptFrame l wheel index at16 sched msg L n f d).boot = d.boot ∧ (acceptFrame l wheel index at16 sched msg L n f d).power = d.power ∧ (acceptFrame l wheel index at16 sched msg L n f d).board = d.board ∧ (acceptFrame l wheel index at16 sched msg L n f d).flash = d.flash ∧ (acceptFrame l wheel index at16 sched msg L n f d).mail = d.mail ∧ (acceptFrame l wheel index at16 sched msg L n f d).fuse = d.fuse := by unfold acceptFrame; (try dsimp only); (repeat' split) <;> simp [apply_ite Dev.clk, apply_ite Dev.whl, apply_ite Dev.fab, apply_ite Dev.cl, apply_ite Dev.grants, apply_ite Dev.dma, apply_ite Dev.bsu, apply_ite Dev.tmr, apply_ite Dev.boot, apply_ite Dev.power, apply_ite Dev.board, apply_ite Dev.flash, apply_ite Dev.mail, apply_ite Dev.fuse]
@[simp] theorem opMarkerReceive_frame (l at16 : Nat) (d : Dev) :
    (opMarkerReceive l at16 d).clk = d.clk ∧ (opMarkerReceive l at16 d).whl = d.whl ∧ (opMarkerReceive l at16 d).cl = d.cl ∧ (opMarkerReceive l at16 d).grants = d.grants ∧ (opMarkerReceive l at16 d).dma = d.dma ∧ (opMarkerReceive l at16 d).bsu = d.bsu ∧ (opMarkerReceive l at16 d).tmr = d.tmr ∧ (opMarkerReceive l at16 d).boot = d.boot ∧ (opMarkerReceive l at16 d).power = d.power ∧ (opMarkerReceive l at16 d).board = d.board ∧ (opMarkerReceive l at16 d).flash = d.flash ∧ (opMarkerReceive l at16 d).mail = d.mail ∧ (opMarkerReceive l at16 d).fuse = d.fuse := by simp [opMarkerReceive]
@[simp] theorem opLinkFrameReceive_clk (l wheel index : Nat) (sched : Bool) (at16 : Nat) (lanes : List (List (BitVec 10))) (d0 : Dev) :
    (opLinkFrameReceive l wheel index sched at16 lanes d0).clk = d0.clk := by
  unfold opLinkFrameReceive; dsimp only
  (repeat' split) <;> first | rfl | simp
@[simp] theorem opLinkFrameReceive_whl (l wheel index : Nat) (sched : Bool) (at16 : Nat) (lanes : List (List (BitVec 10))) (d0 : Dev) :
    (opLinkFrameReceive l wheel index sched at16 lanes d0).whl = d0.whl := by
  unfold opLinkFrameReceive; dsimp only
  (repeat' split) <;> first | rfl | simp
@[simp] theorem opLinkFrameReceive_cl (l wheel index : Nat) (sched : Bool) (at16 : Nat) (lanes : List (List (BitVec 10))) (d0 : Dev) :
    (opLinkFrameReceive l wheel index sched at16 lanes d0).cl = d0.cl := by
  unfold opLinkFrameReceive; dsimp only
  (repeat' split) <;> first | rfl | simp
@[simp] theorem opLinkFrameReceive_grants (l wheel index : Nat) (sched : Bool) (at16 : Nat) (lanes : List (List (BitVec 10))) (d0 : Dev) :
    (opLinkFrameReceive l wheel index sched at16 lanes d0).grants = d0.grants := by
  unfold opLinkFrameReceive; dsimp only
  (repeat' split) <;> first | rfl | simp
@[simp] theorem opLinkFrameReceive_dma (l wheel index : Nat) (sched : Bool) (at16 : Nat) (lanes : List (List (BitVec 10))) (d0 : Dev) :
    (opLinkFrameReceive l wheel index sched at16 lanes d0).dma = d0.dma := by
  unfold opLinkFrameReceive; dsimp only
  (repeat' split) <;> first | rfl | simp
@[simp] theorem opLinkFrameReceive_bsu (l wheel index : Nat) (sched : Bool) (at16 : Nat) (lanes : List (List (BitVec 10))) (d0 : Dev) :
    (opLinkFrameReceive l wheel index sched at16 lanes d0).bsu = d0.bsu := by
  unfold opLinkFrameReceive; dsimp only
  (repeat' split) <;> first | rfl | simp
@[simp] theorem opLinkFrameReceive_tmr (l wheel index : Nat) (sched : Bool) (at16 : Nat) (lanes : List (List (BitVec 10))) (d0 : Dev) :
    (opLinkFrameReceive l wheel index sched at16 lanes d0).tmr = d0.tmr := by
  unfold opLinkFrameReceive; dsimp only
  (repeat' split) <;> first | rfl | simp
@[simp] theorem opLinkFrameReceive_boot (l wheel index : Nat) (sched : Bool) (at16 : Nat) (lanes : List (List (BitVec 10))) (d0 : Dev) :
    (opLinkFrameReceive l wheel index sched at16 lanes d0).boot = d0.boot := by
  unfold opLinkFrameReceive; dsimp only
  (repeat' split) <;> first | rfl | simp
@[simp] theorem opLinkFrameReceive_power (l wheel index : Nat) (sched : Bool) (at16 : Nat) (lanes : List (List (BitVec 10))) (d0 : Dev) :
    (opLinkFrameReceive l wheel index sched at16 lanes d0).power = d0.power := by
  unfold opLinkFrameReceive; dsimp only
  (repeat' split) <;> first | rfl | simp
@[simp] theorem opLinkFrameReceive_board (l wheel index : Nat) (sched : Bool) (at16 : Nat) (lanes : List (List (BitVec 10))) (d0 : Dev) :
    (opLinkFrameReceive l wheel index sched at16 lanes d0).board = d0.board := by
  unfold opLinkFrameReceive; dsimp only
  (repeat' split) <;> first | rfl | simp
@[simp] theorem opLinkFrameReceive_flash (l wheel index : Nat) (sched : Bool) (at16 : Nat) (lanes : List (List (BitVec 10))) (d0 : Dev) :
    (opLinkFrameReceive l wheel index sched at16 lanes d0).flash = d0.flash := by
  unfold opLinkFrameReceive; dsimp only
  (repeat' split) <;> first | rfl | simp
@[simp] theorem opLinkFrameReceive_mail (l wheel index : Nat) (sched : Bool) (at16 : Nat) (lanes : List (List (BitVec 10))) (d0 : Dev) :
    (opLinkFrameReceive l wheel index sched at16 lanes d0).mail = d0.mail := by
  unfold opLinkFrameReceive; dsimp only
  (repeat' split) <;> first | rfl | simp
@[simp] theorem opLinkFrameReceive_fuse (l wheel index : Nat) (sched : Bool) (at16 : Nat) (lanes : List (List (BitVec 10))) (d0 : Dev) :
    (opLinkFrameReceive l wheel index sched at16 lanes d0).fuse = d0.fuse := by
  unfold opLinkFrameReceive; dsimp only
  (repeat' split) <;> first | rfl | simp
@[simp] theorem opReleaseStoreRelease_frame (l t : Nat) (d : Dev) :
    (opReleaseStoreRelease l t d).clk = d.clk ∧ (opReleaseStoreRelease l t d).cl = d.cl ∧ (opReleaseStoreRelease l t d).grants = d.grants ∧ (opReleaseStoreRelease l t d).dma = d.dma ∧ (opReleaseStoreRelease l t d).bsu = d.bsu ∧ (opReleaseStoreRelease l t d).tmr = d.tmr ∧ (opReleaseStoreRelease l t d).boot = d.boot ∧ (opReleaseStoreRelease l t d).power = d.power ∧ (opReleaseStoreRelease l t d).board = d.board ∧ (opReleaseStoreRelease l t d).flash = d.flash ∧ (opReleaseStoreRelease l t d).mail = d.mail ∧ (opReleaseStoreRelease l t d).fuse = d.fuse := by unfold opReleaseStoreRelease; dsimp only; (repeat' split) <;> simp
@[simp] theorem enterState_frame (l : Nat) (s : LinkState) (t : Nat) (d : Dev) :
    (enterState l s t d).clk = d.clk ∧ (enterState l s t d).whl = d.whl ∧ (enterState l s t d).span = d.span ∧ (enterState l s t d).fab = d.fab ∧ (enterState l s t d).cl = d.cl ∧ (enterState l s t d).ten = d.ten ∧ (enterState l s t d).grants = d.grants ∧ (enterState l s t d).dma = d.dma ∧ (enterState l s t d).bsu = d.bsu ∧ (enterState l s t d).tmr = d.tmr ∧ (enterState l s t d).boot = d.boot ∧ (enterState l s t d).power = d.power ∧ (enterState l s t d).board = d.board ∧ (enterState l s t d).flash = d.flash ∧ (enterState l s t d).mail = d.mail ∧ (enterState l s t d).fuse = d.fuse := by unfold enterState; (repeat' split) <;> simp
@[simp] theorem opLinkDetectDone_frame (l t : Nat) (lanes : BitVec 8) (d : Dev) :
    (opLinkDetectDone l t lanes d).clk = d.clk ∧ (opLinkDetectDone l t lanes d).whl = d.whl ∧ (opLinkDetectDone l t lanes d).span = d.span ∧ (opLinkDetectDone l t lanes d).fab = d.fab ∧ (opLinkDetectDone l t lanes d).cl = d.cl ∧ (opLinkDetectDone l t lanes d).ten = d.ten ∧ (opLinkDetectDone l t lanes d).grants = d.grants ∧ (opLinkDetectDone l t lanes d).dma = d.dma ∧ (opLinkDetectDone l t lanes d).bsu = d.bsu ∧ (opLinkDetectDone l t lanes d).tmr = d.tmr ∧ (opLinkDetectDone l t lanes d).boot = d.boot ∧ (opLinkDetectDone l t lanes d).power = d.power ∧ (opLinkDetectDone l t lanes d).board = d.board ∧ (opLinkDetectDone l t lanes d).flash = d.flash ∧ (opLinkDetectDone l t lanes d).mail = d.mail ∧ (opLinkDetectDone l t lanes d).fuse = d.fuse := by unfold opLinkDetectDone; (repeat' split) <;> simp
@[simp] theorem opLinkEqualiseDone_frame (l t : Nat) (pass : BitVec 8) (order : BitVec 24) (invert : BitVec 8) (d : Dev) :
    (opLinkEqualiseDone l t pass order invert d).clk = d.clk ∧ (opLinkEqualiseDone l t pass order invert d).whl = d.whl ∧ (opLinkEqualiseDone l t pass order invert d).span = d.span ∧ (opLinkEqualiseDone l t pass order invert d).fab = d.fab ∧ (opLinkEqualiseDone l t pass order invert d).cl = d.cl ∧ (opLinkEqualiseDone l t pass order invert d).ten = d.ten ∧ (opLinkEqualiseDone l t pass order invert d).grants = d.grants ∧ (opLinkEqualiseDone l t pass order invert d).dma = d.dma ∧ (opLinkEqualiseDone l t pass order invert d).bsu = d.bsu ∧ (opLinkEqualiseDone l t pass order invert d).tmr = d.tmr ∧ (opLinkEqualiseDone l t pass order invert d).boot = d.boot ∧ (opLinkEqualiseDone l t pass order invert d).power = d.power ∧ (opLinkEqualiseDone l t pass order invert d).board = d.board ∧ (opLinkEqualiseDone l t pass order invert d).flash = d.flash ∧ (opLinkEqualiseDone l t pass order invert d).mail = d.mail ∧ (opLinkEqualiseDone l t pass order invert d).fuse = d.fuse := by unfold opLinkEqualiseDone; dsimp only; (repeat' split) <;> simp
@[simp] theorem opLinkAlignDone_frame (l t : Nat) (agreed : Bool) (d : Dev) :
    (opLinkAlignDone l t agreed d).clk = d.clk ∧ (opLinkAlignDone l t agreed d).whl = d.whl ∧ (opLinkAlignDone l t agreed d).span = d.span ∧ (opLinkAlignDone l t agreed d).fab = d.fab ∧ (opLinkAlignDone l t agreed d).cl = d.cl ∧ (opLinkAlignDone l t agreed d).ten = d.ten ∧ (opLinkAlignDone l t agreed d).grants = d.grants ∧ (opLinkAlignDone l t agreed d).dma = d.dma ∧ (opLinkAlignDone l t agreed d).bsu = d.bsu ∧ (opLinkAlignDone l t agreed d).tmr = d.tmr ∧ (opLinkAlignDone l t agreed d).boot = d.boot ∧ (opLinkAlignDone l t agreed d).power = d.power ∧ (opLinkAlignDone l t agreed d).board = d.board ∧ (opLinkAlignDone l t agreed d).flash = d.flash ∧ (opLinkAlignDone l t agreed d).mail = d.mail ∧ (opLinkAlignDone l t agreed d).fuse = d.fuse := by unfold opLinkAlignDone; dsimp only; (repeat' split) <;> simp
@[simp] theorem opLinkMeasureDone_frame (l t : Nat) (rtts : List Nat) (fine : Nat) (d : Dev) :
    (opLinkMeasureDone l t rtts fine d).clk = d.clk ∧ (opLinkMeasureDone l t rtts fine d).whl = d.whl ∧ (opLinkMeasureDone l t rtts fine d).span = d.span ∧ (opLinkMeasureDone l t rtts fine d).fab = d.fab ∧ (opLinkMeasureDone l t rtts fine d).cl = d.cl ∧ (opLinkMeasureDone l t rtts fine d).ten = d.ten ∧ (opLinkMeasureDone l t rtts fine d).grants = d.grants ∧ (opLinkMeasureDone l t rtts fine d).dma = d.dma ∧ (opLinkMeasureDone l t rtts fine d).bsu = d.bsu ∧ (opLinkMeasureDone l t rtts fine d).tmr = d.tmr ∧ (opLinkMeasureDone l t rtts fine d).boot = d.boot ∧ (opLinkMeasureDone l t rtts fine d).power = d.power ∧ (opLinkMeasureDone l t rtts fine d).board = d.board ∧ (opLinkMeasureDone l t rtts fine d).flash = d.flash ∧ (opLinkMeasureDone l t rtts fine d).mail = d.mail ∧ (opLinkMeasureDone l t rtts fine d).fuse = d.fuse := by unfold opLinkMeasureDone; dsimp only; (repeat' split) <;> simp
@[simp] theorem opLinkConfirmDone_frame (l t : Nat) (clean : Bool) (d : Dev) :
    (opLinkConfirmDone l t clean d).clk = d.clk ∧ (opLinkConfirmDone l t clean d).whl = d.whl ∧ (opLinkConfirmDone l t clean d).span = d.span ∧ (opLinkConfirmDone l t clean d).fab = d.fab ∧ (opLinkConfirmDone l t clean d).cl = d.cl ∧ (opLinkConfirmDone l t clean d).ten = d.ten ∧ (opLinkConfirmDone l t clean d).grants = d.grants ∧ (opLinkConfirmDone l t clean d).dma = d.dma ∧ (opLinkConfirmDone l t clean d).bsu = d.bsu ∧ (opLinkConfirmDone l t clean d).tmr = d.tmr ∧ (opLinkConfirmDone l t clean d).boot = d.boot ∧ (opLinkConfirmDone l t clean d).power = d.power ∧ (opLinkConfirmDone l t clean d).board = d.board ∧ (opLinkConfirmDone l t clean d).flash = d.flash ∧ (opLinkConfirmDone l t clean d).mail = d.mail ∧ (opLinkConfirmDone l t clean d).fuse = d.fuse := by unfold opLinkConfirmDone; dsimp only; (repeat' split) <;> simp
@[simp] theorem opLinkLoss_frame (l : Nat) (signal : Bool) (d : Dev) :
    (opLinkLoss l signal d).clk = d.clk ∧ (opLinkLoss l signal d).whl = d.whl ∧ (opLinkLoss l signal d).fab = d.fab ∧ (opLinkLoss l signal d).cl = d.cl ∧ (opLinkLoss l signal d).ten = d.ten ∧ (opLinkLoss l signal d).grants = d.grants ∧ (opLinkLoss l signal d).dma = d.dma ∧ (opLinkLoss l signal d).bsu = d.bsu ∧ (opLinkLoss l signal d).tmr = d.tmr ∧ (opLinkLoss l signal d).boot = d.boot ∧ (opLinkLoss l signal d).power = d.power ∧ (opLinkLoss l signal d).board = d.board ∧ (opLinkLoss l signal d).flash = d.flash ∧ (opLinkLoss l signal d).mail = d.mail ∧ (opLinkLoss l signal d).fuse = d.fuse := by unfold opLinkLoss; dsimp only; (repeat' split) <;> simp
@[simp] theorem opLinkLostTimeout_frame (l t : Nat) (d : Dev) :
    (opLinkLostTimeout l t d).clk = d.clk ∧ (opLinkLostTimeout l t d).whl = d.whl ∧ (opLinkLostTimeout l t d).span = d.span ∧ (opLinkLostTimeout l t d).fab = d.fab ∧ (opLinkLostTimeout l t d).cl = d.cl ∧ (opLinkLostTimeout l t d).ten = d.ten ∧ (opLinkLostTimeout l t d).grants = d.grants ∧ (opLinkLostTimeout l t d).dma = d.dma ∧ (opLinkLostTimeout l t d).bsu = d.bsu ∧ (opLinkLostTimeout l t d).tmr = d.tmr ∧ (opLinkLostTimeout l t d).boot = d.boot ∧ (opLinkLostTimeout l t d).power = d.power ∧ (opLinkLostTimeout l t d).board = d.board ∧ (opLinkLostTimeout l t d).flash = d.flash ∧ (opLinkLostTimeout l t d).mail = d.mail ∧ (opLinkLostTimeout l t d).fuse = d.fuse := by unfold opLinkLostTimeout; dsimp only; (repeat' split) <;> simp

/-! ## Machine/Loader.lean -/

@[simp] theorem storeTier_frame (tier unit a ten : Nat) (data : List Byte) (d : Dev) :
    (storeTier tier unit a ten data d).clk = d.clk ∧ (storeTier tier unit a ten data d).whl = d.whl ∧ (storeTier tier unit a ten data d).span = d.span ∧ (storeTier tier unit a ten data d).fab = d.fab ∧ (storeTier tier unit a ten data d).lnk = d.lnk ∧ (storeTier tier unit a ten data d).cl = d.cl ∧ (storeTier tier unit a ten data d).ten = d.ten ∧ (storeTier tier unit a ten data d).grants = d.grants ∧ (storeTier tier unit a ten data d).host = d.host ∧ (storeTier tier unit a ten data d).dma = d.dma ∧ (storeTier tier unit a ten data d).bsu = d.bsu ∧ (storeTier tier unit a ten data d).tmr = d.tmr ∧ (storeTier tier unit a ten data d).boot = d.boot ∧ (storeTier tier unit a ten data d).power = d.power ∧ (storeTier tier unit a ten data d).board = d.board ∧ (storeTier tier unit a ten data d).flash = d.flash ∧ (storeTier tier unit a ten data d).mail = d.mail ∧ (storeTier tier unit a ten data d).fuse = d.fuse := by unfold storeTier; dsimp only; (repeat' split) <;> simp
@[simp] theorem loadData_frame (g : Dev) (t : Nat) (b : Array Byte) (r : IRec) (d : Dev) :
    (loadData g t b r d).clk = d.clk ∧ (loadData g t b r d).whl = d.whl ∧ (loadData g t b r d).span = d.span ∧ (loadData g t b r d).fab = d.fab ∧ (loadData g t b r d).lnk = d.lnk ∧ (loadData g t b r d).cl = d.cl ∧ (loadData g t b r d).ten = d.ten ∧ (loadData g t b r d).grants = d.grants ∧ (loadData g t b r d).host = d.host ∧ (loadData g t b r d).dma = d.dma ∧ (loadData g t b r d).bsu = d.bsu ∧ (loadData g t b r d).tmr = d.tmr ∧ (loadData g t b r d).boot = d.boot ∧ (loadData g t b r d).power = d.power ∧ (loadData g t b r d).board = d.board ∧ (loadData g t b r d).flash = d.flash ∧ (loadData g t b r d).mail = d.mail ∧ (loadData g t b r d).fuse = d.fuse := by unfold loadData; (repeat' split) <;> simp
@[simp] theorem applyLoad_frame (t : Nat) (b : Array Byte) (d : Dev) :
    (applyLoad t b d).clk = d.clk ∧ (applyLoad t b d).whl = d.whl ∧ (applyLoad t b d).span = d.span ∧ (applyLoad t b d).grants = d.grants ∧ (applyLoad t b d).host = d.host ∧ (applyLoad t b d).dma = d.dma ∧ (applyLoad t b d).bsu = d.bsu ∧ (applyLoad t b d).tmr = d.tmr ∧ (applyLoad t b d).boot = d.boot ∧ (applyLoad t b d).power = d.power ∧ (applyLoad t b d).board = d.board ∧ (applyLoad t b d).flash = d.flash ∧ (applyLoad t b d).mail = d.mail ∧ (applyLoad t b d).fuse = d.fuse := by simp [applyLoad]
@[simp] theorem refuse_frame (c : Cmd) (f : Refuse) (d : Dev) :
    (refuse c f d).clk = d.clk ∧ (refuse c f d).whl = d.whl ∧ (refuse c f d).span = d.span ∧ (refuse c f d).fab = d.fab ∧ (refuse c f d).lnk = d.lnk ∧ (refuse c f d).cl = d.cl ∧ (refuse c f d).ten = d.ten ∧ (refuse c f d).grants = d.grants ∧ (refuse c f d).dma = d.dma ∧ (refuse c f d).bsu = d.bsu ∧ (refuse c f d).tmr = d.tmr ∧ (refuse c f d).boot = d.boot ∧ (refuse c f d).power = d.power ∧ (refuse c f d).board = d.board ∧ (refuse c f d).flash = d.flash ∧ (refuse c f d).mail = d.mail ∧ (refuse c f d).fuse = d.fuse := by simp [refuse]
@[simp] theorem opImageStage_frame (r : Nat) (d : Dev) :
    (opImageStage r d).clk = d.clk ∧ (opImageStage r d).whl = d.whl ∧ (opImageStage r d).span = d.span ∧ (opImageStage r d).fab = d.fab ∧ (opImageStage r d).lnk = d.lnk ∧ (opImageStage r d).cl = d.cl ∧ (opImageStage r d).grants = d.grants ∧ (opImageStage r d).dma = d.dma ∧ (opImageStage r d).bsu = d.bsu ∧ (opImageStage r d).tmr = d.tmr ∧ (opImageStage r d).boot = d.boot ∧ (opImageStage r d).power = d.power ∧ (opImageStage r d).board = d.board ∧ (opImageStage r d).flash = d.flash ∧ (opImageStage r d).mail = d.mail ∧ (opImageStage r d).fuse = d.fuse := by
  have h : (fun d : Dev => (d.clk, d.whl, d.span, d.fab, d.lnk, d.cl, d.grants, d.dma, d.bsu, d.tmr, d.boot, d.power, d.board, d.flash, d.mail, d.fuse)) (opImageStage r d) = (fun d : Dev => (d.clk, d.whl, d.span, d.fab, d.lnk, d.cl, d.grants, d.dma, d.bsu, d.tmr, d.boot, d.power, d.board, d.flash, d.mail, d.fuse)) d := by
    unfold opImageStage ; refine runCmd_keeps (fun d : Dev => (d.clk, d.whl, d.span, d.fab, d.lnk, d.cl, d.grants, d.dma, d.bsu, d.tmr, d.boot, d.power, d.board, d.flash, d.mail, d.fuse)) _ _ _ _ (fun c a => ?_) (fun _ _ => rfl) <;> (try dsimp only) <;> (repeat' split) <;> simp
  simpa using h
@[simp] theorem opImageVerify_frame (r : Nat) (d : Dev) :
    (opImageVerify r d).clk = d.clk ∧ (opImageVerify r d).whl = d.whl ∧ (opImageVerify r d).span = d.span ∧ (opImageVerify r d).fab = d.fab ∧ (opImageVerify r d).lnk = d.lnk ∧ (opImageVerify r d).cl = d.cl ∧ (opImageVerify r d).ten = d.ten ∧ (opImageVerify r d).grants = d.grants ∧ (opImageVerify r d).dma = d.dma ∧ (opImageVerify r d).bsu = d.bsu ∧ (opImageVerify r d).tmr = d.tmr ∧ (opImageVerify r d).boot = d.boot ∧ (opImageVerify r d).power = d.power ∧ (opImageVerify r d).board = d.board ∧ (opImageVerify r d).flash = d.flash ∧ (opImageVerify r d).mail = d.mail ∧ (opImageVerify r d).fuse = d.fuse := by
  have h : (fun d : Dev => (d.clk, d.whl, d.span, d.fab, d.lnk, d.cl, d.ten, d.grants, d.dma, d.bsu, d.tmr, d.boot, d.power, d.board, d.flash, d.mail, d.fuse)) (opImageVerify r d) = (fun d : Dev => (d.clk, d.whl, d.span, d.fab, d.lnk, d.cl, d.ten, d.grants, d.dma, d.bsu, d.tmr, d.boot, d.power, d.board, d.flash, d.mail, d.fuse)) d := by
    unfold opImageVerify ; refine runCmd_keeps (fun d : Dev => (d.clk, d.whl, d.span, d.fab, d.lnk, d.cl, d.ten, d.grants, d.dma, d.bsu, d.tmr, d.boot, d.power, d.board, d.flash, d.mail, d.fuse)) _ _ _ _ (fun c a => ?_) (fun _ _ => rfl) <;> (try dsimp only) <;> (repeat' split) <;> simp
  simpa using h
@[simp] theorem withGrant_frame (t : Nat) (g : GrantRec) (d : Dev) :
    (withGrant t g d).clk = d.clk ∧ (withGrant t g d).whl = d.whl ∧ (withGrant t g d).span = d.span ∧ (withGrant t g d).fab = d.fab ∧ (withGrant t g d).lnk = d.lnk ∧ (withGrant t g d).cl = d.cl ∧ (withGrant t g d).ten = d.ten ∧ (withGrant t g d).host = d.host ∧ (withGrant t g d).dma = d.dma ∧ (withGrant t g d).bsu = d.bsu ∧ (withGrant t g d).tmr = d.tmr ∧ (withGrant t g d).boot = d.boot ∧ (withGrant t g d).power = d.power ∧ (withGrant t g d).board = d.board ∧ (withGrant t g d).flash = d.flash ∧ (withGrant t g d).mail = d.mail ∧ (withGrant t g d).fuse = d.fuse := by simp [withGrant]
@[simp] theorem undoWrites_clk (t : Nat) (b : Array Byte) (g d : Dev) : (undoWrites t b g d).clk = d.clk := by
  unfold undoWrites; dsimp only; split
  · simp
  · refine (foldl_clk _ (fun a r => ?_) _ _).trans (by simp)
    split <;> simp
@[simp] theorem undoWrites_whl (t : Nat) (b : Array Byte) (g d : Dev) : (undoWrites t b g d).whl = d.whl := by
  unfold undoWrites; dsimp only; split
  · simp
  · refine (foldl_whl _ (fun a r => ?_) _ _).trans (by simp)
    split <;> simp
@[simp] theorem undoWrites_span (t : Nat) (b : Array Byte) (g d : Dev) : (undoWrites t b g d).span = d.span := by
  unfold undoWrites; dsimp only; split
  · simp
  · refine (foldl_span _ (fun a r => ?_) _ _).trans (by simp)
    split <;> simp
@[simp] theorem undoWrites_lnk (t : Nat) (b : Array Byte) (g d : Dev) : (undoWrites t b g d).lnk = d.lnk := by
  unfold undoWrites; dsimp only; split
  · simp
  · refine (foldl_lnk _ (fun a r => ?_) _ _).trans (by simp)
    split <;> simp
@[simp] theorem undoWrites_ten (t : Nat) (b : Array Byte) (g d : Dev) : (undoWrites t b g d).ten = d.ten := by
  unfold undoWrites; dsimp only; split
  · simp
  · refine (foldl_ten _ (fun a r => ?_) _ _).trans (by simp)
    split <;> simp
@[simp] theorem undoWrites_grants (t : Nat) (b : Array Byte) (g d : Dev) : (undoWrites t b g d).grants = d.grants := by
  unfold undoWrites; dsimp only; split
  · simp
  · refine (foldl_grants _ (fun a r => ?_) _ _).trans (by simp)
    split <;> simp
@[simp] theorem undoWrites_host (t : Nat) (b : Array Byte) (g d : Dev) : (undoWrites t b g d).host = d.host := by
  unfold undoWrites; dsimp only; split
  · simp
  · refine (foldl_host _ (fun a r => ?_) _ _).trans (by simp)
    split <;> simp
@[simp] theorem undoWrites_dma (t : Nat) (b : Array Byte) (g d : Dev) : (undoWrites t b g d).dma = d.dma := by
  unfold undoWrites; dsimp only; split
  · simp
  · refine (foldl_dma _ (fun a r => ?_) _ _).trans (by simp)
    split <;> simp
@[simp] theorem undoWrites_bsu (t : Nat) (b : Array Byte) (g d : Dev) : (undoWrites t b g d).bsu = d.bsu := by
  unfold undoWrites; dsimp only; split
  · simp
  · refine (foldl_bsu _ (fun a r => ?_) _ _).trans (by simp)
    split <;> simp
@[simp] theorem undoWrites_tmr (t : Nat) (b : Array Byte) (g d : Dev) : (undoWrites t b g d).tmr = d.tmr := by
  unfold undoWrites; dsimp only; split
  · simp
  · refine (foldl_tmr _ (fun a r => ?_) _ _).trans (by simp)
    split <;> simp
@[simp] theorem undoWrites_boot (t : Nat) (b : Array Byte) (g d : Dev) : (undoWrites t b g d).boot = d.boot := by
  unfold undoWrites; dsimp only; split
  · simp
  · refine (foldl_boot _ (fun a r => ?_) _ _).trans (by simp)
    split <;> simp
@[simp] theorem undoWrites_power (t : Nat) (b : Array Byte) (g d : Dev) : (undoWrites t b g d).power = d.power := by
  unfold undoWrites; dsimp only; split
  · simp
  · refine (foldl_power _ (fun a r => ?_) _ _).trans (by simp)
    split <;> simp
@[simp] theorem undoWrites_board (t : Nat) (b : Array Byte) (g d : Dev) : (undoWrites t b g d).board = d.board := by
  unfold undoWrites; dsimp only; split
  · simp
  · refine (foldl_board _ (fun a r => ?_) _ _).trans (by simp)
    split <;> simp
@[simp] theorem undoWrites_flash (t : Nat) (b : Array Byte) (g d : Dev) : (undoWrites t b g d).flash = d.flash := by
  unfold undoWrites; dsimp only; split
  · simp
  · refine (foldl_flash _ (fun a r => ?_) _ _).trans (by simp)
    split <;> simp
@[simp] theorem undoWrites_mail (t : Nat) (b : Array Byte) (g d : Dev) : (undoWrites t b g d).mail = d.mail := by
  unfold undoWrites; dsimp only; split
  · simp
  · refine (foldl_mail _ (fun a r => ?_) _ _).trans (by simp)
    split <;> simp
@[simp] theorem undoWrites_fuse (t : Nat) (b : Array Byte) (g d : Dev) : (undoWrites t b g d).fuse = d.fuse := by
  unfold undoWrites; dsimp only; split
  · simp
  · refine (foldl_fuse _ (fun a r => ?_) _ _).trans (by simp)
    split <;> simp
@[simp] theorem opImageLoad_frame (r : Nat) (d : Dev) :
    (opImageLoad r d).clk = d.clk ∧ (opImageLoad r d).whl = d.whl ∧ (opImageLoad r d).span = d.span ∧ (opImageLoad r d).grants = d.grants ∧ (opImageLoad r d).dma = d.dma ∧ (opImageLoad r d).bsu = d.bsu ∧ (opImageLoad r d).tmr = d.tmr ∧ (opImageLoad r d).boot = d.boot ∧ (opImageLoad r d).power = d.power ∧ (opImageLoad r d).board = d.board ∧ (opImageLoad r d).flash = d.flash ∧ (opImageLoad r d).mail = d.mail ∧ (opImageLoad r d).fuse = d.fuse := by
  have h : (fun d : Dev => (d.clk, d.whl, d.span, d.grants, d.dma, d.bsu, d.tmr, d.boot, d.power, d.board, d.flash, d.mail, d.fuse)) (opImageLoad r d) = (fun d : Dev => (d.clk, d.whl, d.span, d.grants, d.dma, d.bsu, d.tmr, d.boot, d.power, d.board, d.flash, d.mail, d.fuse)) d := by
    unfold opImageLoad ; refine runCmd_keeps (fun d : Dev => (d.clk, d.whl, d.span, d.grants, d.dma, d.bsu, d.tmr, d.boot, d.power, d.board, d.flash, d.mail, d.fuse)) _ _ _ _ (fun c a => ?_) (fun _ _ => rfl) <;> (try dsimp only) <;> (repeat' split) <;> simp
  simpa using h
@[simp] theorem opImageUnload_frame (r : Nat) (d : Dev) :
    (opImageUnload r d).clk = d.clk ∧ (opImageUnload r d).whl = d.whl ∧ (opImageUnload r d).span = d.span ∧ (opImageUnload r d).cl = d.cl ∧ (opImageUnload r d).grants = d.grants ∧ (opImageUnload r d).dma = d.dma ∧ (opImageUnload r d).boot = d.boot ∧ (opImageUnload r d).power = d.power ∧ (opImageUnload r d).board = d.board ∧ (opImageUnload r d).flash = d.flash ∧ (opImageUnload r d).mail = d.mail ∧ (opImageUnload r d).fuse = d.fuse := by
  have h : (fun d : Dev => (d.clk, d.whl, d.span, d.cl, d.grants, d.dma, d.boot, d.power, d.board, d.flash, d.mail, d.fuse)) (opImageUnload r d) = (fun d : Dev => (d.clk, d.whl, d.span, d.cl, d.grants, d.dma, d.boot, d.power, d.board, d.flash, d.mail, d.fuse)) d := by
    unfold opImageUnload ; refine runCmd_keeps (fun d : Dev => (d.clk, d.whl, d.span, d.cl, d.grants, d.dma, d.boot, d.power, d.board, d.flash, d.mail, d.fuse)) _ _ _ _ (fun c a => ?_) (fun _ _ => rfl) <;> (try dsimp only) <;> (repeat' split) <;> simp
  simpa using h
@[simp] theorem opBucketSelect_frame (r : Nat) (d : Dev) :
    (opBucketSelect r d).clk = d.clk ∧ (opBucketSelect r d).whl = d.whl ∧ (opBucketSelect r d).span = d.span ∧ (opBucketSelect r d).fab = d.fab ∧ (opBucketSelect r d).lnk = d.lnk ∧ (opBucketSelect r d).cl = d.cl ∧ (opBucketSelect r d).grants = d.grants ∧ (opBucketSelect r d).dma = d.dma ∧ (opBucketSelect r d).bsu = d.bsu ∧ (opBucketSelect r d).tmr = d.tmr ∧ (opBucketSelect r d).boot = d.boot ∧ (opBucketSelect r d).power = d.power ∧ (opBucketSelect r d).board = d.board ∧ (opBucketSelect r d).flash = d.flash ∧ (opBucketSelect r d).mail = d.mail ∧ (opBucketSelect r d).fuse = d.fuse := by
  have h : (fun d : Dev => (d.clk, d.whl, d.span, d.fab, d.lnk, d.cl, d.grants, d.dma, d.bsu, d.tmr, d.boot, d.power, d.board, d.flash, d.mail, d.fuse)) (opBucketSelect r d) = (fun d : Dev => (d.clk, d.whl, d.span, d.fab, d.lnk, d.cl, d.grants, d.dma, d.bsu, d.tmr, d.boot, d.power, d.board, d.flash, d.mail, d.fuse)) d := by
    unfold opBucketSelect ; refine runCmd_keeps (fun d : Dev => (d.clk, d.whl, d.span, d.fab, d.lnk, d.cl, d.grants, d.dma, d.bsu, d.tmr, d.boot, d.power, d.board, d.flash, d.mail, d.fuse)) _ _ _ _ (fun c a => ?_) (fun _ _ => rfl) <;> (try dsimp only) <;> (repeat' split) <;> simp
  simpa using h

/-! ## Machine/Exec.lean -/

@[simp] theorem openSegs_frame (t k : Nat) (d : Dev) :
    (openSegs t k d).clk = d.clk ∧ (openSegs t k d).whl = d.whl ∧ (openSegs t k d).span = d.span ∧ (openSegs t k d).lnk = d.lnk ∧ (openSegs t k d).cl = d.cl ∧ (openSegs t k d).ten = d.ten ∧ (openSegs t k d).grants = d.grants ∧ (openSegs t k d).host = d.host ∧ (openSegs t k d).dma = d.dma ∧ (openSegs t k d).bsu = d.bsu ∧ (openSegs t k d).tmr = d.tmr ∧ (openSegs t k d).boot = d.boot ∧ (openSegs t k d).power = d.power ∧ (openSegs t k d).board = d.board ∧ (openSegs t k d).flash = d.flash ∧ (openSegs t k d).mail = d.mail ∧ (openSegs t k d).fuse = d.fuse := by unfold openSegs; (repeat' split) <;> simp
@[simp] theorem opBucketSegmentsCurrent_frame (t : Nat) (d : Dev) :
    (opBucketSegmentsCurrent t d).clk = d.clk ∧ (opBucketSegmentsCurrent t d).whl = d.whl ∧ (opBucketSegmentsCurrent t d).span = d.span ∧ (opBucketSegmentsCurrent t d).lnk = d.lnk ∧ (opBucketSegmentsCurrent t d).cl = d.cl ∧ (opBucketSegmentsCurrent t d).grants = d.grants ∧ (opBucketSegmentsCurrent t d).host = d.host ∧ (opBucketSegmentsCurrent t d).dma = d.dma ∧ (opBucketSegmentsCurrent t d).bsu = d.bsu ∧ (opBucketSegmentsCurrent t d).tmr = d.tmr ∧ (opBucketSegmentsCurrent t d).boot = d.boot ∧ (opBucketSegmentsCurrent t d).power = d.power ∧ (opBucketSegmentsCurrent t d).board = d.board ∧ (opBucketSegmentsCurrent t d).flash = d.flash ∧ (opBucketSegmentsCurrent t d).mail = d.mail ∧ (opBucketSegmentsCurrent t d).fuse = d.fuse := by unfold opBucketSegmentsCurrent; dsimp only; (repeat' split) <;> simp
@[simp] theorem armClusters_frame (t : Nat) (d : Dev) :
    (armClusters t d).clk = d.clk ∧ (armClusters t d).whl = d.whl ∧ (armClusters t d).span = d.span ∧ (armClusters t d).fab = d.fab ∧ (armClusters t d).lnk = d.lnk ∧ (armClusters t d).grants = d.grants ∧ (armClusters t d).host = d.host ∧ (armClusters t d).dma = d.dma ∧ (armClusters t d).bsu = d.bsu ∧ (armClusters t d).tmr = d.tmr ∧ (armClusters t d).boot = d.boot ∧ (armClusters t d).power = d.power ∧ (armClusters t d).board = d.board ∧ (armClusters t d).flash = d.flash ∧ (armClusters t d).mail = d.mail ∧ (armClusters t d).fuse = d.fuse := by unfold armClusters; (repeat' split) <;> simp
@[simp] theorem opClusterArm_frame (t : Nat) (d : Dev) :
    (opClusterArm t d).clk = d.clk ∧ (opClusterArm t d).whl = d.whl ∧ (opClusterArm t d).span = d.span ∧ (opClusterArm t d).fab = d.fab ∧ (opClusterArm t d).lnk = d.lnk ∧ (opClusterArm t d).grants = d.grants ∧ (opClusterArm t d).host = d.host ∧ (opClusterArm t d).dma = d.dma ∧ (opClusterArm t d).bsu = d.bsu ∧ (opClusterArm t d).tmr = d.tmr ∧ (opClusterArm t d).boot = d.boot ∧ (opClusterArm t d).power = d.power ∧ (opClusterArm t d).board = d.board ∧ (opClusterArm t d).flash = d.flash ∧ (opClusterArm t d).mail = d.mail ∧ (opClusterArm t d).fuse = d.fuse := by unfold opClusterArm; dsimp only; (repeat' split) <;> simp
@[simp] theorem startProgram_frame (t completion : Nat) (d : Dev) :
    (startProgram t completion d).clk = d.clk ∧ (startProgram t completion d).whl = d.whl ∧ (startProgram t completion d).span = d.span ∧ (startProgram t completion d).lnk = d.lnk ∧ (startProgram t completion d).grants = d.grants ∧ (startProgram t completion d).host = d.host ∧ (startProgram t completion d).dma = d.dma ∧ (startProgram t completion d).bsu = d.bsu ∧ (startProgram t completion d).tmr = d.tmr ∧ (startProgram t completion d).boot = d.boot ∧ (startProgram t completion d).power = d.power ∧ (startProgram t completion d).board = d.board ∧ (startProgram t completion d).flash = d.flash ∧ (startProgram t completion d).mail = d.mail ∧ (startProgram t completion d).fuse = d.fuse := by unfold startProgram; (try dsimp only); (repeat' split) <;> simp [apply_ite Dev.clk, apply_ite Dev.whl, apply_ite Dev.span, apply_ite Dev.lnk, apply_ite Dev.grants, apply_ite Dev.host, apply_ite Dev.dma, apply_ite Dev.bsu, apply_ite Dev.tmr, apply_ite Dev.boot, apply_ite Dev.power, apply_ite Dev.board, apply_ite Dev.flash, apply_ite Dev.mail, apply_ite Dev.fuse]
@[simp] theorem opLaunchCountReached_frame (t : Nat) (d : Dev) :
    (opLaunchCountReached t d).clk = d.clk ∧ (opLaunchCountReached t d).whl = d.whl ∧ (opLaunchCountReached t d).span = d.span ∧ (opLaunchCountReached t d).lnk = d.lnk ∧ (opLaunchCountReached t d).grants = d.grants ∧ (opLaunchCountReached t d).host = d.host ∧ (opLaunchCountReached t d).dma = d.dma ∧ (opLaunchCountReached t d).bsu = d.bsu ∧ (opLaunchCountReached t d).tmr = d.tmr ∧ (opLaunchCountReached t d).boot = d.boot ∧ (opLaunchCountReached t d).power = d.power ∧ (opLaunchCountReached t d).board = d.board ∧ (opLaunchCountReached t d).flash = d.flash ∧ (opLaunchCountReached t d).mail = d.mail ∧ (opLaunchCountReached t d).fuse = d.fuse := by unfold opLaunchCountReached; dsimp only; (repeat' split) <;> simp
@[simp] theorem completeProgram_frame (t gc : Nat) (d : Dev) :
    (completeProgram t gc d).clk = d.clk ∧ (completeProgram t gc d).whl = d.whl ∧ (completeProgram t gc d).span = d.span ∧ (completeProgram t gc d).lnk = d.lnk ∧ (completeProgram t gc d).grants = d.grants ∧ (completeProgram t gc d).bsu = d.bsu ∧ (completeProgram t gc d).tmr = d.tmr ∧ (completeProgram t gc d).boot = d.boot ∧ (completeProgram t gc d).power = d.power ∧ (completeProgram t gc d).board = d.board ∧ (completeProgram t gc d).flash = d.flash ∧ (completeProgram t gc d).mail = d.mail ∧ (completeProgram t gc d).fuse = d.fuse := by simp [completeProgram]
@[simp] theorem opProgramCompletionCheck_frame (t : Nat) (d : Dev) :
    (opProgramCompletionCheck t d).clk = d.clk ∧ (opProgramCompletionCheck t d).whl = d.whl ∧ (opProgramCompletionCheck t d).span = d.span ∧ (opProgramCompletionCheck t d).lnk = d.lnk ∧ (opProgramCompletionCheck t d).grants = d.grants ∧ (opProgramCompletionCheck t d).bsu = d.bsu ∧ (opProgramCompletionCheck t d).tmr = d.tmr ∧ (opProgramCompletionCheck t d).boot = d.boot ∧ (opProgramCompletionCheck t d).power = d.power ∧ (opProgramCompletionCheck t d).board = d.board ∧ (opProgramCompletionCheck t d).flash = d.flash ∧ (opProgramCompletionCheck t d).mail = d.mail ∧ (opProgramCompletionCheck t d).fuse = d.fuse := by unfold opProgramCompletionCheck; dsimp only; (repeat' split) <;> simp
@[simp] theorem haltProgram_frame (t gc : Nat) (d : Dev) :
    (haltProgram t gc d).clk = d.clk ∧ (haltProgram t gc d).whl = d.whl ∧ (haltProgram t gc d).span = d.span ∧ (haltProgram t gc d).lnk = d.lnk ∧ (haltProgram t gc d).grants = d.grants ∧ (haltProgram t gc d).tmr = d.tmr ∧ (haltProgram t gc d).boot = d.boot ∧ (haltProgram t gc d).power = d.power ∧ (haltProgram t gc d).board = d.board ∧ (haltProgram t gc d).flash = d.flash ∧ (haltProgram t gc d).mail = d.mail ∧ (haltProgram t gc d).fuse = d.fuse := by simp [haltProgram]
@[simp] theorem completeBefore_frame (t gc : Nat) (d : Dev) :
    (completeBefore t gc d).clk = d.clk ∧ (completeBefore t gc d).whl = d.whl ∧ (completeBefore t gc d).span = d.span ∧ (completeBefore t gc d).lnk = d.lnk ∧ (completeBefore t gc d).grants = d.grants ∧ (completeBefore t gc d).bsu = d.bsu ∧ (completeBefore t gc d).tmr = d.tmr ∧ (completeBefore t gc d).boot = d.boot ∧ (completeBefore t gc d).power = d.power ∧ (completeBefore t gc d).board = d.board ∧ (completeBefore t gc d).flash = d.flash ∧ (completeBefore t gc d).mail = d.mail ∧ (completeBefore t gc d).fuse = d.fuse := by unfold completeBefore; (repeat' split) <;> simp
@[simp] theorem haltByRing_frame (t : Nat) (c : Cmd) (d0 : Dev) :
    (haltByRing t c d0).clk = d0.clk ∧ (haltByRing t c d0).whl = d0.whl ∧ (haltByRing t c d0).span = d0.span ∧ (haltByRing t c d0).lnk = d0.lnk ∧ (haltByRing t c d0).grants = d0.grants ∧ (haltByRing t c d0).tmr = d0.tmr ∧ (haltByRing t c d0).boot = d0.boot ∧ (haltByRing t c d0).power = d0.power ∧ (haltByRing t c d0).board = d0.board ∧ (haltByRing t c d0).flash = d0.flash ∧ (haltByRing t c d0).mail = d0.mail ∧ (haltByRing t c d0).fuse = d0.fuse := by unfold haltByRing; dsimp only; (repeat' split) <;> simp
@[simp] theorem haltByReplay_frame (t h : Nat) (d0 : Dev) :
    (haltByReplay t h d0).clk = d0.clk ∧ (haltByReplay t h d0).whl = d0.whl ∧ (haltByReplay t h d0).span = d0.span ∧ (haltByReplay t h d0).lnk = d0.lnk ∧ (haltByReplay t h d0).grants = d0.grants ∧ (haltByReplay t h d0).tmr = d0.tmr ∧ (haltByReplay t h d0).boot = d0.boot ∧ (haltByReplay t h d0).power = d0.power ∧ (haltByReplay t h d0).board = d0.board ∧ (haltByReplay t h d0).flash = d0.flash ∧ (haltByReplay t h d0).mail = d0.mail ∧ (haltByReplay t h d0).fuse = d0.fuse := by unfold haltByReplay; dsimp only; (repeat' split) <;> simp
@[simp] theorem opHaltAtReached_frame (t : Nat) (d : Dev) :
    (opHaltAtReached t d).clk = d.clk ∧ (opHaltAtReached t d).whl = d.whl ∧ (opHaltAtReached t d).span = d.span ∧ (opHaltAtReached t d).lnk = d.lnk ∧ (opHaltAtReached t d).grants = d.grants ∧ (opHaltAtReached t d).tmr = d.tmr ∧ (opHaltAtReached t d).boot = d.boot ∧ (opHaltAtReached t d).power = d.power ∧ (opHaltAtReached t d).board = d.board ∧ (opHaltAtReached t d).flash = d.flash ∧ (opHaltAtReached t d).mail = d.mail ∧ (opHaltAtReached t d).fuse = d.fuse := by unfold opHaltAtReached; dsimp only; (repeat' split) <;> simp
@[simp] theorem holdViews_frame (t s : Nat) (d : Dev) :
    (holdViews t s d).clk = d.clk ∧ (holdViews t s d).whl = d.whl ∧ (holdViews t s d).span = d.span ∧ (holdViews t s d).fab = d.fab ∧ (holdViews t s d).lnk = d.lnk ∧ (holdViews t s d).ten = d.ten ∧ (holdViews t s d).grants = d.grants ∧ (holdViews t s d).host = d.host ∧ (holdViews t s d).dma = d.dma ∧ (holdViews t s d).bsu = d.bsu ∧ (holdViews t s d).tmr = d.tmr ∧ (holdViews t s d).boot = d.boot ∧ (holdViews t s d).power = d.power ∧ (holdViews t s d).board = d.board ∧ (holdViews t s d).flash = d.flash ∧ (holdViews t s d).mail = d.mail ∧ (holdViews t s d).fuse = d.fuse := by simp [holdViews]
@[simp] theorem releaseViews_frame (t : Nat) (d : Dev) :
    (releaseViews t d).clk = d.clk ∧ (releaseViews t d).whl = d.whl ∧ (releaseViews t d).span = d.span ∧ (releaseViews t d).fab = d.fab ∧ (releaseViews t d).lnk = d.lnk ∧ (releaseViews t d).ten = d.ten ∧ (releaseViews t d).grants = d.grants ∧ (releaseViews t d).host = d.host ∧ (releaseViews t d).dma = d.dma ∧ (releaseViews t d).bsu = d.bsu ∧ (releaseViews t d).tmr = d.tmr ∧ (releaseViews t d).boot = d.boot ∧ (releaseViews t d).power = d.power ∧ (releaseViews t d).board = d.board ∧ (releaseViews t d).flash = d.flash ∧ (releaseViews t d).mail = d.mail ∧ (releaseViews t d).fuse = d.fuse := by simp [releaseViews]
@[simp] theorem opSuspendEffect_frame (t : Nat) (d : Dev) :
    (opSuspendEffect t d).clk = d.clk ∧ (opSuspendEffect t d).whl = d.whl ∧ (opSuspendEffect t d).span = d.span ∧ (opSuspendEffect t d).lnk = d.lnk ∧ (opSuspendEffect t d).grants = d.grants ∧ (opSuspendEffect t d).dma = d.dma ∧ (opSuspendEffect t d).bsu = d.bsu ∧ (opSuspendEffect t d).tmr = d.tmr ∧ (opSuspendEffect t d).boot = d.boot ∧ (opSuspendEffect t d).power = d.power ∧ (opSuspendEffect t d).board = d.board ∧ (opSuspendEffect t d).flash = d.flash ∧ (opSuspendEffect t d).mail = d.mail ∧ (opSuspendEffect t d).fuse = d.fuse := by unfold opSuspendEffect; dsimp only; (repeat' split) <;> simp
@[simp] theorem opResumeEffect_frame (t : Nat) (d : Dev) :
    (opResumeEffect t d).clk = d.clk ∧ (opResumeEffect t d).whl = d.whl ∧ (opResumeEffect t d).span = d.span ∧ (opResumeEffect t d).lnk = d.lnk ∧ (opResumeEffect t d).grants = d.grants ∧ (opResumeEffect t d).dma = d.dma ∧ (opResumeEffect t d).tmr = d.tmr ∧ (opResumeEffect t d).boot = d.boot ∧ (opResumeEffect t d).power = d.power ∧ (opResumeEffect t d).board = d.board ∧ (opResumeEffect t d).flash = d.flash ∧ (opResumeEffect t d).mail = d.mail ∧ (opResumeEffect t d).fuse = d.fuse := by unfold opResumeEffect; dsimp only; (repeat' split) <;> simp
@[simp] theorem opWaitCountReached_frame (d : Dev) :
    (opWaitCountReached d).clk = d.clk ∧ (opWaitCountReached d).whl = d.whl ∧ (opWaitCountReached d).span = d.span ∧ (opWaitCountReached d).fab = d.fab ∧ (opWaitCountReached d).lnk = d.lnk ∧ (opWaitCountReached d).cl = d.cl ∧ (opWaitCountReached d).ten = d.ten ∧ (opWaitCountReached d).grants = d.grants ∧ (opWaitCountReached d).dma = d.dma ∧ (opWaitCountReached d).bsu = d.bsu ∧ (opWaitCountReached d).tmr = d.tmr ∧ (opWaitCountReached d).boot = d.boot ∧ (opWaitCountReached d).power = d.power ∧ (opWaitCountReached d).board = d.board ∧ (opWaitCountReached d).flash = d.flash ∧ (opWaitCountReached d).mail = d.mail ∧ (opWaitCountReached d).fuse = d.fuse := by simp [opWaitCountReached]
@[simp] theorem opFaultRaised_frame (t code : Nat) (d : Dev) :
    (opFaultRaised t code d).clk = d.clk ∧ (opFaultRaised t code d).whl = d.whl ∧ (opFaultRaised t code d).span = d.span ∧ (opFaultRaised t code d).fab = d.fab ∧ (opFaultRaised t code d).lnk = d.lnk ∧ (opFaultRaised t code d).cl = d.cl ∧ (opFaultRaised t code d).grants = d.grants ∧ (opFaultRaised t code d).dma = d.dma ∧ (opFaultRaised t code d).bsu = d.bsu ∧ (opFaultRaised t code d).tmr = d.tmr ∧ (opFaultRaised t code d).boot = d.boot ∧ (opFaultRaised t code d).power = d.power ∧ (opFaultRaised t code d).board = d.board ∧ (opFaultRaised t code d).flash = d.flash ∧ (opFaultRaised t code d).mail = d.mail ∧ (opFaultRaised t code d).fuse = d.fuse := by simp [opFaultRaised]
@[simp] theorem stopFaulted_frame (t gc : Nat) (d : Dev) :
    (stopFaulted t gc d).clk = d.clk ∧ (stopFaulted t gc d).whl = d.whl ∧ (stopFaulted t gc d).span = d.span ∧ (stopFaulted t gc d).lnk = d.lnk ∧ (stopFaulted t gc d).grants = d.grants ∧ (stopFaulted t gc d).tmr = d.tmr ∧ (stopFaulted t gc d).boot = d.boot ∧ (stopFaulted t gc d).power = d.power ∧ (stopFaulted t gc d).board = d.board ∧ (stopFaulted t gc d).flash = d.flash ∧ (stopFaulted t gc d).mail = d.mail ∧ (stopFaulted t gc d).fuse = d.fuse := by unfold stopFaulted; (repeat' split) <;> simp
@[simp] theorem opFaultStop_frame (t : Nat) (d : Dev) :
    (opFaultStop t d).clk = d.clk ∧ (opFaultStop t d).whl = d.whl ∧ (opFaultStop t d).span = d.span ∧ (opFaultStop t d).lnk = d.lnk ∧ (opFaultStop t d).grants = d.grants ∧ (opFaultStop t d).tmr = d.tmr ∧ (opFaultStop t d).boot = d.boot ∧ (opFaultStop t d).power = d.power ∧ (opFaultStop t d).board = d.board ∧ (opFaultStop t d).flash = d.flash ∧ (opFaultStop t d).mail = d.mail ∧ (opFaultStop t d).fuse = d.fuse := by unfold opFaultStop; (repeat' split) <;> simp
@[simp] theorem postLaunch_frame (t launch k : Nat) (words : List Nat) (cmd : Nat) (rec_ replayed : Bool) (d : Dev) :
    (postLaunch t launch k words cmd rec_ replayed d).clk = d.clk ∧ (postLaunch t launch k words cmd rec_ replayed d).whl = d.whl ∧ (postLaunch t launch k words cmd rec_ replayed d).span = d.span ∧ (postLaunch t launch k words cmd rec_ replayed d).fab = d.fab ∧ (postLaunch t launch k words cmd rec_ replayed d).lnk = d.lnk ∧ (postLaunch t launch k words cmd rec_ replayed d).cl = d.cl ∧ (postLaunch t launch k words cmd rec_ replayed d).grants = d.grants ∧ (postLaunch t launch k words cmd rec_ replayed d).host = d.host ∧ (postLaunch t launch k words cmd rec_ replayed d).dma = d.dma ∧ (postLaunch t launch k words cmd rec_ replayed d).bsu = d.bsu ∧ (postLaunch t launch k words cmd rec_ replayed d).tmr = d.tmr ∧ (postLaunch t launch k words cmd rec_ replayed d).boot = d.boot ∧ (postLaunch t launch k words cmd rec_ replayed d).power = d.power ∧ (postLaunch t launch k words cmd rec_ replayed d).board = d.board ∧ (postLaunch t launch k words cmd rec_ replayed d).flash = d.flash ∧ (postLaunch t launch k words cmd rec_ replayed d).mail = d.mail ∧ (postLaunch t launch k words cmd rec_ replayed d).fuse = d.fuse := by simp [postLaunch]
@[simp] theorem reserveEnd_frame (t : Nat) (d : Dev) :
    (reserveEnd t d).clk = d.clk ∧ (reserveEnd t d).whl = d.whl ∧ (reserveEnd t d).span = d.span ∧ (reserveEnd t d).fab = d.fab ∧ (reserveEnd t d).lnk = d.lnk ∧ (reserveEnd t d).cl = d.cl ∧ (reserveEnd t d).grants = d.grants ∧ (reserveEnd t d).host = d.host ∧ (reserveEnd t d).dma = d.dma ∧ (reserveEnd t d).bsu = d.bsu ∧ (reserveEnd t d).tmr = d.tmr ∧ (reserveEnd t d).boot = d.boot ∧ (reserveEnd t d).power = d.power ∧ (reserveEnd t d).board = d.board ∧ (reserveEnd t d).flash = d.flash ∧ (reserveEnd t d).mail = d.mail ∧ (reserveEnd t d).fuse = d.fuse := by simp [reserveEnd]
@[simp] theorem launchBody_frame (t launch : Nat) (c : Cmd) (im : Loaded) (d : Dev) :
    (launchBody t launch c im d).clk = d.clk ∧ (launchBody t launch c im d).whl = d.whl ∧ (launchBody t launch c im d).span = d.span ∧ (launchBody t launch c im d).fab = d.fab ∧ (launchBody t launch c im d).lnk = d.lnk ∧ (launchBody t launch c im d).cl = d.cl ∧ (launchBody t launch c im d).grants = d.grants ∧ (launchBody t launch c im d).dma = d.dma ∧ (launchBody t launch c im d).bsu = d.bsu ∧ (launchBody t launch c im d).tmr = d.tmr ∧ (launchBody t launch c im d).boot = d.boot ∧ (launchBody t launch c im d).power = d.power ∧ (launchBody t launch c im d).board = d.board ∧ (launchBody t launch c im d).flash = d.flash ∧ (launchBody t launch c im d).mail = d.mail ∧ (launchBody t launch c im d).fuse = d.fuse := by unfold launchBody; dsimp only; (repeat' split) <;> simp
@[simp] theorem opLaunchAt_frame (r : Nat) (d : Dev) :
    (opLaunchAt r d).clk = d.clk ∧ (opLaunchAt r d).whl = d.whl ∧ (opLaunchAt r d).span = d.span ∧ (opLaunchAt r d).fab = d.fab ∧ (opLaunchAt r d).lnk = d.lnk ∧ (opLaunchAt r d).cl = d.cl ∧ (opLaunchAt r d).grants = d.grants ∧ (opLaunchAt r d).dma = d.dma ∧ (opLaunchAt r d).bsu = d.bsu ∧ (opLaunchAt r d).tmr = d.tmr ∧ (opLaunchAt r d).boot = d.boot ∧ (opLaunchAt r d).power = d.power ∧ (opLaunchAt r d).board = d.board ∧ (opLaunchAt r d).flash = d.flash ∧ (opLaunchAt r d).mail = d.mail ∧ (opLaunchAt r d).fuse = d.fuse := by
  have h : (fun d : Dev => (d.clk, d.whl, d.span, d.fab, d.lnk, d.cl, d.grants, d.dma, d.bsu, d.tmr, d.boot, d.power, d.board, d.flash, d.mail, d.fuse)) (opLaunchAt r d) = (fun d : Dev => (d.clk, d.whl, d.span, d.fab, d.lnk, d.cl, d.grants, d.dma, d.bsu, d.tmr, d.boot, d.power, d.board, d.flash, d.mail, d.fuse)) d := by
    unfold opLaunchAt ; refine runCmd_keeps (fun d : Dev => (d.clk, d.whl, d.span, d.fab, d.lnk, d.cl, d.grants, d.dma, d.bsu, d.tmr, d.boot, d.power, d.board, d.flash, d.mail, d.fuse)) _ _ _ _ (fun c a => ?_) (fun _ _ => rfl) <;> (try dsimp only) <;> (repeat' split) <;> simp
  simpa using h
@[simp] theorem opLaunchNext_frame (r : Nat) (d : Dev) :
    (opLaunchNext r d).clk = d.clk ∧ (opLaunchNext r d).whl = d.whl ∧ (opLaunchNext r d).span = d.span ∧ (opLaunchNext r d).fab = d.fab ∧ (opLaunchNext r d).lnk = d.lnk ∧ (opLaunchNext r d).cl = d.cl ∧ (opLaunchNext r d).grants = d.grants ∧ (opLaunchNext r d).dma = d.dma ∧ (opLaunchNext r d).bsu = d.bsu ∧ (opLaunchNext r d).tmr = d.tmr ∧ (opLaunchNext r d).boot = d.boot ∧ (opLaunchNext r d).power = d.power ∧ (opLaunchNext r d).board = d.board ∧ (opLaunchNext r d).flash = d.flash ∧ (opLaunchNext r d).mail = d.mail ∧ (opLaunchNext r d).fuse = d.fuse := by
  have h : (fun d : Dev => (d.clk, d.whl, d.span, d.fab, d.lnk, d.cl, d.grants, d.dma, d.bsu, d.tmr, d.boot, d.power, d.board, d.flash, d.mail, d.fuse)) (opLaunchNext r d) = (fun d : Dev => (d.clk, d.whl, d.span, d.fab, d.lnk, d.cl, d.grants, d.dma, d.bsu, d.tmr, d.boot, d.power, d.board, d.flash, d.mail, d.fuse)) d := by
    unfold opLaunchNext ; refine runCmd_keeps (fun d : Dev => (d.clk, d.whl, d.span, d.fab, d.lnk, d.cl, d.grants, d.dma, d.bsu, d.tmr, d.boot, d.power, d.board, d.flash, d.mail, d.fuse)) _ _ _ _ (fun c a => ?_) (fun _ _ => rfl) <;> (try dsimp only) <;> (repeat' split) <;> simp
  simpa using h
@[simp] theorem opHaltAt_frame (r : Nat) (d : Dev) :
    (opHaltAt r d).clk = d.clk ∧ (opHaltAt r d).whl = d.whl ∧ (opHaltAt r d).span = d.span ∧ (opHaltAt r d).fab = d.fab ∧ (opHaltAt r d).lnk = d.lnk ∧ (opHaltAt r d).cl = d.cl ∧ (opHaltAt r d).grants = d.grants ∧ (opHaltAt r d).dma = d.dma ∧ (opHaltAt r d).bsu = d.bsu ∧ (opHaltAt r d).tmr = d.tmr ∧ (opHaltAt r d).boot = d.boot ∧ (opHaltAt r d).power = d.power ∧ (opHaltAt r d).board = d.board ∧ (opHaltAt r d).flash = d.flash ∧ (opHaltAt r d).mail = d.mail ∧ (opHaltAt r d).fuse = d.fuse := by
  have h : (fun d : Dev => (d.clk, d.whl, d.span, d.fab, d.lnk, d.cl, d.grants, d.dma, d.bsu, d.tmr, d.boot, d.power, d.board, d.flash, d.mail, d.fuse)) (opHaltAt r d) = (fun d : Dev => (d.clk, d.whl, d.span, d.fab, d.lnk, d.cl, d.grants, d.dma, d.bsu, d.tmr, d.boot, d.power, d.board, d.flash, d.mail, d.fuse)) d := by
    unfold opHaltAt ; refine runCmd_keeps (fun d : Dev => (d.clk, d.whl, d.span, d.fab, d.lnk, d.cl, d.grants, d.dma, d.bsu, d.tmr, d.boot, d.power, d.board, d.flash, d.mail, d.fuse)) _ _ _ _ (fun c a => ?_) (fun _ _ => rfl) <;> (try dsimp only) <;> (repeat' split) <;> simp
  simpa using h
@[simp] theorem opSuspend_frame (r : Nat) (d : Dev) :
    (opSuspend r d).clk = d.clk ∧ (opSuspend r d).whl = d.whl ∧ (opSuspend r d).span = d.span ∧ (opSuspend r d).fab = d.fab ∧ (opSuspend r d).lnk = d.lnk ∧ (opSuspend r d).cl = d.cl ∧ (opSuspend r d).ten = d.ten ∧ (opSuspend r d).grants = d.grants ∧ (opSuspend r d).dma = d.dma ∧ (opSuspend r d).bsu = d.bsu ∧ (opSuspend r d).tmr = d.tmr ∧ (opSuspend r d).boot = d.boot ∧ (opSuspend r d).power = d.power ∧ (opSuspend r d).board = d.board ∧ (opSuspend r d).flash = d.flash ∧ (opSuspend r d).mail = d.mail ∧ (opSuspend r d).fuse = d.fuse := by
  have h : (fun d : Dev => (d.clk, d.whl, d.span, d.fab, d.lnk, d.cl, d.ten, d.grants, d.dma, d.bsu, d.tmr, d.boot, d.power, d.board, d.flash, d.mail, d.fuse)) (opSuspend r d) = (fun d : Dev => (d.clk, d.whl, d.span, d.fab, d.lnk, d.cl, d.ten, d.grants, d.dma, d.bsu, d.tmr, d.boot, d.power, d.board, d.flash, d.mail, d.fuse)) d := by
    unfold opSuspend ; refine runCmd_keeps (fun d : Dev => (d.clk, d.whl, d.span, d.fab, d.lnk, d.cl, d.ten, d.grants, d.dma, d.bsu, d.tmr, d.boot, d.power, d.board, d.flash, d.mail, d.fuse)) _ _ _ _ (fun c a => ?_) (fun _ _ => rfl) <;> (try dsimp only) <;> (repeat' split) <;> simp
  simpa using h
@[simp] theorem opResume_frame (r : Nat) (d : Dev) :
    (opResume r d).clk = d.clk ∧ (opResume r d).whl = d.whl ∧ (opResume r d).span = d.span ∧ (opResume r d).fab = d.fab ∧ (opResume r d).lnk = d.lnk ∧ (opResume r d).cl = d.cl ∧ (opResume r d).ten = d.ten ∧ (opResume r d).grants = d.grants ∧ (opResume r d).dma = d.dma ∧ (opResume r d).bsu = d.bsu ∧ (opResume r d).tmr = d.tmr ∧ (opResume r d).boot = d.boot ∧ (opResume r d).power = d.power ∧ (opResume r d).board = d.board ∧ (opResume r d).flash = d.flash ∧ (opResume r d).mail = d.mail ∧ (opResume r d).fuse = d.fuse := by
  have h : (fun d : Dev => (d.clk, d.whl, d.span, d.fab, d.lnk, d.cl, d.ten, d.grants, d.dma, d.bsu, d.tmr, d.boot, d.power, d.board, d.flash, d.mail, d.fuse)) (opResume r d) = (fun d : Dev => (d.clk, d.whl, d.span, d.fab, d.lnk, d.cl, d.ten, d.grants, d.dma, d.bsu, d.tmr, d.boot, d.power, d.board, d.flash, d.mail, d.fuse)) d := by
    unfold opResume ; refine runCmd_keeps (fun d : Dev => (d.clk, d.whl, d.span, d.fab, d.lnk, d.cl, d.ten, d.grants, d.dma, d.bsu, d.tmr, d.boot, d.power, d.board, d.flash, d.mail, d.fuse)) _ _ _ _ (fun c a => ?_) (fun _ _ => rfl) <;> (try dsimp only) <;> (repeat' split) <;> simp
  simpa using h
@[simp] theorem opFence_frame (r : Nat) (d : Dev) :
    (opFence r d).clk = d.clk ∧ (opFence r d).whl = d.whl ∧ (opFence r d).span = d.span ∧ (opFence r d).fab = d.fab ∧ (opFence r d).lnk = d.lnk ∧ (opFence r d).cl = d.cl ∧ (opFence r d).ten = d.ten ∧ (opFence r d).grants = d.grants ∧ (opFence r d).dma = d.dma ∧ (opFence r d).bsu = d.bsu ∧ (opFence r d).tmr = d.tmr ∧ (opFence r d).boot = d.boot ∧ (opFence r d).power = d.power ∧ (opFence r d).board = d.board ∧ (opFence r d).flash = d.flash ∧ (opFence r d).mail = d.mail ∧ (opFence r d).fuse = d.fuse := by unfold opFence; (try dsimp only); (repeat' split) <;> simp [apply_ite Dev.clk, apply_ite Dev.whl, apply_ite Dev.span, apply_ite Dev.fab, apply_ite Dev.lnk, apply_ite Dev.cl, apply_ite Dev.ten, apply_ite Dev.grants, apply_ite Dev.dma, apply_ite Dev.bsu, apply_ite Dev.tmr, apply_ite Dev.boot, apply_ite Dev.power, apply_ite Dev.board, apply_ite Dev.flash, apply_ite Dev.mail, apply_ite Dev.fuse]
@[simp] theorem opWaitCount_frame (r : Nat) (d : Dev) :
    (opWaitCount r d).clk = d.clk ∧ (opWaitCount r d).whl = d.whl ∧ (opWaitCount r d).span = d.span ∧ (opWaitCount r d).fab = d.fab ∧ (opWaitCount r d).lnk = d.lnk ∧ (opWaitCount r d).cl = d.cl ∧ (opWaitCount r d).ten = d.ten ∧ (opWaitCount r d).grants = d.grants ∧ (opWaitCount r d).dma = d.dma ∧ (opWaitCount r d).bsu = d.bsu ∧ (opWaitCount r d).tmr = d.tmr ∧ (opWaitCount r d).boot = d.boot ∧ (opWaitCount r d).power = d.power ∧ (opWaitCount r d).board = d.board ∧ (opWaitCount r d).flash = d.flash ∧ (opWaitCount r d).mail = d.mail ∧ (opWaitCount r d).fuse = d.fuse := by unfold opWaitCount; (try dsimp only); (repeat' split) <;> simp [apply_ite Dev.clk, apply_ite Dev.whl, apply_ite Dev.span, apply_ite Dev.fab, apply_ite Dev.lnk, apply_ite Dev.cl, apply_ite Dev.ten, apply_ite Dev.grants, apply_ite Dev.dma, apply_ite Dev.bsu, apply_ite Dev.tmr, apply_ite Dev.boot, apply_ite Dev.power, apply_ite Dev.board, apply_ite Dev.flash, apply_ite Dev.mail, apply_ite Dev.fuse]

end Sys2Proof.Machine
end

