-- ==== Sys2Proof/Laws/KeepsPrograms.lean ====
section
/-!
SUPPORT. Which components of the device each operation leaves as they were: the other commands, the root services and the ports.
-/
namespace Sys2Proof.Machine

/-! ## Machine/Timers.lean -/

@[simp] theorem tmrCause_frame (n : Nat) (d : Dev) :
    (tmrCause n d).clk = d.clk ∧ (tmrCause n d).whl = d.whl ∧ (tmrCause n d).span = d.span ∧ (tmrCause n d).fab = d.fab ∧ (tmrCause n d).lnk = d.lnk ∧ (tmrCause n d).cl = d.cl ∧ (tmrCause n d).grants = d.grants ∧ (tmrCause n d).dma = d.dma ∧ (tmrCause n d).bsu = d.bsu ∧ (tmrCause n d).tmr = d.tmr ∧ (tmrCause n d).boot = d.boot ∧ (tmrCause n d).power = d.power ∧ (tmrCause n d).board = d.board ∧ (tmrCause n d).flash = d.flash ∧ (tmrCause n d).mail = d.mail ∧ (tmrCause n d).fuse = d.fuse := by unfold tmrCause; (repeat' split) <;> simp
@[simp] theorem signalEvents_frame (n : Nat) (was : Timer) (cmp wrap : Bool) (d : Dev) :
    (signalEvents n was cmp wrap d).clk = d.clk ∧ (signalEvents n was cmp wrap d).whl = d.whl ∧ (signalEvents n was cmp wrap d).span = d.span ∧ (signalEvents n was cmp wrap d).fab = d.fab ∧ (signalEvents n was cmp wrap d).lnk = d.lnk ∧ (signalEvents n was cmp wrap d).cl = d.cl ∧ (signalEvents n was cmp wrap d).grants = d.grants ∧ (signalEvents n was cmp wrap d).dma = d.dma ∧ (signalEvents n was cmp wrap d).bsu = d.bsu ∧ (signalEvents n was cmp wrap d).boot = d.boot ∧ (signalEvents n was cmp wrap d).power = d.power ∧ (signalEvents n was cmp wrap d).board = d.board ∧ (signalEvents n was cmp wrap d).flash = d.flash ∧ (signalEvents n was cmp wrap d).mail = d.mail ∧ (signalEvents n was cmp wrap d).fuse = d.fuse := by unfold signalEvents; (repeat' split) <;> simp
@[simp] theorem opTimerStep_frame (n t : Nat) (d : Dev) :
    (opTimerStep n t d).clk = d.clk ∧ (opTimerStep n t d).span = d.span ∧ (opTimerStep n t d).fab = d.fab ∧ (opTimerStep n t d).lnk = d.lnk ∧ (opTimerStep n t d).cl = d.cl ∧ (opTimerStep n t d).grants = d.grants ∧ (opTimerStep n t d).dma = d.dma ∧ (opTimerStep n t d).bsu = d.bsu ∧ (opTimerStep n t d).boot = d.boot ∧ (opTimerStep n t d).power = d.power ∧ (opTimerStep n t d).board = d.board ∧ (opTimerStep n t d).flash = d.flash ∧ (opTimerStep n t d).mail = d.mail ∧ (opTimerStep n t d).fuse = d.fuse := by unfold opTimerStep; dsimp only; (repeat' split) <;> simp
@[simp] theorem opPassedCompareFire_frame (n : Nat) (d : Dev) :
    (opPassedCompareFire n d).clk = d.clk ∧ (opPassedCompareFire n d).whl = d.whl ∧ (opPassedCompareFire n d).span = d.span ∧ (opPassedCompareFire n d).fab = d.fab ∧ (opPassedCompareFire n d).lnk = d.lnk ∧ (opPassedCompareFire n d).cl = d.cl ∧ (opPassedCompareFire n d).grants = d.grants ∧ (opPassedCompareFire n d).dma = d.dma ∧ (opPassedCompareFire n d).bsu = d.bsu ∧ (opPassedCompareFire n d).boot = d.boot ∧ (opPassedCompareFire n d).power = d.power ∧ (opPassedCompareFire n d).board = d.board ∧ (opPassedCompareFire n d).flash = d.flash ∧ (opPassedCompareFire n d).mail = d.mail ∧ (opPassedCompareFire n d).fuse = d.fuse := by unfold opPassedCompareFire; dsimp only; (repeat' split) <;> simp
@[simp] theorem opTimerStart_frame (t : Nat) (d : Dev) :
    (opTimerStart t d).clk = d.clk ∧ (opTimerStart t d).span = d.span ∧ (opTimerStart t d).fab = d.fab ∧ (opTimerStart t d).lnk = d.lnk ∧ (opTimerStart t d).cl = d.cl ∧ (opTimerStart t d).ten = d.ten ∧ (opTimerStart t d).grants = d.grants ∧ (opTimerStart t d).dma = d.dma ∧ (opTimerStart t d).bsu = d.bsu ∧ (opTimerStart t d).boot = d.boot ∧ (opTimerStart t d).power = d.power ∧ (opTimerStart t d).board = d.board ∧ (opTimerStart t d).flash = d.flash ∧ (opTimerStart t d).mail = d.mail ∧ (opTimerStart t d).fuse = d.fuse := by unfold opTimerStart; (repeat' split) <;> simp
@[simp] theorem opTimerStartMissed_frame (d : Dev) :
    (opTimerStartMissed d).clk = d.clk ∧ (opTimerStartMissed d).whl = d.whl ∧ (opTimerStartMissed d).span = d.span ∧ (opTimerStartMissed d).fab = d.fab ∧ (opTimerStartMissed d).lnk = d.lnk ∧ (opTimerStartMissed d).cl = d.cl ∧ (opTimerStartMissed d).ten = d.ten ∧ (opTimerStartMissed d).grants = d.grants ∧ (opTimerStartMissed d).dma = d.dma ∧ (opTimerStartMissed d).bsu = d.bsu ∧ (opTimerStartMissed d).boot = d.boot ∧ (opTimerStartMissed d).power = d.power ∧ (opTimerStartMissed d).board = d.board ∧ (opTimerStartMissed d).flash = d.flash ∧ (opTimerStartMissed d).mail = d.mail ∧ (opTimerStartMissed d).fuse = d.fuse := by unfold opTimerStartMissed; (try dsimp only); (repeat' split) <;> simp [apply_ite Dev.clk, apply_ite Dev.whl, apply_ite Dev.span, apply_ite Dev.fab, apply_ite Dev.lnk, apply_ite Dev.cl, apply_ite Dev.ten, apply_ite Dev.grants, apply_ite Dev.dma, apply_ite Dev.bsu, apply_ite Dev.boot, apply_ite Dev.power, apply_ite Dev.board, apply_ite Dev.flash, apply_ite Dev.mail, apply_ite Dev.fuse]
@[simp] theorem opCmpLoWrite_frame (fn n : Nat) (v : BitVec 32) (d : Dev) :
    (opCmpLoWrite fn n v d).clk = d.clk ∧ (opCmpLoWrite fn n v d).whl = d.whl ∧ (opCmpLoWrite fn n v d).span = d.span ∧ (opCmpLoWrite fn n v d).fab = d.fab ∧ (opCmpLoWrite fn n v d).lnk = d.lnk ∧ (opCmpLoWrite fn n v d).cl = d.cl ∧ (opCmpLoWrite fn n v d).ten = d.ten ∧ (opCmpLoWrite fn n v d).grants = d.grants ∧ (opCmpLoWrite fn n v d).host = d.host ∧ (opCmpLoWrite fn n v d).dma = d.dma ∧ (opCmpLoWrite fn n v d).bsu = d.bsu ∧ (opCmpLoWrite fn n v d).boot = d.boot ∧ (opCmpLoWrite fn n v d).power = d.power ∧ (opCmpLoWrite fn n v d).board = d.board ∧ (opCmpLoWrite fn n v d).flash = d.flash ∧ (opCmpLoWrite fn n v d).mail = d.mail ∧ (opCmpLoWrite fn n v d).fuse = d.fuse := by unfold opCmpLoWrite; (repeat' split) <;> simp
@[simp] theorem opCmpHiWrite_frame (fn n : Nat) (v : BitVec 32) (d : Dev) :
    (opCmpHiWrite fn n v d).clk = d.clk ∧ (opCmpHiWrite fn n v d).whl = d.whl ∧ (opCmpHiWrite fn n v d).span = d.span ∧ (opCmpHiWrite fn n v d).fab = d.fab ∧ (opCmpHiWrite fn n v d).lnk = d.lnk ∧ (opCmpHiWrite fn n v d).cl = d.cl ∧ (opCmpHiWrite fn n v d).ten = d.ten ∧ (opCmpHiWrite fn n v d).grants = d.grants ∧ (opCmpHiWrite fn n v d).host = d.host ∧ (opCmpHiWrite fn n v d).dma = d.dma ∧ (opCmpHiWrite fn n v d).bsu = d.bsu ∧ (opCmpHiWrite fn n v d).boot = d.boot ∧ (opCmpHiWrite fn n v d).power = d.power ∧ (opCmpHiWrite fn n v d).board = d.board ∧ (opCmpHiWrite fn n v d).flash = d.flash ∧ (opCmpHiWrite fn n v d).mail = d.mail ∧ (opCmpHiWrite fn n v d).fuse = d.fuse := by unfold opCmpHiWrite; (repeat' split) <;> simp
@[simp] theorem opTmrGstart_frame (fn : Nat) (mask : BitVec 16) (d : Dev) :
    (opTmrGstart fn mask d).clk = d.clk ∧ (opTmrGstart fn mask d).whl = d.whl ∧ (opTmrGstart fn mask d).span = d.span ∧ (opTmrGstart fn mask d).fab = d.fab ∧ (opTmrGstart fn mask d).lnk = d.lnk ∧ (opTmrGstart fn mask d).cl = d.cl ∧ (opTmrGstart fn mask d).ten = d.ten ∧ (opTmrGstart fn mask d).grants = d.grants ∧ (opTmrGstart fn mask d).host = d.host ∧ (opTmrGstart fn mask d).dma = d.dma ∧ (opTmrGstart fn mask d).bsu = d.bsu ∧ (opTmrGstart fn mask d).boot = d.boot ∧ (opTmrGstart fn mask d).power = d.power ∧ (opTmrGstart fn mask d).board = d.board ∧ (opTmrGstart fn mask d).flash = d.flash ∧ (opTmrGstart fn mask d).mail = d.mail ∧ (opTmrGstart fn mask d).fuse = d.fuse := by unfold opTmrGstart; (repeat' split) <;> simp
@[simp] theorem opTimerProgram_frame (r : Nat) (d : Dev) :
    (opTimerProgram r d).clk = d.clk ∧ (opTimerProgram r d).whl = d.whl ∧ (opTimerProgram r d).span = d.span ∧ (opTimerProgram r d).fab = d.fab ∧ (opTimerProgram r d).lnk = d.lnk ∧ (opTimerProgram r d).cl = d.cl ∧ (opTimerProgram r d).ten = d.ten ∧ (opTimerProgram r d).grants = d.grants ∧ (opTimerProgram r d).dma = d.dma ∧ (opTimerProgram r d).bsu = d.bsu ∧ (opTimerProgram r d).boot = d.boot ∧ (opTimerProgram r d).power = d.power ∧ (opTimerProgram r d).board = d.board ∧ (opTimerProgram r d).flash = d.flash ∧ (opTimerProgram r d).mail = d.mail ∧ (opTimerProgram r d).fuse = d.fuse := by
  have h : (fun d : Dev => (d.clk, d.whl, d.span, d.fab, d.lnk, d.cl, d.ten, d.grants, d.dma, d.bsu, d.boot, d.power, d.board, d.flash, d.mail, d.fuse)) (opTimerProgram r d) = (fun d : Dev => (d.clk, d.whl, d.span, d.fab, d.lnk, d.cl, d.ten, d.grants, d.dma, d.bsu, d.boot, d.power, d.board, d.flash, d.mail, d.fuse)) d := by
    unfold opTimerProgram ; refine runCmd_keeps (fun d : Dev => (d.clk, d.whl, d.span, d.fab, d.lnk, d.cl, d.ten, d.grants, d.dma, d.bsu, d.boot, d.power, d.board, d.flash, d.mail, d.fuse)) _ _ _ _ (fun c a => ?_) (fun _ _ => rfl) <;> (try dsimp only) <;> (repeat' split) <;> simp
  simpa using h
@[simp] theorem opTimerStartGroup_frame (r : Nat) (d : Dev) :
    (opTimerStartGroup r d).clk = d.clk ∧ (opTimerStartGroup r d).whl = d.whl ∧ (opTimerStartGroup r d).span = d.span ∧ (opTimerStartGroup r d).fab = d.fab ∧ (opTimerStartGroup r d).lnk = d.lnk ∧ (opTimerStartGroup r d).cl = d.cl ∧ (opTimerStartGroup r d).ten = d.ten ∧ (opTimerStartGroup r d).grants = d.grants ∧ (opTimerStartGroup r d).dma = d.dma ∧ (opTimerStartGroup r d).bsu = d.bsu ∧ (opTimerStartGroup r d).boot = d.boot ∧ (opTimerStartGroup r d).power = d.power ∧ (opTimerStartGroup r d).board = d.board ∧ (opTimerStartGroup r d).flash = d.flash ∧ (opTimerStartGroup r d).mail = d.mail ∧ (opTimerStartGroup r d).fuse = d.fuse := by
  have h : (fun d : Dev => (d.clk, d.whl, d.span, d.fab, d.lnk, d.cl, d.ten, d.grants, d.dma, d.bsu, d.boot, d.power, d.board, d.flash, d.mail, d.fuse)) (opTimerStartGroup r d) = (fun d : Dev => (d.clk, d.whl, d.span, d.fab, d.lnk, d.cl, d.ten, d.grants, d.dma, d.bsu, d.boot, d.power, d.board, d.flash, d.mail, d.fuse)) d := by
    unfold opTimerStartGroup ; refine runCmd_keeps (fun d : Dev => (d.clk, d.whl, d.span, d.fab, d.lnk, d.cl, d.ten, d.grants, d.dma, d.bsu, d.boot, d.power, d.board, d.flash, d.mail, d.fuse)) _ _ _ _ (fun c a => ?_) (fun _ _ => rfl) <;> (try dsimp only) <;> (repeat' split) <;> simp
  simpa using h

/-! ## Machine/Queries.lean -/

@[simp] theorem opNop_frame (r : Nat) (d : Dev) :
    (opNop r d).clk = d.clk ∧ (opNop r d).whl = d.whl ∧ (opNop r d).span = d.span ∧ (opNop r d).fab = d.fab ∧ (opNop r d).lnk = d.lnk ∧ (opNop r d).cl = d.cl ∧ (opNop r d).ten = d.ten ∧ (opNop r d).grants = d.grants ∧ (opNop r d).dma = d.dma ∧ (opNop r d).bsu = d.bsu ∧ (opNop r d).tmr = d.tmr ∧ (opNop r d).boot = d.boot ∧ (opNop r d).power = d.power ∧ (opNop r d).board = d.board ∧ (opNop r d).flash = d.flash ∧ (opNop r d).mail = d.mail ∧ (opNop r d).fuse = d.fuse := by simp [opNop]
@[simp] theorem opQueryDevice_frame (r : Nat) (d : Dev) :
    (opQueryDevice r d).clk = d.clk ∧ (opQueryDevice r d).whl = d.whl ∧ (opQueryDevice r d).span = d.span ∧ (opQueryDevice r d).fab = d.fab ∧ (opQueryDevice r d).lnk = d.lnk ∧ (opQueryDevice r d).cl = d.cl ∧ (opQueryDevice r d).ten = d.ten ∧ (opQueryDevice r d).grants = d.grants ∧ (opQueryDevice r d).dma = d.dma ∧ (opQueryDevice r d).bsu = d.bsu ∧ (opQueryDevice r d).tmr = d.tmr ∧ (opQueryDevice r d).boot = d.boot ∧ (opQueryDevice r d).power = d.power ∧ (opQueryDevice r d).board = d.board ∧ (opQueryDevice r d).flash = d.flash ∧ (opQueryDevice r d).mail = d.mail ∧ (opQueryDevice r d).fuse = d.fuse := by
  have h : (fun d : Dev => (d.clk, d.whl, d.span, d.fab, d.lnk, d.cl, d.ten, d.grants, d.dma, d.bsu, d.tmr, d.boot, d.power, d.board, d.flash, d.mail, d.fuse)) (opQueryDevice r d) = (fun d : Dev => (d.clk, d.whl, d.span, d.fab, d.lnk, d.cl, d.ten, d.grants, d.dma, d.bsu, d.tmr, d.boot, d.power, d.board, d.flash, d.mail, d.fuse)) d := by
    unfold opQueryDevice ; refine runCmd_keeps (fun d : Dev => (d.clk, d.whl, d.span, d.fab, d.lnk, d.cl, d.ten, d.grants, d.dma, d.bsu, d.tmr, d.boot, d.power, d.board, d.flash, d.mail, d.fuse)) _ _ _ _ (fun c a => ?_) (fun _ _ => rfl) <;> (try dsimp only) <;> (repeat' split) <;> simp
  simpa using h
@[simp] theorem opQueryTenancy_frame (r : Nat) (d : Dev) :
    (opQueryTenancy r d).clk = d.clk ∧ (opQueryTenancy r d).whl = d.whl ∧ (opQueryTenancy r d).span = d.span ∧ (opQueryTenancy r d).fab = d.fab ∧ (opQueryTenancy r d).lnk = d.lnk ∧ (opQueryTenancy r d).cl = d.cl ∧ (opQueryTenancy r d).ten = d.ten ∧ (opQueryTenancy r d).grants = d.grants ∧ (opQueryTenancy r d).dma = d.dma ∧ (opQueryTenancy r d).bsu = d.bsu ∧ (opQueryTenancy r d).tmr = d.tmr ∧ (opQueryTenancy r d).boot = d.boot ∧ (opQueryTenancy r d).power = d.power ∧ (opQueryTenancy r d).board = d.board ∧ (opQueryTenancy r d).flash = d.flash ∧ (opQueryTenancy r d).mail = d.mail ∧ (opQueryTenancy r d).fuse = d.fuse := by
  have h : (fun d : Dev => (d.clk, d.whl, d.span, d.fab, d.lnk, d.cl, d.ten, d.grants, d.dma, d.bsu, d.tmr, d.boot, d.power, d.board, d.flash, d.mail, d.fuse)) (opQueryTenancy r d) = (fun d : Dev => (d.clk, d.whl, d.span, d.fab, d.lnk, d.cl, d.ten, d.grants, d.dma, d.bsu, d.tmr, d.boot, d.power, d.board, d.flash, d.mail, d.fuse)) d := by
    unfold opQueryTenancy ; refine runCmd_keeps (fun d : Dev => (d.clk, d.whl, d.span, d.fab, d.lnk, d.cl, d.ten, d.grants, d.dma, d.bsu, d.tmr, d.boot, d.power, d.board, d.flash, d.mail, d.fuse)) _ _ _ _ (fun c a => ?_) (fun _ _ => rfl) <;> (try dsimp only) <;> (repeat' split) <;> simp
  simpa using h
@[simp] theorem opCountRead_frame (r : Nat) (d : Dev) :
    (opCountRead r d).clk = d.clk ∧ (opCountRead r d).whl = d.whl ∧ (opCountRead r d).span = d.span ∧ (opCountRead r d).fab = d.fab ∧ (opCountRead r d).lnk = d.lnk ∧ (opCountRead r d).cl = d.cl ∧ (opCountRead r d).ten = d.ten ∧ (opCountRead r d).grants = d.grants ∧ (opCountRead r d).dma = d.dma ∧ (opCountRead r d).bsu = d.bsu ∧ (opCountRead r d).tmr = d.tmr ∧ (opCountRead r d).boot = d.boot ∧ (opCountRead r d).power = d.power ∧ (opCountRead r d).board = d.board ∧ (opCountRead r d).flash = d.flash ∧ (opCountRead r d).mail = d.mail ∧ (opCountRead r d).fuse = d.fuse := by simp [opCountRead]

/-! ## Machine/Buffers.lean -/

@[simp] theorem readAreaLine_clk (a : BufArea) (addr : Nat) (d : Dev) : (readAreaLine a addr d).2.2.clk = d.clk := by
  unfold readAreaLine; dsimp only; (repeat' split) <;> simp
@[simp] theorem readArea_clk (a : BufArea) (addr used n at_ : Nat) (d : Dev) : (readArea a addr used n at_ d).2.2.clk = d.clk := by
  induction n generalizing at_ d with
  | zero => rfl
  | succ n ih => unfold readArea; dsimp only; (repeat' split) <;> simp [ih]
@[simp] theorem foldRows_clk (a : BufArea) (addr stride f n t p k r i acc : Nat) (d : Dev) :
    (foldRows a addr stride f n t p k r i acc d).2.2.clk = d.clk := by
  induction k generalizing r i acc d with
  | zero => rfl
  | succ k ih => unfold foldRows; dsimp only; split <;> simp [ih]
@[simp] theorem readAreaLine_whl (a : BufArea) (addr : Nat) (d : Dev) : (readAreaLine a addr d).2.2.whl = d.whl := by
  unfold readAreaLine; dsimp only; (repeat' split) <;> simp
@[simp] theorem readArea_whl (a : BufArea) (addr used n at_ : Nat) (d : Dev) : (readArea a addr used n at_ d).2.2.whl = d.whl := by
  induction n generalizing at_ d with
  | zero => rfl
  | succ n ih => unfold readArea; dsimp only; (repeat' split) <;> simp [ih]
@[simp] theorem foldRows_whl (a : BufArea) (addr stride f n t p k r i acc : Nat) (d : Dev) :
    (foldRows a addr stride f n t p k r i acc d).2.2.whl = d.whl := by
  induction k generalizing r i acc d with
  | zero => rfl
  | succ k ih => unfold foldRows; dsimp only; split <;> simp [ih]
@[simp] theorem readAreaLine_span (a : BufArea) (addr : Nat) (d : Dev) : (readAreaLine a addr d).2.2.span = d.span := by
  unfold readAreaLine; dsimp only; (repeat' split) <;> simp
@[simp] theorem readArea_span (a : BufArea) (addr used n at_ : Nat) (d : Dev) : (readArea a addr used n at_ d).2.2.span = d.span := by
  induction n generalizing at_ d with
  | zero => rfl
  | succ n ih => unfold readArea; dsimp only; (repeat' split) <;> simp [ih]
@[simp] theorem foldRows_span (a : BufArea) (addr stride f n t p k r i acc : Nat) (d : Dev) :
    (foldRows a addr stride f n t p k r i acc d).2.2.span = d.span := by
  induction k generalizing r i acc d with
  | zero => rfl
  | succ k ih => unfold foldRows; dsimp only; split <;> simp [ih]
@[simp] theorem readAreaLine_fab (a : BufArea) (addr : Nat) (d : Dev) : (readAreaLine a addr d).2.2.fab = d.fab := by
  unfold readAreaLine; dsimp only; (repeat' split) <;> simp
@[simp] theorem readArea_fab (a : BufArea) (addr used n at_ : Nat) (d : Dev) : (readArea a addr used n at_ d).2.2.fab = d.fab := by
  induction n generalizing at_ d with
  | zero => rfl
  | succ n ih => unfold readArea; dsimp only; (repeat' split) <;> simp [ih]
@[simp] theorem foldRows_fab (a : BufArea) (addr stride f n t p k r i acc : Nat) (d : Dev) :
    (foldRows a addr stride f n t p k r i acc d).2.2.fab = d.fab := by
  induction k generalizing r i acc d with
  | zero => rfl
  | succ k ih => unfold foldRows; dsimp only; split <;> simp [ih]
@[simp] theorem readAreaLine_lnk (a : BufArea) (addr : Nat) (d : Dev) : (readAreaLine a addr d).2.2.lnk = d.lnk := by
  unfold readAreaLine; dsimp only; (repeat' split) <;> simp
@[simp] theorem readArea_lnk (a : BufArea) (addr used n at_ : Nat) (d : Dev) : (readArea a addr used n at_ d).2.2.lnk = d.lnk := by
  induction n generalizing at_ d with
  | zero => rfl
  | succ n ih => unfold readArea; dsimp only; (repeat' split) <;> simp [ih]
@[simp] theorem foldRows_lnk (a : BufArea) (addr stride f n t p k r i acc : Nat) (d : Dev) :
    (foldRows a addr stride f n t p k r i acc d).2.2.lnk = d.lnk := by
  induction k generalizing r i acc d with
  | zero => rfl
  | succ k ih => unfold foldRows; dsimp only; split <;> simp [ih]
@[simp] theorem readAreaLine_cl (a : BufArea) (addr : Nat) (d : Dev) : (readAreaLine a addr d).2.2.cl = d.cl := by
  unfold readAreaLine; dsimp only; (repeat' split) <;> simp
@[simp] theorem readArea_cl (a : BufArea) (addr used n at_ : Nat) (d : Dev) : (readArea a addr used n at_ d).2.2.cl = d.cl := by
  induction n generalizing at_ d with
  | zero => rfl
  | succ n ih => unfold readArea; dsimp only; (repeat' split) <;> simp [ih]
@[simp] theorem foldRows_cl (a : BufArea) (addr stride f n t p k r i acc : Nat) (d : Dev) :
    (foldRows a addr stride f n t p k r i acc d).2.2.cl = d.cl := by
  induction k generalizing r i acc d with
  | zero => rfl
  | succ k ih => unfold foldRows; dsimp only; split <;> simp [ih]
@[simp] theorem readAreaLine_ten (a : BufArea) (addr : Nat) (d : Dev) : (readAreaLine a addr d).2.2.ten = d.ten := by
  unfold readAreaLine; dsimp only; (repeat' split) <;> simp
@[simp] theorem readArea_ten (a : BufArea) (addr used n at_ : Nat) (d : Dev) : (readArea a addr used n at_ d).2.2.ten = d.ten := by
  induction n generalizing at_ d with
  | zero => rfl
  | succ n ih => unfold readArea; dsimp only; (repeat' split) <;> simp [ih]
@[simp] theorem foldRows_ten (a : BufArea) (addr stride f n t p k r i acc : Nat) (d : Dev) :
    (foldRows a addr stride f n t p k r i acc d).2.2.ten = d.ten := by
  induction k generalizing r i acc d with
  | zero => rfl
  | succ k ih => unfold foldRows; dsimp only; split <;> simp [ih]
@[simp] theorem readAreaLine_grants (a : BufArea) (addr : Nat) (d : Dev) : (readAreaLine a addr d).2.2.grants = d.grants := by
  unfold readAreaLine; dsimp only; (repeat' split) <;> simp
@[simp] theorem readArea_grants (a : BufArea) (addr used n at_ : Nat) (d : Dev) : (readArea a addr used n at_ d).2.2.grants = d.grants := by
  induction n generalizing at_ d with
  | zero => rfl
  | succ n ih => unfold readArea; dsimp only; (repeat' split) <;> simp [ih]
@[simp] theorem foldRows_grants (a : BufArea) (addr stride f n t p k r i acc : Nat) (d : Dev) :
    (foldRows a addr stride f n t p k r i acc d).2.2.grants = d.grants := by
  induction k generalizing r i acc d with
  | zero => rfl
  | succ k ih => unfold foldRows; dsimp only; split <;> simp [ih]
@[simp] theorem readAreaLine_host (a : BufArea) (addr : Nat) (d : Dev) : (readAreaLine a addr d).2.2.host = d.host := by
  unfold readAreaLine; dsimp only; (repeat' split) <;> simp
@[simp] theorem readArea_host (a : BufArea) (addr used n at_ : Nat) (d : Dev) : (readArea a addr used n at_ d).2.2.host = d.host := by
  induction n generalizing at_ d with
  | zero => rfl
  | succ n ih => unfold readArea; dsimp only; (repeat' split) <;> simp [ih]
@[simp] theorem foldRows_host (a : BufArea) (addr stride f n t p k r i acc : Nat) (d : Dev) :
    (foldRows a addr stride f n t p k r i acc d).2.2.host = d.host := by
  induction k generalizing r i acc d with
  | zero => rfl
  | succ k ih => unfold foldRows; dsimp only; split <;> simp [ih]
@[simp] theorem readAreaLine_dma (a : BufArea) (addr : Nat) (d : Dev) : (readAreaLine a addr d).2.2.dma = d.dma := by
  unfold readAreaLine; dsimp only; (repeat' split) <;> simp
@[simp] theorem readArea_dma (a : BufArea) (addr used n at_ : Nat) (d : Dev) : (readArea a addr used n at_ d).2.2.dma = d.dma := by
  induction n generalizing at_ d with
  | zero => rfl
  | succ n ih => unfold readArea; dsimp only; (repeat' split) <;> simp [ih]
@[simp] theorem foldRows_dma (a : BufArea) (addr stride f n t p k r i acc : Nat) (d : Dev) :
    (foldRows a addr stride f n t p k r i acc d).2.2.dma = d.dma := by
  induction k generalizing r i acc d with
  | zero => rfl
  | succ k ih => unfold foldRows; dsimp only; split <;> simp [ih]
@[simp] theorem readAreaLine_bsu (a : BufArea) (addr : Nat) (d : Dev) : (readAreaLine a addr d).2.2.bsu = d.bsu := by
  unfold readAreaLine; dsimp only; (repeat' split) <;> simp
@[simp] theorem readArea_bsu (a : BufArea) (addr used n at_ : Nat) (d : Dev) : (readArea a addr used n at_ d).2.2.bsu = d.bsu := by
  induction n generalizing at_ d with
  | zero => rfl
  | succ n ih => unfold readArea; dsimp only; (repeat' split) <;> simp [ih]
@[simp] theorem foldRows_bsu (a : BufArea) (addr stride f n t p k r i acc : Nat) (d : Dev) :
    (foldRows a addr stride f n t p k r i acc d).2.2.bsu = d.bsu := by
  induction k generalizing r i acc d with
  | zero => rfl
  | succ k ih => unfold foldRows; dsimp only; split <;> simp [ih]
@[simp] theorem readAreaLine_tmr (a : BufArea) (addr : Nat) (d : Dev) : (readAreaLine a addr d).2.2.tmr = d.tmr := by
  unfold readAreaLine; dsimp only; (repeat' split) <;> simp
@[simp] theorem readArea_tmr (a : BufArea) (addr used n at_ : Nat) (d : Dev) : (readArea a addr used n at_ d).2.2.tmr = d.tmr := by
  induction n generalizing at_ d with
  | zero => rfl
  | succ n ih => unfold readArea; dsimp only; (repeat' split) <;> simp [ih]
@[simp] theorem foldRows_tmr (a : BufArea) (addr stride f n t p k r i acc : Nat) (d : Dev) :
    (foldRows a addr stride f n t p k r i acc d).2.2.tmr = d.tmr := by
  induction k generalizing r i acc d with
  | zero => rfl
  | succ k ih => unfold foldRows; dsimp only; split <;> simp [ih]
@[simp] theorem readAreaLine_boot (a : BufArea) (addr : Nat) (d : Dev) : (readAreaLine a addr d).2.2.boot = d.boot := by
  unfold readAreaLine; dsimp only; (repeat' split) <;> simp
@[simp] theorem readArea_boot (a : BufArea) (addr used n at_ : Nat) (d : Dev) : (readArea a addr used n at_ d).2.2.boot = d.boot := by
  induction n generalizing at_ d with
  | zero => rfl
  | succ n ih => unfold readArea; dsimp only; (repeat' split) <;> simp [ih]
@[simp] theorem foldRows_boot (a : BufArea) (addr stride f n t p k r i acc : Nat) (d : Dev) :
    (foldRows a addr stride f n t p k r i acc d).2.2.boot = d.boot := by
  induction k generalizing r i acc d with
  | zero => rfl
  | succ k ih => unfold foldRows; dsimp only; split <;> simp [ih]
@[simp] theorem readAreaLine_power (a : BufArea) (addr : Nat) (d : Dev) : (readAreaLine a addr d).2.2.power = d.power := by
  unfold readAreaLine; dsimp only; (repeat' split) <;> simp
@[simp] theorem readArea_power (a : BufArea) (addr used n at_ : Nat) (d : Dev) : (readArea a addr used n at_ d).2.2.power = d.power := by
  induction n generalizing at_ d with
  | zero => rfl
  | succ n ih => unfold readArea; dsimp only; (repeat' split) <;> simp [ih]
@[simp] theorem foldRows_power (a : BufArea) (addr stride f n t p k r i acc : Nat) (d : Dev) :
    (foldRows a addr stride f n t p k r i acc d).2.2.power = d.power := by
  induction k generalizing r i acc d with
  | zero => rfl
  | succ k ih => unfold foldRows; dsimp only; split <;> simp [ih]
@[simp] theorem readAreaLine_board (a : BufArea) (addr : Nat) (d : Dev) : (readAreaLine a addr d).2.2.board = d.board := by
  unfold readAreaLine; dsimp only; (repeat' split) <;> simp
@[simp] theorem readArea_board (a : BufArea) (addr used n at_ : Nat) (d : Dev) : (readArea a addr used n at_ d).2.2.board = d.board := by
  induction n generalizing at_ d with
  | zero => rfl
  | succ n ih => unfold readArea; dsimp only; (repeat' split) <;> simp [ih]
@[simp] theorem foldRows_board (a : BufArea) (addr stride f n t p k r i acc : Nat) (d : Dev) :
    (foldRows a addr stride f n t p k r i acc d).2.2.board = d.board := by
  induction k generalizing r i acc d with
  | zero => rfl
  | succ k ih => unfold foldRows; dsimp only; split <;> simp [ih]
@[simp] theorem readAreaLine_flash (a : BufArea) (addr : Nat) (d : Dev) : (readAreaLine a addr d).2.2.flash = d.flash := by
  unfold readAreaLine; dsimp only; (repeat' split) <;> simp
@[simp] theorem readArea_flash (a : BufArea) (addr used n at_ : Nat) (d : Dev) : (readArea a addr used n at_ d).2.2.flash = d.flash := by
  induction n generalizing at_ d with
  | zero => rfl
  | succ n ih => unfold readArea; dsimp only; (repeat' split) <;> simp [ih]
@[simp] theorem foldRows_flash (a : BufArea) (addr stride f n t p k r i acc : Nat) (d : Dev) :
    (foldRows a addr stride f n t p k r i acc d).2.2.flash = d.flash := by
  induction k generalizing r i acc d with
  | zero => rfl
  | succ k ih => unfold foldRows; dsimp only; split <;> simp [ih]
@[simp] theorem readAreaLine_mail (a : BufArea) (addr : Nat) (d : Dev) : (readAreaLine a addr d).2.2.mail = d.mail := by
  unfold readAreaLine; dsimp only; (repeat' split) <;> simp
@[simp] theorem readArea_mail (a : BufArea) (addr used n at_ : Nat) (d : Dev) : (readArea a addr used n at_ d).2.2.mail = d.mail := by
  induction n generalizing at_ d with
  | zero => rfl
  | succ n ih => unfold readArea; dsimp only; (repeat' split) <;> simp [ih]
@[simp] theorem foldRows_mail (a : BufArea) (addr stride f n t p k r i acc : Nat) (d : Dev) :
    (foldRows a addr stride f n t p k r i acc d).2.2.mail = d.mail := by
  induction k generalizing r i acc d with
  | zero => rfl
  | succ k ih => unfold foldRows; dsimp only; split <;> simp [ih]
@[simp] theorem readAreaLine_fuse (a : BufArea) (addr : Nat) (d : Dev) : (readAreaLine a addr d).2.2.fuse = d.fuse := by
  unfold readAreaLine; dsimp only; (repeat' split) <;> simp
@[simp] theorem readArea_fuse (a : BufArea) (addr used n at_ : Nat) (d : Dev) : (readArea a addr used n at_ d).2.2.fuse = d.fuse := by
  induction n generalizing at_ d with
  | zero => rfl
  | succ n ih => unfold readArea; dsimp only; (repeat' split) <;> simp [ih]
@[simp] theorem foldRows_fuse (a : BufArea) (addr stride f n t p k r i acc : Nat) (d : Dev) :
    (foldRows a addr stride f n t p k r i acc d).2.2.fuse = d.fuse := by
  induction k generalizing r i acc d with
  | zero => rfl
  | succ k ih => unfold foldRows; dsimp only; split <;> simp [ih]
@[simp] theorem markBuffer_frame (t : Nat) (d : Dev) :
    (markBuffer t d).clk = d.clk ∧ (markBuffer t d).whl = d.whl ∧ (markBuffer t d).span = d.span ∧ (markBuffer t d).fab = d.fab ∧ (markBuffer t d).lnk = d.lnk ∧ (markBuffer t d).cl = d.cl ∧ (markBuffer t d).grants = d.grants ∧ (markBuffer t d).host = d.host ∧ (markBuffer t d).dma = d.dma ∧ (markBuffer t d).bsu = d.bsu ∧ (markBuffer t d).tmr = d.tmr ∧ (markBuffer t d).boot = d.boot ∧ (markBuffer t d).power = d.power ∧ (markBuffer t d).board = d.board ∧ (markBuffer t d).flash = d.flash ∧ (markBuffer t d).mail = d.mail ∧ (markBuffer t d).fuse = d.fuse := by simp [markBuffer]
@[simp] theorem storeArea_frame (r : GrantRec) (a : BufArea) (data : List Byte) (d : Dev) :
    (storeArea r a data d).clk = d.clk ∧ (storeArea r a data d).whl = d.whl ∧ (storeArea r a data d).span = d.span ∧ (storeArea r a data d).fab = d.fab ∧ (storeArea r a data d).lnk = d.lnk ∧ (storeArea r a data d).cl = d.cl ∧ (storeArea r a data d).ten = d.ten ∧ (storeArea r a data d).grants = d.grants ∧ (storeArea r a data d).host = d.host ∧ (storeArea r a data d).dma = d.dma ∧ (storeArea r a data d).bsu = d.bsu ∧ (storeArea r a data d).tmr = d.tmr ∧ (storeArea r a data d).boot = d.boot ∧ (storeArea r a data d).power = d.power ∧ (storeArea r a data d).board = d.board ∧ (storeArea r a data d).flash = d.flash ∧ (storeArea r a data d).mail = d.mail ∧ (storeArea r a data d).fuse = d.fuse := by simp [storeArea]
@[simp] theorem opBufferWrite_frame (r : Nat) (d : Dev) :
    (opBufferWrite r d).clk = d.clk ∧ (opBufferWrite r d).whl = d.whl ∧ (opBufferWrite r d).span = d.span ∧ (opBufferWrite r d).fab = d.fab ∧ (opBufferWrite r d).lnk = d.lnk ∧ (opBufferWrite r d).cl = d.cl ∧ (opBufferWrite r d).grants = d.grants ∧ (opBufferWrite r d).dma = d.dma ∧ (opBufferWrite r d).bsu = d.bsu ∧ (opBufferWrite r d).tmr = d.tmr ∧ (opBufferWrite r d).boot = d.boot ∧ (opBufferWrite r d).power = d.power ∧ (opBufferWrite r d).board = d.board ∧ (opBufferWrite r d).flash = d.flash ∧ (opBufferWrite r d).mail = d.mail ∧ (opBufferWrite r d).fuse = d.fuse := by
  have h : (fun d : Dev => (d.clk, d.whl, d.span, d.fab, d.lnk, d.cl, d.grants, d.dma, d.bsu, d.tmr, d.boot, d.power, d.board, d.flash, d.mail, d.fuse)) (opBufferWrite r d) = (fun d : Dev => (d.clk, d.whl, d.span, d.fab, d.lnk, d.cl, d.grants, d.dma, d.bsu, d.tmr, d.boot, d.power, d.board, d.flash, d.mail, d.fuse)) d := by
    unfold opBufferWrite ; refine runCmd_keeps (fun d : Dev => (d.clk, d.whl, d.span, d.fab, d.lnk, d.cl, d.grants, d.dma, d.bsu, d.tmr, d.boot, d.power, d.board, d.flash, d.mail, d.fuse)) _ _ _ _ (fun c a => ?_) (fun _ _ => rfl) <;> (try dsimp only) <;> (repeat' split) <;> simp
  simpa using h
@[simp] theorem opBufferFill_frame (r : Nat) (d : Dev) :
    (opBufferFill r d).clk = d.clk ∧ (opBufferFill r d).whl = d.whl ∧ (opBufferFill r d).span = d.span ∧ (opBufferFill r d).fab = d.fab ∧ (opBufferFill r d).lnk = d.lnk ∧ (opBufferFill r d).cl = d.cl ∧ (opBufferFill r d).grants = d.grants ∧ (opBufferFill r d).dma = d.dma ∧ (opBufferFill r d).bsu = d.bsu ∧ (opBufferFill r d).tmr = d.tmr ∧ (opBufferFill r d).boot = d.boot ∧ (opBufferFill r d).power = d.power ∧ (opBufferFill r d).board = d.board ∧ (opBufferFill r d).flash = d.flash ∧ (opBufferFill r d).mail = d.mail ∧ (opBufferFill r d).fuse = d.fuse := by
  have h : (fun d : Dev => (d.clk, d.whl, d.span, d.fab, d.lnk, d.cl, d.grants, d.dma, d.bsu, d.tmr, d.boot, d.power, d.board, d.flash, d.mail, d.fuse)) (opBufferFill r d) = (fun d : Dev => (d.clk, d.whl, d.span, d.fab, d.lnk, d.cl, d.grants, d.dma, d.bsu, d.tmr, d.boot, d.power, d.board, d.flash, d.mail, d.fuse)) d := by
    unfold opBufferFill ; refine runCmd_keeps (fun d : Dev => (d.clk, d.whl, d.span, d.fab, d.lnk, d.cl, d.grants, d.dma, d.bsu, d.tmr, d.boot, d.power, d.board, d.flash, d.mail, d.fuse)) _ _ _ _ (fun c a => ?_) (fun _ _ => rfl) <;> (try dsimp only) <;> (repeat' split) <;> simp
  simpa using h
@[simp] theorem finishPoison_frame (c : Cmd) (moved : Nat) (d : Dev) :
    (finishPoison c moved d).clk = d.clk ∧ (finishPoison c moved d).whl = d.whl ∧ (finishPoison c moved d).span = d.span ∧ (finishPoison c moved d).fab = d.fab ∧ (finishPoison c moved d).lnk = d.lnk ∧ (finishPoison c moved d).cl = d.cl ∧ (finishPoison c moved d).ten = d.ten ∧ (finishPoison c moved d).grants = d.grants ∧ (finishPoison c moved d).dma = d.dma ∧ (finishPoison c moved d).bsu = d.bsu ∧ (finishPoison c moved d).tmr = d.tmr ∧ (finishPoison c moved d).boot = d.boot ∧ (finishPoison c moved d).power = d.power ∧ (finishPoison c moved d).board = d.board ∧ (finishPoison c moved d).flash = d.flash ∧ (finishPoison c moved d).mail = d.mail ∧ (finishPoison c moved d).fuse = d.fuse := by simp [finishPoison]
@[simp] theorem opBufferRead_frame (r : Nat) (d : Dev) :
    (opBufferRead r d).clk = d.clk ∧ (opBufferRead r d).whl = d.whl ∧ (opBufferRead r d).span = d.span ∧ (opBufferRead r d).fab = d.fab ∧ (opBufferRead r d).lnk = d.lnk ∧ (opBufferRead r d).cl = d.cl ∧ (opBufferRead r d).grants = d.grants ∧ (opBufferRead r d).dma = d.dma ∧ (opBufferRead r d).bsu = d.bsu ∧ (opBufferRead r d).tmr = d.tmr ∧ (opBufferRead r d).boot = d.boot ∧ (opBufferRead r d).power = d.power ∧ (opBufferRead r d).board = d.board ∧ (opBufferRead r d).flash = d.flash ∧ (opBufferRead r d).mail = d.mail ∧ (opBufferRead r d).fuse = d.fuse := by
  have h : (fun d : Dev => (d.clk, d.whl, d.span, d.fab, d.lnk, d.cl, d.grants, d.dma, d.bsu, d.tmr, d.boot, d.power, d.board, d.flash, d.mail, d.fuse)) (opBufferRead r d) = (fun d : Dev => (d.clk, d.whl, d.span, d.fab, d.lnk, d.cl, d.grants, d.dma, d.bsu, d.tmr, d.boot, d.power, d.board, d.flash, d.mail, d.fuse)) d := by
    unfold opBufferRead ; refine runCmd_keeps (fun d : Dev => (d.clk, d.whl, d.span, d.fab, d.lnk, d.cl, d.grants, d.dma, d.bsu, d.tmr, d.boot, d.power, d.board, d.flash, d.mail, d.fuse)) _ _ _ _ (fun c a => ?_) (fun _ _ => rfl) <;> (try dsimp only) <;> (repeat' split) <;> simp
  simpa using h
@[simp] theorem opBufferDigest_frame (r : Nat) (d : Dev) :
    (opBufferDigest r d).clk = d.clk ∧ (opBufferDigest r d).whl = d.whl ∧ (opBufferDigest r d).span = d.span ∧ (opBufferDigest r d).fab = d.fab ∧ (opBufferDigest r d).lnk = d.lnk ∧ (opBufferDigest r d).cl = d.cl ∧ (opBufferDigest r d).grants = d.grants ∧ (opBufferDigest r d).dma = d.dma ∧ (opBufferDigest r d).bsu = d.bsu ∧ (opBufferDigest r d).tmr = d.tmr ∧ (opBufferDigest r d).boot = d.boot ∧ (opBufferDigest r d).power = d.power ∧ (opBufferDigest r d).board = d.board ∧ (opBufferDigest r d).flash = d.flash ∧ (opBufferDigest r d).mail = d.mail ∧ (opBufferDigest r d).fuse = d.fuse := by
  have h : (fun d : Dev => (d.clk, d.whl, d.span, d.fab, d.lnk, d.cl, d.grants, d.dma, d.bsu, d.tmr, d.boot, d.power, d.board, d.flash, d.mail, d.fuse)) (opBufferDigest r d) = (fun d : Dev => (d.clk, d.whl, d.span, d.fab, d.lnk, d.cl, d.grants, d.dma, d.bsu, d.tmr, d.boot, d.power, d.board, d.flash, d.mail, d.fuse)) d := by
    unfold opBufferDigest ; refine runCmd_keeps (fun d : Dev => (d.clk, d.whl, d.span, d.fab, d.lnk, d.cl, d.grants, d.dma, d.bsu, d.tmr, d.boot, d.power, d.board, d.flash, d.mail, d.fuse)) _ _ _ _ (fun c a => ?_) (fun _ _ => rfl) <;> (try dsimp only) <;> (repeat' split) <;> simp
  simpa using h
@[simp] theorem opJournalStart_frame (r : Nat) (d : Dev) :
    (opJournalStart r d).clk = d.clk ∧ (opJournalStart r d).whl = d.whl ∧ (opJournalStart r d).span = d.span ∧ (opJournalStart r d).fab = d.fab ∧ (opJournalStart r d).lnk = d.lnk ∧ (opJournalStart r d).cl = d.cl ∧ (opJournalStart r d).grants = d.grants ∧ (opJournalStart r d).dma = d.dma ∧ (opJournalStart r d).bsu = d.bsu ∧ (opJournalStart r d).tmr = d.tmr ∧ (opJournalStart r d).boot = d.boot ∧ (opJournalStart r d).power = d.power ∧ (opJournalStart r d).board = d.board ∧ (opJournalStart r d).flash = d.flash ∧ (opJournalStart r d).mail = d.mail ∧ (opJournalStart r d).fuse = d.fuse := by
  have h : (fun d : Dev => (d.clk, d.whl, d.span, d.fab, d.lnk, d.cl, d.grants, d.dma, d.bsu, d.tmr, d.boot, d.power, d.board, d.flash, d.mail, d.fuse)) (opJournalStart r d) = (fun d : Dev => (d.clk, d.whl, d.span, d.fab, d.lnk, d.cl, d.grants, d.dma, d.bsu, d.tmr, d.boot, d.power, d.board, d.flash, d.mail, d.fuse)) d := by
    unfold opJournalStart ; refine runCmd_keeps (fun d : Dev => (d.clk, d.whl, d.span, d.fab, d.lnk, d.cl, d.grants, d.dma, d.bsu, d.tmr, d.boot, d.power, d.board, d.flash, d.mail, d.fuse)) _ _ _ _ (fun c a => ?_) (fun _ _ => rfl) <;> (try dsimp only) <;> (repeat' split) <;> simp
  simpa using h
@[simp] theorem opJournalStop_frame (r : Nat) (d : Dev) :
    (opJournalStop r d).clk = d.clk ∧ (opJournalStop r d).whl = d.whl ∧ (opJournalStop r d).span = d.span ∧ (opJournalStop r d).fab = d.fab ∧ (opJournalStop r d).lnk = d.lnk ∧ (opJournalStop r d).cl = d.cl ∧ (opJournalStop r d).grants = d.grants ∧ (opJournalStop r d).dma = d.dma ∧ (opJournalStop r d).bsu = d.bsu ∧ (opJournalStop r d).tmr = d.tmr ∧ (opJournalStop r d).boot = d.boot ∧ (opJournalStop r d).power = d.power ∧ (opJournalStop r d).board = d.board ∧ (opJournalStop r d).flash = d.flash ∧ (opJournalStop r d).mail = d.mail ∧ (opJournalStop r d).fuse = d.fuse := by
  have h : (fun d : Dev => (d.clk, d.whl, d.span, d.fab, d.lnk, d.cl, d.grants, d.dma, d.bsu, d.tmr, d.boot, d.power, d.board, d.flash, d.mail, d.fuse)) (opJournalStop r d) = (fun d : Dev => (d.clk, d.whl, d.span, d.fab, d.lnk, d.cl, d.grants, d.dma, d.bsu, d.tmr, d.boot, d.power, d.board, d.flash, d.mail, d.fuse)) d := by
    unfold opJournalStop ; refine runCmd_keeps (fun d : Dev => (d.clk, d.whl, d.span, d.fab, d.lnk, d.cl, d.grants, d.dma, d.bsu, d.tmr, d.boot, d.power, d.board, d.flash, d.mail, d.fuse)) _ _ _ _ (fun c a => ?_) (fun _ _ => rfl) <;> (try dsimp only) <;> (repeat' split) <;> simp
  simpa using h
@[simp] theorem opDigestTableRead_frame (r : Nat) (d : Dev) :
    (opDigestTableRead r d).clk = d.clk ∧ (opDigestTableRead r d).whl = d.whl ∧ (opDigestTableRead r d).span = d.span ∧ (opDigestTableRead r d).fab = d.fab ∧ (opDigestTableRead r d).lnk = d.lnk ∧ (opDigestTableRead r d).cl = d.cl ∧ (opDigestTableRead r d).ten = d.ten ∧ (opDigestTableRead r d).grants = d.grants ∧ (opDigestTableRead r d).dma = d.dma ∧ (opDigestTableRead r d).bsu = d.bsu ∧ (opDigestTableRead r d).tmr = d.tmr ∧ (opDigestTableRead r d).boot = d.boot ∧ (opDigestTableRead r d).power = d.power ∧ (opDigestTableRead r d).board = d.board ∧ (opDigestTableRead r d).flash = d.flash ∧ (opDigestTableRead r d).mail = d.mail ∧ (opDigestTableRead r d).fuse = d.fuse := by
  have h : (fun d : Dev => (d.clk, d.whl, d.span, d.fab, d.lnk, d.cl, d.ten, d.grants, d.dma, d.bsu, d.tmr, d.boot, d.power, d.board, d.flash, d.mail, d.fuse)) (opDigestTableRead r d) = (fun d : Dev => (d.clk, d.whl, d.span, d.fab, d.lnk, d.cl, d.ten, d.grants, d.dma, d.bsu, d.tmr, d.boot, d.power, d.board, d.flash, d.mail, d.fuse)) d := by
    unfold opDigestTableRead ; refine runCmd_keeps (fun d : Dev => (d.clk, d.whl, d.span, d.fab, d.lnk, d.cl, d.ten, d.grants, d.dma, d.bsu, d.tmr, d.boot, d.power, d.board, d.flash, d.mail, d.fuse)) _ _ _ _ (fun c a => ?_) (fun _ _ => rfl) <;> (try dsimp only) <;> (repeat' split) <;> simp
  simpa using h
@[simp] theorem opVarianceRead_frame (r : Nat) (d : Dev) :
    (opVarianceRead r d).clk = d.clk ∧ (opVarianceRead r d).whl = d.whl ∧ (opVarianceRead r d).span = d.span ∧ (opVarianceRead r d).fab = d.fab ∧ (opVarianceRead r d).lnk = d.lnk ∧ (opVarianceRead r d).cl = d.cl ∧ (opVarianceRead r d).grants = d.grants ∧ (opVarianceRead r d).dma = d.dma ∧ (opVarianceRead r d).bsu = d.bsu ∧ (opVarianceRead r d).tmr = d.tmr ∧ (opVarianceRead r d).boot = d.boot ∧ (opVarianceRead r d).power = d.power ∧ (opVarianceRead r d).board = d.board ∧ (opVarianceRead r d).flash = d.flash ∧ (opVarianceRead r d).mail = d.mail ∧ (opVarianceRead r d).fuse = d.fuse := by
  have h : (fun d : Dev => (d.clk, d.whl, d.span, d.fab, d.lnk, d.cl, d.grants, d.dma, d.bsu, d.tmr, d.boot, d.power, d.board, d.flash, d.mail, d.fuse)) (opVarianceRead r d) = (fun d : Dev => (d.clk, d.whl, d.span, d.fab, d.lnk, d.cl, d.grants, d.dma, d.bsu, d.tmr, d.boot, d.power, d.board, d.flash, d.mail, d.fuse)) d := by
    unfold opVarianceRead ; refine runCmd_keeps (fun d : Dev => (d.clk, d.whl, d.span, d.fab, d.lnk, d.cl, d.grants, d.dma, d.bsu, d.tmr, d.boot, d.power, d.board, d.flash, d.mail, d.fuse)) _ _ _ _ (fun c a => ?_) (fun _ _ => rfl) <;> (try dsimp only) <;> (repeat' split) <;> simp
  simpa using h

/-! ## Machine/Bsu.lean -/

@[simp] theorem bsuFail_frame (u cause code : Nat) (d : Dev) :
    (bsuFail u cause code d).clk = d.clk ∧ (bsuFail u cause code d).whl = d.whl ∧ (bsuFail u cause code d).span = d.span ∧ (bsuFail u cause code d).fab = d.fab ∧ (bsuFail u cause code d).lnk = d.lnk ∧ (bsuFail u cause code d).cl = d.cl ∧ (bsuFail u cause code d).grants = d.grants ∧ (bsuFail u cause code d).dma = d.dma ∧ (bsuFail u cause code d).tmr = d.tmr ∧ (bsuFail u cause code d).boot = d.boot ∧ (bsuFail u cause code d).power = d.power ∧ (bsuFail u cause code d).board = d.board ∧ (bsuFail u cause code d).flash = d.flash ∧ (bsuFail u cause code d).mail = d.mail ∧ (bsuFail u cause code d).fuse = d.fuse := by unfold bsuFail; dsimp only; (repeat' split) <;> simp
@[simp] theorem takeRecord_frame (u : Nat) (r : BsuRec) (d : Dev) :
    (takeRecord u r d).clk = d.clk ∧ (takeRecord u r d).whl = d.whl ∧ (takeRecord u r d).span = d.span ∧ (takeRecord u r d).fab = d.fab ∧ (takeRecord u r d).lnk = d.lnk ∧ (takeRecord u r d).cl = d.cl ∧ (takeRecord u r d).grants = d.grants ∧ (takeRecord u r d).dma = d.dma ∧ (takeRecord u r d).tmr = d.tmr ∧ (takeRecord u r d).boot = d.boot ∧ (takeRecord u r d).power = d.power ∧ (takeRecord u r d).board = d.board ∧ (takeRecord u r d).flash = d.flash ∧ (takeRecord u r d).mail = d.mail ∧ (takeRecord u r d).fuse = d.fuse := by unfold takeRecord; dsimp only; (repeat' split) <;> simp
@[simp] theorem opBsuDrain_clk (u : Nat) (d : Dev) : (opBsuDrain u d).clk = d.clk := by
  unfold opBsuDrain; (try dsimp only); (repeat' split) <;> simp
@[simp] theorem takeDrains_clk (u n : Nat) (d : Dev) : (takeDrains u n d).clk = d.clk := by
  induction n generalizing d with
  | zero => rfl
  | succ n ih => unfold takeDrains; simp [ih]
@[simp] theorem runEngine_clk (u limit n : Nat) (d : Dev) : (runEngine u limit n d).clk = d.clk := by
  induction n generalizing d with
  | zero => rfl
  | succ n ih => unfold runEngine; split <;> simp [ih]
@[simp] theorem opBsuDrain_whl (u : Nat) (d : Dev) : (opBsuDrain u d).whl = d.whl := by
  unfold opBsuDrain; (try dsimp only); (repeat' split) <;> simp
@[simp] theorem takeDrains_whl (u n : Nat) (d : Dev) : (takeDrains u n d).whl = d.whl := by
  induction n generalizing d with
  | zero => rfl
  | succ n ih => unfold takeDrains; simp [ih]
@[simp] theorem runEngine_whl (u limit n : Nat) (d : Dev) : (runEngine u limit n d).whl = d.whl := by
  induction n generalizing d with
  | zero => rfl
  | succ n ih => unfold runEngine; split <;> simp [ih]
@[simp] theorem opBsuDrain_span (u : Nat) (d : Dev) : (opBsuDrain u d).span = d.span := by
  unfold opBsuDrain; (try dsimp only); (repeat' split) <;> simp
@[simp] theorem takeDrains_span (u n : Nat) (d : Dev) : (takeDrains u n d).span = d.span := by
  induction n generalizing d with
  | zero => rfl
  | succ n ih => unfold takeDrains; simp [ih]
@[simp] theorem runEngine_span (u limit n : Nat) (d : Dev) : (runEngine u limit n d).span = d.span := by
  induction n generalizing d with
  | zero => rfl
  | succ n ih => unfold runEngine; split <;> simp [ih]
@[simp] theorem opBsuDrain_fab (u : Nat) (d : Dev) : (opBsuDrain u d).fab = d.fab := by
  unfold opBsuDrain; (try dsimp only); (repeat' split) <;> simp
@[simp] theorem takeDrains_fab (u n : Nat) (d : Dev) : (takeDrains u n d).fab = d.fab := by
  induction n generalizing d with
  | zero => rfl
  | succ n ih => unfold takeDrains; simp [ih]
@[simp] theorem runEngine_fab (u limit n : Nat) (d : Dev) : (runEngine u limit n d).fab = d.fab := by
  induction n generalizing d with
  | zero => rfl
  | succ n ih => unfold runEngine; split <;> simp [ih]
@[simp] theorem opBsuDrain_lnk (u : Nat) (d : Dev) : (opBsuDrain u d).lnk = d.lnk := by
  unfold opBsuDrain; (try dsimp only); (repeat' split) <;> simp
@[simp] theorem takeDrains_lnk (u n : Nat) (d : Dev) : (takeDrains u n d).lnk = d.lnk := by
  induction n generalizing d with
  | zero => rfl
  | succ n ih => unfold takeDrains; simp [ih]
@[simp] theorem runEngine_lnk (u limit n : Nat) (d : Dev) : (runEngine u limit n d).lnk = d.lnk := by
  induction n generalizing d with
  | zero => rfl
  | succ n ih => unfold runEngine; split <;> simp [ih]
@[simp] theorem opBsuDrain_cl (u : Nat) (d : Dev) : (opBsuDrain u d).cl = d.cl := by
  unfold opBsuDrain; (try dsimp only); (repeat' split) <;> simp
@[simp] theorem takeDrains_cl (u n : Nat) (d : Dev) : (takeDrains u n d).cl = d.cl := by
  induction n generalizing d with
  | zero => rfl
  | succ n ih => unfold takeDrains; simp [ih]
@[simp] theorem runEngine_cl (u limit n : Nat) (d : Dev) : (runEngine u limit n d).cl = d.cl := by
  induction n generalizing d with
  | zero => rfl
  | succ n ih => unfold runEngine; split <;> simp [ih]
@[simp] theorem opBsuDrain_grants (u : Nat) (d : Dev) : (opBsuDrain u d).grants = d.grants := by
  unfold opBsuDrain; (try dsimp only); (repeat' split) <;> simp
@[simp] theorem takeDrains_grants (u n : Nat) (d : Dev) : (takeDrains u n d).grants = d.grants := by
  induction n generalizing d with
  | zero => rfl
  | succ n ih => unfold takeDrains; simp [ih]
@[simp] theorem runEngine_grants (u limit n : Nat) (d : Dev) : (runEngine u limit n d).grants = d.grants := by
  induction n generalizing d with
  | zero => rfl
  | succ n ih => unfold runEngine; split <;> simp [ih]
@[simp] theorem opBsuDrain_dma (u : Nat) (d : Dev) : (opBsuDrain u d).dma = d.dma := by
  unfold opBsuDrain; (try dsimp only); (repeat' split) <;> simp
@[simp] theorem takeDrains_dma (u n : Nat) (d : Dev) : (takeDrains u n d).dma = d.dma := by
  induction n generalizing d with
  | zero => rfl
  | succ n ih => unfold takeDrains; simp [ih]
@[simp] theorem runEngine_dma (u limit n : Nat) (d : Dev) : (runEngine u limit n d).dma = d.dma := by
  induction n generalizing d with
  | zero => rfl
  | succ n ih => unfold runEngine; split <;> simp [ih]
@[simp] theorem opBsuDrain_tmr (u : Nat) (d : Dev) : (opBsuDrain u d).tmr = d.tmr := by
  unfold opBsuDrain; (try dsimp only); (repeat' split) <;> simp
@[simp] theorem takeDrains_tmr (u n : Nat) (d : Dev) : (takeDrains u n d).tmr = d.tmr := by
  induction n generalizing d with
  | zero => rfl
  | succ n ih => unfold takeDrains; simp [ih]
@[simp] theorem runEngine_tmr (u limit n : Nat) (d : Dev) : (runEngine u limit n d).tmr = d.tmr := by
  induction n generalizing d with
  | zero => rfl
  | succ n ih => unfold runEngine; split <;> simp [ih]
@[simp] theorem opBsuDrain_boot (u : Nat) (d : Dev) : (opBsuDrain u d).boot = d.boot := by
  unfold opBsuDrain; (try dsimp only); (repeat' split) <;> simp
@[simp] theorem takeDrains_boot (u n : Nat) (d : Dev) : (takeDrains u n d).boot = d.boot := by
  induction n generalizing d with
  | zero => rfl
  | succ n ih => unfold takeDrains; simp [ih]
@[simp] theorem runEngine_boot (u limit n : Nat) (d : Dev) : (runEngine u limit n d).boot = d.boot := by
  induction n generalizing d with
  | zero => rfl
  | succ n ih => unfold runEngine; split <;> simp [ih]
@[simp] theorem opBsuDrain_power (u : Nat) (d : Dev) : (opBsuDrain u d).power = d.power := by
  unfold opBsuDrain; (try dsimp only); (repeat' split) <;> simp
@[simp] theorem takeDrains_power (u n : Nat) (d : Dev) : (takeDrains u n d).power = d.power := by
  induction n generalizing d with
  | zero => rfl
  | succ n ih => unfold takeDrains; simp [ih]
@[simp] theorem runEngine_power (u limit n : Nat) (d : Dev) : (runEngine u limit n d).power = d.power := by
  induction n generalizing d with
  | zero => rfl
  | succ n ih => unfold runEngine; split <;> simp [ih]
@[simp] theorem opBsuDrain_board (u : Nat) (d : Dev) : (opBsuDrain u d).board = d.board := by
  unfold opBsuDrain; (try dsimp only); (repeat' split) <;> simp
@[simp] theorem takeDrains_board (u n : Nat) (d : Dev) : (takeDrains u n d).board = d.board := by
  induction n generalizing d with
  | zero => rfl
  | succ n ih => unfold takeDrains; simp [ih]
@[simp] theorem runEngine_board (u limit n : Nat) (d : Dev) : (runEngine u limit n d).board = d.board := by
  induction n generalizing d with
  | zero => rfl
  | succ n ih => unfold runEngine; split <;> simp [ih]
@[simp] theorem opBsuDrain_flash (u : Nat) (d : Dev) : (opBsuDrain u d).flash = d.flash := by
  unfold opBsuDrain; (try dsimp only); (repeat' split) <;> simp
@[simp] theorem takeDrains_flash (u n : Nat) (d : Dev) : (takeDrains u n d).flash = d.flash := by
  induction n generalizing d with
  | zero => rfl
  | succ n ih => unfold takeDrains; simp [ih]
@[simp] theorem runEngine_flash (u limit n : Nat) (d : Dev) : (runEngine u limit n d).flash = d.flash := by
  induction n generalizing d with
  | zero => rfl
  | succ n ih => unfold runEngine; split <;> simp [ih]
@[simp] theorem opBsuDrain_mail (u : Nat) (d : Dev) : (opBsuDrain u d).mail = d.mail := by
  unfold opBsuDrain; (try dsimp only); (repeat' split) <;> simp
@[simp] theorem takeDrains_mail (u n : Nat) (d : Dev) : (takeDrains u n d).mail = d.mail := by
  induction n generalizing d with
  | zero => rfl
  | succ n ih => unfold takeDrains; simp [ih]
@[simp] theorem runEngine_mail (u limit n : Nat) (d : Dev) : (runEngine u limit n d).mail = d.mail := by
  induction n generalizing d with
  | zero => rfl
  | succ n ih => unfold runEngine; split <;> simp [ih]
@[simp] theorem opBsuDrain_fuse (u : Nat) (d : Dev) : (opBsuDrain u d).fuse = d.fuse := by
  unfold opBsuDrain; (try dsimp only); (repeat' split) <;> simp
@[simp] theorem takeDrains_fuse (u n : Nat) (d : Dev) : (takeDrains u n d).fuse = d.fuse := by
  induction n generalizing d with
  | zero => rfl
  | succ n ih => unfold takeDrains; simp [ih]
@[simp] theorem runEngine_fuse (u limit n : Nat) (d : Dev) : (runEngine u limit n d).fuse = d.fuse := by
  induction n generalizing d with
  | zero => rfl
  | succ n ih => unfold runEngine; split <;> simp [ih]
@[simp] theorem opBsuRecord_frame (u kind : Nat) (d0 : Dev) :
    (opBsuRecord u kind d0).clk = d0.clk ∧ (opBsuRecord u kind d0).whl = d0.whl ∧ (opBsuRecord u kind d0).span = d0.span ∧ (opBsuRecord u kind d0).fab = d0.fab ∧ (opBsuRecord u kind d0).lnk = d0.lnk ∧ (opBsuRecord u kind d0).cl = d0.cl ∧ (opBsuRecord u kind d0).grants = d0.grants ∧ (opBsuRecord u kind d0).dma = d0.dma ∧ (opBsuRecord u kind d0).tmr = d0.tmr ∧ (opBsuRecord u kind d0).boot = d0.boot ∧ (opBsuRecord u kind d0).power = d0.power ∧ (opBsuRecord u kind d0).board = d0.board ∧ (opBsuRecord u kind d0).flash = d0.flash ∧ (opBsuRecord u kind d0).mail = d0.mail ∧ (opBsuRecord u kind d0).fuse = d0.fuse := by unfold opBsuRecord; dsimp only; (repeat' split) <;> simp
@[simp] theorem opBsuNop_frame (u : Nat) (d : Dev) :
    (opBsuNop u d).clk = d.clk ∧ (opBsuNop u d).whl = d.whl ∧ (opBsuNop u d).span = d.span ∧ (opBsuNop u d).fab = d.fab ∧ (opBsuNop u d).lnk = d.lnk ∧ (opBsuNop u d).cl = d.cl ∧ (opBsuNop u d).grants = d.grants ∧ (opBsuNop u d).dma = d.dma ∧ (opBsuNop u d).tmr = d.tmr ∧ (opBsuNop u d).boot = d.boot ∧ (opBsuNop u d).power = d.power ∧ (opBsuNop u d).board = d.board ∧ (opBsuNop u d).flash = d.flash ∧ (opBsuNop u d).mail = d.mail ∧ (opBsuNop u d).fuse = d.fuse := by simp [opBsuNop]
@[simp] theorem opBsuCtx_frame (u : Nat) (d : Dev) :
    (opBsuCtx u d).clk = d.clk ∧ (opBsuCtx u d).whl = d.whl ∧ (opBsuCtx u d).span = d.span ∧ (opBsuCtx u d).fab = d.fab ∧ (opBsuCtx u d).lnk = d.lnk ∧ (opBsuCtx u d).cl = d.cl ∧ (opBsuCtx u d).grants = d.grants ∧ (opBsuCtx u d).dma = d.dma ∧ (opBsuCtx u d).tmr = d.tmr ∧ (opBsuCtx u d).boot = d.boot ∧ (opBsuCtx u d).power = d.power ∧ (opBsuCtx u d).board = d.board ∧ (opBsuCtx u d).flash = d.flash ∧ (opBsuCtx u d).mail = d.mail ∧ (opBsuCtx u d).fuse = d.fuse := by simp [opBsuCtx]
@[simp] theorem opBsuByp_frame (u : Nat) (d : Dev) :
    (opBsuByp u d).clk = d.clk ∧ (opBsuByp u d).whl = d.whl ∧ (opBsuByp u d).span = d.span ∧ (opBsuByp u d).fab = d.fab ∧ (opBsuByp u d).lnk = d.lnk ∧ (opBsuByp u d).cl = d.cl ∧ (opBsuByp u d).grants = d.grants ∧ (opBsuByp u d).dma = d.dma ∧ (opBsuByp u d).tmr = d.tmr ∧ (opBsuByp u d).boot = d.boot ∧ (opBsuByp u d).power = d.power ∧ (opBsuByp u d).board = d.board ∧ (opBsuByp u d).flash = d.flash ∧ (opBsuByp u d).mail = d.mail ∧ (opBsuByp u d).fuse = d.fuse := by simp [opBsuByp]
@[simp] theorem opBsuTerm_frame (u : Nat) (d : Dev) :
    (opBsuTerm u d).clk = d.clk ∧ (opBsuTerm u d).whl = d.whl ∧ (opBsuTerm u d).span = d.span ∧ (opBsuTerm u d).fab = d.fab ∧ (opBsuTerm u d).lnk = d.lnk ∧ (opBsuTerm u d).cl = d.cl ∧ (opBsuTerm u d).grants = d.grants ∧ (opBsuTerm u d).dma = d.dma ∧ (opBsuTerm u d).tmr = d.tmr ∧ (opBsuTerm u d).boot = d.boot ∧ (opBsuTerm u d).power = d.power ∧ (opBsuTerm u d).board = d.board ∧ (opBsuTerm u d).flash = d.flash ∧ (opBsuTerm u d).mail = d.mail ∧ (opBsuTerm u d).fuse = d.fuse := by simp [opBsuTerm]
@[simp] theorem opBsuSym_frame (u : Nat) (d : Dev) :
    (opBsuSym u d).clk = d.clk ∧ (opBsuSym u d).whl = d.whl ∧ (opBsuSym u d).span = d.span ∧ (opBsuSym u d).fab = d.fab ∧ (opBsuSym u d).lnk = d.lnk ∧ (opBsuSym u d).cl = d.cl ∧ (opBsuSym u d).grants = d.grants ∧ (opBsuSym u d).dma = d.dma ∧ (opBsuSym u d).tmr = d.tmr ∧ (opBsuSym u d).boot = d.boot ∧ (opBsuSym u d).power = d.power ∧ (opBsuSym u d).board = d.board ∧ (opBsuSym u d).flash = d.flash ∧ (opBsuSym u d).mail = d.mail ∧ (opBsuSym u d).fuse = d.fuse := by simp [opBsuSym]
@[simp] theorem opBsuLit_frame (u : Nat) (d : Dev) :
    (opBsuLit u d).clk = d.clk ∧ (opBsuLit u d).whl = d.whl ∧ (opBsuLit u d).span = d.span ∧ (opBsuLit u d).fab = d.fab ∧ (opBsuLit u d).lnk = d.lnk ∧ (opBsuLit u d).cl = d.cl ∧ (opBsuLit u d).grants = d.grants ∧ (opBsuLit u d).dma = d.dma ∧ (opBsuLit u d).tmr = d.tmr ∧ (opBsuLit u d).boot = d.boot ∧ (opBsuLit u d).power = d.power ∧ (opBsuLit u d).board = d.board ∧ (opBsuLit u d).flash = d.flash ∧ (opBsuLit u d).mail = d.mail ∧ (opBsuLit u d).fuse = d.fuse := by simp [opBsuLit]
@[simp] theorem opBsuFrameStart_frame (u : Nat) (d : Dev) :
    (opBsuFrameStart u d).clk = d.clk ∧ (opBsuFrameStart u d).whl = d.whl ∧ (opBsuFrameStart u d).span = d.span ∧ (opBsuFrameStart u d).fab = d.fab ∧ (opBsuFrameStart u d).lnk = d.lnk ∧ (opBsuFrameStart u d).cl = d.cl ∧ (opBsuFrameStart u d).grants = d.grants ∧ (opBsuFrameStart u d).dma = d.dma ∧ (opBsuFrameStart u d).tmr = d.tmr ∧ (opBsuFrameStart u d).boot = d.boot ∧ (opBsuFrameStart u d).power = d.power ∧ (opBsuFrameStart u d).board = d.board ∧ (opBsuFrameStart u d).flash = d.flash ∧ (opBsuFrameStart u d).mail = d.mail ∧ (opBsuFrameStart u d).fuse = d.fuse := by simp [opBsuFrameStart]
@[simp] theorem opBsuSegStart_frame (u : Nat) (d : Dev) :
    (opBsuSegStart u d).clk = d.clk ∧ (opBsuSegStart u d).whl = d.whl ∧ (opBsuSegStart u d).span = d.span ∧ (opBsuSegStart u d).fab = d.fab ∧ (opBsuSegStart u d).lnk = d.lnk ∧ (opBsuSegStart u d).cl = d.cl ∧ (opBsuSegStart u d).grants = d.grants ∧ (opBsuSegStart u d).dma = d.dma ∧ (opBsuSegStart u d).tmr = d.tmr ∧ (opBsuSegStart u d).boot = d.boot ∧ (opBsuSegStart u d).power = d.power ∧ (opBsuSegStart u d).board = d.board ∧ (opBsuSegStart u d).flash = d.flash ∧ (opBsuSegStart u d).mail = d.mail ∧ (opBsuSegStart u d).fuse = d.fuse := by simp [opBsuSegStart]
@[simp] theorem opBsuEntry_frame (u : Nat) (d : Dev) :
    (opBsuEntry u d).clk = d.clk ∧ (opBsuEntry u d).whl = d.whl ∧ (opBsuEntry u d).span = d.span ∧ (opBsuEntry u d).fab = d.fab ∧ (opBsuEntry u d).lnk = d.lnk ∧ (opBsuEntry u d).cl = d.cl ∧ (opBsuEntry u d).grants = d.grants ∧ (opBsuEntry u d).dma = d.dma ∧ (opBsuEntry u d).tmr = d.tmr ∧ (opBsuEntry u d).boot = d.boot ∧ (opBsuEntry u d).power = d.power ∧ (opBsuEntry u d).board = d.board ∧ (opBsuEntry u d).flash = d.flash ∧ (opBsuEntry u d).mail = d.mail ∧ (opBsuEntry u d).fuse = d.fuse := by simp [opBsuEntry]
@[simp] theorem opBsuSegEnd_frame (u : Nat) (d : Dev) :
    (opBsuSegEnd u d).clk = d.clk ∧ (opBsuSegEnd u d).whl = d.whl ∧ (opBsuSegEnd u d).span = d.span ∧ (opBsuSegEnd u d).fab = d.fab ∧ (opBsuSegEnd u d).lnk = d.lnk ∧ (opBsuSegEnd u d).cl = d.cl ∧ (opBsuSegEnd u d).grants = d.grants ∧ (opBsuSegEnd u d).dma = d.dma ∧ (opBsuSegEnd u d).tmr = d.tmr ∧ (opBsuSegEnd u d).boot = d.boot ∧ (opBsuSegEnd u d).power = d.power ∧ (opBsuSegEnd u d).board = d.board ∧ (opBsuSegEnd u d).flash = d.flash ∧ (opBsuSegEnd u d).mail = d.mail ∧ (opBsuSegEnd u d).fuse = d.fuse := by simp [opBsuSegEnd]
@[simp] theorem opBsuFrameEnd_frame (u : Nat) (d : Dev) :
    (opBsuFrameEnd u d).clk = d.clk ∧ (opBsuFrameEnd u d).whl = d.whl ∧ (opBsuFrameEnd u d).span = d.span ∧ (opBsuFrameEnd u d).fab = d.fab ∧ (opBsuFrameEnd u d).lnk = d.lnk ∧ (opBsuFrameEnd u d).cl = d.cl ∧ (opBsuFrameEnd u d).grants = d.grants ∧ (opBsuFrameEnd u d).dma = d.dma ∧ (opBsuFrameEnd u d).tmr = d.tmr ∧ (opBsuFrameEnd u d).boot = d.boot ∧ (opBsuFrameEnd u d).power = d.power ∧ (opBsuFrameEnd u d).board = d.board ∧ (opBsuFrameEnd u d).flash = d.flash ∧ (opBsuFrameEnd u d).mail = d.mail ∧ (opBsuFrameEnd u d).fuse = d.fuse := by simp [opBsuFrameEnd]
@[simp] theorem acceptFlit_frame (u : Nat) (f : Line) (arr : Nat) (d : Dev) :
    (acceptFlit u f arr d).clk = d.clk ∧ (acceptFlit u f arr d).whl = d.whl ∧ (acceptFlit u f arr d).span = d.span ∧ (acceptFlit u f arr d).fab = d.fab ∧ (acceptFlit u f arr d).lnk = d.lnk ∧ (acceptFlit u f arr d).cl = d.cl ∧ (acceptFlit u f arr d).grants = d.grants ∧ (acceptFlit u f arr d).dma = d.dma ∧ (acceptFlit u f arr d).tmr = d.tmr ∧ (acceptFlit u f arr d).boot = d.boot ∧ (acceptFlit u f arr d).power = d.power ∧ (acceptFlit u f arr d).board = d.board ∧ (acceptFlit u f arr d).flash = d.flash ∧ (acceptFlit u f arr d).mail = d.mail ∧ (acceptFlit u f arr d).fuse = d.fuse := by unfold acceptFlit; dsimp only; (repeat' split) <;> simp
@[simp] theorem opBsuRecordFlit_frame (u t : Nat) (d : Dev) :
    (opBsuRecordFlit u t d).clk = d.clk ∧ (opBsuRecordFlit u t d).span = d.span ∧ (opBsuRecordFlit u t d).lnk = d.lnk ∧ (opBsuRecordFlit u t d).cl = d.cl ∧ (opBsuRecordFlit u t d).grants = d.grants ∧ (opBsuRecordFlit u t d).dma = d.dma ∧ (opBsuRecordFlit u t d).tmr = d.tmr ∧ (opBsuRecordFlit u t d).boot = d.boot ∧ (opBsuRecordFlit u t d).power = d.power ∧ (opBsuRecordFlit u t d).board = d.board ∧ (opBsuRecordFlit u t d).flash = d.flash ∧ (opBsuRecordFlit u t d).mail = d.mail ∧ (opBsuRecordFlit u t d).fuse = d.fuse := by unfold opBsuRecordFlit; dsimp only; (repeat' split) <;> simp
@[simp] theorem opBsuDrainLine_frame (u t : Nat) (d : Dev) :
    (opBsuDrainLine u t d).clk = d.clk ∧ (opBsuDrainLine u t d).span = d.span ∧ (opBsuDrainLine u t d).lnk = d.lnk ∧ (opBsuDrainLine u t d).cl = d.cl ∧ (opBsuDrainLine u t d).grants = d.grants ∧ (opBsuDrainLine u t d).dma = d.dma ∧ (opBsuDrainLine u t d).tmr = d.tmr ∧ (opBsuDrainLine u t d).boot = d.boot ∧ (opBsuDrainLine u t d).power = d.power ∧ (opBsuDrainLine u t d).board = d.board ∧ (opBsuDrainLine u t d).flash = d.flash ∧ (opBsuDrainLine u t d).mail = d.mail ∧ (opBsuDrainLine u t d).fuse = d.fuse := by unfold opBsuDrainLine; dsimp only; (repeat' split) <;> simp
@[simp] theorem opBsuReset_frame (u cause : Nat) (d : Dev) :
    (opBsuReset u cause d).clk = d.clk ∧ (opBsuReset u cause d).whl = d.whl ∧ (opBsuReset u cause d).span = d.span ∧ (opBsuReset u cause d).fab = d.fab ∧ (opBsuReset u cause d).lnk = d.lnk ∧ (opBsuReset u cause d).cl = d.cl ∧ (opBsuReset u cause d).grants = d.grants ∧ (opBsuReset u cause d).dma = d.dma ∧ (opBsuReset u cause d).tmr = d.tmr ∧ (opBsuReset u cause d).boot = d.boot ∧ (opBsuReset u cause d).power = d.power ∧ (opBsuReset u cause d).board = d.board ∧ (opBsuReset u cause d).flash = d.flash ∧ (opBsuReset u cause d).mail = d.mail ∧ (opBsuReset u cause d).fuse = d.fuse := by unfold opBsuReset; (repeat' split) <;> simp
@[simp] theorem endLease_frame (u : Nat) (d : Dev) :
    (endLease u d).clk = d.clk ∧ (endLease u d).whl = d.whl ∧ (endLease u d).span = d.span ∧ (endLease u d).fab = d.fab ∧ (endLease u d).lnk = d.lnk ∧ (endLease u d).cl = d.cl ∧ (endLease u d).grants = d.grants ∧ (endLease u d).dma = d.dma ∧ (endLease u d).tmr = d.tmr ∧ (endLease u d).boot = d.boot ∧ (endLease u d).power = d.power ∧ (endLease u d).board = d.board ∧ (endLease u d).flash = d.flash ∧ (endLease u d).mail = d.mail ∧ (endLease u d).fuse = d.fuse := by simp [endLease]
@[simp] theorem opBsuBind_frame (r : Nat) (d : Dev) :
    (opBsuBind r d).clk = d.clk ∧ (opBsuBind r d).whl = d.whl ∧ (opBsuBind r d).span = d.span ∧ (opBsuBind r d).fab = d.fab ∧ (opBsuBind r d).lnk = d.lnk ∧ (opBsuBind r d).cl = d.cl ∧ (opBsuBind r d).ten = d.ten ∧ (opBsuBind r d).grants = d.grants ∧ (opBsuBind r d).dma = d.dma ∧ (opBsuBind r d).tmr = d.tmr ∧ (opBsuBind r d).boot = d.boot ∧ (opBsuBind r d).power = d.power ∧ (opBsuBind r d).board = d.board ∧ (opBsuBind r d).flash = d.flash ∧ (opBsuBind r d).mail = d.mail ∧ (opBsuBind r d).fuse = d.fuse := by
  have h : (fun d : Dev => (d.clk, d.whl, d.span, d.fab, d.lnk, d.cl, d.ten, d.grants, d.dma, d.tmr, d.boot, d.power, d.board, d.flash, d.mail, d.fuse)) (opBsuBind r d) = (fun d : Dev => (d.clk, d.whl, d.span, d.fab, d.lnk, d.cl, d.ten, d.grants, d.dma, d.tmr, d.boot, d.power, d.board, d.flash, d.mail, d.fuse)) d := by
    unfold opBsuBind ; refine runCmd_keeps (fun d : Dev => (d.clk, d.whl, d.span, d.fab, d.lnk, d.cl, d.ten, d.grants, d.dma, d.tmr, d.boot, d.power, d.board, d.flash, d.mail, d.fuse)) _ _ _ _ (fun c a => ?_) (fun _ _ => rfl) <;> (try dsimp only) <;> (repeat' split) <;> simp
  simpa using h
@[simp] theorem applyConfig_frame (b : List Byte) (d : Dev) :
    (applyConfig b d).clk = d.clk ∧ (applyConfig b d).whl = d.whl ∧ (applyConfig b d).span = d.span ∧ (applyConfig b d).fab = d.fab ∧ (applyConfig b d).lnk = d.lnk ∧ (applyConfig b d).cl = d.cl ∧ (applyConfig b d).grants = d.grants ∧ (applyConfig b d).dma = d.dma ∧ (applyConfig b d).tmr = d.tmr ∧ (applyConfig b d).boot = d.boot ∧ (applyConfig b d).power = d.power ∧ (applyConfig b d).board = d.board ∧ (applyConfig b d).flash = d.flash ∧ (applyConfig b d).mail = d.mail ∧ (applyConfig b d).fuse = d.fuse := by simp [applyConfig]
@[simp] theorem opBsuConfig_frame (r : Nat) (d : Dev) :
    (opBsuConfig r d).clk = d.clk ∧ (opBsuConfig r d).whl = d.whl ∧ (opBsuConfig r d).span = d.span ∧ (opBsuConfig r d).fab = d.fab ∧ (opBsuConfig r d).lnk = d.lnk ∧ (opBsuConfig r d).cl = d.cl ∧ (opBsuConfig r d).grants = d.grants ∧ (opBsuConfig r d).dma = d.dma ∧ (opBsuConfig r d).tmr = d.tmr ∧ (opBsuConfig r d).boot = d.boot ∧ (opBsuConfig r d).power = d.power ∧ (opBsuConfig r d).board = d.board ∧ (opBsuConfig r d).flash = d.flash ∧ (opBsuConfig r d).mail = d.mail ∧ (opBsuConfig r d).fuse = d.fuse := by
  have h : (fun d : Dev => (d.clk, d.whl, d.span, d.fab, d.lnk, d.cl, d.grants, d.dma, d.tmr, d.boot, d.power, d.board, d.flash, d.mail, d.fuse)) (opBsuConfig r d) = (fun d : Dev => (d.clk, d.whl, d.span, d.fab, d.lnk, d.cl, d.grants, d.dma, d.tmr, d.boot, d.power, d.board, d.flash, d.mail, d.fuse)) d := by
    unfold opBsuConfig ; refine runCmd_keeps (fun d : Dev => (d.clk, d.whl, d.span, d.fab, d.lnk, d.cl, d.grants, d.dma, d.tmr, d.boot, d.power, d.board, d.flash, d.mail, d.fuse)) _ _ _ _ (fun c a => ?_) (fun _ _ => rfl) <;> (try dsimp only) <;> (repeat' split) <;> simp
  simpa using h
@[simp] theorem endFlush_frame (c : Cmd) (u : Nat) (d : Dev) :
    (endFlush c u d).clk = d.clk ∧ (endFlush c u d).whl = d.whl ∧ (endFlush c u d).span = d.span ∧ (endFlush c u d).fab = d.fab ∧ (endFlush c u d).lnk = d.lnk ∧ (endFlush c u d).cl = d.cl ∧ (endFlush c u d).ten = d.ten ∧ (endFlush c u d).grants = d.grants ∧ (endFlush c u d).dma = d.dma ∧ (endFlush c u d).tmr = d.tmr ∧ (endFlush c u d).boot = d.boot ∧ (endFlush c u d).power = d.power ∧ (endFlush c u d).board = d.board ∧ (endFlush c u d).flash = d.flash ∧ (endFlush c u d).mail = d.mail ∧ (endFlush c u d).fuse = d.fuse := by simp [endFlush]
@[simp] theorem opBsuFlush_clk (r : Nat) (d : Dev) : (opBsuFlush r d).clk = d.clk := by
  have h : ∀ body : Nat → Cmd → Dev → Dev, (∀ t c a, (body t c a).clk = a.clk) → (runTen r 0x602 body d).clk = d.clk := fun body hb => by
    unfold runTen
    refine runCmd_keeps (·.clk) _ _ _ _ (fun c a => ?_) (fun _ _ => rfl)
    dsimp only; split <;> simp [hb]
  have e : ∀ c u e, (endFlush c u e).clk = e.clk := fun _ _ _ => by simp
  unfold opBsuFlush
  extract_lets start d1
  have hd : d1.clk = d.clk := h _ fun t c a => by dsimp only; (repeat' split) <;> simp
  split
  · rw [e, hd]
  · exact hd
@[simp] theorem opBsuFlush_whl (r : Nat) (d : Dev) : (opBsuFlush r d).whl = d.whl := by
  have h : ∀ body : Nat → Cmd → Dev → Dev, (∀ t c a, (body t c a).whl = a.whl) → (runTen r 0x602 body d).whl = d.whl := fun body hb => by
    unfold runTen
    refine runCmd_keeps (·.whl) _ _ _ _ (fun c a => ?_) (fun _ _ => rfl)
    dsimp only; split <;> simp [hb]
  have e : ∀ c u e, (endFlush c u e).whl = e.whl := fun _ _ _ => by simp
  unfold opBsuFlush
  extract_lets start d1
  have hd : d1.whl = d.whl := h _ fun t c a => by dsimp only; (repeat' split) <;> simp
  split
  · rw [e, hd]
  · exact hd
@[simp] theorem opBsuFlush_span (r : Nat) (d : Dev) : (opBsuFlush r d).span = d.span := by
  have h : ∀ body : Nat → Cmd → Dev → Dev, (∀ t c a, (body t c a).span = a.span) → (runTen r 0x602 body d).span = d.span := fun body hb => by
    unfold runTen
    refine runCmd_keeps (·.span) _ _ _ _ (fun c a => ?_) (fun _ _ => rfl)
    dsimp only; split <;> simp [hb]
  have e : ∀ c u e, (endFlush c u e).span = e.span := fun _ _ _ => by simp
  unfold opBsuFlush
  extract_lets start d1
  have hd : d1.span = d.span := h _ fun t c a => by dsimp only; (repeat' split) <;> simp
  split
  · rw [e, hd]
  · exact hd
@[simp] theorem opBsuFlush_fab (r : Nat) (d : Dev) : (opBsuFlush r d).fab = d.fab := by
  have h : ∀ body : Nat → Cmd → Dev → Dev, (∀ t c a, (body t c a).fab = a.fab) → (runTen r 0x602 body d).fab = d.fab := fun body hb => by
    unfold runTen
    refine runCmd_keeps (·.fab) _ _ _ _ (fun c a => ?_) (fun _ _ => rfl)
    dsimp only; split <;> simp [hb]
  have e : ∀ c u e, (endFlush c u e).fab = e.fab := fun _ _ _ => by simp
  unfold opBsuFlush
  extract_lets start d1
  have hd : d1.fab = d.fab := h _ fun t c a => by dsimp only; (repeat' split) <;> simp
  split
  · rw [e, hd]
  · exact hd
@[simp] theorem opBsuFlush_lnk (r : Nat) (d : Dev) : (opBsuFlush r d).lnk = d.lnk := by
  have h : ∀ body : Nat → Cmd → Dev → Dev, (∀ t c a, (body t c a).lnk = a.lnk) → (runTen r 0x602 body d).lnk = d.lnk := fun body hb => by
    unfold runTen
    refine runCmd_keeps (·.lnk) _ _ _ _ (fun c a => ?_) (fun _ _ => rfl)
    dsimp only; split <;> simp [hb]
  have e : ∀ c u e, (endFlush c u e).lnk = e.lnk := fun _ _ _ => by simp
  unfold opBsuFlush
  extract_lets start d1
  have hd : d1.lnk = d.lnk := h _ fun t c a => by dsimp only; (repeat' split) <;> simp
  split
  · rw [e, hd]
  · exact hd
@[simp] theorem opBsuFlush_cl (r : Nat) (d : Dev) : (opBsuFlush r d).cl = d.cl := by
  have h : ∀ body : Nat → Cmd → Dev → Dev, (∀ t c a, (body t c a).cl = a.cl) → (runTen r 0x602 body d).cl = d.cl := fun body hb => by
    unfold runTen
    refine runCmd_keeps (·.cl) _ _ _ _ (fun c a => ?_) (fun _ _ => rfl)
    dsimp only; split <;> simp [hb]
  have e : ∀ c u e, (endFlush c u e).cl = e.cl := fun _ _ _ => by simp
  unfold opBsuFlush
  extract_lets start d1
  have hd : d1.cl = d.cl := h _ fun t c a => by dsimp only; (repeat' split) <;> simp
  split
  · rw [e, hd]
  · exact hd
@[simp] theorem opBsuFlush_ten (r : Nat) (d : Dev) : (opBsuFlush r d).ten = d.ten := by
  have h : ∀ body : Nat → Cmd → Dev → Dev, (∀ t c a, (body t c a).ten = a.ten) → (runTen r 0x602 body d).ten = d.ten := fun body hb => by
    unfold runTen
    refine runCmd_keeps (·.ten) _ _ _ _ (fun c a => ?_) (fun _ _ => rfl)
    dsimp only; split <;> simp [hb]
  have e : ∀ c u e, (endFlush c u e).ten = e.ten := fun _ _ _ => by simp
  unfold opBsuFlush
  extract_lets start d1
  have hd : d1.ten = d.ten := h _ fun t c a => by dsimp only; (repeat' split) <;> simp
  split
  · rw [e, hd]
  · exact hd
@[simp] theorem opBsuFlush_grants (r : Nat) (d : Dev) : (opBsuFlush r d).grants = d.grants := by
  have h : ∀ body : Nat → Cmd → Dev → Dev, (∀ t c a, (body t c a).grants = a.grants) → (runTen r 0x602 body d).grants = d.grants := fun body hb => by
    unfold runTen
    refine runCmd_keeps (·.grants) _ _ _ _ (fun c a => ?_) (fun _ _ => rfl)
    dsimp only; split <;> simp [hb]
  have e : ∀ c u e, (endFlush c u e).grants = e.grants := fun _ _ _ => by simp
  unfold opBsuFlush
  extract_lets start d1
  have hd : d1.grants = d.grants := h _ fun t c a => by dsimp only; (repeat' split) <;> simp
  split
  · rw [e, hd]
  · exact hd
@[simp] theorem opBsuFlush_dma (r : Nat) (d : Dev) : (opBsuFlush r d).dma = d.dma := by
  have h : ∀ body : Nat → Cmd → Dev → Dev, (∀ t c a, (body t c a).dma = a.dma) → (runTen r 0x602 body d).dma = d.dma := fun body hb => by
    unfold runTen
    refine runCmd_keeps (·.dma) _ _ _ _ (fun c a => ?_) (fun _ _ => rfl)
    dsimp only; split <;> simp [hb]
  have e : ∀ c u e, (endFlush c u e).dma = e.dma := fun _ _ _ => by simp
  unfold opBsuFlush
  extract_lets start d1
  have hd : d1.dma = d.dma := h _ fun t c a => by dsimp only; (repeat' split) <;> simp
  split
  · rw [e, hd]
  · exact hd
@[simp] theorem opBsuFlush_tmr (r : Nat) (d : Dev) : (opBsuFlush r d).tmr = d.tmr := by
  have h : ∀ body : Nat → Cmd → Dev → Dev, (∀ t c a, (body t c a).tmr = a.tmr) → (runTen r 0x602 body d).tmr = d.tmr := fun body hb => by
    unfold runTen
    refine runCmd_keeps (·.tmr) _ _ _ _ (fun c a => ?_) (fun _ _ => rfl)
    dsimp only; split <;> simp [hb]
  have e : ∀ c u e, (endFlush c u e).tmr = e.tmr := fun _ _ _ => by simp
  unfold opBsuFlush
  extract_lets start d1
  have hd : d1.tmr = d.tmr := h _ fun t c a => by dsimp only; (repeat' split) <;> simp
  split
  · rw [e, hd]
  · exact hd
@[simp] theorem opBsuFlush_boot (r : Nat) (d : Dev) : (opBsuFlush r d).boot = d.boot := by
  have h : ∀ body : Nat → Cmd → Dev → Dev, (∀ t c a, (body t c a).boot = a.boot) → (runTen r 0x602 body d).boot = d.boot := fun body hb => by
    unfold runTen
    refine runCmd_keeps (·.boot) _ _ _ _ (fun c a => ?_) (fun _ _ => rfl)
    dsimp only; split <;> simp [hb]
  have e : ∀ c u e, (endFlush c u e).boot = e.boot := fun _ _ _ => by simp
  unfold opBsuFlush
  extract_lets start d1
  have hd : d1.boot = d.boot := h _ fun t c a => by dsimp only; (repeat' split) <;> simp
  split
  · rw [e, hd]
  · exact hd
@[simp] theorem opBsuFlush_power (r : Nat) (d : Dev) : (opBsuFlush r d).power = d.power := by
  have h : ∀ body : Nat → Cmd → Dev → Dev, (∀ t c a, (body t c a).power = a.power) → (runTen r 0x602 body d).power = d.power := fun body hb => by
    unfold runTen
    refine runCmd_keeps (·.power) _ _ _ _ (fun c a => ?_) (fun _ _ => rfl)
    dsimp only; split <;> simp [hb]
  have e : ∀ c u e, (endFlush c u e).power = e.power := fun _ _ _ => by simp
  unfold opBsuFlush
  extract_lets start d1
  have hd : d1.power = d.power := h _ fun t c a => by dsimp only; (repeat' split) <;> simp
  split
  · rw [e, hd]
  · exact hd
@[simp] theorem opBsuFlush_board (r : Nat) (d : Dev) : (opBsuFlush r d).board = d.board := by
  have h : ∀ body : Nat → Cmd → Dev → Dev, (∀ t c a, (body t c a).board = a.board) → (runTen r 0x602 body d).board = d.board := fun body hb => by
    unfold runTen
    refine runCmd_keeps (·.board) _ _ _ _ (fun c a => ?_) (fun _ _ => rfl)
    dsimp only; split <;> simp [hb]
  have e : ∀ c u e, (endFlush c u e).board = e.board := fun _ _ _ => by simp
  unfold opBsuFlush
  extract_lets start d1
  have hd : d1.board = d.board := h _ fun t c a => by dsimp only; (repeat' split) <;> simp
  split
  · rw [e, hd]
  · exact hd
@[simp] theorem opBsuFlush_flash (r : Nat) (d : Dev) : (opBsuFlush r d).flash = d.flash := by
  have h : ∀ body : Nat → Cmd → Dev → Dev, (∀ t c a, (body t c a).flash = a.flash) → (runTen r 0x602 body d).flash = d.flash := fun body hb => by
    unfold runTen
    refine runCmd_keeps (·.flash) _ _ _ _ (fun c a => ?_) (fun _ _ => rfl)
    dsimp only; split <;> simp [hb]
  have e : ∀ c u e, (endFlush c u e).flash = e.flash := fun _ _ _ => by simp
  unfold opBsuFlush
  extract_lets start d1
  have hd : d1.flash = d.flash := h _ fun t c a => by dsimp only; (repeat' split) <;> simp
  split
  · rw [e, hd]
  · exact hd
@[simp] theorem opBsuFlush_mail (r : Nat) (d : Dev) : (opBsuFlush r d).mail = d.mail := by
  have h : ∀ body : Nat → Cmd → Dev → Dev, (∀ t c a, (body t c a).mail = a.mail) → (runTen r 0x602 body d).mail = d.mail := fun body hb => by
    unfold runTen
    refine runCmd_keeps (·.mail) _ _ _ _ (fun c a => ?_) (fun _ _ => rfl)
    dsimp only; split <;> simp [hb]
  have e : ∀ c u e, (endFlush c u e).mail = e.mail := fun _ _ _ => by simp
  unfold opBsuFlush
  extract_lets start d1
  have hd : d1.mail = d.mail := h _ fun t c a => by dsimp only; (repeat' split) <;> simp
  split
  · rw [e, hd]
  · exact hd
@[simp] theorem opBsuFlush_fuse (r : Nat) (d : Dev) : (opBsuFlush r d).fuse = d.fuse := by
  have h : ∀ body : Nat → Cmd → Dev → Dev, (∀ t c a, (body t c a).fuse = a.fuse) → (runTen r 0x602 body d).fuse = d.fuse := fun body hb => by
    unfold runTen
    refine runCmd_keeps (·.fuse) _ _ _ _ (fun c a => ?_) (fun _ _ => rfl)
    dsimp only; split <;> simp [hb]
  have e : ∀ c u e, (endFlush c u e).fuse = e.fuse := fun _ _ _ => by simp
  unfold opBsuFlush
  extract_lets start d1
  have hd : d1.fuse = d.fuse := h _ fun t c a => by dsimp only; (repeat' split) <;> simp
  split
  · rw [e, hd]
  · exact hd

/-! ## Machine/Replay.lean -/

@[simp] theorem modReplay_frame (t : Nat) (f : Replay → Replay) (d : Dev) :
    (modReplay t f d).clk = d.clk ∧ (modReplay t f d).whl = d.whl ∧ (modReplay t f d).span = d.span ∧ (modReplay t f d).fab = d.fab ∧ (modReplay t f d).lnk = d.lnk ∧ (modReplay t f d).cl = d.cl ∧ (modReplay t f d).grants = d.grants ∧ (modReplay t f d).host = d.host ∧ (modReplay t f d).dma = d.dma ∧ (modReplay t f d).bsu = d.bsu ∧ (modReplay t f d).tmr = d.tmr ∧ (modReplay t f d).boot = d.boot ∧ (modReplay t f d).power = d.power ∧ (modReplay t f d).board = d.board ∧ (modReplay t f d).flash = d.flash ∧ (modReplay t f d).mail = d.mail ∧ (modReplay t f d).fuse = d.fuse := by simp [modReplay]
@[simp] theorem endReplay_frame (t id st r0 r1 fault : Nat) (d : Dev) :
    (endReplay t id st r0 r1 fault d).clk = d.clk ∧ (endReplay t id st r0 r1 fault d).whl = d.whl ∧ (endReplay t id st r0 r1 fault d).span = d.span ∧ (endReplay t id st r0 r1 fault d).fab = d.fab ∧ (endReplay t id st r0 r1 fault d).lnk = d.lnk ∧ (endReplay t id st r0 r1 fault d).cl = d.cl ∧ (endReplay t id st r0 r1 fault d).grants = d.grants ∧ (endReplay t id st r0 r1 fault d).dma = d.dma ∧ (endReplay t id st r0 r1 fault d).bsu = d.bsu ∧ (endReplay t id st r0 r1 fault d).tmr = d.tmr ∧ (endReplay t id st r0 r1 fault d).boot = d.boot ∧ (endReplay t id st r0 r1 fault d).power = d.power ∧ (endReplay t id st r0 r1 fault d).board = d.board ∧ (endReplay t id st r0 r1 fault d).flash = d.flash ∧ (endReplay t id st r0 r1 fault d).mail = d.mail ∧ (endReplay t id st r0 r1 fault d).fuse = d.fuse := by simp [endReplay]
@[simp] theorem diverge_frame (t : Nat) (r : Replay) (layer : Nat) (d : Dev) :
    (diverge t r layer d).clk = d.clk ∧ (diverge t r layer d).whl = d.whl ∧ (diverge t r layer d).span = d.span ∧ (diverge t r layer d).fab = d.fab ∧ (diverge t r layer d).lnk = d.lnk ∧ (diverge t r layer d).cl = d.cl ∧ (diverge t r layer d).grants = d.grants ∧ (diverge t r layer d).dma = d.dma ∧ (diverge t r layer d).bsu = d.bsu ∧ (diverge t r layer d).tmr = d.tmr ∧ (diverge t r layer d).boot = d.boot ∧ (diverge t r layer d).power = d.power ∧ (diverge t r layer d).board = d.board ∧ (diverge t r layer d).flash = d.flash ∧ (diverge t r layer d).mail = d.mail ∧ (diverge t r layer d).fuse = d.fuse := by simp [diverge]
@[simp] theorem replayLaunch_frame (t : Nat) (r : Replay) (d : Dev) :
    (replayLaunch t r d).clk = d.clk ∧ (replayLaunch t r d).whl = d.whl ∧ (replayLaunch t r d).span = d.span ∧ (replayLaunch t r d).fab = d.fab ∧ (replayLaunch t r d).lnk = d.lnk ∧ (replayLaunch t r d).cl = d.cl ∧ (replayLaunch t r d).grants = d.grants ∧ (replayLaunch t r d).dma = d.dma ∧ (replayLaunch t r d).bsu = d.bsu ∧ (replayLaunch t r d).tmr = d.tmr ∧ (replayLaunch t r d).boot = d.boot ∧ (replayLaunch t r d).power = d.power ∧ (replayLaunch t r d).board = d.board ∧ (replayLaunch t r d).flash = d.flash ∧ (replayLaunch t r d).mail = d.mail ∧ (replayLaunch t r d).fuse = d.fuse := by unfold replayLaunch; dsimp only; (repeat' split) <;> simp
@[simp] theorem replayCommand_frame (t : Nat) (c : Cmd) (r : Replay) (d : Dev) :
    (replayCommand t c r d).clk = d.clk ∧ (replayCommand t c r d).whl = d.whl ∧ (replayCommand t c r d).span = d.span ∧ (replayCommand t c r d).fab = d.fab ∧ (replayCommand t c r d).lnk = d.lnk ∧ (replayCommand t c r d).cl = d.cl ∧ (replayCommand t c r d).grants = d.grants ∧ (replayCommand t c r d).dma = d.dma ∧ (replayCommand t c r d).tmr = d.tmr ∧ (replayCommand t c r d).boot = d.boot ∧ (replayCommand t c r d).power = d.power ∧ (replayCommand t c r d).board = d.board ∧ (replayCommand t c r d).flash = d.flash ∧ (replayCommand t c r d).mail = d.mail ∧ (replayCommand t c r d).fuse = d.fuse := by unfold replayCommand; dsimp only; (repeat' split) <;> simp
@[simp] theorem replayRef_frame (t : Nat) (r : Replay) (d : Dev) :
    (replayRef t r d).clk = d.clk ∧ (replayRef t r d).whl = d.whl ∧ (replayRef t r d).span = d.span ∧ (replayRef t r d).fab = d.fab ∧ (replayRef t r d).lnk = d.lnk ∧ (replayRef t r d).cl = d.cl ∧ (replayRef t r d).grants = d.grants ∧ (replayRef t r d).dma = d.dma ∧ (replayRef t r d).bsu = d.bsu ∧ (replayRef t r d).tmr = d.tmr ∧ (replayRef t r d).boot = d.boot ∧ (replayRef t r d).power = d.power ∧ (replayRef t r d).board = d.board ∧ (replayRef t r d).flash = d.flash ∧ (replayRef t r d).mail = d.mail ∧ (replayRef t r d).fuse = d.fuse := by unfold replayRef; (repeat' split) <;> simp
@[simp] theorem replayEnd_frame (t : Nat) (r : Replay) (d : Dev) :
    (replayEnd t r d).clk = d.clk ∧ (replayEnd t r d).whl = d.whl ∧ (replayEnd t r d).span = d.span ∧ (replayEnd t r d).fab = d.fab ∧ (replayEnd t r d).lnk = d.lnk ∧ (replayEnd t r d).cl = d.cl ∧ (replayEnd t r d).grants = d.grants ∧ (replayEnd t r d).dma = d.dma ∧ (replayEnd t r d).bsu = d.bsu ∧ (replayEnd t r d).tmr = d.tmr ∧ (replayEnd t r d).boot = d.boot ∧ (replayEnd t r d).power = d.power ∧ (replayEnd t r d).board = d.board ∧ (replayEnd t r d).flash = d.flash ∧ (replayEnd t r d).mail = d.mail ∧ (replayEnd t r d).fuse = d.fuse := by unfold replayEnd; dsimp only; (repeat' split) <;> simp
@[simp] theorem replayStep_frame (t : Nat) (c : Cmd) (r : Replay) (d : Dev) :
    (replayStep t c r d).clk = d.clk ∧ (replayStep t c r d).whl = d.whl ∧ (replayStep t c r d).span = d.span ∧ (replayStep t c r d).fab = d.fab ∧ (replayStep t c r d).lnk = d.lnk ∧ (replayStep t c r d).cl = d.cl ∧ (replayStep t c r d).grants = d.grants ∧ (replayStep t c r d).dma = d.dma ∧ (replayStep t c r d).tmr = d.tmr ∧ (replayStep t c r d).boot = d.boot ∧ (replayStep t c r d).power = d.power ∧ (replayStep t c r d).board = d.board ∧ (replayStep t c r d).flash = d.flash ∧ (replayStep t c r d).mail = d.mail ∧ (replayStep t c r d).fuse = d.fuse := by unfold replayStep; (repeat' split) <;> simp
@[simp] theorem replayBegin_frame (t : Nat) (c : Cmd) (d : Dev) :
    (replayBegin t c d).clk = d.clk ∧ (replayBegin t c d).whl = d.whl ∧ (replayBegin t c d).span = d.span ∧ (replayBegin t c d).fab = d.fab ∧ (replayBegin t c d).lnk = d.lnk ∧ (replayBegin t c d).cl = d.cl ∧ (replayBegin t c d).grants = d.grants ∧ (replayBegin t c d).dma = d.dma ∧ (replayBegin t c d).bsu = d.bsu ∧ (replayBegin t c d).tmr = d.tmr ∧ (replayBegin t c d).boot = d.boot ∧ (replayBegin t c d).power = d.power ∧ (replayBegin t c d).board = d.board ∧ (replayBegin t c d).flash = d.flash ∧ (replayBegin t c d).mail = d.mail ∧ (replayBegin t c d).fuse = d.fuse := by unfold replayBegin; dsimp only; (repeat' split) <;> simp
@[simp] theorem replayWrite_frame (t : Nat) (c : Cmd) (r : Replay) (d : Dev) :
    (replayWrite t c r d).clk = d.clk ∧ (replayWrite t c r d).whl = d.whl ∧ (replayWrite t c r d).span = d.span ∧ (replayWrite t c r d).fab = d.fab ∧ (replayWrite t c r d).lnk = d.lnk ∧ (replayWrite t c r d).cl = d.cl ∧ (replayWrite t c r d).grants = d.grants ∧ (replayWrite t c r d).dma = d.dma ∧ (replayWrite t c r d).bsu = d.bsu ∧ (replayWrite t c r d).tmr = d.tmr ∧ (replayWrite t c r d).boot = d.boot ∧ (replayWrite t c r d).power = d.power ∧ (replayWrite t c r d).board = d.board ∧ (replayWrite t c r d).flash = d.flash ∧ (replayWrite t c r d).mail = d.mail ∧ (replayWrite t c r d).fuse = d.fuse := by unfold replayWrite; (repeat' split) <;> simp
@[simp] theorem opReplayStart_frame (r : Nat) (d : Dev) :
    (opReplayStart r d).clk = d.clk ∧ (opReplayStart r d).whl = d.whl ∧ (opReplayStart r d).span = d.span ∧ (opReplayStart r d).fab = d.fab ∧ (opReplayStart r d).lnk = d.lnk ∧ (opReplayStart r d).cl = d.cl ∧ (opReplayStart r d).grants = d.grants ∧ (opReplayStart r d).dma = d.dma ∧ (opReplayStart r d).tmr = d.tmr ∧ (opReplayStart r d).boot = d.boot ∧ (opReplayStart r d).power = d.power ∧ (opReplayStart r d).board = d.board ∧ (opReplayStart r d).flash = d.flash ∧ (opReplayStart r d).mail = d.mail ∧ (opReplayStart r d).fuse = d.fuse := by
  have h : (fun d : Dev => (d.clk, d.whl, d.span, d.fab, d.lnk, d.cl, d.grants, d.dma, d.tmr, d.boot, d.power, d.board, d.flash, d.mail, d.fuse)) (opReplayStart r d) = (fun d : Dev => (d.clk, d.whl, d.span, d.fab, d.lnk, d.cl, d.grants, d.dma, d.tmr, d.boot, d.power, d.board, d.flash, d.mail, d.fuse)) d := by
    unfold opReplayStart runTen; split
    · split <;> simp
    · refine runCmd_keeps (fun d : Dev => (d.clk, d.whl, d.span, d.fab, d.lnk, d.cl, d.grants, d.dma, d.tmr, d.boot, d.power, d.board, d.flash, d.mail, d.fuse)) _ _ _ _ (fun c a => ?_) (fun _ _ => rfl) <;> (try dsimp only) <;> (repeat' split) <;> simp
  simpa using h

/-! ## Machine/Spans.lean -/

@[simp] theorem opSpanJoin_frame (r : Nat) (d : Dev) :
    (opSpanJoin r d).clk = d.clk ∧ (opSpanJoin r d).whl = d.whl ∧ (opSpanJoin r d).fab = d.fab ∧ (opSpanJoin r d).lnk = d.lnk ∧ (opSpanJoin r d).cl = d.cl ∧ (opSpanJoin r d).ten = d.ten ∧ (opSpanJoin r d).grants = d.grants ∧ (opSpanJoin r d).dma = d.dma ∧ (opSpanJoin r d).bsu = d.bsu ∧ (opSpanJoin r d).tmr = d.tmr ∧ (opSpanJoin r d).boot = d.boot ∧ (opSpanJoin r d).power = d.power ∧ (opSpanJoin r d).board = d.board ∧ (opSpanJoin r d).flash = d.flash ∧ (opSpanJoin r d).mail = d.mail ∧ (opSpanJoin r d).fuse = d.fuse := by
  have h : (fun d : Dev => (d.clk, d.whl, d.fab, d.lnk, d.cl, d.ten, d.grants, d.dma, d.bsu, d.tmr, d.boot, d.power, d.board, d.flash, d.mail, d.fuse)) (opSpanJoin r d) = (fun d : Dev => (d.clk, d.whl, d.fab, d.lnk, d.cl, d.ten, d.grants, d.dma, d.bsu, d.tmr, d.boot, d.power, d.board, d.flash, d.mail, d.fuse)) d := by
    unfold opSpanJoin ; refine runCmd_keeps (fun d : Dev => (d.clk, d.whl, d.fab, d.lnk, d.cl, d.ten, d.grants, d.dma, d.bsu, d.tmr, d.boot, d.power, d.board, d.flash, d.mail, d.fuse)) _ _ _ _ (fun c a => ?_) (fun _ _ => rfl) <;> (try dsimp only) <;> (repeat' split) <;> simp
  simpa using h
@[simp] theorem opSpanLeave_frame (r : Nat) (d : Dev) :
    (opSpanLeave r d).clk = d.clk ∧ (opSpanLeave r d).whl = d.whl ∧ (opSpanLeave r d).span = d.span ∧ (opSpanLeave r d).fab = d.fab ∧ (opSpanLeave r d).lnk = d.lnk ∧ (opSpanLeave r d).cl = d.cl ∧ (opSpanLeave r d).ten = d.ten ∧ (opSpanLeave r d).grants = d.grants ∧ (opSpanLeave r d).dma = d.dma ∧ (opSpanLeave r d).bsu = d.bsu ∧ (opSpanLeave r d).tmr = d.tmr ∧ (opSpanLeave r d).boot = d.boot ∧ (opSpanLeave r d).power = d.power ∧ (opSpanLeave r d).board = d.board ∧ (opSpanLeave r d).flash = d.flash ∧ (opSpanLeave r d).mail = d.mail ∧ (opSpanLeave r d).fuse = d.fuse := by
  have h : (fun d : Dev => (d.clk, d.whl, d.span, d.fab, d.lnk, d.cl, d.ten, d.grants, d.dma, d.bsu, d.tmr, d.boot, d.power, d.board, d.flash, d.mail, d.fuse)) (opSpanLeave r d) = (fun d : Dev => (d.clk, d.whl, d.span, d.fab, d.lnk, d.cl, d.ten, d.grants, d.dma, d.bsu, d.tmr, d.boot, d.power, d.board, d.flash, d.mail, d.fuse)) d := by
    unfold opSpanLeave ; refine runCmd_keeps (fun d : Dev => (d.clk, d.whl, d.span, d.fab, d.lnk, d.cl, d.ten, d.grants, d.dma, d.bsu, d.tmr, d.boot, d.power, d.board, d.flash, d.mail, d.fuse)) _ _ _ _ (fun c a => ?_) (fun _ _ => rfl) <;> (try dsimp only) <;> (repeat' split) <;> simp
  simpa using h

/-! ## Machine/Parts.lean -/

@[simp] theorem opPartitionStage_frame (r : Nat) (d : Dev) :
    (opPartitionStage r d).clk = d.clk ∧ (opPartitionStage r d).whl = d.whl ∧ (opPartitionStage r d).span = d.span ∧ (opPartitionStage r d).fab = d.fab ∧ (opPartitionStage r d).lnk = d.lnk ∧ (opPartitionStage r d).cl = d.cl ∧ (opPartitionStage r d).ten = d.ten ∧ (opPartitionStage r d).dma = d.dma ∧ (opPartitionStage r d).bsu = d.bsu ∧ (opPartitionStage r d).tmr = d.tmr ∧ (opPartitionStage r d).boot = d.boot ∧ (opPartitionStage r d).power = d.power ∧ (opPartitionStage r d).board = d.board ∧ (opPartitionStage r d).flash = d.flash ∧ (opPartitionStage r d).mail = d.mail ∧ (opPartitionStage r d).fuse = d.fuse := by unfold opPartitionStage; (try dsimp only); (repeat' split) <;> simp [apply_ite Dev.clk, apply_ite Dev.whl, apply_ite Dev.span, apply_ite Dev.fab, apply_ite Dev.lnk, apply_ite Dev.cl, apply_ite Dev.ten, apply_ite Dev.dma, apply_ite Dev.bsu, apply_ite Dev.tmr, apply_ite Dev.boot, apply_ite Dev.power, apply_ite Dev.board, apply_ite Dev.flash, apply_ite Dev.mail, apply_ite Dev.fuse]
@[simp] theorem opPartitionCommit_frame (r : Nat) (d : Dev) :
    (opPartitionCommit r d).clk = d.clk ∧ (opPartitionCommit r d).whl = d.whl ∧ (opPartitionCommit r d).span = d.span ∧ (opPartitionCommit r d).fab = d.fab ∧ (opPartitionCommit r d).lnk = d.lnk ∧ (opPartitionCommit r d).cl = d.cl ∧ (opPartitionCommit r d).ten = d.ten ∧ (opPartitionCommit r d).grants = d.grants ∧ (opPartitionCommit r d).dma = d.dma ∧ (opPartitionCommit r d).bsu = d.bsu ∧ (opPartitionCommit r d).tmr = d.tmr ∧ (opPartitionCommit r d).boot = d.boot ∧ (opPartitionCommit r d).power = d.power ∧ (opPartitionCommit r d).board = d.board ∧ (opPartitionCommit r d).flash = d.flash ∧ (opPartitionCommit r d).mail = d.mail ∧ (opPartitionCommit r d).fuse = d.fuse := by unfold opPartitionCommit; (try dsimp only); (repeat' split) <;> simp [apply_ite Dev.clk, apply_ite Dev.whl, apply_ite Dev.span, apply_ite Dev.fab, apply_ite Dev.lnk, apply_ite Dev.cl, apply_ite Dev.ten, apply_ite Dev.grants, apply_ite Dev.dma, apply_ite Dev.bsu, apply_ite Dev.tmr, apply_ite Dev.boot, apply_ite Dev.power, apply_ite Dev.board, apply_ite Dev.flash, apply_ite Dev.mail, apply_ite Dev.fuse]
@[simp] theorem commitStaged_frame (c : Cmd) (d : Dev) :
    (commitStaged c d).clk = d.clk ∧ (commitStaged c d).whl = d.whl ∧ (commitStaged c d).span = d.span ∧ (commitStaged c d).lnk = d.lnk ∧ (commitStaged c d).boot = d.boot ∧ (commitStaged c d).power = d.power ∧ (commitStaged c d).board = d.board ∧ (commitStaged c d).flash = d.flash ∧ (commitStaged c d).mail = d.mail ∧ (commitStaged c d).fuse = d.fuse := by unfold commitStaged; (repeat' split) <;> simp
@[simp] theorem opGrantChangeEffect_frame (d : Dev) :
    (opGrantChangeEffect d).clk = d.clk ∧ (opGrantChangeEffect d).whl = d.whl ∧ (opGrantChangeEffect d).span = d.span ∧ (opGrantChangeEffect d).lnk = d.lnk ∧ (opGrantChangeEffect d).boot = d.boot ∧ (opGrantChangeEffect d).power = d.power ∧ (opGrantChangeEffect d).board = d.board ∧ (opGrantChangeEffect d).flash = d.flash ∧ (opGrantChangeEffect d).mail = d.mail ∧ (opGrantChangeEffect d).fuse = d.fuse := by unfold opGrantChangeEffect; (repeat' split) <;> simp
@[simp] theorem opPartitionRead_frame (r : Nat) (d : Dev) :
    (opPartitionRead r d).clk = d.clk ∧ (opPartitionRead r d).whl = d.whl ∧ (opPartitionRead r d).span = d.span ∧ (opPartitionRead r d).fab = d.fab ∧ (opPartitionRead r d).lnk = d.lnk ∧ (opPartitionRead r d).cl = d.cl ∧ (opPartitionRead r d).ten = d.ten ∧ (opPartitionRead r d).grants = d.grants ∧ (opPartitionRead r d).dma = d.dma ∧ (opPartitionRead r d).bsu = d.bsu ∧ (opPartitionRead r d).tmr = d.tmr ∧ (opPartitionRead r d).boot = d.boot ∧ (opPartitionRead r d).power = d.power ∧ (opPartitionRead r d).board = d.board ∧ (opPartitionRead r d).flash = d.flash ∧ (opPartitionRead r d).mail = d.mail ∧ (opPartitionRead r d).fuse = d.fuse := by
  have h : (fun d : Dev => (d.clk, d.whl, d.span, d.fab, d.lnk, d.cl, d.ten, d.grants, d.dma, d.bsu, d.tmr, d.boot, d.power, d.board, d.flash, d.mail, d.fuse)) (opPartitionRead r d) = (fun d : Dev => (d.clk, d.whl, d.span, d.fab, d.lnk, d.cl, d.ten, d.grants, d.dma, d.bsu, d.tmr, d.boot, d.power, d.board, d.flash, d.mail, d.fuse)) d := by
    unfold opPartitionRead ; refine runCmd_keeps (fun d : Dev => (d.clk, d.whl, d.span, d.fab, d.lnk, d.cl, d.ten, d.grants, d.dma, d.bsu, d.tmr, d.boot, d.power, d.board, d.flash, d.mail, d.fuse)) _ _ _ _ (fun c a => ?_) (fun _ _ => rfl) <;> (try dsimp only) <;> (repeat' split) <;> simp
  simpa using h
@[simp] theorem partIgnore_frame (d : Dev) :
    (partIgnore d).clk = d.clk ∧ (partIgnore d).whl = d.whl ∧ (partIgnore d).span = d.span ∧ (partIgnore d).fab = d.fab ∧ (partIgnore d).lnk = d.lnk ∧ (partIgnore d).cl = d.cl ∧ (partIgnore d).ten = d.ten ∧ (partIgnore d).host = d.host ∧ (partIgnore d).dma = d.dma ∧ (partIgnore d).bsu = d.bsu ∧ (partIgnore d).tmr = d.tmr ∧ (partIgnore d).boot = d.boot ∧ (partIgnore d).power = d.power ∧ (partIgnore d).board = d.board ∧ (partIgnore d).flash = d.flash ∧ (partIgnore d).mail = d.mail ∧ (partIgnore d).fuse = d.fuse := by simp [partIgnore]
@[simp] theorem opPartCountHi_frame (fn : Nat) (v : BitVec 32) (d : Dev) :
    (opPartCountHi fn v d).clk = d.clk ∧ (opPartCountHi fn v d).whl = d.whl ∧ (opPartCountHi fn v d).span = d.span ∧ (opPartCountHi fn v d).fab = d.fab ∧ (opPartCountHi fn v d).lnk = d.lnk ∧ (opPartCountHi fn v d).cl = d.cl ∧ (opPartCountHi fn v d).ten = d.ten ∧ (opPartCountHi fn v d).host = d.host ∧ (opPartCountHi fn v d).dma = d.dma ∧ (opPartCountHi fn v d).bsu = d.bsu ∧ (opPartCountHi fn v d).tmr = d.tmr ∧ (opPartCountHi fn v d).boot = d.boot ∧ (opPartCountHi fn v d).power = d.power ∧ (opPartCountHi fn v d).board = d.board ∧ (opPartCountHi fn v d).flash = d.flash ∧ (opPartCountHi fn v d).mail = d.mail ∧ (opPartCountHi fn v d).fuse = d.fuse := by unfold opPartCountHi; (repeat' split) <;> simp
@[simp] theorem opPartCheckDone_frame (d : Dev) :
    (opPartCheckDone d).clk = d.clk ∧ (opPartCheckDone d).whl = d.whl ∧ (opPartCheckDone d).span = d.span ∧ (opPartCheckDone d).fab = d.fab ∧ (opPartCheckDone d).lnk = d.lnk ∧ (opPartCheckDone d).cl = d.cl ∧ (opPartCheckDone d).ten = d.ten ∧ (opPartCheckDone d).host = d.host ∧ (opPartCheckDone d).dma = d.dma ∧ (opPartCheckDone d).bsu = d.bsu ∧ (opPartCheckDone d).tmr = d.tmr ∧ (opPartCheckDone d).boot = d.boot ∧ (opPartCheckDone d).power = d.power ∧ (opPartCheckDone d).board = d.board ∧ (opPartCheckDone d).flash = d.flash ∧ (opPartCheckDone d).mail = d.mail ∧ (opPartCheckDone d).fuse = d.fuse := by unfold opPartCheckDone; (repeat' split) <;> simp
@[simp] theorem opPartSync_frame (fn : Nat) (d : Dev) :
    (opPartSync fn d).clk = d.clk ∧ (opPartSync fn d).whl = d.whl ∧ (opPartSync fn d).span = d.span ∧ (opPartSync fn d).fab = d.fab ∧ (opPartSync fn d).lnk = d.lnk ∧ (opPartSync fn d).cl = d.cl ∧ (opPartSync fn d).ten = d.ten ∧ (opPartSync fn d).host = d.host ∧ (opPartSync fn d).dma = d.dma ∧ (opPartSync fn d).bsu = d.bsu ∧ (opPartSync fn d).tmr = d.tmr ∧ (opPartSync fn d).boot = d.boot ∧ (opPartSync fn d).power = d.power ∧ (opPartSync fn d).board = d.board ∧ (opPartSync fn d).flash = d.flash ∧ (opPartSync fn d).mail = d.mail ∧ (opPartSync fn d).fuse = d.fuse := by unfold opPartSync; (repeat' split) <;> simp
@[simp] theorem opPartCancel_frame (fn : Nat) (d : Dev) :
    (opPartCancel fn d).clk = d.clk ∧ (opPartCancel fn d).whl = d.whl ∧ (opPartCancel fn d).span = d.span ∧ (opPartCancel fn d).fab = d.fab ∧ (opPartCancel fn d).lnk = d.lnk ∧ (opPartCancel fn d).cl = d.cl ∧ (opPartCancel fn d).ten = d.ten ∧ (opPartCancel fn d).host = d.host ∧ (opPartCancel fn d).dma = d.dma ∧ (opPartCancel fn d).bsu = d.bsu ∧ (opPartCancel fn d).tmr = d.tmr ∧ (opPartCancel fn d).boot = d.boot ∧ (opPartCancel fn d).power = d.power ∧ (opPartCancel fn d).board = d.board ∧ (opPartCancel fn d).flash = d.flash ∧ (opPartCancel fn d).mail = d.mail ∧ (opPartCancel fn d).fuse = d.fuse := by unfold opPartCancel; (repeat' split) <;> simp
@[simp] theorem opDirectCommitEffect_frame (d : Dev) :
    (opDirectCommitEffect d).clk = d.clk ∧ (opDirectCommitEffect d).whl = d.whl ∧ (opDirectCommitEffect d).span = d.span ∧ (opDirectCommitEffect d).lnk = d.lnk ∧ (opDirectCommitEffect d).boot = d.boot ∧ (opDirectCommitEffect d).power = d.power ∧ (opDirectCommitEffect d).board = d.board ∧ (opDirectCommitEffect d).flash = d.flash ∧ (opDirectCommitEffect d).mail = d.mail ∧ (opDirectCommitEffect d).fuse = d.fuse := by unfold opDirectCommitEffect; dsimp only; (repeat' split) <;> simp
@[simp] theorem dropStaging_frame (d : Dev) :
    (dropStaging d).clk = d.clk ∧ (dropStaging d).whl = d.whl ∧ (dropStaging d).span = d.span ∧ (dropStaging d).fab = d.fab ∧ (dropStaging d).lnk = d.lnk ∧ (dropStaging d).cl = d.cl ∧ (dropStaging d).ten = d.ten ∧ (dropStaging d).dma = d.dma ∧ (dropStaging d).bsu = d.bsu ∧ (dropStaging d).tmr = d.tmr ∧ (dropStaging d).boot = d.boot ∧ (dropStaging d).power = d.power ∧ (dropStaging d).board = d.board ∧ (dropStaging d).flash = d.flash ∧ (dropStaging d).mail = d.mail ∧ (dropStaging d).fuse = d.fuse := by simp [dropStaging]
@[simp] theorem opLeaseExpiry_frame (k : Nat) (d : Dev) :
    (opLeaseExpiry k d).clk = d.clk ∧ (opLeaseExpiry k d).whl = d.whl ∧ (opLeaseExpiry k d).span = d.span ∧ (opLeaseExpiry k d).fab = d.fab ∧ (opLeaseExpiry k d).lnk = d.lnk ∧ (opLeaseExpiry k d).cl = d.cl ∧ (opLeaseExpiry k d).dma = d.dma ∧ (opLeaseExpiry k d).tmr = d.tmr ∧ (opLeaseExpiry k d).boot = d.boot ∧ (opLeaseExpiry k d).power = d.power ∧ (opLeaseExpiry k d).board = d.board ∧ (opLeaseExpiry k d).flash = d.flash ∧ (opLeaseExpiry k d).mail = d.mail ∧ (opLeaseExpiry k d).fuse = d.fuse := by unfold opLeaseExpiry; dsimp only; (repeat' split) <;> simp
@[simp] theorem opLeaseRevoke_frame (r : Nat) (d : Dev) :
    (opLeaseRevoke r d).clk = d.clk ∧ (opLeaseRevoke r d).whl = d.whl ∧ (opLeaseRevoke r d).span = d.span ∧ (opLeaseRevoke r d).fab = d.fab ∧ (opLeaseRevoke r d).lnk = d.lnk ∧ (opLeaseRevoke r d).cl = d.cl ∧ (opLeaseRevoke r d).ten = d.ten ∧ (opLeaseRevoke r d).grants = d.grants ∧ (opLeaseRevoke r d).dma = d.dma ∧ (opLeaseRevoke r d).bsu = d.bsu ∧ (opLeaseRevoke r d).tmr = d.tmr ∧ (opLeaseRevoke r d).boot = d.boot ∧ (opLeaseRevoke r d).power = d.power ∧ (opLeaseRevoke r d).board = d.board ∧ (opLeaseRevoke r d).flash = d.flash ∧ (opLeaseRevoke r d).mail = d.mail ∧ (opLeaseRevoke r d).fuse = d.fuse := by unfold opLeaseRevoke; (try dsimp only); (repeat' split) <;> simp [apply_ite Dev.clk, apply_ite Dev.whl, apply_ite Dev.span, apply_ite Dev.fab, apply_ite Dev.lnk, apply_ite Dev.cl, apply_ite Dev.ten, apply_ite Dev.grants, apply_ite Dev.dma, apply_ite Dev.bsu, apply_ite Dev.tmr, apply_ite Dev.boot, apply_ite Dev.power, apply_ite Dev.board, apply_ite Dev.flash, apply_ite Dev.mail, apply_ite Dev.fuse]
@[simp] theorem revokeLease_frame (c : Cmd) (d : Dev) :
    (revokeLease c d).clk = d.clk ∧ (revokeLease c d).whl = d.whl ∧ (revokeLease c d).span = d.span ∧ (revokeLease c d).fab = d.fab ∧ (revokeLease c d).lnk = d.lnk ∧ (revokeLease c d).cl = d.cl ∧ (revokeLease c d).dma = d.dma ∧ (revokeLease c d).tmr = d.tmr ∧ (revokeLease c d).boot = d.boot ∧ (revokeLease c d).power = d.power ∧ (revokeLease c d).board = d.board ∧ (revokeLease c d).flash = d.flash ∧ (revokeLease c d).mail = d.mail ∧ (revokeLease c d).fuse = d.fuse := by unfold revokeLease; (repeat' split) <;> simp
@[simp] theorem opLeaseRevokeEffect_frame (d : Dev) :
    (opLeaseRevokeEffect d).clk = d.clk ∧ (opLeaseRevokeEffect d).whl = d.whl ∧ (opLeaseRevokeEffect d).span = d.span ∧ (opLeaseRevokeEffect d).fab = d.fab ∧ (opLeaseRevokeEffect d).lnk = d.lnk ∧ (opLeaseRevokeEffect d).cl = d.cl ∧ (opLeaseRevokeEffect d).dma = d.dma ∧ (opLeaseRevokeEffect d).tmr = d.tmr ∧ (opLeaseRevokeEffect d).boot = d.boot ∧ (opLeaseRevokeEffect d).power = d.power ∧ (opLeaseRevokeEffect d).board = d.board ∧ (opLeaseRevokeEffect d).flash = d.flash ∧ (opLeaseRevokeEffect d).mail = d.mail ∧ (opLeaseRevokeEffect d).fuse = d.fuse := by simp [opLeaseRevokeEffect]

/-! ## Machine/Root.lean -/

@[simp] theorem opRingAssign_frame (r : Nat) (d : Dev) :
    (opRingAssign r d).clk = d.clk ∧ (opRingAssign r d).whl = d.whl ∧ (opRingAssign r d).span = d.span ∧ (opRingAssign r d).fab = d.fab ∧ (opRingAssign r d).lnk = d.lnk ∧ (opRingAssign r d).cl = d.cl ∧ (opRingAssign r d).ten = d.ten ∧ (opRingAssign r d).grants = d.grants ∧ (opRingAssign r d).dma = d.dma ∧ (opRingAssign r d).bsu = d.bsu ∧ (opRingAssign r d).tmr = d.tmr ∧ (opRingAssign r d).boot = d.boot ∧ (opRingAssign r d).power = d.power ∧ (opRingAssign r d).board = d.board ∧ (opRingAssign r d).flash = d.flash ∧ (opRingAssign r d).mail = d.mail ∧ (opRingAssign r d).fuse = d.fuse := by unfold opRingAssign; (try dsimp only); (repeat' split) <;> simp [apply_ite Dev.clk, apply_ite Dev.whl, apply_ite Dev.span, apply_ite Dev.fab, apply_ite Dev.lnk, apply_ite Dev.cl, apply_ite Dev.ten, apply_ite Dev.grants, apply_ite Dev.dma, apply_ite Dev.bsu, apply_ite Dev.tmr, apply_ite Dev.boot, apply_ite Dev.power, apply_ite Dev.board, apply_ite Dev.flash, apply_ite Dev.mail, apply_ite Dev.fuse]
@[simp] theorem opPowerCapSet_frame (r : Nat) (d : Dev) :
    (opPowerCapSet r d).clk = d.clk ∧ (opPowerCapSet r d).whl = d.whl ∧ (opPowerCapSet r d).span = d.span ∧ (opPowerCapSet r d).fab = d.fab ∧ (opPowerCapSet r d).lnk = d.lnk ∧ (opPowerCapSet r d).cl = d.cl ∧ (opPowerCapSet r d).ten = d.ten ∧ (opPowerCapSet r d).grants = d.grants ∧ (opPowerCapSet r d).dma = d.dma ∧ (opPowerCapSet r d).bsu = d.bsu ∧ (opPowerCapSet r d).tmr = d.tmr ∧ (opPowerCapSet r d).boot = d.boot ∧ (opPowerCapSet r d).board = d.board ∧ (opPowerCapSet r d).flash = d.flash ∧ (opPowerCapSet r d).mail = d.mail ∧ (opPowerCapSet r d).fuse = d.fuse := by unfold opPowerCapSet; (try dsimp only); (repeat' split) <;> simp [apply_ite Dev.clk, apply_ite Dev.whl, apply_ite Dev.span, apply_ite Dev.fab, apply_ite Dev.lnk, apply_ite Dev.cl, apply_ite Dev.ten, apply_ite Dev.grants, apply_ite Dev.dma, apply_ite Dev.bsu, apply_ite Dev.tmr, apply_ite Dev.boot, apply_ite Dev.board, apply_ite Dev.flash, apply_ite Dev.mail, apply_ite Dev.fuse]
@[simp] theorem opIslandPower_frame (r : Nat) (d : Dev) :
    (opIslandPower r d).clk = d.clk ∧ (opIslandPower r d).whl = d.whl ∧ (opIslandPower r d).span = d.span ∧ (opIslandPower r d).fab = d.fab ∧ (opIslandPower r d).lnk = d.lnk ∧ (opIslandPower r d).cl = d.cl ∧ (opIslandPower r d).ten = d.ten ∧ (opIslandPower r d).grants = d.grants ∧ (opIslandPower r d).dma = d.dma ∧ (opIslandPower r d).bsu = d.bsu ∧ (opIslandPower r d).tmr = d.tmr ∧ (opIslandPower r d).boot = d.boot ∧ (opIslandPower r d).power = d.power ∧ (opIslandPower r d).board = d.board ∧ (opIslandPower r d).flash = d.flash ∧ (opIslandPower r d).mail = d.mail ∧ (opIslandPower r d).fuse = d.fuse := by unfold opIslandPower; (try dsimp only); (repeat' split) <;> simp [apply_ite Dev.clk, apply_ite Dev.whl, apply_ite Dev.span, apply_ite Dev.fab, apply_ite Dev.lnk, apply_ite Dev.cl, apply_ite Dev.ten, apply_ite Dev.grants, apply_ite Dev.dma, apply_ite Dev.bsu, apply_ite Dev.tmr, apply_ite Dev.boot, apply_ite Dev.power, apply_ite Dev.board, apply_ite Dev.flash, apply_ite Dev.mail, apply_ite Dev.fuse]
@[simp] theorem darkenIsland_frame (i : Nat) (d : Dev) :
    (darkenIsland i d).clk = d.clk ∧ (darkenIsland i d).whl = d.whl ∧ (darkenIsland i d).span = d.span ∧ (darkenIsland i d).fab = d.fab ∧ (darkenIsland i d).lnk = d.lnk ∧ (darkenIsland i d).ten = d.ten ∧ (darkenIsland i d).grants = d.grants ∧ (darkenIsland i d).host = d.host ∧ (darkenIsland i d).dma = d.dma ∧ (darkenIsland i d).bsu = d.bsu ∧ (darkenIsland i d).tmr = d.tmr ∧ (darkenIsland i d).boot = d.boot ∧ (darkenIsland i d).power = d.power ∧ (darkenIsland i d).board = d.board ∧ (darkenIsland i d).flash = d.flash ∧ (darkenIsland i d).mail = d.mail ∧ (darkenIsland i d).fuse = d.fuse := by simp [darkenIsland]
@[simp] theorem gateIsland_frame (i : Nat) (d : Dev) :
    (gateIsland i d).whl = d.whl ∧ (gateIsland i d).span = d.span ∧ (gateIsland i d).fab = d.fab ∧ (gateIsland i d).lnk = d.lnk ∧ (gateIsland i d).cl = d.cl ∧ (gateIsland i d).ten = d.ten ∧ (gateIsland i d).grants = d.grants ∧ (gateIsland i d).host = d.host ∧ (gateIsland i d).dma = d.dma ∧ (gateIsland i d).bsu = d.bsu ∧ (gateIsland i d).tmr = d.tmr ∧ (gateIsland i d).boot = d.boot ∧ (gateIsland i d).power = d.power ∧ (gateIsland i d).board = d.board ∧ (gateIsland i d).flash = d.flash ∧ (gateIsland i d).mail = d.mail ∧ (gateIsland i d).fuse = d.fuse := by simp [gateIsland]
@[simp] theorem islandsOff_frame (c : Cmd) (d : Dev) :
    (islandsOff c d).whl = d.whl ∧ (islandsOff c d).span = d.span ∧ (islandsOff c d).lnk = d.lnk ∧ (islandsOff c d).grants = d.grants ∧ (islandsOff c d).tmr = d.tmr ∧ (islandsOff c d).boot = d.boot ∧ (islandsOff c d).power = d.power ∧ (islandsOff c d).board = d.board ∧ (islandsOff c d).flash = d.flash ∧ (islandsOff c d).mail = d.mail ∧ (islandsOff c d).fuse = d.fuse := by unfold islandsOff; dsimp only; (repeat' split) <;> simp
@[simp] theorem opIslandPowerOffEffect_frame (d : Dev) :
    (opIslandPowerOffEffect d).whl = d.whl ∧ (opIslandPowerOffEffect d).span = d.span ∧ (opIslandPowerOffEffect d).lnk = d.lnk ∧ (opIslandPowerOffEffect d).grants = d.grants ∧ (opIslandPowerOffEffect d).tmr = d.tmr ∧ (opIslandPowerOffEffect d).boot = d.boot ∧ (opIslandPowerOffEffect d).power = d.power ∧ (opIslandPowerOffEffect d).board = d.board ∧ (opIslandPowerOffEffect d).flash = d.flash ∧ (opIslandPowerOffEffect d).mail = d.mail ∧ (opIslandPowerOffEffect d).fuse = d.fuse := by simp [opIslandPowerOffEffect]
@[simp] theorem lightIsland_frame (i : Nat) (d : Dev) :
    (lightIsland i d).whl = d.whl ∧ (lightIsland i d).span = d.span ∧ (lightIsland i d).fab = d.fab ∧ (lightIsland i d).lnk = d.lnk ∧ (lightIsland i d).ten = d.ten ∧ (lightIsland i d).grants = d.grants ∧ (lightIsland i d).host = d.host ∧ (lightIsland i d).dma = d.dma ∧ (lightIsland i d).bsu = d.bsu ∧ (lightIsland i d).tmr = d.tmr ∧ (lightIsland i d).boot = d.boot ∧ (lightIsland i d).power = d.power ∧ (lightIsland i d).board = d.board ∧ (lightIsland i d).flash = d.flash ∧ (lightIsland i d).mail = d.mail ∧ (lightIsland i d).fuse = d.fuse := by unfold lightIsland; (repeat' split) <;> simp
@[simp] theorem opIslandPowerOnEffect_frame (d : Dev) :
    (opIslandPowerOnEffect d).whl = d.whl ∧ (opIslandPowerOnEffect d).span = d.span ∧ (opIslandPowerOnEffect d).fab = d.fab ∧ (opIslandPowerOnEffect d).lnk = d.lnk ∧ (opIslandPowerOnEffect d).ten = d.ten ∧ (opIslandPowerOnEffect d).grants = d.grants ∧ (opIslandPowerOnEffect d).dma = d.dma ∧ (opIslandPowerOnEffect d).bsu = d.bsu ∧ (opIslandPowerOnEffect d).tmr = d.tmr ∧ (opIslandPowerOnEffect d).boot = d.boot ∧ (opIslandPowerOnEffect d).power = d.power ∧ (opIslandPowerOnEffect d).board = d.board ∧ (opIslandPowerOnEffect d).flash = d.flash ∧ (opIslandPowerOnEffect d).mail = d.mail ∧ (opIslandPowerOnEffect d).fuse = d.fuse := by simp [opIslandPowerOnEffect]
@[simp] theorem opIslandPowerOnDone_frame (d : Dev) :
    (opIslandPowerOnDone d).clk = d.clk ∧ (opIslandPowerOnDone d).whl = d.whl ∧ (opIslandPowerOnDone d).span = d.span ∧ (opIslandPowerOnDone d).fab = d.fab ∧ (opIslandPowerOnDone d).lnk = d.lnk ∧ (opIslandPowerOnDone d).cl = d.cl ∧ (opIslandPowerOnDone d).ten = d.ten ∧ (opIslandPowerOnDone d).grants = d.grants ∧ (opIslandPowerOnDone d).dma = d.dma ∧ (opIslandPowerOnDone d).bsu = d.bsu ∧ (opIslandPowerOnDone d).tmr = d.tmr ∧ (opIslandPowerOnDone d).boot = d.boot ∧ (opIslandPowerOnDone d).power = d.power ∧ (opIslandPowerOnDone d).board = d.board ∧ (opIslandPowerOnDone d).flash = d.flash ∧ (opIslandPowerOnDone d).mail = d.mail ∧ (opIslandPowerOnDone d).fuse = d.fuse := by simp [opIslandPowerOnDone]
@[simp] theorem persistFirmware_frame (f : Firmware) (d : Dev) :
    (persistFirmware f d).clk = d.clk ∧ (persistFirmware f d).whl = d.whl ∧ (persistFirmware f d).span = d.span ∧ (persistFirmware f d).fab = d.fab ∧ (persistFirmware f d).lnk = d.lnk ∧ (persistFirmware f d).cl = d.cl ∧ (persistFirmware f d).ten = d.ten ∧ (persistFirmware f d).grants = d.grants ∧ (persistFirmware f d).host = d.host ∧ (persistFirmware f d).dma = d.dma ∧ (persistFirmware f d).bsu = d.bsu ∧ (persistFirmware f d).tmr = d.tmr ∧ (persistFirmware f d).boot = d.boot ∧ (persistFirmware f d).power = d.power ∧ (persistFirmware f d).board = d.board ∧ (persistFirmware f d).mail = d.mail ∧ (persistFirmware f d).fuse = d.fuse := by unfold persistFirmware; dsimp only; (repeat' split) <;> simp
@[simp] theorem opFirmwareStage_frame (r : Nat) (d : Dev) :
    (opFirmwareStage r d).clk = d.clk ∧ (opFirmwareStage r d).whl = d.whl ∧ (opFirmwareStage r d).span = d.span ∧ (opFirmwareStage r d).fab = d.fab ∧ (opFirmwareStage r d).lnk = d.lnk ∧ (opFirmwareStage r d).cl = d.cl ∧ (opFirmwareStage r d).ten = d.ten ∧ (opFirmwareStage r d).grants = d.grants ∧ (opFirmwareStage r d).dma = d.dma ∧ (opFirmwareStage r d).bsu = d.bsu ∧ (opFirmwareStage r d).tmr = d.tmr ∧ (opFirmwareStage r d).power = d.power ∧ (opFirmwareStage r d).board = d.board ∧ (opFirmwareStage r d).mail = d.mail ∧ (opFirmwareStage r d).fuse = d.fuse := by unfold opFirmwareStage; (try dsimp only); (repeat' split) <;> simp [apply_ite Dev.clk, apply_ite Dev.whl, apply_ite Dev.span, apply_ite Dev.fab, apply_ite Dev.lnk, apply_ite Dev.cl, apply_ite Dev.ten, apply_ite Dev.grants, apply_ite Dev.dma, apply_ite Dev.bsu, apply_ite Dev.tmr, apply_ite Dev.power, apply_ite Dev.board, apply_ite Dev.mail, apply_ite Dev.fuse]
@[simp] theorem holdWatchdogs_frame (h : Bool) (d : Dev) :
    (holdWatchdogs h d).clk = d.clk ∧ (holdWatchdogs h d).whl = d.whl ∧ (holdWatchdogs h d).span = d.span ∧ (holdWatchdogs h d).fab = d.fab ∧ (holdWatchdogs h d).lnk = d.lnk ∧ (holdWatchdogs h d).cl = d.cl ∧ (holdWatchdogs h d).ten = d.ten ∧ (holdWatchdogs h d).grants = d.grants ∧ (holdWatchdogs h d).dma = d.dma ∧ (holdWatchdogs h d).bsu = d.bsu ∧ (holdWatchdogs h d).tmr = d.tmr ∧ (holdWatchdogs h d).boot = d.boot ∧ (holdWatchdogs h d).power = d.power ∧ (holdWatchdogs h d).board = d.board ∧ (holdWatchdogs h d).flash = d.flash ∧ (holdWatchdogs h d).mail = d.mail ∧ (holdWatchdogs h d).fuse = d.fuse := by simp [holdWatchdogs]
@[simp] theorem opFirmwareActivate_frame (r : Nat) (d : Dev) :
    (opFirmwareActivate r d).clk = d.clk ∧ (opFirmwareActivate r d).whl = d.whl ∧ (opFirmwareActivate r d).span = d.span ∧ (opFirmwareActivate r d).fab = d.fab ∧ (opFirmwareActivate r d).lnk = d.lnk ∧ (opFirmwareActivate r d).cl = d.cl ∧ (opFirmwareActivate r d).ten = d.ten ∧ (opFirmwareActivate r d).grants = d.grants ∧ (opFirmwareActivate r d).dma = d.dma ∧ (opFirmwareActivate r d).bsu = d.bsu ∧ (opFirmwareActivate r d).tmr = d.tmr ∧ (opFirmwareActivate r d).power = d.power ∧ (opFirmwareActivate r d).board = d.board ∧ (opFirmwareActivate r d).flash = d.flash ∧ (opFirmwareActivate r d).mail = d.mail ∧ (opFirmwareActivate r d).fuse = d.fuse := by
  have h : (fun d : Dev => (d.clk, d.whl, d.span, d.fab, d.lnk, d.cl, d.ten, d.grants, d.dma, d.bsu, d.tmr, d.power, d.board, d.flash, d.mail, d.fuse)) (opFirmwareActivate r d) = (fun d : Dev => (d.clk, d.whl, d.span, d.fab, d.lnk, d.cl, d.ten, d.grants, d.dma, d.bsu, d.tmr, d.power, d.board, d.flash, d.mail, d.fuse)) d := by
    unfold opFirmwareActivate ; split
    · split <;> simp
    · refine runCmd_keeps (fun d : Dev => (d.clk, d.whl, d.span, d.fab, d.lnk, d.cl, d.ten, d.grants, d.dma, d.bsu, d.tmr, d.power, d.board, d.flash, d.mail, d.fuse)) _ _ _ _ (fun c a => ?_) (fun _ _ => rfl) <;> (try dsimp only) <;> (repeat' split) <;> simp
  simpa using h
@[simp] theorem forceLost_frame (l : Nat) (d : Dev) :
    (forceLost l d).clk = d.clk ∧ (forceLost l d).whl = d.whl ∧ (forceLost l d).fab = d.fab ∧ (forceLost l d).cl = d.cl ∧ (forceLost l d).ten = d.ten ∧ (forceLost l d).grants = d.grants ∧ (forceLost l d).dma = d.dma ∧ (forceLost l d).bsu = d.bsu ∧ (forceLost l d).tmr = d.tmr ∧ (forceLost l d).boot = d.boot ∧ (forceLost l d).power = d.power ∧ (forceLost l d).board = d.board ∧ (forceLost l d).flash = d.flash ∧ (forceLost l d).mail = d.mail ∧ (forceLost l d).fuse = d.fuse := by unfold forceLost; (repeat' split) <;> simp
@[simp] theorem linkAction_frame (l act w : Nat) (d : Dev) :
    (linkAction l act w d).clk = d.clk ∧ (linkAction l act w d).whl = d.whl ∧ (linkAction l act w d).span = d.span ∧ (linkAction l act w d).fab = d.fab ∧ (linkAction l act w d).cl = d.cl ∧ (linkAction l act w d).ten = d.ten ∧ (linkAction l act w d).grants = d.grants ∧ (linkAction l act w d).dma = d.dma ∧ (linkAction l act w d).bsu = d.bsu ∧ (linkAction l act w d).tmr = d.tmr ∧ (linkAction l act w d).boot = d.boot ∧ (linkAction l act w d).power = d.power ∧ (linkAction l act w d).board = d.board ∧ (linkAction l act w d).flash = d.flash ∧ (linkAction l act w d).mail = d.mail ∧ (linkAction l act w d).fuse = d.fuse := by unfold linkAction; dsimp only; (repeat' split) <;> simp
@[simp] theorem linkForced_frame (l act w : Nat) (d : Dev) :
    (linkForced l act w d).clk = d.clk ∧ (linkForced l act w d).whl = d.whl ∧ (linkForced l act w d).fab = d.fab ∧ (linkForced l act w d).cl = d.cl ∧ (linkForced l act w d).ten = d.ten ∧ (linkForced l act w d).grants = d.grants ∧ (linkForced l act w d).dma = d.dma ∧ (linkForced l act w d).bsu = d.bsu ∧ (linkForced l act w d).tmr = d.tmr ∧ (linkForced l act w d).boot = d.boot ∧ (linkForced l act w d).power = d.power ∧ (linkForced l act w d).board = d.board ∧ (linkForced l act w d).flash = d.flash ∧ (linkForced l act w d).mail = d.mail ∧ (linkForced l act w d).fuse = d.fuse := by unfold linkForced; (repeat' split) <;> simp
@[simp] theorem opLinkControl_frame (r : Nat) (d : Dev) :
    (opLinkControl r d).clk = d.clk ∧ (opLinkControl r d).whl = d.whl ∧ (opLinkControl r d).fab = d.fab ∧ (opLinkControl r d).cl = d.cl ∧ (opLinkControl r d).ten = d.ten ∧ (opLinkControl r d).grants = d.grants ∧ (opLinkControl r d).dma = d.dma ∧ (opLinkControl r d).bsu = d.bsu ∧ (opLinkControl r d).tmr = d.tmr ∧ (opLinkControl r d).boot = d.boot ∧ (opLinkControl r d).power = d.power ∧ (opLinkControl r d).board = d.board ∧ (opLinkControl r d).flash = d.flash ∧ (opLinkControl r d).mail = d.mail ∧ (opLinkControl r d).fuse = d.fuse := by unfold opLinkControl; (try dsimp only); (repeat' split) <;> simp [apply_ite Dev.clk, apply_ite Dev.whl, apply_ite Dev.fab, apply_ite Dev.cl, apply_ite Dev.ten, apply_ite Dev.grants, apply_ite Dev.dma, apply_ite Dev.bsu, apply_ite Dev.tmr, apply_ite Dev.boot, apply_ite Dev.power, apply_ite Dev.board, apply_ite Dev.flash, apply_ite Dev.mail, apply_ite Dev.fuse]
@[simp] theorem opTenancyReset_frame (r : Nat) (d : Dev) :
    (opTenancyReset r d).clk = d.clk ∧ (opTenancyReset r d).whl = d.whl ∧ (opTenancyReset r d).span = d.span ∧ (opTenancyReset r d).fab = d.fab ∧ (opTenancyReset r d).lnk = d.lnk ∧ (opTenancyReset r d).cl = d.cl ∧ (opTenancyReset r d).ten = d.ten ∧ (opTenancyReset r d).grants = d.grants ∧ (opTenancyReset r d).dma = d.dma ∧ (opTenancyReset r d).bsu = d.bsu ∧ (opTenancyReset r d).tmr = d.tmr ∧ (opTenancyReset r d).boot = d.boot ∧ (opTenancyReset r d).power = d.power ∧ (opTenancyReset r d).board = d.board ∧ (opTenancyReset r d).flash = d.flash ∧ (opTenancyReset r d).mail = d.mail ∧ (opTenancyReset r d).fuse = d.fuse := by unfold opTenancyReset; (try dsimp only); (repeat' split) <;> simp [apply_ite Dev.clk, apply_ite Dev.whl, apply_ite Dev.span, apply_ite Dev.fab, apply_ite Dev.lnk, apply_ite Dev.cl, apply_ite Dev.ten, apply_ite Dev.grants, apply_ite Dev.dma, apply_ite Dev.bsu, apply_ite Dev.tmr, apply_ite Dev.boot, apply_ite Dev.power, apply_ite Dev.board, apply_ite Dev.flash, apply_ite Dev.mail, apply_ite Dev.fuse]
@[simp] theorem stopForReset_frame (t gc : Nat) (d : Dev) :
    (stopForReset t gc d).clk = d.clk ∧ (stopForReset t gc d).whl = d.whl ∧ (stopForReset t gc d).span = d.span ∧ (stopForReset t gc d).lnk = d.lnk ∧ (stopForReset t gc d).grants = d.grants ∧ (stopForReset t gc d).tmr = d.tmr ∧ (stopForReset t gc d).boot = d.boot ∧ (stopForReset t gc d).power = d.power ∧ (stopForReset t gc d).board = d.board ∧ (stopForReset t gc d).flash = d.flash ∧ (stopForReset t gc d).mail = d.mail ∧ (stopForReset t gc d).fuse = d.fuse := by unfold stopForReset; (repeat' split) <;> simp
@[simp] theorem resetTenancy_frame (c : Cmd) (d : Dev) :
    (resetTenancy c d).clk = d.clk ∧ (resetTenancy c d).whl = d.whl ∧ (resetTenancy c d).span = d.span ∧ (resetTenancy c d).grants = d.grants ∧ (resetTenancy c d).boot = d.boot ∧ (resetTenancy c d).power = d.power ∧ (resetTenancy c d).board = d.board ∧ (resetTenancy c d).flash = d.flash ∧ (resetTenancy c d).mail = d.mail ∧ (resetTenancy c d).fuse = d.fuse := by unfold resetTenancy; dsimp only; (repeat' split) <;> simp
@[simp] theorem opTenancyResetEffect_frame (d : Dev) :
    (opTenancyResetEffect d).clk = d.clk ∧ (opTenancyResetEffect d).whl = d.whl ∧ (opTenancyResetEffect d).span = d.span ∧ (opTenancyResetEffect d).grants = d.grants ∧ (opTenancyResetEffect d).boot = d.boot ∧ (opTenancyResetEffect d).power = d.power ∧ (opTenancyResetEffect d).board = d.board ∧ (opTenancyResetEffect d).flash = d.flash ∧ (opTenancyResetEffect d).mail = d.mail ∧ (opTenancyResetEffect d).fuse = d.fuse := by simp [opTenancyResetEffect]

/-! ## Machine/Boot.lean -/

@[simp] theorem chipReset_frame (cause : Nat) (cut : Bool) (d : Dev) :
    (chipReset cause cut d).fuse = d.fuse := by simp [chipReset]
@[simp] theorem opChipReset_frame (cause : Nat) (cut : Bool) (d : Dev) :
    (opChipReset cause cut d).fuse = d.fuse := by simp [opChipReset]
@[simp] theorem opLinkDrivenReset_frame (k : Nat) (cut : Bool) (d : Dev) :
    (opLinkDrivenReset k cut d).fuse = d.fuse := by simp [opLinkDrivenReset]
@[simp] theorem opPowerLoss_frame (cut : Bool) (d : Dev) :
    (opPowerLoss cut d).fuse = d.fuse := by simp [opPowerLoss]
@[simp] theorem opResetRelease_frame (straps : BitVec 4) (d : Dev) :
    (opResetRelease straps d).whl = d.whl ∧ (opResetRelease straps d).span = d.span ∧ (opResetRelease straps d).fab = d.fab ∧ (opResetRelease straps d).lnk = d.lnk ∧ (opResetRelease straps d).cl = d.cl ∧ (opResetRelease straps d).ten = d.ten ∧ (opResetRelease straps d).grants = d.grants ∧ (opResetRelease straps d).host = d.host ∧ (opResetRelease straps d).dma = d.dma ∧ (opResetRelease straps d).bsu = d.bsu ∧ (opResetRelease straps d).tmr = d.tmr ∧ (opResetRelease straps d).power = d.power ∧ (opResetRelease straps d).flash = d.flash ∧ (opResetRelease straps d).mail = d.mail ∧ (opResetRelease straps d).fuse = d.fuse := by unfold opResetRelease; (repeat' split) <;> simp
@[simp] theorem pmbus_frame (target cmd : Nat) (data : List Byte) (d : Dev) :
    (pmbus target cmd data d).clk = d.clk ∧ (pmbus target cmd data d).whl = d.whl ∧ (pmbus target cmd data d).span = d.span ∧ (pmbus target cmd data d).fab = d.fab ∧ (pmbus target cmd data d).lnk = d.lnk ∧ (pmbus target cmd data d).cl = d.cl ∧ (pmbus target cmd data d).ten = d.ten ∧ (pmbus target cmd data d).grants = d.grants ∧ (pmbus target cmd data d).dma = d.dma ∧ (pmbus target cmd data d).bsu = d.bsu ∧ (pmbus target cmd data d).tmr = d.tmr ∧ (pmbus target cmd data d).boot = d.boot ∧ (pmbus target cmd data d).power = d.power ∧ (pmbus target cmd data d).board = d.board ∧ (pmbus target cmd data d).flash = d.flash ∧ (pmbus target cmd data d).mail = d.mail ∧ (pmbus target cmd data d).fuse = d.fuse := by simp [pmbus]
@[simp] theorem pmbusFail_frame (avs : Bool) (d : Dev) :
    (pmbusFail avs d).whl = d.whl ∧ (pmbusFail avs d).span = d.span ∧ (pmbusFail avs d).fab = d.fab ∧ (pmbusFail avs d).lnk = d.lnk ∧ (pmbusFail avs d).cl = d.cl ∧ (pmbusFail avs d).ten = d.ten ∧ (pmbusFail avs d).grants = d.grants ∧ (pmbusFail avs d).dma = d.dma ∧ (pmbusFail avs d).bsu = d.bsu ∧ (pmbusFail avs d).tmr = d.tmr ∧ (pmbusFail avs d).flash = d.flash ∧ (pmbusFail avs d).mail = d.mail ∧ (pmbusFail avs d).fuse = d.fuse := by simp [pmbusFail]
@[simp] theorem opBootEntry_frame (mode : Option Int) (d : Dev) :
    (opBootEntry mode d).whl = d.whl ∧ (opBootEntry mode d).span = d.span ∧ (opBootEntry mode d).fab = d.fab ∧ (opBootEntry mode d).lnk = d.lnk ∧ (opBootEntry mode d).cl = d.cl ∧ (opBootEntry mode d).ten = d.ten ∧ (opBootEntry mode d).grants = d.grants ∧ (opBootEntry mode d).dma = d.dma ∧ (opBootEntry mode d).bsu = d.bsu ∧ (opBootEntry mode d).tmr = d.tmr ∧ (opBootEntry mode d).flash = d.flash ∧ (opBootEntry mode d).mail = d.mail ∧ (opBootEntry mode d).fuse = d.fuse := by unfold opBootEntry; (repeat' split) <;> simp
@[simp] theorem mailMessage_frame (kind : Nat) (data : List Byte) (d : Dev) :
    (mailMessage kind data d).clk = d.clk ∧ (mailMessage kind data d).whl = d.whl ∧ (mailMessage kind data d).span = d.span ∧ (mailMessage kind data d).fab = d.fab ∧ (mailMessage kind data d).lnk = d.lnk ∧ (mailMessage kind data d).cl = d.cl ∧ (mailMessage kind data d).ten = d.ten ∧ (mailMessage kind data d).grants = d.grants ∧ (mailMessage kind data d).dma = d.dma ∧ (mailMessage kind data d).bsu = d.bsu ∧ (mailMessage kind data d).tmr = d.tmr ∧ (mailMessage kind data d).boot = d.boot ∧ (mailMessage kind data d).power = d.power ∧ (mailMessage kind data d).board = d.board ∧ (mailMessage kind data d).flash = d.flash ∧ (mailMessage kind data d).fuse = d.fuse := by simp [mailMessage]
@[simp] theorem bootStatus_frame (d : Dev) :
    (bootStatus d).clk = d.clk ∧ (bootStatus d).whl = d.whl ∧ (bootStatus d).span = d.span ∧ (bootStatus d).fab = d.fab ∧ (bootStatus d).lnk = d.lnk ∧ (bootStatus d).cl = d.cl ∧ (bootStatus d).ten = d.ten ∧ (bootStatus d).grants = d.grants ∧ (bootStatus d).dma = d.dma ∧ (bootStatus d).bsu = d.bsu ∧ (bootStatus d).tmr = d.tmr ∧ (bootStatus d).boot = d.boot ∧ (bootStatus d).power = d.power ∧ (bootStatus d).board = d.board ∧ (bootStatus d).flash = d.flash ∧ (bootStatus d).fuse = d.fuse := by simp [bootStatus]
@[simp] theorem bootFail_frame (code : Nat) (d : Dev) :
    (bootFail code d).clk = d.clk ∧ (bootFail code d).whl = d.whl ∧ (bootFail code d).span = d.span ∧ (bootFail code d).fab = d.fab ∧ (bootFail code d).lnk = d.lnk ∧ (bootFail code d).cl = d.cl ∧ (bootFail code d).ten = d.ten ∧ (bootFail code d).grants = d.grants ∧ (bootFail code d).dma = d.dma ∧ (bootFail code d).bsu = d.bsu ∧ (bootFail code d).tmr = d.tmr ∧ (bootFail code d).power = d.power ∧ (bootFail code d).board = d.board ∧ (bootFail code d).flash = d.flash ∧ (bootFail code d).fuse = d.fuse := by simp [bootFail]
@[simp] theorem bootFlash_frame (sfdp : Bool) (d : Dev) :
    (bootFlash sfdp d).clk = d.clk ∧ (bootFlash sfdp d).whl = d.whl ∧ (bootFlash sfdp d).span = d.span ∧ (bootFlash sfdp d).fab = d.fab ∧ (bootFlash sfdp d).lnk = d.lnk ∧ (bootFlash sfdp d).cl = d.cl ∧ (bootFlash sfdp d).ten = d.ten ∧ (bootFlash sfdp d).grants = d.grants ∧ (bootFlash sfdp d).dma = d.dma ∧ (bootFlash sfdp d).bsu = d.bsu ∧ (bootFlash sfdp d).tmr = d.tmr ∧ (bootFlash sfdp d).power = d.power ∧ (bootFlash sfdp d).board = d.board ∧ (bootFlash sfdp d).flash = d.flash ∧ (bootFlash sfdp d).fuse = d.fuse := by unfold bootFlash; (repeat' split) <;> simp
@[simp] theorem opFirmwareBootLoad_frame (sfdp : Bool) (d : Dev) :
    (opFirmwareBootLoad sfdp d).clk = d.clk ∧ (opFirmwareBootLoad sfdp d).whl = d.whl ∧ (opFirmwareBootLoad sfdp d).span = d.span ∧ (opFirmwareBootLoad sfdp d).fab = d.fab ∧ (opFirmwareBootLoad sfdp d).lnk = d.lnk ∧ (opFirmwareBootLoad sfdp d).cl = d.cl ∧ (opFirmwareBootLoad sfdp d).ten = d.ten ∧ (opFirmwareBootLoad sfdp d).grants = d.grants ∧ (opFirmwareBootLoad sfdp d).dma = d.dma ∧ (opFirmwareBootLoad sfdp d).bsu = d.bsu ∧ (opFirmwareBootLoad sfdp d).tmr = d.tmr ∧ (opFirmwareBootLoad sfdp d).power = d.power ∧ (opFirmwareBootLoad sfdp d).board = d.board ∧ (opFirmwareBootLoad sfdp d).flash = d.flash ∧ (opFirmwareBootLoad sfdp d).fuse = d.fuse := by unfold opFirmwareBootLoad; (repeat' split) <;> simp
@[simp] theorem opMbInGo_frame (fn : Nat) (v : BitVec 32) (d : Dev) :
    (opMbInGo fn v d).clk = d.clk ∧ (opMbInGo fn v d).whl = d.whl ∧ (opMbInGo fn v d).span = d.span ∧ (opMbInGo fn v d).fab = d.fab ∧ (opMbInGo fn v d).lnk = d.lnk ∧ (opMbInGo fn v d).cl = d.cl ∧ (opMbInGo fn v d).ten = d.ten ∧ (opMbInGo fn v d).grants = d.grants ∧ (opMbInGo fn v d).dma = d.dma ∧ (opMbInGo fn v d).bsu = d.bsu ∧ (opMbInGo fn v d).tmr = d.tmr ∧ (opMbInGo fn v d).boot = d.boot ∧ (opMbInGo fn v d).power = d.power ∧ (opMbInGo fn v d).board = d.board ∧ (opMbInGo fn v d).flash = d.flash ∧ (opMbInGo fn v d).mail = d.mail ∧ (opMbInGo fn v d).fuse = d.fuse := by unfold opMbInGo; (repeat' split) <;> simp
@[simp] theorem opMemoryInitDone_frame (d : Dev) :
    (opMemoryInitDone d).clk = d.clk ∧ (opMemoryInitDone d).whl = d.whl ∧ (opMemoryInitDone d).span = d.span ∧ (opMemoryInitDone d).fab = d.fab ∧ (opMemoryInitDone d).lnk = d.lnk ∧ (opMemoryInitDone d).cl = d.cl ∧ (opMemoryInitDone d).ten = d.ten ∧ (opMemoryInitDone d).grants = d.grants ∧ (opMemoryInitDone d).host = d.host ∧ (opMemoryInitDone d).dma = d.dma ∧ (opMemoryInitDone d).bsu = d.bsu ∧ (opMemoryInitDone d).tmr = d.tmr ∧ (opMemoryInitDone d).boot = d.boot ∧ (opMemoryInitDone d).power = d.power ∧ (opMemoryInitDone d).board = d.board ∧ (opMemoryInitDone d).flash = d.flash ∧ (opMemoryInitDone d).mail = d.mail ∧ (opMemoryInitDone d).fuse = d.fuse := by unfold opMemoryInitDone; (repeat' split) <;> simp
@[simp] theorem armSeal_frame (b : List Byte) (cmd : Option Nat) (d : Dev) :
    (armSeal b cmd d).clk = d.clk ∧ (armSeal b cmd d).whl = d.whl ∧ (armSeal b cmd d).span = d.span ∧ (armSeal b cmd d).fab = d.fab ∧ (armSeal b cmd d).lnk = d.lnk ∧ (armSeal b cmd d).cl = d.cl ∧ (armSeal b cmd d).ten = d.ten ∧ (armSeal b cmd d).grants = d.grants ∧ (armSeal b cmd d).host = d.host ∧ (armSeal b cmd d).dma = d.dma ∧ (armSeal b cmd d).bsu = d.bsu ∧ (armSeal b cmd d).tmr = d.tmr ∧ (armSeal b cmd d).power = d.power ∧ (armSeal b cmd d).board = d.board ∧ (armSeal b cmd d).flash = d.flash ∧ (armSeal b cmd d).mail = d.mail ∧ (armSeal b cmd d).fuse = d.fuse := by simp [armSeal]
@[simp] theorem opConfigSeal_frame (r : Nat) (d : Dev) :
    (opConfigSeal r d).clk = d.clk ∧ (opConfigSeal r d).whl = d.whl ∧ (opConfigSeal r d).span = d.span ∧ (opConfigSeal r d).fab = d.fab ∧ (opConfigSeal r d).lnk = d.lnk ∧ (opConfigSeal r d).cl = d.cl ∧ (opConfigSeal r d).ten = d.ten ∧ (opConfigSeal r d).grants = d.grants ∧ (opConfigSeal r d).dma = d.dma ∧ (opConfigSeal r d).bsu = d.bsu ∧ (opConfigSeal r d).tmr = d.tmr ∧ (opConfigSeal r d).power = d.power ∧ (opConfigSeal r d).board = d.board ∧ (opConfigSeal r d).flash = d.flash ∧ (opConfigSeal r d).fuse = d.fuse := by
  have h : (fun d : Dev => (d.clk, d.whl, d.span, d.fab, d.lnk, d.cl, d.ten, d.grants, d.dma, d.bsu, d.tmr, d.power, d.board, d.flash, d.fuse)) (opConfigSeal r d) = (fun d : Dev => (d.clk, d.whl, d.span, d.fab, d.lnk, d.cl, d.ten, d.grants, d.dma, d.bsu, d.tmr, d.power, d.board, d.flash, d.fuse)) d := by
    unfold opConfigSeal ; refine runCmd_keeps (fun d : Dev => (d.clk, d.whl, d.span, d.fab, d.lnk, d.cl, d.ten, d.grants, d.dma, d.bsu, d.tmr, d.power, d.board, d.flash, d.fuse)) _ _ _ _ (fun c a => ?_) (fun _ _ => rfl) <;> (try dsimp only) <;> (repeat' split) <;> simp
  simpa using h
@[simp] theorem autoSeal_frame (d : Dev) :
    (autoSeal d).clk = d.clk ∧ (autoSeal d).whl = d.whl ∧ (autoSeal d).span = d.span ∧ (autoSeal d).fab = d.fab ∧ (autoSeal d).lnk = d.lnk ∧ (autoSeal d).cl = d.cl ∧ (autoSeal d).ten = d.ten ∧ (autoSeal d).grants = d.grants ∧ (autoSeal d).dma = d.dma ∧ (autoSeal d).bsu = d.bsu ∧ (autoSeal d).tmr = d.tmr ∧ (autoSeal d).power = d.power ∧ (autoSeal d).board = d.board ∧ (autoSeal d).flash = d.flash ∧ (autoSeal d).fuse = d.fuse := by unfold autoSeal; (repeat' split) <;> simp
@[simp] theorem opHeldEntry_frame (d : Dev) :
    (opHeldEntry d).clk = d.clk ∧ (opHeldEntry d).whl = d.whl ∧ (opHeldEntry d).span = d.span ∧ (opHeldEntry d).fab = d.fab ∧ (opHeldEntry d).lnk = d.lnk ∧ (opHeldEntry d).cl = d.cl ∧ (opHeldEntry d).ten = d.ten ∧ (opHeldEntry d).grants = d.grants ∧ (opHeldEntry d).dma = d.dma ∧ (opHeldEntry d).bsu = d.bsu ∧ (opHeldEntry d).tmr = d.tmr ∧ (opHeldEntry d).power = d.power ∧ (opHeldEntry d).board = d.board ∧ (opHeldEntry d).flash = d.flash ∧ (opHeldEntry d).fuse = d.fuse := by unfold opHeldEntry; (repeat' split) <;> simp
@[simp] theorem sealLink_frame (b : List Byte) (d : Dev) (l : Nat) :
    (sealLink b d l).clk = d.clk ∧ (sealLink b d l).whl = d.whl ∧ (sealLink b d l).span = d.span ∧ (sealLink b d l).fab = d.fab ∧ (sealLink b d l).cl = d.cl ∧ (sealLink b d l).ten = d.ten ∧ (sealLink b d l).grants = d.grants ∧ (sealLink b d l).dma = d.dma ∧ (sealLink b d l).bsu = d.bsu ∧ (sealLink b d l).tmr = d.tmr ∧ (sealLink b d l).boot = d.boot ∧ (sealLink b d l).power = d.power ∧ (sealLink b d l).board = d.board ∧ (sealLink b d l).flash = d.flash ∧ (sealLink b d l).mail = d.mail ∧ (sealLink b d l).fuse = d.fuse := by unfold sealLink; dsimp only; (repeat' split) <;> simp
@[simp] theorem applySeal_frame (b : List Byte) (d : Dev) :
    (applySeal b d).span = d.span ∧ (applySeal b d).fab = d.fab ∧ (applySeal b d).cl = d.cl ∧ (applySeal b d).ten = d.ten ∧ (applySeal b d).grants = d.grants ∧ (applySeal b d).dma = d.dma ∧ (applySeal b d).bsu = d.bsu ∧ (applySeal b d).tmr = d.tmr ∧ (applySeal b d).flash = d.flash ∧ (applySeal b d).mail = d.mail ∧ (applySeal b d).fuse = d.fuse := by simp [applySeal]
@[simp] theorem opConfigSealEffect_frame (d : Dev) :
    (opConfigSealEffect d).span = d.span ∧ (opConfigSealEffect d).fab = d.fab ∧ (opConfigSealEffect d).cl = d.cl ∧ (opConfigSealEffect d).ten = d.ten ∧ (opConfigSealEffect d).grants = d.grants ∧ (opConfigSealEffect d).dma = d.dma ∧ (opConfigSealEffect d).bsu = d.bsu ∧ (opConfigSealEffect d).tmr = d.tmr ∧ (opConfigSealEffect d).mail = d.mail ∧ (opConfigSealEffect d).fuse = d.fuse := by unfold opConfigSealEffect; (repeat' split) <;> simp
@[simp] theorem opDrainReqSet_frame (fn : Nat) (d : Dev) :
    (opDrainReqSet fn d).clk = d.clk ∧ (opDrainReqSet fn d).whl = d.whl ∧ (opDrainReqSet fn d).span = d.span ∧ (opDrainReqSet fn d).fab = d.fab ∧ (opDrainReqSet fn d).lnk = d.lnk ∧ (opDrainReqSet fn d).cl = d.cl ∧ (opDrainReqSet fn d).ten = d.ten ∧ (opDrainReqSet fn d).grants = d.grants ∧ (opDrainReqSet fn d).host = d.host ∧ (opDrainReqSet fn d).dma = d.dma ∧ (opDrainReqSet fn d).bsu = d.bsu ∧ (opDrainReqSet fn d).tmr = d.tmr ∧ (opDrainReqSet fn d).power = d.power ∧ (opDrainReqSet fn d).board = d.board ∧ (opDrainReqSet fn d).flash = d.flash ∧ (opDrainReqSet fn d).mail = d.mail ∧ (opDrainReqSet fn d).fuse = d.fuse := by unfold opDrainReqSet; (repeat' split) <;> simp
@[simp] theorem opDrainReqClear_frame (fn : Nat) (d : Dev) :
    (opDrainReqClear fn d).clk = d.clk ∧ (opDrainReqClear fn d).whl = d.whl ∧ (opDrainReqClear fn d).span = d.span ∧ (opDrainReqClear fn d).fab = d.fab ∧ (opDrainReqClear fn d).lnk = d.lnk ∧ (opDrainReqClear fn d).cl = d.cl ∧ (opDrainReqClear fn d).ten = d.ten ∧ (opDrainReqClear fn d).grants = d.grants ∧ (opDrainReqClear fn d).host = d.host ∧ (opDrainReqClear fn d).dma = d.dma ∧ (opDrainReqClear fn d).bsu = d.bsu ∧ (opDrainReqClear fn d).tmr = d.tmr ∧ (opDrainReqClear fn d).power = d.power ∧ (opDrainReqClear fn d).board = d.board ∧ (opDrainReqClear fn d).flash = d.flash ∧ (opDrainReqClear fn d).mail = d.mail ∧ (opDrainReqClear fn d).fuse = d.fuse := by unfold opDrainReqClear; (repeat' split) <;> simp
@[simp] theorem haltDevice_frame (d : Dev) :
    (haltDevice d).whl = d.whl ∧ (haltDevice d).span = d.span ∧ (haltDevice d).fab = d.fab ∧ (haltDevice d).lnk = d.lnk ∧ (haltDevice d).cl = d.cl ∧ (haltDevice d).ten = d.ten ∧ (haltDevice d).grants = d.grants ∧ (haltDevice d).host = d.host ∧ (haltDevice d).dma = d.dma ∧ (haltDevice d).bsu = d.bsu ∧ (haltDevice d).tmr = d.tmr ∧ (haltDevice d).power = d.power ∧ (haltDevice d).board = d.board ∧ (haltDevice d).flash = d.flash ∧ (haltDevice d).mail = d.mail ∧ (haltDevice d).fuse = d.fuse := by simp [haltDevice]
@[simp] theorem opDrainToHalted_frame (d : Dev) :
    (opDrainToHalted d).whl = d.whl ∧ (opDrainToHalted d).span = d.span ∧ (opDrainToHalted d).fab = d.fab ∧ (opDrainToHalted d).lnk = d.lnk ∧ (opDrainToHalted d).cl = d.cl ∧ (opDrainToHalted d).ten = d.ten ∧ (opDrainToHalted d).grants = d.grants ∧ (opDrainToHalted d).host = d.host ∧ (opDrainToHalted d).dma = d.dma ∧ (opDrainToHalted d).bsu = d.bsu ∧ (opDrainToHalted d).tmr = d.tmr ∧ (opDrainToHalted d).power = d.power ∧ (opDrainToHalted d).board = d.board ∧ (opDrainToHalted d).flash = d.flash ∧ (opDrainToHalted d).mail = d.mail ∧ (opDrainToHalted d).fuse = d.fuse := by unfold opDrainToHalted; (repeat' split) <;> simp
@[simp] theorem opThermalTrip_frame (d : Dev) :
    (opThermalTrip d).whl = d.whl ∧ (opThermalTrip d).span = d.span ∧ (opThermalTrip d).fab = d.fab ∧ (opThermalTrip d).lnk = d.lnk ∧ (opThermalTrip d).cl = d.cl ∧ (opThermalTrip d).ten = d.ten ∧ (opThermalTrip d).grants = d.grants ∧ (opThermalTrip d).host = d.host ∧ (opThermalTrip d).dma = d.dma ∧ (opThermalTrip d).bsu = d.bsu ∧ (opThermalTrip d).tmr = d.tmr ∧ (opThermalTrip d).power = d.power ∧ (opThermalTrip d).flash = d.flash ∧ (opThermalTrip d).mail = d.mail ∧ (opThermalTrip d).fuse = d.fuse := by unfold opThermalTrip; (repeat' split) <;> simp
@[simp] theorem opRefclkLost_frame (d : Dev) :
    (opRefclkLost d).clk = d.clk ∧ (opRefclkLost d).whl = d.whl ∧ (opRefclkLost d).span = d.span ∧ (opRefclkLost d).fab = d.fab ∧ (opRefclkLost d).lnk = d.lnk ∧ (opRefclkLost d).cl = d.cl ∧ (opRefclkLost d).ten = d.ten ∧ (opRefclkLost d).grants = d.grants ∧ (opRefclkLost d).host = d.host ∧ (opRefclkLost d).dma = d.dma ∧ (opRefclkLost d).bsu = d.bsu ∧ (opRefclkLost d).tmr = d.tmr ∧ (opRefclkLost d).power = d.power ∧ (opRefclkLost d).board = d.board ∧ (opRefclkLost d).flash = d.flash ∧ (opRefclkLost d).mail = d.mail ∧ (opRefclkLost d).fuse = d.fuse := by simp [opRefclkLost]
@[simp] theorem opPllLockLost_frame (p : Nat) (d : Dev) :
    (opPllLockLost p d).clk = d.clk ∧ (opPllLockLost p d).whl = d.whl ∧ (opPllLockLost p d).span = d.span ∧ (opPllLockLost p d).fab = d.fab ∧ (opPllLockLost p d).lnk = d.lnk ∧ (opPllLockLost p d).cl = d.cl ∧ (opPllLockLost p d).ten = d.ten ∧ (opPllLockLost p d).grants = d.grants ∧ (opPllLockLost p d).host = d.host ∧ (opPllLockLost p d).dma = d.dma ∧ (opPllLockLost p d).bsu = d.bsu ∧ (opPllLockLost p d).tmr = d.tmr ∧ (opPllLockLost p d).power = d.power ∧ (opPllLockLost p d).board = d.board ∧ (opPllLockLost p d).flash = d.flash ∧ (opPllLockLost p d).mail = d.mail ∧ (opPllLockLost p d).fuse = d.fuse := by unfold opPllLockLost; (repeat' split) <;> simp
@[simp] theorem opHostLinkUp_frame (rate width : Nat) (flit : Bool) (d : Dev) :
    (opHostLinkUp rate width flit d).clk = d.clk ∧ (opHostLinkUp rate width flit d).whl = d.whl ∧ (opHostLinkUp rate width flit d).span = d.span ∧ (opHostLinkUp rate width flit d).fab = d.fab ∧ (opHostLinkUp rate width flit d).lnk = d.lnk ∧ (opHostLinkUp rate width flit d).cl = d.cl ∧ (opHostLinkUp rate width flit d).ten = d.ten ∧ (opHostLinkUp rate width flit d).grants = d.grants ∧ (opHostLinkUp rate width flit d).host = d.host ∧ (opHostLinkUp rate width flit d).dma = d.dma ∧ (opHostLinkUp rate width flit d).bsu = d.bsu ∧ (opHostLinkUp rate width flit d).tmr = d.tmr ∧ (opHostLinkUp rate width flit d).power = d.power ∧ (opHostLinkUp rate width flit d).board = d.board ∧ (opHostLinkUp rate width flit d).flash = d.flash ∧ (opHostLinkUp rate width flit d).mail = d.mail ∧ (opHostLinkUp rate width flit d).fuse = d.fuse := by unfold opHostLinkUp; (repeat' split) <;> simp

/-! ## Machine/Power.lean -/

@[simp] theorem setLimit_frame (i n : Nat) (d : Dev) :
    (setLimit i n d).whl = d.whl ∧ (setLimit i n d).span = d.span ∧ (setLimit i n d).fab = d.fab ∧ (setLimit i n d).lnk = d.lnk ∧ (setLimit i n d).cl = d.cl ∧ (setLimit i n d).ten = d.ten ∧ (setLimit i n d).grants = d.grants ∧ (setLimit i n d).host = d.host ∧ (setLimit i n d).dma = d.dma ∧ (setLimit i n d).bsu = d.bsu ∧ (setLimit i n d).tmr = d.tmr ∧ (setLimit i n d).boot = d.boot ∧ (setLimit i n d).power = d.power ∧ (setLimit i n d).board = d.board ∧ (setLimit i n d).flash = d.flash ∧ (setLimit i n d).mail = d.mail ∧ (setLimit i n d).fuse = d.fuse := by simp [setLimit]
@[simp] theorem lowerLimits_frame (d : Dev) :
    (lowerLimits d).whl = d.whl ∧ (lowerLimits d).span = d.span ∧ (lowerLimits d).fab = d.fab ∧ (lowerLimits d).lnk = d.lnk ∧ (lowerLimits d).cl = d.cl ∧ (lowerLimits d).ten = d.ten ∧ (lowerLimits d).grants = d.grants ∧ (lowerLimits d).host = d.host ∧ (lowerLimits d).dma = d.dma ∧ (lowerLimits d).bsu = d.bsu ∧ (lowerLimits d).tmr = d.tmr ∧ (lowerLimits d).boot = d.boot ∧ (lowerLimits d).board = d.board ∧ (lowerLimits d).flash = d.flash ∧ (lowerLimits d).mail = d.mail ∧ (lowerLimits d).fuse = d.fuse := by simp [lowerLimits]
@[simp] theorem putLimits_frame (ls : List Nat) (d : Dev) :
    (putLimits ls d).whl = d.whl ∧ (putLimits ls d).span = d.span ∧ (putLimits ls d).fab = d.fab ∧ (putLimits ls d).lnk = d.lnk ∧ (putLimits ls d).cl = d.cl ∧ (putLimits ls d).ten = d.ten ∧ (putLimits ls d).grants = d.grants ∧ (putLimits ls d).host = d.host ∧ (putLimits ls d).dma = d.dma ∧ (putLimits ls d).bsu = d.bsu ∧ (putLimits ls d).tmr = d.tmr ∧ (putLimits ls d).boot = d.boot ∧ (putLimits ls d).board = d.board ∧ (putLimits ls d).flash = d.flash ∧ (putLimits ls d).mail = d.mail ∧ (putLimits ls d).fuse = d.fuse := by unfold putLimits; dsimp only; (repeat' split) <;> simp
@[simp] theorem commandVoltage_frame (mv : Nat) (d : Dev) :
    (commandVoltage mv d).clk = d.clk ∧ (commandVoltage mv d).whl = d.whl ∧ (commandVoltage mv d).span = d.span ∧ (commandVoltage mv d).fab = d.fab ∧ (commandVoltage mv d).lnk = d.lnk ∧ (commandVoltage mv d).cl = d.cl ∧ (commandVoltage mv d).ten = d.ten ∧ (commandVoltage mv d).grants = d.grants ∧ (commandVoltage mv d).dma = d.dma ∧ (commandVoltage mv d).bsu = d.bsu ∧ (commandVoltage mv d).tmr = d.tmr ∧ (commandVoltage mv d).boot = d.boot ∧ (commandVoltage mv d).board = d.board ∧ (commandVoltage mv d).flash = d.flash ∧ (commandVoltage mv d).mail = d.mail ∧ (commandVoltage mv d).fuse = d.fuse := by simp [commandVoltage]
@[simp] theorem followLimits_frame (d : Dev) :
    (followLimits d).clk = d.clk ∧ (followLimits d).whl = d.whl ∧ (followLimits d).span = d.span ∧ (followLimits d).fab = d.fab ∧ (followLimits d).lnk = d.lnk ∧ (followLimits d).cl = d.cl ∧ (followLimits d).ten = d.ten ∧ (followLimits d).grants = d.grants ∧ (followLimits d).dma = d.dma ∧ (followLimits d).bsu = d.bsu ∧ (followLimits d).tmr = d.tmr ∧ (followLimits d).boot = d.boot ∧ (followLimits d).board = d.board ∧ (followLimits d).flash = d.flash ∧ (followLimits d).mail = d.mail ∧ (followLimits d).fuse = d.fuse := by unfold followLimits; dsimp only; (repeat' split) <;> simp
@[simp] theorem raiseLimits_frame (d : Dev) :
    (raiseLimits d).whl = d.whl ∧ (raiseLimits d).span = d.span ∧ (raiseLimits d).fab = d.fab ∧ (raiseLimits d).lnk = d.lnk ∧ (raiseLimits d).cl = d.cl ∧ (raiseLimits d).ten = d.ten ∧ (raiseLimits d).grants = d.grants ∧ (raiseLimits d).dma = d.dma ∧ (raiseLimits d).bsu = d.bsu ∧ (raiseLimits d).tmr = d.tmr ∧ (raiseLimits d).boot = d.boot ∧ (raiseLimits d).board = d.board ∧ (raiseLimits d).flash = d.flash ∧ (raiseLimits d).mail = d.mail ∧ (raiseLimits d).fuse = d.fuse := by unfold raiseLimits; dsimp only; (repeat' split) <;> simp
@[simp] theorem markCap_frame (on : Bool) (d : Dev) :
    (markCap on d).clk = d.clk ∧ (markCap on d).whl = d.whl ∧ (markCap on d).span = d.span ∧ (markCap on d).fab = d.fab ∧ (markCap on d).lnk = d.lnk ∧ (markCap on d).cl = d.cl ∧ (markCap on d).ten = d.ten ∧ (markCap on d).grants = d.grants ∧ (markCap on d).dma = d.dma ∧ (markCap on d).bsu = d.bsu ∧ (markCap on d).tmr = d.tmr ∧ (markCap on d).boot = d.boot ∧ (markCap on d).flash = d.flash ∧ (markCap on d).mail = d.mail ∧ (markCap on d).fuse = d.fuse := by unfold markCap; (repeat' split) <;> simp
@[simp] theorem opPowerSample_frame (watts : Nat) (d : Dev) :
    (opPowerSample watts d).whl = d.whl ∧ (opPowerSample watts d).span = d.span ∧ (opPowerSample watts d).fab = d.fab ∧ (opPowerSample watts d).lnk = d.lnk ∧ (opPowerSample watts d).cl = d.cl ∧ (opPowerSample watts d).ten = d.ten ∧ (opPowerSample watts d).grants = d.grants ∧ (opPowerSample watts d).dma = d.dma ∧ (opPowerSample watts d).bsu = d.bsu ∧ (opPowerSample watts d).tmr = d.tmr ∧ (opPowerSample watts d).boot = d.boot ∧ (opPowerSample watts d).flash = d.flash ∧ (opPowerSample watts d).mail = d.mail ∧ (opPowerSample watts d).fuse = d.fuse := by unfold opPowerSample; dsimp only; (repeat' split) <;> simp
@[simp] theorem markWarm_frame (on : Bool) (d : Dev) :
    (markWarm on d).clk = d.clk ∧ (markWarm on d).whl = d.whl ∧ (markWarm on d).span = d.span ∧ (markWarm on d).fab = d.fab ∧ (markWarm on d).lnk = d.lnk ∧ (markWarm on d).cl = d.cl ∧ (markWarm on d).ten = d.ten ∧ (markWarm on d).grants = d.grants ∧ (markWarm on d).dma = d.dma ∧ (markWarm on d).bsu = d.bsu ∧ (markWarm on d).tmr = d.tmr ∧ (markWarm on d).boot = d.boot ∧ (markWarm on d).flash = d.flash ∧ (markWarm on d).mail = d.mail ∧ (markWarm on d).fuse = d.fuse := by unfold markWarm; (repeat' split) <;> simp
@[simp] theorem opThermalSample_frame (isl col : List Int) (d : Dev) :
    (opThermalSample isl col d).whl = d.whl ∧ (opThermalSample isl col d).span = d.span ∧ (opThermalSample isl col d).fab = d.fab ∧ (opThermalSample isl col d).lnk = d.lnk ∧ (opThermalSample isl col d).cl = d.cl ∧ (opThermalSample isl col d).grants = d.grants ∧ (opThermalSample isl col d).dma = d.dma ∧ (opThermalSample isl col d).bsu = d.bsu ∧ (opThermalSample isl col d).tmr = d.tmr ∧ (opThermalSample isl col d).boot = d.boot ∧ (opThermalSample isl col d).flash = d.flash ∧ (opThermalSample isl col d).mail = d.mail ∧ (opThermalSample isl col d).fuse = d.fuse := by unfold opThermalSample; dsimp only; (repeat' split) <;> simp
@[simp] theorem opReadVoutPoll_frame (raw : BitVec 16) (d : Dev) :
    (opReadVoutPoll raw d).clk = d.clk ∧ (opReadVoutPoll raw d).whl = d.whl ∧ (opReadVoutPoll raw d).span = d.span ∧ (opReadVoutPoll raw d).fab = d.fab ∧ (opReadVoutPoll raw d).lnk = d.lnk ∧ (opReadVoutPoll raw d).cl = d.cl ∧ (opReadVoutPoll raw d).ten = d.ten ∧ (opReadVoutPoll raw d).grants = d.grants ∧ (opReadVoutPoll raw d).dma = d.dma ∧ (opReadVoutPoll raw d).bsu = d.bsu ∧ (opReadVoutPoll raw d).tmr = d.tmr ∧ (opReadVoutPoll raw d).boot = d.boot ∧ (opReadVoutPoll raw d).board = d.board ∧ (opReadVoutPoll raw d).flash = d.flash ∧ (opReadVoutPoll raw d).mail = d.mail ∧ (opReadVoutPoll raw d).fuse = d.fuse := by unfold opReadVoutPoll; (repeat' split) <;> simp
@[simp] theorem opPmbusFault_frame (why : Nat) (d : Dev) :
    (opPmbusFault why d).whl = d.whl ∧ (opPmbusFault why d).span = d.span ∧ (opPmbusFault why d).fab = d.fab ∧ (opPmbusFault why d).lnk = d.lnk ∧ (opPmbusFault why d).cl = d.cl ∧ (opPmbusFault why d).ten = d.ten ∧ (opPmbusFault why d).grants = d.grants ∧ (opPmbusFault why d).dma = d.dma ∧ (opPmbusFault why d).bsu = d.bsu ∧ (opPmbusFault why d).tmr = d.tmr ∧ (opPmbusFault why d).flash = d.flash ∧ (opPmbusFault why d).mail = d.mail ∧ (opPmbusFault why d).fuse = d.fuse := by unfold opPmbusFault; (repeat' split) <;> simp
@[simp] theorem opPmbAlert_frame (st0 st1 : BitVec 16) (d : Dev) :
    (opPmbAlert st0 st1 d).clk = d.clk ∧ (opPmbAlert st0 st1 d).whl = d.whl ∧ (opPmbAlert st0 st1 d).span = d.span ∧ (opPmbAlert st0 st1 d).fab = d.fab ∧ (opPmbAlert st0 st1 d).lnk = d.lnk ∧ (opPmbAlert st0 st1 d).cl = d.cl ∧ (opPmbAlert st0 st1 d).ten = d.ten ∧ (opPmbAlert st0 st1 d).grants = d.grants ∧ (opPmbAlert st0 st1 d).dma = d.dma ∧ (opPmbAlert st0 st1 d).bsu = d.bsu ∧ (opPmbAlert st0 st1 d).tmr = d.tmr ∧ (opPmbAlert st0 st1 d).boot = d.boot ∧ (opPmbAlert st0 st1 d).board = d.board ∧ (opPmbAlert st0 st1 d).flash = d.flash ∧ (opPmbAlert st0 st1 d).mail = d.mail ∧ (opPmbAlert st0 st1 d).fuse = d.fuse := by unfold opPmbAlert; (repeat' split) <;> simp
@[simp] theorem opSmbAlertResponse_frame (d : Dev) :
    (opSmbAlertResponse d).clk = d.clk ∧ (opSmbAlertResponse d).whl = d.whl ∧ (opSmbAlertResponse d).span = d.span ∧ (opSmbAlertResponse d).fab = d.fab ∧ (opSmbAlertResponse d).lnk = d.lnk ∧ (opSmbAlertResponse d).cl = d.cl ∧ (opSmbAlertResponse d).ten = d.ten ∧ (opSmbAlertResponse d).grants = d.grants ∧ (opSmbAlertResponse d).dma = d.dma ∧ (opSmbAlertResponse d).bsu = d.bsu ∧ (opSmbAlertResponse d).tmr = d.tmr ∧ (opSmbAlertResponse d).boot = d.boot ∧ (opSmbAlertResponse d).power = d.power ∧ (opSmbAlertResponse d).flash = d.flash ∧ (opSmbAlertResponse d).mail = d.mail ∧ (opSmbAlertResponse d).fuse = d.fuse := by unfold opSmbAlertResponse; (repeat' split) <;> simp

/-! ## Machine/Cores.lean -/

@[simp] theorem interruptCmds_frame (n : Nat) (d : Dev) :
    (interruptCmds n d).clk = d.clk ∧ (interruptCmds n d).whl = d.whl ∧ (interruptCmds n d).span = d.span ∧ (interruptCmds n d).fab = d.fab ∧ (interruptCmds n d).lnk = d.lnk ∧ (interruptCmds n d).cl = d.cl ∧ (interruptCmds n d).ten = d.ten ∧ (interruptCmds n d).grants = d.grants ∧ (interruptCmds n d).dma = d.dma ∧ (interruptCmds n d).bsu = d.bsu ∧ (interruptCmds n d).tmr = d.tmr ∧ (interruptCmds n d).boot = d.boot ∧ (interruptCmds n d).power = d.power ∧ (interruptCmds n d).board = d.board ∧ (interruptCmds n d).flash = d.flash ∧ (interruptCmds n d).mail = d.mail ∧ (interruptCmds n d).fuse = d.fuse := by simp [interruptCmds]
@[simp] theorem holdCore_frame (n : Nat) (d : Dev) :
    (holdCore n d).clk = d.clk ∧ (holdCore n d).whl = d.whl ∧ (holdCore n d).span = d.span ∧ (holdCore n d).fab = d.fab ∧ (holdCore n d).lnk = d.lnk ∧ (holdCore n d).cl = d.cl ∧ (holdCore n d).ten = d.ten ∧ (holdCore n d).grants = d.grants ∧ (holdCore n d).dma = d.dma ∧ (holdCore n d).bsu = d.bsu ∧ (holdCore n d).tmr = d.tmr ∧ (holdCore n d).power = d.power ∧ (holdCore n d).board = d.board ∧ (holdCore n d).flash = d.flash ∧ (holdCore n d).mail = d.mail ∧ (holdCore n d).fuse = d.fuse := by simp [holdCore]
@[simp] theorem expireCore_frame (n : Nat) (d : Dev) :
    (expireCore n d).clk = d.clk ∧ (expireCore n d).whl = d.whl ∧ (expireCore n d).span = d.span ∧ (expireCore n d).fab = d.fab ∧ (expireCore n d).lnk = d.lnk ∧ (expireCore n d).cl = d.cl ∧ (expireCore n d).ten = d.ten ∧ (expireCore n d).grants = d.grants ∧ (expireCore n d).dma = d.dma ∧ (expireCore n d).bsu = d.bsu ∧ (expireCore n d).tmr = d.tmr ∧ (expireCore n d).power = d.power ∧ (expireCore n d).board = d.board ∧ (expireCore n d).flash = d.flash ∧ (expireCore n d).mail = d.mail ∧ (expireCore n d).fuse = d.fuse := by unfold expireCore; (repeat' split) <;> simp
@[simp] theorem opWatchdogExpiry_frame (n : Nat) (d : Dev) :
    (opWatchdogExpiry n d).clk = d.clk ∧ (opWatchdogExpiry n d).whl = d.whl ∧ (opWatchdogExpiry n d).span = d.span ∧ (opWatchdogExpiry n d).fab = d.fab ∧ (opWatchdogExpiry n d).lnk = d.lnk ∧ (opWatchdogExpiry n d).cl = d.cl ∧ (opWatchdogExpiry n d).ten = d.ten ∧ (opWatchdogExpiry n d).grants = d.grants ∧ (opWatchdogExpiry n d).dma = d.dma ∧ (opWatchdogExpiry n d).bsu = d.bsu ∧ (opWatchdogExpiry n d).tmr = d.tmr ∧ (opWatchdogExpiry n d).power = d.power ∧ (opWatchdogExpiry n d).board = d.board ∧ (opWatchdogExpiry n d).flash = d.flash ∧ (opWatchdogExpiry n d).mail = d.mail ∧ (opWatchdogExpiry n d).fuse = d.fuse := by unfold opWatchdogExpiry; (repeat' split) <;> simp
@[simp] theorem opCoreReset_frame (fn : Nat) (mask : BitVec 16) (d : Dev) :
    (opCoreReset fn mask d).clk = d.clk ∧ (opCoreReset fn mask d).whl = d.whl ∧ (opCoreReset fn mask d).span = d.span ∧ (opCoreReset fn mask d).fab = d.fab ∧ (opCoreReset fn mask d).lnk = d.lnk ∧ (opCoreReset fn mask d).cl = d.cl ∧ (opCoreReset fn mask d).ten = d.ten ∧ (opCoreReset fn mask d).grants = d.grants ∧ (opCoreReset fn mask d).dma = d.dma ∧ (opCoreReset fn mask d).bsu = d.bsu ∧ (opCoreReset fn mask d).tmr = d.tmr ∧ (opCoreReset fn mask d).power = d.power ∧ (opCoreReset fn mask d).board = d.board ∧ (opCoreReset fn mask d).flash = d.flash ∧ (opCoreReset fn mask d).mail = d.mail ∧ (opCoreReset fn mask d).fuse = d.fuse := by unfold opCoreReset; (try dsimp only); (repeat' split) <;> simp [apply_ite Dev.clk, apply_ite Dev.whl, apply_ite Dev.span, apply_ite Dev.fab, apply_ite Dev.lnk, apply_ite Dev.cl, apply_ite Dev.ten, apply_ite Dev.grants, apply_ite Dev.dma, apply_ite Dev.bsu, apply_ite Dev.tmr, apply_ite Dev.power, apply_ite Dev.board, apply_ite Dev.flash, apply_ite Dev.mail, apply_ite Dev.fuse]
@[simp] theorem opRescueCoreReset_frame (d : Dev) :
    (opRescueCoreReset d).clk = d.clk ∧ (opRescueCoreReset d).whl = d.whl ∧ (opRescueCoreReset d).span = d.span ∧ (opRescueCoreReset d).fab = d.fab ∧ (opRescueCoreReset d).lnk = d.lnk ∧ (opRescueCoreReset d).cl = d.cl ∧ (opRescueCoreReset d).ten = d.ten ∧ (opRescueCoreReset d).grants = d.grants ∧ (opRescueCoreReset d).dma = d.dma ∧ (opRescueCoreReset d).bsu = d.bsu ∧ (opRescueCoreReset d).tmr = d.tmr ∧ (opRescueCoreReset d).power = d.power ∧ (opRescueCoreReset d).board = d.board ∧ (opRescueCoreReset d).flash = d.flash ∧ (opRescueCoreReset d).mail = d.mail ∧ (opRescueCoreReset d).fuse = d.fuse := by unfold opRescueCoreReset; (repeat' split) <;> simp
@[simp] theorem opCoreRelease_frame (n : Nat) (d : Dev) :
    (opCoreRelease n d).clk = d.clk ∧ (opCoreRelease n d).whl = d.whl ∧ (opCoreRelease n d).span = d.span ∧ (opCoreRelease n d).fab = d.fab ∧ (opCoreRelease n d).lnk = d.lnk ∧ (opCoreRelease n d).cl = d.cl ∧ (opCoreRelease n d).ten = d.ten ∧ (opCoreRelease n d).grants = d.grants ∧ (opCoreRelease n d).dma = d.dma ∧ (opCoreRelease n d).bsu = d.bsu ∧ (opCoreRelease n d).tmr = d.tmr ∧ (opCoreRelease n d).boot = d.boot ∧ (opCoreRelease n d).power = d.power ∧ (opCoreRelease n d).board = d.board ∧ (opCoreRelease n d).flash = d.flash ∧ (opCoreRelease n d).mail = d.mail ∧ (opCoreRelease n d).fuse = d.fuse := by unfold opCoreRelease; dsimp only; (repeat' split) <;> simp
@[simp] theorem opRingRehome_frame (n : Nat) (d : Dev) :
    (opRingRehome n d).clk = d.clk ∧ (opRingRehome n d).whl = d.whl ∧ (opRingRehome n d).span = d.span ∧ (opRingRehome n d).fab = d.fab ∧ (opRingRehome n d).lnk = d.lnk ∧ (opRingRehome n d).cl = d.cl ∧ (opRingRehome n d).ten = d.ten ∧ (opRingRehome n d).grants = d.grants ∧ (opRingRehome n d).dma = d.dma ∧ (opRingRehome n d).bsu = d.bsu ∧ (opRingRehome n d).tmr = d.tmr ∧ (opRingRehome n d).boot = d.boot ∧ (opRingRehome n d).power = d.power ∧ (opRingRehome n d).board = d.board ∧ (opRingRehome n d).flash = d.flash ∧ (opRingRehome n d).mail = d.mail ∧ (opRingRehome n d).fuse = d.fuse := by unfold opRingRehome; (repeat' split) <;> simp
@[simp] theorem restartCmd_frame (c : Cmd) (d : Dev) :
    (restartCmd c d).clk = d.clk ∧ (restartCmd c d).whl = d.whl ∧ (restartCmd c d).span = d.span ∧ (restartCmd c d).fab = d.fab ∧ (restartCmd c d).lnk = d.lnk ∧ (restartCmd c d).cl = d.cl ∧ (restartCmd c d).ten = d.ten ∧ (restartCmd c d).grants = d.grants ∧ (restartCmd c d).dma = d.dma ∧ (restartCmd c d).bsu = d.bsu ∧ (restartCmd c d).tmr = d.tmr ∧ (restartCmd c d).power = d.power ∧ (restartCmd c d).board = d.board ∧ (restartCmd c d).flash = d.flash ∧ (restartCmd c d).mail = d.mail ∧ (restartCmd c d).fuse = d.fuse := by unfold restartCmd; (repeat' split) <;> simp
@[simp] theorem lostCmd_frame (c : Cmd) (d : Dev) :
    (lostCmd c d).clk = d.clk ∧ (lostCmd c d).whl = d.whl ∧ (lostCmd c d).span = d.span ∧ (lostCmd c d).fab = d.fab ∧ (lostCmd c d).lnk = d.lnk ∧ (lostCmd c d).cl = d.cl ∧ (lostCmd c d).ten = d.ten ∧ (lostCmd c d).grants = d.grants ∧ (lostCmd c d).dma = d.dma ∧ (lostCmd c d).bsu = d.bsu ∧ (lostCmd c d).tmr = d.tmr ∧ (lostCmd c d).boot = d.boot ∧ (lostCmd c d).power = d.power ∧ (lostCmd c d).board = d.board ∧ (lostCmd c d).flash = d.flash ∧ (lostCmd c d).mail = d.mail ∧ (lostCmd c d).fuse = d.fuse := by simp [lostCmd]
@[simp] theorem bsuLeftReset_frame (u : Nat) (d : Dev) :
    (bsuLeftReset u d).clk = d.clk ∧ (bsuLeftReset u d).whl = d.whl ∧ (bsuLeftReset u d).span = d.span ∧ (bsuLeftReset u d).fab = d.fab ∧ (bsuLeftReset u d).lnk = d.lnk ∧ (bsuLeftReset u d).cl = d.cl ∧ (bsuLeftReset u d).grants = d.grants ∧ (bsuLeftReset u d).dma = d.dma ∧ (bsuLeftReset u d).tmr = d.tmr ∧ (bsuLeftReset u d).boot = d.boot ∧ (bsuLeftReset u d).power = d.power ∧ (bsuLeftReset u d).board = d.board ∧ (bsuLeftReset u d).flash = d.flash ∧ (bsuLeftReset u d).mail = d.mail ∧ (bsuLeftReset u d).fuse = d.fuse := by unfold bsuLeftReset; (repeat' split) <;> simp
@[simp] theorem loseCmd_frame (c : Cmd) (d : Dev) :
    (loseCmd c d).clk = d.clk ∧ (loseCmd c d).whl = d.whl ∧ (loseCmd c d).span = d.span ∧ (loseCmd c d).fab = d.fab ∧ (loseCmd c d).lnk = d.lnk ∧ (loseCmd c d).cl = d.cl ∧ (loseCmd c d).grants = d.grants ∧ (loseCmd c d).dma = d.dma ∧ (loseCmd c d).tmr = d.tmr ∧ (loseCmd c d).power = d.power ∧ (loseCmd c d).board = d.board ∧ (loseCmd c d).flash = d.flash ∧ (loseCmd c d).mail = d.mail ∧ (loseCmd c d).fuse = d.fuse := by unfold loseCmd; dsimp only; (repeat' split) <;> simp
@[simp] theorem opInterruptedCommand_frame (r : Nat) (d : Dev) :
    (opInterruptedCommand r d).clk = d.clk ∧ (opInterruptedCommand r d).whl = d.whl ∧ (opInterruptedCommand r d).span = d.span ∧ (opInterruptedCommand r d).fab = d.fab ∧ (opInterruptedCommand r d).lnk = d.lnk ∧ (opInterruptedCommand r d).cl = d.cl ∧ (opInterruptedCommand r d).grants = d.grants ∧ (opInterruptedCommand r d).dma = d.dma ∧ (opInterruptedCommand r d).tmr = d.tmr ∧ (opInterruptedCommand r d).power = d.power ∧ (opInterruptedCommand r d).board = d.board ∧ (opInterruptedCommand r d).flash = d.flash ∧ (opInterruptedCommand r d).mail = d.mail ∧ (opInterruptedCommand r d).fuse = d.fuse := by unfold opInterruptedCommand; (repeat' split) <;> simp
@[simp] theorem opBlackoutBoundExpiry_frame (d : Dev) :
    (opBlackoutBoundExpiry d).clk = d.clk ∧ (opBlackoutBoundExpiry d).whl = d.whl ∧ (opBlackoutBoundExpiry d).span = d.span ∧ (opBlackoutBoundExpiry d).fab = d.fab ∧ (opBlackoutBoundExpiry d).lnk = d.lnk ∧ (opBlackoutBoundExpiry d).cl = d.cl ∧ (opBlackoutBoundExpiry d).ten = d.ten ∧ (opBlackoutBoundExpiry d).grants = d.grants ∧ (opBlackoutBoundExpiry d).dma = d.dma ∧ (opBlackoutBoundExpiry d).bsu = d.bsu ∧ (opBlackoutBoundExpiry d).tmr = d.tmr ∧ (opBlackoutBoundExpiry d).power = d.power ∧ (opBlackoutBoundExpiry d).board = d.board ∧ (opBlackoutBoundExpiry d).flash = d.flash ∧ (opBlackoutBoundExpiry d).mail = d.mail ∧ (opBlackoutBoundExpiry d).fuse = d.fuse := by unfold opBlackoutBoundExpiry; (repeat' split) <;> simp

/-! ## Machine/Dma.lean -/

@[simp] theorem dmaCtr_clk (e : Nat) (f : FabCtr → FabCtr) (d : Dev) : (dmaCtr e f d).clk = d.clk := by simp [dmaCtr]
@[simp] theorem dmaCtr_whl (e : Nat) (f : FabCtr → FabCtr) (d : Dev) : (dmaCtr e f d).whl = d.whl := by simp [dmaCtr]
@[simp] theorem dmaCtr_span (e : Nat) (f : FabCtr → FabCtr) (d : Dev) : (dmaCtr e f d).span = d.span := by simp [dmaCtr]
@[simp] theorem dmaCtr_lnk (e : Nat) (f : FabCtr → FabCtr) (d : Dev) : (dmaCtr e f d).lnk = d.lnk := by simp [dmaCtr]
@[simp] theorem dmaCtr_cl (e : Nat) (f : FabCtr → FabCtr) (d : Dev) : (dmaCtr e f d).cl = d.cl := by simp [dmaCtr]
@[simp] theorem dmaCtr_ten (e : Nat) (f : FabCtr → FabCtr) (d : Dev) : (dmaCtr e f d).ten = d.ten := by simp [dmaCtr]
@[simp] theorem dmaCtr_grants (e : Nat) (f : FabCtr → FabCtr) (d : Dev) : (dmaCtr e f d).grants = d.grants := by simp [dmaCtr]
@[simp] theorem dmaCtr_host (e : Nat) (f : FabCtr → FabCtr) (d : Dev) : (dmaCtr e f d).host = d.host := by simp [dmaCtr]
@[simp] theorem dmaCtr_dma (e : Nat) (f : FabCtr → FabCtr) (d : Dev) : (dmaCtr e f d).dma = d.dma := by simp [dmaCtr]
@[simp] theorem dmaCtr_bsu (e : Nat) (f : FabCtr → FabCtr) (d : Dev) : (dmaCtr e f d).bsu = d.bsu := by simp [dmaCtr]
@[simp] theorem dmaCtr_tmr (e : Nat) (f : FabCtr → FabCtr) (d : Dev) : (dmaCtr e f d).tmr = d.tmr := by simp [dmaCtr]
@[simp] theorem dmaCtr_boot (e : Nat) (f : FabCtr → FabCtr) (d : Dev) : (dmaCtr e f d).boot = d.boot := by simp [dmaCtr]
@[simp] theorem dmaCtr_power (e : Nat) (f : FabCtr → FabCtr) (d : Dev) : (dmaCtr e f d).power = d.power := by simp [dmaCtr]
@[simp] theorem dmaCtr_board (e : Nat) (f : FabCtr → FabCtr) (d : Dev) : (dmaCtr e f d).board = d.board := by simp [dmaCtr]
@[simp] theorem dmaCtr_flash (e : Nat) (f : FabCtr → FabCtr) (d : Dev) : (dmaCtr e f d).flash = d.flash := by simp [dmaCtr]
@[simp] theorem dmaCtr_mail (e : Nat) (f : FabCtr → FabCtr) (d : Dev) : (dmaCtr e f d).mail = d.mail := by simp [dmaCtr]
@[simp] theorem dmaCtr_fuse (e : Nat) (f : FabCtr → FabCtr) (d : Dev) : (dmaCtr e f d).fuse = d.fuse := by simp [dmaCtr]
@[simp] theorem opDmaDescriptor_frame (e t : Nat) (d : Dev) :
    (opDmaDescriptor e t d).clk = d.clk ∧ (opDmaDescriptor e t d).span = d.span ∧ (opDmaDescriptor e t d).lnk = d.lnk ∧ (opDmaDescriptor e t d).cl = d.cl ∧ (opDmaDescriptor e t d).grants = d.grants ∧ (opDmaDescriptor e t d).bsu = d.bsu ∧ (opDmaDescriptor e t d).tmr = d.tmr ∧ (opDmaDescriptor e t d).boot = d.boot ∧ (opDmaDescriptor e t d).power = d.power ∧ (opDmaDescriptor e t d).board = d.board ∧ (opDmaDescriptor e t d).flash = d.flash ∧ (opDmaDescriptor e t d).mail = d.mail ∧ (opDmaDescriptor e t d).fuse = d.fuse := by unfold opDmaDescriptor; dsimp only; (repeat' split) <;> simp
@[simp] theorem opDmaReadCompletion_frame (e lap tick t : Nat) (data : Line) (poison : Bool) (d : Dev) :
    (opDmaReadCompletion e lap tick t data poison d).clk = d.clk ∧ (opDmaReadCompletion e lap tick t data poison d).whl = d.whl ∧ (opDmaReadCompletion e lap tick t data poison d).span = d.span ∧ (opDmaReadCompletion e lap tick t data poison d).fab = d.fab ∧ (opDmaReadCompletion e lap tick t data poison d).lnk = d.lnk ∧ (opDmaReadCompletion e lap tick t data poison d).cl = d.cl ∧ (opDmaReadCompletion e lap tick t data poison d).ten = d.ten ∧ (opDmaReadCompletion e lap tick t data poison d).grants = d.grants ∧ (opDmaReadCompletion e lap tick t data poison d).host = d.host ∧ (opDmaReadCompletion e lap tick t data poison d).bsu = d.bsu ∧ (opDmaReadCompletion e lap tick t data poison d).tmr = d.tmr ∧ (opDmaReadCompletion e lap tick t data poison d).boot = d.boot ∧ (opDmaReadCompletion e lap tick t data poison d).power = d.power ∧ (opDmaReadCompletion e lap tick t data poison d).board = d.board ∧ (opDmaReadCompletion e lap tick t data poison d).flash = d.flash ∧ (opDmaReadCompletion e lap tick t data poison d).mail = d.mail ∧ (opDmaReadCompletion e lap tick t data poison d).fuse = d.fuse := by unfold opDmaReadCompletion; dsimp only; (repeat' split) <;> simp
@[simp] theorem failReads_frame (e lap tick n : Nat) (d : Dev) :
    (failReads e lap tick n d).clk = d.clk ∧ (failReads e lap tick n d).whl = d.whl ∧ (failReads e lap tick n d).span = d.span ∧ (failReads e lap tick n d).fab = d.fab ∧ (failReads e lap tick n d).lnk = d.lnk ∧ (failReads e lap tick n d).cl = d.cl ∧ (failReads e lap tick n d).ten = d.ten ∧ (failReads e lap tick n d).grants = d.grants ∧ (failReads e lap tick n d).host = d.host ∧ (failReads e lap tick n d).bsu = d.bsu ∧ (failReads e lap tick n d).tmr = d.tmr ∧ (failReads e lap tick n d).boot = d.boot ∧ (failReads e lap tick n d).power = d.power ∧ (failReads e lap tick n d).board = d.board ∧ (failReads e lap tick n d).flash = d.flash ∧ (failReads e lap tick n d).mail = d.mail ∧ (failReads e lap tick n d).fuse = d.fuse := by simp [failReads]
@[simp] theorem recordRead_frame (e : Nat) (x : DmaDesc) (d : Dev) :
    (recordRead e x d).clk = d.clk ∧ (recordRead e x d).whl = d.whl ∧ (recordRead e x d).span = d.span ∧ (recordRead e x d).fab = d.fab ∧ (recordRead e x d).lnk = d.lnk ∧ (recordRead e x d).cl = d.cl ∧ (recordRead e x d).grants = d.grants ∧ (recordRead e x d).dma = d.dma ∧ (recordRead e x d).bsu = d.bsu ∧ (recordRead e x d).tmr = d.tmr ∧ (recordRead e x d).boot = d.boot ∧ (recordRead e x d).power = d.power ∧ (recordRead e x d).board = d.board ∧ (recordRead e x d).flash = d.flash ∧ (recordRead e x d).mail = d.mail ∧ (recordRead e x d).fuse = d.fuse := by unfold recordRead; (repeat' split) <;> simp
@[simp] theorem stepDesc_frame (e : Nat) (x : DmaDesc) (d : Dev) :
    (stepDesc e x d).clk = d.clk ∧ (stepDesc e x d).whl = d.whl ∧ (stepDesc e x d).span = d.span ∧ (stepDesc e x d).fab = d.fab ∧ (stepDesc e x d).lnk = d.lnk ∧ (stepDesc e x d).cl = d.cl ∧ (stepDesc e x d).ten = d.ten ∧ (stepDesc e x d).grants = d.grants ∧ (stepDesc e x d).host = d.host ∧ (stepDesc e x d).bsu = d.bsu ∧ (stepDesc e x d).tmr = d.tmr ∧ (stepDesc e x d).boot = d.boot ∧ (stepDesc e x d).power = d.power ∧ (stepDesc e x d).board = d.board ∧ (stepDesc e x d).flash = d.flash ∧ (stepDesc e x d).mail = d.mail ∧ (stepDesc e x d).fuse = d.fuse := by simp [stepDesc]
@[simp] theorem opDmaReadDeparture_frame (e t : Nat) (d : Dev) :
    (opDmaReadDeparture e t d).clk = d.clk ∧ (opDmaReadDeparture e t d).span = d.span ∧ (opDmaReadDeparture e t d).lnk = d.lnk ∧ (opDmaReadDeparture e t d).cl = d.cl ∧ (opDmaReadDeparture e t d).grants = d.grants ∧ (opDmaReadDeparture e t d).bsu = d.bsu ∧ (opDmaReadDeparture e t d).tmr = d.tmr ∧ (opDmaReadDeparture e t d).boot = d.boot ∧ (opDmaReadDeparture e t d).power = d.power ∧ (opDmaReadDeparture e t d).board = d.board ∧ (opDmaReadDeparture e t d).flash = d.flash ∧ (opDmaReadDeparture e t d).mail = d.mail ∧ (opDmaReadDeparture e t d).fuse = d.fuse := by unfold opDmaReadDeparture; dsimp only; (repeat' split) <;> simp
@[simp] theorem opDmaWriteArrival_frame (e t : Nat) (d : Dev) :
    (opDmaWriteArrival e t d).clk = d.clk ∧ (opDmaWriteArrival e t d).span = d.span ∧ (opDmaWriteArrival e t d).lnk = d.lnk ∧ (opDmaWriteArrival e t d).cl = d.cl ∧ (opDmaWriteArrival e t d).grants = d.grants ∧ (opDmaWriteArrival e t d).bsu = d.bsu ∧ (opDmaWriteArrival e t d).tmr = d.tmr ∧ (opDmaWriteArrival e t d).boot = d.boot ∧ (opDmaWriteArrival e t d).power = d.power ∧ (opDmaWriteArrival e t d).board = d.board ∧ (opDmaWriteArrival e t d).flash = d.flash ∧ (opDmaWriteArrival e t d).mail = d.mail ∧ (opDmaWriteArrival e t d).fuse = d.fuse := by unfold opDmaWriteArrival; dsimp only; (repeat' split) <;> simp
@[simp] theorem opDmaWriteShort_frame (e t : Nat) (d : Dev) :
    (opDmaWriteShort e t d).clk = d.clk ∧ (opDmaWriteShort e t d).span = d.span ∧ (opDmaWriteShort e t d).fab = d.fab ∧ (opDmaWriteShort e t d).lnk = d.lnk ∧ (opDmaWriteShort e t d).cl = d.cl ∧ (opDmaWriteShort e t d).ten = d.ten ∧ (opDmaWriteShort e t d).grants = d.grants ∧ (opDmaWriteShort e t d).host = d.host ∧ (opDmaWriteShort e t d).bsu = d.bsu ∧ (opDmaWriteShort e t d).tmr = d.tmr ∧ (opDmaWriteShort e t d).boot = d.boot ∧ (opDmaWriteShort e t d).power = d.power ∧ (opDmaWriteShort e t d).board = d.board ∧ (opDmaWriteShort e t d).flash = d.flash ∧ (opDmaWriteShort e t d).mail = d.mail ∧ (opDmaWriteShort e t d).fuse = d.fuse := by unfold opDmaWriteShort; dsimp only; (repeat' split) <;> simp
@[simp] theorem opDmaHostWrite_frame (e n : Nat) (d : Dev) :
    (opDmaHostWrite e n d).clk = d.clk ∧ (opDmaHostWrite e n d).whl = d.whl ∧ (opDmaHostWrite e n d).span = d.span ∧ (opDmaHostWrite e n d).fab = d.fab ∧ (opDmaHostWrite e n d).lnk = d.lnk ∧ (opDmaHostWrite e n d).cl = d.cl ∧ (opDmaHostWrite e n d).ten = d.ten ∧ (opDmaHostWrite e n d).grants = d.grants ∧ (opDmaHostWrite e n d).bsu = d.bsu ∧ (opDmaHostWrite e n d).tmr = d.tmr ∧ (opDmaHostWrite e n d).boot = d.boot ∧ (opDmaHostWrite e n d).power = d.power ∧ (opDmaHostWrite e n d).board = d.board ∧ (opDmaHostWrite e n d).flash = d.flash ∧ (opDmaHostWrite e n d).mail = d.mail ∧ (opDmaHostWrite e n d).fuse = d.fuse := by unfold opDmaHostWrite; (repeat' split) <;> simp

/-! ## Machine/Pcie.lean -/

@[simp] theorem releaseBlocked_frame (fn : Nat) (d : Dev) :
    (releaseBlocked fn d).clk = d.clk ∧ (releaseBlocked fn d).whl = d.whl ∧ (releaseBlocked fn d).span = d.span ∧ (releaseBlocked fn d).fab = d.fab ∧ (releaseBlocked fn d).lnk = d.lnk ∧ (releaseBlocked fn d).cl = d.cl ∧ (releaseBlocked fn d).ten = d.ten ∧ (releaseBlocked fn d).grants = d.grants ∧ (releaseBlocked fn d).dma = d.dma ∧ (releaseBlocked fn d).bsu = d.bsu ∧ (releaseBlocked fn d).tmr = d.tmr ∧ (releaseBlocked fn d).boot = d.boot ∧ (releaseBlocked fn d).power = d.power ∧ (releaseBlocked fn d).board = d.board ∧ (releaseBlocked fn d).flash = d.flash ∧ (releaseBlocked fn d).mail = d.mail ∧ (releaseBlocked fn d).fuse = d.fuse := by unfold releaseBlocked; (repeat' split) <;> simp
@[simp] theorem opBusMasterEnable_frame (fn : Nat) (on : Bool) (d : Dev) :
    (opBusMasterEnable fn on d).clk = d.clk ∧ (opBusMasterEnable fn on d).whl = d.whl ∧ (opBusMasterEnable fn on d).span = d.span ∧ (opBusMasterEnable fn on d).fab = d.fab ∧ (opBusMasterEnable fn on d).lnk = d.lnk ∧ (opBusMasterEnable fn on d).cl = d.cl ∧ (opBusMasterEnable fn on d).ten = d.ten ∧ (opBusMasterEnable fn on d).grants = d.grants ∧ (opBusMasterEnable fn on d).dma = d.dma ∧ (opBusMasterEnable fn on d).bsu = d.bsu ∧ (opBusMasterEnable fn on d).tmr = d.tmr ∧ (opBusMasterEnable fn on d).boot = d.boot ∧ (opBusMasterEnable fn on d).power = d.power ∧ (opBusMasterEnable fn on d).board = d.board ∧ (opBusMasterEnable fn on d).flash = d.flash ∧ (opBusMasterEnable fn on d).mail = d.mail ∧ (opBusMasterEnable fn on d).fuse = d.fuse := by unfold opBusMasterEnable; (repeat' split) <;> simp
@[simp] theorem sendWithheld_frame (fn v : Nat) (d : Dev) :
    (sendWithheld fn v d).clk = d.clk ∧ (sendWithheld fn v d).whl = d.whl ∧ (sendWithheld fn v d).span = d.span ∧ (sendWithheld fn v d).fab = d.fab ∧ (sendWithheld fn v d).lnk = d.lnk ∧ (sendWithheld fn v d).cl = d.cl ∧ (sendWithheld fn v d).ten = d.ten ∧ (sendWithheld fn v d).grants = d.grants ∧ (sendWithheld fn v d).dma = d.dma ∧ (sendWithheld fn v d).bsu = d.bsu ∧ (sendWithheld fn v d).tmr = d.tmr ∧ (sendWithheld fn v d).boot = d.boot ∧ (sendWithheld fn v d).power = d.power ∧ (sendWithheld fn v d).board = d.board ∧ (sendWithheld fn v d).flash = d.flash ∧ (sendWithheld fn v d).mail = d.mail ∧ (sendWithheld fn v d).fuse = d.fuse := by unfold sendWithheld; dsimp only; (repeat' split) <;> simp
@[simp] theorem opMsixUnmask_frame (fn : Nat) (v : Option Nat) (d : Dev) :
    (opMsixUnmask fn v d).clk = d.clk ∧ (opMsixUnmask fn v d).whl = d.whl ∧ (opMsixUnmask fn v d).span = d.span ∧ (opMsixUnmask fn v d).fab = d.fab ∧ (opMsixUnmask fn v d).lnk = d.lnk ∧ (opMsixUnmask fn v d).cl = d.cl ∧ (opMsixUnmask fn v d).ten = d.ten ∧ (opMsixUnmask fn v d).grants = d.grants ∧ (opMsixUnmask fn v d).dma = d.dma ∧ (opMsixUnmask fn v d).bsu = d.bsu ∧ (opMsixUnmask fn v d).tmr = d.tmr ∧ (opMsixUnmask fn v d).boot = d.boot ∧ (opMsixUnmask fn v d).power = d.power ∧ (opMsixUnmask fn v d).board = d.board ∧ (opMsixUnmask fn v d).flash = d.flash ∧ (opMsixUnmask fn v d).mail = d.mail ∧ (opMsixUnmask fn v d).fuse = d.fuse := by unfold opMsixUnmask; (repeat' split) <;> simp
@[simp] theorem aerUnc_frame (fn b : Nat) (d : Dev) :
    (aerUnc fn b d).clk = d.clk ∧ (aerUnc fn b d).whl = d.whl ∧ (aerUnc fn b d).span = d.span ∧ (aerUnc fn b d).fab = d.fab ∧ (aerUnc fn b d).lnk = d.lnk ∧ (aerUnc fn b d).cl = d.cl ∧ (aerUnc fn b d).ten = d.ten ∧ (aerUnc fn b d).grants = d.grants ∧ (aerUnc fn b d).dma = d.dma ∧ (aerUnc fn b d).bsu = d.bsu ∧ (aerUnc fn b d).tmr = d.tmr ∧ (aerUnc fn b d).boot = d.boot ∧ (aerUnc fn b d).power = d.power ∧ (aerUnc fn b d).board = d.board ∧ (aerUnc fn b d).flash = d.flash ∧ (aerUnc fn b d).mail = d.mail ∧ (aerUnc fn b d).fuse = d.fuse := by simp [aerUnc]
@[simp] theorem aerCor_frame (b : Nat) (d : Dev) :
    (aerCor b d).clk = d.clk ∧ (aerCor b d).whl = d.whl ∧ (aerCor b d).span = d.span ∧ (aerCor b d).fab = d.fab ∧ (aerCor b d).lnk = d.lnk ∧ (aerCor b d).cl = d.cl ∧ (aerCor b d).ten = d.ten ∧ (aerCor b d).grants = d.grants ∧ (aerCor b d).dma = d.dma ∧ (aerCor b d).bsu = d.bsu ∧ (aerCor b d).tmr = d.tmr ∧ (aerCor b d).boot = d.boot ∧ (aerCor b d).power = d.power ∧ (aerCor b d).board = d.board ∧ (aerCor b d).flash = d.flash ∧ (aerCor b d).mail = d.mail ∧ (aerCor b d).fuse = d.fuse := by simp [aerCor]
@[simp] theorem failFetch_frame (f : Fetch) (came : List Byte) (d : Dev) :
    (failFetch f came d).clk = d.clk ∧ (failFetch f came d).whl = d.whl ∧ (failFetch f came d).span = d.span ∧ (failFetch f came d).fab = d.fab ∧ (failFetch f came d).lnk = d.lnk ∧ (failFetch f came d).cl = d.cl ∧ (failFetch f came d).grants = d.grants ∧ (failFetch f came d).dma = d.dma ∧ (failFetch f came d).bsu = d.bsu ∧ (failFetch f came d).tmr = d.tmr ∧ (failFetch f came d).power = d.power ∧ (failFetch f came d).board = d.board ∧ (failFetch f came d).flash = d.flash ∧ (failFetch f came d).fuse = d.fuse := by unfold failFetch; (repeat' split) <;> simp
@[simp] theorem failRead_frame (r : ReadRef) (d : Dev) :
    (failRead r d).clk = d.clk ∧ (failRead r d).whl = d.whl ∧ (failRead r d).span = d.span ∧ (failRead r d).fab = d.fab ∧ (failRead r d).lnk = d.lnk ∧ (failRead r d).cl = d.cl ∧ (failRead r d).grants = d.grants ∧ (failRead r d).bsu = d.bsu ∧ (failRead r d).tmr = d.tmr ∧ (failRead r d).power = d.power ∧ (failRead r d).board = d.board ∧ (failRead r d).flash = d.flash ∧ (failRead r d).fuse = d.fuse := by unfold failRead; dsimp only; (repeat' split) <;> simp
@[simp] theorem opCompletionTimeout_frame (r : ReadRef) (d : Dev) :
    (opCompletionTimeout r d).clk = d.clk ∧ (opCompletionTimeout r d).whl = d.whl ∧ (opCompletionTimeout r d).span = d.span ∧ (opCompletionTimeout r d).fab = d.fab ∧ (opCompletionTimeout r d).lnk = d.lnk ∧ (opCompletionTimeout r d).cl = d.cl ∧ (opCompletionTimeout r d).grants = d.grants ∧ (opCompletionTimeout r d).bsu = d.bsu ∧ (opCompletionTimeout r d).tmr = d.tmr ∧ (opCompletionTimeout r d).power = d.power ∧ (opCompletionTimeout r d).board = d.board ∧ (opCompletionTimeout r d).flash = d.flash ∧ (opCompletionTimeout r d).fuse = d.fuse := by simp [opCompletionTimeout]
@[simp] theorem opUnsupportedRequest_frame (fn : Nat) (read : Bool) (d : Dev) :
    (opUnsupportedRequest fn read d).clk = d.clk ∧ (opUnsupportedRequest fn read d).whl = d.whl ∧ (opUnsupportedRequest fn read d).span = d.span ∧ (opUnsupportedRequest fn read d).fab = d.fab ∧ (opUnsupportedRequest fn read d).lnk = d.lnk ∧ (opUnsupportedRequest fn read d).cl = d.cl ∧ (opUnsupportedRequest fn read d).ten = d.ten ∧ (opUnsupportedRequest fn read d).grants = d.grants ∧ (opUnsupportedRequest fn read d).dma = d.dma ∧ (opUnsupportedRequest fn read d).bsu = d.bsu ∧ (opUnsupportedRequest fn read d).tmr = d.tmr ∧ (opUnsupportedRequest fn read d).boot = d.boot ∧ (opUnsupportedRequest fn read d).power = d.power ∧ (opUnsupportedRequest fn read d).board = d.board ∧ (opUnsupportedRequest fn read d).flash = d.flash ∧ (opUnsupportedRequest fn read d).mail = d.mail ∧ (opUnsupportedRequest fn read d).fuse = d.fuse := by unfold opUnsupportedRequest; (repeat' split) <;> simp
@[simp] theorem opPcieErrorReceived_frame (e : PcieError) (d : Dev) :
    (opPcieErrorReceived e d).clk = d.clk ∧ (opPcieErrorReceived e d).whl = d.whl ∧ (opPcieErrorReceived e d).span = d.span ∧ (opPcieErrorReceived e d).fab = d.fab ∧ (opPcieErrorReceived e d).lnk = d.lnk ∧ (opPcieErrorReceived e d).cl = d.cl ∧ (opPcieErrorReceived e d).grants = d.grants ∧ (opPcieErrorReceived e d).bsu = d.bsu ∧ (opPcieErrorReceived e d).tmr = d.tmr ∧ (opPcieErrorReceived e d).power = d.power ∧ (opPcieErrorReceived e d).board = d.board ∧ (opPcieErrorReceived e d).flash = d.flash ∧ (opPcieErrorReceived e d).fuse = d.fuse := by unfold opPcieErrorReceived; (repeat' split) <;> simp
@[simp] theorem opFetchCompletion_frame (id : Nat) (data : List Byte) (d : Dev) :
    (opFetchCompletion id data d).clk = d.clk ∧ (opFetchCompletion id data d).whl = d.whl ∧ (opFetchCompletion id data d).span = d.span ∧ (opFetchCompletion id data d).fab = d.fab ∧ (opFetchCompletion id data d).lnk = d.lnk ∧ (opFetchCompletion id data d).cl = d.cl ∧ (opFetchCompletion id data d).ten = d.ten ∧ (opFetchCompletion id data d).grants = d.grants ∧ (opFetchCompletion id data d).dma = d.dma ∧ (opFetchCompletion id data d).bsu = d.bsu ∧ (opFetchCompletion id data d).tmr = d.tmr ∧ (opFetchCompletion id data d).power = d.power ∧ (opFetchCompletion id data d).board = d.board ∧ (opFetchCompletion id data d).flash = d.flash ∧ (opFetchCompletion id data d).mail = d.mail ∧ (opFetchCompletion id data d).fuse = d.fuse := by unfold opFetchCompletion; dsimp only; (repeat' split) <;> simp
@[simp] theorem startFlr_frame (fn : Nat) (d : Dev) :
    (startFlr fn d).clk = d.clk ∧ (startFlr fn d).whl = d.whl ∧ (startFlr fn d).span = d.span ∧ (startFlr fn d).fab = d.fab ∧ (startFlr fn d).lnk = d.lnk ∧ (startFlr fn d).cl = d.cl ∧ (startFlr fn d).grants = d.grants ∧ (startFlr fn d).bsu = d.bsu ∧ (startFlr fn d).tmr = d.tmr ∧ (startFlr fn d).boot = d.boot ∧ (startFlr fn d).power = d.power ∧ (startFlr fn d).board = d.board ∧ (startFlr fn d).flash = d.flash ∧ (startFlr fn d).mail = d.mail ∧ (startFlr fn d).fuse = d.fuse := by simp [startFlr]
@[simp] theorem opFunctionLevelReset_frame (fn : Nat) (d : Dev) :
    (opFunctionLevelReset fn d).clk = d.clk ∧ (opFunctionLevelReset fn d).whl = d.whl ∧ (opFunctionLevelReset fn d).span = d.span ∧ (opFunctionLevelReset fn d).fab = d.fab ∧ (opFunctionLevelReset fn d).lnk = d.lnk ∧ (opFunctionLevelReset fn d).cl = d.cl ∧ (opFunctionLevelReset fn d).grants = d.grants ∧ (opFunctionLevelReset fn d).bsu = d.bsu ∧ (opFunctionLevelReset fn d).tmr = d.tmr ∧ (opFunctionLevelReset fn d).boot = d.boot ∧ (opFunctionLevelReset fn d).power = d.power ∧ (opFunctionLevelReset fn d).board = d.board ∧ (opFunctionLevelReset fn d).flash = d.flash ∧ (opFunctionLevelReset fn d).mail = d.mail ∧ (opFunctionLevelReset fn d).fuse = d.fuse := by unfold opFunctionLevelReset; (repeat' split) <;> simp
@[simp] theorem flrTenancy_frame (t gc : Nat) (d : Dev) :
    (flrTenancy t gc d).clk = d.clk ∧ (flrTenancy t gc d).whl = d.whl ∧ (flrTenancy t gc d).span = d.span ∧ (flrTenancy t gc d).grants = d.grants ∧ (flrTenancy t gc d).boot = d.boot ∧ (flrTenancy t gc d).power = d.power ∧ (flrTenancy t gc d).board = d.board ∧ (flrTenancy t gc d).flash = d.flash ∧ (flrTenancy t gc d).mail = d.mail ∧ (flrTenancy t gc d).fuse = d.fuse := by unfold flrTenancy; (repeat' split) <;> simp
@[simp] theorem opFlrComplete_frame (fn : Nat) (d : Dev) :
    (opFlrComplete fn d).clk = d.clk ∧ (opFlrComplete fn d).whl = d.whl ∧ (opFlrComplete fn d).span = d.span ∧ (opFlrComplete fn d).grants = d.grants ∧ (opFlrComplete fn d).boot = d.boot ∧ (opFlrComplete fn d).power = d.power ∧ (opFlrComplete fn d).board = d.board ∧ (opFlrComplete fn d).flash = d.flash ∧ (opFlrComplete fn d).mail = d.mail ∧ (opFlrComplete fn d).fuse = d.fuse := by unfold opFlrComplete; dsimp only; (repeat' split) <;> simp
@[simp] theorem opVfEnableClear_frame (d : Dev) :
    (opVfEnableClear d).clk = d.clk ∧ (opVfEnableClear d).whl = d.whl ∧ (opVfEnableClear d).span = d.span ∧ (opVfEnableClear d).fab = d.fab ∧ (opVfEnableClear d).lnk = d.lnk ∧ (opVfEnableClear d).cl = d.cl ∧ (opVfEnableClear d).grants = d.grants ∧ (opVfEnableClear d).bsu = d.bsu ∧ (opVfEnableClear d).tmr = d.tmr ∧ (opVfEnableClear d).boot = d.boot ∧ (opVfEnableClear d).power = d.power ∧ (opVfEnableClear d).board = d.board ∧ (opVfEnableClear d).flash = d.flash ∧ (opVfEnableClear d).mail = d.mail ∧ (opVfEnableClear d).fuse = d.fuse := by unfold opVfEnableClear; (try dsimp only); (repeat' split) <;> simp [apply_ite Dev.clk, apply_ite Dev.whl, apply_ite Dev.span, apply_ite Dev.fab, apply_ite Dev.lnk, apply_ite Dev.cl, apply_ite Dev.grants, apply_ite Dev.bsu, apply_ite Dev.tmr, apply_ite Dev.boot, apply_ite Dev.power, apply_ite Dev.board, apply_ite Dev.flash, apply_ite Dev.mail, apply_ite Dev.fuse]

/-! ## Machine/Registers.lean -/

@[simp] theorem sendEntry_frame (e : Option Nat) (d : Dev) :
    (sendEntry e d).clk = d.clk ∧ (sendEntry e d).whl = d.whl ∧ (sendEntry e d).span = d.span ∧ (sendEntry e d).fab = d.fab ∧ (sendEntry e d).lnk = d.lnk ∧ (sendEntry e d).cl = d.cl ∧ (sendEntry e d).ten = d.ten ∧ (sendEntry e d).grants = d.grants ∧ (sendEntry e d).dma = d.dma ∧ (sendEntry e d).bsu = d.bsu ∧ (sendEntry e d).tmr = d.tmr ∧ (sendEntry e d).boot = d.boot ∧ (sendEntry e d).power = d.power ∧ (sendEntry e d).board = d.board ∧ (sendEntry e d).flash = d.flash ∧ (sendEntry e d).mail = d.mail ∧ (sendEntry e d).fuse = d.fuse := by unfold sendEntry; (repeat' split) <;> simp
@[simp] theorem putCause_frame (e : Option Nat) (v : BitVec 32) (d : Dev) :
    (putCause e v d).clk = d.clk ∧ (putCause e v d).whl = d.whl ∧ (putCause e v d).span = d.span ∧ (putCause e v d).fab = d.fab ∧ (putCause e v d).lnk = d.lnk ∧ (putCause e v d).cl = d.cl ∧ (putCause e v d).grants = d.grants ∧ (putCause e v d).dma = d.dma ∧ (putCause e v d).bsu = d.bsu ∧ (putCause e v d).tmr = d.tmr ∧ (putCause e v d).boot = d.boot ∧ (putCause e v d).power = d.power ∧ (putCause e v d).board = d.board ∧ (putCause e v d).flash = d.flash ∧ (putCause e v d).mail = d.mail ∧ (putCause e v d).fuse = d.fuse := by unfold putCause; (repeat' split) <;> simp
@[simp] theorem putEnable_frame (e : Option Nat) (v : BitVec 32) (d : Dev) :
    (putEnable e v d).clk = d.clk ∧ (putEnable e v d).whl = d.whl ∧ (putEnable e v d).span = d.span ∧ (putEnable e v d).fab = d.fab ∧ (putEnable e v d).lnk = d.lnk ∧ (putEnable e v d).cl = d.cl ∧ (putEnable e v d).grants = d.grants ∧ (putEnable e v d).dma = d.dma ∧ (putEnable e v d).bsu = d.bsu ∧ (putEnable e v d).tmr = d.tmr ∧ (putEnable e v d).boot = d.boot ∧ (putEnable e v d).power = d.power ∧ (putEnable e v d).board = d.board ∧ (putEnable e v d).flash = d.flash ∧ (putEnable e v d).mail = d.mail ∧ (putEnable e v d).fuse = d.fuse := by unfold putEnable; (repeat' split) <;> simp
@[simp] theorem clearCause_frame (e : Option Nat) (mask occurs : BitVec 32) (d : Dev) :
    (clearCause e mask occurs d).clk = d.clk ∧ (clearCause e mask occurs d).whl = d.whl ∧ (clearCause e mask occurs d).span = d.span ∧ (clearCause e mask occurs d).fab = d.fab ∧ (clearCause e mask occurs d).lnk = d.lnk ∧ (clearCause e mask occurs d).cl = d.cl ∧ (clearCause e mask occurs d).grants = d.grants ∧ (clearCause e mask occurs d).dma = d.dma ∧ (clearCause e mask occurs d).bsu = d.bsu ∧ (clearCause e mask occurs d).tmr = d.tmr ∧ (clearCause e mask occurs d).boot = d.boot ∧ (clearCause e mask occurs d).power = d.power ∧ (clearCause e mask occurs d).board = d.board ∧ (clearCause e mask occurs d).flash = d.flash ∧ (clearCause e mask occurs d).mail = d.mail ∧ (clearCause e mask occurs d).fuse = d.fuse := by simp [clearCause]
@[simp] theorem opCauseClear_frame (fn : Nat) (e : Option Nat) (mask occurs : BitVec 32) (d : Dev) :
    (opCauseClear fn e mask occurs d).clk = d.clk ∧ (opCauseClear fn e mask occurs d).whl = d.whl ∧ (opCauseClear fn e mask occurs d).span = d.span ∧ (opCauseClear fn e mask occurs d).fab = d.fab ∧ (opCauseClear fn e mask occurs d).lnk = d.lnk ∧ (opCauseClear fn e mask occurs d).cl = d.cl ∧ (opCauseClear fn e mask occurs d).grants = d.grants ∧ (opCauseClear fn e mask occurs d).dma = d.dma ∧ (opCauseClear fn e mask occurs d).bsu = d.bsu ∧ (opCauseClear fn e mask occurs d).tmr = d.tmr ∧ (opCauseClear fn e mask occurs d).boot = d.boot ∧ (opCauseClear fn e mask occurs d).power = d.power ∧ (opCauseClear fn e mask occurs d).board = d.board ∧ (opCauseClear fn e mask occurs d).flash = d.flash ∧ (opCauseClear fn e mask occurs d).mail = d.mail ∧ (opCauseClear fn e mask occurs d).fuse = d.fuse := by unfold opCauseClear; (repeat' split) <;> simp
@[simp] theorem setEnable_frame (e : Option Nat) (v : BitVec 32) (d : Dev) :
    (setEnable e v d).clk = d.clk ∧ (setEnable e v d).whl = d.whl ∧ (setEnable e v d).span = d.span ∧ (setEnable e v d).fab = d.fab ∧ (setEnable e v d).lnk = d.lnk ∧ (setEnable e v d).cl = d.cl ∧ (setEnable e v d).grants = d.grants ∧ (setEnable e v d).dma = d.dma ∧ (setEnable e v d).bsu = d.bsu ∧ (setEnable e v d).tmr = d.tmr ∧ (setEnable e v d).boot = d.boot ∧ (setEnable e v d).power = d.power ∧ (setEnable e v d).board = d.board ∧ (setEnable e v d).flash = d.flash ∧ (setEnable e v d).mail = d.mail ∧ (setEnable e v d).fuse = d.fuse := by simp [setEnable]
@[simp] theorem opCauseEnable_frame (fn : Nat) (e : Option Nat) (v : BitVec 32) (d : Dev) :
    (opCauseEnable fn e v d).clk = d.clk ∧ (opCauseEnable fn e v d).whl = d.whl ∧ (opCauseEnable fn e v d).span = d.span ∧ (opCauseEnable fn e v d).fab = d.fab ∧ (opCauseEnable fn e v d).lnk = d.lnk ∧ (opCauseEnable fn e v d).cl = d.cl ∧ (opCauseEnable fn e v d).grants = d.grants ∧ (opCauseEnable fn e v d).dma = d.dma ∧ (opCauseEnable fn e v d).bsu = d.bsu ∧ (opCauseEnable fn e v d).tmr = d.tmr ∧ (opCauseEnable fn e v d).boot = d.boot ∧ (opCauseEnable fn e v d).power = d.power ∧ (opCauseEnable fn e v d).board = d.board ∧ (opCauseEnable fn e v d).flash = d.flash ∧ (opCauseEnable fn e v d).mail = d.mail ∧ (opCauseEnable fn e v d).fuse = d.fuse := by unfold opCauseEnable; (repeat' split) <;> simp
@[simp] theorem writeState_frame (off : Nat) (v0 lasts : W32) (d : Dev) :
    (writeState off v0 lasts d).clk = d.clk ∧ (writeState off v0 lasts d).whl = d.whl ∧ (writeState off v0 lasts d).span = d.span ∧ (writeState off v0 lasts d).fab = d.fab ∧ (writeState off v0 lasts d).lnk = d.lnk ∧ (writeState off v0 lasts d).cl = d.cl ∧ (writeState off v0 lasts d).ten = d.ten ∧ (writeState off v0 lasts d).grants = d.grants ∧ (writeState off v0 lasts d).dma = d.dma ∧ (writeState off v0 lasts d).bsu = d.bsu ∧ (writeState off v0 lasts d).tmr = d.tmr ∧ (writeState off v0 lasts d).power = d.power ∧ (writeState off v0 lasts d).board = d.board ∧ (writeState off v0 lasts d).flash = d.flash ∧ (writeState off v0 lasts d).mail = d.mail ∧ (writeState off v0 lasts d).fuse = d.fuse := by unfold writeState; (repeat' split) <;> simp
@[simp] theorem writeMailbox_frame (off : Nat) (v : W32) (d : Dev) :
    (writeMailbox off v d).clk = d.clk ∧ (writeMailbox off v d).whl = d.whl ∧ (writeMailbox off v d).span = d.span ∧ (writeMailbox off v d).fab = d.fab ∧ (writeMailbox off v d).lnk = d.lnk ∧ (writeMailbox off v d).cl = d.cl ∧ (writeMailbox off v d).ten = d.ten ∧ (writeMailbox off v d).grants = d.grants ∧ (writeMailbox off v d).dma = d.dma ∧ (writeMailbox off v d).bsu = d.bsu ∧ (writeMailbox off v d).tmr = d.tmr ∧ (writeMailbox off v d).boot = d.boot ∧ (writeMailbox off v d).power = d.power ∧ (writeMailbox off v d).board = d.board ∧ (writeMailbox off v d).flash = d.flash ∧ (writeMailbox off v d).fuse = d.fuse := by unfold writeMailbox; (repeat' split) <;> simp
@[simp] theorem writeTmr_frame (fn : Nat) (all : Bool) (off : Nat) (v : W32) (d : Dev) :
    (writeTmr fn all off v d).clk = d.clk ∧ (writeTmr fn all off v d).whl = d.whl ∧ (writeTmr fn all off v d).span = d.span ∧ (writeTmr fn all off v d).fab = d.fab ∧ (writeTmr fn all off v d).lnk = d.lnk ∧ (writeTmr fn all off v d).cl = d.cl ∧ (writeTmr fn all off v d).ten = d.ten ∧ (writeTmr fn all off v d).grants = d.grants ∧ (writeTmr fn all off v d).host = d.host ∧ (writeTmr fn all off v d).dma = d.dma ∧ (writeTmr fn all off v d).bsu = d.bsu ∧ (writeTmr fn all off v d).boot = d.boot ∧ (writeTmr fn all off v d).power = d.power ∧ (writeTmr fn all off v d).board = d.board ∧ (writeTmr fn all off v d).flash = d.flash ∧ (writeTmr fn all off v d).mail = d.mail ∧ (writeTmr fn all off v d).fuse = d.fuse := by unfold writeTmr; dsimp only; (repeat' split) <;> simp
@[simp] theorem writePart_frame (off : Nat) (v : W32) (d : Dev) :
    (writePart off v d).clk = d.clk ∧ (writePart off v d).whl = d.whl ∧ (writePart off v d).span = d.span ∧ (writePart off v d).fab = d.fab ∧ (writePart off v d).lnk = d.lnk ∧ (writePart off v d).cl = d.cl ∧ (writePart off v d).ten = d.ten ∧ (writePart off v d).host = d.host ∧ (writePart off v d).dma = d.dma ∧ (writePart off v d).bsu = d.bsu ∧ (writePart off v d).tmr = d.tmr ∧ (writePart off v d).boot = d.boot ∧ (writePart off v d).power = d.power ∧ (writePart off v d).board = d.board ∧ (writePart off v d).flash = d.flash ∧ (writePart off v d).mail = d.mail ∧ (writePart off v d).fuse = d.fuse := by unfold writePart; (repeat' split) <;> simp
@[simp] theorem writeSpanBlock_frame (off : Nat) (v : W32) (d : Dev) :
    (writeSpanBlock off v d).clk = d.clk ∧ (writeSpanBlock off v d).span = d.span ∧ (writeSpanBlock off v d).fab = d.fab ∧ (writeSpanBlock off v d).lnk = d.lnk ∧ (writeSpanBlock off v d).cl = d.cl ∧ (writeSpanBlock off v d).ten = d.ten ∧ (writeSpanBlock off v d).grants = d.grants ∧ (writeSpanBlock off v d).host = d.host ∧ (writeSpanBlock off v d).dma = d.dma ∧ (writeSpanBlock off v d).bsu = d.bsu ∧ (writeSpanBlock off v d).tmr = d.tmr ∧ (writeSpanBlock off v d).boot = d.boot ∧ (writeSpanBlock off v d).power = d.power ∧ (writeSpanBlock off v d).board = d.board ∧ (writeSpanBlock off v d).flash = d.flash ∧ (writeSpanBlock off v d).mail = d.mail ∧ (writeSpanBlock off v d).fuse = d.fuse := by unfold writeSpanBlock; (repeat' split) <;> simp
@[simp] theorem putVector_frame (e : Option Nat) (fn : Nat) (v : W32) (d : Dev) :
    (putVector e fn v d).clk = d.clk ∧ (putVector e fn v d).whl = d.whl ∧ (putVector e fn v d).span = d.span ∧ (putVector e fn v d).fab = d.fab ∧ (putVector e fn v d).lnk = d.lnk ∧ (putVector e fn v d).cl = d.cl ∧ (putVector e fn v d).grants = d.grants ∧ (putVector e fn v d).dma = d.dma ∧ (putVector e fn v d).bsu = d.bsu ∧ (putVector e fn v d).tmr = d.tmr ∧ (putVector e fn v d).boot = d.boot ∧ (putVector e fn v d).power = d.power ∧ (putVector e fn v d).board = d.board ∧ (putVector e fn v d).flash = d.flash ∧ (putVector e fn v d).mail = d.mail ∧ (putVector e fn v d).fuse = d.fuse := by unfold putVector; dsimp only; (repeat' split) <;> simp
@[simp] theorem writeMsix_frame (fn off : Nat) (v : W32) (d : Dev) :
    (writeMsix fn off v d).clk = d.clk ∧ (writeMsix fn off v d).whl = d.whl ∧ (writeMsix fn off v d).span = d.span ∧ (writeMsix fn off v d).fab = d.fab ∧ (writeMsix fn off v d).lnk = d.lnk ∧ (writeMsix fn off v d).cl = d.cl ∧ (writeMsix fn off v d).ten = d.ten ∧ (writeMsix fn off v d).grants = d.grants ∧ (writeMsix fn off v d).dma = d.dma ∧ (writeMsix fn off v d).bsu = d.bsu ∧ (writeMsix fn off v d).tmr = d.tmr ∧ (writeMsix fn off v d).boot = d.boot ∧ (writeMsix fn off v d).power = d.power ∧ (writeMsix fn off v d).board = d.board ∧ (writeMsix fn off v d).flash = d.flash ∧ (writeMsix fn off v d).mail = d.mail ∧ (writeMsix fn off v d).fuse = d.fuse := by unfold writeMsix; dsimp only; (repeat' split) <;> simp
@[simp] theorem writeIntr_frame (fn : Nat) (all : Bool) (off : Nat) (v : W32) (d : Dev) :
    (writeIntr fn all off v d).clk = d.clk ∧ (writeIntr fn all off v d).whl = d.whl ∧ (writeIntr fn all off v d).span = d.span ∧ (writeIntr fn all off v d).fab = d.fab ∧ (writeIntr fn all off v d).lnk = d.lnk ∧ (writeIntr fn all off v d).cl = d.cl ∧ (writeIntr fn all off v d).grants = d.grants ∧ (writeIntr fn all off v d).dma = d.dma ∧ (writeIntr fn all off v d).bsu = d.bsu ∧ (writeIntr fn all off v d).tmr = d.tmr ∧ (writeIntr fn all off v d).boot = d.boot ∧ (writeIntr fn all off v d).power = d.power ∧ (writeIntr fn all off v d).board = d.board ∧ (writeIntr fn all off v d).flash = d.flash ∧ (writeIntr fn all off v d).mail = d.mail ∧ (writeIntr fn all off v d).fuse = d.fuse := by unfold writeIntr; dsimp only; (repeat' split) <;> simp
@[simp] theorem writeThermal_frame (off : Nat) (v droop : W32) (d : Dev) :
    (writeThermal off v droop d).whl = d.whl ∧ (writeThermal off v droop d).span = d.span ∧ (writeThermal off v droop d).fab = d.fab ∧ (writeThermal off v droop d).lnk = d.lnk ∧ (writeThermal off v droop d).cl = d.cl ∧ (writeThermal off v droop d).ten = d.ten ∧ (writeThermal off v droop d).grants = d.grants ∧ (writeThermal off v droop d).host = d.host ∧ (writeThermal off v droop d).dma = d.dma ∧ (writeThermal off v droop d).bsu = d.bsu ∧ (writeThermal off v droop d).tmr = d.tmr ∧ (writeThermal off v droop d).boot = d.boot ∧ (writeThermal off v droop d).power = d.power ∧ (writeThermal off v droop d).board = d.board ∧ (writeThermal off v droop d).flash = d.flash ∧ (writeThermal off v droop d).mail = d.mail ∧ (writeThermal off v droop d).fuse = d.fuse := by unfold writeThermal; (repeat' split) <;> simp
@[simp] theorem writeRing_frame (fn : Nat) (all : Bool) (off : Nat) (v : W32) (d : Dev) :
    (writeRing fn all off v d).clk = d.clk ∧ (writeRing fn all off v d).whl = d.whl ∧ (writeRing fn all off v d).span = d.span ∧ (writeRing fn all off v d).fab = d.fab ∧ (writeRing fn all off v d).lnk = d.lnk ∧ (writeRing fn all off v d).cl = d.cl ∧ (writeRing fn all off v d).ten = d.ten ∧ (writeRing fn all off v d).grants = d.grants ∧ (writeRing fn all off v d).dma = d.dma ∧ (writeRing fn all off v d).bsu = d.bsu ∧ (writeRing fn all off v d).tmr = d.tmr ∧ (writeRing fn all off v d).boot = d.boot ∧ (writeRing fn all off v d).power = d.power ∧ (writeRing fn all off v d).board = d.board ∧ (writeRing fn all off v d).flash = d.flash ∧ (writeRing fn all off v d).mail = d.mail ∧ (writeRing fn all off v d).fuse = d.fuse := by unfold writeRing; dsimp only; (repeat' split) <;> simp
@[simp] theorem writeReg_frame (fn : Nat) (all : Bool) (off : Nat) (v droop : W32) (d : Dev) :
    (writeReg fn all off v droop d).span = d.span ∧ (writeReg fn all off v droop d).fab = d.fab ∧ (writeReg fn all off v droop d).lnk = d.lnk ∧ (writeReg fn all off v droop d).cl = d.cl ∧ (writeReg fn all off v droop d).dma = d.dma ∧ (writeReg fn all off v droop d).bsu = d.bsu ∧ (writeReg fn all off v droop d).power = d.power ∧ (writeReg fn all off v droop d).board = d.board ∧ (writeReg fn all off v droop d).flash = d.flash ∧ (writeReg fn all off v droop d).fuse = d.fuse := by unfold writeReg; dsimp only; (repeat' split) <;> simp
@[simp] theorem opRegisterWrite_frame (fn off : Nat) (v droop : W32) (d : Dev) :
    (opRegisterWrite fn off v droop d).span = d.span ∧ (opRegisterWrite fn off v droop d).fab = d.fab ∧ (opRegisterWrite fn off v droop d).lnk = d.lnk ∧ (opRegisterWrite fn off v droop d).cl = d.cl ∧ (opRegisterWrite fn off v droop d).dma = d.dma ∧ (opRegisterWrite fn off v droop d).bsu = d.bsu ∧ (opRegisterWrite fn off v droop d).power = d.power ∧ (opRegisterWrite fn off v droop d).board = d.board ∧ (opRegisterWrite fn off v droop d).flash = d.flash ∧ (opRegisterWrite fn off v droop d).fuse = d.fuse := by unfold opRegisterWrite; (repeat' split) <;> simp

/-! ## Machine/Board.lean -/

@[simp] theorem cleanTable_frame (a : Nat) (f : Fab → Fab) (d : Dev) :
    (cleanTable a f d).clk = d.clk ∧ (cleanTable a f d).whl = d.whl ∧ (cleanTable a f d).span = d.span ∧ (cleanTable a f d).lnk = d.lnk ∧ (cleanTable a f d).cl = d.cl ∧ (cleanTable a f d).ten = d.ten ∧ (cleanTable a f d).grants = d.grants ∧ (cleanTable a f d).host = d.host ∧ (cleanTable a f d).dma = d.dma ∧ (cleanTable a f d).bsu = d.bsu ∧ (cleanTable a f d).tmr = d.tmr ∧ (cleanTable a f d).boot = d.boot ∧ (cleanTable a f d).power = d.power ∧ (cleanTable a f d).board = d.board ∧ (cleanTable a f d).flash = d.flash ∧ (cleanTable a f d).mail = d.mail ∧ (cleanTable a f d).fuse = d.fuse := by simp [cleanTable]
@[simp] theorem putLambda_frame (l p : Nat) (v : W32) (d : Dev) :
    (putLambda l p v d).clk = d.clk ∧ (putLambda l p v d).whl = d.whl ∧ (putLambda l p v d).span = d.span ∧ (putLambda l p v d).cl = d.cl ∧ (putLambda l p v d).ten = d.ten ∧ (putLambda l p v d).grants = d.grants ∧ (putLambda l p v d).host = d.host ∧ (putLambda l p v d).dma = d.dma ∧ (putLambda l p v d).bsu = d.bsu ∧ (putLambda l p v d).tmr = d.tmr ∧ (putLambda l p v d).boot = d.boot ∧ (putLambda l p v d).power = d.power ∧ (putLambda l p v d).board = d.board ∧ (putLambda l p v d).flash = d.flash ∧ (putLambda l p v d).mail = d.mail ∧ (putLambda l p v d).fuse = d.fuse := by simp [putLambda]
@[simp] theorem putSlot_frame (cl ix slot : Nat) (v : Nat) (d : Dev) :
    (putSlot cl ix slot v d).clk = d.clk ∧ (putSlot cl ix slot v d).whl = d.whl ∧ (putSlot cl ix slot v d).span = d.span ∧ (putSlot cl ix slot v d).fab = d.fab ∧ (putSlot cl ix slot v d).lnk = d.lnk ∧ (putSlot cl ix slot v d).ten = d.ten ∧ (putSlot cl ix slot v d).grants = d.grants ∧ (putSlot cl ix slot v d).host = d.host ∧ (putSlot cl ix slot v d).dma = d.dma ∧ (putSlot cl ix slot v d).bsu = d.bsu ∧ (putSlot cl ix slot v d).tmr = d.tmr ∧ (putSlot cl ix slot v d).boot = d.boot ∧ (putSlot cl ix slot v d).power = d.power ∧ (putSlot cl ix slot v d).board = d.board ∧ (putSlot cl ix slot v d).flash = d.flash ∧ (putSlot cl ix slot v d).mail = d.mail ∧ (putSlot cl ix slot v d).fuse = d.fuse := by unfold putSlot; (repeat' split) <;> simp
@[simp] theorem putPlace_frame (a : Nat) (p : BoardPlace) (half : Option Nat) (v : Nat) (droop : W32) (d : Dev) :
    (putPlace a p half v droop d).span = d.span ∧ (putPlace a p half v droop d).dma = d.dma ∧ (putPlace a p half v droop d).bsu = d.bsu ∧ (putPlace a p half v droop d).power = d.power ∧ (putPlace a p half v droop d).board = d.board ∧ (putPlace a p half v droop d).flash = d.flash ∧ (putPlace a p half v droop d).fuse = d.fuse := by unfold putPlace; dsimp only; (repeat' split) <;> simp
@[simp] theorem accPane_frame (cl : Nat) (x : BoardAcc) (d : Dev) :
    (accPane cl x d).2.clk = d.clk ∧ (accPane cl x d).2.whl = d.whl ∧ (accPane cl x d).2.span = d.span ∧ (accPane cl x d).2.fab = d.fab ∧ (accPane cl x d).2.lnk = d.lnk ∧ (accPane cl x d).2.ten = d.ten ∧ (accPane cl x d).2.grants = d.grants ∧ (accPane cl x d).2.host = d.host ∧ (accPane cl x d).2.dma = d.dma ∧ (accPane cl x d).2.bsu = d.bsu ∧ (accPane cl x d).2.tmr = d.tmr ∧ (accPane cl x d).2.boot = d.boot ∧ (accPane cl x d).2.power = d.power ∧ (accPane cl x d).2.board = d.board ∧ (accPane cl x d).2.flash = d.flash ∧ (accPane cl x d).2.mail = d.mail ∧ (accPane cl x d).2.fuse = d.fuse := by unfold accPane; dsimp only; (repeat' split) <;> simp
@[simp] theorem accColumn_frame (cl l m : Nat) (x : BoardAcc) (d : Dev) :
    (accColumn cl l m x d).2.clk = d.clk ∧ (accColumn cl l m x d).2.whl = d.whl ∧ (accColumn cl l m x d).2.span = d.span ∧ (accColumn cl l m x d).2.fab = d.fab ∧ (accColumn cl l m x d).2.lnk = d.lnk ∧ (accColumn cl l m x d).2.cl = d.cl ∧ (accColumn cl l m x d).2.ten = d.ten ∧ (accColumn cl l m x d).2.grants = d.grants ∧ (accColumn cl l m x d).2.host = d.host ∧ (accColumn cl l m x d).2.dma = d.dma ∧ (accColumn cl l m x d).2.bsu = d.bsu ∧ (accColumn cl l m x d).2.tmr = d.tmr ∧ (accColumn cl l m x d).2.boot = d.boot ∧ (accColumn cl l m x d).2.power = d.power ∧ (accColumn cl l m x d).2.board = d.board ∧ (accColumn cl l m x d).2.flash = d.flash ∧ (accColumn cl l m x d).2.mail = d.mail ∧ (accColumn cl l m x d).2.fuse = d.fuse := by unfold accColumn; (repeat' split) <;> simp
@[simp] theorem accShelf_frame (q : Nat) (x : BoardAcc) (d : Dev) :
    (accShelf q x d).2.clk = d.clk ∧ (accShelf q x d).2.whl = d.whl ∧ (accShelf q x d).2.span = d.span ∧ (accShelf q x d).2.fab = d.fab ∧ (accShelf q x d).2.lnk = d.lnk ∧ (accShelf q x d).2.cl = d.cl ∧ (accShelf q x d).2.ten = d.ten ∧ (accShelf q x d).2.grants = d.grants ∧ (accShelf q x d).2.host = d.host ∧ (accShelf q x d).2.dma = d.dma ∧ (accShelf q x d).2.bsu = d.bsu ∧ (accShelf q x d).2.tmr = d.tmr ∧ (accShelf q x d).2.boot = d.boot ∧ (accShelf q x d).2.power = d.power ∧ (accShelf q x d).2.board = d.board ∧ (accShelf q x d).2.flash = d.flash ∧ (accShelf q x d).2.mail = d.mail ∧ (accShelf q x d).2.fuse = d.fuse := by unfold accShelf; dsimp only; (repeat' split) <;> simp
@[simp] theorem accEnd_frame (x : BoardAcc) (failed : Bool) (v : Nat) (d : Dev) :
    (accEnd x failed v d).clk = d.clk ∧ (accEnd x failed v d).whl = d.whl ∧ (accEnd x failed v d).span = d.span ∧ (accEnd x failed v d).fab = d.fab ∧ (accEnd x failed v d).lnk = d.lnk ∧ (accEnd x failed v d).cl = d.cl ∧ (accEnd x failed v d).ten = d.ten ∧ (accEnd x failed v d).grants = d.grants ∧ (accEnd x failed v d).dma = d.dma ∧ (accEnd x failed v d).bsu = d.bsu ∧ (accEnd x failed v d).tmr = d.tmr ∧ (accEnd x failed v d).boot = d.boot ∧ (accEnd x failed v d).power = d.power ∧ (accEnd x failed v d).flash = d.flash ∧ (accEnd x failed v d).mail = d.mail ∧ (accEnd x failed v d).fuse = d.fuse := by unfold accEnd; (repeat' split) <;> simp
@[simp] theorem accNow_frame (p : BoardPlace) (x : BoardAcc) (d : Dev) :
    (accNow p x d).span = d.span ∧ (accNow p x d).dma = d.dma ∧ (accNow p x d).bsu = d.bsu ∧ (accNow p x d).power = d.power ∧ (accNow p x d).flash = d.flash ∧ (accNow p x d).fuse = d.fuse := by unfold accNow; (repeat' split) <;> simp
@[simp] theorem markAccess_frame (write : Bool) (d : Dev) :
    (markAccess write d).clk = d.clk ∧ (markAccess write d).whl = d.whl ∧ (markAccess write d).span = d.span ∧ (markAccess write d).fab = d.fab ∧ (markAccess write d).lnk = d.lnk ∧ (markAccess write d).cl = d.cl ∧ (markAccess write d).ten = d.ten ∧ (markAccess write d).grants = d.grants ∧ (markAccess write d).dma = d.dma ∧ (markAccess write d).bsu = d.bsu ∧ (markAccess write d).tmr = d.tmr ∧ (markAccess write d).power = d.power ∧ (markAccess write d).board = d.board ∧ (markAccess write d).flash = d.flash ∧ (markAccess write d).mail = d.mail ∧ (markAccess write d).fuse = d.fuse := by unfold markAccess; dsimp only; (repeat' split) <;> simp
@[simp] theorem accStart_frame (x : BoardAcc) (d0 : Dev) :
    (accStart x d0).span = d0.span ∧ (accStart x d0).dma = d0.dma ∧ (accStart x d0).bsu = d0.bsu ∧ (accStart x d0).power = d0.power ∧ (accStart x d0).flash = d0.flash ∧ (accStart x d0).fuse = d0.fuse := by unfold accStart; dsimp only; (repeat' split) <;> simp
@[simp] theorem boardShelf_frame (d : Dev) :
    (boardShelf d).clk = d.clk ∧ (boardShelf d).whl = d.whl ∧ (boardShelf d).span = d.span ∧ (boardShelf d).fab = d.fab ∧ (boardShelf d).lnk = d.lnk ∧ (boardShelf d).cl = d.cl ∧ (boardShelf d).ten = d.ten ∧ (boardShelf d).grants = d.grants ∧ (boardShelf d).dma = d.dma ∧ (boardShelf d).bsu = d.bsu ∧ (boardShelf d).tmr = d.tmr ∧ (boardShelf d).boot = d.boot ∧ (boardShelf d).power = d.power ∧ (boardShelf d).flash = d.flash ∧ (boardShelf d).mail = d.mail ∧ (boardShelf d).fuse = d.fuse := by simp [boardShelf]
@[simp] theorem opPhaseBegin_frame (p : Nat) (d : Dev) :
    (opPhaseBegin p d).clk = d.clk ∧ (opPhaseBegin p d).fab = d.fab ∧ (opPhaseBegin p d).lnk = d.lnk ∧ (opPhaseBegin p d).cl = d.cl ∧ (opPhaseBegin p d).ten = d.ten ∧ (opPhaseBegin p d).grants = d.grants ∧ (opPhaseBegin p d).dma = d.dma ∧ (opPhaseBegin p d).bsu = d.bsu ∧ (opPhaseBegin p d).tmr = d.tmr ∧ (opPhaseBegin p d).boot = d.boot ∧ (opPhaseBegin p d).power = d.power ∧ (opPhaseBegin p d).flash = d.flash ∧ (opPhaseBegin p d).mail = d.mail ∧ (opPhaseBegin p d).fuse = d.fuse := by unfold opPhaseBegin; dsimp only; (repeat' split) <;> simp
@[simp] theorem opColumnSlotBoard_frame (cl phase slot m : Nat) (d : Dev) :
    (opColumnSlotBoard cl phase slot m d).clk = d.clk ∧ (opColumnSlotBoard cl phase slot m d).whl = d.whl ∧ (opColumnSlotBoard cl phase slot m d).span = d.span ∧ (opColumnSlotBoard cl phase slot m d).fab = d.fab ∧ (opColumnSlotBoard cl phase slot m d).lnk = d.lnk ∧ (opColumnSlotBoard cl phase slot m d).cl = d.cl ∧ (opColumnSlotBoard cl phase slot m d).grants = d.grants ∧ (opColumnSlotBoard cl phase slot m d).dma = d.dma ∧ (opColumnSlotBoard cl phase slot m d).bsu = d.bsu ∧ (opColumnSlotBoard cl phase slot m d).tmr = d.tmr ∧ (opColumnSlotBoard cl phase slot m d).boot = d.boot ∧ (opColumnSlotBoard cl phase slot m d).power = d.power ∧ (opColumnSlotBoard cl phase slot m d).flash = d.flash ∧ (opColumnSlotBoard cl phase slot m d).mail = d.mail ∧ (opColumnSlotBoard cl phase slot m d).fuse = d.fuse := by unfold opColumnSlotBoard; (repeat' split) <;> simp
@[simp] theorem opSmbIdent_frame (d : Dev) :
    (opSmbIdent d).clk = d.clk ∧ (opSmbIdent d).whl = d.whl ∧ (opSmbIdent d).span = d.span ∧ (opSmbIdent d).fab = d.fab ∧ (opSmbIdent d).lnk = d.lnk ∧ (opSmbIdent d).cl = d.cl ∧ (opSmbIdent d).ten = d.ten ∧ (opSmbIdent d).grants = d.grants ∧ (opSmbIdent d).dma = d.dma ∧ (opSmbIdent d).bsu = d.bsu ∧ (opSmbIdent d).tmr = d.tmr ∧ (opSmbIdent d).boot = d.boot ∧ (opSmbIdent d).power = d.power ∧ (opSmbIdent d).board = d.board ∧ (opSmbIdent d).flash = d.flash ∧ (opSmbIdent d).mail = d.mail ∧ (opSmbIdent d).fuse = d.fuse := by simp [opSmbIdent]
@[simp] theorem opSmbTelemetry_frame (d : Dev) :
    (opSmbTelemetry d).clk = d.clk ∧ (opSmbTelemetry d).whl = d.whl ∧ (opSmbTelemetry d).span = d.span ∧ (opSmbTelemetry d).fab = d.fab ∧ (opSmbTelemetry d).lnk = d.lnk ∧ (opSmbTelemetry d).cl = d.cl ∧ (opSmbTelemetry d).ten = d.ten ∧ (opSmbTelemetry d).grants = d.grants ∧ (opSmbTelemetry d).dma = d.dma ∧ (opSmbTelemetry d).bsu = d.bsu ∧ (opSmbTelemetry d).tmr = d.tmr ∧ (opSmbTelemetry d).boot = d.boot ∧ (opSmbTelemetry d).power = d.power ∧ (opSmbTelemetry d).board = d.board ∧ (opSmbTelemetry d).flash = d.flash ∧ (opSmbTelemetry d).mail = d.mail ∧ (opSmbTelemetry d).fuse = d.fuse := by simp [opSmbTelemetry]
@[simp] theorem opBridgeAddr_frame (block : W64) (d : Dev) :
    (opBridgeAddr block d).clk = d.clk ∧ (opBridgeAddr block d).whl = d.whl ∧ (opBridgeAddr block d).span = d.span ∧ (opBridgeAddr block d).fab = d.fab ∧ (opBridgeAddr block d).lnk = d.lnk ∧ (opBridgeAddr block d).cl = d.cl ∧ (opBridgeAddr block d).ten = d.ten ∧ (opBridgeAddr block d).grants = d.grants ∧ (opBridgeAddr block d).host = d.host ∧ (opBridgeAddr block d).dma = d.dma ∧ (opBridgeAddr block d).bsu = d.bsu ∧ (opBridgeAddr block d).tmr = d.tmr ∧ (opBridgeAddr block d).boot = d.boot ∧ (opBridgeAddr block d).power = d.power ∧ (opBridgeAddr block d).flash = d.flash ∧ (opBridgeAddr block d).mail = d.mail ∧ (opBridgeAddr block d).fuse = d.fuse := by unfold opBridgeAddr; (repeat' split) <;> simp
@[simp] theorem opBridgeData_frame (write : Option W32) (droop : W32) (d : Dev) :
    (opBridgeData write droop d).span = d.span ∧ (opBridgeData write droop d).dma = d.dma ∧ (opBridgeData write droop d).bsu = d.bsu ∧ (opBridgeData write droop d).power = d.power ∧ (opBridgeData write droop d).flash = d.flash ∧ (opBridgeData write droop d).fuse = d.fuse := by unfold opBridgeData; (repeat' split) <;> simp
@[simp] theorem opBridgeStatus_frame (d : Dev) :
    (opBridgeStatus d).clk = d.clk ∧ (opBridgeStatus d).whl = d.whl ∧ (opBridgeStatus d).span = d.span ∧ (opBridgeStatus d).fab = d.fab ∧ (opBridgeStatus d).lnk = d.lnk ∧ (opBridgeStatus d).cl = d.cl ∧ (opBridgeStatus d).ten = d.ten ∧ (opBridgeStatus d).grants = d.grants ∧ (opBridgeStatus d).dma = d.dma ∧ (opBridgeStatus d).bsu = d.bsu ∧ (opBridgeStatus d).tmr = d.tmr ∧ (opBridgeStatus d).boot = d.boot ∧ (opBridgeStatus d).power = d.power ∧ (opBridgeStatus d).board = d.board ∧ (opBridgeStatus d).flash = d.flash ∧ (opBridgeStatus d).mail = d.mail ∧ (opBridgeStatus d).fuse = d.fuse := by simp [opBridgeStatus]
@[simp] theorem opJtagDebugUpdate_frame (dr : BitVec 128) (droop : W32) (d : Dev) :
    (opJtagDebugUpdate dr droop d).span = d.span ∧ (opJtagDebugUpdate dr droop d).dma = d.dma ∧ (opJtagDebugUpdate dr droop d).bsu = d.bsu ∧ (opJtagDebugUpdate dr droop d).power = d.power ∧ (opJtagDebugUpdate dr droop d).flash = d.flash ∧ (opJtagDebugUpdate dr droop d).fuse = d.fuse := by unfold opJtagDebugUpdate; dsimp only; (repeat' split) <;> simp
@[simp] theorem opJtagExtest_frame (code : Fin 3) (low : Bool) (d : Dev) :
    (opJtagExtest code low d).clk = d.clk ∧ (opJtagExtest code low d).whl = d.whl ∧ (opJtagExtest code low d).span = d.span ∧ (opJtagExtest code low d).fab = d.fab ∧ (opJtagExtest code low d).lnk = d.lnk ∧ (opJtagExtest code low d).cl = d.cl ∧ (opJtagExtest code low d).ten = d.ten ∧ (opJtagExtest code low d).grants = d.grants ∧ (opJtagExtest code low d).host = d.host ∧ (opJtagExtest code low d).dma = d.dma ∧ (opJtagExtest code low d).bsu = d.bsu ∧ (opJtagExtest code low d).tmr = d.tmr ∧ (opJtagExtest code low d).boot = d.boot ∧ (opJtagExtest code low d).power = d.power ∧ (opJtagExtest code low d).flash = d.flash ∧ (opJtagExtest code low d).mail = d.mail ∧ (opJtagExtest code low d).fuse = d.fuse := by simp [opJtagExtest]
@[simp] theorem opJtagTapReset_frame (d : Dev) :
    (opJtagTapReset d).clk = d.clk ∧ (opJtagTapReset d).whl = d.whl ∧ (opJtagTapReset d).span = d.span ∧ (opJtagTapReset d).fab = d.fab ∧ (opJtagTapReset d).lnk = d.lnk ∧ (opJtagTapReset d).cl = d.cl ∧ (opJtagTapReset d).ten = d.ten ∧ (opJtagTapReset d).grants = d.grants ∧ (opJtagTapReset d).host = d.host ∧ (opJtagTapReset d).dma = d.dma ∧ (opJtagTapReset d).bsu = d.bsu ∧ (opJtagTapReset d).tmr = d.tmr ∧ (opJtagTapReset d).boot = d.boot ∧ (opJtagTapReset d).power = d.power ∧ (opJtagTapReset d).flash = d.flash ∧ (opJtagTapReset d).mail = d.mail ∧ (opJtagTapReset d).fuse = d.fuse := by simp [opJtagTapReset]

end Sys2Proof.Machine
end

