-- ==== Sys2Proof/WellFormed.lean ====
section
/-!
DEFINITION. Which operands a command can have, beyond what their types say. The meanings hold for every operand.
-/
namespace Sys2Proof

/-- The sensors of 20 R705 (32 islands, 4 column stacks, 16 bits each); on each of 8 lanes a codeword's 68 symbols
(05 R163), or none; the codes of 21 Table FLT-1; the causes of 17 R610; at least one flit written. -/
def Instr.wellFormed : Instr → Bool
  | .thermalSample isl col => isl.length == 32 && col.length == 4 && (isl ++ col).all fun t => decide (-32768 ≤ t) && decide (t < 32768)
  | .linkFrameReceive _ _ _ _ _ lanes => lanes.length == 8 && lanes.all fun x => x.isEmpty || x.length == 68
  | .faultRaised _ code => decide (1 ≤ code.toNat) && decide (code.toNat ≤ 14)
  | .dmaHostWrite _ n => decide (1 ≤ n)
  | .bsuReset _ cause => decide (cause.val ≠ 0)
  | .chipReset .. | .linkDrivenReset .. | .pllLockConfirm .. | .pllUngate .. | .wheelCounterStart | .bootEntry .. 
  | .firmwareBootLoad .. | .memoryInitDone | .heldEntry | .configSealEffect | .mbInGo .. | .drainReqSet .. 
  | .drainReqClear .. | .drainToHalted | .thermalTrip | .powerSample .. | .readVoutPoll .. | .pmbusFault .. 
  | .pmbAlert .. | .refclkLost | .pllLockLost .. | .islandOscStart .. | .trackingWindow .. | .slewStep .. 
  | .droopStretch .. | .droopExcess .. | .setpointWrite .. | .droopFlagClear .. | .wheelStart | .phaseStart .. 
  | .guardApplied | .wheelMarkerSend .. | .wheelMarkerReceive .. | .slipInsert | .slippedWheelEnd | .slipLimit 
  | .masterTakeover | .markerLossHalt | .spanFormed | .formingStretch | .formingTimeout | .spanHalt | .syncInEdge .. 
  | .syncLost | .syncDisagree | .switchTick .. | .launchDeparture .. | .launchHeaderLate .. | .landingWrite .. 
  | .shelfWrite .. | .shelfRead .. | .linkFrameTransmit .. | .replaySend .. | .releaseStoreRelease .. | .laneDrop .. 
  | .linkDetectDone .. | .linkEqualiseDone .. | .linkAlignDone .. | .linkMeasureDone .. | .linkConfirmDone .. 
  | .linkLoss .. | .linkLostTimeout .. | .refreshBurst .. | .columnSlot .. | .columnReadData .. | .paneFill .. 
  | .bundleIssue .. | .pendingWriteEffect .. | .mma .. | .mmaz .. | .mmat .. | .acczero .. | .accload .. 
  | .accdrain .. | .vadd .. | .vsub .. | .vmul .. | .vfma .. | .vmax .. | .vmin .. | .vexp .. | .vlog .. | .vrcp .. 
  | .vrsq .. | .vcvt .. | .vsel .. | .vcmp .. | .vsumrow .. | .vmaxrow .. | .vshuf .. | .vrand .. | .vsround .. 
  | .vdig .. | .pload .. | .pstore .. | .sget .. | .sput .. | .launch .. | .land .. | .landany .. | .loop .. 
  | .endloop .. | .waittick .. | .waittickRelease .. | .waitcyc .. | .waitcycRelease .. | .sets .. | .adds .. 
  | .muls .. | .edge .. | .halt .. | .digestDrain .. | .doorbellCmdTail .. | .doorbellStsHead .. | .commandFetch .. 
  | .commandStart .. | .statusReply .. | .ringEnable .. | .ringDisable .. | .ringCloseDone .. | .registerWrite .. 
  | .causeClear .. | .causeEnable .. | .msixUnmask .. | .watchdogExpiry .. | .coreReset .. | .rescueCoreReset 
  | .coreRelease .. | .ringRehome .. | .interruptedCommand .. | .blackoutBoundExpiry | .faultStop .. 
  | .grantChangeEffect | .zeroingDone .. | .leaseExpiry .. | .partCountHi .. | .partCheckDone | .partSync .. 
  | .partCancel .. | .directCommitEffect | .bucketSegmentsCurrent .. | .clusterArm .. | .launchCountReached .. 
  | .programCompletionCheck .. | .haltAtReached .. | .suspendEffect .. | .resumeEffect .. | .waitCountReached 
  | .spanLeaveEffect | .tenancyResetEffect | .islandPowerOffEffect | .islandPowerOnEffect | .islandPowerOnDone 
  | .leaseRevokeEffect | .dmaDescriptor .. | .dmaReadCompletion .. | .dmaReadDeparture .. | .dmaWriteArrival .. 
  | .dmaWriteShort .. | .completionTimeout .. | .pcieErrorReceived .. | .unsupportedRequest .. 
  | .functionLevelReset .. | .flrComplete .. | .vfEnableClear | .bsuRecordFlit .. | .bsuNop .. | .bsuCtx .. 
  | .bsuByp .. | .bsuTerm .. | .bsuSym .. | .bsuLit .. | .bsuFrameStart .. | .bsuSegStart .. | .bsuEntry .. 
  | .bsuSegEnd .. | .bsuFrameEnd .. | .bsuDrain .. | .bsuDrainLine .. | .timerStep .. | .timerStart .. 
  | .timerStartMissed | .cmpLoWrite .. | .cmpHiWrite .. | .tmrGstart .. | .passedCompareFire .. | .smbIdent 
  | .smbTelemetry | .bridgeAddr .. | .bridgeData .. | .bridgeStatus | .smbAlertResponse | .jtagDebugUpdate .. 
  | .jtagExtest .. | .jtagTapReset | .nop .. | .queryDevice .. | .queryTenancy .. | .imageStage .. | .imageVerify .. 
  | .imageLoad .. | .imageUnload .. | .bucketSelect .. | .bufferWrite .. | .bufferRead .. | .bufferFill .. 
  | .bufferDigest .. | .launchAt .. | .launchNext .. | .haltAt .. | .suspend .. | .resume .. | .fence .. 
  | .waitCount .. | .journalStart .. | .journalStop .. | .journalCloseOnVacant .. | .replayStart .. 
  | .digestTableRead .. | .varianceRead .. | .spanJoin .. | .spanLeave .. | .countRead .. | .timerProgram .. 
  | .timerStartGroup .. | .bsuBind .. | .bsuConfig .. | .bsuFlush .. | .partitionStage .. | .partitionCommit .. 
  | .partitionRead .. | .leaseRevoke .. | .ringAssign .. | .powerCapSet .. | .islandPower .. | .firmwareStage .. 
  | .firmwareActivate .. | .linkControl .. | .tenancyReset .. | .configSeal .. | .resetRelease .. 
  | .fetchCompletion .. | .hostLinkUp .. | .busMasterEnable .. | .powerLoss .. | .islandSupplyGood .. => true

end Sys2Proof
end

