-- ==== Sys2Proof/Tests/Slice0.lean ====
section
/-!
SUPPORT. Tests: the checks of WellFormed, worked cases of the spec on single commands, and for every statement with
hypotheses operands and devices that meet them, clause by clause.
-/
namespace Sys2Proof.Tests
open Sys2Proof.Machine
set_option linter.unusedVariables false
set_option Elab.async false

/-! ## Small devices -/

/-- Every PLL locked and its clock ungated. -/
def clocks : Clk := { pll := (List.range 6).map fun p => (p, { locked := true, ungated := true }) }

/-- A device in ACTIVE whose wheel turns. -/
def on : Dev := { boot := { state := .active, inReset := false }, clk := clocks, whl := { running := true }, fuse := fuseReset }

/-- The device with island 0 clocked. -/
def lit : Dev := { on with clk := { clocks with isl := [(0, { supplyGood := true, oscOn := true, current := 200 })] } }

/-- A command packet: an opcode and fields by byte offset. -/
def pkt (op : Nat) (fs : List (Nat × Nat)) : Line := BitVec.ofNat 512 (op + (fs.map fun f => f.2 * 256 ^ f.1).sum)

def cmd (op : Nat) (fs : List (Nat × Nat)) : Cmd := { id := 7, ring := 0, pkt := pkt op fs }

/-- A grant record of a class: clusters 0 and 1 with all panes, windows, shelf, phases, engines, and bitstream unit 0 reserved. -/
def grant (cls : Nat) : GrantRec :=
  BitVec.ofNat 1024 ([(1, cls), (4, 3), (68, 2 ^ 64 - 1), (77, 4), (94, 4096), (96, 2 ^ 63 - 1), (104, 2 ^ 32 - 1), (109, 2), (110, 1),
    (112, 100000)].map fun f => f.2 * 256 ^ f.1).sum

/-- Tenancy 6 with a grant of a class, ring 0 its own, and one command at its start. -/
def ten6 (cls : Nat) (c : Cmd) : Dev :=
  { lit with
    grants := { force := [(6, grant cls)] }
    host := { rings := [(0, { st := .enabled, cmdLog := 4, stsLog := 4, ten := 6 })], func := [(0, { bme := true })], cmds := [c], nextId := 8 } }

/-- The same device with the tenancy in a state. -/
def with6 (cls : Nat) (c : Cmd) (x : Tenancy) : Dev := { ten6 cls c with ten := [(6, x)] }

/-- Cluster 0 running, with eight bundles and six descriptors of one element in the six formats. -/
def core0 : Cluster :=
  { run := .running, bundleCount := 8, d := (List.range 6).map fun i => (i, BitVec.ofNat 64 (2 ^ 32 + i * 2 ^ 48))
    acc := [(0, { cls := .exact }), (1, { cls := .ordered })] }

def runs (k : Cluster) : Dev := { lit with cl := [(0, k)], grants := { force := [(6, grant 3)] } }

/-- A flit of a tenancy with a tag, as its source sends it. -/
def flit (ten tag : Nat) : Flit :=
  sealFlit { data := 5, ten := BitVec.ofNat 6 ten, tag := BitVec.ofNat 10 tag, late := false, poison := false, ecc := 0 }

def sent (f : Flit) (dst : Dest) (due : Nat) : Flight := { dest := dst, due := due, sw := due - 5, flit := f }

/-- The device with one flit in motion. -/
def carries (x : Flight) (d : Dev) : Dev := { d with fab := { d.fab with flits := [x] } }

/-- A span of two, this chip at a rank, with link 0 ready. -/
def paired (own : Nat) : Dev :=
  { on with
    span := { joined := true, ranks := [{ serial := 0, links := [(0, 1, 0)] }, { serial := 1, links := [(0, 0, 0)] }]
              ownRank := own, masterRank := 0, successor := 1, d := 1 }
    lnk := [(0, { state := .ready, width := 8 })] }

/-- A device with link 0 in a state. -/
def linked (k : Link) : Dev := { paired 0 with lnk := [(0, k)] }

/-- A device with one timer channel. -/
def timed (x : Timer) : Dev := { on with tmr := [(0, x)] }

/-- A device with one bitstream unit, which tenancy 6 holds. -/
def coded (x : Bsu) : Dev := { on with bsu := [(0, x)], grants := { force := [(6, grant 3)] } }

/-- A device with one DMA engine, and tenancy 6 the owner of every phase at its island. -/
def moves (x : Dma) : Dev :=
  { on with dma := [(0, x)], grants := { force := [(6, grant 3)] }, whl := { running := true, now := 200 }
            fab := { phase := (List.range 64).map fun p => (64 * 9 + p, { owner := 6 }) } }

/-- Bytes of a given length with fields by offset. -/
def fields (n : Nat) (fs : List (Nat × Nat)) : List Byte := leBytes n (fs.map fun f => f.2 * 256 ^ f.1).sum

/-- A portable image of one cluster (12 R414 to R417), its CRCs worked out beforehand: the header, a manifest, a placement with a
HALT, an empty segment of phase 1 and one set of maxima. -/
def smallImage : List Byte :=
  let entry (i off len crc : Nat) : List (Nat × Nat) :=
    let o := 64 + 16 * i
    [(o, i + 1), (o + 4, crc), (o + 8, off), (o + 12, len)]
  fields 960 ([(0, 0x57494C4F), (4, 1), (8, 960), (12, 2404787704), (16, 0xABCD)] ++
    entry 0 192 512 2452103974 ++ entry 1 704 80 1166521032 ++ entry 2 832 16 3896013326 ++ entry 3 896 0 0 ++ entry 4 896 32 1869075634 ++
    entry 5 960 0 0 ++ entry 6 960 0 0 ++ entry 7 960 0 0 ++
    [(192, 0x32313556), (197, 14), (200, 8192), (204, 16), (205, 1), (208, 2), (216, 8192), (256, 1)] ++
    [(704, 1), (708, 1)] ++ [(832, 1), (833, 255), (840, 1)] ++ [(896, 1), (897, 255)])

/-- A configuration block of 128 bytes (20 Table PWR-6), sealed by its CRC. -/
def cfgBlock : List Byte :=
  let f (crc : Nat) : List Byte := leBytes 128 ([(0, 0x47464356), (4, 1), (6, 128), (8, 1), (12, crc), (16, 8192), (20, 16), (44, 700)].map fun f => f.2 * 256 ^ f.1).sum
  f (crc32c (f 0))

/-- A span file of two ranks joined by their links 0 (15 Table CMD-14), sealed by its CRC. -/
def spanFile : List Byte :=
  let f (crc : Nat) : List Byte := leBytes 192 ([(0, 8192), (4, 16), (5, 1), (8, 2), (12, crc), (72, 1), (80, 0x8001), (112, 1), (120, 1), (128, 0x8000)].map fun f => f.2 * 256 ^ f.1).sum
  f (crc32c ((f 0).take 160))

/-- Grant of class C that may lease bitstream unit 0. -/
def leased : GrantRec := BitVec.ofNat 1024 ([(1, 3), (109, 1), (112, 100000)].map fun f => f.2 * 256 ^ f.1).sum

/-- The receive order of a link whose lanes arrive as they were sent. -/
def order0 : BitVec 24 := BitVec.ofNat 24 0o76543210

/-- The lanes of the frame that a width-4 link sends with v slots, v at most 1, and lanes that no frame is near. -/
def framed (v : Nat) : List (List (BitVec 10)) :=
  (toLanes 4 order0 (frameSymbols 4 { kind := 1, valid := v, wheel := 0, index := 0 } (if v = 1 then [(0, flit 6 5)] else []))).map (·.2)
def oddLanes : List (List (BitVec 10)) := List.replicate 4 (List.replicate 68 1)

/-- Read back, it spells a frame of kind 1 with v slots. -/
def framedReads (v : Nat) : Bool :=
  (frameMessage 4 (fromLanes 4 order0 (framed v))).any fun x => x.2 == 0 && (fcfOf (bits x.1 (544 * 4 + 239) (544 * 4))).any fun f =>
    f.kind == 1 && f.valid == v && f.naks.isEmpty && f.absent.isNone

set_option maxRecDepth 1000000 in
theorem framed0_reads : framedReads 0 = true := by decide +kernel
set_option maxRecDepth 1000000 in
theorem framed1_reads : framedReads 1 = true := by decide +kernel

theorem reads_of {o : Option (Nat × Nat)} {g : Nat → Option Fcf} {v : Nat}
    (h : (o.any fun x => x.2 == 0 && (g x.1).any fun f => f.kind == 1 && f.valid == v && f.naks.isEmpty && f.absent.isNone) = true) :
    ∃ msg f, o = some (msg, 0) ∧ g msg = some f ∧ f.kind = 1 ∧ f.naks = [] ∧ f.absent = none ∧ f.valid = v := by
  rcases o with _ | ⟨m, z⟩
  · cases h
  · cases hg : g m with
    | none => simp [hg] at h
    | some f =>
      simp [hg] at h
      obtain ⟨rfl, ⟨⟨h1, h2⟩, h3⟩, h4⟩ := h
      exact ⟨m, f, rfl, hg, h1, h3, h4, h2⟩

theorem framed_reads {v : Nat} (h : framedReads v = true) :
    ∃ msg f, frameMessage 4 (fromLanes 4 order0 (framed v)) = some (msg, 0) ∧ fcfOf (bits msg (544 * 4 + 239) (544 * 4)) = some f ∧
      f.kind = 1 ∧ f.naks = [] ∧ f.absent = none ∧ f.valid = v :=
  reads_of (g := fun msg => fcfOf (bits msg (544 * 4 + 239) (544 * 4))) h

/-- A trained link of width 4, and a device with it as link 0. -/
def link4 : Link := { state := .ready, width := 4, rxOrder := order0 }

theorem link4_drained : lnkOf (drainLink 0 0 (linked link4)) 0 = link4 := by decide +kernel

theorem all_of_nil {α : Type} {P : α → Prop} {l : List α} (h : l.isEmpty = true) : ∀ x ∈ l, P x := by
  rw [List.isEmpty_iff.mp h]; simp

/-- Cluster 0 fetches a bundle whose control slot is empty. -/
theorem core0_nop : (fetchBundle (clOf (runs core0) (0 : Fin 512))).c = .nop := by decide +kernel

set_option maxRecDepth 100000 in
theorem oddFrame_lost : frameMessage 4 (fromLanes 4 order0 oddLanes) = none := by decide +kernel

/-- The device whose ring 0 carries CONFIG_SEAL with a block that fails no rule, if no lowest cap exceeds 700 W. -/
def sealCmd : Cmd := { cmd 0xF0B [(24, 128)] with block := cfgBlock }

theorem cfgBlock_valid (h : ∀ xs ts, Config.lowestCap xs ts ≤ 700) : cfgErrors (ten6 3 sealCmd) cfgBlock true = [] := by
  have hs : cfgStruct cfgBlock = none := by decide +kernel
  have hc : blkField cfgBlock 44 2 = 700 := by decide +kernel
  unfold cfgErrors
  rw [hs]
  unfold cfgFields
  simp only [List.append_eq_nil_iff]
  and_intros
  rotate_left 9
  · simp [cfgFail, hc, h]
  all_goals decide +kernel


/-! ## The checks of WellFormed -/

theorem smoke_sensors : (Instr.thermalSample (List.replicate 31 0) (List.replicate 4 0)).wellFormed = false := by decide
theorem smoke_stacks : (Instr.thermalSample (List.replicate 32 0) (List.replicate 5 0)).wellFormed = false := by decide
theorem smoke_sensor_range : (Instr.thermalSample (List.replicate 32 32768) (List.replicate 4 0)).wellFormed = false := by decide
theorem smoke_lane_number : (Instr.linkFrameReceive 0 0 0 true 0 (List.replicate 3 (List.replicate 68 0))).wellFormed = false := by decide
theorem smoke_lane_length : (Instr.linkFrameReceive 0 0 0 true 0 (List.replicate 8 (List.replicate 67 0))).wellFormed = false := by decide
theorem smoke_fault_code : (Instr.faultRaised 0 15).wellFormed = false := by decide
theorem smoke_flits : (Instr.dmaHostWrite 0 0).wellFormed = false := by decide
theorem smoke_cause : (Instr.bsuReset 0 0).wellFormed = false := by decide
theorem smoke_passes : (Instr.thermalSample (List.replicate 32 280) (List.replicate 4 0)).wellFormed = true := by decide

/-! ## Worked cases of the spec, on single commands -/

/-- The device after a command, if it goes on. -/
def after (c : Instr) (d : Dev) : Option Dev :=
  match exec c { pending := [], dev := d } with
  | .next s => some s.dev
  | _ => none

/-- A device whose wheel n stands at a tick, with W = 8192. -/
def atWheel (d : Dev) (n k : Nat) : Dev := { d with whl := { running := true, n := n, start := 0, now := k } }

/-- Tenancy 6 with an image of 16384 ticks, class C, and a command. -/
def launches (op : Nat) (count n k : Nat) : Dev :=
  atWheel (with6 3 (cmd op [(16, count)]) { st := .loaded, image := some { ticks := 16384 } }) n k

/-- Status and first result of the one command. -/
def replied (d : Dev) : List (Nat × Nat) := d.host.cmds.map fun c => (c.status, c.res0)

/-- 03, the launch that meets a slip: at GC 4,096,003,000 the count 4,096,016,384 is too near, and LATE. -/
theorem test_launch_at_late : ((after (.launchAt 0) (launches 0x300 4096016384 500000 3000)).map fun d => d.host.cmds.map (·.status)) = some [1] := by
  decide +kernel

/-- The same: at GC 4,096,004,100 the count 4,096,024,576 is taken, and the program ends 16,384 counts later. -/
theorem test_launch_at_taken :
    ((after (.launchAt 0) (launches 0x300 4096024576 500000 4100)).map fun d =>
      ((tenOf d 6).st, (tenOf d 6).program.map fun p => (p.launch, p.completion))) = some (.armed, some (4096024576, 4096040960)) := by
  decide +kernel

/-- 13, a class A launch across a ring wrap: LAUNCH_NEXT sampled at 4,096,003,000 launches at 4,096,024,576. -/
theorem test_launch_next : ((after (.launchNext 0) (launches 0x301 0 500000 3000)).map fun d => (tenOf d 6).program.map (·.launch)) =
    some (some 4096024576) := by
  decide +kernel

/-- The same: tail 0 with CMD_HEAD at 15 of 16 entries exposes one command. -/
theorem test_doorbell_wraps :
    ((after (.doorbellCmdTail 0 37 0) { on with host := { rings := [(37, { st := .enabled, cmdLog := 4, head := 15, tail := 15 })] } }).map fun d =>
      ((ringOf d 37).tail, (ringOf d 37).st)) = some (0, .enabled) := by
  decide +kernel

/-- 04 Table FAB-10: the fields of the route word of ISL_05. -/
theorem test_route_word :
    (let w : W64 := 0x0001F8140002FFFE; (rwIn w, rwOut w, rwStart w, rwLen w)) = (0, 0x2FFFE, 10, 63) := by decide +kernel

/-- 04, one tile to nineteen clusters: the flit of tick 5,002 leaves as 16 copies, due at 5,007 and, on the mesh, at 5,006. -/
theorem test_switch_copies :
    ((after (.switchTick 5 5002) (carries (sent (flit 6 0) (.swIn 5 0) 5002)
      { on with whl := { running := true, now := 5002 }, cl := (List.range 16).map fun k => (80 + k, { powered := true }),
                fab := { route := [(65536 * 5, 0x0001F8140002FFFE)], phase := [(64 * 5 + 39, { len := 1, owner := 6 })] } })).map fun d =>
      ((d.fab.flits.filter fun x => x.due == 5007).length, (d.fab.flits.filter fun x => x.due == 5006).map (·.dest))) =
      some (15, [.swIn 6 19]) := by
  decide +kernel

/-- 12, a P = 15 image on grade B: the physical route word. -/
theorem test_route_mapped :
    (mapWord (fun k => if k < 6 then k else k + 1) 0x0001F81400027FFE).toNat = 0x0001F8140002FFBE := by decide +kernel

/-- 06, one column read on CL_300: the request word, the bank and the address. -/
theorem test_column_request :
    (let w : W64 := 0x0004005000281428; (reqPhase w, reqSlot w, reqLine w, reqPane w)) = (5, 10, 655365, 1024) ∧
      bankOf 655365 = 21 ∧ colLineAddr 300 655365 = 0x00070A800140 := by decide +kernel

/-- 11 Table CMP-7 and 12 Table IMG-7: words s25, s26 and s27 of the policy at SP_0 = 700 and 513. -/
theorem test_policy :
    ([700, 513].map fun n => [[2, 1, 128, 0, 0, 0, 0x15, 1, 1, 0, 0, 0, 0x16, 0],
      [1, 8, 0, 0, 0, 2, 1, 128, 0, 0, 0, 0x13, 0x11, 2, 1, 128, 0, 0, 0, 0x15, 1, 1, 0, 0, 0, 0x16, 0x11, 0],
      [2, 1, 128, 0, 0, 0, 0x15, 0]].map (policyEval [n] 64 [])) = [[some 1, some 2, some 60], [some 1, some 3, some 1]] := by
  decide +kernel

/-- 10, an ordered row sum: the words of the case, and 2^24 and 95 ones sum to 0x4B80002F in halves of 64. -/
theorem test_row_sum :
    decodeV 0x450E = .vsumrow { dd := 5, da := 4 } ∧ decodeC 0x0C004208 = .edge 2 false 4 96 0 0 ∧
      (let t : W64 := 0x004200047F030000; (dBase t, dRows t, dCols t, dStride t, dFmt t)) = (0, 4, 128, 4, 2) ∧
      rne32 (rowSum 2 ([decodeVal 2 0x4B80] ++ List.replicate 95 (decodeVal 2 0x3F80) ++ List.replicate 32 (decodeVal 2 0))) = 0x4B80002F := by
  decide +kernel

/-- 08, one sum, two chips, two classes: exact partials of E5M2 products, their sum, and its BF16 code. -/
theorem test_exact_sum :
    (let p (a b : Nat) : Val := valMul (decodeVal 4 a) (decodeVal 4 b)
     let x := exAdd (exAdd {} (p 0x7B 0x7B)) (p 0x01 0x04)
     let y := exAdd {} (p 0xFB 0x7B)
     (x.a.toNat, y.a.toNat, (exMerge x y).a.toNat, convert 2 false .rne 0 (exRes (exMerge x y)))) =
      (0xC400000000000004, 0xFFFFFFFF3C00000000000000, 4, 0x3080) := by
  decide +kernel

/-- 02, raising ISL_09 to its ceiling: code 320 becomes 304; while a program of the 1.50 GHz floor is loaded, 240 is refused. -/
def isl9 : Dev := { on with clk := { clocks with isl := [(9, { supplyGood := true, oscOn := true })] }, ten := [(6, { st := .loaded, image := some { floor := 2, clusters := [144] } })] }
theorem test_setpoint_clamped : ((after (.setpointWrite 0 9 320) isl9).map fun d => (islOfDev d 9).setpoint) = some 304 := by decide +kernel
theorem test_setpoint_refused :
    ((after (.setpointWrite 0 9 240) isl9).map fun d => ((islOfDev d 9).refused, (islOfDev d 9).setpoint)) =
      some (true, (islOfDev isl9 9).setpoint) := by decide +kernel

/-- 22, raising VDD_CORE for the ceiling: 0.85 V at exponent -12 is 0x0D9A. -/
theorem test_vout : voutWord (-12) 850 = 0x0D9A := by decide +kernel

/-- 05, a replay that moves nothing: T_turn and the window of frame 325 make the release delay 168 t. -/
theorem test_lambda : lambdaFor 8192 { link := 9, width := 8, fc := 6, peerLink := 2, peerRank := 0, reserved := 0 } 120 = 168 := by decide +kernel

/-- 18, a PWM: a compare of 400 set at 300 counting down has passed; the step to 125 drives the pin high. -/
def pwm : Timer := { running := true, top := 500, compare := 125, prescale := 1249, mode := 2, actions := 0x33, pinEn := true }
theorem test_compare_passed :
    ((after (.cmpHiWrite 0 3 0) { on with tmr := [(3, { pwm with cnt := 300, down := true, pin := true, staged := true, stagedLo := 400 })] }).map
      fun d => ((tmrOf d 3).missed, (tmrOf d 3).compare, (tmrOf d 3).pin)) = some (true, 400, true) := by decide +kernel
theorem test_compare_toggles :
    ((after (.timerStep 3 1250) { on with whl := { running := true, now := 1250 }, tmr := [(3, { pwm with cnt := 124, last := 0 })] }).map
      fun d => ((tmrOf d 3).cnt, (tmrOf d 3).pin)) = some (125, true) := by decide +kernel

/-- CRC-32C of the digits 1 to 9 (00 R16): the check value of that code. -/
theorem test_crc : crc32c [0x31, 0x32, 0x33, 0x34, 0x35, 0x36, 0x37, 0x38, 0x39] = 0xE3069283 := by decide +kernel

/-- 02 R74: after a lost clock a command that is no reset stops. -/
theorem test_stop : exec .wheelStart ⟨[], { boot := { lost := true } }⟩ = .fault .nothingPromised := by rfl

/-! ## Witnesses: what each clause of a statement assumes can hold together -/

theorem witness_EveryCommandAnswers :
    (∃ (c : Instr) (s : State), Promises s) ∧
    (∃ (c : Instr) (s : State) (t : State), exec c s = .next t) :=
  ⟨⟨.wheelStart, ⟨[], on⟩, by exact rfl⟩,
    ⟨.wheelStart, ⟨[.nop 0], { on with boot := { state := .active } }⟩, _, rfl⟩⟩

theorem witness_LostUntilReset :
    (∃ (s : State), s.dev.boot.state = .active) ∧
    (∃ (s : State) (p : Fin 6), s.dev.boot.state = .active ∧ (pllOf s.dev p).locked = true) ∧
    (∃ (c : Instr) (s : State) (cause : _) (cut : _), s.dev.boot.lost = true ∧ c = .chipReset cause cut) ∧
    (∃ (c : Instr) (s : State) (k : _) (cut : _), s.dev.boot.lost = true ∧ c = .linkDrivenReset k cut) ∧
    (∃ (c : Instr) (s : State) (cut : _), s.dev.boot.lost = true ∧ c = .powerLoss cut) ∧
    (∃ (c : Instr) (s : State), s.dev.boot.lost = true ∧ c = .refclkLost) ∧
    (∃ (c : Instr) (s : State) (p : _), s.dev.boot.lost = true ∧ c = .pllLockLost p) ∧
    (∃ (c : Instr) (s : State), s.dev.boot.lost = true ∧ (∀ cause cut, c ≠ .chipReset cause cut) ∧ (∀ k cut, c ≠ .linkDrivenReset k cut) ∧ (∀ cut, c ≠ .powerLoss cut) ∧ c ≠ .refclkLost ∧ (∀ p, c ≠ .pllLockLost p)) :=
  ⟨⟨⟨[], on⟩, by decide +kernel⟩,
    ⟨⟨[], { on with clk := { clocks with pll := [(0, { locked := true })] } }⟩, 0, by decide +kernel⟩,
    ⟨_, ⟨[], { boot := { lost := true } }⟩, 0, true, ⟨rfl, rfl⟩⟩,
    ⟨_, ⟨[], { boot := { lost := true } }⟩, 0, true, ⟨rfl, rfl⟩⟩,
    ⟨_, ⟨[], { boot := { lost := true } }⟩, true, ⟨rfl, rfl⟩⟩,
    ⟨_, ⟨[], { boot := { lost := true } }⟩, ⟨rfl, rfl⟩⟩,
    ⟨_, ⟨[], { boot := { lost := true } }⟩, 0, ⟨rfl, rfl⟩⟩,
    ⟨.wheelStart, ⟨[], { boot := { lost := true } }⟩, ⟨rfl, nofun, nofun, nofun, nofun, nofun⟩⟩⟩

theorem witness_StepKeepsInv :
    (∃ (s : State) (t : State), step s = .next t ∧ Inv s) ∧
    (∃ (s : State) (t : State), step s = .next t ∧ fuseMapOk s.dev.fuse = true) :=
  ⟨⟨⟨[.memoryInitDone], on⟩, _, ⟨rfl, rfl⟩⟩,
    ⟨⟨[.memoryInitDone], on⟩, _, ⟨rfl, by decide +kernel⟩⟩⟩

theorem witness_StepKeepsGrants : ∃ (s : State) (t : State), GrantsInv s ∧ step s = .next t :=
  ⟨⟨[.wheelStart], ten6 3 (cmd 1 [])⟩, _, ⟨by simp [GrantsInv, ten6], rfl⟩⟩

theorem witness_ResetsAndLosses : ∃ (s : State) (p : Fin 6), (pllOf s.dev p).locked = true :=
  ⟨⟨[], { on with clk := { clocks with pll := [(5, { locked := true })] } }⟩, 5, by decide +kernel⟩

theorem witness_BootCompletes :
    (∃ (d : Dev) (straps : BitVec 4), d.boot.lost = false ∧ d.boot.inReset = true) ∧
    (∃ (d : Dev) (p : Fin 6) (r : Nat), d.boot.lost = false ∧ d.boot.inReset = false ∧ (pllOf d p).locked = false ∧ 256 ≤ r ∧ d.clk.refclk ≤ r) ∧
    (∃ (d : Dev) (p : Fin 6) (r : Nat), d.boot.lost = false ∧ (pllOf d p).locked = true ∧ d.clk.refclk ≤ r) ∧
    (∃ (d : Dev) (i : Fin 32) (t : Nat), d.boot.lost = false ∧ fabricUp d = false) ∧
    (∃ (d : Dev) (c : Fin 512) (t : Nat), d.boot.lost = false ∧ fabricUp d = false) ∧
    (∃ (d : Dev), d.boot.lost = false ∧ fabricUp d = false) ∧
    (∃ (d : Dev) (l : Fin 16) (k : Nat), d.boot.lost = false ∧ fabricUp d = false) ∧
    (∃ (d : Dev) (k : Fin 32) (t : Nat), d.boot.lost = false ∧ fabricUp d = false) ∧
    (∃ (d : Dev) (r : Fin 1024), d.boot.lost = false ∧ controlUp d = false) ∧
    (∃ (d : Dev) (r : Fin 1024), d.boot.lost = false ∧ controlUp d = false) ∧
    (∃ (d : Dev), d.boot.lost = false ∧ controlUp d = false) ∧
    (∃ (d : Dev) (fn : Fin 64) (r : Fin 1024) (v : W32), d.boot.lost = false ∧ controlUp d = false) ∧
    (∃ (d : Dev) (c : Fin 512) (p : Fin 64) (k : Fin 1024) (m : Nat), d.boot.lost = false ∧ columnUp c d = false) ∧
    (∃ (d : Dev) (rate : Fin 4) (width : Fin 4) (flit : Bool), d.boot.lost = false ∧ d.boot.inReset = false) ∧
    (∃ (d : Dev), d.boot.lost = false ∧ d.whl.running = false ∧ fabricUp d = true ∧ (∀ p < 6, p ≠ 1 → (pllOf d p).ungated = true)) ∧
    (∃ (d : Dev) (mode : Option (BitVec 5)), d.boot.lost = false ∧ d.boot.state = .powerup ∧ d.boot.inReset = false ∧ (pllOf d 1).ungated = true) ∧
    (∃ (d : Dev) (f : Firmware), d.boot.lost = false ∧ d.boot.state = .boot ∧ d.boot.firmware = none ∧ d.boot.toHost = false ∧ d.flash.present = true ∧ flashFirmware d.flash = some f ∧ controlUp d = true) ∧
    (∃ (d : Dev), d.boot.lost = false ∧ hostOpen d 0 = true ∧ d.boot.state = .boot ∧ d.boot.toHost = true ∧ (∀ f ∈ d.host.fetches, f.why ≠ .boot)) ∧
    (∃ (d : Dev), d.boot.lost = false ∧ d.whl.running = true ∧ fabricUp d = true ∧ d.mem.initDone = false) ∧
    (∃ (d : Dev), d.boot.lost = false ∧ d.boot.state = .boot ∧ controlUp d = true ∧ d.boot.firmware.isSome = true ∧ d.mem.initDone = true) :=
  ⟨⟨{}, 0, by decide +kernel⟩,
    ⟨{ on with clk := {} }, 5, 256, by decide +kernel⟩,
    ⟨on, 5, 4096, by decide +kernel⟩,
    ⟨{ on with clk := {} }, 0, 0, by decide +kernel⟩,
    ⟨{ on with clk := {} }, 0, 0, by decide +kernel⟩,
    ⟨{ on with clk := {} }, by decide +kernel⟩,
    ⟨{ on with clk := {} }, 0, 0, by decide +kernel⟩,
    ⟨{ on with clk := {} }, 0, 0, by decide +kernel⟩,
    ⟨{ on with clk := {} }, 0, by decide +kernel⟩,
    ⟨{ on with clk := {} }, 0, by decide +kernel⟩,
    ⟨{ on with clk := {} }, by decide +kernel⟩,
    ⟨{ on with clk := {} }, 0, 0, 0, by decide +kernel⟩,
    ⟨{ on with clk := {} }, 511, 0, 0, 0, by decide +kernel⟩,
    ⟨on, 0, 0, true, by decide +kernel⟩,
    ⟨{ clk := clocks }, by decide +kernel⟩,
    ⟨{ boot := { inReset := false }, clk := { pll := [(1, { ungated := true })] } }, none, by decide +kernel⟩,
    ⟨{ boot := { state := .boot }, clk := clocks, flash := { fw0 := { valid := true } } }, { valid := true }, by decide +kernel⟩,
    ⟨{ boot := { state := .boot, inReset := false, toHost := true }, clk := clocks }, by decide +kernel⟩,
    ⟨{ on with mem := {} }, by decide +kernel⟩,
    ⟨{ boot := { state := .boot, firmware := some {} }, clk := clocks, mem := { initDone := true } }, by decide +kernel⟩⟩

theorem witness_DeviceStates :
    (∃ (d : Dev) (at_ : Nat) (b : List Byte) (cmd : Option Nat), d.boot.lost = false ∧ d.boot.sealPend = some (at_, b, cmd) ∧ d.boot.state = .held ∧ countDue d.whl at_ = true ∧ controlUp d = true) ∧
    (∃ (d : Dev), d.boot.lost = false ∧ hostOpen d 0 = true) ∧
    (∃ (d : Dev), d.boot.lost = false ∧ d.boot.state = .drain ∧ controlUp d = true ∧ d.span.joined = false ∧ (∀ i < 32, (tenOf d i).st = .vacant)) :=
  ⟨⟨{ clk := clocks, whl := { running := true }, boot := { state := .held, sealPend := some (0, [], none) } }, 0, [], none, by decide +kernel⟩,
    ⟨on, by decide +kernel⟩,
    ⟨{ on with boot := { state := .drain } }, by decide +kernel⟩⟩

theorem witness_PowerAndHeat :
    (∃ (d : Dev) (isl : List Int) (col : List Int), ControlUp d ∧ firmwareRuns d = true) ∧
    (∃ (d : Dev) (raw : BitVec 16) (v : Nat), ControlUp d ∧ d.power.vTarget = some v ∧ firmwareRuns d = true) ∧
    (∃ (d : Dev) (why : Fin 3), ControlUp d ∧ d.boot.inReset = false ∧ d.boot.state ≠ .powerup ∧ (why = 2 → d.power.vTarget.isSome = true)) :=
  ⟨⟨{ on with boot := { state := .active, inReset := false, firmware := some {} } }, [], [], by decide +kernel⟩,
    ⟨{ on with boot := { state := .active, inReset := false, firmware := some {} }, power := { vTarget := some 800 } }, 0, 800, by decide +kernel⟩,
    ⟨{ on with power := { vTarget := some 800 } }, 2, by decide +kernel⟩⟩

theorem witness_IslandClocks :
    (∃ (d : Dev) (i : Fin 32), d.boot.lost = false ∧ (islOfDev d i).supplyOn = true) ∧
    (∃ (d : Dev) (i : Fin 32), d.boot.lost = false ∧ (islOfDev d i).supplyOn = true ∧ (islOfDev d i).supplyGood = true ∧ (islOfDev d i).oscOn = false ∧ d.whl.running = true ∧ d.boot.state ≠ .halted) ∧
    (∃ (d : Dev) (i : Fin 32) (slow : Option Bool), d.boot.lost = false ∧ (islOfDev d i).oscOn = true) ∧
    (∃ (d : Dev) (i : Fin 32), d.boot.lost = false ∧ (islOfDev d i).oscOn = true ∧ slewReady d.whl.now (islOfDev d i) = true) ∧
    (∃ (d : Dev) (i : Fin 32) (n : Nat), d.boot.lost = false ∧ (islOfDev d i).stretch + n < 2 ^ 32) ∧
    (∃ (d : Dev) (i : Fin 32), d.boot.lost = false ∧ (islOfDev d i).droop = false) ∧
    (∃ (d : Dev) (i : Fin 32) (v : W32), d.boot.lost = false ∧ hostOpen d 0 = true ∧ v.toNat % 512 ≥ 192 ∧ islandMin d i ≤ v.toNat % 512) ∧
    (∃ (d : Dev) (i : Fin 32) (v : W32), d.boot.lost = false ∧ hostOpen d 0 = true ∧ v.toNat % 512 ≥ 192 ∧ v.toNat % 512 < islandMin d i) ∧
    (∃ (d : Dev) (i : Fin 32) (mask : W32) (present : W32), d.boot.lost = false ∧ hostOpen d 0 = true ∧ mask.getLsbD i = true ∧ present.getLsbD i = false) :=
  ⟨⟨{ on with clk := { clocks with isl := [(31, {})] } }, 31, by decide +kernel⟩,
    ⟨{ on with clk := { clocks with isl := [(31, { supplyGood := true })] } }, 31, by decide +kernel⟩,
    ⟨{ on with clk := { clocks with isl := [(31, { oscOn := true, current := 303 })] } }, 31, none, by decide +kernel⟩,
    ⟨{ on with whl := { running := true, now := 10000 }, clk := { clocks with isl := [(31, { oscOn := true, current := 303 })] } }, 31, by decide +kernel⟩,
    ⟨on, 0, 2 ^ 32 - 1, by decide +kernel⟩,
    ⟨on, 31, by decide +kernel⟩,
    ⟨on, 31, 192, by decide +kernel⟩,
    ⟨{ on with ten := [(6, { image := some { floor := 2, clusters := [0] } })] }, 0, 192, by decide +kernel⟩,
    ⟨on, 31, 2 ^ 31, 0, by decide +kernel⟩⟩

theorem witness_WheelTurns :
    (∃ (w : Wheel) (p : Nat) (k : Nat), 64 ≤ w.w ∧ w.w % 64 = 0 ∧ p < 64 ∧ k < w.w) ∧
    (∃ (w : Wheel) (k : Nat), w.slip = false ∧ k < w.w) ∧
    (∃ (d : Dev), FabricUp d ∧ d.whl.running = true ∧ d.whl.slip = false ∧ slipDue d = false ∧ formDue d = false) ∧
    (∃ (d : Dev) (p : Fin 64), FabricUp d ∧ d.whl.running = true ∧ d.whl.phase = p) ∧
    (∃ (d : Dev), FabricUp d ∧ d.whl.running = true ∧ d.whl.guardNext = none ∧ d.whl.syncMode ≠ .sink ∧ follower d.span = false) ∧
    (∃ (d : Dev) (p : Nat), FabricUp d ∧ d.whl.running = true ∧ d.whl.guardNext = none ∧ d.whl.syncMode ≠ .sink ∧ d.whl.slip = false ∧ follower d.span = true ∧ d.span.state = .locked ∧ d.span.predict16 = some p) :=
  ⟨⟨{}, 63, 8191, by decide +kernel⟩,
    ⟨{}, 8191, by decide +kernel⟩,
    ⟨on, by decide +kernel⟩,
    ⟨{ on with whl := { running := true, phase := 63 } }, 63, by decide +kernel⟩,
    ⟨on, by decide +kernel⟩,
    ⟨{ paired 1 with whl := { running := true }, span := { (paired 1).span with predict16 := some 5 } }, 5, by decide +kernel⟩⟩

theorem witness_Slips :
    (∃ (d : Dev), FabricUp d ∧ d.whl.running = true ∧ d.whl.slip = false ∧ slipDue d = true) ∧
    (∃ (d : Dev), FabricUp d ∧ d.whl.running = true ∧ d.whl.slip = true) ∧
    (∃ (d : Dev) (x : Nat), FabricUp d ∧ d.span.limitAt = some x ∧ x < d.whl.n * d.whl.w) :=
  ⟨⟨{ on with span := { slipAt := [0] } }, by decide +kernel⟩,
    ⟨{ on with whl := { running := true, slip := true } }, by decide +kernel⟩,
    ⟨{ on with whl := { running := true, n := 1 }, span := { limitAt := some 8191 } }, 8191, by decide +kernel⟩⟩

theorem witness_Markers :
    (∃ (d : Dev) (l : Fin 16), FabricUp d ∧ d.span.joined = true ∧ d.boot.state = .active ∧ d.whl.phase = 64 ∧ l.val ∈ spanLinks d.span ∧ (lnkOf d l).state = .ready ∧ (∀ f ∈ d.fab.flits, f.dest ≠ .linkTx l) ∧ follower d.span = false) ∧
    (∃ (d : Dev) (l : Fin 16) (at16 : Nat) (m : Line) (rest : List Line), FabricUp d ∧ (lnkOf (drainLink l (at16 / 16 + 6) d) l).markers = m :: rest ∧ (markerOf m).reserved = true) ∧
    (∃ (d : Dev) (l : Fin 16) (at16 : Nat) (m : Line) (rest : List Line), FabricUp d ∧ (lnkOf (drainLink l (at16 / 16 + 6) d) l).markers = m :: rest ∧ (markerOf m).reserved = false ∧ (markerOf m).kind = 1 ∧ d.span.joined = true ∧ l.val ∈ spanLinks d.span ∧ follower d.span = true ∧ (markerOf m).origin = d.span.masterRank ∧ d.span.successor ≠ d.span.masterRank ∧ d.span.kept = none ∧ (d.span.lastSend.all fun q => q.1 != (markerOf m).originGc) = true) :=
  ⟨⟨{ paired 0 with whl := { running := true, phase := 64 } }, 0, by decide +kernel⟩,
    ⟨linked { markers := [BitVec.ofNat 512 (2 ^ 511)] }, 0, 0, BitVec.ofNat 512 (2 ^ 511), [], by decide +kernel⟩,
    ⟨{ paired 1 with lnk := [(0, { markers := [markerLine {}] })] }, 0, 0, markerLine {}, [], by decide +kernel⟩⟩

theorem witness_SpanEvents :
    (∃ (d : Dev), FabricUp d ∧ follower d.span = true ∧ d.span.ownRank = d.span.successor ∧ 2 ≤ d.span.missedMaster) ∧
    (∃ (d : Dev), FabricUp d ∧ follower d.span = true ∧ d.span.joined = true ∧ (d.span.state = .locked ∨ d.span.state = .slipping) ∧ d.span.d + 2 ≤ d.span.missedAll) ∧
    (∃ (d : Dev), FabricUp d ∧ d.span.state = .forming ∧ follower d.span = false ∧ (∀ l ∈ spanLinks d.span, (lnkOf d l).state = .ready) ∧ formDue d = false) ∧
    (∃ (d : Dev), FabricUp d ∧ formDue d = true ∧ d.whl.running = true ∧ d.whl.slip = false) ∧
    (∃ (d : Dev) (p : Nat), FabricUp d ∧ d.span.state = .forming ∧ follower d.span = true ∧ d.span.stretched = false ∧ sinkStart d = none ∧ d.whl.guardNext = none ∧ d.span.predict16 = some p ∧ 0 < d.whl.w + d.whl.g) ∧
    (∃ (d : Dev), FabricUp d ∧ d.span.state = .forming ∧ 4096 ≤ d.span.formWheels ∧ atBoundary d = true) ∧
    (∃ (d : Dev), FabricUp d ∧ d.span.haltDue = true ∧ d.span.joined = true ∧ (d.span.state = .locked ∨ d.span.state = .slipping) ∧ atBoundary d = true) ∧
    (∃ (d : Dev) (c : Cmd), FabricUp d ∧ c ∈ d.host.cmds ∧ opcodeOf c = 0x501 ∧ c.stage = .armed ∧ countDue d.whl c.count = true) :=
  ⟨⟨{ paired 1 with span := { (paired 1).span with missedMaster := 2 } }, by decide +kernel⟩,
    ⟨{ paired 1 with span := { (paired 1).span with missedAll := 3 } }, by decide +kernel⟩,
    ⟨{ paired 0 with span := { (paired 0).span with state := .forming } }, by decide +kernel⟩,
    ⟨{ paired 0 with span := { (paired 0).span with state := .forming, stepTo := 8192 * 9, lockAt := some 0 } } , by decide +kernel⟩,
    ⟨{ paired 1 with span := { (paired 1).span with state := .forming, predict16 := some 5 } }, 5, by decide +kernel⟩,
    ⟨{ on with span := { state := .forming, formWheels := 4096 } }, by decide +kernel⟩,
    ⟨{ paired 0 with span := { (paired 0).span with halting := true, haltDue := true } }, by decide +kernel⟩,
    ⟨{ on with host := { cmds := [{ cmd 0x501 [] with stage := .armed }] } }, { cmd 0x501 [] with stage := .armed }, by decide +kernel⟩⟩

theorem witness_SyncPulse :
    (∃ (d : Dev) (t : Nat), FabricUp d ∧ d.whl.syncMode = .sink) ∧
    (∃ (d : Dev), FabricUp d ∧ d.whl.syncMode = .sink ∧ 2 ≤ d.whl.syncMissed) ∧
    (∃ (d : Dev), FabricUp d ∧ d.whl.syncMode = .sink ∧ 2 ≤ d.whl.syncOff) :=
  ⟨⟨{ on with whl := { running := true, syncMode := .sink } }, 0, by decide +kernel⟩,
    ⟨{ on with whl := { running := true, syncMode := .sink, syncMissed := 2 } }, by decide +kernel⟩,
    ⟨{ on with whl := { running := true, syncMode := .sink, syncOff := 2 } }, by decide +kernel⟩⟩

theorem witness_SwitchTick :
    (∃ (d : Dev) (i : Fin 32) (t : Nat), FabricUp d ∧ d.whl.now ≤ t) ∧
    (∃ (d : Dev) (i : Fin 32) (t : Nat), FabricUp d ∧ d.whl.now ≤ t ∧ d.fab.tableEcc = [] ∧ scheduleTick d t = true ∧ (((activeWords i (tickAt d.whl t) d).1.map fun x => rwIn x.2).Nodup)) ∧
    (∃ (d : Dev) (i : Fin 32) (t : Nat) (p : Nat) (x : Flight), FabricUp d ∧ d.whl.now ≤ t ∧ d.fab.tableEcc = [] ∧ (d.fab.flits.filter fun y => y.dest == .swIn i p && y.due == t) = [x] ∧ (scheduleTick d t = true → ∀ w ∈ (activeWords i (tickAt d.whl t) d).1, rwIn w.2 ≠ p)) ∧
    (∃ (d : Dev) (i : Fin 32) (t : Nat) (x : Flight), FabricUp d ∧ d.whl.now ≤ t ∧ (d.fab.flits.filter fun y => y.dest == .ctl i && decide (y.due ≤ t)) = [x] ∧ (eccCheck x.flit).2 = .corrected) :=
  ⟨⟨on, 31, 9000, by decide +kernel⟩,
    ⟨{ on with fab := { route := [(0, BitVec.ofNat 64 4294967297)], phase := [(0, { len := 1, owner := 6 })] } }, 0, 0, by decide +kernel⟩,
    ⟨carries (sent (flit 6 0) (.swIn 0 16) 5) on, 0, 5, 16, sent (flit 6 0) (.swIn 0 16) 5, by refine ⟨by decide +kernel, by decide +kernel, by decide +kernel, by decide +kernel, fun _ => all_of_nil (by decide +kernel)⟩⟩,
    ⟨carries { sent (flit 6 0) (.swIn 0 16) 5 with dest := .ctl 31, flit := { flit 6 0 with ecc := (flit 6 0).ecc ^^^ 1 } } on, 31, 5, { sent (flit 6 0) (.swIn 0 16) 5 with dest := .ctl 31, flit := { flit 6 0 with ecc := (flit 6 0).ecc ^^^ 1 } }, by decide +kernel⟩⟩

theorem witness_LaunchSlots :
    (∃ (d : Dev) (cl : Fin 512) (ls : Fin 8) (t : Nat) (h : LaunchHdr) (p : Payload), FabricUp d ∧ d.whl.slip = false ∧ d.whl.now ≤ t ∧ tickAt d.whl t < d.whl.w ∧ (clOf d cl).tvHeld = false ∧ lsOf (clOf d cl) ls = .filled h ∧ h.stamp + 4 ≤ t ∧ reach (h.lap, h.tick + h.next) (d.whl.n % 4, tickAt d.whl t) = .current ∧ h.payloads[h.next]? = some p ∧ payloadReady h h.next t = true) ∧
    (∃ (d : Dev) (cl : Fin 512) (ls : Fin 8) (t : Nat) (h : LaunchHdr), FabricUp d ∧ d.whl.slip = false ∧ d.whl.now ≤ t ∧ tickAt d.whl t < d.whl.w ∧ (clOf d cl).tvHeld = false ∧ lsOf (clOf d cl) ls = .filled h ∧ h.stamp + 4 ≤ t ∧ h.tick < d.whl.w ∧ h.accepted = false ∧ reach (h.lap, h.tick) (d.whl.n % 4, tickAt d.whl t) = .passed) ∧
    (∃ (d : Dev) (cl : Fin 512) (ls : Fin 8) (t : Nat) (h : LaunchHdr), FabricUp d ∧ d.whl.slip = false ∧ d.whl.now ≤ t ∧ tickAt d.whl t < d.whl.w ∧ (clOf d cl).tvHeld = false ∧ lsOf (clOf d cl) ls = .filled h ∧ h.stamp + 4 ≤ t ∧ d.whl.w ≤ h.tick) :=
  ⟨⟨{ on with cl := [(511, { ls := [(7, .filled { lap := 0, tick := 10, n := 1, tag := 0, stamp := 0, payloads := [{ data := 0, poison := false, stamp := some 6 }], next := 0, accepted := false })] })] }, 511, 7, 10, { lap := 0, tick := 10, n := 1, tag := 0, stamp := 0, payloads := [{ data := 0, poison := false, stamp := some 6 }], next := 0, accepted := false }, { data := 0, poison := false, stamp := some 6 }, by decide +kernel⟩,
    ⟨{ on with cl := [(511, { ls := [(7, .filled { lap := 0, tick := 10, n := 1, tag := 0, stamp := 0, payloads := [{ data := 0, poison := false, stamp := some 6 }], next := 0, accepted := false })] })] }, 511, 7, 11, { lap := 0, tick := 10, n := 1, tag := 0, stamp := 0, payloads := [{ data := 0, poison := false, stamp := some 6 }], next := 0, accepted := false }, by decide +kernel⟩,
    ⟨{ on with cl := [(511, { ls := [(7, .filled { lap := 0, tick := 8192, n := 1, tag := 0, stamp := 0, payloads := [{ data := 0, poison := false, stamp := some 6 }], next := 0, accepted := false })] })] }, 511, 7, 11, { lap := 0, tick := 8192, n := 1, tag := 0, stamp := 0, payloads := [{ data := 0, poison := false, stamp := some 6 }], next := 0, accepted := false }, by decide +kernel⟩⟩

theorem witness_Landing :
    (∃ (d : Dev) (cl : Fin 512) (t : Nat) (x : Flight) (h : Nat), FabricUp d ∧ d.whl.now ≤ t ∧ d.fab.flits.find? (fun y => y.dest == .landing cl && y.due == t) = some x ∧ eccCheck x.flit = (x.flit, .clean) ∧ holderOf d cl = some h ∧ x.flit.ten.toNat = h ∧ x.flit.late = false ∧ (lbOf (clOf d cl) (32 * (x.flit.tag.toNat / 128) + x.flit.tag.toNat % 32)).full = false) ∧
    (∃ (d : Dev) (cl : Fin 512) (t : Nat) (x : Flight) (h : Nat), FabricUp d ∧ d.whl.now ≤ t ∧ d.fab.flits.find? (fun y => y.dest == .landing cl && y.due == t) = some x ∧ eccCheck x.flit = (x.flit, .clean) ∧ holderOf d cl = some h ∧ x.flit.ten.toNat = h ∧ x.flit.late = true ∧ (tenOf d h).stopDue = false) ∧
    (∃ (d : Dev) (cl : Fin 512) (t : Nat) (x : Flight) (h : Nat), FabricUp d ∧ d.whl.now ≤ t ∧ d.fab.flits.find? (fun y => y.dest == .landing cl && y.due == t) = some x ∧ eccCheck x.flit = (x.flit, .clean) ∧ holderOf d cl = some h ∧ x.flit.ten.toNat ≠ h ∧ x.flit.ten.toNat < 32 ∧ (tenOf d x.flit.ten.toNat).stopDue = false) ∧
    (∃ (d : Dev) (cl : Fin 512) (t : Nat) (x : Flight) (h : Nat), FabricUp d ∧ d.whl.now ≤ t ∧ d.fab.flits.find? (fun y => y.dest == .landing cl && y.due == t) = some x ∧ eccCheck x.flit = (x.flit, .clean) ∧ holderOf d cl = some h ∧ x.flit.ten.toNat = h ∧ x.flit.late = false ∧ (lbOf (clOf d cl) (32 * (x.flit.tag.toNat / 128) + x.flit.tag.toNat % 32)).full = true) ∧
    (∃ (d : Dev) (cl : Fin 512) (t : Nat) (x : Flight) (h : Nat), FabricUp d ∧ d.whl.now ≤ t ∧ d.fab.flits.find? (fun y => y.dest == .landing cl && y.due == t) = some x ∧ eccCheck x.flit = (x.flit, .clean) ∧ holderOf d cl = some h ∧ x.flit.ten = 63 ∧ h < 32) :=
  ⟨⟨{ carries (sent (flit 6 0) (.landing 0) 5) (runs core0) with boot := on.boot }, 0, 5, sent (flit 6 0) (.landing 0) 5, 6, by decide +kernel⟩,
    ⟨{ carries (sent (sealFlit { flit 6 0 with late := true }) (.landing 0) 5) (runs core0) with boot := on.boot }, 0, 5, sent (sealFlit { flit 6 0 with late := true }) (.landing 0) 5, 6, by decide +kernel⟩,
    ⟨{ carries (sent (flit 31 0) (.landing 0) 5) (runs core0) with boot := on.boot }, 0, 5, sent (flit 31 0) (.landing 0) 5, 6, by decide +kernel⟩,
    ⟨{ carries (sent (flit 6 0) (.landing 0) 5) (runs { core0 with lb := [(0, { full := true })] }) with boot := on.boot }, 0, 5, sent (flit 6 0) (.landing 0) 5, 6, by decide +kernel⟩,
    ⟨{ carries (sent (flit 63 0) (.landing 0) 5) (runs core0) with boot := on.boot }, 0, 5, sent (flit 63 0) (.landing 0) 5, 6, by decide +kernel⟩⟩

theorem witness_LinkTraffic :
    (∃ (d : Dev) (l : Fin 16) (k : Nat), FabricUp d ∧ (lnkOf d l).state = .ready ∧ (lnkOf d l).aborting = 0 ∧ d.whl.running = true ∧ 8 * k + 8 ≤ d.whl.w ∧ d.fab.flits = [] ∧ (lnkOf d l).nakTx = [] ∧ (lnkOf d l).absentTx = [] ∧ (lnkOf d l).nakRx = []) ∧
    (∃ (d : Dev) (l : Fin 16) (k : Nat), FabricUp d ∧ (lnkOf d l).state = .ready ∧ (lnkOf d l).aborting = 0 ∧ d.whl.running = true ∧ 8 * k ≤ d.whl.w + d.whl.guardNext.getD d.whl.g ∧ d.whl.w + d.whl.guardNext.getD d.whl.g < 8 * k + 8 ∧ (d.whl.guardNext.getD d.whl.g) % 8 ≠ 0) ∧
    (∃ (d : Dev) (l : Fin 16) (k : Nat) (f : Frame), FabricUp d ∧ (lnkOf d l).state = .ready ∧ (lnkOf d l).aborting = 0 ∧ replayFor d l k = some f ∧ linkOpen d l = true ∧ d.whl.slip = false) ∧
    (∃ (d : Dev) (l : Fin 16) (wheel : Nat) (index : Nat) (at16 : Nat) (lanes : List (List (BitVec 10))) (k : Link), FabricUp d ∧ (lnkOf d l).state = .ready ∧ (lnkOf d l).aborting = 0 ∧ lnkOf (drainLink l (at16 / 16) d) l = k ∧ frameMessage k.width (fromLanes k.width k.rxOrder lanes) = none) ∧
    (∃ (d : Dev) (l : Fin 16) (wheel : Nat) (index : Nat) (at16 : Nat) (msg : Nat) (lanes : List (List (BitVec 10))) (f : Fcf) (k : Link), FabricUp d ∧ (lnkOf d l).state = .ready ∧ (lnkOf d l).aborting = 0 ∧ lnkOf (drainLink l (at16 / 16) d) l = k ∧ (k.width = 4 ∨ k.width = 6 ∨ k.width = 8) ∧ frameMessage k.width (fromLanes k.width k.rxOrder lanes) = some (msg, 0) ∧ fcfOf (bits msg (544 * k.width + 239) (544 * k.width)) = some f ∧ f.kind = 1 ∧ f.naks = [] ∧ f.absent = none) ∧
    (∃ (d : Dev) (l : Fin 16) (t : Nat) (ix : Nat) (r : RelEntry) (f : Flit) (lam : Nat), FabricUp d ∧ (lnkOf d l).state = .ready ∧ (lnkOf d l).aborting = 0 ∧ d.whl.now ≤ t ∧ d.whl.slip = false ∧ tickAt d.whl t < d.whl.w ∧ (∀ x ∈ (lnkOf d l).rxQ, t - 1 < x.at_ + 6) ∧ (lnkOf d l).release = [(ix, r)] ∧ r.flit = some f ∧ r.marked = false ∧ tabGet none ((lnkOf d l).lambda.map fun x => (x.1, some x.2)) (phaseOfGc d.whl r.gc) = some lam ∧ r.gc + lam = d.whl.n * d.whl.w + tickAt d.whl t) ∧
    (∃ (d : Dev) (l : Fin 16) (t : Nat) (x : Flight), FabricUp d ∧ (lnkOf d l).state = .ready ∧ (lnkOf d l).aborting = 0 ∧ d.whl.start ≤ t ∧ laneDrops d.whl (lnkOf d l) (tickAt d.whl t) = true ∧ d.fab.flits = [x] ∧ x.dest = .linkTx l ∧ x.due = t ∧ eccCheck x.flit = (x.flit, .clean) ∧ x.flit.ten ≠ 63) :=
  ⟨⟨linked { state := .ready, width := 8 }, 0, 1023, by decide +kernel⟩,
    ⟨{ linked { state := .ready, width := 8 } with whl := { running := true, guardNext := some 3 } }, 0, 1024, by decide +kernel⟩,
    ⟨linked { state := .ready, width := 8, nakRx := [(3, 8 * 5)], replay := [{ index := 3, gc := 24, slots := [] }] }, 0, 5, { index := 3, gc := 24, slots := [] }, by decide +kernel⟩,
    ⟨linked link4, 0, 0, 0, 0, oddLanes, link4, by exact ⟨by decide +kernel, rfl, rfl, link4_drained, oddFrame_lost⟩⟩,
    let ⟨m, f, h⟩ := framed_reads framed0_reads; ⟨linked link4, 0, 0, 0, 0, m, framed 0, f, link4, by decide +kernel, rfl, rfl, link4_drained, Or.inl rfl, h.1, h.2.1, h.2.2.1, h.2.2.2.1, h.2.2.2.2.1⟩,
    ⟨linked { state := .ready, width := 8, release := [(0, { gc := 0, flit := some (flit 6 0), marked := false })], lambda := [(0, 100)] }, 0, 100, 0, { gc := 0, flit := some (flit 6 0), marked := false }, flit 6 0, 100, by decide +kernel⟩,
    ⟨carries (sent (flit 6 0) (.linkTx 0) 15) (linked { state := .ready, width := 6 }), 0, 15, sent (flit 6 0) (.linkTx 0) 15, by decide +kernel⟩⟩

theorem witness_LinkTraining :
    (∃ (d : Dev) (l : Fin 16) (t : Nat) (lanes : Byte), FabricUp d ∧ (lnkOf d l).state = .detect ∧ 4 ≤ popcount lanes.toNat ∧ (lnkOf d l).entered + 8192 ≤ t) ∧
    (∃ (d : Dev) (l : Fin 16) (t : Nat) (pass : Byte) (order : BitVec 24) (invert : Byte), FabricUp d ∧ (lnkOf d l).state = .equalise ∧ pass &&& (lnkOf d l).lanesOk = (lnkOf d l).lanesOk ∧ 4 ≤ popcount (lnkOf d l).lanesOk.toNat) ∧
    (∃ (d : Dev) (l : Fin 16) (t : Nat) (p : Line), FabricUp d ∧ (lnkOf d l).state = .align ∧ (lnkOf d l).peerRec = some p ∧ 64 ≤ (lnkOf d l).alignRun) ∧
    (∃ (d : Dev) (l : Fin 16) (t : Nat) (rtts : List Nat) (fine : Nat), FabricUp d ∧ (lnkOf d l).state = .measure ∧ 64 ≤ (lnkOf d l).rtts.length ∧ rtts = (lnkOf d l).rtts.take 64 ∧ fine = peerFine (lnkOf d l)) ∧
    (∃ (d : Dev) (l : Fin 16) (t : Nat), FabricUp d ∧ (lnkOf d l).state = .confirm ∧ (lnkOf d l).confirmBad = true) ∧
    (∃ (d : Dev) (l : Fin 16) (t : Nat), FabricUp d ∧ (lnkOf d l).state = .ready) ∧
    (∃ (d : Dev) (l : Fin 16) (t : Nat), FabricUp d ∧ (lnkOf d l).state = .lost ∧ (lnkOf d l).entered + 1024 ≤ t) :=
  ⟨⟨linked { state := .detect }, 0, 8192, 0x0F, by decide +kernel⟩,
    ⟨linked { state := .equalise, lanesOk := 0x0F }, 0, 0, 0x0F, 0, 0, by decide +kernel⟩,
    ⟨linked { state := .align, peerRec := some 0, alignRun := 64 }, 0, 0, 0, by decide +kernel⟩,
    ⟨linked { state := .measure, rtts := List.replicate 64 1024 }, 0, 0, List.replicate 64 1024, 0, by decide +kernel⟩,
    ⟨linked { state := .confirm, width := 8, confirmBad := true }, 0, 0, by decide +kernel⟩,
    ⟨linked { state := .ready }, 0, 0, by decide +kernel⟩,
    ⟨linked { state := .lost }, 0, 1024, by decide +kernel⟩⟩

theorem witness_ColumnSlots :
    (∃ (d : Dev) (cl : Fin 512) (ph : Fin 64) (slot : Fin 1024) (m : Nat) (q : ReqEntry), ColumnUp cl d ∧ Memory.wf d.mem.cells = true ∧ columnAccess d cl = none ∧ slotAt d cl ph slot m = true ∧ bit (tabGet 0 d.fuse.slots (islOf cl)) (slotOf cl) = true ∧ (clOf d cl).tvHeld = false ∧ tabGet [] d.mem.colQ cl = [q] ∧ q.stamp + 4 ≤ m ∧ q.ecc = .ok ∧ tagDistance q.word (d.whl.n % 2) ph slot = 0 ∧ bankFree d cl (reqLine q.word) m = true ∧ q.word.toNat % 4 = 1) ∧
    (∃ (d : Dev) (cl : Fin 512) (ph : Fin 64) (slot : Fin 1024) (m : Nat) (q : ReqEntry), ColumnUp cl d ∧ Memory.wf d.mem.cells = true ∧ columnAccess d cl = none ∧ slotAt d cl ph slot m = true ∧ bit (tabGet 0 d.fuse.slots (islOf cl)) (slotOf cl) = true ∧ (clOf d cl).tvHeld = false ∧ tabGet [] d.mem.colQ cl = [q] ∧ q.stamp + 4 ≤ m ∧ q.ecc = .ok ∧ tagDistance q.word (d.whl.n % 2) ph slot = 0 ∧ bankFree d cl (reqLine q.word) m = true ∧ q.word.toNat % 4 = 0) :=
  ⟨⟨{ on with whl := { running := true, phase := 1 }, mem := { colQ := [(511, [{ word := BitVec.ofNat 64 1, mask := 1, data := 1, poison := false, stamp := 0, ecc := .ok }])] } }, 511, 0, 0, 5, { word := BitVec.ofNat 64 1, mask := 1, data := 1, poison := false, stamp := 0, ecc := .ok }, by decide +kernel⟩,
    ⟨{ on with whl := { running := true, phase := 1 }, mem := { colQ := [(511, [{ word := BitVec.ofNat 64 0, mask := 1, data := 1, poison := false, stamp := 0, ecc := .ok }])] } }, 511, 0, 0, 5, { word := BitVec.ofNat 64 0, mask := 1, data := 1, poison := false, stamp := 0, ecc := .ok }, by decide +kernel⟩⟩

theorem witness_TierMoves :
    (∃ (d : Dev) (cl : Fin 512) (m : Nat) (r : ColRd) (rs : List ColRd), d.boot.lost = false ∧ columnUp cl d = true ∧ tabGet [] d.mem.colRd cl = r :: rs ∧ m = r.slotM + 96 ∧ (tabGet [] d.mem.fillQ cl).length < 16) ∧
    (∃ (d : Dev) (cl : Fin 512) (m : Nat) (t : Nat), d.boot.lost = false ∧ columnUp cl d = true ∧ d.whl.running = true ∧ bit (tabGet 0 d.fuse.slots (islOf cl)) (slotOf cl) = true ∧ (refreshMarks d.whl).find? (fun x => markSeen x m) = some t ∧ tabGet 0 d.mem.mNow (quadOf cl) ≤ m ∧ (tabHas d.mem.burst cl && (tabGet (0, 0) d.mem.burst cl).1 == t) = false) ∧
    (∃ (d : Dev) (cl : Fin 512) (m : Nat), d.boot.lost = false ∧ columnUp cl d = true ∧ (∀ t ∈ refreshMarks d.whl, markSeen t m = false)) ∧
    (∃ (d : Dev) (cl : Fin 512) (f : FillEntry) (fs : List FillEntry), d.boot.lost = false ∧ Memory.wf d.mem.cells = true ∧ islandRuns cl d = true ∧ tabGet [] d.mem.fillQ cl = f :: fs ∧ f.cyc + 4 ≤ (clOf d cl).cyc ∧ (∀ x ∈ (clOf d cl).fills, x.cyc = (clOf d cl).cyc → x.line % 16 ≠ f.line % 16) ∧ (∀ i < 8, tabGet 0 d.mem.ecc (paneBase cl + 64 * f.line + 8 * i) = 0)) ∧
    (∃ (d : Dev) (q : Fin 4) (k : Fin 8) (t : Nat) (x : Flight) (w : W64) (line : Nat) (own : Nat), d.boot.lost = false ∧ fabricUp d = true ∧ Memory.wf d.mem.cells = true ∧ d.whl.now ≤ t ∧ d.fab.tableEcc = [] ∧ d.fab.flits.find? (fun y => y.dest == .shelf q k && y.due == t) = some x ∧ eccCheck x.flit = (x.flit, .clean) ∧ x.flit.ten.toNat = ownerAt { d with whl := { d.whl with now := t } } (centreOf q) x.sw ∧ x.flit.late = false ∧ (shelfActive q k x.sw false { d with whl := { d.whl with now := t } }).1 = [(w, line, own)]) ∧
    (∃ (d : Dev) (q : Fin 4) (k : Fin 8) (t : Nat) (w : W64) (line : Nat) (own : Nat), d.boot.lost = false ∧ fabricUp d = true ∧ d.whl.now ≤ t ∧ d.fab.tableEcc = [] ∧ (∀ o ∈ d.mem.shelfOld, o.tick ≠ t) ∧ (∀ i < 8, tabGet 0 d.mem.ecc (shelfAddr q line + 8 * i) = 0) ∧ (shelfActive q k (t + 6) true { d with whl := { d.whl with now := t } }).1 = [(w, line, own)]) ∧
    (∃ (d : Dev) (q : Fin 4) (k : Fin 8) (t : Nat) (w : W64) (line : Nat) (own : Nat) (o : ShelfOld), d.boot.lost = false ∧ fabricUp d = true ∧ d.whl.now ≤ t ∧ d.fab.tableEcc = [] ∧ (∀ i < 8, o.checks.getD i 0 = 0) ∧ d.mem.shelfOld.find? (fun o => o.tick == t && o.addr == shelfAddr q line) = some o ∧ (shelfActive q k (t + 6) true { d with whl := { d.whl with now := t } }).1 = [(w, line, own)]) :=
  ⟨⟨{ on with mem := { colRd := [(511, [{ slotM := 4, line := 65535, mask := 1, data := 1, poison := false }])] } }, 511, 100, { slotM := 4, line := 65535, mask := 1, data := 1, poison := false }, [], by decide +kernel⟩,
    ⟨{ on with whl := { running := true, phase := 1 } }, 511, 101, 126, by decide +kernel⟩,
    ⟨on, 511, 0, by refine ⟨rfl, rfl, all_of_nil rfl⟩⟩,
    ⟨{ lit with cl := [(0, { cyc := 4 })], mem := { fillQ := [(0, [{ line := 65535, mask := 1, data := 1, poison := false, cyc := 0 }])] } }, 0, { line := 65535, mask := 1, data := 1, poison := false, cyc := 0 }, [], by refine ⟨by decide +kernel, by decide +kernel, by decide +kernel, by decide +kernel, by decide +kernel, all_of_nil rfl, by decide +kernel⟩⟩,
    ⟨carries { sent (flit 6 0) (.shelf 0 0) 15 with sw := 10 } ({ on with fab := { shelfProg := [(0, BitVec.ofNat 64 (10 * 2 ^ 20))], shelfPhase := [(0, { len := 1, owner := 6 })], phase := [(64 * 11, { len := 0, owner := 6 })] } }), 0, 0, 15, { sent (flit 6 0) (.shelf 0 0) 15 with sw := 10 }, BitVec.ofNat 64 (10 * 2 ^ 20), 0, 6, by decide +kernel⟩,
    ⟨{ on with fab := { shelfProg := [(0, BitVec.ofNat 64 (10 * 2 ^ 20 + 2 ^ 40))], shelfPhase := [(0, { len := 1, owner := 6 })], phase := [(64 * 11, { len := 0, owner := 6 })] } }, 0, 0, 4, BitVec.ofNat 64 (10 * 2 ^ 20 + 2 ^ 40), 0, 6, by decide +kernel⟩,
    ⟨{ ({ on with fab := { shelfProg := [(0, BitVec.ofNat 64 (10 * 2 ^ 20 + 2 ^ 40))], shelfPhase := [(0, { len := 1, owner := 6 })], phase := [(64 * 11, { len := 0, owner := 6 })] } }) with mem := { shelfOld := [{ tick := 4, addr := shelfAddr 0 0, data := 1, checks := [] }] } }, 0, 0, 4, BitVec.ofNat 64 (10 * 2 ^ 20 + 2 ^ 40), 0, 6, { tick := 4, addr := shelfAddr 0 0, data := 1, checks := [] }, by decide +kernel⟩⟩

theorem witness_BundleIssues : ∃ (d : Dev) (cl : Fin 512) (third : Bool), MayIssue d cl (fetchBundle (clOf d cl)) ∧ (∀ i < 4, tabGet 0 (clOf d cl).storeEcc (4 * (clOf d cl).pc + i) = 0) ∧ (∀ a b c e, (fetchBundle (clOf d cl)).c ≠ .loop a b c e) ∧ (fetchBundle (clOf d cl)).c ≠ .endloop ∧ (∀ a b c e, (fetchBundle (clOf d cl)).c ≠ .waittick a b c e) ∧ (∀ a b c, (fetchBundle (clOf d cl)).c ≠ .waitcyc a b c) :=
  ⟨runs core0, 0, false, ⟨by unfold MayIssue; decide +kernel, by decide +kernel, by rw [core0_nop]; nofun, by rw [core0_nop]; simp, by rw [core0_nop]; nofun, by rw [core0_nop]; nofun⟩⟩

theorem witness_IllegalBundles : ∃ (d : Dev) (cl : Fin 512) (third : Bool) (t : Nat), d.boot.lost = false ∧ islandRuns cl d = true ∧ (clOf d cl).run = .running ∧ (∀ i < 4, tabGet 0 (clOf d cl).storeEcc (4 * (clOf d cl).pc + i) = 0) ∧ cCheck d.whl.w (clOf d cl) (fetchBundle (clOf d cl)).c = false ∧ (clOf d cl).tasks = [] ∧ holderOf d cl = some t ∧ (tenOf d t).stopDue = false :=
  ⟨runs { core0 with store := [(0, BitVec.ofNat 256 (2 ^ 256 - 1))] }, 0, false, 6, by decide +kernel⟩

theorem witness_MatrixIssues :
    (∃ (d : Dev) (cl : Fin 512) (acc : Fin 8) (da : Fin 16) (db : Fin 16), MayIssue d cl { m := .mma da db acc }) ∧
    (∃ (d : Dev) (cl : Fin 512) (acc : Fin 8) (da : Fin 16) (db : Fin 16) (zero : Bool), MayIssue d cl { m := .mmat da db acc zero }) ∧
    (∃ (d : Dev) (cl : Fin 512) (acc : Fin 8) (da : Fin 16) (db : Fin 16) (c : AccClass) (g : Nat), MayIssue d cl { m := .mmaz da db acc } ∧ (clOf d cl).tasks = [] ∧ pairing (dFmt (dOf (clOf d cl) da)) (dFmt (dOf (clOf d cl) db)) = some (c, g)) ∧
    (∃ (d : Dev) (cl : Fin 512) (acc : Fin 8) (cnt : Fin 4) (cls : Fin 4), MayIssue d cl { m := .acczero acc cnt cls } ∧ (clOf d cl).tasks = []) ∧
    (∃ (d : Dev) (cl : Fin 512) (acc : Fin 8) (dd : Fin 16) (form : Fin 4), MayIssue d cl { m := .accload dd acc form }) ∧
    (∃ (d : Dev) (cl : Fin 512) (acc : Fin 8) (dd : Fin 16) (wide : Bool) (sat : Bool) (rnd : Fin 4) (srq : Fin 8), MayIssue d cl { m := .accdrain dd acc wide rnd sat srq } ∧ (clOf d cl).tasks = []) :=
  ⟨⟨runs core0, 0, 1, 2, 2, by unfold MayIssue; decide +kernel⟩,
    ⟨runs core0, 0, 0, 3, 3, false, by unfold MayIssue; decide +kernel⟩,
    ⟨runs core0, 0, 7, 0, 0, .ordered, 1, by unfold MayIssue; decide +kernel⟩,
    ⟨runs core0, 0, 0, 3, 2, by unfold MayIssue; decide +kernel⟩,
    ⟨runs core0, 0, 7, 0, 0, by unfold MayIssue; decide +kernel⟩,
    ⟨runs core0, 0, 1, 0, false, true, 0, 0, by unfold MayIssue; decide +kernel⟩⟩

theorem witness_VectorIssues : ∃ (d : Dev) (c : Instr) (cl : Nat) (v : VSlot), vectorOf c = some (cl, v) ∧ MayIssue d cl { v := v } :=
  ⟨runs core0, .vadd 0 { dd := 0 } true 23 7, 0, .vadd { dd := 0 } true 23 7, by unfold MayIssue; decide +kernel⟩

theorem witness_TransferIssues :
    (∃ (d : Dev) (cl : Fin 512) (dd : Fin 16) (win : Fin 8) (o : Fin 32) (c : Fin 32) (l : Fin 32), MayIssue d cl { x := .pload dd win o c l }) ∧
    (∃ (d : Dev) (cl : Fin 512) (dd : Fin 16) (win : Fin 8) (o : Fin 32) (c : Fin 32) (l : Fin 32), MayIssue d cl { x := .pstore dd win o c l }) ∧
    (∃ (d : Dev) (cl : Fin 512) (sD : Fin 32) (sB : Fin 32) (imm : BitVec 22), MayIssue d cl { x := .sget sD sB imm }) ∧
    (∃ (d : Dev) (cl : Fin 512) (dd : Fin 16) (ls : Fin 8) (a : Fin 32) (b : Fin 32) (n : Nat), MayIssue d cl { x := .launch dd ls a b } ∧ (clOf d cl).tasks = [] ∧ lsOf (clOf d cl) ls = .free n ∧ n ≤ (clOf d cl).cyc) ∧
    (∃ (d : Dev) (cl : Fin 512) (dd : Fin 16) (g : Fin 32) (nw : Bool), MayIssue d cl { x := .land dd g nw }) ∧
    (∃ (d : Dev) (cl : Fin 512) (dd : Fin 16) (g : Fin 32) (mask : Byte) (sD : Fin 32), MayIssue d cl { x := .landany dd g mask sD }) :=
  ⟨⟨runs core0, 0, 0, 7, 1, 2, 3, by unfold MayIssue; decide +kernel⟩,
    ⟨runs core0, 0, 0, 7, 1, 2, 3, by unfold MayIssue; decide +kernel⟩,
    ⟨runs core0, 0, 31, 1, 4, by unfold MayIssue; decide +kernel⟩,
    ⟨runs core0, 0, 0, 7, 0, 0, 0, by unfold MayIssue; decide +kernel⟩,
    ⟨runs core0, 0, 0, 31, true, by unfold MayIssue; decide +kernel⟩,
    ⟨runs core0, 0, 0, 31, 0xFF, 5, by unfold MayIssue; decide +kernel⟩⟩

theorem witness_SputStores : ∃ (d : Dev) (cl : Fin 512) (sS : Fin 32) (sB : Fin 32) (imm : BitVec 22) (off : Nat) (u : Nat), MayIssue d cl { x := .sput sS sB imm } ∧ Memory.wf d.mem.cells = true ∧ (clOf d cl).tasks = [] ∧ (clOf d cl).fills = [] ∧ off = sgetOff (clOf d cl) sB imm.toNat ∧ off < 0x400000 ∧ paneOk d cl (off / 64) = true ∧ u = paneBase cl + off / 8 * 8 :=
  ⟨runs core0, 0, 1, 2, 0x3FFFFC, 0x3FFFFC, paneBase 0 + 0x3FFFF8, by unfold MayIssue; decide +kernel⟩

theorem witness_SgetLoads : ∃ (d : Dev) (cl : Fin 512) (sD : Fin 32) (sB : Fin 32) (imm : BitVec 22), MayIssue d cl { x := .sget sD sB imm } ∧ (clOf d cl).tasks = [] ∧ (clOf d cl).pend = [] ∧ (clOf d cl).fills = [] ∧ d.mem.ecc = [] ∧ (clOf d cl).pc + 1 < (clOf d cl).bundleCount ∧ (∀ x ∈ (clOf d cl).loops.head?, x.endIx ≠ (clOf d cl).pc + 1) ∧ sgetOff (clOf d cl) sB imm.toNat < 0x400000 ∧ paneOk d cl (sgetOff (clOf d cl) sB imm.toNat / 64) = true :=
  ⟨runs core0, 0, 1, 2, 0x3FFFFC, by unfold MayIssue; decide +kernel⟩

theorem witness_ScalarWrites :
    (∃ (d : Dev) (cl : Fin 512) (dst : Fin 32) (imm : W32), (clOf d cl).tasks = [] ∧ MayIssue d cl { c := .sets false dst 0 imm }) ∧
    (∃ (d : Dev) (cl : Fin 512) (dst : Fin 32) (fsel : Fin 8) (imm : W32) (v : W64), (clOf d cl).tasks = [] ∧ MayIssue d cl { c := .sets true dst fsel imm } ∧ fieldResult (clOf d cl) false dst fsel imm.toNat = some v) ∧
    (∃ (d : Dev) (cl : Fin 512) (dst : Fin 32) (sA : Fin 32) (sB : Fin 32) (src : Bool) (imm : W32), (clOf d cl).tasks = [] ∧ MayIssue d cl { c := .adds false dst 0 sA src sB imm }) ∧
    (∃ (d : Dev) (cl : Fin 512) (dst : Fin 32) (sB : Fin 32) (fsel : Fin 8) (src : Bool) (imm : W32) (v : W64), (clOf d cl).tasks = [] ∧ MayIssue d cl { c := .adds true dst fsel 0 src sB imm } ∧ fieldResult (clOf d cl) true dst fsel (cOperand (clOf d cl) src sB imm) = some v) ∧
    (∃ (d : Dev) (cl : Fin 512) (m : Fin 8) (src : Bool) (ri : BitVec 9) (ci : BitVec 9) (sR : Fin 32) (sC : Fin 32), (clOf d cl).tasks = [] ∧ MayIssue d cl { c := .edge m src ri ci sR sC }) ∧
    (∃ (d : Dev) (cl : Fin 512) (dst : Fin 32) (sA : Fin 32) (sB : Fin 32) (src : Bool) (imm : W32), (clOf d cl).tasks = [] ∧ MayIssue d cl { c := .muls false dst 0 sA src sB imm } ∧ (clOf d cl).pend = []) ∧
    (∃ (d : Dev) (cl : Fin 512) (w : Nat) (dst : Fin 32) (sA : Fin 32) (sB : Fin 32) (fsel : Fin 8) (src : Bool) (imm : W32), (clOf d cl).tasks = [] ∧ fsel ≠ 0) :=
  ⟨⟨runs core0, 0, 31, 5, by unfold MayIssue; decide +kernel⟩,
    ⟨runs core0, 0, 15, 1, 255, BitVec.ofNat 64 (255 * 2 ^ 16), by unfold MayIssue; decide +kernel⟩,
    ⟨runs core0, 0, 31, 1, 2, true, 0, by unfold MayIssue; decide +kernel⟩,
    ⟨runs core0, 0, 0, 0, 0, false, 65535, BitVec.ofNat 64 (2 ^ 32 + 65535), by unfold MayIssue; decide +kernel⟩,
    ⟨runs core0, 0, 7, false, 256, 0, 0, 0, by unfold MayIssue; decide +kernel⟩,
    ⟨runs core0, 0, 31, 1, 2, true, 0, by unfold MayIssue; decide +kernel⟩,
    ⟨runs core0, 0, 0, 0, 0, 0, 7, false, 0, by decide +kernel⟩⟩

theorem witness_ControlFlow :
    (∃ (d : Dev) (cl : Fin 512) (src : Bool) (sC : Fin 32) (imm : W32) (endIx : BitVec 12), MayIssue d cl { c := .loop src sC imm endIx }) ∧
    (∃ (d : Dev) (cl : Fin 512) (top : LoopEnt) (rest : List LoopEnt), MayIssue d cl { c := .endloop } ∧ (clOf d cl).loops = top :: rest) ∧
    (∃ (d : Dev) (cl : Fin 512), MayIssue d cl { c := .halt } ∧ (clOf d cl).tasks = []) ∧
    (∃ (d : Dev) (cl : Fin 512) (t : BitVec 16) (next : Bool) (src : Bool) (sT : Fin 32) (lap : Nat) (tick : Nat), MayIssue d cl { c := .waittick t next src sT } ∧ (clOf d cl).tasks = [] ∧ waitReachOk (clOf d cl) (.waittick t next src sT) = true ∧ lap = (if next then ((clOf d cl).wcur + 1) % 4 else (clOf d cl).wcur) ∧ tick = (if src then sNat (clOf d cl) sT else t.toNat) ∧ reach (lap, tick) (clOf d cl).tv = .future) ∧
    (∃ (d : Dev) (cl : Fin 512) (t : BitVec 16) (next : Bool) (src : Bool) (sT : Fin 32) (lap : Nat) (tick : Nat), MayIssue d cl { c := .waittick t next src sT } ∧ (clOf d cl).tasks = [] ∧ waitReachOk (clOf d cl) (.waittick t next src sT) = true ∧ lap = (if next then ((clOf d cl).wcur + 1) % 4 else (clOf d cl).wcur) ∧ tick = (if src then sNat (clOf d cl) sT else t.toNat) ∧ reach (lap, tick) (clOf d cl).tv = .current) ∧
    (∃ (d : Dev) (cl : Fin 512) (t : BitVec 16) (next : Bool) (src : Bool) (sT : Fin 32) (lap : Nat) (tick : Nat), MayIssue d cl { c := .waittick t next src sT } ∧ (clOf d cl).tasks = [] ∧ waitReachOk (clOf d cl) (.waittick t next src sT) = true ∧ lap = (if next then ((clOf d cl).wcur + 1) % 4 else (clOf d cl).wcur) ∧ tick = (if src then sNat (clOf d cl) sT else t.toNat) ∧ reach (lap, tick) (clOf d cl).tv = .passed) ∧
    (∃ (d : Dev) (cl : Fin 512) (n : Nat) (third : Bool) (lap : Nat) (tick : Nat), d.boot.lost = false ∧ islandRuns cl d = true ∧ (clOf d cl).run = .waitTick lap tick ∧ reach (lap, tick) (clOf d cl).tv ≠ .future ∧ issueOk d.whl.w { clOf d cl with syncLate := third } (clOf d cl).held = true ∧ (∃ a b c e, (clOf d cl).held.c = .waittick a b c e)) ∧
    (∃ (d : Dev) (cl : Fin 512) (n : BitVec 16) (src : Bool) (sN : Fin 32) (x : Nat), MayIssue d cl { c := .waitcyc n src sN } ∧ (clOf d cl).tasks = [] ∧ waitReachOk (clOf d cl) (.waitcyc n src sN) = true ∧ x = (if src then sNat (clOf d cl) sN else n.toNat) ∧ 0 < x) ∧
    (∃ (d : Dev) (cl : Fin 512) (n : BitVec 16) (src : Bool) (sN : Fin 32) (x : Nat), MayIssue d cl { c := .waitcyc n src sN } ∧ (clOf d cl).tasks = [] ∧ waitReachOk (clOf d cl) (.waitcyc n src sN) = true ∧ x = (if src then sNat (clOf d cl) sN else n.toNat) ∧ x = 0) ∧
    (∃ (d : Dev) (cl : Fin 512) (till : Nat), d.boot.lost = false ∧ islandRuns cl d = true ∧ (clOf d cl).run = .waitCyc till ∧ (clOf d cl).cyc ≤ till ∧ (clOf d cl).tasks = [] ∧ (clOf d cl).loops = [] ∧ (clOf d cl).pc < (clOf d cl).bundleCount ∧ (clOf d cl).held = { c := .waitcyc 1 false 0 }) :=
  ⟨⟨runs core0, 0, false, 0, 3, 2, by unfold MayIssue; decide +kernel⟩,
    ⟨runs { core0 with loops := [⟨2, 0, 0⟩] }, 0, ⟨2, 0, 0⟩, [], by unfold MayIssue; decide +kernel⟩,
    ⟨runs core0, 0, by unfold MayIssue; decide +kernel⟩,
    ⟨runs core0, 0, 8191, false, false, 0, 0, 8191, by unfold MayIssue; decide +kernel⟩,
    ⟨runs core0, 0, 0, false, false, 0, 0, 0, by unfold MayIssue; decide +kernel⟩,
    ⟨runs { core0 with tv := (0, 5) }, 0, 4, false, false, 0, 0, 4, by unfold MayIssue; decide +kernel⟩,
    ⟨runs { core0 with run := .waitTick 0 4, tv := (0, 4), held := { c := .waittick 4 false false 0 } }, 0, 0, false, 0, 4, by exact ⟨by decide +kernel, by decide +kernel, by decide +kernel, by decide +kernel, by decide +kernel, 4, false, false, 0, by decide +kernel⟩⟩,
    ⟨runs core0, 0, 65535, false, 0, 65535, by unfold MayIssue; decide +kernel⟩,
    ⟨runs core0, 0, 0, false, 0, 0, by unfold MayIssue; decide +kernel⟩,
    ⟨runs { core0 with run := .waitCyc 9, held := { c := .waitcyc 1 false 0 } }, 0, 9, by decide +kernel⟩⟩

theorem witness_TileFrame :
    (∃ (c : Instr) (cl : Nat) (s : State) (t : State) (k : _), tileCluster c = some cl ∧ Inv s ∧ exec c s = .next t ∧ k ≠ cl) ∧
    (∃ (c : Instr) (cl : Nat) (s : State) (t : State) (a : _), tileCluster c = some cl ∧ Inv s ∧ exec c s = .next t ∧ (a < paneBase cl ∨ paneBase cl + 0x400000 ≤ a)) :=
  ⟨⟨.halt 0, 0, ⟨[], on⟩, _, 1, ⟨rfl, rfl, rfl, by decide⟩⟩,
    ⟨.halt 511, 511, ⟨[], on⟩, _, paneBase 511 + 0x400000, ⟨rfl, rfl, rfl, Or.inr (by decide)⟩⟩⟩

theorem witness_Doorbells : ∃ (d : Dev) (fn : Fin 64) (r : Fin 1024) (v : W32), d.boot.lost = false ∧ hostOpen d fn = true ∧ ringOwned d fn r = true :=
  ⟨{ on with host := { rings := [(1023, { st := .enabled, cmdLog := 4 })] } }, 0, 1023, 16, by decide +kernel⟩

theorem witness_RingStates :
    (∃ (d : Dev) (fn : Fin 64) (r : Fin 1024) (v : Fin 64), ControlUp d ∧ hostOpen d fn = true ∧ ringOwned d fn r = true ∧ (ringOf d r).st = .ready ∧ (ringOf d r).cmdBase.toNat % 4096 = 0 ∧ (ringOf d r).stsBase.toNat % 4096 = 0 ∧ 4 ≤ (ringOf d r).cmdLog ∧ (ringOf d r).cmdLog ≤ 16 ∧ 4 ≤ (ringOf d r).stsLog ∧ (ringOf d r).stsLog ≤ 16 ∧ v.val < tableSize fn) ∧
    (∃ (d : Dev) (fn : Fin 64) (r : Fin 1024) (v : Fin 64), ControlUp d ∧ hostOpen d fn = true ∧ ringOwned d fn r = true ∧ (ringOf d r).st = .ready ∧ (ringOf d r).cmdBase.toNat % 4096 ≠ 0) ∧
    (∃ (d : Dev) (fn : Fin 64) (r : Fin 1024) (v : Fin 64), ControlUp d ∧ hostOpen d fn = true ∧ ringOwned d fn r = true ∧ (ringOf d r).st = .enabled ∧ outstanding d r = 0) ∧
    (∃ (d : Dev) (fn : Fin 64) (r : Fin 1024) (v : Fin 64), ControlUp d ∧ hostOpen d fn = true ∧ ringOwned d fn r = true ∧ (ringOf d r).st = .enabled ∧ outstanding d r ≠ 0) ∧
    (∃ (d : Dev) (fn : Fin 64) (r : Fin 1024) (v : Fin 64), ControlUp d ∧ (ringOf d r).closing = true ∧ outstanding d r = 0) :=
  ⟨⟨{ on with host := { rings := [(1023, { st := .ready, cmdLog := 16, stsLog := 4 })] } }, 0, 1023, 63, by decide +kernel⟩,
    ⟨{ on with host := { rings := [(1023, { st := .ready, cmdBase := 64 })] } }, 0, 1023, 0, by decide +kernel⟩,
    ⟨{ on with host := { rings := [(1023, { st := .enabled })] } }, 0, 1023, 0, by decide +kernel⟩,
    ⟨{ on with host := { rings := [(1023, { st := .enabled })], cmds := [{ cmd 1 [] with ring := 1023 }] } }, 0, 1023, 0, by decide +kernel⟩,
    ⟨{ on with host := { rings := [(1023, { closing := true })] } }, 0, 1023, 0, by decide +kernel⟩⟩

theorem witness_CommandTravels :
    (∃ (d : Dev) (r : Fin 1024), ControlUp d ∧ coreServes d (ringOf d r).serving = true ∧ (ringOf d r).st = .enabled ∧ (ringOf d r).closing = false ∧ (ringOf d r).head ≠ (ringOf d r).tail ∧ (ringOf d r).fetching = false ∧ booted d = true) ∧
    (∃ (d : Dev) (r : Fin 1024) (p : Line), ControlUp d ∧ coreServes d (ringOf d r).serving = true ∧ (ringOf d r).packet = some p ∧ (ringOf d r).st = .enabled ∧ (ringOf d r).closing = false ∧ booted d = true ∧ (cmdFence p = true → outstanding d r = 0) ∧ (pkField p 8 8 ≠ 0 → countPassed d.whl (pkField p 8 8) = true) ∧ outstanding d r < 16 ∧ changePending d r = false ∧ myTurn d r = true ∧ outstanding d r + (ringOf d r).unreleased < 2 ^ (ringOf d r).stsLog ∧ (∀ c ∈ d.host.cmds, c.id ≠ d.host.nextId)) ∧
    (∃ (d : Dev) (r : Fin 1024) (p : Line), ControlUp d ∧ coreServes d (ringOf d r).serving = true ∧ (ringOf d r).packet = some p ∧ myTurn d r = false) ∧
    (∃ (d : Dev) (r : Fin 1024) (c : Cmd), ControlUp d ∧ coreServes d (ringOf d r).serving = true ∧ (ringOf d r).st = .enabled ∧ findCmd d (replyReady d r) = some c ∧ myTurn d r = true ∧ canIssue d (ringOf d r).function = true ∧ cmdIrq c.pkt = false) :=
  ⟨⟨{ on with host := { rings := [(0, { st := .enabled, cmdLog := 4, head := 15, tail := 0 })] } }, 0, by decide +kernel⟩,
    ⟨{ on with host := { rings := [(0, { st := .enabled, cmdLog := 4, stsLog := 4, packet := some (pkt 1 [(8, 0)]) })] } }, 0, pkt 1 [(8, 0)], by decide +kernel⟩,
    ⟨{ on with host := { rings := [(0, { st := .enabled, cmdLog := 4, stsLog := 4, serving := 5, packet := some (pkt 1 []) }), (1, { st := .enabled, cmdLog := 4, stsLog := 4, serving := 5, packet := some (pkt 1 []) })], cores := [(5, { last := some 0 })] } }, 0, pkt 1 [], by decide +kernel⟩,
    ⟨ten6 3 ({ cmd 1 [] with stage := .done }), 0, { cmd 1 [] with stage := .done }, by decide +kernel⟩⟩

theorem witness_CoreResets :
    (∃ (d : Dev) (n : Fin 16), ControlUp d ∧ booted d = true ∧ coreUp d n = true ∧ (coreOf d n).wdHeld = false ∧ coreUp d (rescuer n) = true) ∧
    (∃ (d : Dev) (n : Fin 16), ControlUp d ∧ booted d = true ∧ coreUp d n = true ∧ (coreOf d n).wdHeld = false ∧ coreUp d (rescuer n) = false) ∧
    (∃ (d : Dev) (n : Fin 16), ControlUp d ∧ booted d = true ∧ hostOpen d 0 = true ∧ coreUp d n = true ∧ coreUp d (rescuer n) = true) ∧
    (∃ (d : Dev) (n : Fin 16), ControlUp d ∧ booted d = true ∧ coreUp d 15 = true ∧ (coreOf d 15).wdHeld = false ∧ coreUp d 0 = true) ∧
    (∃ (d : Dev) (n : Fin 16), ControlUp d ∧ booted d = true ∧ (coreOf d n).reset = true ∧ (coreOf d n).retired = false ∧ coreUp d (rescuer n) = true) ∧
    (∃ (d : Dev) (n : Fin 16) (b : Nat), ControlUp d ∧ booted d = true ∧ (coreOf d n).rehome = some b ∧ coreUp d n = true ∧ countDue d.whl b = true) ∧
    (∃ (d : Dev) (n : Fin 16) (r : Fin 1024) (c : Cmd), ControlUp d ∧ booted d = true ∧ coreServes d (ringOf d r).serving = true ∧ (findCmd d fun c => c.ring == r.val && c.interrupted && c.stage != .done && !mustWait d c) = some c ∧ (opcodeOf c = 0x001 ∨ opcodeOf c = 0x300)) ∧
    (∃ (d : Dev) (n : Fin 16) (id : Nat), ControlUp d ∧ booted d = true ∧ d.boot.activating = some id ∧ coreUp d 15 = true) :=
  ⟨⟨on, 14, by decide +kernel⟩,
    ⟨{ on with host := { cores := [(15, { reset := true })] } }, 14, by decide +kernel⟩,
    ⟨on, 14, by decide +kernel⟩,
    ⟨on, 0, by decide +kernel⟩,
    ⟨{ on with host := { cores := [(14, { reset := true })] } }, 14, by decide +kernel⟩,
    ⟨{ on with host := { cores := [(14, { rehome := some 0 })] } }, 14, 0, by decide +kernel⟩,
    ⟨ten6 3 ({ cmd 0x300 [] with interrupted := true }), 0, 0, { cmd 0x300 [] with interrupted := true }, by decide +kernel⟩,
    ⟨{ on with boot := { state := .active, inReset := false, activating := some 7 } }, 0, 7, by decide +kernel⟩⟩

theorem witness_FaultsStop :
    (∃ (d : Dev) (t : Fin 32) (code : Byte), FabricUp d ∧ (tenOf d t).stopDue = false) ∧
    (∃ (d : Dev) (t : Fin 32), FabricUp d ∧ faultDue d t = true ∧ isLive (tenOf d t).st = true) :=
  ⟨⟨on, 31, 14, by decide +kernel⟩,
    ⟨{ on with whl := { running := true, n := 4, start := 100, now := 100 }, ten := [(31, { st := .running, stopDue := true, faultTick := 99 })] }, 31, by decide +kernel⟩⟩

theorem witness_ProgramsRun :
    (∃ (d : Dev) (t : Fin 32) (p : Program) (im : Loaded), FabricUp d ∧ (tenOf d t).program = some p ∧ (tenOf d t).image = some im ∧ (tenOf d t).st = .armed ∧ p.current = false ∧ countDue d.whl (p.launch - d.whl.w) = true) ∧
    (∃ (d : Dev) (t : Fin 32) (p : Program) (im : Loaded), FabricUp d ∧ (tenOf d t).program = some p ∧ (tenOf d t).image = some im ∧ (tenOf d t).st = .armed ∧ p.armed = false ∧ countPassed d.whl (p.launch - d.whl.w) = true) ∧
    (∃ (d : Dev) (t : Fin 32) (p : Program) (im : Loaded), FabricUp d ∧ (tenOf d t).program = some p ∧ (tenOf d t).image = some im ∧ (tenOf d t).st = .armed ∧ countDue d.whl p.launch = true ∧ faultDue d t = false ∧ commitDue d = false ∧ haltBy d t p.launch = false) ∧
    (∃ (d : Dev) (t : Fin 32) (p : Program) (im : Loaded), FabricUp d ∧ (tenOf d t).program = some p ∧ (tenOf d t).image = some im ∧ (tenOf d t).st = .running ∧ countDue d.whl p.completion = true ∧ faultDue d t = false ∧ (tenOf d t).stopDue = false ∧ allHalted d t = true) ∧
    (∃ (d : Dev) (t : Fin 32) (p : Program) (im : Loaded), FabricUp d ∧ (tenOf d t).program = some p ∧ (tenOf d t).image = some im ∧ (tenOf d t).st = .running ∧ countDue d.whl p.completion = true ∧ faultDue d t = false ∧ (tenOf d t).stopDue = false ∧ allHalted d t = false) ∧
    (∃ (d : Dev) (t : Fin 32) (p : Program) (im : Loaded) (x : Nat), FabricUp d ∧ (tenOf d t).program = some p ∧ (tenOf d t).image = some im ∧ x = d.whl.start + 63 * (d.whl.w / 64) ∧ x ≤ d.whl.now ∧ counted d.whl = true) :=
  ⟨⟨{ on with whl := { running := true, n := 3, start := 100, now := 100 }, ten := [(6, { st := .armed, program := some { launch := 8192 * 4, completion := 8192 * 5, bucket := 0, words := [], cmd := 7 }, image := some { ticks := 8192, clusters := [0] } })] }, 6, { launch := 8192 * 4, completion := 8192 * 5, bucket := 0, words := [], cmd := 7 }, { ticks := 8192, clusters := [0] }, by decide +kernel⟩,
    ⟨{ on with whl := { running := true, n := 3, start := 100, now := 100 }, ten := [(6, { st := .armed, program := some { launch := 8192 * 4, completion := 8192 * 5, bucket := 0, words := [], cmd := 7 }, image := some { ticks := 8192, clusters := [0] } })] }, 6, { launch := 8192 * 4, completion := 8192 * 5, bucket := 0, words := [], cmd := 7 }, { ticks := 8192, clusters := [0] }, by decide +kernel⟩,
    ⟨{ on with whl := { running := true, n := 4, start := 100, now := 100 }, ten := [(6, { st := .armed, program := some { launch := 8192 * 4, completion := 8192 * 5, bucket := 0, words := [], cmd := 7 }, image := some { ticks := 8192, clusters := [0] } })] }, 6, { launch := 8192 * 4, completion := 8192 * 5, bucket := 0, words := [], cmd := 7 }, { ticks := 8192, clusters := [0] }, by decide +kernel⟩,
    ⟨{ on with whl := { running := true, n := 5, start := 100, now := 100 }, cl := [(0, { run := .halted })], ten := [(6, { st := .running, program := some { launch := 8192 * 4, completion := 8192 * 5, bucket := 0, words := [], cmd := 7 }, image := some { ticks := 8192, clusters := [0] } })] }, 6, { launch := 8192 * 4, completion := 8192 * 5, bucket := 0, words := [], cmd := 7 }, { ticks := 8192, clusters := [0] }, by decide +kernel⟩,
    ⟨{ on with whl := { running := true, n := 5, start := 100, now := 100 }, ten := [(6, { st := .running, program := some { launch := 8192 * 4, completion := 8192 * 5, bucket := 0, words := [], cmd := 7 }, image := some { ticks := 8192, clusters := [0] } })] }, 6, { launch := 8192 * 4, completion := 8192 * 5, bucket := 0, words := [], cmd := 7 }, { ticks := 8192, clusters := [0] }, by decide +kernel⟩,
    ⟨{ on with whl := { running := true, n := 4, start := 100, now := 8164 }, ten := [(6, { st := .running, program := some { launch := 8192 * 4, completion := 8192 * 5, bucket := 0, words := [], cmd := 7 }, image := some { ticks := 8192, clusters := [0] } })] }, 6, { launch := 8192 * 4, completion := 8192 * 5, bucket := 0, words := [], cmd := 7 }, { ticks := 8192, clusters := [0] }, 100 + 63 * 128, by decide +kernel⟩⟩

theorem witness_CountsReached :
    (∃ (d : Dev) (t : Fin 32) (p : Program) (c : Cmd), FabricUp d ∧ controlUp d = true ∧ faultDue d t = false ∧ countDue d.whl c.count = true ∧ (tenOf d t).program = some p ∧ isLive (tenOf d t).st = true ∧ earliestArmed d t 0x302 = some c ∧ c.aux = p.launch ∧ (∀ h, (tenOf d t).replay.bind (·.haltAt) = some h → c.count < h) ∧ c.count < p.completion) ∧
    (∃ (d : Dev) (t : Fin 32) (p : Program) (c : Cmd), FabricUp d ∧ controlUp d = true ∧ faultDue d t = false ∧ countDue d.whl c.count = true ∧ (tenOf d t).program = some p ∧ isLive (tenOf d t).st = true ∧ earliestArmed d t 0x302 = some c ∧ c.aux ≠ p.launch ∧ (∀ h, (tenOf d t).replay.bind (·.haltAt) = some h → c.count < h) ∧ c.count < p.completion) ∧
    (∃ (d : Dev) (t : Fin 32) (p : Program) (c : Cmd), FabricUp d ∧ controlUp d = true ∧ faultDue d t = false ∧ countDue d.whl c.count = true ∧ (tenOf d t).program = some p ∧ (tenOf d t).st = .running ∧ earliestArmed d t 0x303 = some c ∧ haltBy d t c.count = false ∧ c.count < p.completion) ∧
    (∃ (d : Dev) (t : Fin 32) (p : Program) (c : Cmd) (s : Nat), FabricUp d ∧ controlUp d = true ∧ faultDue d t = false ∧ countDue d.whl c.count = true ∧ (tenOf d t).program = some p ∧ (tenOf d t).st = .suspended ∧ (tenOf d t).suspendedAt = some s ∧ earliestArmed d t 0x304 = some c ∧ commitDue d = false ∧ p.started = true) ∧
    (∃ (d : Dev) (t : Fin 32) (p : Program) (c : Cmd), FabricUp d ∧ controlUp d = true ∧ faultDue d t = false ∧ countDue d.whl c.count = true ∧ c ∈ d.host.cmds ∧ opcodeOf c = 0x306 ∧ c.stage = .armed) ∧
    (∃ (d : Dev) (r : Fin 1024) (y : Cmd), ControlUp d ∧ nextCmd d r 0x306 = some y ∧ countPassed d.whl (pkField y.pkt 16 8) = true) ∧
    (∃ (d : Dev) (r : Fin 1024) (y : Cmd), ControlUp d ∧ nextCmd d r 0x306 = some y ∧ countPassed d.whl (pkField y.pkt 16 8) = false) :=
  ⟨⟨{ with6 3 ({ cmd 0x302 [] with stage := .armed, count := 8192 * 4, aux := 8192 * 4 }) { st := .running, program := some { launch := 8192 * 4, completion := 8192 * 5, bucket := 0, words := [], cmd := 7 } } with whl := { running := true, n := 4, start := 100, now := 100 } }, 6, { launch := 8192 * 4, completion := 8192 * 5, bucket := 0, words := [], cmd := 7 }, { cmd 0x302 [] with stage := .armed, count := 8192 * 4, aux := 8192 * 4 }, by refine ⟨by decide +kernel, by decide +kernel, by decide +kernel, by decide +kernel, by decide +kernel, by decide +kernel, by decide +kernel, by decide +kernel, nofun, by decide +kernel⟩⟩,
    ⟨{ with6 3 ({ cmd 0x302 [] with stage := .armed, count := 8192 * 4, aux := 0 }) { st := .running, program := some { launch := 8192 * 4, completion := 8192 * 5, bucket := 0, words := [], cmd := 7 } } with whl := { running := true, n := 4, start := 100, now := 100 } }, 6, { launch := 8192 * 4, completion := 8192 * 5, bucket := 0, words := [], cmd := 7 }, { cmd 0x302 [] with stage := .armed, count := 8192 * 4, aux := 0 }, by refine ⟨by decide +kernel, by decide +kernel, by decide +kernel, by decide +kernel, by decide +kernel, by decide +kernel, by decide +kernel, by decide +kernel, nofun, by decide +kernel⟩⟩,
    ⟨{ with6 3 ({ cmd 0x303 [] with stage := .armed, count := 8192 * 4, aux := 0 }) { st := .running, program := some { launch := 8192 * 4, completion := 8192 * 5, bucket := 0, words := [], cmd := 7 } } with whl := { running := true, n := 4, start := 100, now := 100 } }, 6, { launch := 8192 * 4, completion := 8192 * 5, bucket := 0, words := [], cmd := 7 }, { cmd 0x303 [] with stage := .armed, count := 8192 * 4, aux := 0 }, by decide +kernel⟩,
    ⟨{ with6 3 ({ cmd 0x304 [] with stage := .armed, count := 8192 * 4, aux := 0 }) { st := .suspended, program := some { launch := 0, completion := 8192 * 5, bucket := 0, words := [], cmd := 7, started := true }, suspendedAt := some 2 } with whl := { running := true, n := 4, start := 100, now := 100 } }, 6, { launch := 0, completion := 8192 * 5, bucket := 0, words := [], cmd := 7, started := true }, { cmd 0x304 [] with stage := .armed, count := 8192 * 4, aux := 0 }, 2, by decide +kernel⟩,
    ⟨{ with6 3 ({ cmd 0x306 [] with stage := .armed, count := 8192 * 4, aux := 0 }) { st := .vacant, program := some { launch := 8192 * 4, completion := 8192 * 5, bucket := 0, words := [], cmd := 7 } } with whl := { running := true, n := 4, start := 100, now := 100 } }, 6, { launch := 8192 * 4, completion := 8192 * 5, bucket := 0, words := [], cmd := 7 }, { cmd 0x306 [] with stage := .armed, count := 8192 * 4, aux := 0 }, by decide +kernel⟩,
    ⟨ten6 3 (cmd 0x306 []), 0, cmd 0x306 [], by decide +kernel⟩,
    ⟨ten6 3 (cmd 0x306 [(16, 1)]), 0, cmd 0x306 [(16, 1)], by decide +kernel⟩⟩

theorem witness_GrantsChange :
    (∃ (d : Dev) (v : W32), FabricUp d ∧ controlUp d = true ∧ hostOpen d 0 = true ∧ booted d = true ∧ partBusy d = false) ∧
    (∃ (d : Dev), FabricUp d ∧ controlUp d = true ∧ hostOpen d 0 = true ∧ booted d = true ∧ partBusy d = false) ∧
    (∃ (d : Dev), FabricUp d ∧ controlUp d = true ∧ hostOpen d 0 = true ∧ booted d = true ∧ d.grants.state = 1) ∧
    (∃ (d : Dev), FabricUp d ∧ controlUp d = true ∧ d.grants.state = 1 ∧ d.grants.count % d.whl.w = 0 ∧ setInvalid d (recOf d.grants.pend) = none) ∧
    (∃ (d : Dev) (f : Nat × Nat), FabricUp d ∧ controlUp d = true ∧ d.grants.state = 1 ∧ d.grants.count % d.whl.w = 0 ∧ setInvalid d (recOf d.grants.pend) = some f) ∧
    (∃ (d : Dev), FabricUp d ∧ controlUp d = true ∧ d.grants.state = 2 ∧ countDue d.whl d.grants.effect = true ∧ (d.grants.force.map Prod.fst).Pairwise (· < ·)) ∧
    (∃ (d : Dev) (c : Cmd) (s : Staging), FabricUp d ∧ controlUp d = true ∧ openCmds d (fun c => opcodeOf c == 0xF01 && c.stage == .armed && countDue d.whl c.count && !directFirst d c.count) = [c] ∧ d.grants.staging = some s ∧ c.count ≤ s.expiry ∧ setInvalid d (recOf s.recs) = none ∧ (d.grants.force.map Prod.fst).Pairwise (· < ·)) ∧
    (∃ (d : Dev) (t : Fin 32), FabricUp d ∧ controlUp d = true ∧ (tenOf d t).st = .draining ∧ coreServes d (tenCore d t) = true ∧ drained d t = true) ∧
    (∃ (d : Dev) (k : Fin 5) (t : Nat) (x : Nat), FabricUp d ∧ controlUp d = true ∧ k.val < 4 ∧ (bsuOf d k).lease = some (t, x) ∧ countDue d.whl x = true) ∧
    (∃ (d : Dev) (s : Staging), FabricUp d ∧ controlUp d = true ∧ d.grants.staging = some s ∧ countDue d.whl s.expiry = true ∧ d.host.cmds = []) ∧
    (∃ (d : Dev) (c : Cmd), FabricUp d ∧ controlUp d = true ∧ openCmds d (fun c => opcodeOf c == 0xF03 && c.stage == .armed && countDue d.whl c.count) = [c] ∧ c.aux = 4 ∧ d.grants.staging.isSome = true) ∧
    (∃ (d : Dev) (c : Cmd), FabricUp d ∧ controlUp d = true ∧ openCmds d (fun c => opcodeOf c == 0xF0A && c.stage == .armed && decide (c.aux < 256) && countDue d.whl c.count) = [c] ∧ (tenOf d c.aux).st = .staged) ∧
    (∃ (d : Dev) (c : Cmd), FabricUp d ∧ controlUp d = true ∧ openCmds d (fun c => opcodeOf c == 0xF0A && c.stage == .armed && decide (c.aux < 256) && countDue d.whl c.count) = [c] ∧ (tenOf d c.aux).st = .running) ∧
    (∃ (d : Dev) (t : Fin 32), FabricUp d ∧ controlUp d = true ∧ (tenOf d t).st = .vacant) :=
  ⟨⟨on, 0, by decide +kernel⟩,
    ⟨on, by decide +kernel⟩,
    ⟨{ on with grants := { state := 1 } }, by decide +kernel⟩,
    ⟨{ on with grants := { state := 1, count := 8192 } }, by decide +kernel⟩,
    ⟨{ on with grants := { state := 1, pend := [(6, BitVec.ofNat 1024 256)] } }, (1, 6), by decide +kernel⟩,
    ⟨{ on with grants := { state := 2 } }, by decide +kernel⟩,
    ⟨{ on with host := { cmds := [{ cmd 0xF01 [] with stage := .armed }] }, grants := { staging := some { recs := [], expiry := 8192 } } }, { cmd 0xF01 [] with stage := .armed }, { recs := [], expiry := 8192 }, by decide +kernel⟩,
    ⟨{ on with ten := [(31, { st := .draining, zeroing := [(0x001000000000, 64)] })] }, 31, by decide +kernel⟩,
    ⟨{ on with bsu := [(3, { lease := some (6, 0) })] }, 3, 6, 0, by decide +kernel⟩,
    ⟨{ on with grants := { staging := some { recs := [], expiry := 0 } } }, { recs := [], expiry := 0 }, by decide +kernel⟩,
    ⟨{ on with host := { cmds := [{ cmd 0xF03 [] with stage := .armed, aux := 4 }] }, grants := { staging := some { recs := [], expiry := 8192 } } }, { cmd 0xF03 [] with stage := .armed, aux := 4 }, by decide +kernel⟩,
    ⟨{ on with host := { cmds := [{ cmd 0xF0A [] with stage := .armed, aux := 6 }] }, ten := [(6, { st := .staged })] }, { cmd 0xF0A [] with stage := .armed, aux := 6 }, by decide +kernel⟩,
    ⟨{ on with host := { cmds := [{ cmd 0xF0A [] with stage := .armed, aux := 6 }] }, ten := [(6, { st := .running })] }, { cmd 0xF0A [] with stage := .armed, aux := 6 }, by decide +kernel⟩,
    ⟨on, 31, by decide +kernel⟩⟩

theorem witness_IslandsSwitch :
    (∃ (d : Dev) (c : Cmd) (i : Fin 32), FabricUp d ∧ controlUp d = true ∧ bit (powMask c.pkt) i = true ∧ openCmds d (fun c => opcodeOf c == 0xF06 && c.stage == .armed && !powOn c.pkt && countDue d.whl c.count) = [c] ∧ powForce c.pkt = true) ∧
    (∃ (d : Dev) (c : Cmd) (i : Fin 32), FabricUp d ∧ controlUp d = true ∧ bit (powMask c.pkt) i = true ∧ openCmds d (fun c => opcodeOf c == 0xF06 && c.stage == .armed && powOn c.pkt && c.aux == 0 && countDue d.whl c.count) = [c] ∧ (islOfDev d i).supplyOn = false) ∧
    (∃ (d : Dev) (c : Cmd) (i : Fin 32), FabricUp d ∧ controlUp d = true ∧ bit (powMask c.pkt) i = true ∧ openCmds d (fun c => opcodeOf c == 0xF06 && c.stage == .armed && powOn c.pkt && c.aux == 1 && islandsReady d (powMask c.pkt)) = [c]) :=
  ⟨⟨{ on with host := { cmds := [{ cmd 0xF06 [(16, 2 ^ 31), (21, 1)] with stage := .armed }] } }, { cmd 0xF06 [(16, 2 ^ 31), (21, 1)] with stage := .armed }, 31, by decide +kernel⟩,
    ⟨{ on with host := { cmds := [{ cmd 0xF06 [(16, 2 ^ 31), (20, 1)] with stage := .armed }] }, clk := { clocks with isl := [(31, { supplyOn := false })] } }, { cmd 0xF06 [(16, 2 ^ 31), (20, 1)] with stage := .armed }, 31, by decide +kernel⟩,
    ⟨{ on with host := { cmds := [{ cmd 0xF06 [(16, 2 ^ 31), (20, 1)] with stage := .armed, aux := 1 }] }, clk := { clocks with isl := [(31, { oscOn := true, current := 256 })] } }, { cmd 0xF06 [(16, 2 ^ 31), (20, 1)] with stage := .armed, aux := 1 }, 31, by decide +kernel⟩⟩

theorem witness_DmaEngines :
    (∃ (d : Dev) (e : Fin 32) (t : Nat) (x : Flight), UnitsUp d ∧ d.whl.now = t ∧ d.fab.flits.find? (fun y => y.dest == .dma e && y.due == t) = some x ∧ eccCheck x.flit = (x.flit, .clean) ∧ dmaOwnerOk d e x.sw x.flit = true ∧ x.flit.tag = 0x3FF ∧ x.flit.late = false ∧ x.flit.poison = false ∧ descAccepted d e x.flit.ten.toNat x.flit.data = true) ∧
    (∃ (d : Dev) (e : Fin 32) (t : Nat) (x : Flight), UnitsUp d ∧ d.whl.now = t ∧ d.fab.flits.find? (fun y => y.dest == .dma e && y.due == t) = some x ∧ eccCheck x.flit = (x.flit, .clean) ∧ dmaOwnerOk d e x.sw x.flit = true ∧ x.flit.tag = 0x3FF ∧ x.flit.late = false ∧ x.flit.poison = false ∧ descAccepted d e x.flit.ten.toNat x.flit.data = false ∧ (tenOf d x.flit.ten.toNat).stopDue = false) ∧
    (∃ (d : Dev) (e : Fin 32) (t : Nat) (x : Flight) (lap : Fin 4) (tick : BitVec 16) (data : Line) (poison : Bool) (y : DmaDesc), UnitsUp d ∧ d.whl.now = t ∧ (dmaOf d e).owed = [] ∧ (dmaOf d e).pend = [y] ∧ holdsFlit lap tick.toNat y = true ∧ y.flits = List.replicate y.n .waiting) ∧
    (∃ (d : Dev) (e : Fin 32) (t : Nat) (x : Flight) (lap : Fin 4) (tick : BitVec 16) (data : Line) (poison : Bool), UnitsUp d ∧ d.whl.now = t ∧ (lap.val, tick.toNat) ∈ (dmaOf d e).owed) ∧
    (∃ (d : Dev) (e : Fin 32) (t : Nat) (x : Flight) (y : DmaDesc) (l : Line) (poison : Bool) (at_ : Nat), UnitsUp d ∧ d.whl.now = t ∧ dueDesc d e true = some y ∧ y.flits.getD y.next .failed = .data l poison at_ ∧ at_ + 4 ≤ t) ∧
    (∃ (d : Dev) (e : Fin 32) (t : Nat) (x : Flight) (y : DmaDesc), UnitsUp d ∧ d.whl.now = t ∧ dueDesc d e true = some y ∧ y.flits.getD y.next .failed = .waiting ∧ (tenOf d y.ten).stopDue = false) ∧
    (∃ (d : Dev) (e : Fin 32) (t : Nat) (x : Flight) (y : DmaDesc), UnitsUp d ∧ d.whl.now = t ∧ d.fab.flits.find? (fun y => y.dest == .dma e && y.due == t) = some x ∧ eccCheck x.flit = (x.flit, .clean) ∧ dmaOwnerOk d e x.sw x.flit = true ∧ x.flit.tag ≠ 0x3FF ∧ x.flit.late = false ∧ x.flit.poison = false ∧ dueDesc d e false = some y ∧ y.ten = x.flit.ten.toNat ∧ (dmaOf d e).writeQ.length < 64) ∧
    (∃ (d : Dev) (e : Fin 32) (t : Nat) (x : Flight) (y : DmaDesc), UnitsUp d ∧ d.whl.now = t ∧ (∀ z ∈ d.fab.flits, z.dest ≠ .dma e) ∧ dueDesc d e false = some y) ∧
    (∃ (d : Dev) (e : Fin 32) (t : Nat) (x : Flight) (n : Nat) (w : DmaWr), UnitsUp d ∧ d.whl.now = t ∧ (dmaOf d e).writeQ = [w] ∧ canIssue d w.fn = true) :=
  ⟨⟨carries (sent (sealFlit { data := BitVec.ofNat 512 (1 + 256 ^ 2 + 264 * 256 ^ 4), ten := 6, tag := 0x3FF, ecc := 0 }) (.dma 0) 200) (moves {}), 0, 200, sent (sealFlit { data := BitVec.ofNat 512 (1 + 256 ^ 2 + 264 * 256 ^ 4), ten := 6, tag := 0x3FF, ecc := 0 }) (.dma 0) 200, by decide +kernel⟩,
    ⟨carries (sent (sealFlit { data := BitVec.ofNat 512 (1 + 256 ^ 2 + 263 * 256 ^ 4), ten := 6, tag := 0x3FF, ecc := 0 }) (.dma 0) 200) (moves {}), 0, 200, sent (sealFlit { data := BitVec.ofNat 512 (1 + 256 ^ 2 + 263 * 256 ^ 4), ten := 6, tag := 0x3FF, ecc := 0 }) (.dma 0) 200, by decide +kernel⟩,
    ⟨carries (sent (flit 6 0) (.dma 0) 200) (moves { pend := [{ read := true, n := 2, tick := 300, lap := 0, addr := 0, tag := 0, ten := 6, flits := [.waiting, .waiting] }] }), 0, 200, sent (flit 6 0) (.dma 0) 200, 0, 301, 0, false, { read := true, n := 2, tick := 300, lap := 0, addr := 0, tag := 0, ten := 6, flits := [.waiting, .waiting] }, by decide +kernel⟩,
    ⟨carries (sent (flit 6 0) (.dma 0) 200) (moves { owed := [(3, 8191)] }), 0, 200, sent (flit 6 0) (.dma 0) 200, 3, 8191, 0, false, by decide +kernel⟩,
    ⟨carries (sent (flit 6 0) (.dma 0) 200) (moves { pend := [{ read := true, n := 1, tick := 200, lap := 0, addr := 0, tag := 0, ten := 6, flits := [.data 5 false 196] }] }), 0, 200, sent (flit 6 0) (.dma 0) 200, { read := true, n := 1, tick := 200, lap := 0, addr := 0, tag := 0, ten := 6, flits := [.data 5 false 196] }, 5, false, 196, by decide +kernel⟩,
    ⟨carries (sent (flit 6 0) (.dma 0) 200) (moves { pend := [{ read := true, n := 1, tick := 200, lap := 0, addr := 0, tag := 0, ten := 6, flits := [.waiting] }] }), 0, 200, sent (flit 6 0) (.dma 0) 200, { read := true, n := 1, tick := 200, lap := 0, addr := 0, tag := 0, ten := 6, flits := [.waiting] }, by decide +kernel⟩,
    ⟨carries (sent (flit 6 0) (.dma 0) 200) (moves { pend := [{ read := false, n := 1, tick := 200, lap := 0, addr := 0, tag := 0, ten := 6, flits := [] }] }), 0, 200, sent (flit 6 0) (.dma 0) 200, { read := false, n := 1, tick := 200, lap := 0, addr := 0, tag := 0, ten := 6, flits := [] }, by decide +kernel⟩,
    ⟨moves { pend := [{ read := false, n := 1, tick := 200, lap := 0, addr := 0, tag := 0, ten := 6, flits := [] }] }, 0, 200, sent (flit 6 0) (.dma 0) 200, { read := false, n := 1, tick := 200, lap := 0, addr := 0, tag := 0, ten := 6, flits := [] }, by decide +kernel⟩,
    ⟨{ moves { writeQ := [⟨0, 6, 0, 5, 0⟩] } with host := { func := [(0, { bme := true })] } }, 0, 200, sent (flit 6 0) (.dma 0) 200, 1, ⟨0, 6, 0, 5, 0⟩, by decide +kernel⟩⟩

theorem witness_HostLinkEvents :
    (∃ (d : Dev) (fn : Fin 64) (mask : W32) (occurs : W32), ControlUp d ∧ hostOpen d 0 = true ∧ booted d = true ∧ mask &&& occurs &&& d.host.dcause = 0) ∧
    (∃ (d : Dev) (fn : Fin 64) (v : W32), ControlUp d ∧ hostOpen d 0 = true ∧ booted d = true ∧ v &&& d.host.dcause = 0) ∧
    (∃ (d : Dev) (fn : Fin 64) (v : Fin 64), ControlUp d ∧ hostOpen d fn = true ∧ v.val < tableSize fn ∧ canIssue d fn = true ∧ (funcOf d fn).mask = false ∧ (tabGet {} (funcOf d fn).msix v).withheld = 1) ∧
    (∃ (d : Dev) (fn : Fin 64) (id : Nat) (f : Fetch) (came : List Byte), ControlUp d ∧ (d.host.fetches.find? fun f => f.id == id) = some f) ∧
    (∃ (d : Dev) (fn : Fin 64), ControlUp d ∧ fn ≠ 0 ∧ (funcOf d fn).enabled = true ∧ (funcOf d fn).flr = false) ∧
    (∃ (d : Dev) (fn : Fin 64), ControlUp d ∧ (funcOf d fn).flr = true ∧ countDue d.whl (funcOf d fn).flrAt = true) ∧
    (∃ (d : Dev) (fn : Fin 64) (id : Nat) (r : Nat) (f : Fetch) (data : List Byte), ControlUp d ∧ (d.host.fetches.find? fun f => f.id == id) = some f ∧ f.why = .packet r ∧ data.length = f.len ∧ (ringOf d r).fetching = true) ∧
    (∃ (d : Dev) (fn : Fin 64) (on : Bool), ControlUp d ∧ d.boot.inReset = false ∧ (on = true → d.host.blocked = [])) :=
  ⟨⟨on, 0, 1, 1, by decide +kernel⟩,
    ⟨on, 0, 1, by decide +kernel⟩,
    ⟨{ on with host := { func := [(0, { bme := true, msix := [(63, { withheld := 1 })] })] } }, 0, 63, by decide +kernel⟩,
    ⟨{ on with host := { fetches := [{ id := 3, why := .boot, fn := 0, addr := 0, len := 64 }] } }, 0, 3, { id := 3, why := .boot, fn := 0, addr := 0, len := 64 }, [], by decide +kernel⟩,
    ⟨{ on with host := { func := [(63, { enabled := true })] } }, 63, by decide +kernel⟩,
    ⟨{ on with host := { func := [(63, { flr := true })] } }, 63, by decide +kernel⟩,
    ⟨{ on with host := { rings := [(0, { fetching := true })], fetches := [{ id := 3, why := .packet 0, fn := 0, addr := 0, len := 64 }] } }, 0, 3, 0, { id := 3, why := .packet 0, fn := 0, addr := 0, len := 64 }, List.replicate 64 1, by decide +kernel⟩,
    ⟨on, 0, true, by decide +kernel⟩⟩

theorem witness_RegisterWrites :
    (∃ (d : Dev) (v : W32) (droop : W32) (k : Fin 1024), d.boot.lost = false ∧ hostOpen d 0 = true ∧ booted d = true ∧ partBusy d = false ∧ (d.grants.pend.map Prod.fst).Pairwise (· < ·)) ∧
    (∃ (d : Dev) (v : W32) (droop : W32) (k : Fin 1024), d.boot.lost = false ∧ hostOpen d 0 = true ∧ booted d = true ∧ partBusy d = true) ∧
    (∃ (d : Dev) (v : W32) (droop : W32), d.boot.lost = false ∧ hostOpen d 0 = true ∧ booted d = true ∧ partBusy d = false) ∧
    (∃ (d : Dev) (v : W32) (droop : W32) (fn : Fin 64) (n : Fin 64), d.boot.lost = false ∧ hostOpen d 0 = true ∧ booted d = true ∧ hostOpen d fn = true ∧ n.val < tableSize fn) ∧
    (∃ (d : Dev) (v : W32) (droop : W32) (r : Fin 1024), d.boot.lost = false ∧ hostOpen d 0 = true ∧ booted d = true ∧ ringOwned d 0 r = true ∧ (ringOf d r).st = .ready) :=
  ⟨⟨on, 0, 0, 1023, by decide +kernel⟩,
    ⟨{ on with grants := { state := 2 } }, 0, 0, 1023, by decide +kernel⟩,
    ⟨on, 0, 0, by decide +kernel⟩,
    ⟨{ on with host := { func := [(63, { enabled := true })] } }, 0, 0, 63, 31, by decide +kernel⟩,
    ⟨{ on with host := { rings := [(1023, { st := .ready })] } }, 0, 0, 1023, by decide +kernel⟩⟩

theorem witness_BitstreamRecords :
    (∃ (d : Dev) (b : Dev) (u : Fin 4) (c : Instr) (k : Nat) (r : BsuRec), UnitsUp d ∧ b = takeDrains u (bsuOf d u).drainIn.length d ∧ (c, k) ∈ [(.bsuNop u, 0), (.bsuCtx u, 1), (.bsuByp u, 2), (.bsuTerm u, 3), (.bsuSym u, 4), (.bsuLit u, 5), (.bsuFrameStart u, 8), (.bsuSegStart u, 9), (.bsuEntry u, 10), (.bsuSegEnd u, 11), (.bsuFrameEnd u, 12)] ∧ headDone (bsuOf b u) (engineNow b u) = some r ∧ recKind r.word = k ∧ (bsuOf b u).skip = false ∧ recordGood (bsuOf b u) r.word = true) ∧
    (∃ (d : Dev) (b : Dev) (u : Fin 4) (c : Instr) (k : Nat) (r : BsuRec) (t : _), UnitsUp d ∧ b = takeDrains u (bsuOf d u).drainIn.length d ∧ (c, k) ∈ [(.bsuNop u, 0), (.bsuCtx u, 1), (.bsuByp u, 2), (.bsuTerm u, 3), (.bsuSym u, 4), (.bsuLit u, 5), (.bsuFrameStart u, 8), (.bsuSegStart u, 9), (.bsuEntry u, 10), (.bsuSegEnd u, 11), (.bsuFrameEnd u, 12)] ∧ headDone (bsuOf b u) (engineNow b u) = some r ∧ recKind r.word = k ∧ (bsuOf b u).skip = false ∧ recordGood (bsuOf b u) r.word = false ∧ t < 32 ∧ bsuHolder b u = some t ∧ (tenOf b t).stopDue = false) :=
  ⟨⟨{ coded { configured := true, codec := 1, queue := [⟨0, 0, 0⟩] } with whl := { running := true, now := 8191 } }, _, 0, .bsuNop 0, 0, ⟨0, 0, 0⟩, by exact ⟨by decide +kernel, rfl, by decide +kernel, by decide +kernel, by decide +kernel, by decide +kernel, by decide +kernel⟩⟩,
    ⟨{ coded { configured := false, codec := 1, queue := [⟨0, 0, 0⟩] } with whl := { running := true, now := 8191 } }, _, 0, .bsuNop 0, 0, ⟨0, 0, 0⟩, 6, by exact ⟨by decide +kernel, rfl, by decide +kernel, by decide +kernel, by decide +kernel, by decide +kernel, by decide +kernel, by decide +kernel, by decide +kernel, by decide +kernel⟩⟩⟩

theorem witness_BitstreamPorts :
    (∃ (d : Dev) (u : Fin 4) (t : Nat) (x : Flight), UnitsUp d ∧ d.whl.now = t ∧ d.fab.flits.find? (fun y => y.dest == .bsu u && y.due == t) = some x ∧ eccCheck x.flit = (x.flit, .clean) ∧ bsuHolder d u = some x.flit.ten.toNat ∧ x.flit.late = false ∧ x.flit.poison = false ∧ (bsuOf d u).configured = true ∧ queueFlits (bsuOf d u).queue < 2048 ∧ (∀ y ∈ (bsuOf d u).drainIn, fieldsOk (bsuOf d u).codec 0 y.word = true) ∧ (∀ i < 8, bits x.flit.data.toNat (64 * i + 3) (64 * i) ≠ 13)) ∧
    (∃ (d : Dev) (u : Fin 4) (t : Nat) (r : BsuRec) (rest : List BsuRec) (a : Nat), UnitsUp d ∧ d.whl.now = t ∧ (bsuOf d u).drainIn = r :: rest ∧ fieldsOk (bsuOf d u).codec 0 r.word = true ∧ departTick d.whl (bsuOf d u).held r.arr (wBits r.word 9 8) (wBits r.word 25 10) = some a ∧ (bsuOf d u).drains = [] ∧ r.arr + 16 ≤ a) ∧
    (∃ (d : Dev) (u : Fin 4) (t : Nat) (r : BsuRec) (rest : List BsuRec) (a : Nat), UnitsUp d ∧ d.whl.now = t ∧ (bsuOf d u).drainIn = r :: rest ∧ fieldsOk (bsuOf d u).codec 0 r.word = true ∧ departTick d.whl (bsuOf d u).held r.arr (wBits r.word 9 8) (wBits r.word 25 10) = some a ∧ (bsuOf d u).drains = [] ∧ a < r.arr + 16) ∧
    (∃ (d : Dev) (u : Fin 4) (t : Nat) (h : Nat) (q : Drain), UnitsUp d ∧ d.whl.now = t ∧ bsuHolder d u = some h ∧ (tenOf d h).suspendedAt = none ∧ counted d.whl = true ∧ (bsuOf d u).drainIn = [] ∧ (bsuOf d u).queue = [] ∧ (bsuOf d u).drains = [q] ∧ q.at_ + q.next = gcOf d.whl - (bsuOf d u).held) ∧
    (∃ (d : Dev) (u : Fin 4) (t : Nat) (cause : Fin 7), UnitsUp d ∧ d.whl.now = t ∧ cause.val ≠ 0 ∧ (bsuOf d u).configured = true) :=
  ⟨⟨carries (sent (flit 6 0) (.bsu 0) 5) { coded { configured := true } with whl := { running := true, now := 5 } }, 0, 5, sent (flit 6 0) (.bsu 0) 5, by decide +kernel⟩,
    ⟨coded { codec := 1, drainIn := [⟨BitVec.ofNat 64 (13 + 16 * 2 ^ 10), 0, 0⟩] }, 0, 0, ⟨BitVec.ofNat 64 (13 + 16 * 2 ^ 10), 0, 0⟩, [], 16, by decide +kernel⟩,
    ⟨coded { codec := 1, drainIn := [⟨BitVec.ofNat 64 (13 + 15 * 2 ^ 10), 0, 0⟩] }, 0, 0, ⟨BitVec.ofNat 64 (13 + 15 * 2 ^ 10), 0, 0⟩, [], 15, by decide +kernel⟩,
    ⟨{ coded { drains := [{ at_ := 100, first := 0, n := 1, bank := 0, arr := 0, seq := 0 }] } with whl := { running := true, now := 100 } }, 0, 100, 6, { at_ := 100, first := 0, n := 1, bank := 0, arr := 0, seq := 0 }, by decide +kernel⟩,
    ⟨coded { configured := true }, 0, 0, 6, by decide +kernel⟩⟩

theorem witness_TimerChannels :
    (∃ (d : Dev) (n : Fin 16) (t : Nat), FabricUp d ∧ d.whl.now ≤ t ∧ (tmrOf d n).running = true ∧ (tmrOf d n).refclk = false ∧ t = (tmrOf d n).last + (tmrOf d n).prescale + 1) ∧
    (∃ (d : Dev) (n : Fin 16) (t : Nat), FabricUp d ∧ d.whl.now ≤ t ∧ (tmrOf d n).waiting = true ∧ (tmrOf d n).startTick = some t) ∧
    (∃ (d : Dev) (n : Fin 16) (t : Nat) (g : Nat), FabricUp d ∧ d.whl.now ≤ t ∧ (tmrOf d n).waiting = true ∧ (tmrOf d n).startGc = some g ∧ g < gcOf d.whl) ∧
    (∃ (d : Dev) (n : Fin 16) (t : Nat) (fn : Fin 64) (v : W32), FabricUp d ∧ d.whl.now ≤ t ∧ hostOpen d fn = true ∧ tmrWritable d = true ∧ tmrFn d n = fn.val ∧ (tmrOf d n).staged = true ∧ v.toNat * 2 ^ 32 + (tmrOf d n).stagedLo ≤ (tmrOf d n).top) ∧
    (∃ (d : Dev) (n : Fin 16) (t : Nat) (fn : Fin 64) (v : W32), FabricUp d ∧ d.whl.now ≤ t ∧ hostOpen d fn = true ∧ tmrWritable d = true ∧ tmrFn d n = fn.val ∧ (tmrOf d n).staged = true ∧ (tmrOf d n).top < v.toNat * 2 ^ 32 + (tmrOf d n).stagedLo) ∧
    (∃ (d : Dev) (n : Fin 16) (t : Nat) (fn : Fin 64) (v : W32), FabricUp d ∧ d.whl.now ≤ t ∧ hostOpen d fn = true ∧ tmrWritable d = true ∧ tmrFn d n = fn.val ∧ (tmrOf d n).waiting = true) ∧
    (∃ (d : Dev) (n : Fin 16) (t : Nat), FabricUp d ∧ d.whl.now ≤ t ∧ (tmrOf d n).fire = true) :=
  ⟨⟨timed { running := true }, 0, 1, by decide +kernel⟩,
    ⟨timed { waiting := true, startTick := some 5 }, 0, 5, by decide +kernel⟩,
    ⟨{ timed { waiting := true, startGc := some 3 } with whl := { running := true, now := 4 } }, 0, 4, 3, by decide +kernel⟩,
    ⟨timed { staged := true, top := 2 ^ 32 }, 0, 0, 0, 1, by decide +kernel⟩,
    ⟨timed { staged := true, stagedLo := 1, top := 2 ^ 32 }, 0, 0, 0, 1, by decide +kernel⟩,
    ⟨timed { waiting := true }, 0, 0, 0, 0, by decide +kernel⟩,
    ⟨timed { fire := true }, 0, 0, by decide +kernel⟩⟩

theorem witness_BoardPorts :
    (∃ (d : Dev) (a : W64), d.boot.lost = false ∧ a.toNat < 2 ^ 48) ∧
    (∃ (d : Dev) (a : W64), d.boot.lost = false ∧ 2 ^ 48 ≤ a.toNat) ∧
    (∃ (d : Dev) (w : Option W32) (droop : W32), d.boot.lost = false ∧ d.board.acc = [] ∧ placeOf d d.board.bridge = .absent) ∧
    (∃ (d : Dev) (droop : W32), d.boot.lost = false ∧ d.board.acc = [] ∧ d.boot.inReset = false ∧ d.board.bridge = 0x002000001008) ∧
    (∃ (d : Dev), d.boot.lost = false ∧ d.board.smbAlert = true) ∧
    (∃ (d : Dev) (dr : BitVec 128) (droop : W32), d.boot.lost = false ∧ d.board.debugDone = true ∧ dr.toNat / 2 ^ 113 % 4 = 1 ∧ dr.toNat / 2 ^ 117 = 0 ∧ dr.toNat / 2 ^ 64 % 2 ^ 48 % 8 ≠ 0) ∧
    (∃ (d : Dev) (dr : BitVec 128) (droop : W32), d.boot.lost = false ∧ d.board.debugDone = true ∧ dr.toNat / 2 ^ 117 ≠ 0) ∧
    (∃ (d : Dev) (dr : BitVec 128) (droop : W32), d.boot.lost = false ∧ d.board.debugDone = true ∧ dr.toNat / 2 ^ 112 = 2 ∧ dr.toNat / 2 ^ 64 % 2 ^ 48 = 0x001000000000 ∧ d.boot.inReset = false ∧ bit (tabGet 0 d.fuse.slots 0) 0 = true ∧ (clOf d 0).powered = true) :=
  ⟨⟨on, BitVec.ofNat 64 (2 ^ 48 - 1), by decide +kernel⟩,
    ⟨on, BitVec.ofNat 64 (2 ^ 48), by decide +kernel⟩,
    ⟨{ on with board := { bridge := 0x000C00000000 } }, none, 0, by decide +kernel⟩,
    ⟨{ on with board := { bridge := 0x002000001008 } }, 0, by decide +kernel⟩,
    ⟨{ on with board := { smbAlert := true } }, by decide +kernel⟩,
    ⟨on, BitVec.ofNat 128 (2 ^ 113 + 4 * 2 ^ 64), 0, by decide +kernel⟩,
    ⟨on, BitVec.ofNat 128 (2 ^ 117), 0, by decide +kernel⟩,
    ⟨on, BitVec.ofNat 128 (2 ^ 113 + 0x001000000000 * 2 ^ 64), 0, by decide +kernel⟩⟩

theorem witness_QueryCommands :
    (∃ (d : Dev) (r : Fin 1024) (c : Cmd) (t : Nat), ControlUp d ∧ nextCmd d r 0x0001 = some c) ∧
    (∃ (d : Dev) (r : Fin 1024) (c : Cmd) (t : Nat), ControlUp d ∧ nextCmd d r 0x0002 = some c ∧ pkField c.pkt 16 8 % 64 = 0 ∧ pkField c.pkt 28 1 = 0 ∧ 256 ≤ pkField c.pkt 24 4 ∧ canIssue d (cmdFn d c) = true) ∧
    (∃ (d : Dev) (r : Fin 1024) (c : Cmd) (t : Nat), ControlUp d ∧ nextCmd d r 0x0002 = some c ∧ pkField c.pkt 16 8 % 64 = 0 ∧ pkField c.pkt 28 1 = 5 ∧ 16448 ≤ pkField c.pkt 24 4) ∧
    (∃ (d : Dev) (r : Fin 1024) (c : Cmd) (t : Nat), ControlUp d ∧ NextFor d r 0x0003 t c ∧ pkField c.pkt 29 1 = 0xFF ∧ pkField c.pkt 28 1 = 0 ∧ pkField c.pkt 16 8 % 64 = 0 ∧ 256 ≤ pkField c.pkt 24 4 ∧ canIssue d (cmdFn d c) = true) ∧
    (∃ (d : Dev) (r : Fin 1024) (c : Cmd) (t : Nat), ControlUp d ∧ nextCmd d r 0x0502 = some c) ∧
    (∃ (d : Dev) (r : Fin 1024) (c : Cmd) (t : Nat), ControlUp d ∧ nextCmd d r 0x0305 = some c ∧ ((d.host.cmds.takeWhile fun x => x.id != c.id).any fun x => x.ring == c.ring) = false) ∧
    (∃ (d : Dev) (r : Fin 1024) (c : Cmd) (t : Nat), ControlUp d ∧ nextCmd d r 0x0305 = some c ∧ ((d.host.cmds.takeWhile fun x => x.id != c.id).any fun x => x.ring == c.ring) = true) ∧
    (∃ (d : Dev) (r : Fin 1024) (c : Cmd) (t : Nat), ControlUp d ∧ nextCmd d r 0x0306 = some c ∧ countPassed d.whl (pkField c.pkt 16 8) = true) ∧
    (∃ (d : Dev) (r : Fin 1024) (c : Cmd) (t : Nat), ControlUp d ∧ nextCmd d r 0x0306 = some c ∧ countPassed d.whl (pkField c.pkt 16 8) = false) ∧
    (∃ (d : Dev) (r : Fin 1024) (c : Cmd) (t : Nat), ControlUp d ∧ NextFor d r 0x0403 t c ∧ pkField c.pkt 16 8 % 64 = 0 ∧ pkField c.pkt 24 4 = 16 * (tenOf d t).digTable.length ∧ canIssue d (cmdFn d c) = true) ∧
    (∃ (d : Dev) (r : Fin 1024) (c : Cmd) (t : Nat), ControlUp d ∧ NextFor d r 0x0404 t c ∧ pkField c.pkt 16 8 % 64 = 0) ∧
    (∃ (d : Dev) (r : Fin 1024) (c : Cmd) (t : Nat), ControlUp d ∧ nextCmd d r 0x0F02 = some c ∧ pkField c.pkt 16 1 = 0 ∧ pkField c.pkt 17 1 = 0 ∧ pkField c.pkt 18 1 = 32 ∧ pkField c.pkt 24 8 % 64 = 0 ∧ canIssue d (cmdFn d c) = true) :=
  ⟨⟨with6 3 (cmd 1 []) {}, 0, cmd 1 [], 6, by (try unfold NextFor); decide +kernel⟩,
    ⟨with6 3 (cmd 2 [(24, 256)]) {}, 0, cmd 2 [(24, 256)], 6, by (try unfold NextFor); decide +kernel⟩,
    ⟨with6 3 (cmd 2 [(24, 16448), (28, 5)]) {}, 0, cmd 2 [(24, 16448), (28, 5)], 6, by (try unfold NextFor); decide +kernel⟩,
    ⟨with6 3 (cmd 3 [(24, 256), (29, 255)]) {}, 0, cmd 3 [(24, 256), (29, 255)], 6, by (try unfold NextFor); decide +kernel⟩,
    ⟨with6 3 (cmd 0x502 []) {}, 0, cmd 0x502 [], 6, by (try unfold NextFor); decide +kernel⟩,
    ⟨with6 3 (cmd 0x305 []) {}, 0, cmd 0x305 [], 6, by (try unfold NextFor); decide +kernel⟩,
    ⟨{ ten6 3 (cmd 0x305 []) with host := { (ten6 3 (cmd 0x305 [])).host with cmds := [{ cmd 1 [] with id := 6, stage := .armed }, cmd 0x305 []] } }, 0, cmd 0x305 [], 6, by decide +kernel⟩,
    ⟨with6 3 (cmd 0x306 []) {}, 0, cmd 0x306 [], 6, by (try unfold NextFor); decide +kernel⟩,
    ⟨with6 3 (cmd 0x306 [(16, 1)]) {}, 0, cmd 0x306 [(16, 1)], 6, by (try unfold NextFor); decide +kernel⟩,
    ⟨with6 3 (cmd 0x403 [(24, 16)]) { digTable := [(0, {})] }, 0, cmd 0x403 [(24, 16)], 6, by (try unfold NextFor); decide +kernel⟩,
    ⟨with6 3 (cmd 0x404 []) {}, 0, cmd 0x404 [], 6, by (try unfold NextFor); decide +kernel⟩,
    ⟨with6 3 (cmd 0xF02 [(18, 32)]) {}, 0, cmd 0xF02 [(18, 32)], 6, by (try unfold NextFor); decide +kernel⟩⟩

set_option maxRecDepth 1000000 in
theorem witness_ImageCommands :
    (∃ (d : Dev) (r : Fin 1024) (c : Cmd) (t : Nat) (x : _), ControlUp d ∧ x ∈ [(Instr.imageVerify r, 0x101), (.imageLoad r, 0x102), (.bufferWrite r, 0x200), (.bufferRead r, 0x201), (.bufferFill r, 0x202), (.bufferDigest r, 0x203)] ∧ nextCmd d r x.2 = some c ∧ 0 < c.steps) ∧
    (∃ (d : Dev) (r : Fin 1024) (c : Cmd) (t : Nat), ControlUp d ∧ NextFor d r 0x100 t c ∧ c.stage = .ready ∧ (tenOf d t).st = .vacant ∧ (tenOf d t).loading = none ∧ pkField c.pkt 16 8 % 64 = 0) ∧
    (∃ (d : Dev) (r : Fin 1024) (c : Cmd) (t : Nat), ControlUp d ∧ NextFor d r 0x100 t c ∧ c.stage = .fetched ∧ c.status = 0 ∧ (tenOf d t).st = .vacant ∧ (tenOf d t).loading = none ∧ headerOk (imgArray c.data) (pkField c.pkt 24 4) = true) ∧
    (∃ (d : Dev) (r : Fin 1024) (c : Cmd) (t : Nat), ControlUp d ∧ NextFor d r 0x101 t c ∧ c.steps = 0 ∧ c.stage = .ready ∧ (tenOf d t).st = .staged ∧ (tenOf d t).loading = none) ∧
    (∃ (d : Dev) (r : Fin 1024) (c : Cmd) (t : Nat), ControlUp d ∧ NextFor d r 0x101 t c ∧ c.steps = 0 ∧ c.stage = .fetched ∧ c.status = 0 ∧ verifyRefuse d.whl (imgArray c.data) (tenOf d t).stagedLen = none) ∧
    (∃ (d : Dev) (r : Fin 1024) (c : Cmd) (t : Nat), ControlUp d ∧ NextFor d r 0x102 t c ∧ c.steps = 0 ∧ c.stage = .ready ∧ (tenOf d t).st = .staged ∧ (tenOf d t).loading = none ∧ isClearing d t = false) ∧
    (∃ (d : Dev) (r : Fin 1024) (c : Cmd) (t : Nat) (g : Dev), ControlUp d ∧ g = withGrant t (tenOf d t).loadGrant (tookTurn r d) ∧ NextFor d r 0x102 t c ∧ c.steps = 0 ∧ c.stage = .fetched ∧ c.status = 0 ∧ loadFailure t (tenOf d t).stagedHead (tenOf d t).stagedLen (imgArray c.data) g = none ∧ storeStruck g t (imgArray c.data) = false ∧ routeStruck g (imgArray c.data) = false) ∧
    (∃ (d : Dev) (r : Fin 1024) (c : Cmd) (t : Nat) (g : Dev), ControlUp d ∧ g = withGrant t (tenOf d t).loadGrant (tookTurn r d) ∧ NextFor d r 0x102 t c ∧ c.steps = 0 ∧ c.stage = .fetched ∧ c.status = 0 ∧ loadFailure t (tenOf d t).stagedHead (tenOf d t).stagedLen (imgArray c.data) g = none ∧ (storeStruck g t (imgArray c.data) = true ∨ routeStruck g (imgArray c.data) = true)) ∧
    (∃ (d : Dev) (r : Fin 1024) (c : Cmd) (t : Nat), ControlUp d ∧ NextFor d r 0x103 t c ∧ (tenOf d t).loading = none ∧ (tenOf d t).st = .staged) ∧
    (∃ (d : Dev) (r : Fin 1024) (c : Cmd) (t : Nat), ControlUp d ∧ NextFor d r 0x103 t c ∧ (tenOf d t).loading = none ∧ (tenOf d t).st = .loaded) ∧
    (∃ (d : Dev) (r : Fin 1024) (c : Cmd) (t : Nat) (im : Loaded), ControlUp d ∧ NextFor d r 0x104 t c ∧ (tenOf d t).loading = none ∧ (tenOf d t).st = .loaded ∧ (tenOf d t).image = some im ∧ recording (tenOf d t) c.pkt = false ∧ (pkField c.pkt 16 1 < im.numBuckets ∨ pkField c.pkt 16 1 = 255)) :=
  ⟨⟨ten6 3 ({ cmd 0x101 [] with steps := 2 }), 0, { cmd 0x101 [] with steps := 2 }, 6, (.imageVerify 0, 0x101), by decide +kernel⟩,
    ⟨with6 3 (cmd 0x100 []) {}, 0, cmd 0x100 [], 6, by (try unfold NextFor); decide +kernel⟩,
    ⟨with6 3 ({ cmd 0x100 [(24, 960)] with stage := .fetched, data := smallImage.take 192 }) {}, 0, { cmd 0x100 [(24, 960)] with stage := .fetched, data := smallImage.take 192 }, 6, ⟨⟨rfl, by decide +kernel⟩, ⟨rfl, rfl, by decide, by decide +kernel⟩, by decide +kernel, by decide +kernel, by decide +kernel, by decide +kernel, by decide +kernel⟩⟩,
    ⟨with6 3 (cmd 0x101 []) { st := .staged }, 0, cmd 0x101 [], 6, by (try unfold NextFor); decide +kernel⟩,
    ⟨with6 3 ({ cmd 0x101 [] with stage := .fetched, data := smallImage }) { st := .staged, stagedLen := 960 }, 0, { cmd 0x101 [] with stage := .fetched, data := smallImage }, 6, ⟨⟨rfl, by decide +kernel⟩, ⟨rfl, rfl, by decide, by decide +kernel⟩, by decide +kernel, by decide +kernel, by decide +kernel, by decide +kernel⟩⟩,
    ⟨with6 3 (cmd 0x102 []) { st := .staged }, 0, cmd 0x102 [], 6, by (try unfold NextFor); decide +kernel⟩,
    ⟨with6 3 ({ cmd 0x102 [] with stage := .fetched, data := smallImage }) { st := .staged, stagedLen := 960, stagedHead := smallImage.take 192, loadGrant := grant 3 }, 0, { cmd 0x102 [] with stage := .fetched, data := smallImage }, 6, _, ⟨⟨rfl, by decide +kernel⟩, rfl, ⟨rfl, rfl, by decide, by decide +kernel⟩, by decide +kernel, by decide +kernel, by decide +kernel, by decide +kernel, by decide +kernel, by decide +kernel⟩⟩,
    ⟨{ with6 3 ({ cmd 0x102 [] with stage := .fetched, data := smallImage }) { st := .staged, stagedLen := 960, stagedHead := smallImage.take 192, loadGrant := grant 3 } with cl := [(0, { storeBad := [3] })] }, 0, { cmd 0x102 [] with stage := .fetched, data := smallImage }, 6, _, ⟨⟨rfl, by decide +kernel⟩, rfl, ⟨rfl, rfl, by decide, by decide +kernel⟩, by decide +kernel, by decide +kernel, by decide +kernel, by decide +kernel, by decide +kernel⟩⟩,
    ⟨with6 3 (cmd 0x103 []) { st := .staged }, 0, cmd 0x103 [], 6, by (try unfold NextFor); decide +kernel⟩,
    ⟨with6 3 (cmd 0x103 []) { st := .loaded }, 0, cmd 0x103 [], 6, by (try unfold NextFor); decide +kernel⟩,
    ⟨with6 3 (cmd 0x104 [(16, 255)]) { st := .loaded, image := some {} }, 0, cmd 0x104 [(16, 255)], 6, {}, by (try unfold NextFor); decide +kernel⟩⟩

theorem witness_BufferCommands :
    (∃ (d : Dev) (r : Fin 1024) (c : Cmd) (t : Nat), ControlUp d ∧ Memory.wf d.mem.cells = true ∧ NextFor d r 0x200 t c ∧ c.steps = 0 ∧ c.stage = .ready ∧ bufferAdmits d t = true ∧ moveRefuse d t 0x200 c.pkt = none ∧ recording (tenOf d t) c.pkt = false) ∧
    (∃ (d : Dev) (r : Fin 1024) (c : Cmd) (t : Nat), ControlUp d ∧ Memory.wf d.mem.cells = true ∧ NextFor d r 0x200 t c ∧ c.steps = 0 ∧ c.stage = .fetched ∧ c.status = 0 ∧ c.data.length = pkField c.pkt 40 4 ∧ moveRefuse d t 0x200 c.pkt = none ∧ (tenOf d t).journal = none) ∧
    (∃ (d : Dev) (r : Fin 1024) (c : Cmd) (t : Nat), ControlUp d ∧ Memory.wf d.mem.cells = true ∧ NextFor d r 0x202 t c ∧ c.steps = 0 ∧ bufferAdmits d t = true ∧ moveRefuse d t 0x202 c.pkt = none ∧ recording (tenOf d t) c.pkt = false) ∧
    (∃ (d : Dev) (r : Fin 1024) (c : Cmd) (t : Nat), ControlUp d ∧ Memory.wf d.mem.cells = true ∧ NextFor d r 0x201 t c ∧ c.steps = 0 ∧ bufferAdmits d t = true ∧ moveRefuse d t 0x201 c.pkt = none ∧ d.mem.ecc = [] ∧ ((areaOf c.pkt).tier = 0 → (clOf d (areaOf c.pkt).cl).powered = true) ∧ canIssue d (cmdFn d c) = true) ∧
    (∃ (d : Dev) (r : Fin 1024) (c : Cmd) (t : Nat), ControlUp d ∧ Memory.wf d.mem.cells = true ∧ NextFor d r 0x203 t c ∧ c.steps = 0 ∧ bufferAdmits d t = true ∧ digestOk c.pkt = true ∧ digestHeld (grantOf d t) c.pkt = true ∧ d.mem.ecc = [] ∧ ((areaOf c.pkt).tier = 0 → (clOf d (areaOf c.pkt).cl).powered = true) ∧ pkField c.pkt 32 4 = 1 ∧ pkField c.pkt 36 4 = 1 ∧ pkField c.pkt 18 1 = 0) :=
  ⟨⟨with6 3 (cmd 0x200 [(24, 0x3FFFC0), (40, 64)]) {}, 0, cmd 0x200 [(24, 0x3FFFC0), (40, 64)], 6, by (try unfold NextFor); decide +kernel⟩,
    ⟨with6 3 ({ cmd 0x200 [(24, 0x3FFFC0), (40, 64)] with stage := .fetched, data := List.replicate 64 1 }) {}, 0, { cmd 0x200 [(24, 0x3FFFC0), (40, 64)] with stage := .fetched, data := List.replicate 64 1 }, 6, by (try unfold NextFor); decide +kernel⟩,
    ⟨with6 3 (cmd 0x202 [(24, 0x3FFFC0), (40, 64)]) {}, 0, cmd 0x202 [(24, 0x3FFFC0), (40, 64)], 6, by (try unfold NextFor); decide +kernel⟩,
    ⟨with6 3 (cmd 0x201 [(24, 0x3FFFC0), (40, 64)]) {}, 0, cmd 0x201 [(24, 0x3FFFC0), (40, 64)], 6, by (try unfold NextFor); decide +kernel⟩,
    ⟨with6 3 (cmd 0x203 [(32, 1), (36, 1), (40, 64)]) {}, 0, cmd 0x203 [(32, 1), (36, 1), (40, 64)], 6, by (try unfold NextFor); decide +kernel⟩⟩

theorem witness_JournalCommands :
    (∃ (d : Dev) (r : Fin 1024) (c : Cmd) (t : Nat), ControlUp d ∧ NextFor d r 0x400 t c ∧ (tenOf d t).st ≠ .draining ∧ (tenOf d t).journal = none ∧ (tenOf d t).replay = none ∧ journalArea (pkField c.pkt 16 8) (pkField c.pkt 24 4) = true) ∧
    (∃ (d : Dev) (r : Fin 1024) (c : Cmd) (t : Nat) (j : Journal), ControlUp d ∧ NextFor d r 0x401 t c ∧ (tenOf d t).journal = some j ∧ (∀ p, (tenOf d t).program = some p → p.held = [])) ∧
    (∃ (d : Dev) (r : Fin 1024) (c : Cmd) (t : Nat) (j : Journal), ControlUp d ∧ NextFor d r 0x401 t c ∧ (tenOf (journalFlush t (tookTurn r d)) t).journal = some j) ∧
    (∃ (d : Dev) (r : Fin 1024) (c : Cmd) (t : Nat), ControlUp d ∧ (findCmd d fun c => c.ring == r.val && opcodeOf c == 0x402 && c.stage == .armed && !c.interrupted) = none ∧ NextFor d r 0x402 t c ∧ (tenOf d t).replay = none ∧ (tenOf d t).st = .loaded ∧ (tenOf d t).loading = none ∧ 64 ≤ pkField c.pkt 24 4) :=
  ⟨⟨with6 3 (cmd 0x400 [(24, 65536)]) {}, 0, cmd 0x400 [(24, 65536)], 6, by (try unfold NextFor); decide +kernel⟩,
    ⟨with6 3 (cmd 0x401 []) { journal := some { addr := 0, length := 65536, fn := 0, imageId := 0, startGc := 0, fresh := true } }, 0, cmd 0x401 [], 6, { addr := 0, length := 65536, fn := 0, imageId := 0, startGc := 0, fresh := true }, by refine ⟨by decide +kernel, by unfold NextFor; decide +kernel, by decide +kernel, nofun⟩⟩,
    ⟨with6 3 (cmd 0x401 []) { journal := some { addr := 0, length := 65536, fn := 0, imageId := 0, startGc := 0, fresh := true }, program := some { launch := 0, completion := 8192, bucket := 0, words := [], cmd := 9, recorded := true, held := [] } }, 0, cmd 0x401 [], 6, { addr := 0, length := 65536, fn := 0, imageId := 0, startGc := 0, fresh := true }, by (try unfold NextFor); decide +kernel⟩,
    ⟨with6 3 (cmd 0x402 [(24, 64)]) { st := .loaded }, 0, cmd 0x402 [(24, 64)], 6, by (try unfold NextFor); decide +kernel⟩⟩

theorem witness_LaunchCommands :
    (∃ (d : Dev) (r : Fin 1024) (c : Cmd) (t : Nat) (im : Loaded) (k : Nat) (ws : List Nat), ControlUp d ∧ recording (tenOf d t) c.pkt = false ∧ (tenOf d t).st = .loaded ∧ (tenOf d t).image = some im ∧ bufferOpen d t = false ∧ (tenOf d t).loading = none ∧ (tenOf d t).replay = none ∧ spanRuns d im = true ∧ selectBucket (tenOf d t) im c.pkt = .ok (k, ws) ∧ NextFor d r 0x300 t c ∧ pkField c.pkt 16 8 % d.whl.w = 0 ∧ gcOf d.whl + 2 * d.whl.w ≤ pkField c.pkt 16 8) ∧
    (∃ (d : Dev) (r : Fin 1024) (c : Cmd) (t : Nat) (im : Loaded) (k : Nat) (ws : List Nat), ControlUp d ∧ recording (tenOf d t) c.pkt = false ∧ (tenOf d t).st = .loaded ∧ (tenOf d t).image = some im ∧ bufferOpen d t = false ∧ (tenOf d t).loading = none ∧ (tenOf d t).replay = none ∧ spanRuns d im = true ∧ selectBucket (tenOf d t) im c.pkt = .ok (k, ws) ∧ NextFor d r 0x301 t c ∧ im.bound = []) ∧
    (∃ (d : Dev) (r : Fin 1024) (c : Cmd) (t : Nat) (im : Loaded) (k : Nat) (ws : List Nat), ControlUp d ∧ recording (tenOf d t) c.pkt = false ∧ (tenOf d t).st = .loaded ∧ (tenOf d t).image = some im ∧ bufferOpen d t = false ∧ (tenOf d t).loading = none ∧ (tenOf d t).replay = none ∧ spanRuns d im = true ∧ selectBucket (tenOf d t) im c.pkt = .ok (k, ws) ∧ NextFor d r 0x300 t c ∧ pkField c.pkt 16 8 % d.whl.w = 0 ∧ pkField c.pkt 16 8 < gcOf d.whl + 2 * d.whl.w) ∧
    (∃ (d : Dev) (r : Fin 1024) (c : Cmd) (t : Nat) (im : Loaded) (k : Nat) (ws : List Nat), ControlUp d ∧ recording (tenOf d t) c.pkt = false ∧ (tenOf d t).st = .loaded ∧ (tenOf d t).image = some im ∧ bufferOpen d t = false ∧ (tenOf d t).loading = none ∧ (tenOf d t).replay = none ∧ spanRuns d im = true ∧ selectBucket (tenOf d t) im c.pkt = .ok (k, ws) ∧ NextFor d r 0x300 t c ∧ pkField c.pkt 16 8 % d.whl.w ≠ 0) ∧
    (∃ (d : Dev) (r : Fin 1024) (c : Cmd) (t : Nat), ControlUp d ∧ recording (tenOf d t) c.pkt = false ∧ NextFor d r 0x302 t c ∧ isLive (tenOf d t).st = true ∧ pkField c.pkt 16 8 % d.whl.w = 0) ∧
    (∃ (d : Dev) (r : Fin 1024) (c : Cmd) (t : Nat), ControlUp d ∧ recording (tenOf d t) c.pkt = false ∧ NextFor d r 0x303 t c ∧ recClass (grantOf d t) = 3 ∧ bindsLink (tenOf d t) = false ∧ (tenOf d t).st = .running ∧ pkField c.pkt 16 8 % d.whl.w = 0) ∧
    (∃ (d : Dev) (r : Fin 1024) (c : Cmd) (t : Nat), ControlUp d ∧ recording (tenOf d t) c.pkt = false ∧ NextFor d r 0x303 t c ∧ recClass (grantOf d t) ≠ 3) ∧
    (∃ (d : Dev) (r : Fin 1024) (c : Cmd) (t : Nat), ControlUp d ∧ recording (tenOf d t) c.pkt = false ∧ NextFor d r 0x304 t c ∧ recClass (grantOf d t) ≠ 3) ∧
    (∃ (d : Dev) (r : Fin 1024) (c : Cmd) (t : Nat) (s : Nat), ControlUp d ∧ recording (tenOf d t) c.pkt = false ∧ NextFor d r 0x304 t c ∧ recClass (grantOf d t) = 3 ∧ (tenOf d t).st = .suspended ∧ (tenOf d t).suspendedAt = some s ∧ bufferOpen d t = false) :=
  ⟨⟨with6 3 (cmd 0x300 [(16, 16384)]) { st := .loaded, image := some {} }, 0, cmd 0x300 [(16, 16384)], 6, {}, 0, _, by refine ⟨by decide +kernel, by decide +kernel, by decide +kernel, by decide +kernel, by decide +kernel, by decide +kernel, by decide +kernel, by decide +kernel, rfl, by (try unfold NextFor); decide +kernel, by decide +kernel, by decide +kernel⟩⟩,
    ⟨with6 3 (cmd 0x301 []) { st := .loaded, image := some {} }, 0, cmd 0x301 [], 6, {}, 0, _, by refine ⟨by decide +kernel, by decide +kernel, by decide +kernel, by decide +kernel, by decide +kernel, by decide +kernel, by decide +kernel, by decide +kernel, rfl, by (try unfold NextFor); decide +kernel, by decide +kernel⟩⟩,
    ⟨with6 3 (cmd 0x300 [(16, 8192)]) { st := .loaded, image := some {} }, 0, cmd 0x300 [(16, 8192)], 6, {}, 0, _, by refine ⟨by decide +kernel, by decide +kernel, by decide +kernel, by decide +kernel, by decide +kernel, by decide +kernel, by decide +kernel, by decide +kernel, rfl, by (try unfold NextFor); decide +kernel, by decide +kernel, by decide +kernel⟩⟩,
    ⟨with6 3 (cmd 0x300 [(16, 16385)]) { st := .loaded, image := some {} }, 0, cmd 0x300 [(16, 16385)], 6, {}, 0, _, by refine ⟨by decide +kernel, by decide +kernel, by decide +kernel, by decide +kernel, by decide +kernel, by decide +kernel, by decide +kernel, by decide +kernel, rfl, by (try unfold NextFor); decide +kernel, by decide +kernel⟩⟩,
    ⟨with6 3 (cmd 0x302 [(16, 8192)]) { st := .running }, 0, cmd 0x302 [(16, 8192)], 6, by (try unfold NextFor); decide +kernel⟩,
    ⟨with6 3 (cmd 0x303 [(16, 8192)]) { st := .running }, 0, cmd 0x303 [(16, 8192)], 6, by (try unfold NextFor); decide +kernel⟩,
    ⟨with6 2 (cmd 0x303 []) {}, 0, cmd 0x303 [], 6, by (try unfold NextFor); decide +kernel⟩,
    ⟨with6 1 (cmd 0x304 []) {}, 0, cmd 0x304 [], 6, by (try unfold NextFor); decide +kernel⟩,
    ⟨with6 3 (cmd 0x304 []) { st := .suspended, suspendedAt := some 0 }, 0, cmd 0x304 [], 6, 0, by (try unfold NextFor); decide +kernel⟩⟩

theorem witness_UnitCommands :
    (∃ (d : Dev) (r : Fin 1024) (c : Cmd) (t : Nat), ControlUp d ∧ nextCmd d r 0x500 = some c ∧ cmdFn d c = 0 ∧ d.span.joined = false ∧ d.span.toForm = false ∧ fileOk d c.block (pkField c.pkt 24 4) = true) ∧
    (∃ (d : Dev) (r : Fin 1024) (c : Cmd) (t : Nat), ControlUp d ∧ nextCmd d r 0x501 = some c ∧ cmdFn d c = 0 ∧ d.span.toForm = false ∧ d.span.state ≠ .forming ∧ spanInUse d = false) ∧
    (∃ (d : Dev) (r : Fin 1024) (c : Cmd) (t : Nat), ControlUp d ∧ nextCmd d r 0x503 = some c ∧ (ringOf d r).ten = t ∧ t < 32 ∧ recClass (grantOf d t) ≠ 0 ∧ (tenOf d t).st ≠ .draining ∧ timerBadParam c.pkt = false ∧ mayProgram d r (pkField c.pkt 16 1) = true ∧ pkField c.pkt 40 1 = 0) ∧
    (∃ (d : Dev) (r : Fin 1024) (c : Cmd) (t : Nat), ControlUp d ∧ nextCmd d r 0x503 = some c ∧ (ringOf d r).ten = t ∧ t < 32 ∧ recClass (grantOf d t) ≠ 0 ∧ (tenOf d t).st ≠ .draining ∧ timerBadParam c.pkt = false ∧ mayProgram d r (pkField c.pkt 16 1) = true ∧ pkField c.pkt 40 1 = 1) ∧
    (∃ (d : Dev) (r : Fin 1024) (c : Cmd) (t : Nat), ControlUp d ∧ nextCmd d r 0x504 = some c ∧ (ringOf d r).ten = t ∧ t < 32 ∧ recClass (grantOf d t) ≠ 0 ∧ (tenOf d t).st ≠ .draining ∧ (∀ n ∈ maskChannels (pkField c.pkt 16 2), mayProgram d r n = true ∧ (tmrOf d n).waiting = true ∧ (tmrOf d n).group = true) ∧ pkField c.pkt 24 8 = 0) ∧
    (∃ (d : Dev) (r : Fin 1024) (c : Cmd) (t : Nat) (n : Nat), ControlUp d ∧ NextFor d r 0x600 t c ∧ (tenOf d t).st ≠ .faulted ∧ (tenOf d t).st ≠ .draining ∧ pkField c.pkt 16 1 < 4 ∧ recBsu (grantOf d t) (pkField c.pkt 16 1) = 1 ∧ (bsuOf d (pkField c.pkt 16 1)).lease = none ∧ bit (pkField c.pkt 17 1) 0 = false ∧ pkField c.pkt 20 4 = n ∧ n ≠ 0 ∧ n ≤ recLease (grantOf d t)) ∧
    (∃ (d : Dev) (r : Fin 1024) (c : Cmd) (t : Nat) (u : Nat) (x : Nat), ControlUp d ∧ NextFor d r 0x600 t c ∧ (tenOf d t).st ≠ .faulted ∧ (tenOf d t).st ≠ .draining ∧ pkField c.pkt 16 1 < 4 ∧ recBsu (grantOf d t) (pkField c.pkt 16 1) = 1 ∧ (bsuOf d (pkField c.pkt 16 1)).lease = some (u, x) ∧ u ≠ t) ∧
    (∃ (d : Dev) (r : Fin 1024) (c : Cmd) (t : Nat), ControlUp d ∧ NextFor d r 0x601 t c ∧ (tenOf d t).st = .loaded ∧ configOk c.block = true ∧ bsuHolder d (blkField c.block 0 1) = some t ∧ recording (tenOf d t) c.pkt = false) ∧
    (∃ (d : Dev) (r : Fin 1024) (c : Cmd) (t : Nat), ControlUp d ∧ NextFor d r 0x602 t c ∧ (tenOf d t).st = .loaded ∧ pkField c.pkt 16 1 < 4 ∧ bsuHolder d (pkField c.pkt 16 1) = some t ∧ (bsuOf d (pkField c.pkt 16 1)).queue ≠ [] ∧ (∀ x ∈ d.host.cmds, opcodeOf x = 0x602 → x = c)) :=
  ⟨⟨ten6 3 ({ cmd 0x500 [(24, 192)] with block := spanFile }), 0, { cmd 0x500 [(24, 192)] with block := spanFile }, 6, by (try unfold NextFor); decide +kernel⟩,
    ⟨ten6 3 (cmd 0x501 []), 0, cmd 0x501 [], 6, by (try unfold NextFor); decide +kernel⟩,
    ⟨ten6 3 (cmd 0x503 [(16, 0), (24, 100), (32, 100)]), 0, cmd 0x503 [(16, 0), (24, 100), (32, 100)], 6, by (try unfold NextFor); decide +kernel⟩,
    ⟨ten6 3 (cmd 0x503 [(16, 0), (24, 100), (32, 100), (40, 1)]), 0, cmd 0x503 [(16, 0), (24, 100), (32, 100), (40, 1)], 6, by (try unfold NextFor); decide +kernel⟩,
    ⟨{ ten6 3 (cmd 0x504 [(16, 1)]) with tmr := [(0, { waiting := true, group := true })] }, 0, cmd 0x504 [(16, 1)], 6, by (try unfold NextFor); decide +kernel⟩,
    ⟨{ ten6 3 (cmd 0x600 [(20, 100000)]) with grants := { force := [(6, leased)] } }, 0, cmd 0x600 [(20, 100000)], 6, 100000, by (try unfold NextFor); decide +kernel⟩,
    ⟨{ ten6 3 (cmd 0x600 [(20, 1)]) with grants := { force := [(6, leased)] }, bsu := [(0, { lease := some (7, 8192) })] }, 0, cmd 0x600 [(20, 1)], 6, 7, 8192, by (try unfold NextFor); decide +kernel⟩,
    ⟨with6 3 ({ cmd 0x601 [] with block := [0, 1, 0, 0, 64, 0] }) { st := .loaded }, 0, { cmd 0x601 [] with block := [0, 1, 0, 0, 64, 0] }, 6, by (try unfold NextFor); decide +kernel⟩,
    ⟨{ with6 3 (cmd 0x602 []) { st := .loaded } with bsu := [(0, { queue := [⟨0, 0, 0⟩] })] }, 0, cmd 0x602 [], 6, by (try unfold NextFor); decide +kernel⟩⟩

theorem witness_RootCommands :
    (∃ (d : Dev) (r : Fin 1024) (c : Cmd), ControlUp d ∧ nextCmd d r 0xF00 = some c ∧ stageOk c.block (pkField c.pkt 24 4) = true) ∧
    (∃ (d : Dev) (r : Fin 1024) (c : Cmd), ControlUp d ∧ nextCmd d r 0xF01 = some c ∧ d.host.cmds = [c] ∧ c.stage = .ready ∧ pkField c.pkt 16 8 % d.whl.w = 0 ∧ d.grants.staging.isSome = true) ∧
    (∃ (d : Dev) (r : Fin 1024) (c : Cmd), ControlUp d ∧ nextCmd d r 0xF03 = some c ∧ pkField c.pkt 16 1 = 1 ∧ pkField c.pkt 17 1 < 4) ∧
    (∃ (d : Dev) (r : Fin 1024) (c : Cmd), ControlUp d ∧ nextCmd d r 0xF04 = some c ∧ pkField c.pkt 16 2 < 1024 ∧ pkField c.pkt 18 1 < 64 ∧ pkField c.pkt 19 1 = 0xFF ∧ pkField c.pkt 20 1 = 0 ∧ (ringOf d (pkField c.pkt 16 2)).st = .unassigned) ∧
    (∃ (d : Dev) (r : Fin 1024) (c : Cmd), ControlUp d ∧ nextCmd d r 0xF06 = some c ∧ d.host.cmds = [c] ∧ c.stage = .ready ∧ pkField c.pkt 20 1 = 1 ∧ pkField c.pkt 24 8 % d.whl.w = 0) ∧
    (∃ (d : Dev) (r : Fin 1024) (c : Cmd), ControlUp d ∧ nextCmd d r 0xF07 = some c ∧ c.stage = .ready ∧ pkField c.pkt 24 4 ≠ 0 ∧ pkField c.pkt 24 4 % 64 = 0 ∧ pkField c.pkt 24 4 ≤ 16777216) ∧
    (∃ (d : Dev) (r : Fin 1024) (c : Cmd) (f : Firmware), ControlUp d ∧ nextCmd d r 0xF08 = some c ∧ d.boot.activating = none ∧ d.boot.staged = some f ∧ (∀ x ∈ d.host.cmds, x.ring = r.val)) ∧
    (∃ (d : Dev) (r : Fin 1024) (c : Cmd) (f : Firmware) (id : Nat), ControlUp d ∧ d.boot.activating = some id ∧ d.boot.staged = some f ∧ (findCmd d fun c => c.id == id && c.ring == r.val) = some c) ∧
    (∃ (d : Dev) (r : Fin 1024) (c : Cmd), ControlUp d ∧ nextCmd d r 0xF09 = some c ∧ pkField c.pkt 16 1 < 16 ∧ pkField c.pkt 17 1 = 2 ∧ pkField c.pkt 18 1 = 0 ∧ bit d.fuse.links (pkField c.pkt 16 1) = true ∧ d.span.joined = false) ∧
    (∃ (d : Dev) (r : Fin 1024) (c : Cmd), ControlUp d ∧ nextCmd d r 0xF0A = some c ∧ pkField c.pkt 16 1 < 32 ∧ pkField c.pkt 24 8 = 0) ∧
    (∃ (d : Dev) (r : Fin 1024) (c : Cmd) (x : CfgErr) (xs : List CfgErr), ControlUp d ∧ nextCmd d r 0xF0B = some c ∧ pkField c.pkt 24 4 = (cfgLength c.block + 63) / 64 * 64 ∧ d.boot.sealPend = none ∧ cfgErrors (tookTurn r d) c.block true = x :: xs) :=
  ⟨⟨ten6 3 ({ cmd 0xF00 [(24, 192)] with block := leBytes 192 (1 + 256 ^ 4 + 255 * 256 ^ 172) }), 0, { cmd 0xF00 [(24, 192)] with block := leBytes 192 (1 + 256 ^ 4 + 255 * 256 ^ 172) }, by (try unfold NextFor); decide +kernel⟩,
    ⟨{ ten6 3 (cmd 0xF01 []) with grants := { staging := some { recs := [], expiry := 8192 } } }, 0, cmd 0xF01 [], by (try unfold NextFor); decide +kernel⟩,
    ⟨ten6 3 (cmd 0xF03 [(16, 1), (17, 3)]), 0, cmd 0xF03 [(16, 1), (17, 3)], by (try unfold NextFor); decide +kernel⟩,
    ⟨ten6 3 (cmd 0xF04 [(16, 1023), (18, 63), (19, 255)]), 0, cmd 0xF04 [(16, 1023), (18, 63), (19, 255)], by (try unfold NextFor); decide +kernel⟩,
    ⟨ten6 3 (cmd 0xF06 [(20, 1)]), 0, cmd 0xF06 [(20, 1)], by (try unfold NextFor); decide +kernel⟩,
    ⟨ten6 3 (cmd 0xF07 [(24, 16777216)]), 0, cmd 0xF07 [(24, 16777216)], by (try unfold NextFor); decide +kernel⟩,
    ⟨{ ten6 3 (cmd 0xF08 []) with boot := { state := .active, inReset := false, staged := some {} } }, 0, cmd 0xF08 [], {}, by (try unfold NextFor); decide +kernel⟩,
    ⟨{ ten6 3 (cmd 0xF08 []) with boot := { state := .active, inReset := false, staged := some {}, activating := some 7 } }, 0, cmd 0xF08 [], {}, 7, by (try unfold NextFor); decide +kernel⟩,
    ⟨ten6 3 (cmd 0xF09 [(16, 15), (17, 2)]), 0, cmd 0xF09 [(16, 15), (17, 2)], by (try unfold NextFor); decide +kernel⟩,
    ⟨ten6 3 (cmd 0xF0A [(16, 31)]), 0, cmd 0xF0A [(16, 31)], by (try unfold NextFor); decide +kernel⟩,
    ⟨ten6 3 ({ cmd 0xF0B [(24, 64)] with block := leBytes 128 (64 * 256 ^ 6) }), 0, { cmd 0xF0B [(24, 64)] with block := leBytes 128 (64 * 256 ^ 6) }, ⟨1, 6, 64⟩, [], by (try unfold NextFor); decide +kernel⟩⟩

theorem witness_DeviceFrame : ∃ (c : Instr) (s : State) (t : State), exec c s = .next t :=
  ⟨.wheelStart, ⟨[], on⟩, _, rfl⟩

theorem witness_FlitEcc :
    (∃ (f : Flit) (n : _), n < 512) ∧
    (∃ (f : Flit) (n : _), n < 6) ∧
    (∃ (f : Flit) (n : _), n < 10) ∧
    (∃ (f : Flit) (k : Nat), k < 14) ∧
    (∃ (f : Flit), f.ecc = eccOf f) ∧
    (∃ (f : Flit) (k : Nat), k < 14 ∧ (f.ecc ^^^ eccOf f).toNat = 2 ^ k) ∧
    (∃ (f : Flit) (n : Nat), n < 530 ∧ (f.ecc ^^^ eccOf f).toNat = hList.getD n 0) ∧
    (∃ (f : Flit), f.ecc ≠ eccOf f ∧ (∀ k < 14, (f.ecc ^^^ eccOf f).toNat ≠ 2 ^ k) ∧ (f.ecc ^^^ eccOf f).toNat ∉ hList) ∧
    (∃ (f : Flit) (g : Flit) (n : Nat), n < 530 ∧ f.ecc = eccOf f ∧ flitData g = flitData f ^^^ 2 ^ n ∧ g.ecc = f.ecc) :=
  ⟨⟨flit 6 0, 511, by decide +kernel⟩,
    ⟨flit 6 0, 5, by decide +kernel⟩,
    ⟨flit 6 0, 9, by decide +kernel⟩,
    ⟨flit 6 0, 13, by decide +kernel⟩,
    ⟨flit 6 0, by decide +kernel⟩,
    ⟨{ flit 6 0 with ecc := (flit 6 0).ecc ^^^ 0x2000 }, 13, by decide +kernel⟩,
    ⟨{ flit 6 0 with ecc := (flit 6 0).ecc ^^^ BitVec.ofNat 14 (hList.getD 529 0) }, 529, by decide +kernel⟩,
    ⟨{ flit 6 0 with ecc := (flit 6 0).ecc ^^^ 3 }, by decide +kernel⟩,
    ⟨flit 6 0, { flit 6 0 with poison := true }, 529, by decide +kernel⟩⟩

theorem witness_ExactSums :
    (∃ (x : ExElem) (sign : Bool) (m : Nat) (e : Int), -32 ≤ e) ∧
    (∃ (s : Bool) (u : Bool) (m : Nat) (e : Int), m ≠ 0) ∧
    (∃ (x : ExElem) (vs : List Val), x.nan = true) ∧
    (∃ (x : ExElem) (vs : List Val), x.pos = true) ∧
    (∃ (x : ExElem) (vs : List Val), x.neg = true) ∧
    (∃ (x : ExElem) (vs : List Val) (us : List Val), vs.Perm us) :=
  ⟨⟨{}, true, 1, -32, by decide +kernel⟩,
    ⟨true, false, 1, 0, by decide +kernel⟩,
    ⟨{ nan := true }, [.nan], by decide +kernel⟩,
    ⟨{ pos := true }, [], by decide +kernel⟩,
    ⟨{ neg := true }, [], by decide +kernel⟩,
    ⟨{}, [.nan, .inf true], [.inf true, .nan], by decide +kernel⟩⟩


/-- The lowest cap is a free value: with a cap of 700 W one of the two clauses of RootCommands about POWER_CAP_SET is met, whatever it is. -/
theorem witness_RootCommands_cap :
    let c := cmd 0xF05 [(16, 700)]
    let d := ten6 3 c
    d.boot.lost = false ∧ nextCmd d (0 : Fin 1024) 0xF05 = some c ∧ pkField c.pkt 16 2 ≠ 0 ∧ pkField c.pkt 16 2 ≤ 700 ∧
      (lowestCapNow d ≤ pkField c.pkt 16 2 ∨ pkField c.pkt 16 2 < lowestCapNow d) :=
  ⟨rfl, by decide +kernel, by decide +kernel, by decide +kernel, (Nat.lt_or_ge _ _).symm⟩

/-- Rule 0x0B holds a block to the same free value: a block that fails no rule exists where that value leaves room for a cap. -/
theorem witness_RootCommands_seal (h : ∀ xs ts, Config.lowestCap xs ts ≤ 700) :
    ∃ (d : Dev) (r : Fin 1024) (c : Cmd), d.boot.lost = false ∧ nextCmd d r 0xF0B = some c ∧
      pkField c.pkt 24 4 = (cfgLength c.block + 63) / 64 * 64 ∧ d.boot.sealPend = none ∧ cfgErrors d c.block true = [] :=
  ⟨ten6 3 sealCmd, 0, sealCmd, rfl, by decide +kernel, by decide +kernel, rfl, cfgBlock_valid h⟩

/-- A frame that carries a slot reaches a link with room in its queue, and one whose queue is full. -/
theorem witness_LinkTraffic_slot :
    (∃ msg f, frameMessage 4 (fromLanes 4 order0 (framed 1)) = some (msg, 0) ∧ fcfOf (bits msg (544 * 4 + 239) (544 * 4)) = some f ∧
      f.kind = 1 ∧ f.naks = [] ∧ f.absent = none ∧ f.valid = 1) ∧
    (link4.rxQ.length < 32) ∧
    let full := { link4 with rxQ := List.replicate 32 { at_ := 9, gc := 0, flit := flit 6 5, bad := false } }
    lnkOf (drainLink 0 0 (linked full)) 0 = full ∧ 32 ≤ full.rxQ.length :=
  ⟨framed_reads framed1_reads, by decide, by decide +kernel⟩

end Sys2Proof.Tests
end

section
/-!
The statements of 02_clock_domains.md: the stop after a clock loss (R74), and the islands' clocks (R46 to R59; 21 R731; 23 R773).
-/
namespace Sys2Proof.Machine

/-! ## What a command answers, by the way it runs -/

/-- The commands that act whatever the device promises: those that reset the chip and those that report a clock loss (02 R74). -/
def actsWhenLost : Instr → Bool
  | .chipReset .. | .linkDrivenReset .. | .powerLoss .. | .refclkLost | .pllLockLost .. => true
  | _ => false

theorem exec_eq_onDev {c : Instr} (hc : actsWhenLost c = false) (s : State) : ∃ f, exec c s = onDev s f := by
  cases c with
  | chipReset | linkDrivenReset | powerLoss | refclkLost | pllLockLost => cases hc
  | _ => exact ⟨_, rfl⟩

theorem exec_stops {c : Instr} (hc : actsWhenLost c = false) {s : State} (hl : s.dev.boot.lost = true) :
    exec c s = .fault .nothingPromised := by
  obtain ⟨f, hf⟩ := exec_eq_onDev hc s
  rw [hf, onDev_lost hl]

theorem answers_onDev {c : Instr} {d : Dev} {f : Dev → Dev} {P : Dev → Prop} (hl : d.boot.lost = false)
    (hc : ∀ s, exec c s = onDev s f) (hP : P (f d)) : Answers c d P :=
  fun q => ⟨f d, (hc _).trans (onDev_eq (s := ⟨q, d⟩) hl f), hP⟩

theorem answers_onHost {c : Instr} {d : Dev} {fn : Nat} {f : Dev → Dev} {P : Dev → Prop} (hl : d.boot.lost = false)
    (hh : hostOpen d fn = true) (hc : ∀ s, exec c s = onHost fn s f) (hP : P (f d)) : Answers c d P :=
  fun q => ⟨f d, (hc _).trans (onHost_eq (s := ⟨q, d⟩) hl hh f), hP⟩

/-! ## Resets and clock losses (02 R74; 20 R690) -/

@[simp] theorem chipReset_lost (cause : Nat) (cut : Bool) (d : Dev) : (chipReset cause cut d).boot.lost = false := by
  by_cases h : cause = 0 <;> simp [chipReset, h]

@[simp] theorem opRefclkLost_refLoss (d : Dev) : (opRefclkLost d).boot.refLoss = true := rfl

@[simp] theorem opRefclkLost_lost (d : Dev) :
    (opRefclkLost d).boot.lost = (d.boot.lost || d.boot.state == .active) := rfl

/-- Which flag a lock loss latches depends on the PLL; that the promise ends in ACTIVE does not. -/
theorem opPllLockLost_lost (p : Nat) (d : Dev) :
    (opPllLockLost p d).boot.lost = (d.boot.lost || ((pllOf d p).locked && d.boot.state == .active)) := by
  unfold opPllLockLost
  split
  case isTrue h => simp only [modBoot]; split <;> simp [h]
  case isFalse h => simp [h]

/-- Settles O4: every command but five runs through onDev, which stops once nothing is promised. -/
theorem lostUntilReset : Obligations.LostUntilReset := by
  refine ⟨fun s ha => ⟨_, onDevAlways_eq s opRefclkLost, by simp [ha], rfl⟩,
    fun s p ha hp => ⟨_, onDevAlways_eq s (opPllLockLost p), by simp [opPllLockLost_lost, ha, hp]⟩,
    fun c s hl => ⟨?chip, ?link, ?power, ?refclk, ?pll, ?others⟩⟩
  case chip =>
    rintro cause cut rfl
    exact ⟨_, onDevAlways_eq s (opChipReset cause cut), chipReset_lost ..⟩
  case link =>
    rintro k cut rfl
    exact ⟨_, onDevAlways_eq s (opLinkDrivenReset k cut), chipReset_lost ..⟩
  case power =>
    rintro cut rfl
    exact ⟨_, onDevAlways_eq s (opPowerLoss cut), chipReset_lost ..⟩
  case refclk =>
    rintro rfl
    exact ⟨_, onDevAlways_eq s opRefclkLost, by simp [hl], rfl⟩
  case pll =>
    rintro p rfl
    exact ⟨_, onDevAlways_eq s (opPllLockLost p), by simp [opPllLockLost_lost, hl]⟩
  case others =>
    intro hchip hlink hpower hrefclk hpll
    refine exec_stops ?_ hl
    cases c with
    | chipReset cause cut => exact absurd rfl (hchip cause cut)
    | linkDrivenReset k cut => exact absurd rfl (hlink k cut)
    | powerLoss cut => exact absurd rfl (hpower cut)
    | refclkLost => exact absurd rfl hrefclk
    | pllLockLost p => exact absurd rfl (hpll p)
    | _ => rfl

/-! ## One operation of an island at a time -/

theorem opIslandSupplyGood_good {i : Nat} {d : Dev} (hs : (islOfDev d i).supplyOn = true) :
    (islOfDev (opIslandSupplyGood i d) i).supplyGood = true ∧
      ((islOfDev d i).supplyGood = false → (islOfDev (opIslandSupplyGood i d) i).goodAt = d.whl.now) := by
  cases hg : (islOfDev d i).supplyGood <;> simp [opIslandSupplyGood, hs, hg]

theorem opIslandOscStart_eq {i : Nat} {d : Dev} (hs : (islOfDev d i).supplyOn = true) (hg : (islOfDev d i).supplyGood = true)
    (ho : (islOfDev d i).oscOn = false) (hr : d.whl.running = true) (hh : d.boot.state ≠ .halted) :
    opIslandOscStart i d = if (islOfDev d i).goodAt + 1024 ≤ d.whl.now then
      modIsl i (fun x => { x with oscOn := true, current := 192, trim := 0, window := d.whl.now, slewAt := d.whl.now }) d
    else d := by
  simp [opIslandOscStart, hs, hg, ho, hr, hh]

/-- The trim stays within the fine steps of one code step (02 R49). -/
theorem trimWithin_bounds (cur : Nat) (trim : Int) :
    -(Config.fineSteps : Int) ≤ trimWithin cur trim ∧ trimWithin cur trim ≤ Config.fineSteps := by
  simp only [trimWithin]
  split <;> omega

/-- At the ceiling code the cycle is not shortened (02 R47). -/
theorem trimWithin_ceiling {cur : Nat} (h : 304 ≤ cur) (trim : Int) : trimWithin cur trim ≤ 0 := by
  simp only [trimWithin, ceilingCode, Nat.not_lt.mpr h, if_false]
  omega

theorem trimWithin_of_mem {cur : Nat} (h : cur < 304) {trim : Int} (hlo : -(Config.fineSteps : Int) ≤ trim)
    (hhi : trim ≤ Config.fineSteps) : trimWithin cur trim = trim := by
  simp only [trimWithin, ceilingCode, h, if_true]
  omega

/-- The trim a window asks for: one fine step toward the current code, or none. -/
def trimAsked (slow : Option Bool) (trim : Int) : Int :=
  match slow with
  | none => trim
  | some true => trim + 1
  | some false => trim - 1

theorem opTrackingWindow_eq {i : Nat} {d : Dev} (ho : (islOfDev d i).oscOn = true) (slow : Option Bool) :
    opTrackingWindow i slow d = if (islOfDev d i).window + 1024 ≤ d.whl.now then
      modIsl i (fun x => { x with
        window := d.whl.now - (d.whl.now - (islOfDev d i).window) % 1024
        trim := trimWithin (islOfDev d i).current (trimAsked slow (islOfDev d i).trim) }) d
    else d := by
  simp only [opTrackingWindow, ho, Bool.true_and, decide_eq_true_eq]
  rfl

theorem opSlewStep_eq {i : Nat} {d : Dev} (ho : (islOfDev d i).oscOn = true)
    (hr : slewReady d.whl.now (islOfDev d i) = true) :
    opSlewStep i d = modIsl i (fun x => { x with
      current := slewTo (islOfDev d i).current (effTarget d i)
      trim := trimWithin (slewTo (islOfDev d i).current (effTarget d i)) x.trim
      slewAt := d.whl.now }) d := by
  simp [opSlewStep, ho, hr]

theorem slewTo_of_gt {cur target : Nat} (h : target < cur) : slewTo cur target = max (cur - 4) target := by
  simp only [slewTo, Nat.not_lt.mpr (Nat.le_of_lt h), if_false]

theorem slewTo_of_lt {cur target : Nat} (h : cur < target) : slewTo cur target = min (cur + 4) target := by
  simp [slewTo, h]

@[simp] theorem slewTo_self (c : Nat) : slewTo c c = c := by simp [slewTo]

/-- A count that stays within 32 bits does not saturate (02 R53). -/
theorem satAdd_of_lt {n k : Nat} (h : n + k < 2 ^ 32) : satAdd n k = n + k := by
  unfold satAdd; omega

theorem mem_holdersOfIsland {d : Dev} {i t : Nat} :
    t ∈ holdersOfIsland d i ↔ t < 32 ∧ ∃ c < 16, recHasCluster (grantOf d t) (16 * i + c) = true := by
  simp [holdersOfIsland]

/-- A droop past its bound latches the island's flag and faults each tenancy that holds a cluster there (21 R731). -/
theorem opDroopExcess_latches {i : Nat} {d : Dev} (hd : (islOfDev d i).droop = false) :
    (islOfDev (opDroopExcess i d) i).droop = true ∧
      ∀ t < 32, (∃ c < 16, recHasCluster (grantOf d t) (16 * i + c) = true) → (tenOf d t).stopDue = false →
        (tenOf (opDroopExcess i d) t).fault = 0x09 ∧ (tenOf (opDroopExcess i d) t).stopDue = true := by
  have heq : opDroopExcess i d =
      faultAll (holdersOfIsland d i) fcDroop (raiseDev 8 (modIsl i (fun x => { x with droop := true }) d)) := by
    simp [opDroopExcess, hd]
  rw [heq]
  constructor
  · rw [islOfDev_congr (e := modIsl i (fun x => { x with droop := true }) d) (by simp)]
    simp
  · intro t ht hc hs
    refine faultAll_first _ fcDroop _ t (mem_holdersOfIsland.mpr ⟨ht, hc⟩) ?_
    rwa [tenOf_congr (e := d) (by simp)]

/-! ## Registers of an island (23 R773, Table REG-12) -/

theorem opSetpointWrite_applied {i : Nat} {v : W32} {d : Dev} (hv : v.toNat % 512 ≥ 192) (hm : islandMin d i ≤ v.toNat % 512) :
    opSetpointWrite 0 i v d = modIsl i (fun x => { x with
      setpoint := min (v.toNat % 512) 304
      refused := x.refused && !bit v.toNat 15 }) d := by
  simp [opSetpointWrite, ceilingCode, Nat.not_lt.mpr hv, Nat.not_lt.mpr hm]

theorem opSetpointWrite_refused {i : Nat} {v : W32} {d : Dev} (hv : v.toNat % 512 ≥ 192) (hm : v.toNat % 512 < islandMin d i) :
    opSetpointWrite 0 i v d = modIsl i (fun x => { x with refused := true }) d := by
  simp [opSetpointWrite, Nat.not_lt.mpr hv, hm]

theorem booted_congr {d e : Dev} (h : d.boot = e.boot) : booted d = booted e := by simp [booted, h]

/-- The register of an island's setpoint reads the setpoint, with its refusal in bit 15. -/
theorem readReg_setpoint {i : Nat} (hi : i < 32) {d : Dev} (hb : booted d = true) :
    readReg 0 false (0x50000 + 4 * i) d = (islOfDev d i).setpoint + b2n (islOfDev d i).refused * 32768 := by
  have hidx : 4 * i % 0x80 / 4 = i := by omega
  have hoff : 4 * i < 0x80 := by omega
  simp only [readReg, hb]
  rw [if_neg (by omega), if_neg (by omega), if_neg (by omega), if_neg (by simp), if_neg (by omega), if_neg (by omega),
    if_neg (by omega), if_neg (by omega), if_neg (by omega), if_neg (by omega), if_pos (by omega)]
  simp [readThermal, hidx, hoff]

theorem readReg_setpoint_code {i : Nat} (hi : i < 32) {d : Dev} (hb : booted d = true) (hs : (islOfDev d i).setpoint < 512) :
    readReg 0 false (0x50000 + 4 * i) d % 512 = (islOfDev d i).setpoint := by
  rw [readReg_setpoint hi hb]
  omega

theorem bit_toNat {w : Nat} (x : BitVec w) (i : Nat) : bit x.toNat i = x.getLsbD i := by
  rw [bit, BitVec.getLsbD, Nat.testBit_eq_decide_div_mod_eq, Nat.shiftRight_eq_div_pow]
  rfl

/-- Clearing the droop flags of some islands: those are clear afterwards. -/
theorem islOfDev_clearDroop {p : Nat → Bool} {i : Nat} (hp : p i = true) (l : List Nat) (d : Dev)
    (h : i ∈ l ∨ (islOfDev d i).droop = false) :
    (islOfDev (l.foldl (fun a k => if p k then modIsl k (fun x => { x with droop := false }) a else a) d) i).droop = false := by
  induction l generalizing d with
  | nil => simpa using h
  | cons k l ih =>
    refine ih _ ?_
    by_cases e : i = k
    · subst e
      simp [hp]
    · refine h.imp (by simp [e]) fun hd => ?_
      by_cases hk : p k <;> simp [hk, e, hd]

theorem opDroopFlagClear_clears {i : Nat} (hi : i < 32) {mask present : W32} (hm : mask.getLsbD i = true)
    (hp : present.getLsbD i = false) (d : Dev) : (islOfDev (opDroopFlagClear 0 mask present d) i).droop = false := by
  rw [opDroopFlagClear, if_neg (by simp)]
  exact islOfDev_clearDroop (p := fun k => bit mask.toNat k && !bit present.toNat k) (by simp [bit_toNat, hm, hp]) _ d
    (.inl (List.mem_range.mpr hi))

/-! ## The island's clock, setpoint and droop -/

theorem answers_islandOscStart {d : Dev} (hl : d.boot.lost = false) {i : Fin 32} (hs : (islOfDev d i).supplyOn = true)
    (hg : (islOfDev d i).supplyGood = true) (ho : (islOfDev d i).oscOn = false) (hr : d.whl.running = true)
    (hh : d.boot.state ≠ .halted) : Answers (.islandOscStart i) d fun e =>
      if (islOfDev d i).goodAt + 1024 ≤ d.whl.now then
        (islOfDev e i).oscOn = true ∧ (islOfDev e i).current = 192 ∧ (islOfDev e i).trim = 0
      else e = d := by
  refine answers_onDev hl (fun _ => rfl) ?_
  rw [opIslandOscStart_eq hs hg ho hr hh]
  split <;> simp

/-- A window that has ended starts the next one at its end, and moves the trim by what it asks for, within its bounds (02 R49, R47). -/
theorem answers_trackingWindow {d : Dev} (hl : d.boot.lost = false) {i : Fin 32} (ho : (islOfDev d i).oscOn = true)
    (slow : Option Bool) : Answers (.trackingWindow i slow) d fun e =>
      if (islOfDev d i).window + 1024 ≤ d.whl.now then
        (islOfDev e i).current = (islOfDev d i).current ∧ d.whl.now < (islOfDev e i).window + 1024 ∧
          -(Config.fineSteps : Int) ≤ (islOfDev e i).trim ∧ (islOfDev e i).trim ≤ Config.fineSteps ∧
          (304 ≤ (islOfDev d i).current → (islOfDev e i).trim ≤ 0) ∧
          ((islOfDev d i).current < 304 → slow = some true → -(Config.fineSteps : Int) ≤ (islOfDev d i).trim →
            (islOfDev d i).trim < Config.fineSteps → (islOfDev e i).trim = (islOfDev d i).trim + 1)
      else e = d := by
  refine answers_onDev hl (fun _ => rfl) ?_
  rw [opTrackingWindow_eq ho]
  split
  case isFalse => rfl
  case isTrue =>
    simp only [islOfDev_modIsl_same]
    obtain ⟨hlo, hhi⟩ := trimWithin_bounds (islOfDev d i).current (trimAsked slow (islOfDev d i).trim)
    refine ⟨trivial, by omega, hlo, hhi, fun hc => trimWithin_ceiling hc _, ?_⟩
    rintro hc rfl hlo' hhi'
    exact trimWithin_of_mem hc (by simp only [trimAsked]; omega) (by simp only [trimAsked]; omega)

theorem answers_slewStep {d : Dev} (hl : d.boot.lost = false) {i : Fin 32} (ho : (islOfDev d i).oscOn = true)
    (hr : slewReady d.whl.now (islOfDev d i) = true) : Answers (.slewStep i) d fun e =>
      (304 ≤ (islOfDev e i).current → (islOfDev e i).trim ≤ 0) ∧
      (effTarget d i < (islOfDev d i).current → (islOfDev e i).current = max ((islOfDev d i).current - 4) (effTarget d i)) ∧
      ((islOfDev d i).current < effTarget d i → (islOfDev e i).current = min ((islOfDev d i).current + 4) (effTarget d i)) ∧
      ((islOfDev d i).current = effTarget d i → (islOfDev e i).current = effTarget d i) := by
  refine answers_onDev hl (fun _ => rfl) ?_
  rw [opSlewStep_eq ho hr]
  simp only [islOfDev_modIsl_same]
  exact ⟨fun hc => trimWithin_ceiling hc _, slewTo_of_gt, slewTo_of_lt, fun h => h ▸ slewTo_self _⟩

theorem answers_setpointWrite_applied {d : Dev} (hl : d.boot.lost = false) {i : Fin 32} {v : W32} (hh : hostOpen d 0 = true)
    (hv : v.toNat % 512 ≥ 192) (hm : islandMin d i ≤ v.toNat % 512) : Answers (.setpointWrite 0 i v) d fun e =>
      (islOfDev e i).setpoint = min (v.toNat % 512) 304 ∧
        (booted d = true → readReg 0 false (0x50000 + 4 * i) e % 512 = min (v.toNat % 512) 304) := by
  refine answers_onHost hl hh (fun _ => rfl) ?_
  have hset : (islOfDev (opSetpointWrite 0 i v d) i).setpoint = min (v.toNat % 512) 304 := by
    simp [opSetpointWrite_applied hv hm]
  have hboot : (opSetpointWrite 0 i v d).boot = d.boot := by simp [opSetpointWrite_applied hv hm]
  refine ⟨hset, fun hb => ?_⟩
  rw [← hset]
  exact readReg_setpoint_code i.isLt ((booted_congr hboot).trans hb) (Nat.lt_of_le_of_lt (Nat.le_of_eq hset) (by omega))

/-- Settles O12, one operation of an island at a time. -/
theorem islandClocks : Obligations.IslandClocks := by
  intro d hl i
  refine ⟨fun hs => answers_onDev hl (fun _ => rfl) (opIslandSupplyGood_good hs),
    fun hs hg ho hr hh => answers_islandOscStart hl hs hg ho hr hh,
    fun slow ho => answers_trackingWindow hl ho slow,
    fun ho hr => answers_slewStep hl ho hr,
    fun n hn => answers_onDev hl (fun _ => rfl) ?stretch,
    fun hd => answers_onDev hl (fun _ => rfl) (opDroopExcess_latches hd),
    fun v hh hv hm => answers_setpointWrite_applied hl hh hv hm,
    fun v hh hv hm => answers_onHost hl hh (fun _ => rfl) ?refused,
    fun mask present hh hm hp => answers_onHost hl hh (fun _ => rfl) (opDroopFlagClear_clears i.isLt hm hp d)⟩
  case stretch => simp [opDroopStretch, satAdd_of_lt hn]
  case refused => simp [opSetpointWrite_refused hv hm]

end Sys2Proof.Machine
end

section
/-!
The statements of 03_wheel_and_count.md: the wheel and its phases (R75 to R97), slips (R113 to R116), and the commands that launch,
halt, suspend and resume at a count (R118, R119; 14 R482; 15 R527 to R530).
-/
namespace Sys2Proof.Machine

/-! ## What a command of a clocked domain answers -/

theorem answers_onFabric {c : Instr} {d : Dev} {f : Dev → Dev} {P : Dev → Prop} (hu : FabricUp d)
    (hc : ∀ s, exec c s = onFabric s f) (hP : P (f d)) : Answers c d P :=
  fun q => ⟨f d, (hc _).trans (onFabric_eq (s := ⟨q, d⟩) hu.1 hu.2 f), hP⟩

theorem answers_onControl {c : Instr} {d : Dev} {f : Dev → Dev} {P : Dev → Prop} (hu : ControlUp d)
    (hc : ∀ s, exec c s = onControl s f) (hP : P (f d)) : Answers c d P :=
  fun q => ⟨f d, (hc _).trans (onControl_eq (s := ⟨q, d⟩) hu.1 hu.2 f), hP⟩

theorem Answers.mono {c : Instr} {d : Dev} {P Q : Dev → Prop} (h : Answers c d P) (hPQ : ∀ e, P e → Q e) : Answers c d Q := by
  intro q
  obtain ⟨e, he, hP⟩ := h q
  exact ⟨e, he, hPQ e hP⟩

/-! ## Phases and the count (R79, R85) -/

/-- A wheel whose length is a positive multiple of 64 has 64 phases of equal length, in order. -/
theorem phaseOf_eq_iff {w : Wheel} (hpos : 64 ≤ w.w) (hdvd : 64 ∣ w.w) (k p : Nat) :
    phaseOf w k = p ↔ p * w.w / 64 ≤ k ∧ k ≤ (p + 1) * w.w / 64 - 1 := by
  rw [phaseOf, Nat.div_eq_iff (by omega), Nat.mul_div_assoc _ hdvd, Nat.mul_div_assoc _ hdvd, Nat.succ_mul]

theorem gcOf_counted {w : Wheel} (hslip : w.slip = false) {k : Nat} (hk : k < w.w) :
    gcOf { w with now := w.start + k } = w.n * w.w + k := by
  simp [gcOf, inGuard, tickAt, hslip, Nat.not_le.mpr hk]

/-! ## Tick 0 of a wheel -/

@[simp] theorem turn_boundary (slip : Bool) (n g : Nat) (d : Dev) :
    (turn slip n g d).whl.n = n ∧ (turn slip n g d).whl.start = d.whl.start + d.whl.w + g ∧ (turn slip n g d).whl.slip = slip ∧
      (turn slip n g d).whl.phase = 0 ∧ (turn slip n g d).whl.guardNext = none ∧
      (turn slip n g d).span = spanWheelStart d.whl n d.span := by
  unfold turn; dsimp only; split <;> simp

theorem opWheelStart_counted {d : Dev} (hr : d.whl.running = true) (hs : d.whl.slip = false) (hd : slipDue d = false)
    (hf : formDue d = false) : opWheelStart d = turn false (d.whl.n + 1) (d.whl.guardNext.getD d.whl.g) d := by
  simp [opWheelStart, hr, hs, hd, hf]

/-! ## The start of a phase -/

theorem opPhaseStart_whl {p : Nat} {d : Dev} (hr : d.whl.running = true) (hp : d.whl.phase = p) :
    (opPhaseStart p d).whl = { d.whl with phase := p + 1, now := max d.whl.now (d.whl.start + p * (d.whl.w / 64)) } := by
  simp only [opPhaseStart, hr, hp, beq_self_eq_true, Bool.true_and, if_true]
  split <;> simp [hr]

/-- The shelf accesses that PHASE_63 lets through leave the wheel alone. -/
@[simp] theorem opPhaseBegin_whl (p : Nat) (d : Dev) : (opPhaseBegin p d).whl = (opPhaseStart p d).whl := by
  unfold opPhaseBegin; dsimp only; split <;> simp

/-! ## The guard (R95) -/

theorem sinkStart_of_ne_sink {d : Dev} (h : d.whl.syncMode ≠ .sink) : sinkStart d = none := by
  simp [sinkStart, h]

/-- A member that follows no master, and no pulse, aligns to nothing. -/
theorem alignTo_master {d : Dev} (hm : d.whl.syncMode ≠ .sink) (hf : follower d.span = false) : alignTo d = none := by
  simp [alignTo, sinkStart_of_ne_sink hm, hf]

/-- A follower in a LOCKED span aligns to the wheel start that the markers predict. -/
theorem alignTo_follower {d : Dev} (hm : d.whl.syncMode ≠ .sink) (hs : d.whl.slip = false) (hf : follower d.span = true)
    (hl : d.span.state = .locked) {p : Nat} (hp : d.span.predict16 = some p) : alignTo d = some (p : Int) := by
  simp [alignTo, sinkStart_of_ne_sink hm, hf, hs, hl, hp]

theorem opGuardApplied_unaligned {d : Dev} (hr : d.whl.running = true) (hg : d.whl.guardNext = none) (ha : alignTo d = none) :
    (opGuardApplied d).whl.guardNext = some d.whl.g := by
  simp [opGuardApplied, hr, hg, ha]

theorem opGuardApplied_aligned {d : Dev} (hr : d.whl.running = true) (hg : d.whl.guardNext = none) {p : Int}
    (ha : alignTo d = some p) :
    (opGuardApplied d).whl.guardNext = some ((d.whl.g : Int) + max (-8) (min 8 (correction d.whl p))).toNat := by
  simp [opGuardApplied, hr, hg, ha]

/-- Settles O13: the phases by arithmetic, then each event of the wheel by its own rule. -/
theorem wheelTurns : Obligations.WheelTurns := by
  refine ⟨fun w p k hw hdvd _ _ => phaseOf_eq_iff hw (Nat.dvd_of_mod_eq_zero hdvd) k p,
    fun w k hs hk => gcOf_counted hs hk, fun d hu hr => ⟨?start, ?phase, ?master, ?follower⟩⟩
  case start =>
    intro hs hd hf
    refine answers_onFabric hu (fun _ => rfl) ?_
    rw [opWheelStart_counted hr hs hd hf]
    simp
  case phase =>
    intro p hp
    refine answers_onFabric hu (fun _ => rfl) ?_
    rw [opPhaseBegin_whl, opPhaseStart_whl hr hp]
    exact ⟨rfl, rfl, rfl⟩
  case master =>
    intro hg hm hf
    exact answers_onFabric hu (fun _ => rfl) (opGuardApplied_unaligned hr hg (alignTo_master hm hf))
  case follower =>
    intro p hg hm hs hf hl hp
    exact answers_onFabric hu (fun _ => rfl) (opGuardApplied_aligned hr hg (alignTo_follower hm hs hf hl hp))

/-! ## Slips (R113 to R116) -/

@[simp] theorem spanWheelStart_slipsTotal (w : Wheel) (n : Nat) (s : Span) : (spanWheelStart w n s).slipsTotal = s.slipsTotal := by
  simp [spanWheelStart, startForming, apply_ite Span.slipsTotal]

/-- A wheel boundary leaves the state of a span that no SPAN_JOIN is about to form (R103). -/
theorem spanWheelStart_state (w : Wheel) (n : Nat) {s : Span} (h : s.toForm = false) : (spanWheelStart w n s).state = s.state := by
  simp [spanWheelStart, startForming, h, apply_ite Span.state]

/-- Changing each tenancy of a list once. -/
theorem tenOf_foldl_modTen (f : Tenancy → Tenancy) {l : List Nat} (hl : l.Nodup) (d : Dev) (k : Nat) :
    tenOf (l.foldl (fun a t => modTen t f a) d) k = if k ∈ l then f (tenOf d k) else tenOf d k := by
  induction l generalizing d with
  | nil => simp
  | cons t l ih =>
    obtain ⟨ht, hl⟩ := List.nodup_cons.mp hl
    rw [List.foldl_cons, ih hl]
    by_cases e : k = t
    · subst e; simp [ht]
    · simp [e]

theorem mem_spanTenancies {d : Dev} {t : Nat} : t ∈ spanTenancies d ↔ t < 32 ∧ usesSpan (tenOf d t) = true := by
  simp [spanTenancies]

theorem spanTenancies_nodup (d : Dev) : (spanTenancies d).Nodup := List.nodup_range.filter _

/-- What a slip adds to a tenancy that uses the span. -/
def countSlip (x : Tenancy) : Tenancy := { x with slips := x.slips + 1 }

/-- What a slip after the counted wheel at a count leaves in the SPAN block. -/
def slipSpan (at_ : Nat) (s : Span) : Span :=
  { s with
    state := if s.state = .locked then .slipping else s.state
    slipAt := s.slipAt.filter (fun x => x != at_), slipPast := at_ :: s.slipPast
    slipsWindow := satInc s.slipsWindow, slipsTotal := satInc s.slipsTotal }

theorem opSlipInsert_eq {d : Dev} (hr : d.whl.running = true) (hs : d.whl.slip = false) (hd : slipDue d = true) :
    opSlipInsert d = raiseDev 1 ((spanTenancies d).foldl (fun a t => modTen t countSlip a)
      (modSpan (slipSpan (d.whl.n * d.whl.w)) (turn true d.whl.n (d.whl.guardNext.getD d.whl.g) d))) := by
  rw [opSlipInsert, if_pos (by simp [hr, hs, hd])]
  rfl

/-- Each tenancy that uses the span counts the slip, once. -/
theorem opSlipInsert_slips {d : Dev} (hr : d.whl.running = true) (hs : d.whl.slip = false) (hd : slipDue d = true) {t : Nat}
    (ht : t < 32) :
    (tenOf (opSlipInsert d) t).slips = (tenOf d t).slips + (if usesSpan (tenOf d t) = true then 1 else 0) := by
  rw [opSlipInsert_eq hr hs hd, tenOf_congr (raiseDev_ten _ _), tenOf_foldl_modTen _ (spanTenancies_nodup d),
    tenOf_congr (e := d) (by simp)]
  simp only [mem_spanTenancies, ht, true_and]
  split <;> rfl

theorem opSlippedWheelEnd_eq {d : Dev} (hr : d.whl.running = true) (hs : d.whl.slip = true) :
    opSlippedWheelEnd d = raiseDev 1 (modSpan (fun s => { s with state := if s.state = .slipping then .locked else s.state })
      (turn false (d.whl.n + 1) (d.whl.guardNext.getD d.whl.g) d)) := by
  simp [opSlippedWheelEnd, hr, hs]

theorem opSlipLimit_later {d : Dev} {x : Nat} (hx : d.span.limitAt = some x) (hlt : x < d.whl.n * d.whl.w) :
    opSlipLimit d = faultAll (spanTenancies d) fcSlipLimit (modSpan (fun s => { s with limitAt := none }) d) := by
  simp [opSlipLimit, hx, hlt, Nat.le_of_lt hlt]

/-- Settles O14: the slip's effect on the span and on each tenancy that uses it, its end, and the limit (R116). -/
theorem slips : Obligations.Slips := by
  refine fun d hu => ⟨?insert, ?wheelEnd, ?limit⟩
  case insert =>
    intro hr hs hd
    refine answers_onFabric hu (fun _ => rfl) ?_
    refine ⟨?_, ?_, ?_, ?_, ?_, fun t ht => opSlipInsert_slips hr hs hd ht⟩ <;>
      simp [opSlipInsert_eq hr hs hd, slipSpan]
  case wheelEnd =>
    intro hr hs
    refine answers_onFabric hu (fun _ => rfl) ?_
    rw [opSlippedWheelEnd_eq hr hs]
    refine ⟨by simp, by simp, fun hst hf => ?_⟩
    simp [spanWheelStart_state _ _ hf, hst]
  case limit =>
    intro x hx hlt
    refine answers_onFabric hu (fun _ => rfl) ?_
    rw [opSlipLimit_later hx hlt]
    refine ⟨by simp, fun t ht huse hstop => ?_⟩
    exact faultAll_first _ fcSlipLimit _ t (mem_spanTenancies.mpr ⟨ht, huse⟩) hstop

/-! ## The next command of a ring -/

theorem mem_of_nextCmd {d : Dev} {r op : Nat} {c : Cmd} (h : nextCmd d r op = some c) : c ∈ d.host.cmds := by
  unfold nextCmd at h
  split at h
  · exact List.mem_of_find?_eq_some h
  · cases h

@[simp] theorem tookTurn_cmds (r : Nat) (d : Dev) : (tookTurn r d).host.cmds = d.host.cmds := by
  unfold tookTurn; dsimp only; split <;> simp

@[simp] theorem tookTurn_rings (r : Nat) (d : Dev) : (tookTurn r d).host.rings = d.host.rings := by
  unfold tookTurn; dsimp only; split <;> simp

@[simp] theorem tenOf_tookTurn (r : Nat) (d : Dev) (t : Nat) : tenOf (tookTurn r d) t = tenOf d t := tenOf_congr (by simp) t

@[simp] theorem grantOf_tookTurn (r : Nat) (d : Dev) (t : Nat) : grantOf (tookTurn r d) t = grantOf d t := grantOf_congr (by simp) t

@[simp] theorem cmdTen_tookTurn (r : Nat) (d : Dev) (c : Cmd) : cmdTen (tookTurn r d) c = cmdTen d c := by
  simp [cmdTen, ringOf]

@[simp] theorem bufferOpen_tookTurn (r : Nat) (d : Dev) (t : Nat) : bufferOpen (tookTurn r d) t = bufferOpen d t := by
  simp [bufferOpen]

@[simp] theorem spanRuns_tookTurn (r : Nat) (d : Dev) (im : Loaded) : spanRuns (tookTurn r d) im = spanRuns d im := by
  simp [spanRuns]

@[simp] theorem boundaryAt_tookTurn (r : Nat) (d : Dev) (x : Nat) : boundaryAt (tookTurn r d) x = boundaryAt d x := by
  simp [boundaryAt]

theorem runCmd_next {d : Dev} {r op : Nat} {c : Cmd} (h : nextCmd d r op = some c) (hop : isLong op = false)
    (body : Cmd → Dev → Dev) : runCmd r op body d = body c (tookTurn r d) := by
  simp [runCmd, h, hop]

/-- A tenancy's command passes the checks on its issuer and its grant (15 R510, R511). -/
theorem runTen_next {d : Dev} {r op t : Nat} {c : Cmd} (h : NextFor d r op t c) (hop : isLong op = false)
    (body : Nat → Cmd → Dev → Dev) : runTen r op body d = body t c (tookTurn r d) := by
  obtain ⟨hnext, hten, hlt, hclass⟩ := h
  rw [runTen, runCmd_next hnext hop]
  simp [hten, Nat.not_le.mpr hlt, hclass]

theorem armed_armCmd {d : Dev} {c : Cmd} (h : c ∈ d.host.cmds) (count aux : Nat) :
    Armed (armCmd c.id count aux d) c.id count :=
  ⟨{ c with stage := .armed, count := count, aux := aux },
    List.mem_map.mpr ⟨c, h, by simp⟩, rfl, rfl, rfl⟩

@[simp] theorem tenOf_armCmd (id count aux : Nat) (d : Dev) (t : Nat) : tenOf (armCmd id count aux d) t = tenOf d t :=
  tenOf_congr (by simp) t

theorem settledWith_finish {d : Dev} {c : Cmd} (h : c ∈ d.host.cmds) (st r0 r1 : Nat) :
    SettledWith (finish c.id st r0 r1 d) c.id st r0 r1 :=
  ⟨{ c with stage := .done, status := st, res0 := r0, res1 := r1 },
    List.mem_map.mpr ⟨c, h, by simp⟩, rfl, rfl, rfl, rfl, rfl⟩

/-! ## Launches (15 R527, R528) -/

/-- A tenancy with an image passes the checks of a launch that do not read its count. -/
structure LaunchReady (d : Dev) (t : Nat) (im : Loaded) : Prop where
  loaded : (tenOf d t).st = .loaded
  image : (tenOf d t).image = some im
  noBuffer : bufferOpen d t = false
  noLoad : (tenOf d t).loading = none
  noReplay : (tenOf d t).replay = none
  spanRuns : spanRuns d im = true

theorem opLaunchAt_ready {d : Dev} {r t : Nat} {c : Cmd} {im : Loaded} (h : NextFor d r 0x300 t c) (hl : LaunchReady d t im) :
    opLaunchAt r d =
      if pkField c.pkt 16 8 % d.whl.w ≠ 0 then finish c.id sBadParam 0 0 (tookTurn r d)
      else if pkField c.pkt 16 8 < gcOf d.whl + 2 * d.whl.w then finish c.id sLate 0 0 (tookTurn r d)
      else launchBody t (pkField c.pkt 16 8) c im (tookTurn r d) := by
  rw [opLaunchAt, runTen_next h rfl]
  simp [hl.loaded, hl.image, hl.noBuffer, hl.noLoad, hl.noReplay, hl.spanRuns, loadRuns, replayOpen]

theorem opLaunchNext_ready {d : Dev} {r t : Nat} {c : Cmd} {im : Loaded} (h : NextFor d r 0x301 t c) (hl : LaunchReady d t im)
    (hb : im.bound = []) :
    opLaunchNext r d = launchBody t (smallestLaunch d.whl.w (gcOf d.whl)) c im (tookTurn r d) := by
  rw [opLaunchNext, runTen_next h rfl]
  simp [hl.loaded, hl.image, hl.noBuffer, hl.noLoad, hl.noReplay, hl.spanRuns, hb, loadRuns, replayOpen]

theorem launchBody_unrecorded {d : Dev} {t n k : Nat} {ws : List Nat} {c : Cmd} {im : Loaded}
    (hrec : recording (tenOf d t) c.pkt = false) (hsel : selectBucket (tenOf d t) im c.pkt = .ok (k, ws)) :
    launchBody t n c im d = armCmd c.id n k (postLaunch t n k ws c.id false false d) := by
  simp [launchBody, hrec, hsel]

/-- A launch that is posted: the tenancy is ARMED with its program, and the command waits for the count. -/
theorem launchBody_posts {d : Dev} {t n k : Nat} {ws : List Nat} {c : Cmd} {im : Loaded} (hc : c ∈ d.host.cmds)
    (him : (tenOf d t).image = some im) (hrec : recording (tenOf d t) c.pkt = false)
    (hsel : selectBucket (tenOf d t) im c.pkt = .ok (k, ws)) :
    (tenOf (launchBody t n c im d) t).st = .armed ∧ Armed (launchBody t n c im d) c.id n ∧
      ∃ p, (tenOf (launchBody t n c im d) t).program = some p ∧ p.launch = n ∧ p.completion = n + im.ticks ∧ p.bucket = k ∧
        p.words = ws := by
  rw [launchBody_unrecorded hrec hsel, tenOf_armCmd]
  exact ⟨by simp [postLaunch], armed_armCmd (by simpa using hc) n k, by simp [postLaunch, imageTicks, him]⟩

/-! ## Halts, suspensions and resumptions (15 R529, R530; 14 R482, R501 to R504) -/

theorem opHaltAt_live {d : Dev} {r t : Nat} {c : Cmd} (h : NextFor d r 0x302 t c) (hrec : recording (tenOf d t) c.pkt = false)
    (hlive : isLive (tenOf d t).st = true) (hn : pkField c.pkt 16 8 % d.whl.w = 0) :
    opHaltAt r d = armCmd c.id (boundaryAt d (pkField c.pkt 16 8)) (launchOf (tenOf d t)) (tookTurn r d) := by
  rw [opHaltAt, runTen_next h rfl]
  simp [hrec, hlive, hn]

theorem opSuspend_running {d : Dev} {r t : Nat} {c : Cmd} (h : NextFor d r 0x303 t c) (hclass : recClass (grantOf d t) = 3)
    (hlink : bindsLink (tenOf d t) = false) (hst : (tenOf d t).st = .running) (hn : pkField c.pkt 16 8 % d.whl.w = 0) :
    opSuspend r d = armCmd c.id (boundaryAt d (pkField c.pkt 16 8)) 0 (tookTurn r d) := by
  rw [opSuspend, runTen_next h rfl]
  simp [hclass, hlink, hst, hn]

theorem opSuspend_otherClass {d : Dev} {r t : Nat} {c : Cmd} (h : NextFor d r 0x303 t c) (hclass : recClass (grantOf d t) ≠ 3) :
    opSuspend r d = finish c.id sNotPermitted 0 0 (tookTurn r d) := by
  rw [opSuspend, runTen_next h rfl]
  simp [hclass]

theorem opResume_suspended {d : Dev} {r t s : Nat} {c : Cmd} (h : NextFor d r 0x304 t c) (hclass : recClass (grantOf d t) = 3)
    (hst : (tenOf d t).st = .suspended) (hs : (tenOf d t).suspendedAt = some s) (hb : bufferOpen d t = false) :
    opResume r d = armCmd c.id
      (resumeWheel s (boundaryAt d (ceilDiv (pkField c.pkt 16 8) d.whl.w * d.whl.w) / d.whl.w) * d.whl.w) 0 (tookTurn r d) := by
  rw [opResume, runTen_next h rfl]
  simp [hclass, hst, hs, hb]

theorem opResume_otherClass {d : Dev} {r t : Nat} {c : Cmd} (h : NextFor d r 0x304 t c) (hclass : recClass (grantOf d t) ≠ 3) :
    opResume r d = finish c.id sNotPermitted 0 0 (tookTurn r d) := by
  rw [opResume, runTen_next h rfl]
  simp only [grantOf_tookTurn]
  split
  next hthree _ _ => exact absurd hthree hclass
  next hthree _ => exact absurd hthree hclass
  next => rfl

/-! ## What these commands answer -/

/-- A command whose effect is to wait for a count. -/
theorem answers_armed {i : Instr} {d : Dev} {f : Dev → Dev} {r count aux : Nat} {c : Cmd} (hu : ControlUp d)
    (hi : ∀ s, exec i s = onControl s f) (hc : c ∈ d.host.cmds) (hf : f d = armCmd c.id count aux (tookTurn r d)) :
    Answers i d fun e => Armed e c.id count ∧ e.ten = d.ten := by
  refine answers_onControl hu hi ?_
  rw [hf]
  exact ⟨armed_armCmd (by simpa using hc) count aux, by simp⟩

/-- A command that is settled with a status and no result changes no tenancy. -/
theorem answers_settled {i : Instr} {d : Dev} {f : Dev → Dev} {r st : Nat} {c : Cmd} (hu : ControlUp d)
    (hi : ∀ s, exec i s = onControl s f) (hc : c ∈ d.host.cmds) (hf : f d = finish c.id st 0 0 (tookTurn r d)) :
    Answers i d fun e => SettledWith e c.id st 0 0 ∧ e.ten = d.ten := by
  refine answers_onControl hu hi ?_
  rw [hf]
  exact ⟨settledWith_finish (by simpa using hc) st 0 0, by simp⟩

theorem answers_launchAt_posted {d : Dev} {r : Fin 1024} {t k : Nat} {ws : List Nat} {c : Cmd} {im : Loaded} (hu : ControlUp d)
    (hn : NextFor d r 0x300 t c) (hl : LaunchReady d t im) (hrec : recording (tenOf d t) c.pkt = false)
    (hsel : selectBucket (tenOf d t) im c.pkt = .ok (k, ws)) (hw : pkField c.pkt 16 8 % d.whl.w = 0)
    (hgc : gcOf d.whl + 2 * d.whl.w ≤ pkField c.pkt 16 8) : Answers (.launchAt r) d fun e =>
      (tenOf e t).st = .armed ∧ Armed e c.id (pkField c.pkt 16 8) ∧ ∃ p, (tenOf e t).program = some p ∧
        p.launch = pkField c.pkt 16 8 ∧ p.completion = pkField c.pkt 16 8 + im.ticks ∧ p.bucket = k ∧ p.words = ws := by
  refine answers_onControl hu (fun _ => rfl) ?_
  rw [opLaunchAt_ready hn hl, if_neg (not_not_intro hw), if_neg (Nat.not_lt.mpr hgc)]
  exact launchBody_posts (by simpa using mem_of_nextCmd hn.1) (by simpa using hl.image) (by simpa using hrec) (by simpa using hsel)

theorem answers_launchNext_posted {d : Dev} {r : Fin 1024} {t k : Nat} {ws : List Nat} {c : Cmd} {im : Loaded} (hu : ControlUp d)
    (hn : NextFor d r 0x301 t c) (hl : LaunchReady d t im) (hb : im.bound = []) (hrec : recording (tenOf d t) c.pkt = false)
    (hsel : selectBucket (tenOf d t) im c.pkt = .ok (k, ws)) : Answers (.launchNext r) d fun e =>
      (tenOf e t).st = .armed ∧ ∃ p, (tenOf e t).program = some p ∧
        p.launch = ceilDiv (gcOf d.whl + 2 * d.whl.w) d.whl.w * d.whl.w ∧ p.bucket = k ∧ p.words = ws := by
  refine answers_onControl hu (fun _ => rfl) ?_
  rw [opLaunchNext_ready hn hl hb]
  obtain ⟨hst, -, p, hp, hlaunch, -, hk, hws⟩ := launchBody_posts (d := tookTurn r d)
    (n := smallestLaunch d.whl.w (gcOf d.whl)) (by simpa using mem_of_nextCmd hn.1) (by simpa using hl.image)
    (by simpa using hrec) (by simpa using hsel)
  exact ⟨hst, p, hp, hlaunch, hk, hws⟩

/-- Settles O55, one command and one verdict at a time. -/
theorem launchCommands : Obligations.LaunchCommands := by
  intro d r c t hu hrec
  refine ⟨fun im k ws hst him hbuf hload hrep hspan hsel => ?launch, ?halt, ?suspend, ?suspendRefused, ?resumeRefused, ?resume⟩
  case launch =>
    have hl : LaunchReady d t im := ⟨hst, him, hbuf, hload, hrep, hspan⟩
    refine ⟨fun hn hw hgc => answers_launchAt_posted hu hn hl hrec hsel hw hgc,
      fun hn hb => answers_launchNext_posted hu hn hl hb hrec hsel, fun hn hw hgc => ?late, fun hn hw => ?badParam⟩
    case late =>
      refine (answers_settled (r := r) hu (fun _ => rfl) (mem_of_nextCmd hn.1) ?_).mono fun e => And.symm
      rw [opLaunchAt_ready hn hl, if_neg (not_not_intro hw), if_pos hgc]
      rfl
    case badParam =>
      refine (answers_settled (r := r) hu (fun _ => rfl) (mem_of_nextCmd hn.1) ?_).mono fun e => And.symm
      rw [opLaunchAt_ready hn hl, if_pos hw]
      rfl
  case halt =>
    exact fun hn hlive hw => answers_armed hu (fun _ => rfl) (mem_of_nextCmd hn.1) (opHaltAt_live hn hrec hlive hw)
  case suspend =>
    exact fun hn hclass hlink hst hw =>
      answers_armed hu (fun _ => rfl) (mem_of_nextCmd hn.1) (opSuspend_running hn hclass hlink hst hw)
  case suspendRefused =>
    exact fun hn hclass => answers_settled hu (fun _ => rfl) (mem_of_nextCmd hn.1) (opSuspend_otherClass hn hclass)
  case resumeRefused =>
    exact fun hn hclass => answers_settled hu (fun _ => rfl) (mem_of_nextCmd hn.1) (opResume_otherClass hn hclass)
  case resume =>
    exact fun s hn hclass hst hs hb =>
      (answers_armed hu (fun _ => rfl) (mem_of_nextCmd hn.1) (opResume_suspended hn hclass hst hs hb)).mono fun e => And.symm

end Sys2Proof.Machine
end

section
/-!
The statements of 04_fabric_on_die.md: the sideband check code of flits (R131), its syndromes and the correction of single errors (R132).
-/
namespace Sys2Proof.Machine

/-! ## Exclusive OR of a run of bits -/

/-- Exclusive OR of bits 0 to n - 1. -/
def xorBits (p : Nat → Bool) (n : Nat) : Bool := (List.range n).foldl (fun a i => a ^^ p i) false

@[simp] theorem xorBits_zero (p : Nat → Bool) : xorBits p 0 = false := (rfl)

theorem xorBits_succ (p : Nat → Bool) (n : Nat) : xorBits p (n + 1) = (xorBits p n ^^ p n) := by
  simp [xorBits, List.range_succ]

theorem xorBits_congr {p q : Nat → Bool} {n : Nat} (h : ∀ i < n, p i = q i) : xorBits p n = xorBits q n := by
  induction n with
  | zero => rfl
  | succ n ih => rw [xorBits_succ, xorBits_succ, h n (by omega), ih fun i hi => h i (by omega)]

theorem xorBits_xor (p q : Nat → Bool) (n : Nat) : xorBits (fun i => p i ^^ q i) n = (xorBits p n ^^ xorBits q n) := by
  induction n with
  | zero => rfl
  | succ n ih => simp only [xorBits_succ, ih, Bool.xor_assoc, Bool.xor_left_comm]

theorem xorBits_add (p : Nat → Bool) (m n : Nat) : xorBits p (m + n) = (xorBits p m ^^ xorBits (fun i => p (m + i)) n) := by
  induction n with
  | zero => simp
  | succ n ih => rw [← Nat.add_assoc, xorBits_succ, ih, xorBits_succ, Bool.xor_assoc]

@[simp] theorem xorBits_false (n : Nat) : xorBits (fun _ => false) n = false := by
  induction n with
  | zero => rfl
  | succ n ih => rw [xorBits_succ, ih, Bool.xor_false]

/-- Bits that are clear may be left out at the end. -/
theorem xorBits_of_clear {p : Nat → Bool} {m : Nat} (h : ∀ i, m ≤ i → p i = false) (n : Nat) : xorBits p (m + n) = xorBits p m := by
  rw [xorBits_add, xorBits_congr (q := fun _ => false) fun i _ => h (m + i) (by omega), xorBits_false, Bool.xor_false]

theorem xorBits_single (p : Nat → Bool) (i n : Nat) : xorBits (fun j => p j && decide (i = j)) n = (decide (i < n) && p i) := by
  induction n with
  | zero => simp
  | succ n ih =>
    rw [xorBits_succ, ih]
    rcases Nat.lt_trichotomy i n with h | rfl | h
    · simp [h, Nat.ne_of_lt h, Nat.lt_succ_of_lt h]
    · simp
    · simp [show ¬ i < n by omega, show ¬ i < n + 1 by omega, Nat.ne_of_gt h]

/-- One fold of `parity`: the upper of two halves onto the lower. -/
theorem xorBits_fold (n k : Nat) : xorBits (Nat.xor n (n >>> k)).testBit k = xorBits n.testBit (k + k) := by
  rw [xorBits_add, ← xorBits_xor]
  refine xorBits_congr fun i _ => ?_
  rw [← Nat.testBit_shiftRight]
  exact Nat.testBit_xor ..

theorem toNat_testBit_zero (b : Bool) : b.toNat.testBit 0 = b := by cases b <;> rfl

theorem parity_eq_xorBits (n : Nat) : parity n = (xorBits n.testBit 1024).toNat := by
  have low (m : Nat) : m % 2 = (xorBits m.testBit 1).toNat := by
    rw [xorBits_succ, xorBits_zero, Bool.false_xor, Nat.toNat_testBit, Nat.pow_zero, Nat.div_one]
  rw [parity, low, xorBits_fold _ 1, xorBits_fold _ 2, xorBits_fold _ 4, xorBits_fold _ 8, xorBits_fold _ 16, xorBits_fold _ 32,
    xorBits_fold _ 64, xorBits_fold _ 128, xorBits_fold _ 256, xorBits_fold _ 512]

/-! ## The values H(n) (04 R131) -/

theorem bit_eq_testBit (x i : Nat) : bit x i = x.testBit i := by
  rw [bit, Nat.testBit_eq_decide_div_mod_eq, Nat.shiftRight_eq_div_pow]
  rfl

theorem foldl_count (p : Nat → Bool) (l : List Nat) (c : Nat) :
    l.foldl (fun a i => a + if p i then 1 else 0) c = c + l.countP p := by
  induction l generalizing c with
  | nil => rfl
  | cons i l ih => rw [List.foldl_cons, ih, List.countP_cons, Nat.add_right_comm, Nat.add_assoc]

/-- Number of ones of a 14-bit value. -/
def ones14 (v : Nat) : Nat := (List.range 14).countP fun k => v.testBit k

theorem oddWeight_eq (v : Nat) : oddWeight v = decide (ones14 v % 2 = 1 ∧ 3 ≤ ones14 v) := by
  have h : (List.range 14).foldl (fun a i => a + if bit v i then 1 else 0) 0 = ones14 v := by
    rw [foldl_count, Nat.zero_add, funext (bit_eq_testBit v)]
    rfl
  simp only [oddWeight, h, Bool.decide_and]
  rfl

theorem le_length_oddWeight : 530 ≤ ((List.range 1100).filter oddWeight).length := by decide +kernel

theorem length_hList : hList.length = 530 := by
  rw [hList, List.length_take, Nat.min_eq_left le_length_oddWeight]

/-- The first 530 values below 1,100 are the first 530 of all 14-bit values. -/
theorem hList_eq_take_range : hList = ((List.range 16384).filter oddWeight).take 530 := by
  rw [show 16384 = 1100 + 15284 from rfl, List.range_add, List.filter_append, List.take_append_of_le_length le_length_oddWeight, hList]

theorem hList_nodup : hList.Nodup := (List.nodup_range.filter _).sublist (List.take_sublist ..)

theorem lt_and_oddWeight_of_mem_hList {v : Nat} (h : v ∈ hList) : v < 1100 ∧ oddWeight v = true := by
  simpa using List.mem_of_mem_take h

theorem getD_hList {n : Nat} (h : n < 530) : hList.getD n 0 = hList[n]'(length_hList ▸ h) :=
  (List.getElem_eq_getD 0).symm

theorem getD_mem_hList {n : Nat} (h : n < 530) : hList.getD n 0 ∈ hList :=
  getD_hList h ▸ List.getElem_mem _

theorem getD_hList_lt {n : Nat} (h : n < 530) : hList.getD n 0 < 2 ^ 14 :=
  Nat.lt_trans (lt_and_oddWeight_of_mem_hList (getD_mem_hList h)).1 (by decide)

theorem findIdx?_getD_hList {n : Nat} (h : n < 530) : hList.findIdx? (· == hList.getD n 0) = some n := by
  rw [List.findIdx?_eq_some_iff_getElem, getD_hList h]
  refine ⟨length_hList ▸ h, beq_self_eq_true _, fun j hj he => Nat.ne_of_lt hj ?_⟩
  exact (List.getElem_inj hList_nodup).mp (eq_of_beq he)

theorem ones14_two_pow_le (k : Nat) : ones14 (2 ^ k) ≤ 1 :=
  calc ones14 (2 ^ k) = (List.range 14).count k := by
        have hb : (2 ^ k).testBit = (· == k) := funext fun i => by rw [Nat.testBit_two_pow, Bool.eq_iff_iff, decide_eq_true_iff, beq_iff_eq, eq_comm]
        rw [ones14, hb]
        rfl
    _ ≤ 1 := List.nodup_iff_count.mp List.nodup_range k

theorem three_le_ones14_of_mem_hList {v : Nat} (h : v ∈ hList) : 3 ≤ ones14 v := by
  have hw := (lt_and_oddWeight_of_mem_hList h).2
  rw [oddWeight_eq, decide_eq_true_iff] at hw
  exact hw.2

theorem two_pow_notMem_hList (k : Nat) : 2 ^ k ∉ hList := fun h =>
  absurd (three_le_ones14_of_mem_hList h) (by have := ones14_two_pow_le k; omega)

theorem zero_notMem_hList : 0 ∉ hList := fun h => absurd (three_le_ones14_of_mem_hList h) (by decide)

/-! ## The data bits of a flit (04 Table FAB-4) -/

theorem flitData_eq (f : Flit) : flitData f = 2 ^ 512 * (2 ^ 6 * (2 ^ 10 * (2 ^ 1 * f.poison.toNat + f.late.toNat) + f.tag.toNat) +
    f.ten.toNat) + f.data.toNat := by
  have hl : (if f.late then 2 ^ 16 else 0) = 2 ^ 16 * f.late.toNat := by cases f.late <;> rfl
  have hp : (if f.poison then 2 ^ 17 else 0) = 2 ^ 17 * f.poison.toNat := by cases f.poison <;> rfl
  unfold flitData pow2
  rw [Nat.one_shiftLeft, Nat.one_shiftLeft, Nat.one_shiftLeft, hl, hp]
  refine (Nat.add_comm ..).trans (congrArg (2 ^ 512 * · + f.data.toNat) ?_)
  omega

theorem flitData_testBit (f : Flit) (j : Nat) : (flitData f).testBit j =
    if j < 512 then f.data.getLsbD j else if j - 512 < 6 then f.ten.getLsbD (j - 512)
    else if j - 512 - 6 < 10 then f.tag.getLsbD (j - 512 - 6)
    else if j - 512 - 6 - 10 < 1 then f.late.toNat.testBit (j - 512 - 6 - 10) else f.poison.toNat.testBit (j - 512 - 6 - 10 - 1) := by
  rw [flitData_eq, Nat.testBit_two_pow_mul_add _ f.data.isLt, Nat.testBit_two_pow_mul_add _ f.ten.isLt,
    Nat.testBit_two_pow_mul_add _ f.tag.isLt, Nat.testBit_two_pow_mul_add _ f.late.toNat_lt]
  rfl

@[simp] theorem flitData_testBit_data (f : Flit) {n : Nat} (h : n < 512) : (flitData f).testBit n = f.data.getLsbD n := by
  rw [flitData_testBit, if_pos h]

@[simp] theorem flitData_testBit_ten (f : Flit) {n : Nat} (h : n < 6) : (flitData f).testBit (512 + n) = f.ten.getLsbD n := by
  rw [flitData_testBit, if_neg (by omega), Nat.add_sub_cancel_left, if_pos h]

@[simp] theorem flitData_testBit_tag (f : Flit) {n : Nat} (h : n < 10) : (flitData f).testBit (518 + n) = f.tag.getLsbD n := by
  rw [flitData_testBit, if_neg (by omega), if_neg (by omega), show 518 + n - 512 - 6 = n by omega, if_pos h]

@[simp] theorem flitData_testBit_late (f : Flit) : (flitData f).testBit 528 = f.late := by
  rw [flitData_testBit]
  cases f.late <;> rfl

@[simp] theorem flitData_testBit_poison (f : Flit) : (flitData f).testBit 529 = f.poison := by
  rw [flitData_testBit]
  cases f.poison <;> rfl

theorem testBit_of_lt_two_pow {x i j : Nat} (hx : x < 2 ^ i) (hij : i ≤ j) : x.testBit j = false :=
  Nat.testBit_lt_two_pow (Nat.lt_of_lt_of_le hx (Nat.pow_le_pow_right Nat.two_pos hij))

theorem flitData_lt (f : Flit) : flitData f < 2 ^ 530 := by
  apply Nat.lt_pow_two_of_testBit
  intro j hj
  rw [flitData_testBit, if_neg (by omega), if_neg (by omega), if_neg (by omega), if_neg (by omega)]
  exact testBit_of_lt_two_pow (i := 1) f.poison.toNat_lt (by omega)

theorem flitOfData_flitData (f : Flit) (e : BitVec 14) : flitOfData (flitData f) e = { f with ecc := e } := by
  rw [flitOfData, Flit.mk.injEq]
  refine ⟨BitVec.eq_of_getLsbD_eq fun n hn => ?_, BitVec.eq_of_getLsbD_eq fun n hn => ?_,
    BitVec.eq_of_getLsbD_eq fun n hn => ?_, ?_, ?_, rfl⟩
  · rw [BitVec.getLsbD_ofNat, flitData_testBit_data f hn, decide_eq_true hn, Bool.true_and]
  · rw [BitVec.getLsbD_ofNat, Nat.testBit_shiftRight, flitData_testBit_ten f hn, decide_eq_true hn, Bool.true_and]
  · rw [BitVec.getLsbD_ofNat, Nat.testBit_shiftRight, flitData_testBit_tag f hn, decide_eq_true hn, Bool.true_and]
  · rw [bit_eq_testBit, flitData_testBit_late]
  · rw [bit_eq_testBit, flitData_testBit_poison]

theorem flitData_flitOfData {x : Nat} (hx : x < 2 ^ 530) (e : BitVec 14) : flitData (flitOfData x e) = x := by
  refine Nat.eq_of_testBit_eq fun j => ?_
  rw [flitData_testBit]
  simp only [flitOfData, bit_eq_testBit, BitVec.getLsbD_ofNat, Nat.testBit_shiftRight]
  split
  case isTrue h => simp [h]
  split
  case isTrue h => rw [decide_eq_true h, Bool.true_and, show 512 + (j - 512) = j by omega]
  split
  case isTrue h => rw [decide_eq_true h, Bool.true_and, show 518 + (j - 512 - 6) = j by omega]
  split
  case isTrue h =>
    obtain rfl : j = 528 := by omega
    cases Nat.testBit x 528 <;> rfl
  obtain rfl | h : j = 529 ∨ 530 ≤ j := by omega
  · cases Nat.testBit x 529 <;> rfl
  · rw [testBit_of_lt_two_pow hx h]
    exact testBit_of_lt_two_pow (i := 1) (Bool.toNat_lt _) (by omega)

/-! ## The check bits (04 R131) -/

theorem eccFold_shift (x k : Nat) (ms : List Nat) : eccFold x k ms = 2 ^ k * eccFold x 0 ms := by
  induction ms generalizing k with
  | nil => rfl
  | cons m ms ih =>
    rw [eccFold, eccFold, ih (k + 1), ih (0 + 1), Nat.shiftLeft_eq, Nat.shiftLeft_eq, Nat.pow_zero, Nat.mul_one, Nat.zero_add,
      Nat.pow_one, Nat.pow_succ, Nat.mul_add, Nat.mul_comm (parity _), Nat.mul_assoc]

theorem testBit_eccFold (x : Nat) {k : Nat} (ms : List Nat) (hk : k < ms.length) :
    (eccFold x 0 ms).testBit k = xorBits (fun n => (ms.getD k 0).testBit n && x.testBit n) 1024 := by
  induction ms generalizing k with
  | nil => exact absurd hk (Nat.not_lt_zero k)
  | cons m ms ih =>
    have hf : eccFold x 0 (m :: ms) = 2 ^ 1 * eccFold x 0 ms + (xorBits (Nat.land x m).testBit 1024).toNat := by
      rw [eccFold, eccFold_shift, parity_eq_xorBits, Nat.shiftLeft_zero, Nat.add_comm]
    rw [hf, Nat.testBit_two_pow_mul_add _ (Bool.toNat_lt _)]
    cases k with
    | zero =>
      have hb (n : Nat) : (Nat.land x m).testBit n = (m.testBit n && x.testBit n) := by
        rw [Bool.and_comm]
        exact Nat.testBit_and ..
      rw [if_pos Nat.one_pos, toNat_testBit_zero, funext hb, List.getD_cons_zero]
    | succ k => simpa using ih (by simpa using hk)

/-- The table of masks read down its columns: bit n of mask k is bit k of H(n). -/
theorem eccMasks_columns : ∀ h ∈ hList.zipIdx, ∀ k < 14, (eccMasks.getD k 0).testBit h.2 = h.1.testBit k := by decide +kernel

theorem testBit_eccMasks {n k : Nat} (hn : n < 530) (hk : k < 14) :
    (eccMasks.getD k 0).testBit n = (hList.getD n 0).testBit k := by
  have hget : hList[n]? = some (hList.getD n 0) := by
    rw [getD_hList hn]
    exact List.getElem?_eq_getElem _
  simpa only using eccMasks_columns _ (List.mk_mem_zipIdx_iff_getElem?.mpr hget) k hk

theorem eccOf_getLsbD (f : Flit) {k : Nat} (hk : k < 14) :
    (eccOf f).getLsbD k = xorBits (fun n => (hList.getD n 0).testBit k && (flitData f).testBit n) 530 := by
  have hclear (n : Nat) (hn : 530 ≤ n) : ((eccMasks.getD k 0).testBit n && (flitData f).testBit n) = false := by
    rw [testBit_of_lt_two_pow (flitData_lt f) hn, Bool.and_false]
  rw [eccOf, BitVec.getLsbD_ofNat, decide_eq_true hk, Bool.true_and, testBit_eccFold _ _ hk, show 1024 = 530 + 494 from rfl,
    xorBits_of_clear hclear]
  exact xorBits_congr fun n hn => by rw [testBit_eccMasks hn hk]

/-- Inverting data bit n changes the check bits by H(n). -/
theorem eccOf_invert {f g : Flit} {n : Nat} (hn : n < 530) (h : flitData g = flitData f ^^^ 2 ^ n) :
    eccOf g = eccOf f ^^^ BitVec.ofNat 14 (hList.getD n 0) := by
  refine BitVec.eq_of_getLsbD_eq fun k hk => ?_
  rw [BitVec.getLsbD_xor, BitVec.getLsbD_ofNat, eccOf_getLsbD g hk, eccOf_getLsbD f hk, h]
  simp only [Nat.testBit_xor, Nat.testBit_two_pow, Bool.and_xor_distrib_left, xorBits_xor, xorBits_single, hn, hk]

/-! ## What a receiver makes of a syndrome (04 R132) -/

/-- The check bits received against those recomputed (04 R132). -/
def syndrome (f : Flit) : Nat := (f.ecc ^^^ eccOf f).toNat

theorem syndrome_eq_zero_iff {f : Flit} : syndrome f = 0 ↔ f.ecc = eccOf f := by
  exact (BitVec.toNat_inj (y := 0#14)).trans BitVec.xor_eq_zero_iff

theorem isPow2_iff {m : Nat} : isPow2 m = true ↔ ∃ k, m = 2 ^ k := by
  simp only [isPow2, pow2, Nat.one_shiftLeft, beq_iff_eq]
  exact ⟨fun h => ⟨_, h⟩, fun ⟨k, hk⟩ => by rw [hk, Nat.log2_two_pow]⟩

theorem eccCheck_clean {f : Flit} (h : syndrome f = 0) : eccCheck f = (f, .clean) := by
  rw [eccCheck]
  exact if_pos h

theorem eccCheck_checkBit {f : Flit} {k : Nat} (h : syndrome f = 2 ^ k) : eccCheck f = (sealFlit f, .corrected) := by
  have h0 : syndrome f ≠ 0 := h ▸ Nat.ne_of_gt (Nat.two_pow_pos k)
  rw [eccCheck]
  exact (if_neg h0).trans (if_pos (isPow2_iff.mpr ⟨k, h⟩))

/-- A syndrome that is neither 0 nor a check bit is looked up among the values of H. -/
theorem eccCheck_lookup {f : Flit} (h0 : syndrome f ≠ 0) (hp : ∀ k, syndrome f ≠ 2 ^ k) : eccCheck f =
    (hList.findIdx? (· == syndrome f)).elim ({ f with poison := true }, .bad)
      fun n => (flitOfData (flitData f ^^^ 2 ^ n) f.ecc, .corrected) := by
  rw [eccCheck]
  refine (if_neg h0).trans ((if_neg (mt isPow2_iff.mp (not_exists.mpr hp))).trans ?_)
  rw [← syndrome]
  cases hList.findIdx? (· == syndrome f) with
  | none => rfl
  | some n => simp only [pow2, Nat.one_shiftLeft]; rfl

theorem eccCheck_dataBit {f : Flit} {n : Nat} (hn : n < 530) (h : syndrome f = hList.getD n 0) :
    eccCheck f = (flitOfData (flitData f ^^^ 2 ^ n) f.ecc, .corrected) := by
  have hmem : syndrome f ∈ hList := h ▸ getD_mem_hList hn
  rw [eccCheck_lookup (fun h0 => zero_notMem_hList (h0 ▸ hmem)) (fun k hk => two_pow_notMem_hList k (hk ▸ hmem)), h,
    findIdx?_getD_hList hn]
  rfl

theorem eccCheck_uncorrectable {f : Flit} (h0 : syndrome f ≠ 0) (hp : ∀ k, syndrome f ≠ 2 ^ k) (hH : syndrome f ∉ hList) :
    eccCheck f = ({ f with poison := true }, .bad) := by
  have hnone : hList.findIdx? (· == syndrome f) = none :=
    List.findIdx?_eq_none_iff.mpr fun v hv => beq_eq_false_iff_ne.mpr fun he => hH (he ▸ hv)
  rw [eccCheck_lookup h0 hp, hnone]
  rfl

theorem syndrome_lt (f : Flit) : syndrome f < 2 ^ 14 := (f.ecc ^^^ eccOf f).isLt

theorem lt_of_syndrome_eq_two_pow {f : Flit} {k : Nat} (h : syndrome f = 2 ^ k) : k < 14 :=
  (Nat.pow_lt_pow_iff_right Nat.one_lt_two).mp (h ▸ syndrome_lt f)

theorem syndrome_of_inverted {f g : Flit} {n : Nat} (hn : n < 530) (hf : f.ecc = eccOf f)
    (hd : flitData g = flitData f ^^^ 2 ^ n) (he : g.ecc = f.ecc) : syndrome g = hList.getD n 0 := by
  rw [syndrome, he, hf, eccOf_invert hn hd, ← BitVec.xor_assoc, BitVec.xor_self, BitVec.zero_xor, BitVec.toNat_ofNat,
    Nat.mod_eq_of_lt (getD_hList_lt hn)]

theorem xor_two_pow_lt {x i n : Nat} (hx : x < 2 ^ i) (hn : n < i) : x ^^^ 2 ^ n < 2 ^ i :=
  Nat.xor_lt_two_pow hx (Nat.pow_lt_pow_right Nat.one_lt_two hn)

theorem eccCheck_of_inverted {f g : Flit} {n : Nat} (hn : n < 530) (hf : f.ecc = eccOf f)
    (hd : flitData g = flitData f ^^^ 2 ^ n) (he : g.ecc = f.ecc) : eccCheck g = (f, .corrected) := by
  rw [eccCheck_dataBit hn (syndrome_of_inverted hn hf hd he), hd, Nat.xor_assoc, Nat.xor_self, Nat.xor_zero, he, flitOfData_flitData]

/-- Settles O59: the code by its table read down the columns, the correction by the code's linearity. -/
theorem flitEcc : Obligations.FlitEcc := by
  refine ⟨?values, length_hList, ?first, ?dataBits, fun f k hk => eccOf_getLsbD f hk,
    fun f h => eccCheck_clean (syndrome_eq_zero_iff.mpr h), fun f k _ h => eccCheck_checkBit h, ?dataBit, ?uncorrectable,
    fun f g n hn hf hd he => eccCheck_of_inverted hn hf hd he⟩
  case values =>
    rw [hList_eq_take_range, funext oddWeight_eq]
    rfl
  case first => decide +kernel
  case dataBits =>
    exact fun f => ⟨fun n hn => flitData_testBit_data f hn, fun n hn => flitData_testBit_ten f hn,
      fun n hn => flitData_testBit_tag f hn, flitData_testBit_late f, flitData_testBit_poison f, flitData_lt f⟩
  case dataBit =>
    exact fun f n hn h => ⟨_, eccCheck_dataBit hn h, flitData_flitOfData (xor_two_pow_lt (flitData_lt f) hn) _, rfl⟩
  case uncorrectable =>
    exact fun f h0 hp hH => eccCheck_uncorrectable (mt syndrome_eq_zero_iff.mp h0)
      (fun k hk => hp k (lt_of_syndrome_eq_two_pow hk) hk) hH

end Sys2Proof.Machine
end

section
/-!
The island cycle of a cluster (07 R246 to R253): what a cycle leaves of the sequencer, cycles in which no instruction acts, writes
that fall due, and the issue of a bundle.
-/
namespace Sys2Proof.Machine

/-! ## What a command of a cluster answers -/

theorem answers_onIsland {i : Instr} {d : Dev} {cl : Nat} {f : Dev → Dev} {P : Dev → Prop} (hl : d.boot.lost = false)
    (hr : islandRuns cl d = true) (hi : ∀ s, exec i s = onIsland cl s f) (hP : P (f d)) : Answers i d P :=
  fun q => ⟨f d, (hi _).trans (onIsland_eq (s := ⟨q, d⟩) hl hr f), hP⟩

/-- An instruction of the table runs as a bundle of its own (log entry 82). -/
theorem answers_issueOne {i : Instr} {d : Dev} {cl : Nat} {b : Bundle} {P : Dev → Prop} (h : MayIssue d cl b)
    (hi : ∀ s, exec i s = onIsland cl s (opIssueOne cl b)) (hP : P (reachBundle cl b d)) : Answers i d P := by
  obtain ⟨hl, hisl, hrun, -⟩ := h
  exact answers_onIsland hl hisl hi (by rwa [opIssueOne, if_pos hrun])

/-- A cluster that does not run issues no bundle (07 R246). -/
theorem answers_bundleIssue_of_not_running {d : Dev} {cl : Fin 512} {P : Dev → Prop} (hl : d.boot.lost = false)
    (hrun : (clOf d cl).run ≠ .running) (third : Bool) (hP : P d) : Answers (.bundleIssue cl third) d P :=
  answers_onDev hl (f := onlyIf (islandRuns cl) (opBundleIssue cl third)) (fun _ => rfl)
    (by simpa [onlyIf, opBundleIssue, hrun] using hP)

/-! ## What an island cycle leaves of the sequencer -/

/-- The bundle of a cluster's sequencer, its loop stack and its cycle. -/
def seqOf (k : Cluster) : Nat × List LoopEnt × Nat := (k.pc, k.loops, k.cyc)

@[simp] theorem clOf_clusterFault (cl code : Nat) (d : Dev) :
    clOf (clusterFault cl code d) cl = { clOf d cl with run := .faulted } := by
  rw [clusterFault, clOf_congr (e := modCl cl (fun k => { k with run := .faulted }) d) (by simp), clOf_modCl_same]

@[simp] theorem clOf_countPane (cl a : Nat) (r : LineRead) (d : Dev) (k : Nat) : clOf (countPane cl a r d) k = clOf d k :=
  clOf_congr (by simp) k

@[simp] theorem clOf_paneWrite (cl line v mask poison : Nat) (d : Dev) (k : Nat) :
    clOf (paneWrite cl line v mask poison d) k = clOf d k := clOf_congr (by simp) k

@[simp] theorem clOf_memCtr (c : Nat) (f : MemCtr → MemCtr) (d : Dev) (k : Nat) : clOf (memCtr c f d) k = clOf d k :=
  clOf_congr (by simp) k

@[simp] theorem clOf_modTen (t : Nat) (f : Tenancy → Tenancy) (d : Dev) (k : Nat) : clOf (modTen t f d) k = clOf d k :=
  clOf_congr (by simp) k

@[simp] theorem seqOf_pushSnap (layer : BitVec 16) (now : Nat) (k : Cluster) : seqOf (pushSnap layer now k) = seqOf k := by
  unfold pushSnap; split <;> rfl

theorem seqOf_modCl {f : Cluster → Cluster} (h : ∀ k, seqOf (f k) = seqOf k) (cl : Nat) (d : Dev) :
    seqOf (clOf (modCl cl f d) cl) = seqOf (clOf d cl) := by rw [clOf_modCl_same, h]

theorem seqOf_doDone (cl : Nat) (t : Task) (d : Dev) : seqOf (clOf (doDone cl t d) cl) = seqOf (clOf d cl) := by
  unfold doDone; dsimp only
  split
  case h_5 => -- VDIG, which may also push a snapshot or mark its tenancy
    (repeat' split) <;> simp <;> rfl
  case h_8 => rfl
  all_goals exact seqOf_modCl (fun _ => by rfl) cl d

theorem seqOf_doClear (cl buf e : Nat) (d : Dev) : seqOf (clOf (doClear cl buf e d) cl) = seqOf (clOf d cl) :=
  seqOf_modCl (fun k => by dsimp only; split <;> rfl) cl d

theorem seqOf_doPayload (cl : Nat) (t : Task) (i : Nat) (d : Dev) : seqOf (clOf (doPayload cl t i d) cl) = seqOf (clOf d cl) := by
  unfold doPayload
  split
  · exact seqOf_modCl (fun k => by (repeat' split) <;> rfl) cl d
  · rfl

theorem seqOf_doMicro (cl : Nat) (t : Task) (o : Micro) (d : Dev) :
    seqOf (clOf (microDev (doMicro cl t o d)) cl) = seqOf (clOf d cl) := by
  cases o with
  | done => exact seqOf_doDone cl t d
  | clear buf e => exact seqOf_doClear cl buf e d
  | payload i => exact seqOf_doPayload cl t i d
  | _ =>
    simp only [doMicro, doRead, doWrite, doSget, doSput, doExam, doRequest]
    (repeat' split) <;> simp [microDev] <;> rfl

theorem seqOf_runOps (cl c : Nat) (sel : Micro → Bool) (os : List Micro) (t : Task) (d : Dev) :
    seqOf (clOf (runOps cl c sel os t d).2 cl) = seqOf (clOf d cl) := by
  induction os generalizing t d with
  | nil => rfl
  | cons o os ih =>
    have hm := seqOf_doMicro cl t o d
    rw [runOps]
    split
    · split <;> rename_i e <;> rw [e] at hm
      · exact (ih _ _).trans hm
      · exact hm
      · exact hm
    · exact ih t d

theorem seqOf_runTasks (cl c : Nat) (sel : Micro → Bool) (ts : List Task) (d : Dev) :
    seqOf (clOf (runTasks cl c sel ts d).2 cl) = seqOf (clOf d cl) := by
  induction ts generalizing d with
  | nil => rfl
  | cons t ts ih => exact (ih _).trans (seqOf_runOps cl c sel _ t d)

theorem seqOf_phaseOps (cl : Nat) (sel : Micro → Bool) (d : Dev) : seqOf (clOf (phaseOps cl sel d) cl) = seqOf (clOf d cl) :=
  (seqOf_modCl (fun _ => by rfl) cl _).trans (seqOf_runTasks cl _ sel _ d)

theorem seqOf_accessCycle (cl : Nat) (d : Dev) : seqOf (clOf (accessCycle cl d) cl) = seqOf (clOf d cl) := by
  simp only [accessCycle, seqOf_phaseOps]
  split
  · simp [seqOf]
  · rfl

/-- The marks, the tick view and the tasks of a cluster as its next cycle begins, before any write that falls due in it. -/
def cycleStart (w : Wheel) (k : Cluster) : Cluster :=
  { k with
    cyc := k.cyc + 1
    tv := if k.tvHeld then k.tv else if k.syncLate then k.tv2 else k.tv1
    tv2 := k.tv1
    tv1 := fabPos w
    pend := k.pend.filter fun p => decide (k.cyc + 1 < p.2)
    fills := k.fills.filter fun (f : PaneOld) => decide (k.cyc < f.cyc)
    tasks := (k.tasks.map fun t => { t with todo := t.todo.filter fun o => decide (k.cyc < o.1) }).filter
      fun t => !t.todo.isEmpty }

theorem beginCycle_eq (cl : Nat) (d : Dev) : beginCycle cl d = phaseOps cl microEarly (modCl cl (cycleStart d.whl) d) := rfl

/-- Whatever its instructions still do, an island cycle moves no bundle and no loop (07 R246). -/
theorem tickCluster_seq (cl : Nat) (d : Dev) :
    (clOf (tickCluster cl d) cl).pc = (clOf d cl).pc ∧ (clOf (tickCluster cl d) cl).loops = (clOf d cl).loops ∧
      (clOf (tickCluster cl d) cl).cyc = (clOf d cl).cyc + 1 := by
  have h : seqOf (clOf (tickCluster cl d) cl) = seqOf (cycleStart (accessCycle cl d).whl (clOf (accessCycle cl d) cl)) := by
    rw [tickCluster, beginCycle_eq, seqOf_phaseOps, clOf_modCl_same]
  have ha := seqOf_accessCycle cl d
  simp only [seqOf, cycleStart, Prod.mk.injEq] at h ha
  obtain ⟨hpc, hloops, hcyc⟩ := ha
  rwa [hpc, hloops, hcyc] at h

@[simp] theorem tickCluster_pc (cl : Nat) (d : Dev) : (clOf (tickCluster cl d) cl).pc = (clOf d cl).pc := (tickCluster_seq cl d).1

@[simp] theorem tickCluster_loops (cl : Nat) (d : Dev) : (clOf (tickCluster cl d) cl).loops = (clOf d cl).loops :=
  (tickCluster_seq cl d).2.1

@[simp] theorem tickCluster_cyc (cl : Nat) (d : Dev) : (clOf (tickCluster cl d) cl).cyc = (clOf d cl).cyc + 1 :=
  (tickCluster_seq cl d).2.2

/-! ## Cycles in which no instruction acts, and writes of the C slot -/

/-- No instruction of a cluster acts in its present cycle. -/
def Quiet (k : Cluster) : Prop := ∀ t ∈ k.tasks, microNow k.cyc t = []

theorem quiet_of_no_tasks {k : Cluster} (h : k.tasks = []) : Quiet k := by simp [Quiet, h]

theorem runTasks_of_nothing_now {cl c : Nat} {ts : List Task} (h : ∀ t ∈ ts, microNow c t = []) (sel : Micro → Bool) (d : Dev) :
    runTasks cl c sel ts d = (ts, d) := by
  induction ts with
  | nil => rfl
  | cons t ts ih =>
    obtain ⟨ht, hts⟩ := List.forall_mem_cons.mp h
    simp [runTasks, ht, runOps, ih hts]

theorem clOf_phaseOps_quiet {cl : Nat} {d : Dev} (h : Quiet (clOf d cl)) (sel : Micro → Bool) :
    clOf (phaseOps cl sel d) cl = clOf d cl := by
  simp [phaseOps, runTasks_of_nothing_now h]

theorem clOf_accessCycle_quiet {cl : Nat} {d : Dev} (h : Quiet (clOf d cl)) : clOf (accessCycle cl d) cl = clOf d cl := by
  have hclash : (clOf d cl).tasks.any (taskClashes (clOf d cl).cyc (clOf d cl).tasks) = false :=
    List.any_eq_false.mpr fun t ht => by simp [taskClashes, h t ht]
  have hreads (sel : Micro → Bool) := clOf_phaseOps_quiet h sel
  simp only [accessCycle, hclash, Bool.false_eq_true, if_false]
  rw [clOf_phaseOps_quiet (by rwa [hreads]), hreads]

theorem tickCluster_eq (cl : Nat) (d : Dev) :
    tickCluster cl d = phaseOps cl microEarly (modCl cl (cycleStart d.whl) (accessCycle cl d)) := by
  rw [tickCluster, beginCycle_eq, (accessCycle_frame cl d).2.1]

/-- A cycle in which nothing acts, nor at the start of the next, leaves the cluster as that cycle begins. -/
theorem tickCluster_quiet {cl : Nat} {d : Dev} (h : Quiet (clOf d cl)) (hn : Quiet (cycleStart d.whl (clOf d cl))) :
    clOf (tickCluster cl d) cl = cycleStart d.whl (clOf d cl) := by
  have hk : clOf (modCl cl (cycleStart d.whl) (accessCycle cl d)) cl = cycleStart d.whl (clOf d cl) := by
    rw [clOf_modCl_same, clOf_accessCycle_quiet h]
  rw [tickCluster_eq, clOf_phaseOps_quiet (by rwa [hk]), hk]

theorem tickCluster_no_tasks {cl : Nat} {d : Dev} (h : (clOf d cl).tasks = []) :
    clOf (tickCluster cl d) cl = cycleStart d.whl (clOf d cl) :=
  tickCluster_quiet (quiet_of_no_tasks h) (quiet_of_no_tasks (by simp [cycleStart, h]))

/-- The task of a C slot that writes an item in a cycle to come (10 Table INV-7). -/
def writeTask (c : Nat) (u : Micro) : Task := { op := .c, tiles := [], todo := [(c, u)] }

theorem cycleStart_writeTask {k : Cluster} {c : Nat} {u : Micro} (h : k.tasks = [writeTask c u]) (hc : k.cyc < c) (w : Wheel) :
    (cycleStart w k).tasks = [writeTask c u] := by
  simp [cycleStart, h, writeTask, hc]

theorem quiet_of_writeTask {k : Cluster} {c : Nat} {u : Micro} (h : k.tasks = [writeTask c u]) (hc : k.cyc < c) : Quiet k := by
  simp [Quiet, h, writeTask, microNow, hc.ne']

/-- A write that falls due later than the next cycle waits. -/
theorem tickCluster_before_write {cl : Nat} {d : Dev} {c : Nat} {u : Micro} (h : (clOf d cl).tasks = [writeTask c u])
    (hc : (clOf d cl).cyc + 1 < c) : clOf (tickCluster cl d) cl = cycleStart d.whl (clOf d cl) :=
  tickCluster_quiet (quiet_of_writeTask h (by omega)) (quiet_of_writeTask (cycleStart_writeTask h (by omega) _) hc)

/-- What a write of a scalar, a descriptor or an edge mask does to its cluster (07 R250). -/
def writeItem : Micro → Cluster → Cluster
  | .setS i v, k => { k with s := tabSet i v k.s }
  | .setD i v, k => { k with d := tabSet i v k.d }
  | .setM i r c, k => { k with m := tabSet i { row := r, col := c } k.m }
  | _, k => k

def isItemWrite : Micro → Bool
  | .setS .. | .setD .. | .setM .. => true
  | _ => false

theorem doMicro_writeItem {u : Micro} (hu : isItemWrite u = true) (cl : Nat) (t : Task) (d : Dev) :
    doMicro cl t u d = .go t (modCl cl (writeItem u) d) := by
  cases u with
  | setS | setD | setM => rfl
  | _ => cases hu

theorem microEarly_of_isItemWrite {u : Micro} (hu : isItemWrite u = true) : microEarly u = true := by
  cases u with
  | setS | setD | setM => rfl
  | _ => cases hu

/-- A write that falls due in the next cycle takes effect as that cycle begins. -/
theorem tickCluster_write {cl : Nat} {d : Dev} {u : Micro} (hu : isItemWrite u = true)
    (h : (clOf d cl).tasks = [writeTask ((clOf d cl).cyc + 1) u]) :
    clOf (tickCluster cl d) cl =
      { writeItem u (cycleStart d.whl (clOf d cl)) with tasks := [writeTask ((clOf d cl).cyc + 1) u] } := by
  have ha := clOf_accessCycle_quiet (quiet_of_writeTask h (Nat.lt_succ_self _))
  have hnow : microNow (cycleStart d.whl (clOf d cl)).cyc (writeTask ((clOf d cl).cyc + 1) u) = [u] := by
    simp [microNow, writeTask, cycleStart]
  simp [tickCluster_eq, phaseOps, ha, cycleStart_writeTask h (Nat.lt_succ_self _), runTasks, runOps, hnow,
    microEarly_of_isItemWrite hu, doMicro_writeItem hu]

/-- The scalars, descriptors and edge masks of a cluster. -/
def registersOf (k : Cluster) : Tab W32 × Tab W64 × Tab EdgeMask := (k.s, k.d, k.m)

theorem registersOf_writeItem_congr {k k' : Cluster} (h : registersOf k = registersOf k') (u : Micro) :
    registersOf (writeItem u k) = registersOf (writeItem u k') := by
  simp only [registersOf, Prod.mk.injEq] at h
  obtain ⟨hs, hd, hm⟩ := h
  cases u <;> simp [registersOf, writeItem, hs, hd, hm]

theorem registersOf_tickCluster_write {cl : Nat} {d : Dev} {u : Micro} (hu : isItemWrite u = true)
    (h : (clOf d cl).tasks = [writeTask ((clOf d cl).cyc + 1) u]) :
    registersOf (clOf (tickCluster cl d) cl) = registersOf (writeItem u (clOf d cl)) := by
  have hc : registersOf (cycleStart d.whl (clOf d cl)) = registersOf (clOf d cl) := rfl
  rw [tickCluster_write hu h]
  exact registersOf_writeItem_congr hc u

theorem scalar_written {k e : Cluster} {i : Nat} {v : W32} (h : registersOf e = registersOf (writeItem (.setS i v) k)) :
    sOf e i = v ∧ ∀ j ≠ i, sOf e j = sOf k j := by
  have hs : e.s = tabSet i v k.s := congrArg Prod.fst h
  exact ⟨by simp [sOf, hs], fun j hj => by simp [sOf, hs, tabGet_tabSet_ne _ _ _ hj]⟩

theorem descriptor_written {k e : Cluster} {i : Nat} {v : W64} (h : registersOf e = registersOf (writeItem (.setD i v) k)) :
    dOf e i = v ∧ ∀ j ≠ i, dOf e j = dOf k j := by
  have hd : e.d = tabSet i v k.d := congrArg (·.2.1) h
  exact ⟨by simp [dOf, hd], fun j hj => by simp [dOf, hd, tabGet_tabSet_ne _ _ _ hj]⟩

theorem mask_written {k e : Cluster} {i r c : Nat} (hi : i ≠ 0) (h : registersOf e = registersOf (writeItem (.setM i r c) k)) :
    mOf e i = { row := r, col := c } := by
  have hm : e.m = tabSet i { row := r, col := c } k.m := congrArg (·.2.2) h
  simp [mOf, hi, hm]

/-! ## The bundle that follows (07 R246, R273, R274) -/

theorem nextPc_loop (k : Cluster) (src : Bool) (sC : Fin 32) (imm : W32) (e : BitVec 12) :
    nextPc k (.loop src sC imm e) = if loopCount k src sC.val imm = 0 then { k with pc := e.toNat + 1 } else
      { k with pc := k.pc + 1, loops := { count := loopCount k src sC.val imm, body := k.pc + 1, endIx := e.toNat } :: k.loops } := rfl

theorem nextPc_endloop {k : Cluster} {top : LoopEnt} {rest : List LoopEnt} (h : k.loops = top :: rest) :
    nextPc k .endloop = if top.count ≤ 1 then { k with pc := k.pc + 1, loops := rest }
      else { k with pc := top.body, loops := { top with count := top.count - 1 } :: rest } := by
  unfold nextPc; rw [h]

theorem nextPc_endloop_nil {k : Cluster} (h : k.loops = []) : nextPc k .endloop = { k with pc := k.pc + 1 } := by
  unfold nextPc; rw [h]

theorem nextPc_halt (k : Cluster) : nextPc k .halt = { k with pc := k.pc + 1, run := .halted, loops := [] } := rfl

/-! ## The issue of a bundle -/

theorem issueBundle_ok {cl : Nat} {b : Bundle} {d : Dev} (h : issueOk d.whl.w (clOf d cl) b = true) :
    issueBundle cl b d = tickCluster cl (issueSlots cl b d) := by rw [issueBundle, if_pos h]

theorem MayIssue.checks {d : Dev} {cl : Nat} {b : Bundle} (h : MayIssue d cl b) : issueOk d.whl.w (clOf d cl) b = true :=
  h.2.2.2

theorem answers_issues {i : Instr} {d : Dev} {cl : Nat} {b : Bundle} {P : Dev → Prop} (h : MayIssue d cl b)
    (hi : ∀ s, exec i s = onIsland cl s (opIssueOne cl b)) (hb : reachBundle cl b d = issueBundle cl b d)
    (hP : P (tickCluster cl (issueSlots cl b d))) : Answers i d P :=
  answers_issueOne h hi (by rwa [hb, issueBundle_ok h.checks])

/-- A bundle of a C slot alone passes its issue checks where its C slot does. -/
theorem issueOk_cOnly (w : Nat) (k : Cluster) (s : CSlot) :
    issueOk w k { c := s } = (decide (k.pc < k.bundleCount) && cCheck w k s) := by
  simp [issueOk, xCheck, vCheck, mCheck, xDest]

theorem MayIssue.cSlot {d : Dev} {cl : Nat} {s : CSlot} (h : MayIssue d cl { c := s }) :
    (clOf d cl).pc < (clOf d cl).bundleCount ∧ cCheck d.whl.w (clOf d cl) s = true := by
  simpa [issueOk_cOnly] using h.checks

/-- A cluster with the task and the pending mark that its C slot gives it. -/
def withCTask (k : Cluster) (s : CSlot) : Cluster :=
  { k with
    run := .running
    tasks := k.tasks ++ ((cTask k s).map (·.1)).toList
    pend := k.pend ++ ((cTask k s).map (·.2)).getD [] }

theorem clOf_issueSlots_cOnly (cl : Nat) (s : CSlot) (d : Dev) :
    clOf (issueSlots cl { c := s } d) cl = nextPc (withCTask (clOf d cl) s) s := by
  simp [issueSlots, mTask, vTask, xTask, mIssue, launchIssue, withCTask]

theorem mIssue_keeps (m : MSlot) (k : Cluster) : seqOf (mIssue m k) = seqOf k ∧ (mIssue m k).s = k.s := by
  unfold mIssue; dsimp only; (repeat' split) <;> exact ⟨rfl, rfl⟩

theorem launchIssue_keeps (x : XSlot) (k : Cluster) : seqOf (launchIssue x k) = seqOf k ∧ (launchIssue x k).s = k.s := by
  unfold launchIssue; (repeat' split) <;> exact ⟨rfl, rfl⟩

/-- The bundle that follows depends on the sequencer and on the scalars. -/
theorem seqOf_nextPc_congr {k k' : Cluster} (h : seqOf k = seqOf k') (hs : k.s = k'.s) (c : CSlot) :
    seqOf (nextPc k c) = seqOf (nextPc k' c) := by
  simp only [seqOf, Prod.mk.injEq] at h
  obtain ⟨hpc, hloops, hcyc⟩ := h
  cases c with
  | loop src sC imm e =>
    have hn : loopCount k src sC.val imm = loopCount k' src sC.val imm := by simp only [loopCount, sNat, sOf, hs]
    rw [nextPc_loop, nextPc_loop, hn]
    split <;> simp only [seqOf, hpc, hloops, hcyc]
  | endloop =>
    cases hl : k'.loops with
    | nil => simp only [nextPc_endloop_nil (hloops.trans hl), nextPc_endloop_nil hl, seqOf, hpc, hloops, hcyc]
    | cons top rest =>
      rw [nextPc_endloop (hloops.trans hl), nextPc_endloop hl]
      split <;> simp only [seqOf, hpc, hcyc]
  | halt => simp only [nextPc_halt, seqOf, hpc, hcyc]
  | _ => exact Prod.ext (congrArg (· + 1) hpc) (Prod.ext hloops hcyc)

theorem seqOf_issueSlots (cl : Nat) (b : Bundle) (d : Dev) :
    seqOf (clOf (issueSlots cl b d) cl) = seqOf (nextPc (clOf d cl) b.c) := by
  obtain ⟨hm, hms⟩ := mIssue_keeps b.m (clOf d cl)
  obtain ⟨hx, hxs⟩ := launchIssue_keeps b.x (mIssue b.m (clOf d cl))
  rw [issueSlots, clOf_setCl_same]
  refine seqOf_nextPc_congr ?_ ?_ b.c
  · exact hx.trans hm
  · exact hxs.trans hms

/-- Bundle and loop stack of a cluster one cycle after an issue, and that cycle. -/
theorem tickCluster_issueSlots_seq (cl : Nat) (b : Bundle) (d : Dev) :
    (clOf (tickCluster cl (issueSlots cl b d)) cl).pc = (nextPc (clOf d cl) b.c).pc ∧
      (clOf (tickCluster cl (issueSlots cl b d)) cl).loops = (nextPc (clOf d cl) b.c).loops ∧
      (clOf (tickCluster cl (issueSlots cl b d)) cl).cyc = (nextPc (clOf d cl) b.c).cyc + 1 := by
  have hs := seqOf_issueSlots cl b d
  simp only [seqOf, Prod.mk.injEq] at hs
  simpa using hs

/-- A bundle whose C slot does not turn the sequencer passes on to the next one (07 R246). -/
theorem issued_issueSlots {cl : Nat} {b : Bundle} {d : Dev} (h : ∀ k, nextPc k b.c = { k with pc := k.pc + 1 }) :
    Issued cl d (tickCluster cl (issueSlots cl b d)) := by
  obtain ⟨hpc, -, hcyc⟩ := tickCluster_issueSlots_seq cl b d
  rw [h] at hpc hcyc
  exact ⟨hpc, hcyc⟩

end Sys2Proof.Machine
end

section
/-!
The statement on SETS, ADDS, MULS and EDGE (10 R383, R384, R390).
-/
namespace Sys2Proof.Machine

/-! ## Writes of the C slot (R383, R384, R390) -/

/-- A C slot that writes an item turns no loop and waits for nothing. -/
theorem nextPc_of_cTask {k : Cluster} {s : CSlot} {x : Task × List (PendItem × Nat)} (h : cTask k s = some x) (k' : Cluster) :
    nextPc k' s = { k' with pc := k'.pc + 1 } := by
  cases s with
  | sets | adds | muls | edge => rfl
  | _ => cases h

theorem reachBundle_of_cTask {k : Cluster} {s : CSlot} {x : Task × List (PendItem × Nat)} (h : cTask k s = some x) (cl : Nat)
    (d : Dev) : reachBundle cl { c := s } d = issueBundle cl { c := s } d := by
  cases s with
  | sets | adds | muls | edge => rfl
  | _ => cases h

/-- A cluster without tasks that issues a C slot's write alone has that write to come. -/
theorem clOf_issueSlots_write {cl : Nat} {d : Dev} {s : CSlot} {t : Task} {p : List (PendItem × Nat)} (hk : (clOf d cl).tasks = [])
    (ht : cTask (clOf d cl) s = some (t, p)) :
    clOf (issueSlots cl { c := s } d) cl =
      { clOf d cl with run := .running, tasks := [t], pend := (clOf d cl).pend ++ p, pc := (clOf d cl).pc + 1 } := by
  rw [clOf_issueSlots_cOnly, nextPc_of_cTask ht]
  simp [withCTask, hk, ht]

/-- SETS, ADDS and EDGE: an item takes its value one cycle after the issue, and no other register changes. -/
theorem answers_itemWrite {i : Instr} {d : Dev} {cl : Nat} {s : CSlot} {u : Micro} {p : List (PendItem × Nat)}
    (hk : (clOf d cl).tasks = []) (h : MayIssue d cl { c := s }) (hi : ∀ s', exec i s' = onIsland cl s' (opIssueOne cl { c := s }))
    (ht : cTask (clOf d cl) s = some (writeTask ((clOf d cl).cyc + 1) u, p)) (hu : isItemWrite u = true) :
    Answers i d fun e => Issued cl d e ∧ registersOf (clOf e cl) = registersOf (writeItem u (clOf d cl)) := by
  have hc := clOf_issueSlots_write hk ht
  refine answers_issues h hi (reachBundle_of_cTask ht cl d) ⟨issued_issueSlots (nextPc_of_cTask ht), ?_⟩
  rw [registersOf_tickCluster_write hu (by rw [hc])]
  exact registersOf_writeItem_congr (by rw [hc]; rfl) u

/-- The clock of a cluster's island does not depend on what its clusters do. -/
theorem islandRuns_congr {d e : Dev} (h : d.clk = e.clk) (cl : Nat) : islandRuns cl d = islandRuns cl e := by
  simp only [islandRuns, islOfDev, h]

theorem mayIssue_halt {d : Dev} {cl : Nat} (hl : d.boot.lost = false) (hr : islandRuns cl d = true)
    (hrun : (clOf d cl).run = .running) (hpc : (clOf d cl).pc < (clOf d cl).bundleCount)
    (hloop : ∀ x ∈ (clOf d cl).loops.head?, x.endIx ≠ (clOf d cl).pc) : MayIssue d cl { c := .halt } := by
  refine ⟨hl, hr, hrun, ?_⟩
  rw [issueOk_cOnly, decide_eq_true hpc, Bool.true_and]
  cases h : (clOf d cl).loops with
  | nil => simp [cCheck, h]
  | cons top rest => simp [cCheck, h, hloop top (by simp [h])]

theorem clOf_issueSlots_halt (cl : Nat) (d : Dev) :
    clOf (issueSlots cl { c := .halt } d) cl = { clOf d cl with pc := (clOf d cl).pc + 1, run := .halted, loops := [] } := by
  rw [clOf_issueSlots_cOnly, nextPc_halt]
  simp [withCTask, cTask]

/-- A HALT lets the cycle pass at whose end a write falls due. -/
theorem answers_halt_write {d : Dev} {cl : Fin 512} {u : Micro} (h : MayIssue d cl { c := .halt }) (hu : isItemWrite u = true)
    (ht : (clOf d cl).tasks = [writeTask ((clOf d cl).cyc + 1) u]) : Answers (.halt cl) d fun e =>
      (clOf e cl).cyc = (clOf d cl).cyc + 1 ∧ registersOf (clOf e cl) = registersOf (writeItem u (clOf d cl)) := by
  have hc := clOf_issueSlots_halt cl d
  refine answers_issues h (fun _ => rfl) rfl ⟨by rw [tickCluster_cyc, hc], ?_⟩
  rw [registersOf_tickCluster_write hu (by rw [hc]; exact ht)]
  exact registersOf_writeItem_congr (by rw [hc]; rfl) u

/-- A cluster that has issued a MULS: its product is written two cycles later, and its scalar is pending until then. -/
def issuedMuls (k : Cluster) (dst sA sB : Fin 32) (src : Bool) (imm : W32) : Cluster :=
  { k with
    run := .running
    tasks := [writeTask (k.cyc + 2) (.setS dst (sOf k sA * BitVec.ofNat 32 (cOperand k src sB imm)))]
    pend := k.pend ++ [(.scalar dst, k.cyc + 2)]
    pc := k.pc + 1 }

theorem clOf_tickCluster_muls {d : Dev} {cl : Nat} {dst sA sB : Fin 32} {src : Bool} {imm : W32} (hk : (clOf d cl).tasks = []) :
    clOf (tickCluster cl (issueSlots cl { c := .muls false dst 0 sA src sB imm } d)) cl =
      cycleStart d.whl (issuedMuls (clOf d cl) dst sA sB src imm) := by
  have hi : clOf (issueSlots cl { c := .muls false dst 0 sA src sB imm } d) cl = issuedMuls (clOf d cl) dst sA sB src imm :=
    clOf_issueSlots_write hk rfl
  rw [tickCluster_before_write (c := (clOf d cl).cyc + 2) (by rw [hi]; rfl) (by rw [hi]; exact Nat.lt_succ_self _), hi,
    (issueSlots_frame cl _ d).2.1]

/-- MULS has its scalar pending for one cycle more, and a HALT behind it lets that cycle pass. -/
theorem answers_muls {d : Dev} {cl : Fin 512} {dst sA sB : Fin 32} {src : Bool} {imm : W32} (hk : (clOf d cl).tasks = [])
    (h : MayIssue d cl { c := .muls false dst 0 sA src sB imm }) :
    Answers (.muls cl false dst 0 sA src sB imm) d fun e1 =>
      Issued cl d e1 ∧ (clOf e1 cl).s = (clOf d cl).s ∧ isPending (clOf e1 cl) (.scalar dst) = true ∧
        ((clOf d cl).pc + 1 < (clOf d cl).bundleCount → (∀ x ∈ (clOf d cl).loops.head?, x.endIx ≠ (clOf d cl).pc + 1) →
          Answers (.halt cl) e1 fun e => (clOf e cl).cyc = (clOf d cl).cyc + 2 ∧ sOf (clOf e cl) dst =
            sOf (clOf d cl) sA * BitVec.ofNat 32 (cOperand (clOf d cl) src sB imm)) := by
  have hc := clOf_tickCluster_muls (cl := cl) (dst := dst) (sA := sA) (sB := sB) (src := src) (imm := imm) hk
  refine answers_issues h (fun _ => rfl) rfl ⟨issued_issueSlots fun _ => rfl, ?same, ?pending, fun hpc hloop => ?halt⟩
  case same => rw [hc]; rfl
  case pending => rw [hc]; simp [isPending, cycleStart, issuedMuls]
  case halt =>
    obtain ⟨hlost, hisl, -, -⟩ := h
    have hhalt : MayIssue (tickCluster cl (issueSlots cl { c := .muls false dst 0 sA src sB imm } d)) cl { c := .halt } :=
      mayIssue_halt (by simpa using hlost) (by rwa [islandRuns_congr (e := d) (by simp)]) (by rw [hc]; rfl)
        (by rw [hc]; exact hpc) (by rw [hc]; exact hloop)
    refine (answers_halt_write hhalt rfl ?_).mono fun e he => ⟨by rw [he.1, hc]; rfl, (scalar_written he.2).1⟩
    rw [hc]
    exact cycleStart_writeTask (k := issuedMuls _ _ _ _ _ _) rfl (Nat.lt_add_of_pos_right Nat.zero_lt_two) _

/-- Settles O32: a write is due one cycle after its issue, that of MULS two; the last part by the issue check. -/
theorem scalarWrites : Obligations.ScalarWrites := by
  unfold Obligations.ScalarWrites
  intro d cl hk
  refine ⟨fun dst imm h => ?sets, fun dst fsel imm v h hv => ?setsField, fun dst sA sB src imm h => ?adds,
    fun dst sB fsel src imm v h hv => ?addsField, fun m src ri ci sR sC h => ?edge, fun dst sA sB src imm h _ => ?muls,
    fun w dst sA sB fsel src imm hf => ?nonzeroField⟩
  case sets =>
    exact (answers_itemWrite (u := .setS dst imm) hk h (fun _ => rfl) rfl rfl).mono fun e he => ⟨he.1, scalar_written he.2⟩
  case setsField =>
    have ht : cTask (clOf d cl) (.sets true dst fsel imm) =
        some (writeTask ((clOf d cl).cyc + 1) (.setD dst v), [(.desc dst, (clOf d cl).cyc + 1)]) := by
      simp only [cTask, if_true, hv, writeTask]
    exact (answers_itemWrite hk h (fun _ => rfl) ht rfl).mono fun e he => ⟨he.1, descriptor_written he.2⟩
  case adds =>
    have hsum : sOf (clOf d cl) sA + (if src then sOf (clOf d cl) sB else imm) =
        sOf (clOf d cl) sA + BitVec.ofNat 32 (cOperand (clOf d cl) src sB imm) := by
      cases src <;> simp [cOperand, sNat]
    rw [hsum]
    exact (answers_itemWrite (u := .setS dst _) hk h (fun _ => rfl) rfl rfl).mono fun e he => ⟨he.1, scalar_written he.2⟩
  case addsField =>
    have ht : cTask (clOf d cl) (.adds true dst fsel 0 src sB imm) =
        some (writeTask ((clOf d cl).cyc + 1) (.setD dst v), [(.desc dst, (clOf d cl).cyc + 1)]) := by
      simp only [cTask, if_true, hv, writeTask]
    exact (answers_itemWrite hk h (fun _ => rfl) ht rfl).mono fun e he => ⟨he.1, descriptor_written he.2⟩
  case edge =>
    have hm : m.val ≠ 0 := by
      obtain ⟨-, hok⟩ := h.cSlot
      simp only [cCheck, Bool.and_eq_true, decide_eq_true_eq] at hok
      obtain ⟨-, ⟨⟨⟨hm, -⟩, -⟩, -⟩, -⟩ := hok
      exact fun h0 => hm (Fin.ext h0)
    exact (answers_itemWrite (u := .setM m _ _) hk h (fun _ => rfl) rfl rfl).mono fun e he => ⟨he.1, mask_written hm he.2⟩
  case muls =>
    have hprod : BitVec.ofNat 32 ((sOf (clOf d cl) sA).toNat * (if src then sOf (clOf d cl) sB else imm).toNat) =
        sOf (clOf d cl) sA * BitVec.ofNat 32 (cOperand (clOf d cl) src sB imm) := by
      cases src <;> simp [cOperand, sNat, BitVec.ofNat_mul]
    rw [hprod]
    exact answers_muls hk h
  case nonzeroField =>
    refine ⟨?_, ?_, ?_⟩ <;> simp [cCheck, hf]

end Sys2Proof.Machine
end

section
/-!
The statement on halts, loops and waits (10 R385 to R388, R391; 07 R273 to R284).
-/
namespace Sys2Proof.Machine

/-! ## Loops and halts (10 R385, R386, R391; 07 R273 to R275) -/

theorem answers_loop {d : Dev} {cl : Fin 512} {src : Bool} {sC : Fin 32} {imm : W32} {endIx : BitVec 12}
    (h : MayIssue d cl { c := .loop src sC imm endIx }) : Answers (.loop cl src sC imm endIx) d fun e =>
      (loopCount (clOf d cl) src sC imm = 0 → (clOf e cl).pc = endIx.toNat + 1 ∧ (clOf e cl).loops = (clOf d cl).loops) ∧
      (loopCount (clOf d cl) src sC imm ≠ 0 → (clOf e cl).pc = (clOf d cl).pc + 1 ∧ (clOf e cl).loops =
        { count := loopCount (clOf d cl) src sC imm, body := (clOf d cl).pc + 1, endIx := endIx.toNat } :: (clOf d cl).loops) := by
  refine answers_issues h (fun _ => rfl) rfl ?_
  obtain ⟨hpc, hloops, -⟩ := tickCluster_issueSlots_seq cl { c := .loop src sC imm endIx } d
  rw [hpc, hloops, nextPc_loop]
  exact ⟨fun h0 => by rw [if_pos h0]; exact ⟨rfl, rfl⟩, fun h0 => by rw [if_neg h0]; exact ⟨rfl, rfl⟩⟩

theorem answers_endloop {d : Dev} {cl : Fin 512} {top : LoopEnt} {rest : List LoopEnt} (h : MayIssue d cl { c := .endloop })
    (hl : (clOf d cl).loops = top :: rest) : Answers (.endloop cl) d fun e =>
      (top.count ≤ 1 → (clOf e cl).pc = (clOf d cl).pc + 1 ∧ (clOf e cl).loops = rest) ∧
      (1 < top.count → (clOf e cl).pc = top.body ∧ (clOf e cl).loops = { top with count := top.count - 1 } :: rest) := by
  refine answers_issues h (fun _ => rfl) rfl ?_
  obtain ⟨hpc, hloops, -⟩ := tickCluster_issueSlots_seq cl { c := .endloop } d
  rw [hpc, hloops, nextPc_endloop hl]
  exact ⟨fun h1 => by rw [if_pos h1]; exact ⟨rfl, rfl⟩, fun h1 => by rw [if_neg h1.not_ge]; exact ⟨rfl, rfl⟩⟩

/-- Once halted, a cluster answers every later BUNDLE_ISSUE by doing nothing. -/
theorem answers_halt {d : Dev} {cl : Fin 512} (h : MayIssue d cl { c := .halt }) (hk : (clOf d cl).tasks = []) :
    Answers (.halt cl) d fun e => (clOf e cl).run = .halted ∧ (clOf e cl).loops = [] ∧
      ∀ later : Bool, Answers (.bundleIssue cl later) e fun f => clOf f cl = clOf e cl := by
  have he : clOf (tickCluster cl (issueSlots cl { c := .halt } d)) cl =
      cycleStart d.whl { clOf d cl with pc := (clOf d cl).pc + 1, run := .halted, loops := [] } := by
    rw [tickCluster_no_tasks (by rw [clOf_issueSlots_halt]; exact hk), clOf_issueSlots_halt, (issueSlots_frame cl _ d).2.1]
  have hrun : (clOf (tickCluster cl (issueSlots cl { c := .halt } d)) cl).run = .halted := by rw [he]; rfl
  refine answers_issues h (fun _ => rfl) rfl ⟨hrun, by rw [he]; rfl, fun later => ?_⟩
  exact answers_bundleIssue_of_not_running (by simpa using h.1) (by simp [hrun]) later rfl

/-! ## Waits for a tick (07 R279, R280; 10 R387) -/

/-- A WAITTICK that the sequencer of a cluster without tasks reaches, and the place of the tick it waits for. -/
structure ReachesWaittick (d : Dev) (cl : Nat) (t : BitVec 16) (next src : Bool) (sT : Fin 32) (lap tick : Nat) : Prop where
  issue : MayIssue d cl { c := .waittick t next src sT }
  idle : (clOf d cl).tasks = []
  ready : waitReachOk (clOf d cl) (.waittick t next src sT) = true
  lap_eq : (if next then ((clOf d cl).wcur + 1) % 4 else (clOf d cl).wcur) = lap
  tick_eq : (if src then sNat (clOf d cl) sT else t.toNat) = tick

/-- A wait that issues alone at a cluster without tasks leaves it running at the next bundle. -/
theorem clOf_tickCluster_wait {cl : Nat} {d : Dev} {s : CSlot} (hk : (clOf d cl).tasks = []) (ht : cTask (clOf d cl) s = none)
    (hn : ∀ k, nextPc k s = { k with pc := k.pc + 1 }) : clOf (tickCluster cl (issueSlots cl { c := s } d)) cl =
      cycleStart d.whl { clOf d cl with run := .running, pc := (clOf d cl).pc + 1 } := by
  have hi : clOf (issueSlots cl { c := s } d) cl = { clOf d cl with run := .running, pc := (clOf d cl).pc + 1 } := by
    rw [clOf_issueSlots_cOnly, hn]
    simp [withCTask, ht]
  rw [tickCluster_no_tasks (by rw [hi]; exact hk), hi, (issueSlots_frame cl _ d).2.1]

section
variable {d : Dev} {cl : Nat} {t : BitVec 16} {next src : Bool} {sT : Fin 32} {lap tick : Nat}

theorem ReachesWaittick.checks (h : ReachesWaittick d cl t next src sT lap tick) :
    (waitReachOk (clOf d cl) (.waittick t next src sT) && cCheck d.whl.w (clOf d cl) (.waittick t next src sT) &&
      decide ((clOf d cl).pc < (clOf d cl).bundleCount)) = true := by
  obtain ⟨hpc, hok⟩ := h.issue.cSlot
  rw [h.ready, hok, decide_eq_true hpc]; rfl

/-- The scalar of a WAITTICK that passes its check is a tick of 16 bits (10 R387). -/
theorem ReachesWaittick.tick_mod (h : ReachesWaittick d cl t next src sT lap tick) :
    (if src then sNat (clOf d cl) sT % 65536 else t.toNat) = tick := by
  obtain ⟨-, hok⟩ := h.issue.cSlot
  have ht := h.tick_eq
  cases src with
  | false => exact ht
  | true =>
    simp only [cCheck, if_true, Bool.and_eq_true, decide_eq_true_eq] at hok ht ⊢
    obtain ⟨-, hlt, -⟩ := hok
    rw [Nat.mod_eq_of_lt hlt, ht]

theorem ReachesWaittick.reach_future (h : ReachesWaittick d cl t next src sT lap tick)
    (hr : reach (lap, tick) (clOf d cl).tv = .future) : reachBundle cl { c := .waittick t next src sT } d =
      tickCluster cl (setCl cl
        { clOf d cl with wcur := lap, run := .waitTick lap tick, held := { c := .waittick t next src sT } } d) := by
  simp only [reachBundle, h.checks, if_true, h.lap_eq, h.tick_mod, hr]

theorem ReachesWaittick.reach_current (h : ReachesWaittick d cl t next src sT lap tick)
    (hr : reach (lap, tick) (clOf d cl).tv = .current) : reachBundle cl { c := .waittick t next src sT } d =
      issueBundle cl { c := .waittick t next src sT } (setCl cl { clOf d cl with wcur := lap } d) := by
  simp only [reachBundle, h.checks, if_true, h.lap_eq, h.tick_mod, hr]

theorem ReachesWaittick.reach_passed (h : ReachesWaittick d cl t next src sT lap tick)
    (hr : reach (lap, tick) (clOf d cl).tv = .passed) : reachBundle cl { c := .waittick t next src sT } d =
      issueBundle cl { c := .waittick t next src sT }
        (setCl cl { clOf d cl with wcur := lap, waitLate := satInc (clOf d cl).waitLate } d) := by
  simp only [reachBundle, h.checks, if_true, h.lap_eq, h.tick_mod, hr]

/-- A WAITTICK whose tick is not to come issues, with the lap and the count of late waits it left. -/
theorem ReachesWaittick.issues (h : ReachesWaittick d cl t next src sT lap tick) (n : Nat) :
    clOf (issueBundle cl { c := .waittick t next src sT } (setCl cl { clOf d cl with wcur := lap, waitLate := n } d)) cl =
      cycleStart d.whl { clOf d cl with wcur := lap, waitLate := n, run := .running, pc := (clOf d cl).pc + 1 } := by
  have hc : clOf (setCl cl { clOf d cl with wcur := lap, waitLate := n } d) cl = { clOf d cl with wcur := lap, waitLate := n } :=
    clOf_setCl_same _ _ _
  rw [issueBundle_ok (by rw [hc]; exact h.issue.checks), clOf_tickCluster_wait (by rw [hc]; exact h.idle) rfl fun _ => rfl, hc]
  rfl

end

theorem answers_waittick {d : Dev} {cl : Fin 512} {t : BitVec 16} {next src : Bool} {sT : Fin 32} {lap tick : Nat}
    (h : ReachesWaittick d cl t next src sT lap tick) :
    (reach (lap, tick) (clOf d cl).tv = .future → Answers (.waittick cl t next src sT) d fun e =>
      (clOf e cl).run = .waitTick lap tick ∧ (clOf e cl).wcur = lap ∧ (clOf e cl).pc = (clOf d cl).pc ∧
        (clOf e cl).held = { c := .waittick t next src sT }) ∧
    (reach (lap, tick) (clOf d cl).tv = .current → Answers (.waittick cl t next src sT) d fun e =>
      Issued cl d e ∧ (clOf e cl).wcur = lap ∧ (clOf e cl).waitLate = (clOf d cl).waitLate) ∧
    (reach (lap, tick) (clOf d cl).tv = .passed → Answers (.waittick cl t next src sT) d fun e =>
      Issued cl d e ∧ (clOf e cl).wcur = lap ∧ (clOf e cl).waitLate = satInc (clOf d cl).waitLate) := by
  refine ⟨fun hr => ?future, fun hr => ?current, fun hr => ?passed⟩ <;> refine answers_issueOne h.issue (fun _ => rfl) ?_
  case future =>
    rw [h.reach_future hr, tickCluster_no_tasks (by rw [clOf_setCl_same]; exact h.idle), clOf_setCl_same]
    exact ⟨rfl, rfl, rfl, rfl⟩
  case current =>
    rw [Issued, h.reach_current hr, h.issues (clOf d cl).waitLate]
    exact ⟨⟨rfl, rfl⟩, rfl, rfl⟩
  case passed =>
    rw [Issued, h.reach_passed hr, h.issues]
    exact ⟨⟨rfl, rfl⟩, rfl, rfl⟩

/-- Once the tick is no longer to come, the held bundle issues at once, however many edges are left (07 R280). -/
theorem waitLoop_reached {cl : Nat} {d : Dev} {lap tick : Nat} (hrun : (clOf d cl).run = .waitTick lap tick)
    (hr : reach (lap, tick) (clOf d cl).tv ≠ .future) (n : Nat) : waitLoop cl n d = issueBundle cl (clOf d cl).held d := by
  unfold waitLoop
  simp [hrun, hr]

theorem answers_waittickRelease {d : Dev} {cl : Fin 512} {lap tick : Nat} (n : Nat) (third : Bool) (hl : d.boot.lost = false)
    (hisl : islandRuns cl d = true) (hrun : (clOf d cl).run = .waitTick lap tick) (hr : reach (lap, tick) (clOf d cl).tv ≠ .future)
    (hok : issueOk d.whl.w { clOf d cl with syncLate := third } (clOf d cl).held = true)
    (hheld : ∃ a b c e, (clOf d cl).held.c = .waittick a b c e) : Answers (.waittickRelease cl n third) d fun e => Issued cl d e := by
  have hc : clOf (modCl cl (fun k => { k with syncLate := third }) d) cl = { clOf d cl with syncLate := third } :=
    clOf_modCl_same _ _ _
  have hop : opWaittickRelease cl n third d =
      tickCluster cl (issueSlots cl (clOf d cl).held (modCl cl (fun k => { k with syncLate := third }) d)) := by
    simp only [opWaittickRelease, hrun]
    rw [waitLoop_reached (by rw [hc]; exact hrun) (by rw [hc]; exact hr), hc, issueBundle_ok (by rw [hc]; exact hok)]
  have hnext (k : Cluster) : nextPc k (clOf d cl).held.c = { k with pc := k.pc + 1 } := by
    obtain ⟨a, b, c, e, hwait⟩ := hheld
    rw [hwait]; rfl
  obtain ⟨hpc, hcyc⟩ := issued_issueSlots (cl := cl) (d := modCl cl (fun k => { k with syncLate := third }) d) hnext
  rw [hc] at hpc hcyc
  refine answers_onIsland hl hisl (fun _ => rfl) ?_
  rw [hop]
  exact ⟨hpc, hcyc⟩

/-! ## Waits for a number of cycles (07 R282; 10 R388) -/

theorem reachBundle_waitcyc {d : Dev} {cl : Nat} {n : BitVec 16} {src : Bool} {sN : Fin 32} {x : Nat}
    (h : MayIssue d cl { c := .waitcyc n src sN }) (hready : waitReachOk (clOf d cl) (.waitcyc n src sN) = true)
    (hx : (if src then sNat (clOf d cl) sN else n.toNat) = x) : reachBundle cl { c := .waitcyc n src sN } d =
      if x = 0 then issueBundle cl { c := .waitcyc n src sN } d
      else tickCluster cl
        (setCl cl { clOf d cl with run := .waitCyc ((clOf d cl).cyc + x), held := { c := .waitcyc n src sN } } d) := by
  obtain ⟨hpc, hok⟩ := h.cSlot
  simp only [reachBundle, hready, hok, decide_eq_true hpc, Bool.and_self, if_true, hx]

theorem answers_waitcyc {d : Dev} {cl : Fin 512} {n : BitVec 16} {src : Bool} {sN : Fin 32} {x : Nat}
    (h : MayIssue d cl { c := .waitcyc n src sN }) (hk : (clOf d cl).tasks = [])
    (hready : waitReachOk (clOf d cl) (.waitcyc n src sN) = true) (hx : (if src then sNat (clOf d cl) sN else n.toNat) = x) :
    (0 < x → Answers (.waitcyc cl n src sN) d fun e => (clOf e cl).run = .waitCyc ((clOf d cl).cyc + x) ∧
      (clOf e cl).pc = (clOf d cl).pc ∧ (clOf e cl).held = { c := .waitcyc n src sN }) ∧
    (x = 0 → Answers (.waitcyc cl n src sN) d fun e => Issued cl d e) := by
  have hb := reachBundle_waitcyc h hready hx
  refine ⟨fun hpos => answers_issueOne h (fun _ => rfl) ?_, fun h0 => ?_⟩
  · rw [hb, if_neg hpos.ne', tickCluster_no_tasks (by rw [clOf_setCl_same]; exact hk), clOf_setCl_same]
    exact ⟨rfl, rfl, rfl⟩
  · exact answers_issues h (fun _ => rfl) (by rw [hb, if_pos h0]) (issued_issueSlots fun _ => rfl)

/-- While nothing is under way, cycles without an issue leave the sequencer as it was and count. -/
theorem runCycles_no_tasks {cl : Nat} (n : Nat) {d : Dev} (h : (clOf d cl).tasks = []) :
    seqOf (clOf (runCycles cl n d) cl) = ((clOf d cl).pc, (clOf d cl).loops, (clOf d cl).cyc + n) ∧
      (clOf (runCycles cl n d) cl).run = (clOf d cl).run ∧ (clOf (runCycles cl n d) cl).tasks = [] ∧
      (clOf (runCycles cl n d) cl).bundleCount = (clOf d cl).bundleCount := by
  induction n generalizing d with
  | zero => exact ⟨rfl, rfl, h, rfl⟩
  | succ n ih =>
    have ht := tickCluster_no_tasks h
    obtain ⟨hseq, hrun, htasks, hcount⟩ := ih (d := tickCluster cl d) (by rw [ht]; simp [cycleStart, h])
    rw [ht] at hseq hrun hcount
    exact ⟨hseq.trans (by simp [cycleStart]; omega), hrun, htasks, hcount⟩

theorem answers_waitcycRelease {d : Dev} {cl : Fin 512} {till : Nat} (hl : d.boot.lost = false) (hisl : islandRuns cl d = true)
    (hrun : (clOf d cl).run = .waitCyc till) (htill : (clOf d cl).cyc ≤ till) (hk : (clOf d cl).tasks = [])
    (hloops : (clOf d cl).loops = []) (hpc : (clOf d cl).pc < (clOf d cl).bundleCount)
    (hheld : (clOf d cl).held = { c := .waitcyc 1 false 0 }) : Answers (.waitcycRelease cl) d fun e =>
      (clOf e cl).pc = (clOf d cl).pc + 1 ∧ (clOf e cl).cyc = till + 1 ∧ (clOf e cl).run = .running := by
  obtain ⟨hseq, hrun', hk', hcount⟩ := runCycles_no_tasks (till - (clOf d cl).cyc) hk
  simp only [seqOf, Prod.mk.injEq] at hseq
  obtain ⟨hpc', hloops', hcyc⟩ := hseq
  have hop : opWaitcycRelease cl d =
      tickCluster cl (issueSlots cl { c := .waitcyc 1 false 0 } (runCycles cl (till - (clOf d cl).cyc) d)) := by
    unfold opWaitcycRelease cycRelease
    simp only [hrun, hrun', if_true, hheld]
    refine issueBundle_ok ?_
    rw [issueOk_cOnly]
    simp [hpc', hcount, hpc, cCheck, hloops', hloops]
  refine answers_onIsland hl hisl (fun _ => rfl) ?_
  rw [hop, clOf_tickCluster_wait hk' rfl fun _ => rfl]
  refine ⟨congrArg (· + 1) hpc', congrArg (· + 1) (hcyc.trans ?_), rfl⟩
  omega

/-- Settles O33, one control instruction or release of a wait at a time. -/
theorem controlFlow : Obligations.ControlFlow := by
  unfold Obligations.ControlFlow
  refine fun d cl => ⟨fun _ _ _ _ => answers_loop, fun _ _ => answers_endloop, answers_halt, ?waittick, ?waittickRelease,
    ?waitcyc, fun _ => answers_waitcycRelease⟩
  case waittick =>
    intro t next src sT lap tick h hk hready hlap htick
    exact answers_waittick ⟨h, hk, hready, hlap.symm, htick.symm⟩
  case waittickRelease =>
    intro n third lap tick
    exact answers_waittickRelease n third
  case waitcyc =>
    intro n src sN x h hk hready hx
    exact answers_waitcyc h hk hready hx.symm

end Sys2Proof.Machine
end

section
/-!
The statements of 12_oliwell_image_and_loader.md: images are staged, verified, loaded and unloaded, their bucket is chosen (12 R434 to
R442; 15 R516 to R519), and a shared core runs a long command in steps (13 R446; log entry 109).
-/
namespace Sys2Proof.Machine

/-! ## Steps of a long command (13 R446) -/

theorem runCmd_step {d : Dev} {r op : Nat} {c : Cmd} (h : nextCmd d r op = some c) (hop : isLong op = true) (hs : 0 < c.steps)
    (body : Cmd → Dev → Dev) : runCmd r op body d = modCmd c.id (fun c => { c with steps := c.steps - 1 }) (tookTurn r d) := by
  simp [runCmd, h, hop, hs]

/-- A command with no step left before its last runs its own checks and effect. -/
theorem runCmd_last {d : Dev} {r op : Nat} {c : Cmd} (h : nextCmd d r op = some c) (hs : c.steps = 0) (body : Cmd → Dev → Dev) :
    runCmd r op body d = body c (tookTurn r d) := by
  simp [runCmd, h, hs]

/-- The last step of a tenancy's command passes the checks on its issuer and its grant (15 R510, R511). -/
theorem runTen_last {d : Dev} {r op t : Nat} {c : Cmd} (h : NextFor d r op t c) (hs : c.steps = 0) (body : Nat → Cmd → Dev → Dev) :
    runTen r op body d = body t c (tookTurn r d) := by
  obtain ⟨hnext, hten, hlt, hclass⟩ := h
  rw [runTen, runCmd_last hnext hs]
  simp [hten, Nat.not_le.mpr hlt, hclass]

/-- A step before the last touches the command's count of steps alone. -/
theorem answers_longStep {i : Instr} {d : Dev} {r op : Nat} {c : Cmd} {body : Nat → Cmd → Dev → Dev} (hu : ControlUp d)
    (hi : ∀ s, exec i s = onControl s (runTen r op body)) (hop : isLong op = true) (hn : nextCmd d r op = some c) (hs : 0 < c.steps) :
    Answers i d fun e => e.ten = d.ten ∧ e.mem = d.mem ∧ e.cl = d.cl ∧
      ∃ y ∈ e.host.cmds, y.id = c.id ∧ y.stage = c.stage ∧ y.steps = c.steps - 1 := by
  refine answers_onControl hu hi ?_
  rw [runTen, runCmd_step hn hop hs]
  refine ⟨by simp, by simp, by simp, { c with steps := c.steps - 1 }, ?_, rfl, rfl, rfl⟩
  exact List.mem_map.mpr ⟨c, by simpa using mem_of_nextCmd hn, by simp⟩

/-! ## Requests for host data (15 R512) -/

@[simp] theorem issueOut_cmds (fn : Nat) (o : Out) (d : Dev) : (issueOut fn o d).host.cmds = d.host.cmds := by
  unfold issueOut; split <;> rfl

@[simp] theorem issueOut_fetches (fn : Nat) (o : Out) (d : Dev) : (issueOut fn o d).host.fetches = d.host.fetches := by
  unfold issueOut; split <;> rfl

theorem asked_fetchData {d : Dev} {c : Cmd} (h : c ∈ d.host.cmds) (addr len : Nat) :
    Asked (fetchData c addr len d) c.id addr len := by
  refine ⟨⟨{ c with stage := .fetch }, ?_, rfl, rfl⟩,
    { id := d.host.nextId, why := .data c.id, fn := cmdFn d c, addr := addr, len := len }, ?_, rfl, rfl, rfl⟩
  · simpa [fetchData, issueFetch] using ⟨c, h, by simp⟩
  · simp [fetchData, issueFetch, cmdFn, ringOf]

@[simp] theorem tenOf_fetchData (c : Cmd) (addr len : Nat) (d : Dev) (t : Nat) : tenOf (fetchData c addr len d) t = tenOf d t :=
  tenOf_congr (by simp) t

@[simp] theorem tenOf_finish (id st r0 r1 : Nat) (d : Dev) (t : Nat) : tenOf (finish id st r0 r1 d) t = tenOf d t :=
  tenOf_congr (by simp) t

theorem SettledWith.settled {d : Dev} {id st r0 r1 : Nat} (h : SettledWith d id st r0 r1) : Settled d id st := by
  obtain ⟨c, hc, hid, hstage, hst, -⟩ := h
  exact ⟨c, hc, hid, hstage, hst⟩

/-! ## IMAGE_STAGE (15 R516) and IMAGE_VERIFY (15 R517) -/

theorem opImageStage_ready {d : Dev} {r t : Nat} {c : Cmd} (h : NextFor d r 0x100 t c) (hstage : c.stage = .ready)
    (hst : (tenOf d t).st = .vacant) (hload : (tenOf d t).loading = none) (haddr : pkField c.pkt 16 8 % 64 = 0) :
    opImageStage r d = fetchData c (pkField c.pkt 16 8) 192 (tookTurn r d) := by
  rw [opImageStage, runTen_next h rfl]
  simp [hstage, hst, hload, haddr, inStates, loadRuns]

/-- What a header in order leaves of a tenancy that stages its image. -/
def stagedWith (addr len : Nat) (data : List Byte) (x : Tenancy) : Tenancy :=
  { x with
    st := .staged, stagedAddr := addr, stagedLen := len, stagedHead := data.take 192, imageId := imgField (imgArray data) 16 8 }

theorem opImageStage_fetched {d : Dev} {r t : Nat} {c : Cmd} (h : NextFor d r 0x100 t c) (hstage : c.stage = .fetched)
    (hstatus : c.status = 0) (hst : (tenOf d t).st = .vacant) (hload : (tenOf d t).loading = none)
    (hhead : headerOk (imgArray c.data) (pkField c.pkt 24 4) = true) :
    opImageStage r d = finish c.id 0 (imgField (imgArray c.data) 16 8) 0
      (modTen t (stagedWith (pkField c.pkt 16 8) (pkField c.pkt 24 4) c.data) (tookTurn r d)) := by
  rw [opImageStage, runTen_next h rfl]
  simp [hstage, hstatus, hst, hload, hhead, inStates, loadRuns, sTimeout, sOk]
  rfl

theorem opImageVerify_ready {d : Dev} {r t : Nat} {c : Cmd} (h : NextFor d r 0x101 t c) (hs : c.steps = 0) (hstage : c.stage = .ready)
    (hst : (tenOf d t).st = .staged) (hload : (tenOf d t).loading = none) :
    opImageVerify r d = fetchData c (tenOf d t).stagedAddr (tenOf d t).stagedLen (tookTurn r d) := by
  rw [opImageVerify, runTen_last h hs]
  simp [hstage, hst, hload]

theorem opImageVerify_fetched {d : Dev} {r t : Nat} {c : Cmd} (h : NextFor d r 0x101 t c) (hs : c.steps = 0)
    (hstage : c.stage = .fetched) (hstatus : c.status = 0)
    (hok : verifyRefuse d.whl (imgArray c.data) (tenOf d t).stagedLen = none) :
    opImageVerify r d = finish c.id 0 0 0 (tookTurn r d) := by
  rw [opImageVerify, runTen_last h hs]
  simp [hstage, hstatus, hok, sTimeout, sOk]

/-! ## IMAGE_LOAD (12 R435 to R442) -/

@[simp] theorem isClearing_tookTurn (r : Nat) (d : Dev) (t : Nat) : isClearing (tookTurn r d) t = isClearing d t := by
  simp [isClearing]

theorem opImageLoad_ready {d : Dev} {r t : Nat} {c : Cmd} (h : NextFor d r 0x102 t c) (hs : c.steps = 0) (hstage : c.stage = .ready)
    (hst : (tenOf d t).st = .staged) (hload : (tenOf d t).loading = none) (hclear : isClearing d t = false) :
    opImageLoad r d = fetchData c (tenOf d t).stagedAddr (tenOf d t).stagedLen
      (modTen t (fun x => { x with loading := some c.id, loadGrant := grantOf d t }) (tookTurn r d)) := by
  rw [opImageLoad, runTen_last h hs]
  simp [hstage, hst, hload, hclear]

/-- An image that passes the load's checks under the grant in force when the load started (12 R436, R441). -/
structure LoadPasses (d : Dev) (r t : Nat) (c : Cmd) (g : Dev) : Prop where
  next : NextFor d r 0x102 t c
  last : c.steps = 0
  fetched : c.stage = .fetched
  status : c.status = 0
  seen : g = withGrant t (tenOf d t).loadGrant (tookTurn r d)
  passes : loadFailure t (tenOf d t).stagedHead (tenOf d t).stagedLen (imgArray c.data) g = none

theorem opImageLoad_passes {d g : Dev} {r t : Nat} {c : Cmd} (h : LoadPasses d r t c g) :
    opImageLoad r d =
      if storeStruck g t (imgArray c.data) || routeStruck g (imgArray c.data) then
        refuse c { check := 0x1E } (modTen t (fun x => { x with loading := none }) (undoWrites t (imgArray c.data) g (tookTurn r d)))
      else finish c.id 0 (imgField (imgArray c.data) 16 8) (mapped g t (imgArray c.data)).length
        { applyLoad t (imgArray c.data) g with grants := d.grants } := by
  obtain ⟨hn, hs, hstage, hstatus, hg, hok⟩ := h
  rw [opImageLoad, runTen_last hn hs]
  simp [hstage, hstatus, hok, ← hg, sTimeout, sOk]

theorem applyLoad_st (t : Nat) (b : Array Byte) (d : Dev) : (tenOf (applyLoad t b d) t).st = .loaded := by
  simp [applyLoad]

theorem applyLoad_loading (t : Nat) (b : Array Byte) (d : Dev) : (tenOf (applyLoad t b d) t).loading = none := by
  simp [applyLoad]

theorem applyLoad_image (t : Nat) (b : Array Byte) (d : Dev) : (tenOf (applyLoad t b d) t).image = some (loadedOf d t b) := by
  simp [applyLoad]

theorem answers_imageLoad_loaded {d g : Dev} {r : Fin 1024} {t : Nat} {c : Cmd} (hu : ControlUp d) (h : LoadPasses d r t c g)
    (hstore : storeStruck g t (imgArray c.data) = false) (hroute : routeStruck g (imgArray c.data) = false) :
    Answers (.imageLoad r) d fun e =>
      SettledWith e c.id 0 (imgField (imgArray c.data) 16 8) (mapped g t (imgArray c.data)).length ∧ (tenOf e t).st = .loaded ∧
        (tenOf e t).loading = none ∧ (tenOf e t).image.isSome = true ∧ e.grants = d.grants := by
  refine answers_onControl hu (fun _ => rfl) ?_
  have hc : c ∈ g.host.cmds := by simpa [h.seen] using mem_of_nextCmd h.next.1
  rw [opImageLoad_passes h, if_neg (by simp [hstore, hroute])]
  refine ⟨settledWith_finish (by simpa using hc) .., ?_, ?_, ?_, by simp⟩ <;> rw [tenOf_finish]
  · exact applyLoad_st t _ g
  · exact applyLoad_loading t _ g
  · exact congrArg Option.isSome (applyLoad_image t _ g)

theorem answers_imageLoad_struck {d g : Dev} {r : Fin 1024} {t : Nat} {c : Cmd} (hu : ControlUp d) (h : LoadPasses d r t c g)
    (hstruck : storeStruck g t (imgArray c.data) = true ∨ routeStruck g (imgArray c.data) = true) :
    Answers (.imageLoad r) d fun e =>
      SettledWith e c.id 6 (res0Of 0x1E 0xFF 0xFF 0xFF 0xFFFFFFFF) 0xFFFFFFFF ∧ (tenOf e t).st = (tenOf d t).st ∧
        (tenOf e t).loading = none ∧ (tenOf e t).image = (tenOf d t).image ∧ e.grants = d.grants := by
  refine answers_onControl hu (fun _ => rfl) ?_
  have hten : tenOf (undoWrites t (imgArray c.data) g (tookTurn r d)) t = tenOf d t := tenOf_congr (by simp) t
  rw [opImageLoad_passes h, if_pos (by simpa using hstruck)]
  exact ⟨settledWith_finish (by simpa using mem_of_nextCmd h.next.1) .., by simp [refuse, hten], by simp [refuse],
    by simp [refuse, hten], by simp⟩

/-! ## What the end of an image leaves of its command and its tenancy (15 R518) -/

@[simp] theorem sendMsix_cmds (fn v : Nat) (d : Dev) : (sendMsix fn v d).host.cmds = d.host.cmds := by
  unfold sendMsix; dsimp only; (repeat' split) <;> simp [modFunc]

@[simp] theorem raiseCause_cmds (t b : Nat) (d : Dev) : (raiseCause t b d).host.cmds = d.host.cmds := by
  unfold raiseCause; dsimp only; split <;> simp

@[simp] theorem raiseCause_image (t b : Nat) (d : Dev) (k : Nat) : (tenOf (raiseCause t b d) k).image = (tenOf d k).image := by
  rw [tenOf_congr (raiseCause_ten t b d)]
  by_cases h : k = t
  · subst h; simp
  · simp [h]

@[simp] theorem bsuReset_cmds (u cause : Nat) (d : Dev) : (bsuReset u cause d).host.cmds = d.host.cmds := by
  unfold bsuReset; dsimp only; (repeat' split) <;> simp

@[simp] theorem bsuReset_image (u cause : Nat) (d : Dev) (k : Nat) : (tenOf (bsuReset u cause d) k).image = (tenOf d k).image := by
  have hten (f : Bsu → Bsu) : tenOf (modBsu u f d) k = tenOf d k := tenOf_congr (by simp) k
  unfold bsuReset; dsimp only; (repeat' split) <;> simp [hten]

/-- The identifiers of the commands that the control domain holds. -/
def cmdIds (d : Dev) : List Nat := d.host.cmds.map (·.id)

theorem cmdIds_congr {d e : Dev} (h : d.host.cmds = e.host.cmds) : cmdIds d = cmdIds e := by simp [cmdIds, h]

@[simp] theorem cmdIds_tookTurn (r : Nat) (d : Dev) : cmdIds (tookTurn r d) = cmdIds d := cmdIds_congr (by simp)

@[simp] theorem cmdIds_modTen (t : Nat) (f : Tenancy → Tenancy) (d : Dev) : cmdIds (modTen t f d) = cmdIds d := rfl

@[simp] theorem cmdIds_modBsu (u : Nat) (f : Bsu → Bsu) (d : Dev) : cmdIds (modBsu u f d) = cmdIds d := rfl

@[simp] theorem cmdIds_abortCmds (p : Cmd → Bool) (st fault : Nat) (gc : Option Nat) (d : Dev) :
    cmdIds (abortCmds p st fault gc d) = cmdIds d := by
  simp only [cmdIds, abortCmds, modHost, List.map_map]
  refine List.map_congr_left fun c _ => ?_
  simp only [Function.comp]
  split <;> rfl

/-- The release of units may end a command, but drops none. -/
@[simp] theorem cmdIds_releaseUnits (t : Nat) (d : Dev) : cmdIds (releaseUnits t d) = cmdIds d := by
  refine foldl_keeps cmdIds _ (fun a u => ?_) _ d
  split
  · simp [failFlush, cmdIds_congr (bsuReset_cmds u 4 a)]
  · simp

theorem releaseUnits_image (t : Nat) (d : Dev) (k : Nat) : (tenOf (releaseUnits t d) k).image = (tenOf d k).image := by
  refine foldl_keeps (fun d => (tenOf d k).image) _ (fun a u => ?_) _ d
  split
  · exact (congrArg Tenancy.image (tenOf_congr (e := bsuReset u 4 a) (by simp) k)).trans (bsuReset_image u 4 a k)
  · rfl

theorem clearImage_image (t : Nat) (d : Dev) : (tenOf (clearImage t d) t).image = none := by
  unfold clearImage
  split
  case h_1 him => rw [tenOf_congr (e := d) (by simp), him]
  case h_2 => simp

@[simp] theorem cmdIds_beginDrain (t : Nat) (d : Dev) : cmdIds (beginDrain t d) = cmdIds d := by
  have hclear : cmdIds (clearImage t d) = cmdIds d := cmdIds_congr (by simp)
  simp [beginDrain, hclear]

theorem beginDrain_st (t : Nat) (d : Dev) : (tenOf (beginDrain t d) t).st = .draining := by simp [beginDrain]

theorem beginDrain_image (t : Nat) (d : Dev) : (tenOf (beginDrain t d) t).image = none := by
  simp [beginDrain, releaseUnits_image, clearImage_image]

theorem becomeVacant_held {t : Nat} {d : Dev} (h : recClass (grantOf d t) ≠ 0) :
    becomeVacant t d = modTen t vacated (releaseUnits t (stopChannels (recTmr (grantOf d t)) d)) := by
  simp [becomeVacant, h]

theorem cmdIds_becomeVacant {t : Nat} {d : Dev} (h : recClass (grantOf d t) ≠ 0) : cmdIds (becomeVacant t d) = cmdIds d := by
  have hstop (mask : Nat) : cmdIds (stopChannels mask d) = cmdIds d := cmdIds_congr (by simp)
  simp [becomeVacant_held h, hstop]

theorem becomeVacant_st {t : Nat} {d : Dev} (h : recClass (grantOf d t) ≠ 0) : (tenOf (becomeVacant t d) t).st = .vacant := by
  simp [becomeVacant_held h, vacated]

theorem mem_cmdIds_of_nextCmd {d : Dev} {r op : Nat} {c : Cmd} (h : nextCmd d r op = some c) : c.id ∈ cmdIds d :=
  List.mem_map_of_mem (mem_of_nextCmd h)

theorem settledWith_finish_of_mem_cmdIds {d : Dev} {id : Nat} (h : id ∈ cmdIds d) (st r0 r1 : Nat) :
    SettledWith (finish id st r0 r1 d) id st r0 r1 := by
  obtain ⟨c, hc, rfl⟩ := List.mem_map.mp h
  exact settledWith_finish hc st r0 r1

theorem armed_armCmd_of_mem_cmdIds {d : Dev} {id : Nat} (h : id ∈ cmdIds d) (count aux : Nat) :
    Armed (armCmd id count aux d) id count := by
  obtain ⟨c, hc, rfl⟩ := List.mem_map.mp h
  exact armed_armCmd hc count aux

/-! ## IMAGE_UNLOAD (15 R518) and BUCKET_SELECT (15 R519) -/

theorem opImageUnload_staged {d : Dev} {r t : Nat} {c : Cmd} (h : NextFor d r 0x103 t c) (hload : (tenOf d t).loading = none)
    (hst : (tenOf d t).st = .staged) :
    opImageUnload r d = finish c.id 0 0 0 (becomeVacant t (modTen t clearDigests (tookTurn r d))) := by
  rw [opImageUnload, runTen_next h rfl]
  simp [hload, hst, loadRuns, sOk]

theorem opImageUnload_loaded {d : Dev} {r t : Nat} {c : Cmd} (h : NextFor d r 0x103 t c) (hload : (tenOf d t).loading = none)
    (hst : (tenOf d t).st = .loaded) :
    opImageUnload r d =
      armCmd c.id (partBytes (grantParts (grantOf d t))) t (beginDrain t (modTen t clearDigests (tookTurn r d))) := by
  rw [opImageUnload, runTen_next h rfl]
  simp [hload, hst, loadRuns]

theorem answers_imageUnload_staged {d : Dev} {r : Fin 1024} {t : Nat} {c : Cmd} (hu : ControlUp d) (h : NextFor d r 0x103 t c)
    (hload : (tenOf d t).loading = none) (hst : (tenOf d t).st = .staged) :
    Answers (.imageUnload r) d fun e => (tenOf e t).st = .vacant ∧ SettledWith e c.id 0 0 0 := by
  refine answers_onControl hu (fun _ => rfl) ?_
  have ⟨hnext, _, _, hgrant⟩ := h
  have hclass : recClass (grantOf (modTen t clearDigests (tookTurn r d)) t) ≠ 0 := by
    simpa [grantOf_congr (e := tookTurn r d) (modTen_grants ..)] using hgrant
  rw [opImageUnload_staged h hload hst]
  refine ⟨by simp [becomeVacant_st hclass], settledWith_finish_of_mem_cmdIds ?_ ..⟩
  simpa [cmdIds_becomeVacant hclass] using mem_cmdIds_of_nextCmd hnext

theorem answers_imageUnload_loaded {d : Dev} {r : Fin 1024} {t : Nat} {c : Cmd} (hu : ControlUp d) (h : NextFor d r 0x103 t c)
    (hload : (tenOf d t).loading = none) (hst : (tenOf d t).st = .loaded) :
    Answers (.imageUnload r) d fun e =>
      (tenOf e t).st = .draining ∧ (tenOf e t).image = none ∧ ∃ x ∈ e.host.cmds, x.id = c.id ∧ x.stage = .armed := by
  refine answers_onControl hu (fun _ => rfl) ?_
  rw [opImageUnload_loaded h hload hst, tenOf_armCmd]
  obtain ⟨x, hx, hid, hstage, -⟩ := armed_armCmd_of_mem_cmdIds (d := beginDrain t (modTen t clearDigests (tookTurn r d)))
    (by simpa using mem_cmdIds_of_nextCmd h.1) (partBytes (grantParts (grantOf d t))) t
  exact ⟨beginDrain_st .., beginDrain_image .., x, hx, hid, hstage⟩

theorem opBucketSelect_unrecorded {d : Dev} {r t : Nat} {c : Cmd} {im : Loaded} (h : NextFor d r 0x104 t c)
    (hload : (tenOf d t).loading = none) (hst : (tenOf d t).st = .loaded) (him : (tenOf d t).image = some im)
    (hrec : recording (tenOf d t) c.pkt = false) (hk : pkField c.pkt 16 1 < im.numBuckets ∨ pkField c.pkt 16 1 = 255) :
    opBucketSelect r d = finish c.id 0 0 0 (modTen t (fun x => { x with bucket := pkField c.pkt 16 1 }) (tookTurn r d)) := by
  have hin : ¬(im.numBuckets ≤ pkField c.pkt 16 1 ∧ pkField c.pkt 16 1 ≠ 255) := by omega
  rw [opBucketSelect, runTen_next h rfl]
  simp [hload, hst, him, hrec, hin, sOk]

/-! ## What the image commands answer -/

/-- Settles O52, one command and one of its stages at a time. -/
theorem imageCommands : Obligations.ImageCommands := by
  intro d r c t hu
  refine ⟨?steps, ?stage, ?stageFetched, ?verify, ?verifyFetched, ?load, ?loadFetched, answers_imageUnload_staged hu,
    answers_imageUnload_loaded hu, ?bucket⟩
  case steps =>
    intro x hx hn hs
    simp only [List.mem_cons, List.not_mem_nil, or_false] at hx
    obtain rfl | rfl | rfl | rfl | rfl | rfl := hx <;> exact answers_longStep hu (fun _ => rfl) rfl hn hs
  case stage =>
    intro h hstage hst hload haddr
    refine answers_onControl hu (fun _ => rfl) ?_
    rw [opImageStage_ready h hstage hst hload haddr]
    exact ⟨asked_fetchData (by simpa using mem_of_nextCmd h.1) .., by simpa using hst⟩
  case stageFetched =>
    intro h hstage hstatus hst hload hhead
    refine answers_onControl hu (fun _ => rfl) ?_
    rw [opImageStage_fetched h hstage hstatus hst hload hhead]
    refine ⟨(settledWith_finish (by simpa using mem_of_nextCmd h.1) ..).settled, ?_, ?_, ?_, ?_⟩ <;>
      simp [stagedWith]
  case verify =>
    intro h hs hstage hst hload
    refine answers_onControl hu (fun _ => rfl) ?_
    rw [opImageVerify_ready h hs hstage hst hload]
    exact asked_fetchData (by simpa using mem_of_nextCmd h.1) ..
  case verifyFetched =>
    intro h hs hstage hstatus hok
    refine answers_onControl hu (fun _ => rfl) ?_
    rw [opImageVerify_fetched h hs hstage hstatus hok]
    exact ⟨settledWith_finish (by simpa using mem_of_nextCmd h.1) .., by simp, by simp⟩
  case load =>
    intro h hs hstage hst hload hclear
    refine answers_onControl hu (fun _ => rfl) ?_
    rw [opImageLoad_ready h hs hstage hst hload hclear]
    exact ⟨asked_fetchData (by simpa using mem_of_nextCmd h.1) .., by simp⟩
  case loadFetched =>
    intro g hg h hs hstage hstatus hok
    have hp : LoadPasses d r t c g := ⟨h, hs, hstage, hstatus, hg, hok⟩
    exact ⟨answers_imageLoad_loaded hu hp, answers_imageLoad_struck hu hp⟩
  case bucket =>
    intro im h hload hst him hrec hk
    refine answers_onControl hu (fun _ => rfl) ?_
    rw [opBucketSelect_unrecorded h hload hst him hrec hk]
    exact ⟨by simp, settledWith_finish (by simpa using mem_of_nextCmd h.1) .., by simp⟩

end Sys2Proof.Machine
end

section
/-!
The statement of 15_command_reference.md on counts that commands wait for (R529 to R533).
-/
namespace Sys2Proof.Machine

/-! ## Two commands with one identifier -/

/-- Settling goes by identifier: whatever commands carry it, each of them is settled at the count. -/
theorem gcDone_of_mem_finishAt {id st r0 r1 gc : Nat} {d : Dev} {x : Cmd} (hx : x ∈ (finishAt id st r0 r1 gc d).host.cmds)
    (hid : x.id = id) : x.gcDone = some gc := by
  obtain ⟨c, -, rfl⟩ := List.mem_map.mp hx
  split at hid
  next hc => rw [if_pos hc]
  next hc => exact absurd hid hc

/-- A posted WAIT_COUNT with identifier 0. -/
def postedWait (count : Nat) : Cmd := { id := 0, ring := 0, pkt := 0x306, stage := .armed, count := count }

/-- Tick 0 of wheel 1, GC 8,192, where the counts 0 and 8,192 are both due. The statement quantifies over every device, and so over
this one, though COMMAND_START takes each identifier from nextId. -/
def waitsShareId : Dev :=
  { clk := { pll := [(0, { ungated := true }), (1, { ungated := true })] }, whl := { n := 1 }
    host := { cmds := [postedWait 0, postedWait 8192] } }

theorem opWaitCountReached_waitsShareId :
    opWaitCountReached waitsShareId = finishAt 0 sOk 0 0 8192 (finishAt 0 sOk 0 0 0 waitsShareId) := by
  have hdue : (openCmds waitsShareId fun c => opcodeOf c == 0x306 && c.stage == .armed && countDue waitsShareId.whl c.count) =
      [postedWait 0, postedWait 8192] := by decide +kernel
  rw [opWaitCountReached, hdue]
  rfl

/-- Refutes O41: the statement does not say that the identifiers of commands differ. Where two WAIT_COUNTs that are due at one
boundary share one, the second settles both, and no reply is left whose GC_DONE is the count of the first (R533). -/
theorem not_countsReached : ¬ Obligations.CountsReached := by
  unfold Obligations.CountsReached
  rintro ⟨hreached, -⟩
  obtain ⟨-, -, -, -, hwait⟩ := hreached waitsShareId 0 { launch := 0, completion := 0, bucket := 0, words := [], cmd := 0 }
    (postedWait 0) ⟨rfl, rfl⟩ rfl rfl (by decide)
  obtain ⟨e, he, x, hx, hid, -, -, hgc⟩ := hwait (by simp [waitsShareId]) (by decide +kernel) rfl []
  have hexec : exec .waitCountReached ⟨[], waitsShareId⟩ = .next ⟨[], opWaitCountReached waitsShareId⟩ :=
    onControl_eq (s := ⟨[], waitsShareId⟩) rfl rfl opWaitCountReached
  obtain rfl : opWaitCountReached waitsShareId = e := by simpa using hexec.symm.trans he
  rw [opWaitCountReached_waitsShareId] at hx
  have hlate := gcDone_of_mem_finishAt hx hid
  simp [hlate, postedWait] at hgc

end Sys2Proof.Machine
end

section
/-!
What every step keeps: the parts of the device outside a command's touched parts (01 to 23, each section read as a whole), the canonical
form of memory (06 R224, R241), the fuse map (01 R31 to R33), and the order of the records of the grants (14 R478; 23 R766).
-/
namespace Sys2Proof.Machine

/-! ## Parts that two devices share -/

/-- Every part of the device but those listed is as it was. -/
def SameOutside (ps : List Part) (d e : Dev) : Prop := ∀ p : Part, p ∉ ps → Same p d e

theorem sameOutside_iff {ps : List Part} {d e : Dev} : SameOutside ps d e ↔
    (.clk ∉ ps → e.clk = d.clk) ∧ (.whl ∉ ps → e.whl = d.whl) ∧ (.span ∉ ps → e.span = d.span) ∧ (.fab ∉ ps → e.fab = d.fab) ∧
    (.lnk ∉ ps → e.lnk = d.lnk) ∧ (.mem ∉ ps → e.mem = d.mem) ∧ (.cells ∉ ps → e.mem.cells = d.mem.cells) ∧ (.cl ∉ ps → e.cl = d.cl) ∧
    (.ten ∉ ps → e.ten = d.ten) ∧ (.grants ∉ ps → e.grants = d.grants) ∧ (.host ∉ ps → e.host = d.host) ∧ (.dma ∉ ps → e.dma = d.dma) ∧
    (.bsu ∉ ps → e.bsu = d.bsu) ∧ (.tmr ∉ ps → e.tmr = d.tmr) ∧ (.boot ∉ ps → e.boot = d.boot) ∧ (.power ∉ ps → e.power = d.power) ∧
    (.board ∉ ps → e.board = d.board) ∧ (.flash ∉ ps → e.flash = d.flash) ∧ (.mail ∉ ps → e.mail = d.mail) ∧ (.fuse ∉ ps → e.fuse = d.fuse) := by
  constructor
  · intro h
    exact ⟨h _, h _, h _, h _, h _, h _, h _, h _, h _, h _, h _, h _, h _, h _, h _, h _, h _, h _, h _, h _⟩
  · rintro ⟨hclk, hwhl, hspan, hfab, hlnk, hmem, hcells, hcl, hten, hgrants, hhost, hdma, hbsu, htmr, hboot, hpower, hboard, hflash,
      hmail, hfuse⟩ p hp
    cases p with
    | clk => exact hclk hp
    | whl => exact hwhl hp
    | span => exact hspan hp
    | fab => exact hfab hp
    | lnk => exact hlnk hp
    | mem => exact hmem hp
    | cells => exact hcells hp
    | cl => exact hcl hp
    | ten => exact hten hp
    | grants => exact hgrants hp
    | host => exact hhost hp
    | dma => exact hdma hp
    | bsu => exact hbsu hp
    | tmr => exact htmr hp
    | boot => exact hboot hp
    | power => exact hpower hp
    | board => exact hboard hp
    | flash => exact hflash hp
    | mail => exact hmail hp
    | fuse => exact hfuse hp

theorem SameOutside.refl (ps : List Part) (d : Dev) : SameOutside ps d d := fun p _ => by cases p <;> rfl

theorem sameOutside_onlyIf_iff {ps : List Part} {c : Dev → Bool} {f : Dev → Dev} {d : Dev} :
    SameOutside ps d (onlyIf c f d) ↔ (c d = true → SameOutside ps d (f d)) := by
  unfold onlyIf
  split
  case isTrue h => simp [h]
  case isFalse h => simp [h, SameOutside.refl]

/-! ## The commands of a cluster (07 R243) -/

/-- What a command of a cluster does to the device: it issues a bundle, lets time pass to a pending write, or releases a wait. -/
inductive TileEffect (cl : Nat) : (Dev → Dev) → Prop
  | one (b : Bundle) : TileEffect cl (opIssueOne cl b)
  | fetched (third : Bool) : TileEffect cl (opBundleIssue cl third)
  | pending : TileEffect cl (opPendingWriteEffect cl)
  | tick (n : Nat) (third : Bool) : TileEffect cl (opWaittickRelease cl n third)
  | cycle : TileEffect cl (opWaitcycRelease cl)

theorem exec_tile {c : Instr} {cl : Nat} (hc : tileCluster c = some cl) :
    ∃ f, TileEffect cl f ∧ ∀ s, exec c s = onIsland cl s f := by
  cases c with
  | bundleIssue _ third => cases hc; exact ⟨_, .fetched third, fun _ => rfl⟩
  | pendingWriteEffect => cases hc; exact ⟨_, .pending, fun _ => rfl⟩
  | waittickRelease _ n third => cases hc; exact ⟨_, .tick n third, fun _ => rfl⟩
  | waitcycRelease => cases hc; exact ⟨_, .cycle, fun _ => rfl⟩
  | mma | mmaz | mmat | acczero | accload | accdrain | vadd | vsub | vmul | vfma | vmax | vmin | vexp | vlog | vrcp | vrsq | vcvt | vsel
  | vcmp | vsumrow | vmaxrow | vshuf | vrand | vsround | vdig | pload | pstore | sget | sput | launch | land | landany | loop | endloop
  | waittick | waitcyc | sets | adds | muls | edge | halt =>
    cases hc
    exact ⟨_, .one _, fun _ => rfl⟩
  | _ => cases hc

theorem touched_tile {c : Instr} {cl : Nat} (hc : tileCluster c = some cl) : touched c = [.mem, .cells, .cl, .ten, .host] := by
  cases c with
  | bundleIssue | pendingWriteEffect | waittickRelease | waitcycRelease | mma | mmaz | mmat | acczero | accload | accdrain | vadd | vsub
  | vmul | vfma | vmax | vmin | vexp | vlog | vrcp | vrsq | vcvt | vsel | vcmp | vsumrow | vmaxrow | vshuf | vrand | vsround | vdig | pload
  | pstore | sget | sput | launch | land | landany | loop | endloop | waittick | waitcyc | sets | adds | muls | edge | halt => rfl
  | _ => cases hc

theorem TileEffect.sameOutside {cl : Nat} {f : Dev → Dev} (h : TileEffect cl f) (d : Dev) :
    SameOutside [.mem, .cells, .cl, .ten, .host] d (f d) := by
  cases h <;> simp [sameOutside_iff]

theorem TileEffect.wf {cl : Nat} {f : Dev → Dev} (h : TileEffect cl f) {d : Dev} (hd : Memory.wf d.mem.cells = true) :
    Memory.wf (f d).mem.cells = true := by
  cases h <;> simp [hd]

/-! ## Every command and its touched parts -/

theorem sameOutside_of_onDev {s t : State} {f : Dev → Dev} {ps : List Part} (h : onDev s f = .next t)
    (hf : SameOutside ps s.dev (f s.dev)) : t.pending = s.pending ∧ SameOutside ps s.dev t.dev := by
  obtain ⟨-, rfl⟩ := onDev_cases h
  exact ⟨rfl, hf⟩

theorem sameOutside_of_onDevAlways {s t : State} {f : Dev → Dev} {ps : List Part} (h : onDevAlways s f = .next t)
    (hf : SameOutside ps s.dev (f s.dev)) : t.pending = s.pending ∧ SameOutside ps s.dev t.dev := by
  cases h
  exact ⟨rfl, hf⟩

theorem exec_tile_sameOutside {c : Instr} {cl : Nat} (hc : tileCluster c = some cl) {s t : State} (h : exec c s = .next t) :
    t.pending = s.pending ∧ SameOutside (touched c) s.dev t.dev := by
  obtain ⟨f, hf, he⟩ := exec_tile hc
  rw [he] at h
  rw [touched_tile hc]
  exact sameOutside_of_onDev h (sameOutside_onlyIf_iff.mpr fun _ => hf.sameOutside _)

/-- A command leaves the queue and every part outside its touched parts. -/
theorem exec_sameOutside (c : Instr) {s t : State} (h : exec c s = .next t) :
    t.pending = s.pending ∧ SameOutside (touched c) s.dev t.dev := by
  cases c with
  | chipReset | linkDrivenReset | powerLoss | refclkLost | pllLockLost =>
    refine sameOutside_of_onDevAlways h ?_
    simp [sameOutside_iff, touched, allButFuse]
  | bundleIssue | pendingWriteEffect | waittickRelease | waitcycRelease | mma | mmaz | mmat | acczero | accload | accdrain | vadd | vsub
  | vmul | vfma | vmax | vmin | vexp | vlog | vrcp | vrsq | vcvt | vsel | vcmp | vsumrow | vmaxrow | vshuf | vrand | vsround | vdig | pload
  | pstore | sget | sput | launch | land | landany | loop | endloop | waittick | waitcyc | sets | adds | muls | edge | halt =>
    exact exec_tile_sameOutside rfl h
  | _ =>
    refine sameOutside_of_onDev h ?_
    try simp only [sameOutside_onlyIf_iff]
    simp [sameOutside_iff, touched]

/-- Settles O58, from what each command touches. -/
theorem deviceFrame : Obligations.DeviceFrame := fun c _ _ h => exec_sameOutside c h

/-! ## The canonical form of memory and the fuse map -/

theorem wf_of_onDev {s t : State} {f : Dev → Dev} (h : onDev s f = .next t)
    (hf : Memory.wf (f s.dev).mem.cells = true) : Memory.wf t.dev.mem.cells = true := by
  obtain ⟨-, rfl⟩ := onDev_cases h
  exact hf

theorem wf_of_onDevAlways {s t : State} {f : Dev → Dev} (h : onDevAlways s f = .next t)
    (hf : Memory.wf (f s.dev).mem.cells = true) : Memory.wf t.dev.mem.cells = true := by
  cases h
  exact hf

theorem wf_of_cells_untouched {c : Instr} (hc : .cells ∉ touched c) {s t : State} (hi : Memory.wf s.dev.mem.cells = true)
    (h : exec c s = .next t) : Memory.wf t.dev.mem.cells = true := by
  have hcells : t.dev.mem.cells = s.dev.mem.cells := (exec_sameOutside c h).2 .cells hc
  rwa [hcells]

theorem exec_tile_wf {c : Instr} {cl : Nat} (hc : tileCluster c = some cl) {s t : State} (hi : Memory.wf s.dev.mem.cells = true)
    (h : exec c s = .next t) : Memory.wf t.dev.mem.cells = true := by
  obtain ⟨f, hf, he⟩ := exec_tile hc
  rw [he] at h
  exact wf_of_onDev h (onlyIf_wf _ _ _ hi (hf.wf hi))

theorem fuse_untouched (c : Instr) : .fuse ∉ touched c := by
  cases c <;> simp [touched, allButFuse]

theorem exec_wf (c : Instr) {s t : State} (hi : Memory.wf s.dev.mem.cells = true) (h : exec c s = .next t) :
    Memory.wf t.dev.mem.cells = true := by
  cases c with
  | chipReset | linkDrivenReset | powerLoss => exact wf_of_onDevAlways h (by simp [hi])
  | bundleIssue | pendingWriteEffect | waittickRelease | waitcycRelease | mma | mmaz | mmat | acczero | accload | accdrain | vadd | vsub
  | vmul | vfma | vmax | vmin | vexp | vlog | vrcp | vrsq | vcvt | vsel | vcmp | vsumrow | vmaxrow | vshuf | vrand | vsround | vdig | pload
  | pstore | sget | sput | launch | land | landany | loop | endloop | waittick | waitcyc | sets | adds | muls | edge | halt =>
    exact exec_tile_wf rfl hi h
  | memoryInitDone | phaseStart | shelfWrite | columnSlot | paneFill | zeroingDone | imageUnload | islandPowerOffEffect | islandPowerOnEffect
  | bridgeData | jtagDebugUpdate | imageLoad | bufferWrite | bufferFill | replayStart =>
    exact wf_of_onDev h (by simp [hi])
  | _ => exact wf_of_cells_untouched (by simp [touched]) hi h

/-- A step of a non-empty queue is its front command, run on the same device. -/
theorem step_cases {s t : State} (h : step s = .next t) :
    t = s ∨ ∃ (c : Instr) (rest : List Instr), exec c { pending := rest, dev := s.dev } = .next t := by
  unfold step at h
  split at h
  · cases h
    exact .inl rfl
  · exact .inr ⟨_, _, h⟩

/-- Settles O6: the fuse map is no part of what a command touches, and every write of memory keeps its canonical form. -/
theorem stepKeepsInv : Obligations.StepKeepsInv := by
  intro s t h
  obtain rfl | ⟨c, rest, he⟩ := step_cases h
  · exact ⟨id, id⟩
  · have hfuse : t.dev.fuse = s.dev.fuse := (exec_sameOutside c he).2 .fuse (fuse_untouched c)
    exact ⟨fun hi => exec_wf c (s := ⟨rest, s.dev⟩) hi he, fun hf => by rwa [hfuse]⟩

/-! ## The order of the records -/

/-- A table lists its entries in strictly rising order. -/
def Rising {α : Type} (t : Tab α) : Prop := (t.map Prod.fst).Pairwise (· < ·)

theorem rising_cons {α : Type} {i : Nat} {a : α} {t : Tab α} : Rising ((i, a) :: t) ↔ (∀ c ∈ t, i < c.1) ∧ Rising t := by
  simp [Rising]

theorem mem_tabSet {α : Type} {k : Nat} {a : α} {t : Tab α} {c : Nat × α} (h : c ∈ tabSet k a t) : c = (k, a) ∨ c ∈ t := by
  induction t with
  | nil => simpa [tabSet] using h
  | cons x t ih =>
    obtain ⟨i, b⟩ := x
    simp only [tabSet] at h
    split_ifs at h <;> grind

theorem mem_of_mem_tabDel {α : Type} {k : Nat} {t : Tab α} {c : Nat × α} (h : c ∈ tabDel k t) : c ∈ t := by
  induction t with
  | nil => exact h
  | cons x t ih =>
    obtain ⟨i, b⟩ := x
    simp only [tabDel] at h
    split_ifs at h <;> grind

theorem rising_tabSet {α : Type} (k : Nat) (a : α) {t : Tab α} (h : Rising t) : Rising (tabSet k a t) := by
  induction t with
  | nil => simp [tabSet, Rising]
  | cons x t ih =>
    obtain ⟨i, b⟩ := x
    obtain ⟨hi, ht⟩ := rising_cons.mp h
    simp only [tabSet]
    split_ifs with heq hlt
    · subst heq
      exact rising_cons.mpr ⟨hi, ht⟩
    · refine rising_cons.mpr ⟨fun c hc => ?_, h⟩
      obtain rfl | hc := List.mem_cons.mp hc
      · exact hlt
      · exact hlt.trans (hi c hc)
    · refine rising_cons.mpr ⟨fun c hc => ?_, ih ht⟩
      obtain rfl | hc := mem_tabSet hc
      · exact lt_of_le_of_ne (not_lt.mp hlt) heq
      · exact hi c hc

theorem rising_tabDel {α : Type} (k : Nat) {t : Tab α} (h : Rising t) : Rising (tabDel k t) := by
  induction t with
  | nil => exact h
  | cons x t ih =>
    obtain ⟨i, b⟩ := x
    obtain ⟨hi, ht⟩ := rising_cons.mp h
    simp only [tabDel]
    split_ifs
    · exact ht
    · exact h
    · exact rising_cons.mpr ⟨fun c hc => hi c (mem_of_mem_tabDel hc), ih ht⟩

theorem rising_setRec (t : Nat) (r : GrantRec) {set : Tab GrantRec} (h : Rising set) : Rising (setRec t r set) := by
  unfold setRec
  split
  · exact rising_tabDel t h
  · exact rising_tabSet t r h

/-- The records in force and those of PEND are in order. -/
def GrantsRising (d : Dev) : Prop := Rising d.grants.force ∧ Rising d.grants.pend

theorem GrantsRising.congr {d e : Dev} (h : GrantsRising d) (he : e.grants = d.grants) : GrantsRising e := by
  unfold GrantsRising
  rwa [he]

theorem GrantsRising.modGrants {d : Dev} {f : Grants → Grants} (h : GrantsRising d) (hforce : (f d.grants).force = d.grants.force)
    (hpend : Rising (f d.grants).pend) : GrantsRising (modGrants f d) :=
  ⟨by simpa [hforce] using h.1, hpend⟩

theorem GrantsRising.foldl {α : Type} {g : Dev → α → Dev} (hg : ∀ a x, GrantsRising a → GrantsRising (g a x)) (l : List α) {d : Dev}
    (h : GrantsRising d) : GrantsRising (l.foldl g d) := foldl_inv GrantsRising g (fun a x ha => hg a x ha) l d h

/-- Putting a record in force changes it alone. -/
theorem putRecord_grants (t gc : Nat) (b : GrantRec) (d : Dev) : (putRecord t gc b d).grants =
    if grantOf d t = b then d.grants
    else { d.grants with force := if b = vacantRec t then tabDel t d.grants.force else tabSet t b d.grants.force } := by
  unfold putRecord
  dsimp only
  split
  · rfl
  · simp [apply_ite Dev.grants]

theorem GrantsRising.putRecord {d : Dev} (h : GrantsRising d) (t gc : Nat) (b : GrantRec) : GrantsRising (putRecord t gc b d) := by
  unfold GrantsRising
  rw [putRecord_grants]
  split_ifs
  · exact h
  · exact ⟨rising_tabDel t h.1, h.2⟩
  · exact ⟨rising_tabSet t b h.1, h.2⟩

theorem GrantsRising.putSet {d : Dev} (h : GrantsRising d) (gc : Nat) (g : Nat → GrantRec) : GrantsRising (putSet gc g d) :=
  GrantsRising.foldl (fun _ _ ha => ha.putRecord ..) _ h

theorem GrantsRising.partIgnore {d : Dev} (h : GrantsRising d) : GrantsRising (partIgnore d) := h.modGrants rfl h.2

theorem GrantsRising.partSync {d : Dev} (h : GrantsRising d) (fn : Nat) : GrantsRising (opPartSync fn d) := by
  unfold opPartSync
  split_ifs
  · exact h.partIgnore
  · exact h.modGrants rfl h.1
  · exact h

theorem GrantsRising.partCancel {d : Dev} (h : GrantsRising d) (fn : Nat) : GrantsRising (opPartCancel fn d) := by
  unfold opPartCancel
  split_ifs
  · exact h.partIgnore
  · exact h.modGrants rfl h.2
  · exact h

theorem GrantsRising.partCountHi {d : Dev} (h : GrantsRising d) (fn : Nat) (v : BitVec 32) : GrantsRising (opPartCountHi fn v d) := by
  unfold opPartCountHi
  split_ifs
  · exact h.partIgnore
  · exact h.modGrants rfl h.2
  · exact h

theorem GrantsRising.partCheckDone {d : Dev} (h : GrantsRising d) : GrantsRising (opPartCheckDone d) := by
  unfold opPartCheckDone
  split_ifs
  · exact h.modGrants rfl h.2
  · split
    · exact h.modGrants rfl h.2
    · exact h.modGrants rfl h.2
  · exact h

theorem GrantsRising.finishAll {d : Dev} (h : GrantsRising d) (cs : List Cmd) :
    GrantsRising (cs.foldl (fun a c => finish c.id sBusy 0 0 a) d) := h.congr (by simp)

theorem GrantsRising.directCommitEffect {d : Dev} (h : GrantsRising d) : GrantsRising (opDirectCommitEffect d) := by
  unfold opDirectCommitEffect
  dsimp only
  have hset := h.putSet d.grants.effect (recOf d.grants.pend)
  have hput : GrantsRising (Machine.modGrants (fun g => { g with state := 3 }) (Machine.putSet d.grants.effect (recOf d.grants.pend) d)) :=
    hset.modGrants rfl hset.2
  split_ifs
  · exact hput
  · exact (hput.finishAll _).modGrants rfl (hput.finishAll _).2
  · exact h

theorem GrantsRising.finishAt {d : Dev} (h : GrantsRising d) (id st r0 r1 gc : Nat) : GrantsRising (finishAt id st r0 r1 gc d) :=
  h.congr (by simp)

theorem GrantsRising.commitStaged {d : Dev} (h : GrantsRising d) (c : Cmd) : GrantsRising (commitStaged c d) := by
  unfold Machine.commitStaged
  dsimp only
  have hgone : GrantsRising (Machine.modGrants (fun g => { g with staging := none }) d) := h.modGrants rfl h.2
  split
  · exact h.finishAt ..
  · split_ifs
    · exact hgone.finishAt ..
    · split
      · exact hgone.finishAt ..
      · exact (hgone.putSet ..).finishAt ..

theorem GrantsRising.grantChangeEffect {d : Dev} (h : GrantsRising d) : GrantsRising (opGrantChangeEffect d) := by
  unfold opGrantChangeEffect
  split
  · exact h.commitStaged _
  · exact h

theorem GrantsRising.partitionStage {d : Dev} (h : GrantsRising d) (r : Nat) : GrantsRising (opPartitionStage r d) := by
  have hforce : (opPartitionStage r d).grants.force = d.grants.force :=
    runCmd_keeps (·.grants.force) _ _ _ _ (fun c a => by dsimp only; split_ifs <;> simp) fun _ _ => rfl
  have hpend : (opPartitionStage r d).grants.pend = d.grants.pend :=
    runCmd_keeps (·.grants.pend) _ _ _ _ (fun c a => by dsimp only; split_ifs <;> simp) fun _ _ => rfl
  exact ⟨hforce ▸ h.1, hpend ▸ h.2⟩

theorem GrantsRising.dropStaging {d : Dev} (h : GrantsRising d) : GrantsRising (dropStaging d) :=
  (h.modGrants (f := fun g => { g with staging := none }) rfl h.2).congr (by simp [Machine.dropStaging])

theorem GrantsRising.leaseExpiry {d : Dev} (h : GrantsRising d) (k : Nat) : GrantsRising (opLeaseExpiry k d) := by
  unfold opLeaseExpiry
  dsimp only
  split_ifs
  · split
    · split_ifs
      · exact h.congr (by simp)
      · exact h
    · exact h
  · split
    · split_ifs
      · exact h.dropStaging
      · exact h
    · exact h

theorem GrantsRising.revokeLease {d : Dev} (h : GrantsRising d) (c : Cmd) : GrantsRising (revokeLease c d) := by
  unfold Machine.revokeLease
  split_ifs
  · split <;> exact h.congr (by simp)
  · exact h.dropStaging.congr (by simp)
  · exact h.congr (by simp)

theorem GrantsRising.leaseRevokeEffect {d : Dev} (h : GrantsRising d) : GrantsRising (opLeaseRevokeEffect d) :=
  GrantsRising.foldl (fun _ c ha => ha.revokeLease c) _ h

/-! ## Register writes and board accesses that reach PART (23 R766; 22 R752) -/

theorem GrantsRising.writePart {d : Dev} (h : GrantsRising d) (off : Nat) (v : W32) : GrantsRising (writePart off v d) := by
  unfold Machine.writePart
  dsimp only
  by_cases hoff : off < 0x1000
  · rw [if_pos hoff]
    split
    · exact h.partIgnore
    · exact h.modGrants rfl (rising_setRec _ _ h.2)
  · rw [if_neg hoff]
    split
    · have hsync : GrantsRising (if bit v.toNat 0 = true then opPartSync 0 d else d) := by
        split
        · exact h.partSync 0
        · exact h
      split
      · exact hsync.partCancel 0
      · exact hsync
    · split
      · exact h.partIgnore
      · exact h.modGrants rfl h.2
    · exact h.partCountHi 0 v
    · exact h.modGrants rfl h.2
    · exact h

theorem GrantsRising.writeReg {d : Dev} (h : GrantsRising d) (fn : Nat) (all : Bool) (off : Nat) (v droop : W32) :
    GrantsRising (writeReg fn all off v droop d) := by
  by_cases hpart : 0x20000 ≤ off ∧ off < 0x23000
  · unfold Machine.writeReg
    dsimp only
    rw [if_neg (by omega), if_neg (by omega)]
    split
    · exact h
    · rw [if_neg (by omega)]
      split
      · exact h.writePart ..
      · exact h
  · refine h.congr ?_
    unfold Machine.writeReg
    dsimp only
    rw [if_neg hpart]
    split_ifs <;> simp

theorem GrantsRising.registerWrite {d : Dev} (h : GrantsRising d) (fn off : Nat) (v droop : W32) :
    GrantsRising (opRegisterWrite fn off v droop d) := by
  unfold opRegisterWrite
  split_ifs
  · exact h.writeReg ..
  · exact h

theorem GrantsRising.putPlace {d : Dev} (h : GrantsRising d) (a : Nat) (p : BoardPlace) (half : Option Nat) (v : Nat) (droop : W32) :
    GrantsRising (putPlace a p half v droop d) := by
  unfold Machine.putPlace
  dsimp only
  split
  case h_1 =>
    split_ifs
    · exact (h.writeReg ..).writeReg ..
    · exact h.writeReg ..
    · exact h.writeReg ..
    · exact h
  case h_8 => exact h
  all_goals exact h.congr (by simp [apply_ite Dev.grants])

theorem GrantsRising.accEnd {d : Dev} (h : GrantsRising d) (x : BoardAcc) (failed : Bool) (v : Nat) :
    GrantsRising (accEnd x failed v d) := h.congr (by simp)

theorem GrantsRising.accNow {d : Dev} (h : GrantsRising d) (p : BoardPlace) (x : BoardAcc) : GrantsRising (accNow p x d) := by
  unfold Machine.accNow
  dsimp only
  split
  · exact h.congr (by simp)
  · split
    · exact (h.putPlace ..).accEnd ..
    · exact h.congr (by simp)

theorem GrantsRising.accStart {d : Dev} (h : GrantsRising d) (x : BoardAcc) : GrantsRising (accStart x d) := by
  have hmark : GrantsRising (markAccess x.write d) := h.congr (by simp)
  unfold Machine.accStart
  dsimp only
  split
  · exact hmark.congr (by simp)
  · split
    · exact hmark.congr (by simp)
    · exact hmark.congr (by simp)
    · split <;> exact hmark.congr (by simp)
    · exact hmark.accNow ..

theorem GrantsRising.bridgeData {d : Dev} (h : GrantsRising d) (write : Option W32) (droop : W32) :
    GrantsRising (opBridgeData write droop d) := by
  unfold opBridgeData
  split_ifs
  · exact h
  · exact GrantsRising.accStart (h.congr (by simp)) _

theorem GrantsRising.jtagDebugUpdate {d : Dev} (h : GrantsRising d) (dr : BitVec 128) (droop : W32) :
    GrantsRising (opJtagDebugUpdate dr droop d) := by
  unfold opJtagDebugUpdate
  dsimp only
  split_ifs
  · exact h
  · exact h.congr (by simp)
  · exact GrantsRising.accStart (h.congr (by simp)) _

/-! ## Every command -/

theorem GrantsRising.onlyIf {c : Dev → Bool} {f : Dev → Dev} {d : Dev} (h : GrantsRising d) (hf : GrantsRising d → GrantsRising (f d)) :
    GrantsRising (onlyIf c f d) := by
  unfold Machine.onlyIf
  split
  · exact hf h
  · exact h

theorem grantsRising_of_onDev {s t : State} {f : Dev → Dev} {c : Dev → Bool} (h : onDev s (Machine.onlyIf c f) = .next t)
    (hs : GrantsRising s.dev) (hf : GrantsRising s.dev → GrantsRising (f s.dev)) : GrantsRising t.dev := by
  obtain ⟨-, rfl⟩ := onDev_cases h
  exact hs.onlyIf hf

theorem grantsRising_chipReset (cause : Nat) (cut : Bool) (d : Dev) : GrantsRising (chipReset cause cut d) := by
  constructor <;> simp [chipReset, Rising]

theorem exec_grantsRising (c : Instr) {s t : State} (hs : GrantsRising s.dev) (h : exec c s = .next t) : GrantsRising t.dev := by
  cases c with
  | chipReset | linkDrivenReset | powerLoss =>
    cases h
    exact grantsRising_chipReset ..
  | registerWrite fn off v droop => exact grantsRising_of_onDev h hs fun h => h.registerWrite ..
  | grantChangeEffect => exact grantsRising_of_onDev h hs fun h => h.grantChangeEffect
  | directCommitEffect => exact grantsRising_of_onDev h hs fun h => h.directCommitEffect
  | leaseExpiry k => exact grantsRising_of_onDev h hs fun h => h.leaseExpiry _
  | leaseRevokeEffect => exact grantsRising_of_onDev h hs fun h => h.leaseRevokeEffect
  | partCountHi fn v => exact grantsRising_of_onDev h hs fun h => h.partCountHi ..
  | partCheckDone => exact grantsRising_of_onDev h hs fun h => h.partCheckDone
  | partSync fn => exact grantsRising_of_onDev h hs fun h => h.partSync _
  | partCancel fn => exact grantsRising_of_onDev h hs fun h => h.partCancel _
  | partitionStage r => exact grantsRising_of_onDev h hs fun h => h.partitionStage _
  | bridgeData write droop =>
    obtain ⟨-, rfl⟩ := onDev_cases h
    exact hs.bridgeData ..
  | jtagDebugUpdate dr droop =>
    obtain ⟨-, rfl⟩ := onDev_cases h
    exact hs.jtagDebugUpdate ..
  | _ => exact hs.congr ((exec_sameOutside _ h).2 .grants (by simp [touched]))

/-- Settles O7: the records change by putting one in order, by copying those in force to PEND, and by a chip reset. -/
theorem stepKeepsGrants : Obligations.StepKeepsGrants := by
  intro s t hs h
  obtain rfl | ⟨c, rest, he⟩ := step_cases h
  · exact hs
  · exact exec_grantsRising c (s := ⟨rest, s.dev⟩) hs he

/-! ## The queue, the step and reset -/

/-- Settles O1: stepping a queue that is not empty is running its front command, by definition. -/
theorem stepRunsFront : Obligations.StepRunsFront := fun _ _ _ => rfl

/-- Settles O2: stepping an empty queue leaves the state, by definition. -/
theorem emptyQueueIdles : Obligations.EmptyQueueIdles := fun _ => rfl

theorem exec_answers (c : Instr) {s : State} (hs : Promises s) : ∃ t, exec c s = .next t := by
  cases hc : actsWhenLost c with
  | true => cases c with
    | chipReset | linkDrivenReset | powerLoss | refclkLost | pllLockLost => exact ⟨_, onDevAlways_eq s _⟩
    | _ => cases hc
  | false =>
    obtain ⟨f, hf⟩ := exec_eq_onDev hc s
    exact ⟨_, hf.trans (onDev_eq hs f)⟩

/-- Settles O3, from what each way of running a command answers and from the frame of every command. -/
theorem everyCommandAnswers : Obligations.EveryCommandAnswers :=
  ⟨fun c _ hs => exec_answers c hs, fun c _ _ h => (exec_sameOutside c h).1⟩

theorem fuseMapOk_fuseReset : fuseMapOk fuseReset = true := by decide +kernel

/-- Settles O5: memory and both lists of records are empty at reset, and the fuses are those of grade A. -/
theorem resetInv : Obligations.ResetInv := ⟨rfl, ⟨List.Pairwise.nil, List.Pairwise.nil⟩, fuseMapOk_fuseReset⟩

end Sys2Proof.Machine
end

section
/-!
What a command of a cluster leaves alone: every other cluster, and every byte outside its pane (06 R202, R239; 07 R243).
-/
namespace Sys2Proof.Machine

/-! ## Bytes outside a written line (06 R235) -/

theorem writeUnit_outside {n a v mask : Nat} {p : Bool} {m : Mem} (h : Memory.wf m.cells = true) {x : Nat} (hx : x < a ∨ a + n ≤ x) :
    memGet (writeUnit n a v mask p m).1.cells x = memGet m.cells x := by
  unfold writeUnit
  split
  · rfl
  · exact memGet_memWrite_outside n m.cells a _ x h hx

/-- The write of word i of a line (06 R235). -/
def writeWord (a v mask p : Nat) (m : Mem) (i : Nat) : Mem :=
  (writeUnit 8 (a + 8 * i) ((v >>> (64 * i)) % pow2 64) ((mask >>> (64 * i)) % pow2 64) (bit p i) m).1

theorem writeLine8_mem (a v mask p : Nat) (m : Mem) : (writeLine8 a v mask p m).1 = (List.range 8).foldl (writeWord a v mask p) m := by
  unfold writeLine8
  generalize List.range 8 = l
  suffices H : ∀ acc : Mem × Nat × Nat, (l.foldl (fun acc i =>
      let r := writeUnit 8 (a + 8 * i) ((v >>> (64 * i)) % pow2 64) ((mask >>> (64 * i)) % pow2 64) (bit p i) acc.1
      (r.1, acc.2.1 + r.2.1, acc.2.2 + r.2.2)) acc).1 = l.foldl (writeWord a v mask p) acc.1 from H _
  induction l with
  | nil => exact fun _ => rfl
  | cons i l ih => exact fun acc => ih _

theorem wf_writeWord {a v mask p i : Nat} {m : Mem} (h : Memory.wf m.cells = true) : Memory.wf (writeWord a v mask p m i).cells = true :=
  wf_writeUnit _ _ _ _ _ _ h

theorem writeLine8_outside {a v mask p : Nat} {m : Mem} (h : Memory.wf m.cells = true) {x : Nat} (hx : x < a ∨ a + 64 ≤ x) :
    memGet (writeLine8 a v mask p m).1.cells x = memGet m.cells x := by
  rw [writeLine8_mem]
  suffices H : ∀ l : List Nat, (∀ i ∈ l, i < 8) → ∀ m : Mem, Memory.wf m.cells = true →
      memGet (l.foldl (writeWord a v mask p) m).cells x = memGet m.cells x from H _ (fun i hi => List.mem_range.mp hi) m h
  intro l hl
  induction l with
  | nil => exact fun _ _ => rfl
  | cons i l ih =>
    intro m hm
    have hi : i < 8 := hl i (by simp)
    exact (ih (fun j hj => hl j (by simp [hj])) _ (wf_writeWord hm)).trans (writeUnit_outside hm (by omega))

/-! ## What stays in a cluster -/

/-- From d to e nothing changed in another cluster, nor, in canonical memory, a byte outside the cluster's pane. -/
def InCluster (cl : Nat) (d e : Dev) : Prop :=
  (∀ k ≠ cl, clOf e k = clOf d k) ∧ (Memory.wf d.mem.cells = true → Memory.wf e.mem.cells = true ∧
    ∀ a, a < paneBase cl ∨ paneBase cl + 0x400000 ≤ a → byteAt e a = byteAt d a)

variable {cl : Nat} {d e f : Dev}

theorem InCluster.refl (cl : Nat) (d : Dev) : InCluster cl d d := ⟨fun _ _ => rfl, fun h => ⟨h, fun _ _ => rfl⟩⟩

theorem InCluster.trans (h : InCluster cl d e) (g : InCluster cl e f) : InCluster cl d f :=
  ⟨fun k hk => (g.1 k hk).trans (h.1 k hk), fun hd =>
    have he := h.2 hd
    have hf := g.2 he.1
    ⟨hf.1, fun a ha => (hf.2 a ha).trans (he.2 a ha)⟩⟩

theorem inCluster_ite {p : Prop} [Decidable p] (he : InCluster cl d e) (hf : InCluster cl d f) : InCluster cl d (if p then e else f) := by
  split
  · exact he
  · exact hf

/-- Where memory's bytes are as they were, only the clusters matter. -/
theorem inCluster_of_cells (hcells : e.mem.cells = d.mem.cells) (hcl : ∀ k ≠ cl, clOf e k = clOf d k) : InCluster cl d e :=
  ⟨hcl, fun hd => ⟨by rwa [hcells], fun a _ => by simp only [byteAt, hcells]⟩⟩

theorem inCluster_setCl (cl : Nat) (k : Cluster) (d : Dev) : InCluster cl d (setCl cl k d) :=
  inCluster_of_cells rfl fun _ hk => clOf_setCl_ne k d hk

theorem inCluster_modCl (cl : Nat) (g : Cluster → Cluster) (d : Dev) : InCluster cl d (modCl cl g d) :=
  inCluster_of_cells rfl fun _ hk => clOf_modCl_ne g d hk

theorem inCluster_of_cl (hcells : e.mem.cells = d.mem.cells) (hcl : e.cl = d.cl) : InCluster cl d e :=
  inCluster_of_cells hcells fun k _ => clOf_congr hcl k

theorem inCluster_modTen (cl n : Nat) (g : Tenancy → Tenancy) (d : Dev) : InCluster cl d (modTen n g d) := inCluster_of_cl rfl rfl

theorem inCluster_clusterFault (cl code : Nat) (d : Dev) : InCluster cl d (clusterFault cl code d) :=
  (inCluster_modCl cl (fun k => { k with run := .faulted }) d).trans (inCluster_of_cl (by simp [clusterFault]) (by simp [clusterFault]))

theorem inCluster_countPane (cl a : Nat) (r : LineRead) (d : Dev) : InCluster cl d (countPane cl a r d) :=
  inCluster_of_cl (by simp) (by simp)

theorem inCluster_paneWrite {line : Nat} (hline : line < 65536) (v mask poison : Nat) (d : Dev) :
    InCluster cl d (paneWrite cl line v mask poison d) := by
  refine ⟨fun k _ => clOf_congr (by simp) k, fun hd => ⟨paneWrite_wf cl line v mask poison d hd, fun a ha => ?_⟩⟩
  unfold paneWrite
  dsimp only
  split
  · rfl
  · simpa [byteAt] using writeLine8_outside hd (by omega)

theorem lt_of_paneOk {line : Nat} (h : paneOk d cl line = true) : line < 65536 := by
  unfold paneOk at h
  split at h
  · simp only [Bool.and_eq_true, decide_eq_true_eq] at h
    exact h.1
  · cases h

/-! ## A cluster's cycles and issues stay in it -/

theorem inCluster_doDone (cl : Nat) (t : Task) (d : Dev) : InCluster cl d (doDone cl t d) := by
  unfold doDone
  dsimp only
  split
  case h_5 snap layer _ =>
    split
    · split
      · exact (inCluster_modCl cl _ d).trans (inCluster_modTen ..)
      · exact inCluster_modCl cl _ d
    · exact inCluster_modCl cl _ d
  case h_8 => exact .refl cl d
  all_goals exact inCluster_modCl cl _ d

theorem inCluster_doPayload (cl : Nat) (t : Task) (i : Nat) (d : Dev) : InCluster cl d (doPayload cl t i d) := by
  unfold doPayload
  split
  · exact inCluster_modCl cl _ d
  · exact .refl cl d

theorem inCluster_doMicro (cl : Nat) (t : Task) (o : Micro) (d : Dev) : InCluster cl d (microDev (doMicro cl t o d)) := by
  cases o with
  | read src j line =>
    simp only [doMicro, doRead]
    (repeat' split)
    · exact (inCluster_countPane ..).trans (inCluster_clusterFault ..)
    · exact inCluster_countPane ..
    · exact inCluster_clusterFault ..
  | write j line =>
    simp only [doMicro, doWrite]
    split
    case isTrue h => exact inCluster_paneWrite (lt_of_paneOk h) ..
    case isFalse => exact inCluster_clusterFault ..
  | sget off =>
    simp only [doMicro, doSget]
    (repeat' split)
    · exact (inCluster_countPane ..).trans (inCluster_clusterFault ..)
    · exact inCluster_countPane ..
    · exact inCluster_clusterFault ..
  | sput off v =>
    simp only [doMicro, doSput]
    split
    case isTrue h => exact inCluster_paneWrite (lt_of_paneOk h.2) ..
    case isFalse => exact inCluster_clusterFault ..
  | exam i buf e =>
    simp only [doMicro, doExam]
    split
    · exact inCluster_setCl ..
    · exact inCluster_clusterFault ..
  | clear => exact inCluster_modCl ..
  | payload => exact inCluster_doPayload ..
  | request j w =>
    simp only [doMicro, doRequest]
    (repeat' split)
    any_goals exact inCluster_clusterFault ..
    all_goals exact inCluster_of_cl rfl rfl
  | done => exact inCluster_doDone ..
  | setS | setD | setM => exact inCluster_modCl ..

theorem inCluster_runOps (cl c : Nat) (sel : Micro → Bool) (os : List Micro) (t : Task) (d : Dev) :
    InCluster cl d (runOps cl c sel os t d).2 := by
  induction os generalizing t d with
  | nil => exact .refl cl d
  | cons o os ih =>
    have hmicro := inCluster_doMicro cl t o d
    simp only [runOps]
    split
    · split
      next he => rw [he] at hmicro; exact hmicro.trans (ih _ _)
      next he => rw [he] at hmicro; exact hmicro
      next he => rw [he] at hmicro; exact hmicro
    · exact ih t d

theorem inCluster_runTasks (cl c : Nat) (sel : Micro → Bool) (ts : List Task) (d : Dev) :
    InCluster cl d (runTasks cl c sel ts d).2 := by
  induction ts generalizing d with
  | nil => exact .refl cl d
  | cons t ts ih => exact (inCluster_runOps cl c sel _ t d).trans (ih _)

theorem inCluster_phaseOps (cl : Nat) (sel : Micro → Bool) (d : Dev) : InCluster cl d (phaseOps cl sel d) :=
  (inCluster_runTasks ..).trans (inCluster_modCl ..)

theorem inCluster_accessCycle (cl : Nat) (d : Dev) : InCluster cl d (accessCycle cl d) := by
  unfold accessCycle
  refine InCluster.trans ?_ ((inCluster_phaseOps ..).trans (inCluster_phaseOps ..))
  split
  · exact (inCluster_setCl ..).trans (inCluster_clusterFault ..)
  · exact .refl cl d

theorem inCluster_tickCluster (cl : Nat) (d : Dev) : InCluster cl d (tickCluster cl d) :=
  (inCluster_accessCycle ..).trans ((inCluster_modCl ..).trans (inCluster_phaseOps ..))

theorem inCluster_runCycles (cl n : Nat) (d : Dev) : InCluster cl d (runCycles cl n d) := by
  induction n generalizing d with
  | zero => exact .refl cl d
  | succ n ih => exact (inCluster_tickCluster cl d).trans (ih _)

theorem inCluster_issueSlots (cl : Nat) (b : Bundle) (d : Dev) : InCluster cl d (issueSlots cl b d) :=
  (inCluster_of_cl (e := issueCounts cl (clOf d cl) b d) (by simp) (by simp)).trans (inCluster_setCl ..)

theorem inCluster_issueBundle (cl : Nat) (b : Bundle) (d : Dev) : InCluster cl d (issueBundle cl b d) := by
  unfold issueBundle
  split
  · exact (inCluster_issueSlots ..).trans (inCluster_tickCluster ..)
  · exact (inCluster_clusterFault ..).trans (inCluster_tickCluster ..)

theorem inCluster_reachBundle (cl : Nat) (b : Bundle) (d : Dev) : InCluster cl d (reachBundle cl b d) := by
  unfold reachBundle
  dsimp only
  split
  · split
    · split
      · exact (inCluster_setCl ..).trans (inCluster_tickCluster ..)
      · exact (inCluster_setCl ..).trans (inCluster_issueBundle ..)
      · exact (inCluster_setCl ..).trans (inCluster_issueBundle ..)
    · exact (inCluster_clusterFault ..).trans (inCluster_tickCluster ..)
  · refine inCluster_ite (inCluster_ite ?_ ?_) ((inCluster_clusterFault ..).trans (inCluster_tickCluster ..))
    · exact inCluster_issueBundle ..
    · exact (inCluster_setCl ..).trans (inCluster_tickCluster ..)
  · exact inCluster_issueBundle ..

theorem inCluster_waitLoop (cl n : Nat) (d : Dev) : InCluster cl d (waitLoop cl n d) := by
  induction n generalizing d with
  | zero =>
    unfold waitLoop
    dsimp only
    (repeat' split)
    · exact .refl cl d
    · exact .refl cl d
    · exact inCluster_setCl ..
    · exact inCluster_issueBundle ..
  | succ n ih =>
    unfold waitLoop
    dsimp only
    (repeat' split)
    · exact .refl cl d
    · exact (inCluster_tickCluster ..).trans (ih _)
    · exact inCluster_setCl ..
    · exact inCluster_issueBundle ..

theorem inCluster_cycRelease (cl till : Nat) (d : Dev) : InCluster cl d (cycRelease cl till d) := by
  unfold cycRelease
  dsimp only
  split
  · exact (inCluster_runCycles ..).trans (inCluster_issueBundle ..)
  · exact inCluster_runCycles ..

theorem TileEffect.inCluster {g : Dev → Dev} (h : TileEffect cl g) (d : Dev) : InCluster cl d (g d) := by
  cases h with
  | one b =>
    unfold opIssueOne
    split
    · exact inCluster_reachBundle ..
    · exact .refl cl d
  | fetched third =>
    unfold opBundleIssue
    dsimp only
    (repeat' split)
    · exact (inCluster_setCl ..).trans ((inCluster_clusterFault ..).trans (inCluster_tickCluster ..))
    · exact (inCluster_setCl ..).trans (inCluster_reachBundle ..)
    · exact .refl cl d
  | pending =>
    unfold opPendingWriteEffect
    dsimp only
    (repeat' split)
    · exact .refl cl d
    · exact inCluster_waitLoop ..
    · exact inCluster_waitLoop ..
    · exact inCluster_runCycles ..
    · exact inCluster_cycRelease ..
    · exact inCluster_runCycles ..
  | tick n third =>
    unfold opWaittickRelease
    split
    · exact (inCluster_modCl ..).trans (inCluster_waitLoop ..)
    · exact (inCluster_modCl ..).trans (inCluster_waitLoop ..)
    · exact .refl cl d
  | cycle =>
    unfold opWaitcycRelease
    split
    · exact inCluster_cycRelease ..
    · exact .refl cl d

theorem inCluster_onlyIf {c : Dev → Bool} {g : Dev → Dev} (h : InCluster cl d (g d)) : InCluster cl d (onlyIf c g d) :=
  inCluster_ite h (.refl cl d)

/-- Settles O34: what a cluster does stays in it, and the rest is the frame of its commands. -/
theorem tileFrame : Obligations.TileFrame := by
  intro c cl s t hc hi h
  obtain ⟨hpending, hsame⟩ := exec_sameOutside c h
  rw [touched_tile hc] at hsame
  obtain ⟨g, hg, he⟩ := exec_tile hc
  rw [he] at h
  obtain ⟨-, rfl⟩ := onDev_cases h
  obtain ⟨hcl, hmem⟩ : InCluster cl s.dev (onlyIf (islandRuns cl) g s.dev) := inCluster_onlyIf (hg.inCluster _)
  exact ⟨hpending, hcl, (hmem hi).2, hsame .clk (by decide), hsame .whl (by decide), hsame .span (by decide), hsame .fab (by decide),
    hsame .lnk (by decide), hsame .grants (by decide), hsame .dma (by decide), hsame .bsu (by decide), hsame .tmr (by decide),
    hsame .boot (by decide), hsame .power (by decide), hsame .board (by decide), hsame .flash (by decide), hsame .mail (by decide),
    hsame .fuse (by decide)⟩

end Sys2Proof.Machine
end

section
/-!
The statement on the exact class of 08_number_formats.md (R311): what a contribution adds, and that sums do not depend on order or grouping.
-/
namespace Sys2Proof.Machine

/-! ## Wide partials form a commutative monoid -/

theorem exMerge_comm (x y : ExElem) : exMerge x y = exMerge y x := by
  simp only [exMerge, BitVec.add_comm, Bool.or_comm]

theorem exMerge_assoc (x y z : ExElem) : exMerge (exMerge x y) z = exMerge x (exMerge y z) := by
  simp only [exMerge, BitVec.add_assoc, Bool.or_assoc]

theorem exMerge_empty (x : ExElem) : exMerge x {} = x := by simp [exMerge]

/-- A contribution is the merge with the partial of that contribution alone. -/
theorem exAdd_eq_exMerge (x : ExElem) (v : Val) : exAdd x v = exMerge x (exAdd {} v) := by
  cases v with
  | nan => simp [exAdd, exMerge]
  | inf s => cases s <;> simp [exAdd, exMerge]
  | fin s m e => cases s <;> simp [exAdd, exMerge, BitVec.sub_eq_add_neg]

theorem foldl_exAdd_eq_exMerge (x : ExElem) (vs : List Val) : vs.foldl exAdd x = exMerge x (vs.foldl exAdd {}) := by
  induction vs generalizing x with
  | nil => exact (exMerge_empty x).symm
  | cons v vs ih =>
    rw [List.foldl_cons, List.foldl_cons, ih (exAdd x v), ih (exAdd {} v), exAdd_eq_exMerge x v, exMerge_assoc]

theorem exAdd_right_comm (x : ExElem) (v u : Val) : exAdd (exAdd x v) u = exAdd (exAdd x u) v := by
  rw [exAdd_eq_exMerge (exAdd x v), exAdd_eq_exMerge x v, exAdd_eq_exMerge (exAdd x u), exAdd_eq_exMerge x u, exMerge_assoc,
    exMerge_comm (exAdd {} v), ← exMerge_assoc]

/-! ## Contributions and flags -/

theorem exAdd_fin (x : ExElem) (sign : Bool) (m : Nat) (e : Int) : exAdd x (.fin sign m e) =
    { x with a := BitVec.ofInt 96 (x.a.toInt + (if sign then -1 else 1) * (m * 2 ^ (e + 32).toNat : Nat)) } := by
  have hk : shlTo m (e + 32) 0 = m * 2 ^ (e + 32).toNat := by simp [shlTo, Nat.shiftLeft_eq]
  simp only [exAdd, hk]
  generalize m * 2 ^ (e + 32).toNat = k
  cases sign with
  | false => simp [BitVec.ofInt_add]
  | true => simp [BitVec.ofInt_add, BitVec.ofInt_neg, BitVec.sub_eq_add_neg]

theorem foldl_exAdd_flags (x : ExElem) (vs : List Val) : (x.nan = true → (vs.foldl exAdd x).nan = true) ∧
    (x.pos = true → (vs.foldl exAdd x).pos = true) ∧ (x.neg = true → (vs.foldl exAdd x).neg = true) := by
  rw [foldl_exAdd_eq_exMerge]
  exact ⟨fun h => by simp [exMerge, h], fun h => by simp [exMerge, h], fun h => by simp [exMerge, h]⟩

/-- Settles O60: merging is associative and commutative, and a contribution is the merge with its own partial. -/
theorem exactSums : Obligations.ExactSums := by
  refine ⟨fun x sign m e _ => exAdd_fin x sign m e, fun x => ⟨rfl, rfl, rfl⟩, fun s u m e hm => ?_, fun s u e => ⟨rfl, rfl⟩,
    foldl_exAdd_flags, fun x vs us h => ?_, fun x vs us => ?_, fun x y z => ⟨exMerge_comm x y, exMerge_assoc x y z⟩⟩
  · simp [valMul, hm]
  · exact h.foldl_eq' (fun v _ u _ y => exAdd_right_comm y v u) x
  · rw [List.foldl_append, foldl_exAdd_eq_exMerge (vs.foldl exAdd x)]

end Sys2Proof.Machine
end

section
/-!
The statements of 20_startup_reset_power.md: resets and clock losses (R690 to R692, R708; 19 R659; 02 R74), the boot to HELD
(R673 to R680; 19 R641; 02 R69 to R73), the seal, DRAIN, HALTED and the thermal trip (R671, R682, R687, R700, R707), and
samples, temperatures and PMBus (R701, R705; 22 R744 to R747).
-/
namespace Sys2Proof.Machine

theorem opRefclkLost_active {d : Dev} (h : d.boot.state = .active) : (opRefclkLost d).boot.lost = true := by
  simp [h]

theorem chipReset_afterReset (cause : Nat) (cut : Bool) (d : Dev) : AfterReset cause d (chipReset cause cut d) := by
  unfold AfterReset chipReset
  by_cases h : cause = 0 <;> simp [h]

theorem chipReset_alwaysOn {cause : Nat} (h : cause ≠ 0) (cut : Bool) (d : Dev) :
    alwaysOn (chipReset cause cut d) = alwaysOn d := by
  simp [alwaysOn, chipReset, h]

theorem chipReset_powerOn_alwaysOn (cut : Bool) (d : Dev) :
    alwaysOn (chipReset 0 cut d) = (false, false, false, 0, false) := by
  simp [alwaysOn, chipReset]

/-- The flag of Table CLK-7 that the loss of a PLL's lock latches. -/
theorem opPllLockLost_flags {p : Fin 6} {d : Dev} (h : (pllOf d p).locked = true) :
    (p = 0 → (opPllLockLost p d).boot.fabLoss = true) ∧ (p = 1 → (opPllLockLost p d).boot.ctlLoss = true) ∧
      (2 ≤ p.val → (opPllLockLost p d).boot.colLoss = d.boot.colLoss ||| BitVec.ofNat 4 (2 ^ (p.val - 2))) := by
  refine ⟨?_, ?_, fun h2 => ?_⟩
  · rintro rfl
    simp [opPllLockLost, show (pllOf d 0).locked = true from h]
  · rintro rfl
    simp [opPllLockLost, show (pllOf d 1).locked = true from h]
  · obtain ⟨k, hk⟩ : ∃ k, p.val = k + 2 := ⟨p.val - 2, by omega⟩
    rw [hk] at h ⊢
    rw [opPllLockLost, if_pos h, modBoot_boot, pow2, Nat.one_shiftLeft]
    rfl

/-- Settles O8: a chip reset, whatever its source, is `chipReset` with its cause; the two clock losses latch their flags. -/
theorem resetsAndLosses : Obligations.ResetsAndLosses := by
  intro s
  refine ⟨fun cause cut => ?_, fun k cut => ?_, fun cut => ?_, ?_, fun p hp => ?_⟩
  · exact ⟨_, onDevAlways_eq .., rfl, chipReset_afterReset .., fun hc =>
      chipReset_alwaysOn (fun h => hc (Fin.ext h)) cut s.dev⟩
  · exact ⟨_, onDevAlways_eq .., rfl, chipReset_afterReset .., chipReset_alwaysOn (by omega) cut s.dev⟩
  · exact ⟨_, onDevAlways_eq .., rfl, chipReset_afterReset .., chipReset_powerOn_alwaysOn cut s.dev⟩
  · exact ⟨_, onDevAlways_eq .., rfl, rfl, opRefclkLost_active⟩
  · obtain ⟨hfab, hctl, hcol⟩ := opPllLockLost_flags hp
    exact ⟨_, onDevAlways_eq .., rfl, hfab, hctl, hcol, fun ha => by simp [State.withDev, opPllLockLost_lost, hp, ha]⟩

/-! ## Gated domains (02 R69) -/

/-- A command of a domain that is gated answers the device as it was. -/
theorem answers_gated {c : Instr} {d : Dev} {g : Dev → Bool} {f : Dev → Dev} (hl : d.boot.lost = false) (hg : g d = false)
    (hc : ∀ s, exec c s = onDev s (onlyIf g f)) : Answers c d fun e => e = d :=
  answers_onDev hl hc (onlyIf_neg hg)

theorem hostOpen_gated {d : Dev} (h : controlUp d = false) (fn : Nat) : hostOpen d fn = false := by simp [hostOpen, h]

/-! ## PMBus faults (22 R746) -/

theorem pmbusFail_boot (avs : Bool) (d : Dev) :
    (pmbusFail avs d).boot = { d.boot with pmbusFault := true, avsUnavailable := d.boot.avsUnavailable || avs } := by
  simp [pmbusFail]

/-! ## From reset to HELD (20 R673 to R680) -/

theorem opResetRelease_eq {d : Dev} (h : d.boot.inReset = true) (straps : BitVec 4) :
    (opResetRelease straps d).boot = { d.boot with inReset := false, straps := straps, lost := straps.getLsbD 3 } ∧
      (opResetRelease straps d).clk.pll = [] := by
  simp [opResetRelease, h, bit_toNat]

theorem opPllLockConfirm_locks {p r : Nat} {d : Dev} (hi : d.boot.inReset = false) (hp : (pllOf d p).locked = false) (hr : 256 ≤ r)
    (hc : d.clk.refclk ≤ r) : (pllOf (opPllLockConfirm p r d) p).locked = true ∧ (pllOf (opPllLockConfirm p r d) p).lockedAt = r := by
  rw [opPllLockConfirm, if_neg (by simp [hi, hp]; omega)]
  simp

theorem opPllUngate_ungates {p r : Nat} {d : Dev} (hp : (pllOf d p).locked = true) (hc : d.clk.refclk ≤ r) :
    if (pllOf d p).lockedAt + 4096 ≤ r then (pllOf (opPllUngate p r d) p).ungated = true else opPllUngate p r d = d := by
  split <;> rename_i h <;> simp [opPllUngate, hp, h, hc]

theorem opWheelCounterStart_whl {d : Dev} (hr : d.whl.running = false) (hp : ∀ p < 6, p ≠ 1 → (pllOf d p).ungated = true) :
    (opWheelCounterStart d).whl =
      { d.whl with running := true, n := 0, start := d.whl.now, slip := false, phase := 0, guardNext := none } := by
  have hall : [0, 2, 3, 4, 5].all (fun p => (tabGet ({} : Pll) d.clk.pll p).ungated) = true := by
    simp only [List.all_cons, List.all_nil, Bool.and_true, Bool.and_eq_true]
    exact ⟨hp 0 (by omega) (by omega), hp 2 (by omega) (by omega), hp 3 (by omega) (by omega), hp 4 (by omega) (by omega),
      hp 5 (by omega) (by omega)⟩
  rw [opWheelCounterStart, hr, hall]
  rfl

theorem opBootEntry_boot {d : Dev} (hs : d.boot.state = .powerup) (hi : d.boot.inReset = false) (hp : (pllOf d 1).ungated = true)
    (mode : Option Int) :
    (opBootEntry mode d).boot.state = .boot ∧ (∀ x, mode = some x → (opBootEntry mode d).boot.voutExp = x) ∧
      (mode = none → (opBootEntry mode d).boot.pmbusFault = true) := by
  cases mode <;> simp [opBootEntry, hs, hi, hp, pmbus, pmbusFail_boot]

theorem opFirmwareBootLoad_flash {d : Dev} {f : Firmware} (hs : d.boot.state = .boot) (hf : d.boot.firmware = none)
    (hh : d.boot.toHost = false) (hp : d.flash.present = true) (hv : flashFirmware d.flash = some f) :
    (opFirmwareBootLoad true d).boot.firmware = some f := by
  simp [opFirmwareBootLoad, bootFlash, hs, hf, hh, hp, hv]

theorem opMbInGo_fetches {d : Dev} (hs : d.boot.state = .boot) (hh : d.boot.toHost = true)
    (hf : ∀ f ∈ d.host.fetches, f.why ≠ .boot) :
    ∃ f ∈ (opMbInGo 0 1 d).host.fetches, f.why = .boot ∧ f.addr = d.mail.fwAddr.toNat ∧ f.len = d.mail.fwLen.toNat := by
  have hnone : (d.host.fetches.any fun f => f.why == .boot) = false := by simpa using hf
  rw [opMbInGo, if_pos ⟨rfl, rfl, hs, hh, hnone⟩, issueFetch, issueOut_fetches]
  exact ⟨_, List.mem_append_right _ (List.mem_singleton_self _), rfl, rfl, rfl⟩

theorem opMemoryInitDone_zero {d : Dev} (hr : d.whl.running = true) (hi : d.mem.initDone = false) :
    (opMemoryInitDone d).mem.initDone = true ∧ ∀ a, byteAt (opMemoryInitDone d) a = 0 := by
  simp [opMemoryInitDone, hr, hi, byteAt, memGet, unwritten]

@[simp] theorem mailMessage_boot (kind : Nat) (data : List Byte) (d : Dev) : (mailMessage kind data d).boot = d.boot := by
  simp [mailMessage]

theorem armSeal_state (b : List Byte) (cmd : Option Nat) (d : Dev) : (armSeal b cmd d).boot.state = d.boot.state := rfl

theorem autoSeal_state (d : Dev) : (autoSeal d).boot.state = d.boot.state := by
  unfold autoSeal
  repeat' split
  · exact armSeal_state ..
  all_goals rw [mailMessage_boot]

theorem opHeldEntry_state {d : Dev} (hs : d.boot.state = .boot) (hf : d.boot.firmware.isSome = true) (hi : d.mem.initDone = true) :
    (opHeldEntry d).boot.state = .held := by
  rw [opHeldEntry, if_pos ⟨hs, hf, hi⟩]
  split
  · exact autoSeal_state _
  · rfl

/-- Settles O9: one lemma above for the effect of each event; what is gated answers the device as it was. -/
theorem bootCompletes : Obligations.BootCompletes := by
  intro d hl
  refine ⟨fun straps hi => ?_, fun p r hi hp hr hc => ?_, fun p r hp hc => ?_, fun hg => ?_, fun hg => ?_, fun c p k m hg => ?_,
    fun rate width flit hi => ?_, fun hr hu hp => ?_, fun mode hs hi hp => ?_, fun f hs hf hh hp hv hu => ?_,
    fun hh hs ht hf => ?_, fun hr hu hi => ?_, fun hs hu hf hi => ?_⟩
  · obtain ⟨hb, hpll⟩ := opResetRelease_eq hi straps
    exact answers_onDev hl (fun s => rfl) (by simp [hb, hpll])
  · exact answers_onDev hl (fun s => rfl) (opPllLockConfirm_locks hi hp hr hc)
  · exact answers_onDev hl (fun s => rfl) (opPllUngate_ungates hp hc)
  · exact ⟨fun i t => answers_gated hl hg fun s => rfl, fun c t => answers_gated hl hg fun s => rfl,
      answers_gated hl hg fun s => rfl, fun l k => answers_gated hl hg fun s => rfl,
      fun k t => answers_gated (g := fun d => unitsOn d && fabricUp d) hl (by simp [hg]) fun s => rfl⟩
  · exact ⟨fun r => ⟨answers_gated hl hg fun s => rfl, answers_gated hl hg fun s => rfl⟩, answers_gated hl hg fun s => rfl,
      fun fn r v => answers_gated (g := fun d => hostOpen d fn) hl (hostOpen_gated hg _) fun s => rfl⟩
  · exact answers_gated hl hg fun s => rfl
  · exact answers_onDev hl (fun s => rfl) (by simp [opHostLinkUp, hi])
  · exact answers_onFabric ⟨hl, hu⟩ (fun s => rfl) (by simp [opWheelCounterStart_whl hr hp])
  · obtain ⟨hst, hsome, hnone⟩ := opBootEntry_boot hs hi hp (mode.map BitVec.toInt)
    exact answers_onControl ⟨hl, hp⟩ (fun s => rfl) ⟨hst, fun x hx => hsome _ (by simp [hx]), fun hx => hnone (by simp [hx])⟩
  · exact answers_onControl ⟨hl, hu⟩ (fun s => rfl) (opFirmwareBootLoad_flash hs hf hh hp hv)
  · exact answers_onHost hl hh (fun s => rfl) (opMbInGo_fetches hs ht hf)
  · exact answers_onFabric ⟨hl, hu⟩ (fun s => rfl) (opMemoryInitDone_zero hr hi)
  · exact answers_onControl ⟨hl, hu⟩ (fun s => rfl) (opHeldEntry_state hs hf hi)

/-! ## All islands at once -/

theorem islOfDev_foldl_modIsl (f : Island → Island) {l : List Nat} (hl : l.Nodup) (d : Dev) (k : Nat) :
    islOfDev (l.foldl (fun a i => modIsl i f a) d) k = if k ∈ l then f (islOfDev d k) else islOfDev d k := by
  induction l generalizing d with
  | nil => simp
  | cons i l ih =>
    obtain ⟨hi, hl⟩ := List.nodup_cons.mp hl
    rw [List.foldl_cons, ih hl]
    by_cases h : k = i
    · subst h; simp [hi]
    · simp [h]

theorem islOfDev_modAll {f : Island → Island} {d : Dev} {k : Nat} (hk : k < 32) :
    islOfDev ((List.range 32).foldl (fun a i => modIsl i f a) d) k = f (islOfDev d k) := by
  rw [islOfDev_foldl_modIsl f List.nodup_range, if_pos (List.mem_range.mpr hk)]

/-! ## The seal, DRAIN, HALTED and the trip (20 R671, R682, R687, R700, R707) -/

/-- What a sealed block leaves of the device. -/
def SealedWith (b : List Byte) (e : Dev) : Prop :=
  e.boot.state = .active ∧ e.boot.sealPend = none ∧ e.whl.w = blkField b 16 4 ∧ e.whl.g = blkField b 20 1 ∧
    e.whl.n = 0 ∧ e.power.cap = blkField b 44 2 ∧ e.board.holdN = false

theorem applySeal_sealed (b : List Byte) (d : Dev) : SealedWith b (applySeal b d) := by
  simp [SealedWith, applySeal]

theorem opConfigSealEffect_sealed {d : Dev} {at_ : Nat} {b : List Byte} {cmd : Option Nat}
    (hp : d.boot.sealPend = some (at_, b, cmd)) (hs : d.boot.state = .held) (hc : countDue d.whl at_ = true) :
    SealedWith b (opConfigSealEffect d) := by
  simp only [opConfigSealEffect, hp]
  rw [if_pos ⟨hs, hc⟩]
  cases cmd with
  | none => exact applySeal_sealed b d
  | some id =>
    have h := applySeal_sealed b d
    dsimp only
    split <;> simpa [SealedWith] using h

theorem haltDevice_halts (d : Dev) :
    (haltDevice d).boot = { d.boot with state := .halted } ∧ ∀ i < 32, (islOfDev (haltDevice d) i).oscOn = false := by
  refine ⟨by simp [haltDevice], fun i hi => ?_⟩
  rw [haltDevice, islOfDev_modAll hi]

theorem opDrainToHalted_eq {d : Dev} (hs : d.boot.state = .drain) (hj : d.span.joined = false)
    (hv : ∀ i < 32, (tenOf d i).st = .vacant) : opDrainToHalted d = haltDevice d := by
  rw [opDrainToHalted, if_pos ⟨hs, hj, by simpa using hv⟩]

theorem opThermalTrip_latches (d : Dev) :
    (opThermalTrip d).boot.trip = true ∧ (opThermalTrip d).board.tripN = true ∧
      (d.boot.state ≠ .powerup →
        (opThermalTrip d).boot.state = .halted ∧ ∀ i < 32, (islOfDev (opThermalTrip d) i).oscOn = false) := by
  by_cases h : d.boot.state = .powerup
  · simp [opThermalTrip, h]
  · rw [opThermalTrip, if_neg h]
    obtain ⟨hb, hi⟩ := haltDevice_halts (modBoard (fun o => { o with tripN := true }) (modBoot (fun b => { b with trip := true }) d))
    exact ⟨by simp [hb], by simp, fun _ => ⟨by simp [hb], hi⟩⟩

/-- Settles O10: the seal gives the block's fields, HALTED gates every island, and the trip latches in every state. -/
theorem deviceStates : Obligations.DeviceStates := by
  intro d hl
  refine ⟨fun at_ b cmd hp hs hc hu => ?_, fun hh => ?_, fun hh => ?_, fun hs hu hj hv => ?_, ?_⟩
  · exact answers_onControl ⟨hl, hu⟩ (fun s => rfl) (opConfigSealEffect_sealed hp hs hc)
  · exact answers_onHost hl hh (fun s => rfl) (by simp [opDrainReqSet])
  · exact answers_onHost hl hh (fun s => rfl) (by simp [opDrainReqClear])
  · refine answers_onControl ⟨hl, hu⟩ (fun s => rfl) ?_
    rw [opDrainToHalted_eq hs hj hv]
    obtain ⟨hb, hi⟩ := haltDevice_halts d
    exact ⟨by rw [hb], hi⟩
  · exact answers_onDev hl (fun s => rfl) (opThermalTrip_latches d)

/-! ## Samples, temperatures and PMBus (20 R701, R705; 22 R744 to R747) -/

theorem lowerLimits_power (d : Dev) :
    (lowerLimits d).power = { d.power with lowered := d.power.lowered || !(lowerable d).isEmpty } := by
  simp [lowerLimits, setLimit]

theorem markWarm_power (on : Bool) (d : Dev) : (markWarm on d).power = { d.power with thermWarn := on } := by
  unfold markWarm
  split <;> simp

theorem opThermalSample_power {d : Dev} (h : firmwareRuns d = true) (isl col : List Int) :
    (opThermalSample isl col d).power.temp = listTab isl ∧ (opThermalSample isl col d).power.colTemp = listTab col ∧
      (opThermalSample isl col d).power.thermWarn = (isl ++ col).any fun x => decide (800 ≤ x) := by
  rw [opThermalSample, if_pos h]
  by_cases hw : ((isl ++ col).any fun x => decide (800 ≤ x)) = true <;> simp only [hw] <;> simp [lowerLimits_power, markWarm_power]

/-! The samples of board power are kept by whatever the limits and the voltage do. -/

theorem markCap_samples (on : Bool) (d : Dev) : (markCap on d).power.samples = d.power.samples := by
  unfold markCap
  split <;> simp

theorem commandVoltage_samples (mv : Nat) (d : Dev) : (commandVoltage mv d).power.samples = d.power.samples := by
  simp [commandVoltage, pmbus]

theorem followLimits_samples (d : Dev) : (followLimits d).power.samples = d.power.samples := by
  unfold followLimits
  dsimp only
  repeat' split
  · rfl
  · exact commandVoltage_samples _ d
  · exact commandVoltage_samples _ d
  · rfl

theorem putLimits_samples (ls : List Nat) (d : Dev) : (putLimits ls d).power.samples = d.power.samples := by
  unfold putLimits
  dsimp only
  split <;> simp [setLimit]

theorem raiseLimits_samples (d : Dev) : (raiseLimits d).power.samples = d.power.samples := by
  unfold raiseLimits
  dsimp only
  repeat' split
  · exact followLimits_samples d
  · rfl
  · exact putLimits_samples _ d
  · exact commandVoltage_samples _ d

theorem opPowerSample_samples {d : Dev} (h : firmwareRuns d = true) (w : Nat) :
    (opPowerSample w d).power.samples = (w :: d.power.samples).take 10 := by
  rw [opPowerSample, if_pos h]
  dsimp only
  repeat' split
  · rw [followLimits_samples, lowerLimits_power, markCap_samples]; rfl
  · rw [raiseLimits_samples, markCap_samples]; rfl
  · rw [followLimits_samples, markCap_samples]; rfl

theorem opReadVoutPoll_polls {d : Dev} {v : Nat} (hv : d.power.vTarget = some v) (h : firmwareRuns d = true) (raw : BitVec 16) :
    (opReadVoutPoll raw d).host.posted = d.host.posted ++ [.pmb 0x40 0x8B []] ∧
      (opReadVoutPoll raw d).power.vTarget = (if voutReached d.boot.voutExp raw.toNat v then none else some v) := by
  simp only [opReadVoutPoll, hv]
  rw [if_pos h]
  split <;> simp [pmbus, hv]

theorem pmbusFail_holds (avs : Bool) (d : Dev) :
    (pmbusFail avs d).boot.pmbusFault = true ∧ (pmbusFail avs d).board.smbAlert = true ∧
      (pmbusFail avs d).power.vcore = d.power.vcore ∧
      ∀ i < 32, (islOfDev (pmbusFail avs d) i).limit ≤ codeUnder d.power.vcore := by
  refine ⟨by simp [pmbusFail_boot], by simp [pmbusFail], by simp [pmbusFail], fun i hi => ?_⟩
  rw [pmbusFail, islOfDev_modAll hi]
  exact Nat.min_le_right ..

theorem opPmbusFault_eq {d : Dev} {why : Nat} (hi : d.boot.inReset = false) (hs : d.boot.state ≠ .powerup)
    (hw : why = 2 → d.power.vTarget.isSome = true) : opPmbusFault why d = pmbusFail (why == 0) d := by
  have hv : (why == 2 && d.power.vTarget.isNone) = false := by
    by_cases h : why = 2
    · simpa [h, Option.isSome_iff_ne_none] using hw h
    · simp [h]
  simp [opPmbusFault, hi, hs, hv]

theorem opPmbAlert_logs {d : Dev} (h : firmwareRuns d = true) (st0 st1 : BitVec 16) :
    (opPmbAlert st0 st1 d).power.statusLog = d.power.statusLog ++ [(st0.toNat, st1.toNat)] := by
  rw [opPmbAlert, if_pos h]
  dsimp only
  split <;> simp [pmbus]

/-- Settles O11: one lemma above for each of the five commands. -/
theorem powerAndHeat : Obligations.PowerAndHeat := by
  intro d hu
  refine ⟨fun isl col h => ?_, fun w h => ?_, fun raw v hv h => ?_, fun why hi hs hw => ?_, fun st0 st1 h => ?_⟩
  · exact answers_onControl hu (fun s => rfl) (opThermalSample_power h isl col)
  · exact answers_onControl hu (fun s => rfl) (opPowerSample_samples h w.toNat)
  · exact answers_onControl hu (fun s => rfl) (opReadVoutPoll_polls hv h raw)
  · refine answers_onControl hu (fun s => rfl) ?_
    rw [opPmbusFault_eq hi hs fun h => hw (Fin.ext h)]
    exact pmbusFail_holds _ d
  · exact answers_onControl hu (fun s => rfl) (opPmbAlert_logs h st0 st1)

end Sys2Proof.Machine
end

section
/-!
The statements of 03_wheel_and_count.md on markers (R93, R94), the events of a span (R103 to R106, R109, R111; 05 R194; 15 R539)
and the SYNC_IN pulse (R101, R102).
-/
namespace Sys2Proof.Machine

/-! ## Markers sent (03 R94) -/

/-- The flight of a marker on its way to a link's transmitter. -/
def markerFlight (l t : Nat) (m : Marker) : Flight :=
  { dest := .linkTx l, due := t, sw := t
    flit := sealFlit { data := markerLine m, ten := 63, tag := 0, late := false, poison := false, ecc := 0 } }

theorem opWheelMarkerSend_own {l : Nat} {d : Dev} (hj : d.span.joined = true) (hs : d.boot.state = .active)
    (hp : d.whl.phase = 64) (hl : l ∈ spanLinks d.span) (hr : (lnkOf d l).state = .ready)
    (hf : ∀ f ∈ d.fab.flits, f.dest ≠ .linkTx l) (hm : follower d.span = false) :
    opWheelMarkerSend l d = addFlight (markerFlight l (d.whl.start + 63 * (d.whl.w / 64)) (ownMarker d)) d := by
  have hfree : (d.fab.flits.any fun f => f.dest == .linkTx l && f.due == d.whl.start + 63 * (d.whl.w / 64)) = false :=
    List.any_eq_false.mpr fun f hfm => by simp [hf f hfm]
  simp [opWheelMarkerSend, hj, hs, hp, hl, hr, hm, hfree, markerFlight]

/-! ## Markers received (03 R93, R94) -/

theorem opWheelMarkerReceive_error {l at16 : Nat} {d : Dev} {m : Line} {rest : List Line}
    (hq : (lnkOf d l).markers = m :: rest) (hm : (markerOf m).reserved = true) :
    opWheelMarkerReceive l at16 d =
      modSpan (fun s => { s with errors := satInc s.errors }) (modLnk l (fun k => { k with markers := rest }) d) := by
  simp [opWheelMarkerReceive, hq, hm]

/-- What a marker of the span leaves of it, taken as the newest or not. -/
def noted (m : Marker) (s : Span) : Span := { noteMarker m s with newAny := s.newAny || fromMaster s m }

/-- A follower takes the master's marker that reaches it first. -/
theorem opWheelMarkerReceive_kept {l at16 : Nat} {d : Dev} {m : Line} {rest : List Line}
    (hq : (lnkOf d l).markers = m :: rest) (hres : (markerOf m).reserved = false) (hk : (markerOf m).kind = 1)
    (hj : d.span.joined = true) (hl : l ∈ spanLinks d.span) (hf : follower d.span = true)
    (ho : (markerOf m).origin = d.span.masterRank) (hs : d.span.successor ≠ d.span.masterRank) (hn : d.span.kept = none) :
    opWheelMarkerReceive l at16 d =
      adoptMarker (markerOf m) l at16 (modSpan (noted (markerOf m)) (modLnk l (fun k => { k with markers := rest }) d)) := by
  simp [opWheelMarkerReceive, hq, hres, hk, hj, hl, hf, ho, hs.symm, hn, newer]
  rfl

theorem adoptMarker_span (m : Marker) (l at16 : Nat) (d : Dev) :
    (adoptMarker m l at16 d).span.kept = some { marker := m, link := l, at16 := at16 } ∧
      (adoptMarker m l at16 d).span.newMaster =
        (d.span.newMaster || (m.origin == d.span.masterRank && d.span.lastSend.all fun q => q.1 != m.originGc)) ∧
      (adoptMarker m l at16 d).span.successor = if m.origin = d.span.masterRank then m.successor else d.span.successor :=
  ⟨rfl, rfl, rfl⟩

/-- Settles O15: a marker reads the device after the receive queue has been drained, which leaves the span as it was. -/
theorem markers : Obligations.Markers := by
  intro d hu l
  refine ⟨fun hj hs hp hl hr hf hm => ?_, fun at16 m rest hq hres => ?_, fun at16 m rest hq hres hk hj hl hf ho hs hn hnew => ?_⟩
  · refine answers_onFabric hu (fun s => rfl) ?_
    rw [opWheelMarkerSend_own hj hs hp hl hr hf hm]
    exact ⟨_, List.mem_append_right _ (List.mem_singleton_self _), rfl, rfl, rfl, rfl⟩
  · refine answers_onFabric hu (fun s => rfl) ?_
    rw [opMarkerReceive, opWheelMarkerReceive_error hq hres]
    refine ⟨?_, by simp, by simp⟩
    rw [lnkOf_congr (modSpan_lnk _ _), lnkOf_modLnk_same]
  · refine answers_onFabric hu (fun s => rfl) ?_
    rw [opMarkerReceive, opWheelMarkerReceive_kept hq hres hk (by simpa using hj) (by simpa using hl) (by simpa using hf)
      (by simpa using ho) (by simpa using hs) (by simpa using hn)]
    obtain ⟨hkept, hmaster, hsucc⟩ := adoptMarker_span (markerOf m) l at16
      (modSpan (noted (markerOf m)) (modLnk l (fun k => { k with markers := rest }) (drainLink l (at16 / 16 + 6) d)))
    refine ⟨?_, hkept, ?_, ?_⟩
    · rw [lnkOf_congr (e := modLnk l (fun k => { k with markers := rest }) (drainLink l (at16 / 16 + 6) d)) (by simp), lnkOf_modLnk_same]
    · simp [hmaster, noted, noteMarker, ho, hnew]
    · simp [hsucc, noted, noteMarker, ho]

/-! ## A span loses its master, halts and forms (03 R103 to R106, R109, R111) -/

theorem opMasterTakeover_span {d : Dev} (hf : follower d.span = true) (ho : d.span.ownRank = d.span.successor)
    (hm : 2 ≤ d.span.missedMaster) :
    (opMasterTakeover d).span.masterRank = d.span.ownRank ∧ d.span.masterRank ∈ (opMasterTakeover d).span.dead ∧
      follower (opMasterTakeover d).span = false := by
  simp [opMasterTakeover, hf, ho, hm]
  simp [follower]

theorem spanLost_runs {s : Span} (hj : s.joined = true) (hs : s.state = .locked ∨ s.state = .slipping) :
    spanLost s = { s with halting := true } := by
  rcases hs with hs | hs <;> simp [spanLost, hj, hs]

theorem opMarkerLossHalt_span {d : Dev} (hf : follower d.span = true) (hj : d.span.joined = true)
    (hs : d.span.state = .locked ∨ d.span.state = .slipping) (hm : d.span.d + 2 ≤ d.span.missedAll) :
    (opMarkerLossHalt d).span.halting = true ∧ (atBoundary d = true → (opMarkerLossHalt d).span.haltDue = true) := by
  simp +contextual [opMarkerLossHalt, hf, hm, spanLost_runs hj hs]

theorem opSpanFormed_marks {d : Dev} (hs : d.span.state = .forming) (hf : follower d.span = false)
    (hl : ∀ l ∈ spanLinks d.span, (lnkOf d l).state = .ready) (hd : formDue d = false) :
    opSpanFormed d = modSpan (fun s => { s with lockMark := true }) d := by
  have hown : ownTrained d = true := by simpa [ownTrained] using hl
  simp [opSpanFormed, hs, hf, hd, hown]

theorem opSpanFormed_steps {d : Dev} (hd : formDue d = true) (hr : d.whl.running = true) (hs : d.whl.slip = false) :
    (opSpanFormed d).span.state = .locked ∧ (opSpanFormed d).span.joinCmd = none ∧
      (opSpanFormed d).whl.n = max (d.whl.n + 1) (d.span.stepTo / d.whl.w) := by
  simp only [opSpanFormed, hd, hr, hs, Bool.not_false, Bool.and_self, if_true]
  cases d.span.joinCmd <;> simp

/-- The correction that is due lies below a wheel and its guard, of whatever sign it is. -/
theorem toNat_emod_lt (c : Int) {n : Nat} (h : 0 < n) : (c % (n : Int)).toNat < n := by
  have hpos : (0 : Int) < n := by omega
  have hlt := Int.emod_lt_of_pos c hpos
  omega

theorem opFormingStretch_eq {d : Dev} {p : Nat} (hs : d.span.state = .forming) (hf : follower d.span = true)
    (hn : d.span.stretched = false) (hk : sinkStart d = none) (hg : d.whl.guardNext = none) (hp : d.span.predict16 = some p) :
    opFormingStretch d =
      modSpan (fun s => { s with
        stretched := true, predict16 := if correction d.whl p < 0 then extend d.whl s else s.predict16 })
        (modWhl (fun w => { w with
          guardNext := some (w.g + (correction d.whl p % ((d.whl.w + d.whl.g : Nat) : Int)).toNat)
          stretches := satInc w.stretches }) d) := by
  simp [opFormingStretch, hs, hf, hn, hk, hg, hp]

theorem opFormingTimeout_span {d : Dev} (hs : d.span.state = .forming) (hw : 4096 ≤ d.span.formWheels) (hb : atBoundary d = true) :
    (opFormingTimeout d).span.joined = false ∧ (opFormingTimeout d).span.ranks = [] ∧ (opFormingTimeout d).span.state = .locked := by
  simp [opFormingTimeout, hs, hw, hb, spanOfOne]

/-! ## SPAN_HALT (05 R194) -/

/-- A link that is READY aborts for 64 frames. -/
def abortReady (k : Link) : Link := if k.state = .ready then { k with aborting := 64 } else k

theorem lnkOf_foldl_abortReady {l : Nat} (ls : List Nat) (d : Dev) (hr : (lnkOf d l).state = .ready)
    (h : l ∈ ls ∨ (lnkOf d l).aborting = 64) :
    (lnkOf (ls.foldl (fun a i => modLnk i abortReady a) d) l).aborting = 64 := by
  induction ls generalizing d with
  | nil => simpa using h
  | cons i ls ih =>
    rw [List.foldl_cons]
    by_cases hi : l = i
    · subst hi
      exact ih _ (by simp [abortReady, hr]) (.inr (by simp [abortReady, hr]))
    · exact ih _ (by simpa [hi] using hr) (by simpa [hi] using h)

theorem opSpanHalt_eq {d : Dev} (hd : d.span.haltDue = true) (hj : d.span.joined = true)
    (hs : d.span.state = .locked ∨ d.span.state = .slipping) (hb : atBoundary d = true) :
    opSpanHalt d = raiseDev 1 (raiseDev 2 ((spanTenancies d).foldl (fun a t => spanStop t a)
      (modSpan (fun s => { s with state := .halted, halting := false, haltDue := false, slipAt := [] })
        ((spanLinks d.span).foldl (fun a l => modLnk l abortReady a) d)))) := by
  rcases hs with hs | hs <;> simp only [opSpanHalt, hd, hj, hs, hb] <;> rfl

theorem opSpanHalt_halts {d : Dev} (hd : d.span.haltDue = true) (hj : d.span.joined = true)
    (hs : d.span.state = .locked ∨ d.span.state = .slipping) (hb : atBoundary d = true) :
    (opSpanHalt d).span.state = .halted ∧ (opSpanHalt d).span.halting = false ∧
      ∀ l ∈ spanLinks d.span, (lnkOf d l).state = .ready → (lnkOf (opSpanHalt d) l).aborting = 64 := by
  rw [opSpanHalt_eq hd hj hs hb]
  refine ⟨by simp, by simp, fun l hl hr => ?_⟩
  rw [lnkOf_congr (e := (spanLinks d.span).foldl (fun a l => modLnk l abortReady a) d) (by simp)]
  exact lnkOf_foldl_abortReady _ d hr (.inl hl)

/-! ## SPAN_LEAVE_EFFECT (15 R539) -/

theorem cmdIds_modCmd {f : Cmd → Cmd} (hf : ∀ c, (f c).id = c.id) (id : Nat) (d : Dev) : cmdIds (modCmd id f d) = cmdIds d := by
  have h : ((fun c : Cmd => c.id) ∘ fun c => if c.id = id then f c else c) = fun c => c.id := by
    funext c
    simp only [Function.comp]
    split <;> simp [hf]
  simp only [cmdIds, modCmd, modHost_host, List.map_map, h]

@[simp] theorem cmdIds_finish (id st r0 r1 : Nat) (d : Dev) : cmdIds (finish id st r0 r1 d) = cmdIds d := by
  rw [finish, cmdIds_modCmd]
  exact fun _ => rfl

@[simp] theorem raiseDev_cmds (b : Nat) (d : Dev) : (raiseDev b d).host.cmds = d.host.cmds := by
  unfold raiseDev
  split <;> simp

theorem settled_finish_of_settled {d : Dev} {id st : Nat} (h : Settled d id st) (j r0 r1 : Nat) :
    Settled (finish j st r0 r1 d) id st := by
  obtain ⟨c, hc, hid, hdone, hst⟩ := h
  refine ⟨_, List.mem_map_of_mem hc, ?_⟩
  dsimp only
  split <;> simp [hid, hdone, hst]

theorem settled_foldl_finish {st : Nat} (f : Cmd → Nat) {id : Nat} (cs : List Cmd) (d : Dev)
    (h : Settled d id st ∨ (id ∈ cmdIds d ∧ ∃ c ∈ cs, c.id = id)) :
    Settled (cs.foldl (fun a c => finish c.id st (f c) 0 a) d) id st := by
  induction cs generalizing d with
  | nil => simpa using h
  | cons c cs ih =>
    refine ih _ ?_
    rcases h with h | ⟨hid, x, hx, rfl⟩
    · exact .inl (settled_finish_of_settled h ..)
    · rcases List.mem_cons.mp hx with rfl | hx
      · exact .inl (settledWith_finish_of_mem_cmdIds hid st (f x) 0).settled
      · exact .inr ⟨by simpa using hid, x, hx, rfl⟩

theorem opSpanLeaveEffect_eq {d : Dev} {c : Cmd} (hc : c ∈ d.host.cmds) (hop : opcodeOf c = 0x501) (hst : c.stage = .armed)
    (hd : countDue d.whl c.count = true) :
    ∃ cs : List Cmd, c ∈ cs ∧ opSpanLeaveEffect d = raiseDev 1 (cs.foldl (fun a c => finish c.id sOk c.count 0 a) (spanOfOne d)) := by
  refine ⟨openCmds d fun c => opcodeOf c == 0x501 && c.stage == .armed && countDue d.whl c.count, ?_, ?_⟩
  · simp [openCmds, hc, hop, hst, hd]
  · have hmem : c ∈ openCmds d fun c => opcodeOf c == 0x501 && c.stage == .armed && countDue d.whl c.count := by
      simp [openCmds, hc, hop, hst, hd]
    unfold opSpanLeaveEffect
    split
    next h => simp [h] at hmem
    next h => rw [h]

theorem opSpanLeaveEffect_leaves {d : Dev} {c : Cmd} (hc : c ∈ d.host.cmds) (hop : opcodeOf c = 0x501) (hst : c.stage = .armed)
    (hd : countDue d.whl c.count = true) :
    (opSpanLeaveEffect d).span.joined = false ∧ (opSpanLeaveEffect d).span.ranks = [] ∧ Settled (opSpanLeaveEffect d) c.id 0 := by
  obtain ⟨cs, hmem, heq⟩ := opSpanLeaveEffect_eq hc hop hst hd
  rw [heq]
  refine ⟨by simp [spanOfOne], by simp [spanOfOne], ?_⟩
  obtain ⟨x, hx, h⟩ := settled_foldl_finish (st := sOk) (·.count) cs (spanOfOne d)
    (.inr ⟨List.mem_map_of_mem (f := (·.id)) hc, c, hmem, rfl⟩)
  exact ⟨x, by simpa using hx, h⟩

/-- Settles O16: one lemma above for each event of a span. -/
theorem spanEvents : Obligations.SpanEvents := by
  intro d hu
  refine ⟨fun hf ho hm => ?_, fun hf hj hs hm => ?_, fun hs hf hl hd => ?_, fun hd hr hs => ?_, fun p hs hf hn hk hg hp hpos => ?_,
    fun hs hw hb => ?_, fun hd hj hs hb => ?_, fun c hc hop hst hd => ?_⟩
  · exact answers_onFabric hu (fun s => rfl) (opMasterTakeover_span hf ho hm)
  · exact answers_onFabric hu (fun s => rfl) (opMarkerLossHalt_span hf hj hs hm)
  · refine answers_onFabric hu (fun s => rfl) ?_
    rw [opSpanFormed_marks hs hf hl hd]
    exact ⟨rfl, hs⟩
  · exact answers_onFabric hu (fun s => rfl) (opSpanFormed_steps hd hr hs)
  · refine answers_onFabric hu (fun s => rfl) ?_
    rw [opFormingStretch_eq hs hf hn hk hg hp]
    exact ⟨rfl, rfl, _, toNat_emod_lt _ hpos, rfl⟩
  · exact answers_onFabric hu (fun s => rfl) (opFormingTimeout_span hs hw hb)
  · exact answers_onFabric hu (fun s => rfl) (opSpanHalt_halts hd hj hs hb)
  · exact answers_onFabric hu (fun s => rfl) (opSpanLeaveEffect_leaves hc hop hst hd)

/-! ## The SYNC_IN pulse (03 R101, R102) -/

/-- Settles O17: each of the three commands acts on a sink. -/
theorem syncPulse : Obligations.SyncPulse := by
  intro d hu hm
  refine ⟨fun t => ?_, fun h2 => ?_, fun h2 => ?_⟩
  · exact answers_onFabric hu (fun s => rfl) (by simp [opSyncInEdge, hm])
  · exact answers_onFabric hu (fun s => rfl) (by simp [opSyncLost, hm, h2])
  · refine answers_onFabric hu (fun s => rfl) ?_
    rw [opSyncDisagree, if_pos ⟨hm, h2⟩]
    exact ⟨rfl, fun hj hs => by simp [spanLost_runs hj hs]⟩

end Sys2Proof.Machine
end

section
/-!
The statement on a tick of a switch (04 R137, R138, R147, R153, R155, R156).
-/
namespace Sys2Proof.Machine

/-! ## Counters of a port (04 R159) -/

@[simp] theorem portCount_ctrAt_same (i p : Nat) (f : FabCtr → FabCtr) (d : Dev) :
    portCount (ctrAt i p f d) i p = f (portCount d i p) := by
  by_cases h : p < 16 <;> simp [portCount, ctrAt, clCtr, portCtr, h]

theorem portCount_ctrAt_ne {i p q : Nat} (h : p ≠ q) (f : FabCtr → FabCtr) (d : Dev) :
    portCount (ctrAt i q f d) i p = portCount d i p := by
  by_cases hp : p < 16 <;> by_cases hq : q < 16 <;> simp only [portCount, ctrAt, clCtr, portCtr, hp, hq, if_true, if_false]
  · exact tabGet_tabMod_ne _ _ _ _ (by omega)
  · exact tabGet_tabMod_ne _ _ _ _ (by omega)

/-- A field that an update of a counter keeps is kept at every port. -/
theorem portCount_ctrAt_field {β : Type} (π : FabCtr → β) {f : FabCtr → FabCtr} (hf : ∀ c, π (f c) = π c) (i q p : Nat) (d : Dev) :
    π (portCount (ctrAt i q f d) i p) = π (portCount d i p) := by
  by_cases h : p = q
  · subst h; rw [portCount_ctrAt_same, hf]
  · rw [portCount_ctrAt_ne h]

theorem portCount_congr {d e : Dev} (hc : e.fab.clCtr = d.fab.clCtr) (hp : e.fab.portCtr = d.fab.portCtr) (i p : Nat) :
    portCount e i p = portCount d i p := by
  simp only [portCount, hc, hp]

@[simp] theorem ctrAt_flits (i p : Nat) (f : FabCtr → FabCtr) (d : Dev) : (ctrAt i p f d).fab.flits = d.fab.flits := by
  unfold ctrAt; split <;> rfl

@[simp] theorem ctrAt_tables (i p : Nat) (f : FabCtr → FabCtr) (d : Dev) :
    (ctrAt i p f d).fab.route = d.fab.route ∧ (ctrAt i p f d).fab.phase = d.fab.phase := by
  unfold ctrAt; split <;> exact ⟨rfl, rfl⟩

/-! ## What the route sequencer leaves of the flits in flight and of the counters -/

/-- A flit waits at an input of a switch at a tick. -/
def AtInput (i p t : Nat) (y : Flight) : Prop := y.dest = .swIn i p ∧ y.due = t

/-- Words that take the flits at some inputs of switch i in tick t have been applied: other flits are kept, none is new that is
due by now, and only void flits and dark drops have been counted. -/
structure Routed (i t : Nat) (taken : Nat → Prop) (d e : Dev) : Prop where
  due : ∀ h : Flight → Bool, (∀ y, h y = true → y.due ≤ t ∧ ∀ p, taken p → ¬AtInput i p t y) →
    e.fab.flits.filter h = d.fab.flits.filter h
  kept : ∀ y ∈ d.fab.flits, (∀ p, taken p → ¬AtInput i p t y) → y ∈ e.fab.flits
  tables : e.fab.route = d.fab.route ∧ e.fab.phase = d.fab.phase
  unrouted : ∀ p, (portCount e i p).unrouted = (portCount d i p).unrouted
  eccCorr : ∀ p, (portCount e i p).eccCorr = (portCount d i p).eccCorr

variable {i t : Nat} {taken : Nat → Prop} {d e g : Dev}

theorem Routed.of_fab (hf : e.fab.flits = d.fab.flits) (ht : e.fab.route = d.fab.route ∧ e.fab.phase = d.fab.phase)
    (hc : e.fab.clCtr = d.fab.clCtr) (hp : e.fab.portCtr = d.fab.portCtr) : Routed i t taken d e where
  due _ _ := by rw [hf]
  kept y hy _ := by rwa [hf]
  tables := ht
  unrouted p := by rw [portCount_congr hc hp]
  eccCorr p := by rw [portCount_congr hc hp]

theorem Routed.refl (d : Dev) : Routed i t taken d d := .of_fab rfl ⟨rfl, rfl⟩ rfl rfl

theorem Routed.trans (h : Routed i t taken d e) (h' : Routed i t taken e g) : Routed i t taken d g where
  due p hp := (h'.due p hp).trans (h.due p hp)
  kept y hy hn := h'.kept y (h.kept y hy hn) hn
  tables := ⟨h'.tables.1.trans h.tables.1, h'.tables.2.trans h.tables.2⟩
  unrouted p := (h'.unrouted p).trans (h.unrouted p)
  eccCorr p := (h'.eccCorr p).trans (h.eccCorr p)

theorem Routed.foldl {α : Type} {f : Dev → α → Dev} {l : List α} (h : ∀ x ∈ l, ∀ a, Routed i t taken a (f a x)) (d : Dev) :
    Routed i t taken d (l.foldl f d) := by
  induction l generalizing d with
  | nil => exact .refl d
  | cons x l ih =>
    exact (h x (List.mem_cons_self ..) d).trans (ih (fun y hy => h y (List.mem_cons_of_mem _ hy)) _)

theorem routed_takeFlight {p : Nat} (hp : taken p) (d : Dev) : Routed i t taken d (takeFlight (.swIn i p) t d).2 where
  due h hh := by
    simp only [takeFlight, List.filter_filter]
    refine List.filter_congr fun y _ => ?_
    by_cases hy : h y = true
    · have hn := (hh y hy).2 p hp
      simp only [AtInput] at hn
      simp only [hy, Bool.true_and, Bool.not_eq_true', Bool.and_eq_false_iff, beq_eq_false_iff_ne]
      exact Decidable.not_and_iff_or_not.mp hn
    · simp [hy]
  kept y hy hn := by
    refine List.mem_filter.mpr ⟨hy, ?_⟩
    have hn := hn p hp
    simp only [AtInput] at hn
    simp only [Bool.not_eq_true', Bool.and_eq_false_iff, beq_eq_false_iff_ne]
    exact Decidable.not_and_iff_or_not.mp hn
  tables := ⟨rfl, rfl⟩
  unrouted _ := rfl
  eccCorr _ := rfl

theorem routed_ctrAt {f : FabCtr → FabCtr} (hu : ∀ c, (f c).unrouted = c.unrouted) (hc : ∀ c, (f c).eccCorr = c.eccCorr) (p : Nat)
    (d : Dev) : Routed i t taken d (ctrAt i p f d) where
  due h _ := by rw [ctrAt_flits]
  kept y hy _ := by rwa [ctrAt_flits]
  tables := ctrAt_tables ..
  unrouted q := portCount_ctrAt_field (·.unrouted) hu i p q d
  eccCorr q := portCount_ctrAt_field (·.eccCorr) hc i p q d

theorem routed_addFlight {x : Flight} (hx : t < x.due) (d : Dev) : Routed i t taken d (addFlight x d) where
  due h hh := by
    have hf : h x = false := by
      by_contra hc
      have := (hh x (by simpa using hc)).1
      omega
    simp [addFlight, List.filter_append, hf]
  kept y hy _ := List.mem_append_left _ hy
  tables := ⟨rfl, rfl⟩
  unrouted _ := rfl
  eccCorr _ := rfl

/-- Every path from a switch takes some ticks (04 Table FAB-6). -/
theorem portDest_latency {i p lat : Nat} {dst : Dest} (h : portDest i p = some (dst, lat)) : 0 < lat := by
  unfold portDest at h
  cases hm : meshPeer i p <;> grind

theorem routed_sendCopy (p : Nat) (f : Flit) (d : Dev) : Routed i t taken d (sendCopy i p t f d) := by
  unfold sendCopy
  split
  next hp =>
    have hr := routed_ctrAt (i := i) (t := t) (taken := taken) (f := fun c => { c with darkDrop := satInc c.darkDrop })
      (fun _ => rfl) (fun _ => rfl) p d
    rwa [ctrAt, if_pos hp.1] at hr
  · split
    next h =>
      have := portDest_latency h
      exact routed_addFlight (by dsimp only; omega) d
    · exact .refl d

theorem routed_applyWord {owner : Nat} {w : W64} (hw : taken (rwIn w)) (d : Dev) : Routed i t taken d (applyWord i t owner w d) := by
  have htake := routed_takeFlight (i := i) (t := t) hw d
  unfold applyWord
  dsimp only
  split
  · exact htake.trans (.foldl (fun p _ a => routed_sendCopy p _ a) _)
  · exact htake.trans ((routed_ctrAt (f := fun c => { c with voidMade := satInc c.voidMade }) (fun _ => rfl) (fun _ => rfl) _ _).trans
      (.foldl (fun p _ a => routed_sendCopy p _ a) _))

/-! ## The words that are active (04 R137, R138) -/

/-- The parts of the fabric that reading its tables leaves as they were. -/
def fabTraffic (d : Dev) : List Flight × Tab W64 × Tab PhaseEnt × Tab FabCtr × Tab FabCtr :=
  (d.fab.flits, d.fab.route, d.fab.phase, d.fab.clCtr, d.fab.portCtr)

theorem tableUse_fabTraffic (addr unit owner : Nat) (d : Dev) : fabTraffic (tableUse addr unit owner d).2 = fabTraffic d := by
  unfold tableUse tableRead
  dsimp only
  repeat' split
  all_goals simp [fabTraffic]

theorem routed_activeWords (k : Nat) (d : Dev) : Routed i t taken d (activeWords i k d).2 := by
  have h := activeWords_keeps fabTraffic i k d tableUse_fabTraffic
  simp only [fabTraffic, Prod.mk.injEq] at h
  obtain ⟨hf, hr, hp, hc, hq⟩ := h
  exact .of_fab hf ⟨hr, hp⟩ hc hq

/-- The route sequencer's part of a tick. -/
def routeTick (i t : Nat) (d : Dev) : Dev :=
  (activeWords i (tickAt d.whl t) d).1.foldl (fun a x => applyWord i t x.1 x.2 a) (activeWords i (tickAt d.whl t) d).2

theorem routed_routeTick (h : ∀ x ∈ (activeWords i (tickAt d.whl t) d).1, taken (rwIn x.2)) : Routed i t taken d (routeTick i t d) :=
  (routed_activeWords _ d).trans (.foldl (fun x hx a => routed_applyWord (h x hx) a) _)

/-! ## A tick (04 R138, R147, R155; 04 R133) -/

theorem advanceTo_eq {t : Nat} {d : Dev} (h : d.whl.now ≤ t) : advanceTo t d = { d with whl := { d.whl with now := t } } := if_pos h

/-- What the route sequencer makes of a tick: it applies its words in a tick of the schedule. -/
def routeStage (i t : Nat) (d : Dev) : Dev := if scheduleTick d t = true then routeTick i t (advanceTo t d) else advanceTo t d

theorem opSwitchTick_eq (h : d.whl.now ≤ t) : opSwitchTick i t d = dropUnrouted i t (controlPort i t (routeStage i t d)) := by
  rw [opSwitchTick, if_neg (by omega), routeStage]
  have hs : (counted (advanceTo t d).whl = true ∨ ((advanceTo t d).whl.slip = true ∧ tickAt (advanceTo t d).whl t < (advanceTo t d).whl.w)) ↔
      scheduleTick d t = true := by
    rw [advanceTo_eq h]
    by_cases hk : t - d.whl.start < d.whl.w <;> cases hsl : d.whl.slip <;>
      simp [counted, inGuard, scheduleTick, tickAt, hsl, hk, Nat.not_le.mpr, Nat.not_lt.mp]
  by_cases hd : scheduleTick d t = true
  · rw [if_pos hd]
    dsimp only
    rw [if_pos (hs.mpr hd)]
    rfl
  · rw [if_neg hd]
    dsimp only
    rw [if_neg (mt hs.mp hd)]

theorem routed_routeStage (hn : d.whl.now ≤ t)
    (h : scheduleTick d t = true → ∀ x ∈ (activeWords i (tickAt d.whl t) (advanceTo t d)).1, taken (rwIn x.2)) :
    Routed i t taken d (routeStage i t d) := by
  have hadv : Routed i t taken d (advanceTo t d) := by
    rw [advanceTo_eq hn]
    exact .of_fab rfl ⟨rfl, rfl⟩ rfl rfl
  have hk : tickAt (advanceTo t d).whl t = tickAt d.whl t := by rw [advanceTo_eq hn]; rfl
  unfold routeStage
  split
  next hs => exact hadv.trans (routed_routeTick (by rw [hk]; exact h hs))
  · exact hadv

theorem countEcc_flits (o : EccOut) (i p : Nat) (d : Dev) : (countEcc o (portCtr i p) d).fab.flits = d.fab.flits := by
  cases o <;> rfl

theorem countEcc_tables (o : EccOut) (i p : Nat) (d : Dev) :
    (countEcc o (portCtr i p) d).fab.route = d.fab.route ∧ (countEcc o (portCtr i p) d).fab.phase = d.fab.phase := by
  cases o <;> exact ⟨rfl, rfl⟩

theorem mem_controlPort {y : Flight} : y ∈ (controlPort i t d).fab.flits ↔ y ∈ d.fab.flits ∧ ¬(y.dest = .ctl i ∧ y.due ≤ t) := by
  unfold controlPort
  rw [foldl_keeps (fun d => d.fab.flits) _ (fun a x => countEcc_flits _ i 24 a)]
  simp
  tauto

/-- CTL_PORT takes no flit that is at a switch input. -/
theorem controlPort_inputs (p : Nat) (d : Dev) :
    ((controlPort i t d).fab.flits.filter fun y => y.dest == .swIn i p && y.due == t) =
      d.fab.flits.filter fun y => y.dest == .swIn i p && y.due == t := by
  unfold controlPort
  rw [foldl_keeps (fun d => d.fab.flits) _ (fun a x => countEcc_flits _ i 24 a), List.filter_filter]
  refine List.filter_congr fun y _ => ?_
  by_cases h : y.dest = .swIn i p <;> simp [h]

theorem controlPort_unrouted (p : Nat) (d : Dev) : (portCount (controlPort i t d) i p).unrouted = (portCount d i p).unrouted := by
  unfold controlPort
  refine (foldl_keeps (fun d => (portCount d i p).unrouted) _ (fun a x => ?_) _ _).trans rfl
  have hp : portCtr i 24 = ctrAt i 24 := by funext f a; rfl
  rw [hp]
  cases (eccCheck x.flit).2
  · rfl
  · exact portCount_ctrAt_field (·.unrouted) (f := fun c => { c with eccCorr := satInc c.eccCorr }) (fun _ => rfl) i 24 p a
  · exact portCount_ctrAt_field (·.unrouted) (f := fun c => { c with eccUncorr := satInc c.eccUncorr }) (fun _ => rfl) i 24 p a

theorem controlPort_corrected {x : Flight} (hx : (d.fab.flits.filter fun y => y.dest == .ctl i && decide (y.due ≤ t)) = [x])
    (hc : (eccCheck x.flit).2 = .corrected) :
    (portCount (controlPort i t d) i 24).eccCorr = satInc (portCount d i 24).eccCorr := by
  unfold controlPort
  dsimp only
  rw [hx, List.foldl_cons, List.foldl_nil, hc]
  exact congrArg (·.eccCorr) (portCount_ctrAt_same i 24 (fun c => { c with eccCorr := satInc c.eccCorr }) _)

/-- A flit at an input that no word has taken counts at its port. -/
def countUnrouted (i : Nat) (d : Dev) (x : Flight) : Dev :=
  match x.dest with
  | .swIn _ p => ctrAt i p (fun c => { c with unrouted := satInc c.unrouted }) d
  | _ => d

/-- A flit waits at some input of a switch at a tick. -/
def atSwitch (i t : Nat) (x : Flight) : Bool := (match x.dest with | .swIn j _ => j == i | _ => false) && x.due == t

theorem atSwitch_iff {x : Flight} : atSwitch i t x = true ↔ ∃ p, AtInput i p t x := by
  unfold atSwitch AtInput
  cases x.dest <;> simp

theorem dropUnrouted_eq (i t : Nat) (d : Dev) :
    dropUnrouted i t d = (d.fab.flits.filter (atSwitch i t)).foldl (countUnrouted i)
      { d with fab := { d.fab with flits := d.fab.flits.filter fun x => !atSwitch i t x } } := rfl

theorem countUnrouted_flits (x : Flight) (d : Dev) : (countUnrouted i d x).fab.flits = d.fab.flits := by
  unfold countUnrouted; split <;> simp

theorem countUnrouted_tables (x : Flight) (d : Dev) :
    ((countUnrouted i d x).fab.route, (countUnrouted i d x).fab.phase) = (d.fab.route, d.fab.phase) := by
  unfold countUnrouted; split <;> simp

theorem countUnrouted_eccCorr (p : Nat) (x : Flight) (d : Dev) :
    (portCount (countUnrouted i d x) i p).eccCorr = (portCount d i p).eccCorr := by
  unfold countUnrouted
  split
  · exact portCount_ctrAt_field (·.eccCorr) (f := fun c => { c with unrouted := satInc c.unrouted }) (fun _ => rfl) ..
  · rfl

theorem mem_dropUnrouted {y : Flight} : y ∈ (dropUnrouted i t d).fab.flits ↔ y ∈ d.fab.flits ∧ ∀ p, ¬AtInput i p t y := by
  rw [dropUnrouted_eq, foldl_keeps (fun d => d.fab.flits) _ (fun a x => countUnrouted_flits x a)]
  simp [← Bool.not_eq_true, atSwitch_iff]

theorem dropUnrouted_tables (i t : Nat) (d : Dev) :
    ((dropUnrouted i t d).fab.route, (dropUnrouted i t d).fab.phase) = (d.fab.route, d.fab.phase) := by
  rw [dropUnrouted_eq]
  exact (foldl_keeps (fun d => (d.fab.route, d.fab.phase)) _ (fun a x => countUnrouted_tables x a) _ _).trans rfl

theorem dropUnrouted_eccCorr (p : Nat) (d : Dev) : (portCount (dropUnrouted i t d) i p).eccCorr = (portCount d i p).eccCorr := by
  rw [dropUnrouted_eq]
  exact (foldl_keeps (fun d => (portCount d i p).eccCorr) _ (fun a x => countUnrouted_eccCorr p x a) _ _).trans rfl

theorem countUnrouted_unrouted (p : Nat) (x : Flight) (hx : atSwitch i t x = true) (d : Dev) :
    (portCount (countUnrouted i d x) i p).unrouted =
      if (x.dest == .swIn i p && x.due == t) = true then satInc (portCount d i p).unrouted else (portCount d i p).unrouted := by
  obtain ⟨q, hd, ht⟩ := atSwitch_iff.mp hx
  simp only [countUnrouted, hd, ht]
  by_cases h : p = q
  · subst h; simp
  · rw [portCount_ctrAt_ne h, if_neg (by simp [Ne.symm h])]

theorem foldl_countUnrouted (p : Nat) (l : List Flight) (hl : ∀ x ∈ l, atSwitch i t x = true) (d : Dev) :
    (portCount (l.foldl (countUnrouted i) d) i p).unrouted =
      (l.filter fun x => x.dest == .swIn i p && x.due == t).foldl (fun n _ => satInc n) (portCount d i p).unrouted := by
  induction l generalizing d with
  | nil => rfl
  | cons x l ih =>
    rw [List.foldl_cons, ih (fun y hy => hl y (List.mem_cons_of_mem _ hy)), countUnrouted_unrouted p x (hl x (List.mem_cons_self ..)),
      List.filter_cons]
    split <;> rfl

/-- The one flit at an input that no word took counts once. -/
theorem dropUnrouted_unrouted {p : Nat} {x : Flight} (hx : (d.fab.flits.filter fun y => y.dest == .swIn i p && y.due == t) = [x]) :
    (portCount (dropUnrouted i t d) i p).unrouted = satInc (portCount d i p).unrouted := by
  rw [dropUnrouted_eq, foldl_countUnrouted p _ (fun y hy => (List.mem_filter.mp hy).2), List.filter_filter]
  have hone : (d.fab.flits.filter fun y => (y.dest == .swIn i p && y.due == t) && atSwitch i t y) = [x] := by
    rw [← hx]
    refine List.filter_congr fun y _ => ?_
    by_cases h : y.dest = .swIn i p <;> simp [h, atSwitch]
  rw [hone]
  rfl

/-! ## Words of clean tables -/

/-- The words that PHASE_p's segment activates at a tick of the wheel, where no entry or word has an error. -/
def cleanWordsAt (d : Dev) (i k p : Nat) : List (Nat × W64) :=
  let word (j : Nat) : W64 := tabGet 0 d.fab.route (65536 * i + ((phaseEnt d i p).base + j) % 65536)
  (((List.range (phaseEnt d i p).len).filter fun j => rwActive (word j) (k - p * (d.whl.w / 64))).map fun j => ((phaseEnt d i p).owner, word j))

theorem tableUse_clean (h : d.fab.tableEcc = []) (addr unit owner : Nat) : tableUse addr unit owner d = (true, d) := by
  simp [tableUse, h]

theorem foldl_tableUse_clean (h : d.fab.tableEcc = []) (addr : Nat → Nat) (unit owner : Nat) (word : Nat → W64) (js : List Nat)
    (ws : List (Nat × W64)) :
    js.foldl (fun acc j =>
      if (tableUse (addr j) unit owner acc.2).1 then (acc.1 ++ [(owner, word j)], (tableUse (addr j) unit owner acc.2).2)
      else (acc.1, (tableUse (addr j) unit owner acc.2).2)) (ws, d) = (ws ++ js.map fun j => (owner, word j), d) := by
  induction js generalizing ws with
  | nil => simp
  | cons j js ih =>
    rw [List.foldl_cons, tableUse_clean h]
    simpa using ih (ws ++ [(owner, word j)])

theorem segmentWords_clean (h : d.fab.tableEcc = []) (i k p : Nat) : segmentWords i k p d = (cleanWordsAt d i k p, d) := by
  unfold segmentWords
  simp only [tableUse_clean h, ite_self, Bool.not_true, Bool.false_eq_true, if_false]
  exact (foldl_tableUse_clean h _ i _ _ _ []).trans rfl

theorem foldl_cleanWords (h : d.fab.tableEcc = []) (i k : Nat) (ps : List Nat) (ws : List (Nat × W64)) :
    ps.foldl (fun acc p =>
      if d.whl.slip ∧ p ≠ 63 then acc
      else (acc.1 ++ (segmentWords i k p acc.2).1, (segmentWords i k p acc.2).2)) (ws, d) =
    (ps.foldl (fun ws p => if d.whl.slip ∧ p ≠ 63 then ws else ws ++ cleanWordsAt d i k p) ws, d) := by
  induction ps generalizing ws with
  | nil => rfl
  | cons p ps ih =>
    rw [List.foldl_cons, List.foldl_cons]
    split
    · exact ih ws
    · rw [segmentWords_clean h]
      exact ih _

theorem activeWords_clean (h : d.fab.tableEcc = []) (i k : Nat) :
    activeWords i k d =
      ((List.range (phaseOf d.whl k + 1)).foldl (fun ws p => if d.whl.slip ∧ p ≠ 63 then ws else ws ++ cleanWordsAt d i k p) [], d) :=
  foldl_cleanWords h i k _ []

/-- With clean tables the words that are active do not depend on the tick that the fabric clock shows. -/
theorem activeWords_advanceTo (h : d.fab.tableEcc = []) (hn : d.whl.now ≤ t) (i k : Nat) :
    activeWords i k (advanceTo t d) = ((activeWords i k d).1, advanceTo t d) := by
  have h' : (advanceTo t d).fab.tableEcc = [] := by rw [advanceTo_eq hn]; exact h
  rw [activeWords_clean h', activeWords_clean h, advanceTo_eq hn]
  rfl

/-! ## What an active word sends (04 R147, R153) -/

theorem flits_foldl_sendCopy_subset (f : Flit) (ps : List Nat) {y : Flight} (hy : y ∈ d.fab.flits) :
    y ∈ (ps.foldl (fun a p => sendCopy i p t f a) d).fab.flits :=
  (Routed.foldl (taken := fun _ => False) (fun p _ a => routed_sendCopy p f a) d).kept y hy (by simp)

@[simp] theorem clusterDark_sendCopy (p c : Nat) (f : Flit) (d : Dev) : clusterDark (sendCopy i p t f d) c = clusterDark d c := by
  simp [clusterDark, clOf]

theorem sendCopy_sends {p lat : Nat} {dst : Dest} (f : Flit) (hp : portDest i p = some (dst, lat))
    (hd : p < 16 → clusterDark d (16 * i + p) = false) :
    { dest := dst, due := t + lat, sw := t, flit := f } ∈ (sendCopy i p t f d).fab.flits := by
  rw [sendCopy, if_neg (fun ⟨h, hdark⟩ => by simp [hd h] at hdark), hp]
  exact List.mem_append_right _ (List.mem_singleton_self _)

theorem foldl_sendCopy_sends {p lat : Nat} {dst : Dest} (f : Flit) (hp : portDest i p = some (dst, lat)) {ps : List Nat} (hm : p ∈ ps)
    (hd : p < 16 → clusterDark d (16 * i + p) = false) :
    { dest := dst, due := t + lat, sw := t, flit := f } ∈ (ps.foldl (fun a p => sendCopy i p t f a) d).fab.flits := by
  induction ps generalizing d with
  | nil => simp at hm
  | cons q ps ih =>
    rw [List.foldl_cons]
    by_cases h : p = q
    · subst h
      exact flits_foldl_sendCopy_subset f ps (sendCopy_sends f hp hd)
    · exact ih (by simpa [h] using hm) (by simpa using hd)

/-- A word sends the flit at its input, or a void flit, to each of its outputs that is not dark. -/
theorem applyWord_sends {owner p lat : Nat} {w : W64} {dst : Dest} (hb : bit (rwOut w) p = true) (hlt : p < 28)
    (hp : portDest i p = some (dst, lat)) (hd : p < 16 → clusterDark d (16 * i + p) = false) :
    { dest := dst, due := t + lat, sw := t, flit := inputFlit d i (rwIn w) t owner } ∈ (applyWord i t owner w d).fab.flits := by
  have hm : p ∈ (List.range 28).filter (bit (rwOut w)) := List.mem_filter.mpr ⟨List.mem_range.mpr hlt, hb⟩
  unfold applyWord inputFlit takeFlight
  dsimp only
  split
  · exact foldl_sendCopy_sends _ hp hm hd
  · exact foldl_sendCopy_sends _ hp hm (by simpa [clusterDark, clOf] using hd)

theorem inputFlit_eq_head (d : Dev) (i p t owner : Nat) :
    inputFlit d i p t owner = match (d.fab.flits.filter fun y => y.dest == .swIn i p && y.due == t).head? with
      | some x => x.flit
      | none => voidFlit owner 0 := by
  rw [List.head?_filter]
  rfl

theorem inputFlit_applyWord {owner q p : Nat} {w : W64} (h : p ≠ rwIn w) (d : Dev) :
    inputFlit (applyWord i t owner w d) i p t q = inputFlit d i p t q := by
  rw [inputFlit_eq_head, inputFlit_eq_head,
    (routed_applyWord (taken := (· = rwIn w)) (owner := owner) rfl d).due (fun y => y.dest == .swIn i p && y.due == t)]
  rintro y hy
  simp only [Bool.and_eq_true, beq_iff_eq] at hy
  refine ⟨hy.2.le, ?_⟩
  rintro _ rfl ⟨hd, -⟩
  rw [hy.1] at hd
  injection hd with _ hq
  exact h hq

/-- Words with different inputs send as they would alone. -/
theorem foldl_applyWord_sends {x : Nat × W64} {p lat : Nat} {dst : Dest} {ws : List (Nat × W64)} (hx : x ∈ ws)
    (hnd : (ws.map fun x => rwIn x.2).Nodup) (hb : bit (rwOut x.2) p = true) (hlt : p < 28) (hp : portDest i p = some (dst, lat))
    (hd : p < 16 → clusterDark d (16 * i + p) = false) :
    { dest := dst, due := t + lat, sw := t, flit := inputFlit d i (rwIn x.2) t x.1 } ∈
      (ws.foldl (fun a x => applyWord i t x.1 x.2 a) d).fab.flits := by
  induction ws generalizing d with
  | nil => simp at hx
  | cons w ws ih =>
    obtain ⟨hw, hnd⟩ := List.nodup_cons.mp hnd
    rw [List.foldl_cons]
    rcases List.mem_cons.mp hx with rfl | hx
    · have hlat := portDest_latency hp
      refine (Routed.foldl (taken := fun _ => True) (fun y _ a => routed_applyWord trivial a) _).kept _
        (applyWord_sends hb hlt hp hd) fun q _ hq => ?_
      have hdue := hq.2
      dsimp only at hdue
      omega
    · have hne : rwIn x.2 ≠ rwIn w.2 := fun h => hw (List.mem_map.mpr ⟨x, hx, h⟩)
      rw [← inputFlit_applyWord (owner := w.1) (w := w.2) hne]
      exact ih hx hnd (by simpa [clusterDark, clOf] using hd)

/-! ## What a tick of a switch does -/

theorem opSwitchTick_whl (h : d.whl.now ≤ t) : (opSwitchTick i t d).whl = { d.whl with now := t } := by
  rw [opSwitchTick_eq h]
  unfold routeStage routeTick
  split <;> simp [foldl_whl, advanceTo_eq h]

theorem controlPort_tables (i t : Nat) (d : Dev) :
    ((controlPort i t d).fab.route, (controlPort i t d).fab.phase) = (d.fab.route, d.fab.phase) := by
  unfold controlPort
  refine (foldl_keeps (fun d => (d.fab.route, d.fab.phase)) _ (fun a x => ?_) _ _).trans rfl
  obtain ⟨hr, hp⟩ := countEcc_tables (eccCheck x.flit).2 i 24 a
  rw [hr, hp]

theorem opSwitchTick_tables (hn : d.whl.now ≤ t) :
    (opSwitchTick i t d).fab.route = d.fab.route ∧ (opSwitchTick i t d).fab.phase = d.fab.phase := by
  obtain ⟨hr, hp⟩ := (routed_routeStage (i := i) (taken := fun _ => True) hn fun _ _ _ => trivial).tables
  have h := (dropUnrouted_tables i t (controlPort i t (routeStage i t d))).trans (controlPort_tables ..)
  rw [← opSwitchTick_eq hn, hr, hp] at h
  exact Prod.mk.inj h

theorem routeStage_ten (he : d.fab.tableEcc = []) (hn : d.whl.now ≤ t) : (routeStage i t d).ten = d.ten := by
  have hk : tickAt (advanceTo t d).whl t = tickAt d.whl t := by rw [advanceTo_eq hn]; rfl
  unfold routeStage routeTick
  rw [hk, activeWords_advanceTo he hn]
  split
  · exact (foldl_ten _ (fun a x => by simp) _ _).trans (by simp)
  · simp

theorem opSwitchTick_ten (he : d.fab.tableEcc = []) (hn : d.whl.now ≤ t) : (opSwitchTick i t d).ten = d.ten := by
  rw [opSwitchTick_eq hn, dropUnrouted_ten]
  simp [routeStage_ten he hn]

theorem opSwitchTick_sends {p lat : Nat} {dst : Dest} {x : Nat × W64} (hn : d.whl.now ≤ t) (he : d.fab.tableEcc = [])
    (hs : scheduleTick d t = true) (hnd : ((activeWords i (tickAt d.whl t) d).1.map fun x => rwIn x.2).Nodup)
    (hx : x ∈ (activeWords i (tickAt d.whl t) d).1) (hb : bit (rwOut x.2) p = true) (hlt : p < 28)
    (hp : portDest i p = some (dst, lat)) (hd : p < 16 → clusterDark d (16 * i + p) = false) :
    { dest := dst, due := t + lat, sw := t, flit := inputFlit d i (rwIn x.2) t x.1 } ∈ (opSwitchTick i t d).fab.flits := by
  have hlat := portDest_latency hp
  have hk : tickAt (advanceTo t d).whl t = tickAt d.whl t := by rw [advanceTo_eq hn]; rfl
  have hin : inputFlit (advanceTo t d) i (rwIn x.2) t x.1 = inputFlit d i (rwIn x.2) t x.1 := by rw [advanceTo_eq hn]; rfl
  have hdark : p < 16 → clusterDark (advanceTo t d) (16 * i + p) = false := by simpa [clusterDark, clOf] using hd
  rw [opSwitchTick_eq hn, mem_dropUnrouted, mem_controlPort, routeStage, if_pos hs, routeTick, hk, activeWords_advanceTo he hn]
  refine ⟨⟨?_, fun h => ?_⟩, fun q h => ?_⟩
  · rw [← hin]
    exact foldl_applyWord_sends hx hnd hb hlt hp hdark
  · have hdue := h.2
    dsimp only at hdue
    omega
  · have hdue := h.2
    dsimp only at hdue
    omega

theorem opSwitchTick_unrouted {p : Nat} {x : Flight} (hn : d.whl.now ≤ t) (he : d.fab.tableEcc = [])
    (hx : (d.fab.flits.filter fun y => y.dest == .swIn i p && y.due == t) = [x])
    (hw : scheduleTick d t = true → ∀ w ∈ (activeWords i (tickAt d.whl t) d).1, rwIn w.2 ≠ p) :
    x ∉ (opSwitchTick i t d).fab.flits ∧ (portCount (opSwitchTick i t d) i p).unrouted = satInc (portCount d i p).unrouted := by
  have hat : x.dest = .swIn i p ∧ x.due = t := by
    have hm : x ∈ d.fab.flits.filter fun y => y.dest == .swIn i p && y.due == t := by rw [hx]; exact List.mem_singleton_self _
    simpa using (List.mem_filter.mp hm).2
  have hr : Routed i t (· ≠ p) d (routeStage i t d) := by
    refine routed_routeStage hn fun hs w hm => ?_
    rw [activeWords_advanceTo he hn] at hm
    exact hw hs w hm
  have hkeep : ((routeStage i t d).fab.flits.filter fun y => y.dest == .swIn i p && y.due == t) = [x] := by
    rw [hr.due _ fun y hy => ?_, hx]
    simp only [Bool.and_eq_true, beq_iff_eq] at hy
    refine ⟨hy.2.le, fun q hq ⟨hd, _⟩ => hq ?_⟩
    rw [hy.1] at hd
    injection hd with _ hd
    exact hd.symm
  rw [opSwitchTick_eq hn]
  refine ⟨fun h => (mem_dropUnrouted.mp h).2 p hat, ?_⟩
  rw [dropUnrouted_unrouted (by rw [controlPort_inputs, hkeep]), controlPort_unrouted, hr.unrouted]

theorem opSwitchTick_control {x : Flight} (hn : d.whl.now ≤ t)
    (hx : (d.fab.flits.filter fun y => y.dest == .ctl i && decide (y.due ≤ t)) = [x]) (hc : (eccCheck x.flit).2 = .corrected) :
    x ∉ (opSwitchTick i t d).fab.flits ∧ (∀ y ∈ (opSwitchTick i t d).fab.flits, ¬(y.dest = .ctl i ∧ y.due ≤ t)) ∧
      (portCount (opSwitchTick i t d) i 24).eccCorr = satInc (portCount d i 24).eccCorr := by
  have hat : x.dest = .ctl i ∧ x.due ≤ t := by
    have hm : x ∈ d.fab.flits.filter fun y => y.dest == .ctl i && decide (y.due ≤ t) := by rw [hx]; exact List.mem_singleton_self _
    simpa using (List.mem_filter.mp hm).2
  have hr : Routed i t (fun _ => True) d (routeStage i t d) := routed_routeStage hn fun _ _ _ => trivial
  have hkeep : ((routeStage i t d).fab.flits.filter fun y => y.dest == .ctl i && decide (y.due ≤ t)) = [x] := by
    rw [hr.due _ fun y hy => ?_, hx]
    simp only [Bool.and_eq_true, beq_iff_eq, decide_eq_true_eq] at hy
    exact ⟨hy.2, fun q _ ⟨hd, _⟩ => by simp [hy.1] at hd⟩
  have hgone : ∀ y ∈ (opSwitchTick i t d).fab.flits, ¬(y.dest = .ctl i ∧ y.due ≤ t) := fun y hy => by
    rw [opSwitchTick_eq hn] at hy
    exact (mem_controlPort.mp (mem_dropUnrouted.mp hy).1).2
  refine ⟨fun h => hgone x h hat, hgone, ?_⟩
  rw [opSwitchTick_eq hn, dropUnrouted_eccCorr, controlPort_corrected hkeep hc, hr.eccCorr]

/-- Settles O18. The sequencer takes the flits of its words' inputs and adds flits that are due later (`Routed`); CTL_PORT and the
drop of what is left only remove flits of this tick. -/
theorem switchTick : Obligations.SwitchTick := by
  intro d i t hu hn
  refine ⟨?_, fun he hs hnd => ?_, fun p x he hx hw => ?_, fun x hx hc => ?_⟩
  · refine answers_onFabric hu (fun s => rfl) ⟨opSwitchTick_whl hn, fun y hy => ?_, fun y hy hin hctl => ?_, ?_, ?_, ?_, ?_, ?_⟩
    · rw [opSwitchTick_eq hn] at hy
      exact (mem_dropUnrouted.mp hy).2
    · rw [opSwitchTick_eq hn, mem_dropUnrouted, mem_controlPort]
      have hr : Routed i t (fun _ => True) d (routeStage i t d) := routed_routeStage hn fun _ _ _ => trivial
      exact ⟨⟨hr.kept y hy fun p _ => hin p, hctl⟩, hin⟩
    · exact (opSwitchTick_tables hn).1
    · exact (opSwitchTick_tables hn).2
    · simp
    · exact opSwitchTick_mem i t d
    · simp
  · exact answers_onFabric hu (fun s => rfl) ⟨opSwitchTick_ten he hn, fun x hx p dst lat hb hp hd =>
      opSwitchTick_sends hn he hs hnd hx hb p.isLt hp hd⟩
  · obtain ⟨hout, hcount⟩ := opSwitchTick_unrouted hn he hx hw
    exact answers_onFabric hu (fun s => rfl) ⟨hout, opSwitchTick_ten he hn, hcount⟩
  · exact answers_onFabric hu (fun s => rfl) (opSwitchTick_control hn hx hc)

end Sys2Proof.Machine
end

section
/-!
The statements on launch slots (07 R266 to R268) and on landing buffers (04 R149 to R152, R158).
-/
namespace Sys2Proof.Machine

/-! ## Launch slots (07 R266 to R268) -/

/-- A slot of a cluster holds a header that the fabric can read at a tick of the schedule. -/
structure SlotReady (d : Dev) (cl ls t : Nat) (h : LaunchHdr) : Prop where
  counted : d.whl.slip = false
  now : d.whl.now ≤ t
  tick : tickAt d.whl t < d.whl.w
  held : (clOf d cl).tvHeld = false
  filled : lsOf (clOf d cl) ls = .filled h
  stamped : h.stamp + 4 ≤ t

variable {d : Dev} {cl ls t : Nat} {h : LaunchHdr}

@[simp] theorem clOf_advanceTo (t : Nat) (d : Dev) (c : Nat) : clOf (advanceTo t d) c = clOf d c := clOf_congr (by simp) c

@[simp] theorem holderOf_advanceTo (t : Nat) (d : Dev) (c : Nat) : holderOf (advanceTo t d) c = holderOf d c := by
  simp [holderOf, grantOf]

theorem fabPos_advanceTo (hs : d.whl.slip = false) (hn : d.whl.now ≤ t) (hk : tickAt d.whl t < d.whl.w) :
    counted (advanceTo t d).whl = true ∧ fabPos (advanceTo t d).whl = (d.whl.n % 4, tickAt d.whl t) := by
  have hc : counted { d.whl with now := t } = true := by
    simp only [counted, hs, inGuard, tickAt] at hk ⊢
    exact congrArg (!·) (decide_eq_false (Nat.not_le.mpr hk))
  rw [advanceTo_eq hn]
  exact ⟨hc, by simp only [fabPos, hc]; rfl⟩

theorem whl_w_advanceTo (t : Nat) (d : Dev) : (advanceTo t d).whl.w = d.whl.w := by
  unfold advanceTo; split <;> rfl

/-- A flit departs at its tick and lies within the wheel. -/
theorem tick_of_reach_current {a x b y : Nat} (h : reach (a, x) (b, y) = .current) : x = y := by
  unfold reach at h
  dsimp only at h
  split_ifs at h with h1 h2 h3 h4
  exact h4

@[simp] theorem lsOf_freeSlot (cl ls : Nat) (d : Dev) : lsOf (clOf (freeSlot cl ls d) cl) ls = .free ((clOf d cl).cyc + 4) := by
  simp [freeSlot, lsOf]

@[simp] theorem lsLate_freeSlot (cl ls : Nat) (d : Dev) : (clOf (freeSlot cl ls d) cl).lsLate = (clOf d cl).lsLate := by
  simp [freeSlot]

@[simp] theorem lsLate_countLate (cl n : Nat) (d : Dev) : (clOf (countLate cl n d) cl).lsLate = satAdd (clOf d cl).lsLate n := by
  simp [countLate]

@[simp] theorem cyc_countLate (cl n : Nat) (d : Dev) : (clOf (countLate cl n d) cl).cyc = (clOf d cl).cyc := by
  simp [countLate]

theorem slotNext_last {i : Nat} (hn : h.n ≤ i + 1) (d : Dev) : slotNext cl ls h i d = freeSlot cl ls d := if_pos hn

theorem lsOf_slotNext_more {i : Nat} (hn : i + 1 < h.n) (ht : h.tick + i + 1 < d.whl.w) :
    lsOf (clOf (slotNext cl ls h i d) cl) ls = .filled { h with next := i + 1, accepted := true } := by
  rw [slotNext, if_neg (by omega), if_neg (by omega)]
  simp [lsOf]

theorem slotNext_fab (i : Nat) (d : Dev) : (slotNext cl ls h i d).fab = d.fab := by
  unfold slotNext
  split_ifs <;> simp

/-- The flit that a slot sends when its payload is there. -/
def departing (d : Dev) (cl : Nat) (h : LaunchHdr) (p : Payload) : Flit :=
  sealFlit { data := p.data, ten := BitVec.ofNat 6 ((holderOf d cl).getD 63), tag := tagAt h.tag h.next, late := false, poison := p.poison, ecc := 0 }

theorem opLaunchDeparture_departs {p : Payload} (hs : SlotReady d cl ls t h)
    (hr : reach (h.lap, h.tick + h.next) (d.whl.n % 4, tickAt d.whl t) = .current) (hp : h.payloads[h.next]? = some p)
    (hready : payloadReady h h.next t = true) :
    opLaunchDeparture cl ls t d = slotNext cl ls h h.next (sendFromCluster cl t (departing d cl h p) (advanceTo t d)) := by
  obtain ⟨hc, hpos⟩ := fabPos_advanceTo hs.counted hs.now hs.tick
  have hw : h.tick < d.whl.w := by
    have := tick_of_reach_current hr
    have := hs.tick
    omega
  have hlate : ¬(decide (h.stamp + 4 > t)) = true := by simpa using hs.stamped
  simp [opLaunchDeparture, Nat.not_lt.mpr hs.now, hs.held, hs.filled, hlate, whl_w_advanceTo, Nat.not_le.mpr hw, hc, hpos, hr, hp, hready,
    departing]

theorem opLaunchDeparture_past (hs : SlotReady d cl ls t h) (hw : d.whl.w ≤ h.tick) :
    opLaunchDeparture cl ls t d = freeSlot cl ls (countLate cl h.n (advanceTo t d)) := by
  have hlate : ¬(decide (h.stamp + 4 > t)) = true := by simpa using hs.stamped
  simp [opLaunchDeparture, Nat.not_lt.mpr hs.now, hs.held, hs.filled, hlate, whl_w_advanceTo, hw]

theorem opLaunchHeaderLate_late (hs : SlotReady d cl ls t h) (hw : h.tick < d.whl.w) (ha : h.accepted = false)
    (hr : reach (h.lap, h.tick) (d.whl.n % 4, tickAt d.whl t) = .passed) :
    opLaunchHeaderLate cl ls t d = freeSlot cl ls (countLate cl 1 (advanceTo t d)) := by
  obtain ⟨-, hpos⟩ := fabPos_advanceTo hs.counted hs.now hs.tick
  simp [opLaunchHeaderLate, Nat.not_lt.mpr hs.now, hs.held, hs.filled, ha, whl_w_advanceTo, hw, hs.stamped, hpos, hr]

@[simp] theorem advanceTo_fab (t : Nat) (d : Dev) : (advanceTo t d).fab = d.fab := by simp

/-- Settles O19: a readable header departs, is late, or lies past the wheel. -/
theorem launchSlots : Obligations.LaunchSlots := by
  intro d cl ls t h hu hslip hn hk hheld hfill hst
  have hs : SlotReady d cl ls t h := ⟨hslip, hn, hk, hheld, hfill, hst⟩
  refine ⟨fun p hr hp hready => ?_, fun hw ha hr => ?_, fun hw => ?_⟩
  · refine answers_onFabric hu (fun s => rfl) ?_
    rw [opLaunchDeparture_departs hs hr hp hready]
    refine ⟨?_, fun hlast => ?_, fun hmore ht => ?_⟩
    · rw [slotNext_fab]
      exact List.mem_append_right _ (List.mem_singleton_self _)
    · rw [slotNext_last hlast, lsOf_freeSlot, clOf_congr (e := d) (by simp [sendFromCluster])]
    · exact lsOf_slotNext_more hmore (by simpa [sendFromCluster, whl_w_advanceTo] using ht)
  · refine answers_onFabric hu (fun s => rfl) ?_
    rw [opLaunchHeaderLate_late hs hw ha hr]
    simp
  · refine answers_onFabric hu (fun s => rfl) ?_
    rw [opLaunchDeparture_past hs hw]
    simp

/-! ## Landing buffers (04 R149 to R152, R158) -/

/-- The landing entry that a flit's tag names. -/
def landingEntry (f : Flit) : Nat := 32 * (f.tag.toNat / 128) + f.tag.toNat % 32

/-- A flit with a clean code reaches a cluster that a tenancy holds. -/
structure Lands (d : Dev) (cl t : Nat) (x : Flight) (h : Nat) : Prop where
  now : d.whl.now ≤ t
  found : d.fab.flits.find? (fun y => y.dest == .landing cl && y.due == t) = some x
  clean : eccCheck x.flit = (x.flit, .clean)
  holder : holderOf d cl = some h

/-- The device without the flit that lands. -/
def landed (cl t : Nat) (d : Dev) : Dev := (takeFlight (.landing cl) t (advanceTo t d)).2

variable {x : Flight} {w : Nat}

theorem not_mem_landed (hx : Lands d cl t x w) : x ∉ (landed cl t d).fab.flits := by
  have hat : x.dest = .landing cl ∧ x.due = t := by simpa using List.find?_some hx.found
  intro h
  have := (List.mem_filter.mp h).2
  simp [hat.1, hat.2] at this

theorem landed_frame (cl t : Nat) (d : Dev) :
    (landed cl t d).cl = d.cl ∧ (landed cl t d).ten = d.ten ∧ (landed cl t d).fab.clCtr = d.fab.clCtr ∧
      holderOf (landed cl t d) cl = holderOf d cl := by
  refine ⟨by simp [landed], by simp [landed], by simp [landed, takeFlight], ?_⟩
  simp [holderOf, grantOf, landed]

theorem opLandingWrite_eq (hx : Lands d cl t x w) :
    opLandingWrite cl t d =
      if x.flit.ten.toNat ≠ w then tagMismatch x.flit false (clCtr cl) (landed cl t d)
      else if x.flit.late then
        faultHolder cl fcVoidFlit (clCtr cl (fun c => { c with voidRx := satInc c.voidRx }) (landed cl t d))
      else if (lbOf (clOf d cl) (landingEntry x.flit)).full then
        clCtr cl (fun c => { c with lbOverwrite := satInc c.lbOverwrite }) (landed cl t d)
      else modCl cl (fun k => { k with
        lb := tabSet (landingEntry x.flit)
          { full := true, lap := x.flit.tag.toNat / 32 % 4, poison := x.flit.poison, tag := x.flit.tag, data := x.flit.data, tick := t, cyc := k.cyc }
          k.lb }) (landed cl t d) := by
  obtain ⟨hcl, -, -, hhold⟩ := landed_frame cl t d
  have hfound : (takeFlight (.landing cl) t (advanceTo t d)).1 = some x := by
    rw [takeFlight, advanceTo_fab]
    exact hx.found
  have hentry : 32 * bits x.flit.tag.toNat 9 7 + x.flit.tag.toNat % 32 = landingEntry x.flit := by
    have hlt := x.flit.tag.isLt
    simp only [bits, pow2, landingEntry, Nat.shiftRight_eq_div_pow, Nat.one_shiftLeft]
    omega
  have hlap : bits x.flit.tag.toNat 6 5 = x.flit.tag.toNat / 32 % 4 := by
    simp only [bits, pow2, Nat.shiftRight_eq_div_pow, Nat.one_shiftLeft]
  rw [opLandingWrite, if_neg (by have := hx.now; omega)]
  simp only [hfound, hx.clean, countEcc]
  change (if some x.flit.ten.toNat ≠ holderOf (landed cl t d) cl then _ else _) = _
  rw [hhold, hx.holder, hentry, hlap, clOf_congr (e := d) (by rw [← hcl]; rfl)]
  simp only [ne_eq, Option.some.injEq]
  rfl

/-! ### What a landed flit leaves -/

theorem tagMismatch_frame (f : Flit) (d : Dev) :
    (tagMismatch f false (clCtr cl) d).cl = d.cl ∧ (tagMismatch f false (clCtr cl) d).fab.flits = d.fab.flits ∧
      (tabGet {} (tagMismatch f false (clCtr cl) d).fab.clCtr cl).tagMismatch =
        satInc (tabGet ({} : FabCtr) d.fab.clCtr cl).tagMismatch := by
  unfold tagMismatch
  dsimp only
  split <;> simp [clCtr]

theorem tagMismatch_faults {f : Flit} (hf : f.ten.toNat < 32) (hd : (tenOf d f.ten.toNat).stopDue = false) :
    (tenOf (tagMismatch f false (clCtr cl) d) f.ten.toNat).fault = 0x02 := by
  unfold tagMismatch
  simp only [Bool.not_false, Bool.true_and, decide_eq_true_eq, if_pos hf]
  exact (raiseFault_first _ fcWindow (clCtr cl (fun c => { c with tagMismatch := satInc c.tagMismatch }) d) hd).1

theorem tagMismatch_device {f : Flit} (hf : ¬f.ten.toNat < 32) (d : Dev) : (tagMismatch f false (clCtr cl) d).ten = d.ten := by
  simp [tagMismatch, hf]

theorem opLandingWrite_void (hx : Lands d cl t x w) (htag : x.flit.ten.toNat = w) (hv : x.flit.late = true)
    (hd : (tenOf d w).stopDue = false) :
    (tenOf (opLandingWrite cl t d) w).fault = 0x03 ∧
      (tabGet {} (opLandingWrite cl t d).fab.clCtr cl).voidRx = satInc (tabGet ({} : FabCtr) d.fab.clCtr cl).voidRx := by
  obtain ⟨-, hten, hctr, hhold⟩ := landed_frame cl t d
  have hw : holderOf (clCtr cl (fun c => { c with voidRx := satInc c.voidRx }) (landed cl t d)) cl = some w :=
    hhold.trans hx.holder
  rw [opLandingWrite_eq hx, if_neg (by simp [htag]), if_pos hv, faultHolder, hw]
  refine ⟨(raiseFault_first w fcVoidFlit _ ?_).1, ?_⟩
  · rw [tenOf_congr (e := d) (by rw [← hten]; rfl)]
    exact hd
  · simp [clCtr, hctr]

/-- Settles O20: `opLandingWrite_eq` gives the outcomes in order: tag, void flit, full entry, written entry. -/
theorem landing : Obligations.Landing := by
  intro d cl t x w hu hn hfind hclean hhold
  have hx : Lands d cl t x w := ⟨hn, hfind, hclean, hhold⟩
  have hgone := not_mem_landed hx
  obtain ⟨hcl, hten, hctr, -⟩ := landed_frame cl t d
  refine ⟨fun htag hv hfull => ?_, fun htag hv hd => ?_, fun htag hlt hd => ?_, fun htag hv hfull => ?_, fun htag hw => ?_⟩
  · refine answers_onFabric hu (fun s => rfl) ?_
    rw [opLandingWrite_eq hx, if_neg (by simp [htag]), if_neg (by simp [hv]), if_neg (by simp [landingEntry, hfull]),
      clOf_modCl_same, clOf_congr hcl]
    exact ⟨by simp [lbOf, landingEntry], hgone⟩
  · exact answers_onFabric hu (fun s => rfl) (opLandingWrite_void hx htag hv hd)
  · refine answers_onFabric hu (fun s => rfl) ?_
    rw [opLandingWrite_eq hx, if_pos htag]
    obtain ⟨hc, -, hm⟩ := tagMismatch_frame (cl := cl) x.flit (landed cl t d)
    exact ⟨tagMismatch_faults hlt (by rwa [tenOf_congr hten]), by rw [hm, hctr], hc.trans hcl⟩
  · refine answers_onFabric hu (fun s => rfl) ?_
    rw [opLandingWrite_eq hx, if_neg (by simp [htag]), if_neg (by simp [hv]), if_pos (by simp [landingEntry, hfull])]
    exact ⟨hcl, hten, hgone, by simp [clCtr, hctr]⟩
  · refine answers_onFabric hu (fun s => rfl) ?_
    have htag63 : x.flit.ten.toNat = 63 := by rw [htag]; rfl
    rw [opLandingWrite_eq hx, if_pos (by omega)]
    obtain ⟨hc, hf, hm⟩ := tagMismatch_frame (cl := cl) x.flit (landed cl t d)
    exact ⟨hc.trans hcl, (tagMismatch_device (by omega) _).trans hten, by rwa [hf], by rw [hm, hctr]⟩

end Sys2Proof.Machine
end

section
/-!
The statement on the training of a link and its loss (05 R170 to R174, R193, R195).
-/
namespace Sys2Proof.Machine

/-! ## Entering a state (05 R170) -/

/-- A link that has just entered a state. -/
def entering (s : LinkState) (t : Nat) (k : Link) : Link :=
  { k with
    state := s, entered := t, uncorrRun := 0, trainSeen := false, confirmFrames := 0, confirmSyms := 0, confirmBad := false
    alignRun := 0, rtts := [] }

@[simp] theorem lnkOf_raiseDev (b : Nat) (d : Dev) (l : Nat) : lnkOf (raiseDev b d) l = lnkOf d l := lnkOf_congr (by simp) l

@[simp] theorem lnkOf_enterState (l : Nat) (s : LinkState) (t : Nat) (d : Dev) :
    lnkOf (enterState l s t d) l = entering s t (lnkOf d l) := by
  unfold enterState
  dsimp only
  split <;> simp [entering]

variable {d : Dev} {l t : Nat}

theorem le_foldl_max (g : Nat → Nat) (xs : List Nat) (a : Nat) :
    a ≤ xs.foldl (fun a r => max a (g r)) a ∧ ∀ r ∈ xs, g r ≤ xs.foldl (fun a r => max a (g r)) a := by
  induction xs generalizing a with
  | nil => simp
  | cons x xs ih =>
    obtain ⟨ha, hx⟩ := ih (max a (g x))
    refine ⟨(Nat.le_max_left ..).trans ha, fun r hr => ?_⟩
    rcases List.mem_cons.mp hr with rfl | hr
    · exact (Nat.le_max_right ..).trans ha
    · exact hx r hr

/-! ## From DETECT to READY -/

theorem opLinkDetectDone_done {lanes : Byte} (hs : (lnkOf d l).state = .detect) (hp : 4 ≤ popcount lanes.toNat)
    (ht : (lnkOf d l).entered + 8192 ≤ t) :
    lnkOf (opLinkDetectDone l t lanes d) l = { entering .equalise t (lnkOf d l) with lanesOk := lanes } := by
  simp [opLinkDetectDone, inState, hs, hp, ht]

theorem opLinkEqualiseDone_done {pass invert : Byte} {order : BitVec 24} (hs : (lnkOf d l).state = .equalise)
    (hp : pass &&& (lnkOf d l).lanesOk = (lnkOf d l).lanesOk) (h4 : 4 ≤ popcount (lnkOf d l).lanesOk.toNat) :
    lnkOf (opLinkEqualiseDone l t pass order invert d) l =
      setWidth (offer (popcount (lnkOf d l).lanesOk.toNat) (lnkOf d l).widthLimit)
        { entering .align t (lnkOf d l) with rxOrder := order, rxInvert := invert, peerRec := none, echo := none } := by
  simp [opLinkEqualiseDone, inState, hs, hp, h4, entering]

theorem opLinkAlignDone_done {p : Line} (hs : (lnkOf d l).state = .align) (hp : (lnkOf d l).peerRec = some p)
    (hr : 64 ≤ (lnkOf d l).alignRun) :
    lnkOf (opLinkAlignDone l t true d) l =
      { setWidth (min (lnkOf d l).width (pkField p 3 1)) (entering .measure t (lnkOf d l)) with
        peerSerial := BitVec.ofNat 64 (pkField p 4 8), peerLink := pkField p 1 1 % 16 } := by
  simp [opLinkAlignDone, inState, hs, hp, hr, entering]

theorem opLinkMeasureDone_done {rtts : List Nat} {fine : Nat} (hs : (lnkOf d l).state = .measure)
    (hm : measured (lnkOf d l) rtts fine = true) :
    lnkOf (opLinkMeasureDone l t rtts fine d) l =
      setFlight (max (rtts.foldl (fun a r => max a ((r - 1024) / 2)) 0) fine) (entering .confirm t (lnkOf d l)) := by
  simp [opLinkMeasureDone, inState, hs, hm]

theorem opLinkConfirmDone_ready (hs : (lnkOf d l).state = .confirm) (hb : (lnkOf d l).confirmBad = false)
    (hc : confirmed (lnkOf d l) = true) (hp : peerConfirmed (lnkOf d l) = true) (hf : frameBoundary d.whl t = true) :
    lnkOf (opLinkConfirmDone l t true d) l = entering .ready t (lnkOf d l) := by
  simp [opLinkConfirmDone, inState, hs, hb, hc, hp, hf]

theorem opLinkConfirmDone_bad (hs : (lnkOf d l).state = .confirm) (hb : (lnkOf d l).confirmBad = true) :
    lnkOf (opLinkConfirmDone l t false d) l =
      if (lnkOf d l).width ≤ 4 then entering .detect t (lnkOf d l)
      else setWidth (narrower (lnkOf d l).width) (entering .align t (lnkOf d l)) := by
  by_cases hw : (lnkOf d l).width ≤ 4 <;> simp [opLinkConfirmDone, inState, hs, hb, hw]

/-! ## The loss of READY (05 R193) -/

theorem opLinkLoss_signal (hs : (lnkOf d l).state = .ready) :
    (lnkOf (opLinkLoss l true d) l).state = .lost ∧
      (lnkOf (opLinkLoss l true d) l).ctr.losses = satInc (lnkOf d l).ctr.losses ∧
      (d.span.joined = true → l ∈ spanLinks d.span → (d.span.state = .locked ∨ d.span.state = .slipping) →
        (opLinkLoss l true d).span.halting = true) := by
  have hlnk : (opLinkLoss l true d).lnk = (loseLink l d).lnk := by
    unfold opLinkLoss
    rw [if_pos ⟨hs, .inl rfl⟩]
    split <;> rfl
  refine ⟨?_, ?_, fun hj hl hst => ?_⟩
  · rw [lnkOf_congr hlnk]; simp [loseLink]
  · rw [lnkOf_congr hlnk]; simp [loseLink]
  · rw [opLinkLoss, if_pos ⟨hs, .inl rfl⟩, if_pos (by simp [hj, hl])]
    simp [loseLink, spanLost_runs hj hst]

theorem opLinkLostTimeout_done (hs : (lnkOf d l).state = .lost) (ht : (lnkOf d l).entered + 1024 ≤ t) :
    lnkOf (opLinkLostTimeout l t d) l = entering (if (lnkOf d l).disabled then .off else .detect) t (lnkOf d l) := by
  simp [opLinkLostTimeout, hs, ht]

/-- Settles O22: one lemma above for what each step leaves of its link. -/
theorem linkTraining : Obligations.LinkTraining := by
  intro d l t hu
  refine ⟨fun lanes hs hp ht => ?_, fun pass order invert hs hp h4 => ?_, fun p hs hp hr => ?_, fun rtts fine hs hlen hr hf => ?_,
    fun hs hb hc hp hf => ?_, fun hs hb => ?_, fun hs => ?_, fun hs ht => ?_⟩
  · refine answers_onFabric hu (fun s => rfl) ?_
    simp [opLinkDetectDone_done hs hp ht, entering]
  · refine answers_onFabric hu (fun s => rfl) ?_
    simp [opLinkEqualiseDone_done hs hp h4, entering, setWidth]
  · refine answers_onFabric hu (fun s => rfl) ?_
    simp [opLinkAlignDone_done hs hp hr, entering, setWidth]
  · refine answers_onFabric hu (fun s => rfl) ?_
    obtain ⟨-, hmax⟩ := le_foldl_max (fun r => (r - 1024) / 2) rtts 0
    have hm : measured (lnkOf d l) rtts fine = true := by simp [measured, hlen, hr, hf]
    rw [opLinkMeasureDone_done hs hm]
    exact ⟨rfl, Nat.le_max_right .., fun r hr => (hmax r hr).trans (Nat.le_max_left ..), rfl⟩
  · refine answers_onFabric hu (fun s => rfl) ?_
    rw [opLinkConfirmDone_ready hs hb hc hp hf]
    rfl
  · refine answers_onFabric hu (fun s => rfl) ?_
    rw [opLinkConfirmDone_bad hs hb]
    split
    · rfl
    · exact ⟨rfl, rfl⟩
  · exact answers_onFabric hu (fun s => rfl) (opLinkLoss_signal hs)
  · refine answers_onFabric hu (fun s => rfl) ?_
    rw [opLinkLostTimeout_done hs ht]
    rfl

end Sys2Proof.Machine
end

section
/-!
The statement on the traffic of a link (05 R160 to R167, R177, R183 to R192; 02 R63, R65; 11 R412).
-/
namespace Sys2Proof.Machine

variable {d : Dev} {l k t : Nat}

/-! ## Frames sent (05 R161, R167) -/

theorem takeFlight_none (h : d.fab.flits = []) (dst : Dest) (t : Nat) : (takeFlight dst t d).1 = none := by
  simp [takeFlight, h]

theorem takeSlots_empty (h : d.fab.flits = []) (l k : Nat) : takeSlots l k d = ([], d) := by
  unfold takeSlots
  generalize List.range 8 = js
  dsimp only
  induction js with
  | nil => rfl
  | cons j js ih =>
    rw [List.foldl_cons, takeFlight_none h]
    exact ih

/-- What a frame with fields and slots leaves: the frame with the link's notices, and the link without those sent. -/
theorem sendFrame_posted (l : Nat) (f : Fcf) (slots : Tab Flit) (d : Dev) :
    (sendFrame l f slots d).host.posted = d.host.posted ++
      [.frame l (toLanes (lnkOf d l).width (lnkOf d l).laneMap (frameSymbols (lnkOf d l).width
        { f with naks := (takeNaks (lnkOf d l)).1, absent := (lnkOf d l).absentTx.head? } slots))] := rfl

theorem sendFrame_ctr (l : Nat) (f : Fcf) (slots : Tab Flit) (d : Dev) :
    (lnkOf (sendFrame l f slots d) l).ctr = (lnkOf d l).ctr ∧ (lnkOf (sendFrame l f slots d) l).nakRx = (lnkOf d l).nakRx := by
  have h : (sendFrame l f slots d).lnk = (modLnk l (fun _ => evictReplay f.index
      { (takeNaks (lnkOf d l)).2 with absentTx := (lnkOf d l).absentTx.drop 1 }) d).lnk := rfl
  rw [lnkOf_congr h, lnkOf_modLnk_same]
  exact ⟨rfl, rfl⟩

theorem sendData_idle (hf : d.fab.flits = []) (hn : (lnkOf d l).nakTx = []) (ha : (lnkOf d l).absentTx = []) :
    (sendData l k d).host.posted = d.host.posted ++
      [.frame l (toLanes (lnkOf d l).width (lnkOf d l).laneMap (frameSymbols (lnkOf d l).width (fcfBase d k) []))] := by
  unfold sendData
  rw [takeSlots_empty hf]
  simp only [List.filter_nil, ite_self, List.isEmpty_nil, List.foldl_nil, if_true, Bool.not_true, Bool.and_false, Bool.false_eq_true,
    if_false]
  rw [sendFrame_posted]
  simp [takeNaks, hn, ha, fcfBase]

theorem opLinkFrameTransmit_ready (hr : d.whl.running = true) (hk : 8 * k + 8 ≤ d.whl.w) (hs : (lnkOf d l).state = .ready)
    (ha : (lnkOf d l).aborting = 0) (hn : (lnkOf d l).nakRx = []) : opLinkFrameTransmit l k d = sendData l k d := by
  have h1 : ¬d.whl.w + d.whl.guardNext.getD d.whl.g < 8 * k := by omega
  have h2 : ¬d.whl.w + d.whl.guardNext.getD d.whl.g < 8 * k + 8 := by omega
  simp [opLinkFrameTransmit, hr, h1, h2, hs, ha, replayFor, hn]

theorem opLinkFrameTransmit_filler (hr : d.whl.running = true) (h1 : 8 * k ≤ d.whl.w + d.whl.guardNext.getD d.whl.g)
    (h2 : d.whl.w + d.whl.guardNext.getD d.whl.g < 8 * k + 8) (hg : (d.whl.guardNext.getD d.whl.g) % 8 ≠ 0)
    (hs : (lnkOf d l).state = .ready) : opLinkFrameTransmit l k d = sendFiller l (d.whl.guardNext.getD d.whl.g) d := by
  simp [opLinkFrameTransmit, hr, Nat.not_lt.mpr h1, h2, hg, hs, sendsFrames]

/-! ## Replays (05 R183 to R187) -/

theorem raiseSlip_host (l : Nat) (d : Dev) : (raiseSlip l d).host = d.host := by simp

theorem raiseSlip_lnk (l : Nat) (d : Dev) :
    (lnkOf (raiseSlip l d) l).ctr.replaysSent = (lnkOf d l).ctr.replaysSent ∧ (lnkOf (raiseSlip l d) l).nakRx = (lnkOf d l).nakRx := by
  unfold raiseSlip
  split
  · rw [countLink, lnkOf_modLnk_same]
    exact ⟨rfl, rfl⟩
  · exact ⟨rfl, rfl⟩

theorem sendReplay_sends (f : Frame) :
    (∃ syms, (sendReplay l k f d).host.posted = d.host.posted ++ [.frame l syms]) ∧
      (lnkOf (sendReplay l k f d) l).ctr.replaysSent = satInc (lnkOf d l).ctr.replaysSent ∧
      ∀ y ∈ (lnkOf (sendReplay l k f d) l).nakRx, y.2 ≠ 8 * k := by
  unfold sendReplay
  dsimp only
  obtain ⟨hctr, hnak⟩ := sendFrame_ctr l { fcfBase d k with kind := 2, valid := f.slots.foldl (fun a s => a + pow2 s.1) 0, replayOf := f.index }
    f.slots d
  split
  · refine ⟨⟨_, by rw [raiseSlip_host]; rfl⟩, ?_, ?_⟩
    · rw [(raiseSlip_lnk _ _).1, lnkOf_modLnk_same]
      dsimp only
      rw [hctr]
    · rw [(raiseSlip_lnk _ _).2, lnkOf_modLnk_same]
      intro y hy
      simpa using (List.mem_filter.mp hy).2
  · refine ⟨⟨_, rfl⟩, ?_, ?_⟩
    · rw [lnkOf_modLnk_same]
      dsimp only
      rw [hctr]
    · rw [lnkOf_modLnk_same]
      intro y hy
      simpa using (List.mem_filter.mp hy).2

theorem opReplaySend_eq {f : Frame} (hf : replayFor d l k = some f) (ho : linkOpen d l = true) (hs : d.whl.slip = false) :
    opReplaySend l k d = sendReplay l k f d := by
  simp [opReplaySend, hf, ho, hs]

/-! ## The receive queue (02 R60, R63) -/

theorem lnkOf_lambdaOf (l p : Nat) (d : Dev) (j : Nat) : lnkOf (lambdaOf l p d).2 j = lnkOf d j := lnkOf_congr (by simp) j

theorem storeFlit_state (l s : Nat) (f : Flit) (marked : Bool) (d : Dev) :
    (lnkOf (storeFlit l s f marked d) l).state = (lnkOf d l).state := by
  unfold storeFlit
  dsimp only
  repeat' split
  all_goals simp [countLink, lnkOf_lambdaOf]

theorem receiveSlot_state (l s : Nat) (f : Flit) (d : Dev) : (lnkOf (receiveSlot l s f d) l).state = (lnkOf d l).state := by
  unfold receiveSlot
  dsimp only
  repeat' split
  all_goals simp [countLink, storeFlit_state]

theorem rxTake_state (l : Nat) (e : RxEntry) (d : Dev) : (lnkOf (rxTake l e d) l).state = (lnkOf d l).state := by
  unfold rxTake
  split
  · exact storeFlit_state ..
  · exact receiveSlot_state ..

/-- The receive queue drains into the release store; the link stays in its state. -/
theorem drainLink_state (l t : Nat) (d : Dev) : (lnkOf (drainLink l t d) l).state = (lnkOf d l).state := by
  unfold drainLink
  dsimp only
  split
  · exact (foldl_keeps (fun d => (lnkOf d l).state) _ (fun a e => rxTake_state l e a) _ _).trans (by simp)
  · rfl

theorem drainLink_whl (l t : Nat) (d : Dev) : (drainLink l t d).whl = d.whl := by simp

theorem drainLink_early (h : ∀ x ∈ (lnkOf d l).rxQ, t < x.at_ + 6) : drainLink l t d = d := by
  unfold drainLink
  dsimp only
  rw [if_neg]
  simp only [List.any_eq_true, decide_eq_true_eq, not_exists, not_and, Nat.not_le]
  exact h

/-! ## Frames received (05 R165, R166, R183) -/

/-- What an uncorrectable frame that is not of a counted wheel leaves of its link. -/
theorem lnkOf_frameBad (wheel index : Nat) (msg : Nat) (d : Dev) :
    lnkOf (frameBad l wheel index t false msg d) l =
      { lnkOf d l with
        uncorrRun := (lnkOf d l).uncorrRun + 1, nakTx := (lnkOf d l).nakTx ++ [(index, 4)], alignRun := 0
        confirmBad := (lnkOf d l).confirmBad || (lnkOf d l).state == .confirm
        ctr := { (lnkOf d l).ctr with framesUncorr := satInc (lnkOf d l).ctr.framesUncorr } } := by
  simp [frameBad]

theorem rxWidth_ready {x : Link} (h : x.state = .ready) (lanes : List (List (BitVec 10))) : rxWidth x lanes = x.width := by
  simp [rxWidth, h]

theorem opLinkFrameReceive_ready {wheel index at16 : Nat} {sched : Bool} {lanes : List (List (BitVec 10))} {x : Link}
    (hs : (lnkOf d l).state = .ready) (hx : lnkOf (drainLink l (at16 / 16) d) l = x) :
    opLinkFrameReceive l wheel index sched at16 lanes d =
      match (if x.width = 4 ∨ x.width = 6 ∨ x.width = 8 then frameMessage x.width (fromLanes x.width x.rxOrder lanes) else none) with
      | none => frameBad l wheel index (at16 / 16) sched (rawMessage x.width (fromLanes x.width x.rxOrder lanes)) (drainLink l (at16 / 16) d)
      | some (msg, n) =>
        match fcfOf (bits msg (544 * x.width + 239) (544 * x.width)) with
        | none => frameBad l wheel index (at16 / 16) sched (rawMessage x.width (fromLanes x.width x.rxOrder lanes)) (drainLink l (at16 / 16) d)
        | some f => acceptFrame l wheel index at16 sched msg x.width n f (drainLink l (at16 / 16) d) := by
  have hready : x.state = .ready := by rw [← hx, drainLink_state, hs]
  unfold opLinkFrameReceive
  rw [hs]
  dsimp only
  rw [hx, rxWidth_ready hready] <;> rfl

/-- A READY link that has taken a frame without a correction. -/
def countFrame (x : Link) : Link := { x with uncorrRun := 0, ctr := { x.ctr with symbolsCorr := satAdd x.ctr.symbolsCorr 0 } }

theorem lnkOf_rxPush (l : Nat) (e : RxEntry) (d : Dev) :
    lnkOf (rxPush l e d) l =
      if (lnkOf d l).rxQ.length < 32 then { lnkOf d l with rxQ := (lnkOf d l).rxQ ++ [e] }
      else { lnkOf d l with ctr := { (lnkOf d l).ctr with rxDiscard := satInc (lnkOf d l).ctr.rxDiscard } } := by
  unfold rxPush
  split <;> simp [countLink]

/-- A frame whose VALID names slot 0 alone, or none, brings the flit of that slot, or none. -/
theorem foldl_slot0 {L : Nat} (hL : 0 < L) (push : Nat → Dev → Dev) (d : Dev) :
    (List.range L).foldl (fun a j => if bit 0 j then push j a else a) d = d ∧
      (List.range L).foldl (fun a j => if bit 1 j then push j a else a) d = push 0 d := by
  obtain ⟨n, rfl⟩ : ∃ n, L = n + 1 := ⟨L - 1, by omega⟩
  have h0 : ∀ j, bit 0 j = false := fun j => by simp [bit]
  have h1 : ∀ j, bit 1 (j + 1) = false := fun j => by
    simp [bit, Nat.shiftRight_eq_div_pow, Nat.div_eq_of_lt (Nat.one_lt_two_pow (Nat.succ_ne_zero j))]
  refine ⟨by simp [h0], ?_⟩
  have h10 : bit 1 0 = true := rfl
  rw [List.range_succ_eq_map, List.foldl_cons, List.foldl_map, if_pos h10]
  simp only [Nat.succ_eq_add_one, h1, Bool.false_eq_true, if_false, List.foldl_fixed]

theorem modLnk_congr {f g : Link → Link} (h : f (lnkOf d l) = g (lnkOf d l)) : modLnk l f d = modLnk l g d := by
  have ht : tabMod {} l f d.lnk = tabMod {} l g d.lnk := congrArg (tabSet l · d.lnk) h
  simp only [modLnk, ht]

theorem lnkOf_acceptFrame {wheel index at16 msg L : Nat} {sched : Bool} {f : Fcf} (hs : (lnkOf d l).state = .ready) (hL : 0 < L)
    (hk : f.kind = 1) (hn : f.naks = []) (ha : f.absent = none) :
    (f.valid = 0 → lnkOf (acceptFrame l wheel index at16 sched msg L 0 f d) l = countFrame (lnkOf d l)) ∧
      (f.valid = 1 → lnkOf (acceptFrame l wheel index at16 sched msg L 0 f d) l =
        lnkOf (rxPush l { at_ := at16 / 16, gc := wheel * d.whl.w + 8 * index, flit := slotOfMsg L msg f.wheel f.index 0, bad := false }
          (modLnk l countFrame d)) l) := by
  have hcount : (modLnk l (fun k => { k with
      uncorrRun := 0
      confirmFrames := if k.state = .confirm then k.confirmFrames + 1 else k.confirmFrames
      confirmSyms := if k.state = .confirm then k.confirmSyms + 0 else k.confirmSyms
      ctr := { k.ctr with
        framesCorr := if 0 = 0 then k.ctr.framesCorr else satInc k.ctr.framesCorr
        symbolsCorr := satAdd k.ctr.symbolsCorr 0 } }) d) = modLnk l countFrame d :=
    modLnk_congr (by simp [countFrame, hs])
  obtain ⟨h0, h1⟩ := foldl_slot0 hL (fun j a => rxPush l
    { at_ := at16 / 16, gc := wheel * d.whl.w + 8 * index + j, flit := slotOfMsg L msg f.wheel f.index j, bad := false } a)
    (modLnk l countFrame d)
  unfold acceptFrame
  dsimp only
  rw [hcount, if_neg (by omega), if_pos hs, if_neg (by omega), hn, ha]
  simp only [List.foldl_nil, receiveAbsent]
  refine ⟨fun hv => ?_, fun hv => ?_⟩
  · rw [hv, h0, lnkOf_modLnk_same]
  · rw [hv, h1]
    rfl

/-! ## The release store (05 R176, R177) -/

theorem opReleaseStoreRelease_releases {ix lam : Nat} {r : RelEntry} {f : Flit} (hn : d.whl.now ≤ t) (hs : d.whl.slip = false)
    (hk : tickAt d.whl t < d.whl.w) (hq : ∀ x ∈ (lnkOf d l).rxQ, t - 1 < x.at_ + 6) (hr : (lnkOf d l).release = [(ix, r)])
    (hf : r.flit = some f) (hm : r.marked = false)
    (hlam : tabGet none ((lnkOf d l).lambda.map fun x => (x.1, some x.2)) (phaseOfGc d.whl r.gc) = some lam)
    (hdue : r.gc + lam = d.whl.n * d.whl.w + tickAt d.whl t) :
    ∃ g : Flit, g.data = f.data ∧ g.late = f.late ∧
      opReleaseStoreRelease l t d = addFlight { dest := .swIn (islOfLink l) 20, due := t + 2, sw := t + 2, flit := g }
        (modLnk l (fun k => { k with release := tabDel ix k.release }) (advanceTo t d)) := by
  obtain ⟨hc, -⟩ := fabPos_advanceTo hs hn hk
  have hl : lnkOf (advanceTo t d) l = lnkOf d l := lnkOf_congr (by simp) l
  have hg : gcOf (advanceTo t d).whl = d.whl.n * d.whl.w + tickAt d.whl t := by
    rw [advanceTo_eq hn]
    have hin : inGuard { d.whl with now := t } = false := decide_eq_false (Nat.not_le.mpr hk)
    unfold gcOf
    rw [if_neg (by simp [hs]), if_neg (by simp [hin])]
    rfl
  have hph : phaseOfGc (advanceTo t d).whl r.gc = phaseOfGc d.whl r.gc := by rw [advanceTo_eq hn]; rfl
  have hdrain : drainLink l (t - 1) (advanceTo t d) = advanceTo t d := drainLink_early (by rw [hl]; exact hq)
  unfold opReleaseStoreRelease
  rw [if_neg (by omega)]
  dsimp only
  rw [hdrain, hc, hl, hr, hg]
  simp only [List.find?_cons, hph, hlam, hdue, beq_self_eq_true, Bool.not_true, Bool.false_eq_true, if_false, hf, hm]
  refine ⟨_, ?_, ?_, rfl⟩ <;> rfl

/-! ## Lanes (05 R189) -/

theorem opLaneDrop_drops {x : Flight} (hst : d.whl.start ≤ t) (hd : laneDrops d.whl (lnkOf d l) (tickAt d.whl t) = true)
    (hf : d.fab.flits = [x]) (hdest : x.dest = .linkTx l) (hdue : x.due = t) (hecc : eccCheck x.flit = (x.flit, .clean))
    (hten : x.flit.ten ≠ 63) :
    (opLaneDrop l t d).fab.flits = [] ∧ (lnkOf (opLaneDrop l t d) l).ctr.laneDrop = satAdd (lnkOf d l).ctr.laneDrop 1 := by
  have htake : takeFlight (.linkTx l) t d = (some x, { d with fab := { d.fab with flits := [] } }) := by
    simp [takeFlight, hf, hdest, hdue]
  unfold opLaneDrop
  rw [if_neg (by simp [hd, hst]), htake]
  simp only [checkTx, hecc, countEcc]
  rw [if_neg (by simpa using hten)]
  refine ⟨by simp, ?_⟩
  rw [countLink, lnkOf_modLnk_same]
  rfl

/-- Settles O21: frames and fillers sent, replays, frames received, the release store and the lanes, one lemma above each. -/
theorem linkTraffic : Obligations.LinkTraffic := by
  intro d l hu hs hab
  refine ⟨fun k hr hk hf hn ha hnr => ?_, fun k hr h1 h2 hg => ?_, fun k f hf ho hsl => ?_, fun wheel index at16 lanes x hx hmsg => ?_,
    fun wheel index at16 msg lanes f x hx hw hmsg hf hk hn ha => ?_, fun t ix r f lam hn hsl hk hq hr hf hm hlam hdue => ?_,
    fun t x hst hd hf hdest hdue hecc hten => ?_⟩
  · refine answers_onFabric hu (fun s => rfl) ?_
    rw [opLinkFrameTransmit_ready hr hk hs hab hnr]
    exact sendData_idle hf hn ha
  · refine answers_onFabric hu (fun s => rfl) ?_
    rw [opLinkFrameTransmit_filler hr h1 h2 hg hs]
    exact ⟨_, by simp, rfl⟩
  · refine answers_onFabric hu (fun s => rfl) ?_
    rw [opReplaySend_eq hf ho hsl]
    exact sendReplay_sends f
  · refine answers_onFabric hu (fun s => rfl) ?_
    rw [opLinkFrameReceive_ready hs hx, hmsg, ite_self]
    dsimp only
    rw [lnkOf_frameBad, hx]
    exact ⟨rfl, rfl, rfl⟩
  · refine answers_onFabric hu (fun s => rfl) ?_
    rw [opLinkFrameReceive_ready hs hx, if_pos hw, hmsg]
    dsimp only
    rw [hf]
    dsimp only
    obtain ⟨h0, h1⟩ := lnkOf_acceptFrame (wheel := wheel) (index := index) (at16 := at16) (msg := msg) (L := x.width) (sched := true)
      (d := drainLink l (at16 / 16) d) (by rw [drainLink_state, hs]) (by omega) hk hn ha
    rw [lnkOf_rxPush, lnkOf_modLnk_same, hx] at h1
    rw [hx] at h0
    refine ⟨h0, fun hv hq => ?_, fun hv hq => ?_⟩
    · have hq' : (countFrame x).rxQ.length < 32 := hq
      rw [h1 hv, if_pos hq', drainLink_whl]
      rfl
    · have hq' : ¬(countFrame x).rxQ.length < 32 := Nat.not_lt.mpr hq
      rw [h1 hv, if_neg hq']
      exact ⟨rfl, rfl⟩
  · refine answers_onFabric hu (fun s => rfl) ?_
    obtain ⟨g, hdata, hlate, heq⟩ := opReleaseStoreRelease_releases hn hsl hk hq hr hf hm hlam hdue
    rw [heq]
    refine ⟨?_, _, List.mem_append_right _ (List.mem_singleton_self _), rfl, rfl, hdata, hlate⟩
    have hl : lnkOf (advanceTo t d) l = lnkOf d l := lnkOf_congr (by simp) l
    change (lnkOf (modLnk l (fun k => { k with release := tabDel ix k.release }) (advanceTo t d)) l).release = []
    rw [lnkOf_modLnk_same, hl, hr]
    simp [tabDel]
  · exact answers_onFabric hu (fun s => rfl) (opLaneDrop_drops hst hd hf hdest hdue hecc hten)

end Sys2Proof.Machine
end

section
/-!
The statements on column slots (06 R209 to R218) and on moves between the tiers (06 R205, R215): each says of a queue kept in a
table that it is empty once its last entry has left, and quantifies over devices whose tables list a key twice.
-/
namespace Sys2Proof.Machine

/-- What a command answers is the next state that it has. -/
theorem Answers.eval {c : Instr} {d e : Dev} {P : Dev → Prop} (h : Answers c d P) (he : exec c ⟨[], d⟩ = .next ⟨[], e⟩) : P e := by
  obtain ⟨e', he', hP⟩ := h []
  obtain rfl : e = e' := by simpa using he.symm.trans he'
  exact hP

/-! ## A table that lists a key twice -/

/-- A read request of line 0 for slot 0 of phase 0. -/
def readRequest : ReqEntry := { word := 0, mask := 1, data := 0, poison := false, stamp := 0, ecc := .ok }

/-- Phase 0 of a counted wheel, at a column whose request queue is listed twice. No command leaves a table so, but the statement
quantifies over every device. -/
def queueListedTwice : Dev :=
  { clk := { pll := [(2, { ungated := true })] }, whl := { running := true, phase := 1 }, fuse := { slots := [(0, 1)] }
    mem := { colQ := [(0, [readRequest]), (0, [readRequest])] } }

theorem opColumnSlotBoard_queueListedTwice :
    tabGet [] (opColumnSlotBoard 0 0 0 5 queueListedTwice).mem.colQ 0 = [readRequest] := by decide +kernel

/-- Refutes O23: nothing says that the table of request queues lists a column once. Where it lists one twice, the slot takes the one
request of the first entry, and the second entry is left as the column's queue, which is not empty. -/
theorem not_columnSlots : ¬ Obligations.ColumnSlots := by
  intro h
  obtain ⟨-, hread⟩ := h queueListedTwice 0 0 0 5 readRequest ⟨rfl, rfl⟩ rfl rfl (by decide +kernel) (by decide +kernel) rfl rfl
    (by decide) rfl (by decide +kernel) (by decide +kernel)
  obtain ⟨-, -, hempty⟩ := (hread rfl).eval (onColumn_eq (s := ⟨[], queueListedTwice⟩) rfl rfl (opColumnSlotBoard 0 0 0 5))
  exact absurd (opColumnSlotBoard_queueListedTwice.symm.trans hempty) (by simp)

/-- A read of slot 4 whose data waits for its 96 column cycles. -/
def pendingRead : ColRd := { slotM := 4, line := 0, mask := 1, data := 0, poison := false }

/-- A column whose pending reads are listed twice. -/
def readsListedTwice : Dev :=
  { clk := { pll := [(2, { ungated := true })] }, mem := { colRd := [(0, [pendingRead]), (0, [pendingRead])] } }

theorem opColumnReadData_readsListedTwice :
    tabGet [] (opColumnReadData 0 100 readsListedTwice).mem.colRd 0 = [pendingRead] := by decide +kernel

/-- Refutes O24: nothing says that the table of pending reads lists a column once. Where it lists one twice, the last read of the
first entry leaves, and the second entry is left as the column's reads. -/
theorem not_tierMoves : ¬ Obligations.TierMoves := by
  intro h
  obtain ⟨hread, -⟩ := h readsListedTwice rfl
  obtain ⟨-, hempty⟩ := (hread 0 100 pendingRead [] rfl rfl rfl (by decide)).eval
    (onColumn_eq (s := ⟨[], readsListedTwice⟩) rfl rfl (opColumnReadData 0 100))
  exact absurd (opColumnReadData_readsListedTwice.symm.trans hempty) (by simp)

end Sys2Proof.Machine
end

section
/-!
What an island cycle leaves of a cluster beside its sequencer: the engines, the pending marks and, before anything falls due, the
accumulators and the launch slots (07 R246 to R253). The statements on the issue of a bundle and on the engines it takes
(07 R246, R250, R262; 09 R335 to R354; 10 R361).
-/
namespace Sys2Proof.Machine

/-! ## What the operations of a cycle keep -/

/-- A property of the device that no operation of a list breaks holds after all of them. -/
theorem runOps_inv {P : Dev → Prop} {cl c : Nat} {sel : Micro → Bool} {os : List Micro}
    (h : ∀ o ∈ os, sel o = true → ∀ t d, P d → P (microDev (doMicro cl t o d))) (t : Task) {d : Dev} (hd : P d) :
    P (runOps cl c sel os t d).2 := by
  induction os generalizing t d with
  | nil => exact hd
  | cons o os ih =>
    obtain ⟨ho, hos⟩ := List.forall_mem_cons.mp h
    rw [runOps]
    split
    · rename_i hs
      have hm := ho hs t d hd
      split <;> rename_i e <;> rw [e] at hm
      · exact ih hos _ hm
      · exact hm
      · exact hm
    · exact ih hos t hd

/-- The operations that a list of tasks has in cycle c. -/
def DueIn (c : Nat) (ts : List Task) (o : Micro) : Prop := ∃ t ∈ ts, (c, o) ∈ t.todo

theorem mem_microNow {c : Nat} {t : Task} {o : Micro} : o ∈ microNow c t ↔ (c, o) ∈ t.todo := by
  simp [microNow]

theorem runTasks_inv {P : Dev → Prop} {cl c : Nat} {sel : Micro → Bool} {ts : List Task}
    (h : ∀ o, DueIn c ts o → sel o = true → ∀ t d, P d → P (microDev (doMicro cl t o d))) {d : Dev} (hd : P d) :
    P (runTasks cl c sel ts d).2 := by
  induction ts generalizing d with
  | nil => exact hd
  | cons t ts ih =>
    refine ih (fun o ⟨u, hu, ho⟩ => h o ⟨u, List.mem_cons_of_mem _ hu, ho⟩) (runOps_inv (fun o ho => h o ?_) t hd)
    exact ⟨t, List.mem_cons_self, mem_microNow.mp ho⟩

/-- What an operation leaves of its own operations: all of them. -/
theorem doMicro_go_todo {cl : Nat} {t t' : Task} {o : Micro} {d d' : Dev} (h : doMicro cl t o d = .go t' d') : t'.todo = t.todo := by
  cases o <;> simp only [doMicro, doRead, doWrite, doSget, doSput, doExam, doRequest] at h <;>
    (repeat' split at h) <;> cases h <;> rfl

theorem doMicro_stopLater_todo {cl : Nat} {t t' : Task} {o : Micro} {d d' : Dev} (h : doMicro cl t o d = .stopLater t' d') :
    t' = t := by
  cases o <;> simp only [doMicro, doRead, doWrite, doSget, doSput, doExam, doRequest] at h <;>
    (repeat' split at h) <;> cases h <;> rfl

/-- A task that goes on has no operation that it did not have. -/
theorem runOps_todo {cl c : Nat} {sel : Micro → Bool} {os : List Micro} {t t' : Task} {d : Dev}
    (h : (runOps cl c sel os t d).1 = some t') : ∀ o ∈ t'.todo, o ∈ t.todo := by
  induction os generalizing t d with
  | nil => cases h; exact fun _ ho => ho
  | cons o os ih =>
    rw [runOps] at h
    split at h
    · split at h <;> rename_i e
      · exact fun x hx => doMicro_go_todo e ▸ ih h x hx
      · cases h
      · cases h
        rw [doMicro_stopLater_todo e]
        exact fun x hx => (List.mem_filter.mp hx).1
    · exact ih h

theorem dueIn_runTasks {cl c n : Nat} {sel : Micro → Bool} {ts : List Task} {d : Dev} {o : Micro}
    (h : DueIn n (runTasks cl c sel ts d).1 o) : DueIn n ts o := by
  induction ts generalizing d with
  | nil => exact h
  | cons t ts ih =>
    obtain ⟨u, hu, ho⟩ := h
    have hrest (hu : u ∈ (runTasks cl c sel ts (runOps cl c sel (microNow c t) t d).2).1) : DueIn n (t :: ts) o := by
      obtain ⟨v, hv, hvo⟩ := ih ⟨u, hu, ho⟩
      exact ⟨v, List.mem_cons_of_mem _ hv, hvo⟩
    simp only [runTasks] at hu
    split at hu
    next t' ht' =>
      obtain rfl | hu := List.mem_cons.mp hu
      · exact ⟨t, List.mem_cons_self, runOps_todo ht' _ ho⟩
      · exact hrest hu
    next => exact hrest hu

/-- A property of a cluster that its operations keep, whatever its tasks are, holds after a phase. -/
theorem phaseOps_inv {P : Cluster → Prop} {cl : Nat} {sel : Micro → Bool} {d : Dev} (hP : ∀ k ts, P k → P { k with tasks := ts })
    (h : ∀ o, DueIn (clOf d cl).cyc (clOf d cl).tasks o → sel o = true → ∀ t e, P (clOf e cl) → P (clOf (microDev (doMicro cl t o e)) cl))
    (hd : P (clOf d cl)) : P (clOf (phaseOps cl sel d) cl) := by
  unfold phaseOps
  rw [clOf_modCl_same]
  exact hP _ _ (runTasks_inv (P := fun e => P (clOf e cl)) h hd)

/-- The operations under way in a cluster after a phase are operations that were. -/
theorem dueIn_phaseOps {cl n : Nat} {sel : Micro → Bool} {d : Dev} {o : Micro} (h : DueIn n (clOf (phaseOps cl sel d) cl).tasks o) :
    DueIn n (clOf d cl).tasks o := by
  rw [phaseOps, clOf_modCl_same] at h
  exact dueIn_runTasks h

/-! ## Engines and pending marks -/

/-- The engines of a cluster, its pending marks, its cycle and its phase of the island clock. -/
def enginesOf (k : Cluster) : Nat × Nat × Nat × List (PendItem × Nat) × Nat × Bool :=
  (k.busyM, k.busyV, k.busyX, k.pend, k.cyc, k.syncLate)

theorem enginesOf_pushSnap (layer : BitVec 16) (now : Nat) (k : Cluster) : enginesOf (pushSnap layer now k) = enginesOf k := by
  unfold pushSnap; split <;> rfl

theorem enginesOf_modCl {f : Cluster → Cluster} (h : ∀ k, enginesOf (f k) = enginesOf k) (cl : Nat) (d : Dev) :
    enginesOf (clOf (modCl cl f d) cl) = enginesOf (clOf d cl) := by rw [clOf_modCl_same, h]

theorem enginesOf_doDone (cl : Nat) (t : Task) (d : Dev) : enginesOf (clOf (doDone cl t d) cl) = enginesOf (clOf d cl) := by
  unfold doDone; dsimp only
  split
  case h_5 => -- VDIG, which may also push a snapshot or mark its tenancy
    (repeat' split) <;> simp [enginesOf_pushSnap] <;> rfl
  case h_8 => rfl
  all_goals exact enginesOf_modCl (fun _ => by rfl) cl d

theorem enginesOf_doPayload (cl : Nat) (t : Task) (i : Nat) (d : Dev) :
    enginesOf (clOf (doPayload cl t i d) cl) = enginesOf (clOf d cl) := by
  unfold doPayload
  split
  · exact enginesOf_modCl (fun k => by (repeat' split) <;> rfl) cl d
  · rfl

/-- No operation of an instruction takes or frees an engine, or marks an item. -/
theorem enginesOf_doMicro (cl : Nat) (t : Task) (o : Micro) (d : Dev) :
    enginesOf (clOf (microDev (doMicro cl t o d)) cl) = enginesOf (clOf d cl) := by
  cases o with
  | done => exact enginesOf_doDone cl t d
  | clear buf e => exact enginesOf_modCl (fun k => by dsimp only; split <;> rfl) cl d
  | payload i => exact enginesOf_doPayload cl t i d
  | _ =>
    simp only [doMicro, doRead, doWrite, doSget, doSput, doExam, doRequest]
    (repeat' split) <;> simp [microDev] <;> rfl

theorem enginesOf_phaseOps (cl : Nat) (sel : Micro → Bool) (d : Dev) :
    enginesOf (clOf (phaseOps cl sel d) cl) = enginesOf (clOf d cl) :=
  phaseOps_inv (P := fun k => enginesOf k = enginesOf (clOf d cl)) (fun _ _ h => h)
    (fun o _ _ t e h => (enginesOf_doMicro cl t o e).trans h) rfl

theorem enginesOf_accessCycle (cl : Nat) (d : Dev) : enginesOf (clOf (accessCycle cl d) cl) = enginesOf (clOf d cl) := by
  simp only [accessCycle, enginesOf_phaseOps]
  split
  · simp [enginesOf]
  · rfl

/-- An island cycle ends the marks that are due and takes no engine. -/
theorem enginesOf_tickCluster (cl : Nat) (d : Dev) : enginesOf (clOf (tickCluster cl d) cl) =
    enginesOf (cycleStart d.whl (clOf d cl)) := by
  have ha := enginesOf_accessCycle cl d
  rw [tickCluster_eq, enginesOf_phaseOps, clOf_modCl_same]
  simp only [enginesOf, Prod.mk.injEq, cycleStart] at ha ⊢
  obtain ⟨hm, hv, hx, hp, hc, hs⟩ := ha
  simp [hm, hv, hx, hp, hc, hs]

/-- Engines, marks and phase of a cluster after a cycle. -/
theorem tickCluster_engines (cl : Nat) (d : Dev) :
    (clOf (tickCluster cl d) cl).busyM = (clOf d cl).busyM ∧ (clOf (tickCluster cl d) cl).busyV = (clOf d cl).busyV ∧
      (clOf (tickCluster cl d) cl).busyX = (clOf d cl).busyX ∧
      (clOf (tickCluster cl d) cl).pend = (clOf d cl).pend.filter (fun p => decide ((clOf d cl).cyc + 1 < p.2)) ∧
      (clOf (tickCluster cl d) cl).syncLate = (clOf d cl).syncLate := by
  have h := enginesOf_tickCluster cl d
  simp only [enginesOf, Prod.mk.injEq, cycleStart] at h
  obtain ⟨hm, hv, hx, hp, -, hs⟩ := h
  exact ⟨hm, hv, hx, hp, hs⟩

/-- A mark due later than the next cycle is still set in it. -/
theorem isPending_tickCluster {cl : Nat} {d : Dev} {i : PendItem} {n : Nat} (h : (i, n) ∈ (clOf d cl).pend)
    (hn : (clOf d cl).cyc + 1 < n) : isPending (clOf (tickCluster cl d) cl) i = true := by
  obtain ⟨-, -, -, hp, -⟩ := tickCluster_engines cl d
  simp only [isPending, hp, tickCluster_cyc, List.any_eq_true, Bool.and_eq_true, beq_iff_eq, decide_eq_true_eq]
  exact ⟨(i, n), List.mem_filter.mpr ⟨h, by simpa using hn⟩, rfl, hn⟩

/-! ## Accumulators and launch slots -/

/-- The accumulators and the launch slots of a cluster. -/
def filesOf (k : Cluster) : Tab AccTile × Tab LaunchSlot := (k.acc, k.ls)

/-- An operation that waits for no latency changes no accumulator and no launch slot. -/
theorem filesOf_doMicro {o : Micro} (ho : microEarly o = false) (cl : Nat) (t : Task) (d : Dev) :
    filesOf (clOf (microDev (doMicro cl t o d)) cl) = filesOf (clOf d cl) := by
  cases o with
  | done | payload | request | setS | setD | setM => cases ho
  | clear buf e =>
    simp only [doMicro, microDev, doClear, clOf_modCl_same]
    split <;> rfl
  | _ =>
    simp only [doMicro, doRead, doWrite, doSget, doSput, doExam]
    (repeat' split) <;> simp [microDev] <;> rfl

theorem filesOf_phaseOps {cl : Nat} {sel : Micro → Bool} {d : Dev}
    (h : ∀ o, DueIn (clOf d cl).cyc (clOf d cl).tasks o → sel o = true → microEarly o = false) :
    filesOf (clOf (phaseOps cl sel d) cl) = filesOf (clOf d cl) :=
  phaseOps_inv (P := fun k => filesOf k = filesOf (clOf d cl)) (fun _ _ hk => hk)
    (fun o ho hs t e hk => (filesOf_doMicro (h o ho hs) cl t e).trans hk) rfl

theorem not_early_of_write {o : Micro} (h : microIsWrite o = true) : microEarly o = false := by
  cases o <;> simp [microIsWrite, microEarly] at h ⊢

theorem filesOf_accessCycle (cl : Nat) (d : Dev) : filesOf (clOf (accessCycle cl d) cl) = filesOf (clOf d cl) := by
  rw [accessCycle]
  rw [filesOf_phaseOps fun o _ ho => not_early_of_write ho,
    filesOf_phaseOps fun o _ ho => by simpa using (Bool.and_eq_true_iff.mp ho).1]
  split
  · simp [filesOf]
  · rfl

theorem dueIn_accessCycle {cl n : Nat} {d : Dev} {o : Micro} (h : DueIn n (clOf (accessCycle cl d) cl).tasks o) :
    DueIn n (clOf d cl).tasks o := by
  have h1 := dueIn_phaseOps (dueIn_phaseOps h)
  split at h1
  · rw [clOf_clusterFault, clOf_setCl_same] at h1
    obtain ⟨t, ht, ho⟩ := h1
    exact ⟨t, (List.mem_filter.mp ht).1, ho⟩
  · exact h1

/-- Nothing that waits for a latency is due as the next cycle of a cluster begins. -/
def NothingDue (k : Cluster) : Prop := ∀ o, DueIn (k.cyc + 1) k.tasks o → microEarly o = false

theorem dueIn_cycleStart {n : Nat} {w : Wheel} {k : Cluster} {o : Micro} (h : DueIn n (cycleStart w k).tasks o) :
    DueIn n k.tasks o := by
  obtain ⟨t, ht, ho⟩ := h
  obtain ⟨u, hu, rfl⟩ := List.mem_map.mp (List.mem_filter.mp ht).1
  exact ⟨u, hu, (List.mem_filter.mp ho).1⟩

/-- A cycle after which nothing falls due leaves the accumulators and the launch slots. -/
theorem filesOf_tickCluster {cl : Nat} {d : Dev} (h : NothingDue (clOf d cl)) :
    filesOf (clOf (tickCluster cl d) cl) = filesOf (clOf d cl) := by
  have hcyc : (clOf (accessCycle cl d) cl).cyc = (clOf d cl).cyc := congrArg (fun x => x.2.2) (seqOf_accessCycle cl d)
  rw [tickCluster_eq, filesOf_phaseOps, clOf_modCl_same]
  · exact filesOf_accessCycle cl d
  · intro o ho _
    rw [clOf_modCl_same] at ho
    have hd := dueIn_accessCycle (dueIn_cycleStart ho)
    rw [cycleStart, hcyc] at hd
    exact h o hd

/-! ## The cycle of an issue -/

/-- The tasks a bundle starts, C, X, V and M slot in turn. -/
def startedTasks (d : Dev) (cl : Nat) (b : Bundle) : List Task :=
  ((cTask (clOf d cl) b.c).map (·.1)).toList ++
    (((xTask d.whl.w (winBaseOf d cl) (clOf d cl) b.x).map fun x => (dropPayload b.x (clOf d cl) x.1, x.2)).map (·.1)).toList ++
    ((vTask (clOf d cl) b.v).map (·.1)).toList ++ ((mTask (clOf d cl) b.m).map (·.1)).toList

/-- The pending marks a bundle sets. -/
def startedMarks (d : Dev) (cl : Nat) (b : Bundle) : List (PendItem × Nat) :=
  ((cTask (clOf d cl) b.c).map (·.2)).getD [] ++ ((xTask d.whl.w (winBaseOf d cl) (clOf d cl) b.x).map (·.2.2)).getD [] ++
    ((vTask (clOf d cl) b.v).map (·.2.2)).getD [] ++ ((mTask (clOf d cl) b.m).map (·.2.2)).getD []

theorem nextPc_keeps (k : Cluster) (c : CSlot) : enginesOf (nextPc k c) = enginesOf k ∧ filesOf (nextPc k c) = filesOf k ∧
    (nextPc k c).tasks = k.tasks := by
  cases c with
  | loop src sC imm e => rw [nextPc_loop]; split <;> exact ⟨rfl, rfl, rfl⟩
  | endloop =>
    cases hl : k.loops with
    | nil => rw [nextPc_endloop_nil hl]; exact ⟨rfl, rfl, rfl⟩
    | cons top rest => rw [nextPc_endloop hl]; split <;> exact ⟨rfl, rfl, rfl⟩
  | _ => exact ⟨rfl, rfl, rfl⟩

theorem mIssue_engines (m : MSlot) (k : Cluster) : enginesOf (mIssue m k) = enginesOf k ∧ (mIssue m k).ls = k.ls := by
  unfold mIssue; dsimp only; (repeat' split) <;> exact ⟨rfl, rfl⟩

theorem launchIssue_engines (x : XSlot) (k : Cluster) : enginesOf (launchIssue x k) = enginesOf k := by
  unfold launchIssue; (repeat' split) <;> rfl

theorem issueSlots_engines (cl : Nat) (b : Bundle) (d : Dev) : enginesOf (clOf (issueSlots cl b d) cl) =
    (((mTask (clOf d cl) b.m).map (·.2.1)).getD (clOf d cl).busyM, ((vTask (clOf d cl) b.v).map (·.2.1)).getD (clOf d cl).busyV,
      ((xTask d.whl.w (winBaseOf d cl) (clOf d cl) b.x).map (·.2.1)).getD (clOf d cl).busyX,
      (clOf d cl).pend ++ startedMarks d cl b, (clOf d cl).cyc, (clOf d cl).syncLate) := by
  have hk : enginesOf (launchIssue b.x (mIssue b.m (clOf d cl))) = enginesOf (clOf d cl) :=
    (launchIssue_engines _ _).trans (mIssue_engines _ _).1
  simp only [enginesOf, Prod.mk.injEq] at hk
  obtain ⟨-, -, -, -, hcyc, hsync⟩ := hk
  rw [issueSlots, clOf_setCl_same, (nextPc_keeps _ _).1]
  simp only [enginesOf, hcyc, hsync, startedMarks, Option.map_map, List.append_assoc]
  rfl

theorem issueSlots_files (cl : Nat) (b : Bundle) (d : Dev) :
    filesOf (clOf (issueSlots cl b d) cl) = filesOf (launchIssue b.x (mIssue b.m (clOf d cl))) := by
  rw [issueSlots, clOf_setCl_same, (nextPc_keeps _ _).2.1]
  rfl

theorem issueSlots_tasks (cl : Nat) (b : Bundle) (d : Dev) :
    (clOf (issueSlots cl b d) cl).tasks = (clOf d cl).tasks ++ startedTasks d cl b := by
  rw [issueSlots, clOf_setCl_same, (nextPc_keeps _ _).2.2]
  simp only [startedTasks, List.append_assoc]

/-- The engines of a cluster one cycle after an issue. -/
structure TakesEngines (d : Dev) (cl : Nat) (b : Bundle) (e : Dev) : Prop where
  matrix : (clOf e cl).busyM = ((mTask (clOf d cl) b.m).map (·.2.1)).getD (clOf d cl).busyM
  vector : (clOf e cl).busyV = ((vTask (clOf d cl) b.v).map (·.2.1)).getD (clOf d cl).busyV
  transfer : (clOf e cl).busyX = ((xTask d.whl.w (winBaseOf d cl) (clOf d cl) b.x).map (·.2.1)).getD (clOf d cl).busyX
  marks : ∀ i n, (i, n) ∈ startedMarks d cl b → (clOf d cl).cyc + 1 < n → isPending (clOf e cl) i = true
  phase : (clOf e cl).syncLate = (clOf d cl).syncLate

theorem takesEngines (cl : Nat) (b : Bundle) (d : Dev) : TakesEngines d cl b (tickCluster cl (issueSlots cl b d)) := by
  have h := issueSlots_engines cl b d
  simp only [enginesOf, Prod.mk.injEq] at h
  obtain ⟨hm, hv, hx, hp, hc, hs⟩ := h
  obtain ⟨tm, tv, tx, -, ts⟩ := tickCluster_engines cl (issueSlots cl b d)
  refine ⟨tm.trans hm, tv.trans hv, tx.trans hx, fun i n hi hn => isPending_tickCluster ?_ (by rwa [hc]), ts.trans hs⟩
  rw [hp]
  exact List.mem_append_right _ hi

/-- An issue at a cluster without tasks leaves, one cycle later, the accumulators and launch slots that the issue itself gives. -/
theorem filesOf_tickCluster_issueSlots {cl : Nat} {b : Bundle} {d : Dev} (hk : (clOf d cl).tasks = [])
    (h : ∀ o, DueIn ((clOf d cl).cyc + 1) (startedTasks d cl b) o → microEarly o = false) :
    filesOf (clOf (tickCluster cl (issueSlots cl b d)) cl) = filesOf (launchIssue b.x (mIssue b.m (clOf d cl))) := by
  have hc : (clOf (issueSlots cl b d) cl).cyc = (clOf d cl).cyc := by
    have h := issueSlots_engines cl b d
    simp only [enginesOf, Prod.mk.injEq] at h
    obtain ⟨-, -, -, -, hcyc, -⟩ := h
    exact hcyc
  rw [filesOf_tickCluster, issueSlots_files]
  intro o ho
  rw [hc, issueSlots_tasks, hk, List.nil_append] at ho
  exact h o ho

/-- A bundle without a turn of the sequencer issues, and takes its engines. -/
theorem answers_takesEngines {i : Instr} {d : Dev} {cl : Nat} {b : Bundle} (h : MayIssue d cl b)
    (hi : ∀ s, exec i s = onIsland cl s (opIssueOne cl b)) (hb : b.c = .nop) :
    Answers i d fun e => e = tickCluster cl (issueSlots cl b d) ∧ Issued cl d e ∧ TakesEngines d cl b e := by
  refine answers_issues h hi ?_ ⟨rfl, issued_issueSlots fun k => ?_, takesEngines cl b d⟩
  · unfold reachBundle; rw [hb]
  · rw [hb]; rfl

end Sys2Proof.Machine
end

section
/-!
The statements on the issue of a bundle and on the engines that matrix, vector and transfer instructions take
(07 R246, R250, R262; 09 R335 to R354; 10 R361).
-/
namespace Sys2Proof.Machine

/-! ## The bundle at pc (07 R245, R246) -/

theorem slotKind_of_clean {k : Cluster} {i : Nat} (h : slotSyn k i = 0) : slotKind k i = .ok := by
  rw [slotKind, h]; rfl

theorem fetchBad_of_clean {k : Cluster} (h : ∀ i < 4, slotSyn k i = 0) : fetchBad k = false := by
  refine List.any_eq_false.mpr fun i hi => ?_
  simp [slotKind_of_clean (h i (List.mem_range.mp hi))]

/-- A cluster that has fetched the bundle at its pc, in a phase of the island clock. -/
def fetching (k : Cluster) (third : Bool) : Cluster :=
  { k with syncLate := third, bstoreEccCorr := satAdd k.bstoreEccCorr (fetchCorr k) }

/-- The issue checks read neither the phase of the clock nor the counts of the bundle store. -/
theorem issueOk_fetching (w : Nat) (k : Cluster) (third : Bool) (b : Bundle) :
    issueOk w (fetching k third) b = issueOk w k b := rfl

theorem opBundleIssue_of_clean {d : Dev} {cl : Nat} (third : Bool) (hrun : (clOf d cl).run = .running)
    (hecc : ∀ i < 4, slotSyn (clOf d cl) i = 0) :
    opBundleIssue cl third d = reachBundle cl (fetchBundle (clOf d cl)) (setCl cl (fetching (clOf d cl) third) d) := by
  have hbad : fetchBad { clOf d cl with syncLate := third } = false := fetchBad_of_clean hecc
  rw [opBundleIssue, if_pos hrun, if_neg (by rw [hbad]; exact Bool.false_ne_true)]
  rfl

theorem reachBundle_of_no_wait {b : Bundle} (ht : ∀ x y z w, b.c ≠ .waittick x y z w) (hc : ∀ x y z, b.c ≠ .waitcyc x y z)
    (cl : Nat) (d : Dev) : reachBundle cl b d = issueBundle cl b d := by
  unfold reachBundle
  split
  · exact absurd ‹_› (ht _ _ _ _)
  · exact absurd ‹_› (hc _ _ _)
  · rfl

theorem nextPc_pc_of_no_loop {c : CSlot} (hl : ∀ x y z w, c ≠ .loop x y z w) (he : c ≠ .endloop) (k : Cluster) :
    (nextPc k c).pc = k.pc + 1 := by
  cases c with
  | loop => exact absurd rfl (hl _ _ _ _)
  | endloop => exact absurd rfl he
  | _ => rfl

/-- Settles O25: a fetched bundle without a wait reaches the checks, and one without a loop passes on to the next. -/
theorem bundleIssues : Obligations.BundleIssues := by
  unfold Obligations.BundleIssues
  intro d cl third ⟨hl, hisl, hrun, hok⟩ hecc hloop hend hwait hcyc
  have hk : clOf (setCl cl (fetching (clOf d cl) third) d) cl = fetching (clOf d cl) third := clOf_setCl_same _ _ _
  refine answers_onIsland hl hisl (fun _ => rfl) ?_
  rw [opBundleIssue_of_clean third hrun hecc, reachBundle_of_no_wait hwait hcyc,
    issueBundle_ok (by rw [hk, issueOk_fetching]; exact hok)]
  obtain ⟨hpc, -, hc⟩ :=
    tickCluster_issueSlots_seq cl (fetchBundle (clOf d cl)) (setCl cl (fetching (clOf d cl) third) d)
  have he := (nextPc_keeps (fetching (clOf d cl) third) (fetchBundle (clOf d cl)).c).1
  simp only [enginesOf, Prod.mk.injEq] at he
  obtain ⟨-, -, -, -, hcyc', -⟩ := he
  rw [hk] at hpc hc
  refine ⟨⟨hpc.trans (nextPc_pc_of_no_loop hloop hend _), hc.trans (by rw [hcyc']; rfl)⟩, ?_⟩
  exact (takesEngines cl _ _).phase.trans (by rw [hk]; rfl)

/-! ## Matrix instructions -/

/-- What an instruction of the M slot alone leaves. -/
theorem answers_matrix {i : Instr} {d : Dev} {cl : Nat} {s : MSlot} {t : Task} {n : Nat} {p : List (PendItem × Nat)}
    (h : MayIssue d cl { m := s }) (hi : ∀ q, exec i q = onIsland cl q (opIssueOne cl { m := s }))
    (ht : mTask (clOf d cl) s = some (t, n, p)) : Answers i d fun e =>
      Issued cl d e ∧ SameBusy false true true cl d e ∧ (clOf e cl).busyM = n ∧
        (∀ x m, (x, m) ∈ p → (clOf d cl).cyc + 1 < m → isPending (clOf e cl) x = true) ∧
        ((clOf d cl).tasks = [] → (∀ o, ((clOf d cl).cyc + 1, o) ∈ t.todo → microEarly o = false) →
          (clOf e cl).acc = (mIssue s (clOf d cl)).acc) := by
  refine (answers_takesEngines h hi rfl).mono fun e ⟨he, hiss, hm, hv, hx, hmarks, _⟩ => ?_
  simp only [ht, Option.map_some, Option.getD_some, startedMarks] at hm hmarks
  refine ⟨hiss, ⟨(nofun), fun _ => hv, fun _ => hx⟩, hm, fun x m hxm => hmarks x m (by simpa [cTask, xTask, vTask] using hxm),
    fun hk hdue => ?_⟩
  have hf := filesOf_tickCluster_issueSlots (b := { m := s }) hk (fun o ⟨u, hu, ho⟩ => by
    simp only [startedTasks, ht, cTask, xTask, vTask, Option.map_none, Option.map_some, Option.toList_none, Option.toList_some,
      List.nil_append, List.mem_singleton] at hu
    exact hdue o (hu ▸ ho))
  rw [← he] at hf
  exact congrArg Prod.fst hf

theorem tabGet_foldl_tabSet {α : Type} (e : α) (f : Nat → α) (a : Nat) (t : Tab α) {i n : Nat} (h : i < n) :
    tabGet e ((List.range n).foldl (fun t i => tabSet (a + i) (f i) t) t) (a + i) = f i := by
  induction n with
  | zero => omega
  | succ n ih =>
    rw [List.range_succ, List.foldl_append, List.foldl_cons, List.foldl_nil]
    obtain rfl | hi := Nat.eq_or_lt_of_le (Nat.le_of_lt_succ h)
    · rw [tabGet_tabSet_same]
    · rw [tabGet_tabSet_ne _ _ _ (by omega), ih hi]

/-- A group of accumulator tiles that is set to one value holds it. -/
theorem accOf_setAccs_replicate (acc : Nat) (x : AccTile) (k : Cluster) {i n : Nat} (h : i < n) :
    accOf (setAccs acc (List.replicate n x) k) (acc + i) = x := by
  rw [accOf, setAccs, List.length_replicate]
  refine (tabGet_foldl_tabSet _ (fun i => (List.replicate n x).getD i {}) _ _ h).trans ?_
  simp [List.getD_eq_getElem?_getD, h]

theorem accOf_congr {k k' : Cluster} (h : k.acc = k'.acc) (i : Nat) : accOf k i = accOf k' i := by rw [accOf, accOf, h]

theorem mem_accItems {acc n i c : Nat} (h : i < n) : (PendItem.acc (acc + i), c) ∈ (accItems acc n).map fun x => (x, c) :=
  List.mem_map_of_mem (List.mem_map_of_mem (List.mem_range.mpr h))

theorem not_early_of_mem_readOps {wide : Bool} {t : Tile} {src t0 : Nat} {at' : Nat → Nat} {c : Nat} {o : Micro}
    (h : (c, o) ∈ readOps wide t src t0 at') : microEarly o = false := by
  obtain ⟨j, -, hj⟩ := List.mem_map.mp h
  cases hj; rfl

theorem not_early_of_mem_writeOps {wide : Bool} {t : Tile} {t0 : Nat} {at' : Nat → Nat} {c : Nat} {o : Micro}
    (h : (c, o) ∈ writeOps wide t t0 at') : microEarly o = false := by
  obtain ⟨j, -, hj⟩ := List.mem_map.mp h
  cases hj; rfl

/-- A matrix product sums into its accumulators eleven cycles after its occupancy. -/
theorem mmaTask_nothing_due {k : Cluster} {s : MSlot} {tr : Bool} {da db acc : Nat} {o : Micro}
    (h : (k.cyc + 1, o) ∈ (mmaTask k s tr da db acc).1.todo) : microEarly o = false := by
  simp only [mmaTask, List.mem_append, List.mem_singleton, Prod.mk.injEq] at h
  obtain (h | h) | ⟨h, -⟩ := h
  · exact not_early_of_mem_readOps h
  · exact not_early_of_mem_readOps h
  · omega

/-- The wide forms of ACCLOAD (09 Table INM-5). -/
theorem wide_form (form : Fin 4) : (form.val == 2 || form.val == 3) = decide (2 ≤ form.val) := by
  fin_cases form <;> rfl

/-- Settles O27: each instruction's task, the end of its occupancy and its marks are those of the M slot. -/
theorem matrixIssues : Obligations.MatrixIssues := by
  unfold Obligations.MatrixIssues
  refine fun d cl acc => ⟨fun da db h => ?mma, fun da db zero h => ?mmat, fun da db c g h hk hp => ?mmaz, fun cnt cls h hk => ?acczero,
    fun dd form h => ?accload, fun dd wide sat rnd srq h hk => ?accdrain⟩
  case mma | mmat =>
    refine (answers_matrix h (fun _ => rfl) rfl).mono fun e ⟨hiss, hsame, hbusy, hmarks, _⟩ => ⟨hiss, hsame, hbusy, fun i hi => ?_⟩
    exact hmarks _ _ (mem_accItems hi) (by omega)
  case accload =>
    refine (answers_matrix h (fun _ => rfl) rfl).mono fun e ⟨hiss, hsame, hbusy, hmarks, _⟩ => ⟨hiss, hsame, ?_, fun i hi => ?_⟩
    · rw [hbusy, wide_form]; rfl
    · exact hmarks _ _ (mem_accItems hi) (by omega)
  case mmaz =>
    refine (answers_matrix h (fun _ => rfl) rfl).mono fun e ⟨hiss, _, hbusy, hmarks, hacc⟩ => ⟨hiss, hbusy, fun i hi => ⟨?_, ?_⟩⟩
    · rw [accOf_congr (hacc hk fun o => mmaTask_nothing_due)]
      simp only [mIssue, hp]
      exact accOf_setAccs_replicate _ _ _ hi
    · exact hmarks _ _ (mem_accItems hi) (by omega)
  case acczero =>
    refine (answers_matrix h (fun _ => rfl) rfl).mono fun e ⟨hiss, _, hbusy, _, hacc⟩ => ⟨hiss, hbusy, fun i hi => ?_⟩
    rw [accOf_congr (hacc hk fun o ho => by simp at ho)]
    refine (accOf_setAccs_replicate acc _ (clOf d cl) (n := acczeroCount cnt)
      (by rwa [acczeroCount, pow2, Nat.one_shiftLeft])).trans ?_
    fin_cases cls <;> rfl
  case accdrain =>
    exact (answers_matrix h (fun _ => rfl) rfl).mono fun e ⟨hiss, _, hbusy, _, hacc⟩ =>
      ⟨hiss, hacc hk fun o => not_early_of_mem_writeOps, hbusy⟩

/-! ## Vector instructions -/

theorem busy_of_vTask (k : Cluster) {s : VSlot} (hn : s ≠ .nop) (hb : s ≠ .bad) :
    (vTask k s).map (·.2.1) = some (k.cyc + vectorCycles k s) := by
  cases s with
  | nop => exact absurd rfl hn
  | bad => exact absurd rfl hb
  | vshuf f mode sRot => exact congrArg some (Nat.add_assoc _ _ _)
  | _ => rfl

theorem vectorOf_issues {c : Instr} {cl : Nat} {v : VSlot} (h : vectorOf c = some (cl, v)) :
    (∀ s, exec c s = onIsland cl s (opIssueOne cl { v := v })) ∧ v ≠ .nop ∧ v ≠ .bad := by
  unfold vectorOf at h
  split at h <;> cases h <;> exact ⟨fun _ => rfl, nofun, nofun⟩

/-- Settles O28: the steps of the task that the V slot starts. -/
theorem vectorIssues : Obligations.VectorIssues := by
  unfold Obligations.VectorIssues
  intro d c cl v hc h
  obtain ⟨hi, hn, hb⟩ := vectorOf_issues hc
  refine (answers_takesEngines h hi rfl).mono fun e ⟨_, hiss, hm, hv, hx, hmarks, _⟩ => ⟨hiss, ⟨fun _ => hm, nofun, fun _ => hx⟩, ?_, ?_⟩
  · rw [hv, busy_of_vTask _ hn hb]; rfl
  · rintro f snap layer rfl
    refine hmarks .dig (((clOf d cl).cyc + tileSteps (dOf (clOf d cl) f.da)) + 6) ?_ (by omega)
    simp [startedMarks, vTask, cTask, xTask, mTask, vExtra, tileSteps, tileOf, vArgsOf]

/-! ## Transfer instructions -/

/-- What an instruction of the X slot alone leaves. -/
theorem answers_transfer {i : Instr} {d : Dev} {cl : Nat} {s : XSlot} {t : Task} {n : Nat} {p : List (PendItem × Nat)}
    (h : MayIssue d cl { x := s }) (hi : ∀ q, exec i q = onIsland cl q (opIssueOne cl { x := s }))
    (ht : xTask d.whl.w (winBaseOf d cl) (clOf d cl) s = some (t, n, p)) : Answers i d fun e =>
      Issued cl d e ∧ SameBusy true true false cl d e ∧ (clOf e cl).busyX = n ∧
        (∀ x m, (x, m) ∈ p → (clOf d cl).cyc + 1 < m → isPending (clOf e cl) x = true) ∧
        ((clOf d cl).tasks = [] → (∀ o, ((clOf d cl).cyc + 1, o) ∈ (dropPayload s (clOf d cl) t).todo → microEarly o = false) →
          (clOf e cl).ls = (launchIssue s (clOf d cl)).ls) := by
  refine (answers_takesEngines h hi rfl).mono fun e ⟨he, hiss, hm, hv, hx, hmarks, _⟩ => ?_
  simp only [ht, Option.map_some, Option.getD_some, startedMarks] at hx hmarks
  refine ⟨hiss, ⟨fun _ => hm, fun _ => hv, nofun⟩, hx, fun x m hxm => hmarks x m (by simpa [cTask, mTask, vTask] using hxm),
    fun hk hdue => ?_⟩
  have hf := filesOf_tickCluster_issueSlots (b := { x := s }) hk (fun o ⟨u, hu, ho⟩ => by
    simp only [startedTasks, ht, cTask, mTask, vTask, Option.map_none, Option.map_some, Option.toList_none, Option.toList_some,
      List.nil_append, List.append_nil, List.mem_singleton] at hu
    exact hdue o (hu ▸ ho))
  rw [← he] at hf
  exact congrArg Prod.snd hf

/-- A stream has a line at least (09 R327). -/
theorem streamLen_pos (wide : Bool) (d : W64) : 0 < streamLen wide d := by
  have hbytes : 0 < tileRowBytes wide d := by
    have hcols : 0 < dCols d := Nat.succ_pos _
    have hfmt : dFmt d < 8 := by
      simp only [dFmt, dField, bits, pow2, Nat.one_shiftLeft]
      exact Nat.mod_lt _ (by decide)
    unfold tileRowBytes wideRowBytes rowBytes ceilDiv
    generalize dFmt d = f at hfmt
    split
    · omega
    · interval_cases f <;> simp [fmtWidth] <;> omega
  refine Nat.mul_pos (Nat.succ_pos _) ?_
  simp only [rowLines, ceilDiv]
  omega

/-- LAUNCH writes its payloads from three cycles after its issue. -/
theorem launch_nothing_due {w : Nat} {base : Nat → Nat} {k : Cluster} {dd : Fin 16} {ls : Fin 8} {a b : Fin 32} {x : Task × Nat × List (PendItem × Nat)}
    (hx : xTask w base k (.launch dd ls a b) = some x) {o : Micro} (h : (k.cyc + 1, o) ∈ x.1.todo) : microEarly o = false := by
  simp only [xTask, Option.some.injEq] at hx
  subst hx
  obtain h | h := List.mem_append.mp h
  · exact not_early_of_mem_readOps h
  · obtain ⟨j, -, hj⟩ := List.mem_map.mp h
    have := congrArg Prod.fst hj
    dsimp only at this
    omega

/-- Settles O29: each instruction's task, the end of its occupancy and its marks are those of the X slot. -/
theorem transferIssues : Obligations.TransferIssues := by
  unfold Obligations.TransferIssues
  refine fun d cl => ⟨fun dd win o c l h => ?pload, fun dd win o c l h => ?pstore, fun sD sB imm h => ?sget,
    fun dd ls a b n h hk hls hn => ?launch, fun dd g nw h => ?land, fun dd g mask sD h => ?landany⟩
  case pload | pstore =>
    exact (answers_transfer h (fun _ => rfl) rfl).mono fun e ⟨hiss, hsame, hbusy, _⟩ => ⟨hiss, hsame, hbusy⟩
  case sget =>
    exact (answers_transfer h (fun _ => rfl) rfl).mono fun e ⟨hiss, _, hbusy, hmarks, _⟩ =>
      ⟨hiss, hbusy, hmarks _ _ (List.mem_singleton_self _) (by omega)⟩
  case launch =>
    have hfree : launchIssue (.launch dd ls a b) (clOf d cl) = { clOf d cl with ls := tabSet ls .taken (clOf d cl).ls } := by
      simp only [launchIssue, hls, if_pos hn]
    have hkeep (t : Task) : dropPayload (.launch dd ls a b) (clOf d cl) t = t := by simp only [dropPayload, hls, if_pos hn]
    refine (answers_transfer h (fun _ => rfl) rfl).mono fun e ⟨hiss, _, hbusy, _, hfile⟩ => ⟨hiss, ?_, hbusy⟩
    rw [lsOf, hfile hk fun o ho => launch_nothing_due (w := d.whl.w) (base := winBaseOf d cl) rfl (by rwa [hkeep] at ho), hfree, tabGet_tabSet_same]
  case land => exact (answers_transfer h (fun _ => rfl) rfl).mono fun e ⟨hiss, _, hbusy, _⟩ => ⟨hiss, hbusy⟩
  case landany =>
    have hpos := streamLen_pos false (dOf (clOf d cl) dd)
    obtain ⟨t, ht⟩ : ∃ t, xTask d.whl.w (winBaseOf d cl) (clOf d cl) (.landany dd g mask sD) =
        some (t, (clOf d cl).cyc + streamLen false (dOf (clOf d cl) dd),
          [(.scalar sD, (clOf d cl).cyc + streamLen false (dOf (clOf d cl) dd) + 1)]) := by
      simp only [xTask]
      split <;> exact ⟨_, rfl⟩
    exact (answers_transfer h (fun _ => rfl) ht).mono fun e ⟨hiss, _, hbusy, hmarks, _⟩ =>
      ⟨hiss, hmarks _ _ (List.mem_singleton_self _) (by omega), hbusy⟩

end Sys2Proof.Machine
end

section
/-!
What a write leaves in memory: the bytes of a number, the bits of a merge, and a write of one word of a pane line
(06 R232 to R235). The statement on SPUT (09 R349).
-/
namespace Sys2Proof.Machine

/-! ## Numbers and their bytes -/

theorem memRead_lt (m : List Host.Cell) (a n : Nat) : memRead m a n < 256 ^ n := by
  induction n generalizing a with
  | zero => simp [memRead]
  | succ n ih =>
    have hb := (memGet m a).isLt
    have := ih (a + 1)
    rw [memRead, Nat.pow_succ]
    omega

/-- Byte i of the number read at an address is the byte i above it. -/
theorem byte_of_memRead (m : List Host.Cell) (a : Nat) {i n : Nat} (h : i < n) :
    BitVec.ofNat 8 (memRead m a n / 256 ^ i) = memGet m (a + i) := by
  induction n generalizing a i with
  | zero => omega
  | succ n ih =>
    have hb := (memGet m a).isLt
    cases i with
    | zero =>
      refine BitVec.eq_of_toNat_eq ?_
      simp only [memRead, Nat.pow_zero, Nat.div_one, BitVec.toNat_ofNat, Nat.add_zero]
      omega
    | succ i =>
      have hdiv : memRead m a (n + 1) / 256 ^ (i + 1) = memRead m (a + 1) n / 256 ^ i := by
        rw [memRead, Nat.pow_succ', ← Nat.div_div_eq_div_mul]
        congr 1
        omega
      rw [hdiv, ih (a + 1) (Nat.lt_of_succ_lt_succ h)]
      congr 1
      omega

/-- Bytes that are those of a number read as that number. -/
theorem memRead_eq_of_bytes {m : List Host.Cell} {a n v : Nat} (h : ∀ i < n, memGet m (a + i) = BitVec.ofNat 8 (v / 256 ^ i)) :
    memRead m a n = v % 256 ^ n := by
  induction n generalizing a v with
  | zero => simp [memRead, Nat.mod_one]
  | succ n ih =>
    have h0 := h 0 (Nat.succ_pos n)
    have hrest : memRead m (a + 1) n = v / 256 % 256 ^ n := ih fun i hi => by
      rw [Nat.div_div_eq_div_mul, ← Nat.pow_succ', ← h (i + 1) (Nat.succ_lt_succ hi)]
      congr 1
      omega
    rw [memRead, hrest]
    simp only [Nat.add_zero, Nat.pow_zero, Nat.div_one] at h0
    rw [h0, Nat.pow_succ', Nat.mod_mul]
    simp

/-- A write of n bytes reads back as the low n bytes of its value. -/
theorem memRead_memWrite {m : List Host.Cell} (h : Memory.wf m = true) (a n v : Nat) :
    memRead (memWrite m a n v) a n = v % 256 ^ n :=
  memRead_eq_of_bytes fun i hi => memGet_memWrite_inside n m a v i h hi

/-! ## Bits of a merge -/

theorem testBit_mergeBits (old new mask i : Nat) :
    (mergeBits old new mask).testBit i = if mask.testBit i then new.testBit i else old.testBit i := by
  show (old ^^^ ((old ^^^ new) &&& mask)).testBit i = _
  rw [Nat.testBit_xor, Nat.testBit_and, Nat.testBit_xor]
  cases mask.testBit i <;> cases old.testBit i <;> cases new.testBit i <;> rfl

theorem testBit_rangeMask (lo hi i : Nat) : (rangeMask lo hi).testBit i = (decide (lo ≤ i) && decide (i < hi)) := by
  unfold rangeMask
  split
  next h =>
    obtain ⟨n, rfl⟩ := Nat.exists_eq_add_of_lt h
    have he : pow2 (lo + n + 1) - pow2 lo = (2 ^ (n + 1) - 1) <<< lo := by
      simp only [pow2, Nat.shiftLeft_eq, Nat.sub_mul, Nat.one_mul, ← Nat.pow_add]
      congr 2
      omega
    rw [he, Nat.testBit_shiftLeft, Nat.testBit_two_pow_sub_one]
    by_cases hl : lo ≤ i <;> simp [hl] <;> omega
  next h =>
    rw [Nat.zero_testBit]
    simp
    omega

theorem mergeBits_lt {old new mask n : Nat} (ho : old < 2 ^ n) (hn : new < 2 ^ n) : mergeBits old new mask < 2 ^ n := by
  refine Nat.lt_pow_two_of_testBit _ fun i hi => ?_
  rw [testBit_mergeBits, Nat.testBit_lt_two_pow (Nat.lt_of_lt_of_le hn (Nat.pow_le_pow_right (by decide) hi)),
    Nat.testBit_lt_two_pow (Nat.lt_of_lt_of_le ho (Nat.pow_le_pow_right (by decide) hi)), ite_self]

theorem byte_eq_of_testBit {x y i j : Nat} (h : ∀ k < 8, x.testBit (8 * i + k) = y.testBit (8 * j + k)) :
    BitVec.ofNat 8 (x / 256 ^ i) = BitVec.ofNat 8 (y / 256 ^ j) := by
  refine BitVec.eq_of_getLsbD_eq fun k hk => ?_
  have hp (n : Nat) : 256 ^ n = 2 ^ (8 * n) := by rw [Nat.pow_mul]
  simp only [BitVec.getLsbD_ofNat, hp, ← Nat.shiftRight_eq_div_pow, Nat.testBit_shiftRight]
  simp [hk, h k hk]

/-! ## Units of protection -/

/-- A syndrome of a 64-bit word flips a bit of the word. -/
theorem unitFlip_lt (syn : Nat) : unitFlip 8 64 syn < 2 ^ 64 := by
  unfold unitFlip
  split
  · decide
  · cases hf : (hCols 8 64).findIdx? (· == syn) with
    | none => decide
    | some i =>
      have hi : i < 64 := by
        have := (List.findIdx?_eq_some_iff_findIdx_eq.mp hf).1
        exact Nat.lt_of_lt_of_le this (List.length_take_le _ _)
      show 1 <<< i < 2 ^ 64
      rw [Nat.one_shiftLeft]
      exact Nat.pow_lt_pow_right (by decide) hi

theorem heldUnit_lt (m : Mem) (a : Nat) : heldUnit m 8 a < 2 ^ 64 :=
  Nat.xor_lt_two_pow (memRead_lt m.cells a 8) (unitFlip_lt _)

theorem heldUnit_of_clean {m : Mem} {n a : Nat} (h : tabGet 0 m.ecc a = 0) : heldUnit m n a = memRead m.cells a n := by
  rw [heldUnit, h]
  exact Nat.xor_zero _

/-- A write of a word under a mask that is not empty merges into what the word reads as once corrected (06 R235). -/
theorem memRead_writeUnit {m : Mem} (h : Memory.wf m.cells = true) {a v mask : Nat} (p : Bool) (hv : v < 2 ^ 64) (hm : mask ≠ 0) :
    memRead (writeUnit 8 a v mask p m).1.cells a 8 = mergeBits (heldUnit m 8 a) v mask := by
  rw [writeUnit, if_neg (by simpa using hm)]
  refine (memRead_memWrite h a 8 _).trans (Nat.mod_eq_of_lt ?_)
  exact mergeBits_lt (n := 64) (heldUnit_lt m a) hv

theorem writeWord_of_mask_zero {a v mask p i : Nat} {m : Mem} (h : (mask >>> (64 * i)) % pow2 64 = 0) :
    writeWord a v mask p m i = m := by
  rw [writeWord, h]
  rfl

theorem foldl_of_one {α : Type} {f : α → Nat → α} {w : Nat} {l : List Nat} (hl : l.Nodup) (hw : w ∈ l)
    (h : ∀ i ≠ w, ∀ x, f x i = x) (x : α) : l.foldl f x = f x w := by
  have hnone (l : List Nat) (hl : w ∉ l) (x : α) : l.foldl f x = x := by
    induction l with
    | nil => rfl
    | cons i l ih =>
      obtain ⟨hi, hl⟩ := List.ne_and_not_mem_of_not_mem_cons hl
      rw [List.foldl_cons, h i (Ne.symm hi), ih hl]
  induction l with
  | nil => cases hw
  | cons i l ih =>
    obtain ⟨hi, hl⟩ := List.nodup_cons.mp hl
    obtain rfl | hw := List.mem_cons.mp hw
    · exact hnone l hi _
    · rw [List.foldl_cons, h i (fun e => hi (e ▸ hw)), ih hl hw]

/-- The mask of a range within word w of a line is empty in the other words. -/
theorem rangeMask_other_word {w i lo n : Nat} (h : i ≠ w) (hn : lo + n ≤ 64) :
    (rangeMask (64 * w + lo) (64 * w + lo + n) >>> (64 * i)) % pow2 64 = 0 := by
  rw [pow2, Nat.one_shiftLeft]
  refine Nat.eq_of_testBit_eq fun k => ?_
  simp only [Nat.testBit_mod_two_pow, Nat.testBit_shiftRight, testBit_rangeMask, Nat.zero_testBit, Bool.and_eq_false_iff,
    decide_eq_false_iff_not]
  omega

theorem rangeMask_own_word {w lo n : Nat} (hn : lo + n ≤ 64) :
    (rangeMask (64 * w + lo) (64 * w + lo + n) >>> (64 * w)) % pow2 64 = rangeMask lo (lo + n) := by
  rw [pow2, Nat.one_shiftLeft]
  refine Nat.eq_of_testBit_eq fun k => ?_
  simp only [Nat.testBit_mod_two_pow, Nat.testBit_shiftRight, testBit_rangeMask, ← Bool.decide_and, decide_eq_decide]
  omega

theorem shiftLeft_own_word {w lo v n : Nat} (hv : v < 2 ^ n) (hn : lo + n ≤ 64) :
    (v <<< (64 * w + lo)) >>> (64 * w) % pow2 64 = v <<< lo := by
  have hlt : v <<< lo < 2 ^ 64 := by
    rw [Nat.shiftLeft_eq]
    calc v * 2 ^ lo < 2 ^ n * 2 ^ lo := Nat.mul_lt_mul_of_pos_right hv (Nat.two_pow_pos lo)
      _ = 2 ^ (lo + n) := by rw [← Nat.pow_add, Nat.add_comm]
      _ ≤ 2 ^ 64 := Nat.pow_le_pow_right (by decide) hn
  rw [pow2, Nat.one_shiftLeft, Nat.add_comm, Nat.shiftLeft_add, Nat.shiftLeft_shiftRight, Nat.mod_eq_of_lt hlt]

/-- A write of n bits within word w of a line writes that word alone. -/
theorem writeLine8_one_word {a w lo n v : Nat} (m : Mem) (hw : w < 8) (hn : lo + n ≤ 64) (hv : v < 2 ^ n) :
    (writeLine8 a (v <<< (64 * w + lo)) (rangeMask (64 * w + lo) (64 * w + lo + n)) 0 m).1 =
      (writeUnit 8 (a + 8 * w) (v <<< lo) (rangeMask lo (lo + n)) false m).1 := by
  rw [writeLine8_mem, foldl_of_one List.nodup_range (List.mem_range.mpr hw) fun i hi m => writeWord_of_mask_zero (rangeMask_other_word hi hn),
    writeWord, rangeMask_own_word hn, shiftLeft_own_word hv hn]
  rw [bit, Nat.zero_shiftRight]
  rfl

/-! ## A cluster with one task -/

/-- Who holds a cluster, and so which of its lines an instruction reaches, depends on the grants. -/
theorem paneOk_congr {d e : Dev} (h : d.grants = e.grants) (cl line : Nat) : paneOk d cl line = paneOk e cl line := by
  simp only [paneOk, holderOf, grantOf, h]

/-- A device whose cluster has a list of tasks. -/
def withTasks (cl : Nat) (ts : List Task) (d : Dev) : Dev := modCl cl (fun k => { k with tasks := ts }) d

theorem clOf_withTasks (cl : Nat) (ts : List Task) (d : Dev) : clOf (withTasks cl ts d) cl = { clOf d cl with tasks := ts } :=
  clOf_modCl_same _ _ _

theorem phaseOps_quiet {cl : Nat} {d : Dev} (h : Quiet (clOf d cl)) (sel : Micro → Bool) :
    phaseOps cl sel d = withTasks cl (clOf d cl).tasks d := by
  simp only [phaseOps, runTasks_of_nothing_now h, withTasks]

section
variable {cl : Nat} {d : Dev} {t : Task} {u : Micro}

/-- The one operation that the one task of a cluster has in a cycle is not of this phase. -/
theorem phaseOps_lone_other {sel : Micro → Bool} (ht : (clOf d cl).tasks = [t]) (hu : microNow (clOf d cl).cyc t = [u])
    (hs : sel u = false) : phaseOps cl sel d = withTasks cl [t] d := by
  simp [phaseOps, ht, runTasks, hu, runOps, hs, withTasks]

theorem phaseOps_lone_go {sel : Micro → Bool} (ht : (clOf d cl).tasks = [t]) (hu : microNow (clOf d cl).cyc t = [u])
    (hs : sel u = true) {t' : Task} {d' : Dev} (hgo : doMicro cl t u d = .go t' d') : phaseOps cl sel d = withTasks cl [t'] d' := by
  simp [phaseOps, ht, runTasks, hu, runOps, hs, hgo, withTasks]

/-- One access clashes with none (06 R204). -/
theorem no_clash_of_lone (ht : (clOf d cl).tasks = [t]) (hu : microNow (clOf d cl).cyc t = [u]) :
    (clOf d cl).tasks.any (taskClashes (clOf d cl).cyc (clOf d cl).tasks) = false := by
  have hb (b : Nat) : clashing (clOf d cl).cyc [t] b = false := by
    have hlen : (banksNow (clOf d cl).cyc [t]).length ≤ 1 := by
      simp only [banksNow, List.flatMap_cons, List.flatMap_nil, List.append_nil, hu]
      exact List.length_filterMap_le _ _
    exact decide_eq_false (Nat.not_lt.mpr ((List.length_filter_le _ _).trans hlen))
  simp [ht, taskClashes, hu, hb]
  cases microLine u <;> simp

theorem accessCycle_lone_write (ht : (clOf d cl).tasks = [t]) (hu : microNow (clOf d cl).cyc t = [u]) (hw : microIsWrite u = true)
    {t' : Task} {d' : Dev} (hgo : doMicro cl t u (withTasks cl [t] d) = .go t' d') : accessCycle cl d = withTasks cl [t'] d' := by
  simp only [accessCycle, no_clash_of_lone ht hu, Bool.false_eq_true, if_false]
  rw [phaseOps_lone_other ht hu (by simp [hw])]
  exact phaseOps_lone_go (by rw [clOf_withTasks]) (by rw [clOf_withTasks]; exact hu) hw hgo

theorem accessCycle_lone_read (ht : (clOf d cl).tasks = [t]) (hu : microNow (clOf d cl).cyc t = [u]) (he : microEarly u = false)
    (hw : microIsWrite u = false) {t' : Task} {d' : Dev} (hgo : doMicro cl t u d = .go t' d')
    (hu' : microNow (clOf d' cl).cyc t' = [u]) : accessCycle cl d = withTasks cl [t'] (withTasks cl [t'] d') := by
  simp only [accessCycle, no_clash_of_lone ht hu, Bool.false_eq_true, if_false]
  rw [phaseOps_lone_go ht hu (by simp [hw, he]) hgo]
  exact phaseOps_lone_other (by rw [clOf_withTasks]) (by rw [clOf_withTasks]; exact hu') hw

end

/-- A cluster that issues a transfer other than a LAUNCH alone, without tasks before. -/
theorem clOf_issueSlots_xOnly {cl : Nat} {d : Dev} {s : XSlot} {t : Task} {n : Nat} {p : List (PendItem × Nat)}
    (hk : (clOf d cl).tasks = []) (ht : xTask d.whl.w (winBaseOf d cl) (clOf d cl) s = some (t, n, p))
    (hl : ∀ a b c e, s ≠ .launch a b c e) : clOf (issueSlots cl { x := s } d) cl =
      { clOf d cl with run := .running, tasks := [t], pend := (clOf d cl).pend ++ p, busyX := n, pc := (clOf d cl).pc + 1 } := by
  have hd : dropPayload s (clOf d cl) t = t := by
    cases s with
    | launch => exact absurd rfl (hl _ _ _ _)
    | _ => rfl
  have hi (k : Cluster) : launchIssue s k = k := by
    cases s with
    | launch => exact absurd rfl (hl _ _ _ _)
    | _ => rfl
  simp only [issueSlots, clOf_setCl_same, cTask, vTask, mTask, mIssue, ht, hk, hd, hi, Option.map_some, Option.map_none,
    Option.toList_none, Option.toList_some, Option.getD_some, Option.getD_none, List.append_nil, List.nil_append]
  rfl

/-! ## SPUT -/

theorem paneWrite_cells {cl line : Nat} {d : Dev} (hf : (clOf d cl).fills = []) (v mask p : Nat) :
    (paneWrite cl line v mask p d).mem.cells = (writeLine8 (paneBase cl + 64 * line) v mask p d.mem).1.cells := by
  simp [paneWrite, hf]

/-- The cycle of a store of one word, begun without fills, writes its word and nothing else. -/
theorem tickCluster_sput {cl off v : Nat} {d : Dev} {t : Task} (ht : (clOf d cl).tasks = [t])
    (htodo : t.todo = [((clOf d cl).cyc, .sput off v)]) (hf : (clOf d cl).fills = []) (hoff : off < 0x400000)
    (hok : paneOk d cl (off / 64) = true) : (tickCluster cl d).mem.cells =
      (writeLine8 (paneBase cl + 64 * (off / 64)) (v <<< (off % 64 * 8)) (rangeMask (off % 64 * 8) (off % 64 * 8 + 32)) 0 d.mem).1.cells := by
  have hgo : doMicro cl t (.sput off v) (withTasks cl [t] d) = .go t (paneWrite cl (off / 64) (v <<< (off % 64 * 8))
      (rangeMask (off % 64 * 8) (off % 64 * 8 + 32)) 0 (withTasks cl [t] d)) := by
    have hok' : paneOk (withTasks cl [t] d) cl (off / 64) = true := hok
    simp only [doMicro, doSput, hoff, hok', and_self, if_true]
  have ha := accessCycle_lone_write ht (by simp [microNow, htodo]) rfl hgo
  have hnow : Quiet (clOf (modCl cl (cycleStart d.whl) (accessCycle cl d)) cl) := by
    refine quiet_of_no_tasks ?_
    rw [ha, clOf_modCl_same, clOf_withTasks]
    simp [cycleStart, htodo, withTasks]
  rw [tickCluster_eq, phaseOps_quiet hnow, ha]
  exact paneWrite_cells (by rw [clOf_withTasks]; exact hf) _ _ _

/-- The offset that an issued SPUT stores at is a multiple of four (09 R349). -/
theorem MayIssue.sput_aligned {d : Dev} {cl : Nat} {sS sB : Fin 32} {imm : BitVec 22} (h : MayIssue d cl { x := .sput sS sB imm }) :
    sgetOff (clOf d cl) sB imm.toNat % 4 = 0 := by
  have hok := h.checks
  simp only [issueOk, xCheck, Bool.and_eq_true, beq_iff_eq] at hok
  obtain ⟨⟨⟨⟨-, -, hx⟩, -⟩, -⟩, -⟩ := hok
  exact hx

/-- Settles O30: the store is a write of 32 bits of one word of its line, and the rest of that word is what it reads as. -/
theorem sputStores : Obligations.SputStores := by
  unfold Obligations.SputStores
  intro d cl sS sB imm off u h hwf hk hf hoff hlt hok hu
  have halign : off % 4 = 0 := hoff ▸ h.sput_aligned
  have hv : sNat (clOf d cl) sS < 2 ^ 32 := (sOf (clOf d cl) sS).isLt
  have hc := clOf_issueSlots_xOnly (cl := cl.val) (d := d) (s := .sput sS sB imm) hk rfl nofun
  have hmem : (issueSlots cl { x := .sput sS sB imm } d).mem = d.mem := by simp
  have hcells := tickCluster_sput (cl := cl.val) (d := issueSlots cl { x := .sput sS sB imm } d) (off := off)
    (v := sNat (clOf d cl) sS) (by rw [hc]) (by rw [hc, hoff]) (by rw [hc]; exact hf) hlt
    (by rwa [paneOk_congr (e := d) (by simp)])
  have hword : off % 64 * 8 = 64 * (off / 8 % 8) + off % 8 * 8 := by omega
  have hbase : paneBase cl + 64 * (off / 64) + 8 * (off / 8 % 8) = u := by omega
  rw [hmem, hword, writeLine8_one_word d.mem (Nat.mod_lt _ (by decide)) (by omega) hv, hbase] at hcells
  have hlo : sNat (clOf d cl) sS <<< (off % 8 * 8) < 2 ^ 64 := by
    rw [Nat.shiftLeft_eq]
    obtain h0 | h4 : off % 8 = 0 ∨ off % 8 = 4 := by omega
    · rw [h0]; omega
    · rw [h4]; omega
  have hmask : rangeMask (off % 8 * 8) (off % 8 * 8 + 32) ≠ 0 := by
    intro h0
    have := testBit_rangeMask (off % 8 * 8) (off % 8 * 8 + 32) (off % 8 * 8)
    simp [h0] at this
  refine answers_issues h (fun _ => rfl) rfl ⟨issued_issueSlots fun _ => rfl, ?_⟩
  generalize tickCluster cl (issueSlots cl { x := .sput sS sB imm } d) = e at hcells
  have hread : memRead e.mem.cells u 8 =
      mergeBits (heldUnit d.mem 8 u) (sNat (clOf d cl) sS <<< (off % 8 * 8)) (rangeMask (off % 8 * 8) (off % 8 * 8 + 32)) := by
    rw [hcells, memRead_writeUnit hwf _ hlo hmask]
  have hout (a : Nat) (ha : a < u ∨ u + 8 ≤ a) : byteAt e a = byteAt d a := by
    rw [byteAt, byteAt, hcells, writeUnit_outside hwf ha]
  refine ⟨fun i hi => ?stored, hread, hout, fun hecc a ha => ?rest⟩
  case stored =>
    have ha : paneBase cl + off + i = u + (off % 8 + i) := by omega
    rw [byteAt, ha, ← byte_of_memRead e.mem.cells u (i := off % 8 + i) (n := 8) (by omega), hread]
    refine byte_eq_of_testBit fun k hk => ?_
    rw [testBit_mergeBits, testBit_rangeMask, Nat.testBit_shiftLeft, if_pos (by simp; omega)]
    simp only [show 8 * (off % 8 + i) + k ≥ off % 8 * 8 by omega, decide_true, Bool.true_and]
    congr 1
    omega
  case rest =>
    by_cases hin : a < u ∨ u + 8 ≤ a
    · exact hout a hin
    · obtain ⟨j, rfl⟩ := Nat.exists_eq_add_of_le (show u ≤ a by omega)
      rw [byteAt, byteAt, ← byte_of_memRead e.mem.cells u (n := 8) (by omega), ← byte_of_memRead d.mem.cells u (n := 8) (by omega), hread,
        heldUnit_of_clean hecc]
      refine byte_eq_of_testBit fun k hk => ?_
      rw [testBit_mergeBits, testBit_rangeMask, if_neg (by simp; omega)]

end Sys2Proof.Machine
end

section
/-!
The statements on SGET (09 R349; 07 R250) and on bundles that fail an issue check (07 R252; 21 R711).
-/
namespace Sys2Proof.Machine

/-! ## SGET -/

/-- Bits of a number that are whole bytes of memory. -/
theorem bits_of_memRead (m : List Host.Cell) (a : Nat) {i n k : Nat} (h : i + k ≤ n) (hk : 0 < k) :
    bits (memRead m a n) (8 * i + (8 * k - 1)) (8 * i) = memRead m (a + i) k := by
  have hbits : bits (memRead m a n) (8 * i + (8 * k - 1)) (8 * i) = memRead m a n / 256 ^ i % 256 ^ k := by
    have hp (n : Nat) : 256 ^ n = 2 ^ (8 * n) := by rw [Nat.pow_mul]
    simp only [bits, pow2, Nat.one_shiftLeft, Nat.shiftRight_eq_div_pow, hp]
    congr 2
    omega
  rw [hbits]
  refine (memRead_eq_of_bytes fun j hj => ?_).symm
  rw [Nat.add_assoc, ← byte_of_memRead m a (i := i + j) (n := n) (by omega), Nat.div_div_eq_div_mul, ← Nat.pow_add]

theorem lineRead_clean (data : Line) : lineRead data (fun _ => 0) =
    { data := data, poison := 0, corr := 0, uncorr := 0, stored := 0, firstBad := 8 } := by
  rfl

/-- A pane line that no fill writes and that has no error reads as memory holds it (06 R206, R232). -/
theorem panePeek_clean {d : Dev} {cl line : Nat} (hf : (clOf d cl).fills = []) (he : d.mem.ecc = []) : panePeek d cl line =
    { data := BitVec.ofNat 512 (memRead d.mem.cells (paneBase cl + 64 * line) 64), poison := 0, corr := 0, uncorr := 0, stored := 0,
      firstBad := 8 } := by
  rw [panePeek, hf]
  simp only [List.find?_nil, readLine8, he, tabGet_nil]
  exact lineRead_clean _

/-- A task that has one operation left, in a cycle to come. -/
theorem quiet_of_lone {k : Cluster} {t : Task} {c : Nat} {u : Micro} (h : k.tasks = [t]) (ht : t.todo = [(c, u)]) (hc : k.cyc < c) :
    Quiet k := by
  simp [Quiet, h, microNow, ht, hc.ne']

theorem cycleStart_lone {k : Cluster} {t : Task} {c : Nat} {u : Micro} (h : k.tasks = [t]) (ht : t.todo = [(c, u)]) (hc : k.cyc < c)
    (w : Wheel) : (cycleStart w k).tasks = [t] := by
  obtain ⟨⟩ := t
  subst ht
  simp [cycleStart, h, hc]

theorem tickCluster_lone {cl : Nat} {d : Dev} {t : Task} {c : Nat} {u : Micro} (h : (clOf d cl).tasks = [t]) (ht : t.todo = [(c, u)])
    (hc : (clOf d cl).cyc + 1 < c) : clOf (tickCluster cl d) cl = cycleStart d.whl (clOf d cl) :=
  tickCluster_quiet (quiet_of_lone h ht (by omega)) (quiet_of_lone (cycleStart_lone h ht (by omega) _) ht hc)

/-- SGET as it issues: it reads its word at once and writes its scalar in cycle c. -/
def sgetTask (sD sB : Fin 32) (imm : BitVec 22) (off now c : Nat) : Task :=
  { op := .x (.sget sD sB imm), tiles := [], todo := [(now, .sget off), (c, .done)] }

/-- The load of a word v that has been read: it is written to its scalar in cycle c. -/
def loadTask (sD sB : Fin 32) (imm : BitVec 22) (v c : Nat) : Task :=
  { op := .x (.sget sD sB imm), tiles := [], s1 := v, todo := [(c, .done)] }

section
variable {cl : Nat} {d : Dev} {sD sB : Fin 32} {imm : BitVec 22}

/-- The word that a load of an aligned offset reads. -/
theorem doSget_clean {t : Task} {off : Nat} (hf : (clOf d cl).fills = []) (he : d.mem.ecc = []) (hoff : off < 0x400000) (hal : off % 4 = 0)
    (hok : paneOk d cl (off / 64) = true) : ∃ d', clOf d' cl = clOf d cl ∧
      doMicro cl t (.sget off) d = .go { t with s1 := memRead d.mem.cells (paneBase cl + off) 4 } d' := by
  have hword : bits (BitVec.ofNat 512 (memRead d.mem.cells (paneBase cl + 64 * (off / 64)) 64)).toNat (off % 64 * 8 + 31) (off % 64 * 8) =
      memRead d.mem.cells (paneBase cl + off) 4 := by
    have hline : (256 : Nat) ^ 64 = 2 ^ 512 := (Nat.pow_mul 2 8 64).symm
    rw [BitVec.toNat_ofNat, Nat.mod_eq_of_lt (hline ▸ memRead_lt _ _ 64), Nat.mul_comm (off % 64)]
    exact (bits_of_memRead d.mem.cells _ (i := off % 64) (k := 4) (by omega) (by decide)).trans (by congr 1; omega)
  refine ⟨countPane cl (paneBase cl + off / 64 * 64) (panePeek d cl (off / 64)) d, clOf_countPane .., ?_⟩
  simp only [doMicro, doSget, hoff, hok, and_self, if_true, panePeek_clean hf he, hword]
  simp [bit]

/-- In the cycle of its issue SGET reads its word. -/
theorem tickCluster_sget {off c : Nat} (ht : (clOf d cl).tasks = [sgetTask sD sB imm off (clOf d cl).cyc c])
    (hc : (clOf d cl).cyc + 1 < c) (hf : (clOf d cl).fills = []) (he : d.mem.ecc = []) (hoff : off < 0x400000) (hal : off % 4 = 0)
    (hok : paneOk d cl (off / 64) = true) : clOf (tickCluster cl d) cl =
      cycleStart d.whl { clOf d cl with tasks := [loadTask sD sB imm (memRead d.mem.cells (paneBase cl + off) 4) c] } := by
  have hnow : microNow (clOf d cl).cyc (sgetTask sD sB imm off (clOf d cl).cyc c) = [.sget off] := by
    simp [sgetTask, microNow, show c ≠ (clOf d cl).cyc by omega]
  obtain ⟨d', hd', hgo⟩ := doSget_clean (t := sgetTask sD sB imm off (clOf d cl).cyc c) hf he hoff hal hok
  have ha := accessCycle_lone_read ht hnow rfl rfl hgo (by rw [hd']; exact hnow)
  have hstart : clOf (modCl cl (cycleStart d.whl) (accessCycle cl d)) cl =
      cycleStart d.whl { clOf d cl with tasks := [loadTask sD sB imm (memRead d.mem.cells (paneBase cl + off) 4) c] } := by
    rw [ha, clOf_modCl_same, clOf_withTasks, clOf_withTasks, hd']
    simp [cycleStart, sgetTask, loadTask, show (clOf d cl).cyc < c by omega]
  rw [tickCluster_eq, clOf_phaseOps_quiet, hstart]
  rw [hstart]
  exact quiet_of_lone (cycleStart_lone rfl rfl (by show (clOf d cl).cyc < c; omega) _) rfl hc

/-- A cluster whose one task is a load that is written to its scalar in cycle c. -/
structure AwaitsLoad (sD sB : Fin 32) (imm : BitVec 22) (v c : Nat) (k : Cluster) : Prop where
  tasks : k.tasks = [loadTask sD sB imm v c]
  pend : k.pend = [(.scalar sD, c)]

variable {v c : Nat}

theorem AwaitsLoad.next {k : Cluster} (h : AwaitsLoad sD sB imm v c k) (hc : k.cyc + 1 < c) (w : Wheel) :
    AwaitsLoad sD sB imm v c (cycleStart w k) where
  tasks := cycleStart_lone h.tasks rfl (by omega) w
  pend := by simp [cycleStart, h.pend, hc]

/-- Before it is due, a load lets the cycles pass. -/
theorem AwaitsLoad.tick (h : AwaitsLoad sD sB imm v c (clOf d cl)) (hc : (clOf d cl).cyc + 1 < c) :
    clOf (tickCluster cl d) cl = cycleStart d.whl (clOf d cl) ∧ AwaitsLoad sD sB imm v c (clOf (tickCluster cl d) cl) := by
  have ht := tickCluster_lone h.tasks rfl hc
  exact ⟨ht, ht ▸ h.next hc _⟩

/-- In the last cycle of its latency SGET writes its scalar, and the mark clears. -/
theorem AwaitsLoad.written (h : AwaitsLoad sD sB imm v c (clOf d cl)) (hc : (clOf d cl).cyc + 1 = c) :
    sOf (clOf (tickCluster cl d) cl) sD = BitVec.ofNat 32 v ∧ isPending (clOf (tickCluster cl d) cl) (.scalar sD) = false := by
  obtain ⟨ht, hp⟩ := h
  subst hc
  constructor
  · have hk : clOf (modCl cl (cycleStart d.whl) (accessCycle cl d)) cl = cycleStart d.whl (clOf d cl) := by
      rw [clOf_modCl_same, clOf_accessCycle_quiet (quiet_of_lone ht rfl (Nat.lt_succ_self _))]
    rw [tickCluster_eq, phaseOps_lone_go (t := loadTask sD sB imm v ((clOf d cl).cyc + 1)) (u := .done)
      (by rw [hk]; exact cycleStart_lone ht rfl (Nat.lt_succ_self _) _) (by rw [hk]; simp [microNow, loadTask, cycleStart]) rfl rfl,
      clOf_withTasks]
    simp [doDone, loadTask, sOf]
  · obtain ⟨-, -, -, hpend, -⟩ := tickCluster_engines cl d
    simp [isPending, hpend, hp]

/-- Two cycles before a load is due, PENDING_WRITE_EFFECT at a halted cluster lets them pass. -/
theorem AwaitsLoad.pendingWriteEffect (h : AwaitsLoad sD sB imm v c (clOf d cl)) (hrun : (clOf d cl).run = .halted)
    (hc : (clOf d cl).cyc + 2 = c) : opPendingWriteEffect cl d = tickCluster cl (tickCluster cl d) := by
  have hn : nextDue (clOf d cl) - (clOf d cl).cyc = 2 := by rw [nextDue, h.pend, ← hc]; simp
  simp only [opPendingWriteEffect, hrun, hn]
  rfl

end

/-- The cluster after the cycle in which SGET has issued. -/
theorem clOf_issued_sget {d : Dev} {cl : Nat} {sD sB : Fin 32} {imm : BitVec 22} (h : MayIssue d cl { x := .sget sD sB imm })
    (hk : (clOf d cl).tasks = []) (hf : (clOf d cl).fills = []) (he : d.mem.ecc = [])
    (hoff : sgetOff (clOf d cl) sB imm.toNat < 0x400000) (hok : paneOk d cl (sgetOff (clOf d cl) sB imm.toNat / 64) = true) :
    clOf (tickCluster cl (issueSlots cl { x := .sget sD sB imm } d)) cl = cycleStart d.whl { clOf d cl with
      run := .running
      tasks := [loadTask sD sB imm (memRead d.mem.cells (paneBase cl + sgetOff (clOf d cl) sB imm.toNat) 4) ((clOf d cl).cyc + 4)]
      pend := (clOf d cl).pend ++ [(.scalar sD, (clOf d cl).cyc + 4)], busyX := (clOf d cl).cyc + 1, pc := (clOf d cl).pc + 1 } := by
  have hal : sgetOff (clOf d cl) sB imm.toNat % 4 = 0 := by
    have hx := h.checks
    simp only [issueOk, xCheck, Bool.and_eq_true, beq_iff_eq] at hx
    obtain ⟨⟨⟨⟨-, -, hx⟩, -⟩, -⟩, -⟩ := hx
    exact hx
  have hi := clOf_issueSlots_xOnly (cl := cl) (d := d) (s := .sget sD sB imm) hk rfl nofun
  have hmem : (issueSlots cl { x := .sget sD sB imm } d).mem = d.mem := by simp
  have hcyc : (clOf (issueSlots cl { x := .sget sD sB imm } d) cl).cyc = (clOf d cl).cyc := by rw [hi]
  rw [tickCluster_sget (off := sgetOff (clOf d cl) sB imm.toNat) (c := (clOf d cl).cyc + 4) (by rw [hi]; rfl) (by omega)
    (by rw [hi]; exact hf) (by rw [hmem, he]) hoff hal (by rwa [paneOk_congr (e := d) (by simp)]), hi, hmem,
    (issueSlots_frame cl _ d).2.1]

/-- Settles O31: the word is read in the cycle of the issue, and the cycles up to its latency only pass. -/
theorem sgetLoads : Obligations.SgetLoads := by
  unfold Obligations.SgetLoads
  intro d cl sD sB imm h hk hp hf he hpc hloop hoff hok
  have h1 := clOf_issued_sget h hk hf he hoff hok
  have hw1 : AwaitsLoad sD sB imm (memRead d.mem.cells (paneBase cl + sgetOff (clOf d cl) sB imm.toNat) 4) ((clOf d cl).cyc + 4)
      (clOf (tickCluster cl (issueSlots cl { x := .sget sD sB imm } d)) cl) := by
    rw [h1]
    exact AwaitsLoad.next ⟨rfl, by rw [hp]; rfl⟩ (by show (clOf d cl).cyc + 1 < (clOf d cl).cyc + 4; omega) _
  have hc1 : (clOf (tickCluster cl (issueSlots cl { x := .sget sD sB imm } d)) cl).cyc = (clOf d cl).cyc + 1 := by rw [h1]; rfl
  refine answers_issues h (fun _ => rfl) rfl ⟨?_, ?_⟩
  · simp [isPending, hw1.pend, hc1]
  obtain ⟨hlost, hisl, -, -⟩ := h
  have hhalt : MayIssue (tickCluster cl (issueSlots cl { x := .sget sD sB imm } d)) cl { c := .halt } :=
    mayIssue_halt (by simpa using hlost) (by rwa [islandRuns_congr (e := d) (by simp)]) (by rw [h1]; rfl) (by rw [h1]; exact hpc)
      (by rw [h1]; exact hloop)
  generalize tickCluster cl (issueSlots cl { x := .sget sD sB imm } d) = e1 at hw1 hc1 hhalt
  have hi2 := clOf_issueSlots_halt cl e1
  have hw2 : AwaitsLoad sD sB imm (memRead d.mem.cells (paneBase cl + sgetOff (clOf d cl) sB imm.toNat) 4) ((clOf d cl).cyc + 4)
      (clOf (issueSlots cl { c := .halt } e1) cl) := by
    rw [hi2]; exact ⟨hw1.tasks, hw1.pend⟩
  have hc2 : (clOf (issueSlots cl { c := .halt } e1) cl).cyc = (clOf d cl).cyc + 1 := by rw [hi2]; exact hc1
  obtain ⟨ht2, hw2⟩ := hw2.tick (by omega)
  refine answers_issues hhalt (fun _ => rfl) rfl ?_
  obtain ⟨hlost1, hisl1, -, -⟩ := hhalt
  have hrun2 : (clOf (tickCluster cl (issueSlots cl { c := .halt } e1)) cl).run = .halted := by rw [ht2, hi2]; rfl
  have hc2 : (clOf (tickCluster cl (issueSlots cl { c := .halt } e1)) cl).cyc = (clOf d cl).cyc + 2 := by rw [tickCluster_cyc, hc2]
  have hlost2 : (tickCluster cl (issueSlots cl { c := .halt } e1)).boot.lost = false := by simpa using hlost1
  have hisl2 : islandRuns cl (tickCluster cl (issueSlots cl { c := .halt } e1)) = true :=
    (islandRuns_congr (e := e1) (by simp) cl).trans hisl1
  refine answers_onIsland hlost2 hisl2 (fun _ => rfl) ?_
  rw [hw2.pendingWriteEffect hrun2 (by omega)]
  generalize tickCluster cl (issueSlots cl { c := .halt } e1) = e2 at hw2 hc2
  obtain ⟨-, hw3⟩ := hw2.tick (by omega)
  obtain ⟨hs, hpend⟩ := hw3.written (by rw [tickCluster_cyc]; omega)
  refine ⟨by rw [tickCluster_cyc, tickCluster_cyc, hc2], hpend, ?_⟩
  rw [sNat, hs, BitVec.toNat_ofNat]
  exact Nat.mod_eq_of_lt (memRead_lt _ _ 4)

/-! ## Bundles that fail a check (07 R252; 21 R711) -/

/-- A bundle whose C slot fails its check does not issue. -/
theorem reachBundle_of_bad_cSlot {d : Dev} {cl : Nat} {b : Bundle} (h : cCheck d.whl.w (clOf d cl) b.c = false) :
    reachBundle cl b d = tickCluster cl (clusterFault cl fcIllegalBundle d) := by
  have hissue : issueBundle cl b d = tickCluster cl (clusterFault cl fcIllegalBundle d) := by
    rw [issueBundle, if_neg (by simp [issueOk, h])]
  unfold reachBundle
  split
  next hb => rw [if_neg (by simp [h])]
  next hb => rw [if_neg (by simp [h])]
  next => exact hissue

/-- A cycle in which a cluster has no task changes nothing but that cluster. -/
theorem tickCluster_no_tasks_rest {cl : Nat} {d : Dev} (h : (clOf d cl).tasks = []) :
    (tickCluster cl d).mem = d.mem ∧ (tickCluster cl d).ten = d.ten := by
  have hq := quiet_of_no_tasks h
  have hreads := clOf_phaseOps_quiet hq fun o => !microEarly o && !microIsWrite o
  have ha : accessCycle cl d = withTasks cl [] (withTasks cl [] d) := by
    simp only [accessCycle, h, List.any_nil, Bool.false_eq_true, if_false]
    rw [phaseOps_quiet (by rwa [hreads]), hreads, phaseOps_quiet hq, h]
  have hn : Quiet (clOf (modCl cl (cycleStart d.whl) (accessCycle cl d)) cl) := by
    refine quiet_of_no_tasks ?_
    rw [clOf_modCl_same, clOf_accessCycle_quiet hq]
    simp [cycleStart, h]
  rw [tickCluster_eq, phaseOps_quiet hn, ha]
  exact ⟨rfl, rfl⟩

theorem clusterFault_ten {cl code t : Nat} {d : Dev} (h : holderOf d cl = some t) :
    tenOf (clusterFault cl code d) t = tenOf (raiseFault t code d) t := by
  have hh : holderOf (modCl cl (fun k => { k with run := .faulted }) d) cl = some t := h
  rw [clusterFault, faultHolder, hh, tenOf_raiseFault_same, tenOf_raiseFault_same]
  rfl

/-- Settles O26: the cluster of the failed bundle faults, and the cycle ends with nothing else done. -/
theorem illegalBundles : Obligations.IllegalBundles := by
  unfold Obligations.IllegalBundles
  intro d cl third t hl hisl hrun hecc hbad hk hholder hstop
  have hd1 : clOf (setCl cl (fetching (clOf d cl) third) d) cl = fetching (clOf d cl) third := clOf_setCl_same _ _ _
  have hc : clOf (clusterFault cl fcIllegalBundle (setCl cl (fetching (clOf d cl) third) d)) cl =
      { fetching (clOf d cl) third with run := .faulted } := by rw [clOf_clusterFault, hd1]
  have hkc : (clOf (clusterFault cl fcIllegalBundle (setCl cl (fetching (clOf d cl) third) d)) cl).tasks = [] := by
    rw [hc]; exact hk
  have he := tickCluster_no_tasks hkc
  obtain ⟨hmem, hten⟩ := tickCluster_no_tasks_rest hkc
  rw [hc] at he
  refine answers_onIsland hl hisl (fun _ => rfl) ?_
  rw [opBundleIssue_of_clean third hrun hecc, reachBundle_of_bad_cSlot (by rw [hd1]; exact hbad)]
  have hlost : (tickCluster cl (clusterFault cl fcIllegalBundle (setCl cl (fetching (clOf d cl) third) d))).boot.lost = false := by
    simpa using hl
  generalize tickCluster cl (clusterFault cl fcIllegalBundle (setCl cl (fetching (clOf d cl) third) d)) = e at he hmem hten hlost
  have hfault : (tenOf e t).fault = fcIllegalBundle ∧ (tenOf e t).stopDue = true := by
    rw [tenOf_congr hten, clusterFault_ten (by exact hholder)]
    exact raiseFault_first _ _ _ hstop
  refine ⟨by rw [he]; rfl, by rw [he]; rfl, hfault.1, hfault.2, fun a => ?_, by rw [he]; rfl, by rw [he]; rfl, by rw [he]; rfl,
    by rw [he]; rfl, by rw [he]; rfl, fun later => ?_⟩
  · rw [byteAt, byteAt, hmem, clusterFault_mem]; rfl
  · exact answers_bundleIssue_of_not_running hlost (by rw [he]; exact nofun) later rfl

end Sys2Proof.Machine
end

section
/-!
What messages and cause bits leave of the host's view: rings, cores, commands and reads (19 R647, R652, R654). The statements on
doorbells and on the states of ring pairs (13 R449 to R456; 23 R774, R775).
-/
namespace Sys2Proof.Machine

/-! ## Requests and messages leave the tables of the host interface -/

@[simp] theorem issueOut_tables (fn : Nat) (o : Out) (d : Dev) : (issueOut fn o d).host.rings = d.host.rings ∧
    (issueOut fn o d).host.cores = d.host.cores ∧ (issueOut fn o d).host.nextId = d.host.nextId ∧
    (issueOut fn o d).host.dcause = d.host.dcause ∧ (issueOut fn o d).host.func = d.host.func := by
  unfold issueOut; split <;> exact ⟨rfl, rfl, rfl, rfl, rfl⟩

@[simp] theorem sendMsix_tables (fn v : Nat) (d : Dev) : (sendMsix fn v d).host.rings = d.host.rings ∧
    (sendMsix fn v d).host.cores = d.host.cores ∧ (sendMsix fn v d).host.nextId = d.host.nextId ∧
    (sendMsix fn v d).host.dcause = d.host.dcause ∧ (sendMsix fn v d).host.fetches = d.host.fetches := by
  unfold sendMsix; dsimp only; (repeat' split) <;> simp [modFunc]

@[simp] theorem raiseCause_tables (t b : Nat) (d : Dev) : (raiseCause t b d).host.rings = d.host.rings ∧
    (raiseCause t b d).host.cores = d.host.cores ∧ (raiseCause t b d).host.nextId = d.host.nextId ∧
    (raiseCause t b d).host.dcause = d.host.dcause ∧ (raiseCause t b d).host.fetches = d.host.fetches := by
  unfold raiseCause; dsimp only; split <;> simp

@[simp] theorem raiseDev_tables (b : Nat) (d : Dev) : (raiseDev b d).host.rings = d.host.rings ∧
    (raiseDev b d).host.cores = d.host.cores ∧ (raiseDev b d).host.nextId = d.host.nextId ∧
    (raiseDev b d).host.dcause = d.host.dcause ||| BitVec.ofNat 32 (pow2 b) ∧ (raiseDev b d).host.fetches = d.host.fetches := by
  unfold raiseDev; dsimp only; split <;> simp

theorem ringOf_of_rings {d e : Dev} (h : d.host.rings = e.host.rings) (r : Nat) : ringOf d r = ringOf e r := by
  rw [ringOf, ringOf, h]

theorem coreOf_of_cores {d e : Dev} (h : d.host.cores = e.host.cores) (n : Nat) : coreOf d n = coreOf e n := by
  rw [coreOf, coreOf, h]

/-! ## Doorbells (13 R454 to R456) -/

@[simp] theorem ringOf_dropPacket (r : Nat) (d : Dev) (k : Nat) : ringOf (dropPacket r d) k = ringOf d k := rfl

/-- A ring that stops, and no other. -/
theorem ringOf_stopRing (r cause : Nat) (d : Dev) (k : Nat) : ringOf (stopRing r cause d) k =
    if k = r then { ringOf d r with st := .stopped, cause := cause, closing := false, packet := none, fetching := false }
    else ringOf d k := by
  have h : ringOf (stopRing r cause d) k = ringOf (modRing r (fun g => { g with
      st := .stopped, cause := cause, closing := false, packet := none, fetching := false }) (dropPacket r d)) k := by
    refine ringOf_of_rings ?_ k
    unfold stopRing; dsimp only
    split <;> simp
  rw [h]
  by_cases hk : k = r
  · subst hk; simp
  · simp [hk]

/-- A doorbell of an owned ring: its value is stored, and one past the entries of an ENABLED pair stops it with a cause. -/
def RingAfter (d e : Dev) (r cause size v : Nat) (g : Ring) : Prop :=
  ringOf e r = (if (ringOf d r).st = .enabled ∧ size ≤ v then
    { g with st := .stopped, cause := cause, closing := false, packet := none, fetching := false } else g) ∧
    ∀ x, x ≠ r → ringOf e x = ringOf d x

theorem ringAfter_doorbell {d : Dev} {r cause size v : Nat} (f : Ring → Ring) : RingAfter d
    (if (ringOf d r).st = .enabled ∧ size ≤ v then stopRing r cause (modRing r f d) else modRing r f d) r cause size v (f (ringOf d r)) := by
  unfold RingAfter
  split
  · exact ⟨by rw [ringOf_stopRing, if_pos rfl, ringOf_modRing_same], fun x hx => by rw [ringOf_stopRing, if_neg hx, ringOf_modRing_ne _ _ hx]⟩
  · exact ⟨ringOf_modRing_same .., fun x hx => ringOf_modRing_ne _ _ hx⟩

/-- Doorbell pages lie at multiples of 0x1000, and each of the two doorbells at its offset in its page. -/
theorem writePage_doorbells (fn r v : Nat) (d : Dev) : writePage fn (0x1000 * r) v d = opDoorbellCmdTail fn r v d ∧
    writePage fn (0x1000 * r + 4) v d = opDoorbellStsHead fn r v d := by
  have h0 : 0x1000 * r % 0x1000 = 0 := by omega
  have h4 : (0x1000 * r + 4) % 0x1000 = 4 := by omega
  have hr0 : 0x1000 * r / 0x1000 = r := by omega
  have hr4 : (0x1000 * r + 4) / 0x1000 = r := by omega
  constructor
  · simp only [writePage, h0, hr0]
  · simp only [writePage, h4, hr4]

theorem pow2_eq (n : Nat) : pow2 n = 2 ^ n := Nat.one_shiftLeft n

/-- What the statement asks of a doorbell follows from the ring it leaves. -/
theorem RingAfter.stops {d e : Dev} {r cause size v : Nat} {g : Ring} (h : RingAfter d e r cause size v g) (hst : g.st = (ringOf d r).st) :
    ((ringOf d r).st = .enabled → size ≤ v → (ringOf e r).st = .stopped ∧ (ringOf e r).cause = cause) ∧
      (v < size → (ringOf e r).st = (ringOf d r).st) ∧ ∀ x, x ≠ r → ringOf e x = ringOf d x := by
  obtain ⟨hr, hother⟩ := h
  refine ⟨fun he hv => ?_, fun hv => ?_, hother⟩
  · rw [hr, if_pos ⟨he, hv⟩]; exact ⟨rfl, rfl⟩
  · rw [hr, if_neg (fun hc => Nat.not_le.mpr hv hc.2), hst]

/-- Settles O35: either doorbell writes its ring's field, and a value out of range stops an ENABLED pair. -/
theorem doorbells : Obligations.Doorbells := by
  unfold Obligations.Doorbells
  intro d fn r v hl hh ho
  obtain ⟨hcmd, hsts⟩ := writePage_doorbells fn r v.toNat d
  refine ⟨answers_onHost hl hh (fun _ => rfl) ?tail, answers_onHost hl hh (fun _ => rfl) ?head⟩
  case tail =>
    have ha := ringAfter_doorbell (d := d) (r := r) (cause := 4) (size := 2 ^ (ringOf d r).cmdLog) (v := v.toNat)
      (fun g => { g with tail := v.toNat })
    rw [hcmd, opDoorbellCmdTail, if_pos ho, pow2_eq]
    dsimp only
    refine ⟨?_, ?_, ha.stops rfl⟩ <;> rw [ha.1] <;> split <;> rfl
  case head =>
    have ha := ringAfter_doorbell (d := d) (r := r) (cause := 5) (size := 2 ^ (ringOf d r).stsLog) (v := v.toNat) (fun g => { g with
      stsHead := v.toNat,
      unreleased := g.unreleased - (v.toNat + pow2 g.stsLog - g.stsHead % pow2 g.stsLog) % pow2 g.stsLog })
    rw [hsts, opDoorbellStsHead, if_pos ho]
    dsimp only
    rw [pow2_eq (ringOf d r).stsLog]
    refine ⟨?_, ?_, ha.stops rfl⟩ <;> rw [ha.1] <;> split <;> rfl

/-! ## Ring pairs enable, disable and close (13 R449 to R452) -/

theorem function_of_ringOwned {d : Dev} {fn r : Nat} (h : ringOwned d fn r = true) : (ringOf d r).function = fn := by
  simp only [ringOwned, Bool.and_eq_true, beq_iff_eq] at h
  exact h.2

/-- Settles O36, one command of a ring pair at a time. -/
theorem ringStates : Obligations.RingStates := by
  unfold Obligations.RingStates
  intro d fn r v hu
  refine ⟨fun hh ho => ⟨fun hst hcb hsb hc4 hc16 hs4 hs16 hv => ?enabled, fun hst hcb => ?refused, fun hst hout => ?disabled,
    fun hst hout => ?closing⟩, fun hcl hout => answers_onControl hu (fun _ => rfl) ?closed⟩
  case enabled =>
    have hcause : enableCause { ringOf d r with vector := v } = 0 := by
      simp only [enableCause, function_of_ringOwned ho]
      rw [if_neg (by omega), if_neg (by omega), if_neg (by omega)]
    refine answers_onHost hu.1 hh (fun _ => rfl) ?_
    rw [opRingEnable, if_pos ⟨ho, hst⟩]
    dsimp only
    rw [if_pos hcause, ringOf_modRing_same]
    exact ⟨rfl, rfl, rfl, rfl, rfl, rfl⟩
  case refused =>
    have hcause : enableCause { ringOf d r with vector := v } = 1 := by
      simp only [enableCause]
      rw [if_pos (.inl hcb)]
    refine answers_onHost hu.1 hh (fun _ => rfl) ?_
    rw [opRingEnable, if_pos ⟨ho, hst⟩]
    dsimp only
    rw [hcause, if_neg Nat.one_ne_zero, ringOf_modRing_same]
    exact ⟨hst, rfl⟩
  case disabled | closing =>
    refine answers_onHost hu.1 hh (fun _ => rfl) ?_
    simp [opRingDisable, ho, hst, hout]
  case closed =>
    rw [opRingCloseDone, if_pos ⟨hcl, hout⟩, ringOf_modRing_same]
    exact ⟨rfl, rfl, rfl⟩

end Sys2Proof.Machine
end

section
/-!
The statement on the way of a command from its ring entry to its reply (13 R446, R458 to R470).
-/
namespace Sys2Proof.Machine

/-! ## Commands of a ring -/

@[simp] theorem tookTurn_host (r : Nat) (d : Dev) : (tookTurn r d).host.nextId = d.host.nextId ∧
    (tookTurn r d).host.posted = d.host.posted ∧ (tookTurn r d).host.func = d.host.func ∧
    (tookTurn r d).host.fetches = d.host.fetches := by
  unfold tookTurn; dsimp only; split <;> exact ⟨rfl, rfl, rfl, rfl⟩

theorem ringOf_modHost {f : HostIf → HostIf} (hf : ∀ h, (f h).rings = h.rings) (d : Dev) (r : Nat) :
    ringOf (modHost f d) r = ringOf d r := ringOf_of_rings (hf _) r

/-- From d to e the rings stayed, and of the commands only those with an id changed, which keep their ring and their packet. -/
def SettlesOnly (id : Nat) (d e : Dev) : Prop :=
  e.host.rings = d.host.rings ∧ ∃ f : Cmd → Cmd, (∀ c, (f c).id = c.id ∧ (f c).ring = c.ring ∧ (f c).pkt = c.pkt) ∧
    e.host.cmds = d.host.cmds.map fun c => if c.id = id then f c else c

theorem settlesOnly_modCmd {f : Cmd → Cmd} (hf : ∀ c, (f c).id = c.id ∧ (f c).ring = c.ring ∧ (f c).pkt = c.pkt) (id : Nat)
    (d : Dev) : SettlesOnly id d (modCmd id f d) := ⟨rfl, f, hf, rfl⟩

theorem settlesOnly_finish (id st r0 r1 : Nat) (d : Dev) : SettlesOnly id d (finish id st r0 r1 d) :=
  settlesOnly_modCmd (fun _ => by exact ⟨rfl, rfl, rfl⟩) id d

theorem settlesOnly_startChecks (c : Cmd) (d : Dev) : SettlesOnly c.id d (startChecks c d) := by
  unfold startChecks; dsimp only
  split
  · exact settlesOnly_finish ..
  split
  · exact settlesOnly_finish ..
  split
  · exact settlesOnly_finish ..
  · exact settlesOnly_modCmd (fun _ => by exact ⟨rfl, rfl, rfl⟩) _ _

theorem SettlesOnly.issueFetch {id : Nat} {d e : Dev} (h : SettlesOnly id d e) (why : FetchFor) (fn addr len : Nat) :
    SettlesOnly id d (issueFetch why fn addr len e) := by
  obtain ⟨hr, f, hf, hc⟩ := h
  exact ⟨by simpa [Machine.issueFetch] using hr, f, hf, by simpa [Machine.issueFetch] using hc⟩

theorem SettlesOnly.outstanding {id : Nat} {d e : Dev} (h : SettlesOnly id d e) (r : Nat) : outstanding e r = Machine.outstanding d r := by
  obtain ⟨-, f, hf, hc⟩ := h
  have hring (c : Cmd) : (if c.id = id then f c else c).ring = c.ring := by
    split
    · exact (hf c).2.1
    · rfl
  simp only [Machine.outstanding, hc, List.filter_map, List.length_map]
  congr 2
  exact funext fun c => by simp only [Function.comp_apply, hring]

/-- A command of a device is still there afterwards, with its ring and its packet. -/
theorem SettlesOnly.mem {id : Nat} {d e : Dev} (h : SettlesOnly id d e) {c : Cmd} (hc : c ∈ d.host.cmds) :
    ∃ x ∈ e.host.cmds, x.id = c.id ∧ x.ring = c.ring ∧ x.pkt = c.pkt := by
  obtain ⟨-, f, hf, he⟩ := h
  refine ⟨if c.id = id then f c else c, he ▸ List.mem_map_of_mem (f := fun c => if c.id = id then f c else c) hc, ?_⟩
  split
  · exact hf c
  · exact ⟨rfl, rfl, rfl⟩

/-! ## The start of a command (13 R460 to R464) -/

/-- The command that the packet of a ring starts. -/
def startedCmd (r : Nat) (p : Line) (d : Dev) : Cmd :=
  { id := d.host.nextId, ring := r, pkt := p
    steps := if sharedCore (ringOf d r).serving && isLong (pkField p 0 2) then Config.commandSteps d.host.nextId else 0 }

/-- The device as the command of a ring's packet enters it. -/
def entered (r : Nat) (p : Line) (d : Dev) : Dev :=
  noteService false (startedCmd r p d) (modHost (fun h => { h with nextId := d.host.nextId + 1, cmds := h.cmds ++ [startedCmd r p d] })
    (modRing r (fun g => { g with head := (g.head + 1) % pow2 g.cmdLog, packet := none, fetching := false }) (tookTurn r d)))

theorem entered_cmds (r : Nat) (p : Line) (d : Dev) : (entered r p d).host.cmds = d.host.cmds ++ [startedCmd r p d] := by
  simp [entered, modRing]

theorem ringOf_entered (r : Nat) (p : Line) (d : Dev) : ringOf (entered r p d) r =
    { ringOf d r with head := ((ringOf d r).head + 1) % pow2 (ringOf d r).cmdLog, packet := none, fetching := false } := by
  have h : (entered r p d).host.rings = (modRing r (fun g => { g with
      head := (g.head + 1) % pow2 g.cmdLog, packet := none, fetching := false }) d).host.rings := by simp [entered, modRing]
  rw [ringOf_of_rings h, ringOf_modRing_same]

theorem outstanding_entered (r : Nat) (p : Line) (d : Dev) : outstanding (entered r p d) r = outstanding d r + 1 := by
  simp [outstanding, entered_cmds, startedCmd]

theorem opCommandStart_eq {r : Nat} {p : Line} {d : Dev} (hp : (ringOf d r).packet = some p) (hs : startable d r p = true)
    (ht : myTurn d r = true) : opCommandStart r d =
      if !listed (pkField p 0 2) then finish d.host.nextId sBadOpcode 0 0 (entered r p d)
      else if 0xF00 ≤ pkField p 0 2 ∧ (ringOf d r).function ≠ 0 then finish d.host.nextId sNotPermitted 0 0 (entered r p d)
      else if !formOk p then finish d.host.nextId sBadParam 0 0 (entered r p d)
      else if needsBlock (pkField p 0 2) then
        issueFetch (.block d.host.nextId) (ringOf d r).function (pkField p 16 8) (pkField p 24 4)
          (modCmd d.host.nextId (fun c => { c with stage := .block }) (entered r p d))
      else startChecks (startedCmd r p d) (entered r p d) := by
  unfold opCommandStart
  simp only [hp, hs, ht, and_self, if_true]
  rfl

/-- After it has entered, a command is checked, and nothing else of the rings and commands changes. -/
theorem settlesOnly_opCommandStart {r : Nat} {p : Line} {d : Dev} (hp : (ringOf d r).packet = some p) (hs : startable d r p = true)
    (ht : myTurn d r = true) : SettlesOnly d.host.nextId (entered r p d) (opCommandStart r d) := by
  rw [opCommandStart_eq hp hs ht]
  split
  · exact settlesOnly_finish ..
  split
  · exact settlesOnly_finish ..
  split
  · exact settlesOnly_finish ..
  split
  · exact (settlesOnly_modCmd (fun _ => by exact ⟨rfl, rfl, rfl⟩) _ _).issueFetch ..
  · exact settlesOnly_startChecks ..

theorem answers_commandStart {d : Dev} {r : Fin 1024} {p : Line} (hu : ControlUp d) (hp : (ringOf d r).packet = some p)
    (hs : startable d r p = true) (ht : myTurn d r = true) : Answers (.commandStart r) d fun e =>
      (ringOf e r).head = ((ringOf d r).head + 1) % 2 ^ (ringOf d r).cmdLog ∧ (ringOf e r).packet = none ∧
        outstanding e r = outstanding d r + 1 ∧ ∃ c ∈ e.host.cmds, c.id = d.host.nextId ∧ c.ring = r.val ∧ c.pkt = p ∧
          (listed (pkField p 0 2) = false → c.stage = .done ∧ c.status = 4) := by
  have h := settlesOnly_opCommandStart hp hs ht
  have hmem : startedCmd r p d ∈ (entered r p d).host.cmds := by simp [entered_cmds]
  refine answers_onControl hu (fun _ => rfl) ⟨?_, ?_, by rw [h.outstanding, outstanding_entered], ?_⟩
  · rw [ringOf_of_rings h.1, ringOf_entered, pow2_eq]
  · rw [ringOf_of_rings h.1, ringOf_entered]
  · cases hl : listed (pkField p 0 2) with
    | true =>
      obtain ⟨x, hx, hid, hring, hpkt⟩ := h.mem hmem
      exact ⟨x, hx, hid, hring, hpkt, nofun⟩
    | false =>
      rw [opCommandStart_eq hp hs ht, hl]
      refine ⟨{ startedCmd r p d with stage := .done, status := sBadOpcode, res0 := 0, res1 := 0 }, ?_, rfl, rfl, rfl, fun _ => ⟨rfl, rfl⟩⟩
      exact List.mem_map.mpr ⟨_, hmem, if_pos rfl⟩

/-! ## The reply (13 R465 to R470) -/

theorem canIssue_congr {d e : Dev} (h : d.host.func = e.host.func) (fn : Nat) : canIssue d fn = canIssue e fn := by
  simp only [canIssue, funcOf, h]

theorem issueOut_of_canIssue {fn : Nat} {d : Dev} (h : canIssue d fn = true) (o : Out) :
    issueOut fn o d = { d with host := { d.host with posted := d.host.posted ++ [o] } } := if_pos h

theorem answers_statusReply {d : Dev} {r : Fin 1024} {c : Cmd} (hu : ControlUp d) (hserve : coreServes d (ringOf d r).serving = true)
    (hst : (ringOf d r).st = .enabled) (hfind : findCmd d (replyReady d r) = some c) (ht : myTurn d r = true)
    (hci : canIssue d (ringOf d r).function = true) (hirq : cmdIrq c.pkt = false) : Answers (.statusReply r) d fun e =>
      e.host.cmds = d.host.cmds.filter (fun x => x.id != c.id) ∧
        (ringOf e r).stsTail = ((ringOf d r).stsTail + 1) % 2 ^ (ringOf d r).stsLog ∧
        e.host.posted = d.host.posted ++
          [.hostWrite (ringOf d r).function ((ringOf d r).stsBase.toNat + 32 * (ringOf d r).stsTail)
              (replyBytes c (c.gcDone.getD (gcOf d.whl)) (ringOf d r).ten),
            .hostWrite (ringOf d r).function ((ringOf d r).stsBase.toNat + 32 * (ringOf d r).stsTail + 30)
              [if (ringOf d r).lap % 2 = 0 then 1 else 0, 0]] := by
  have hring : c.ring = r.val := by
    have := List.find?_some hfind
    simp only [replyReady, Bool.and_eq_true, beq_iff_eq] at this
    exact this.1.1
  have hop : opStatusReply r d = writeReply issueOut c (noteService true c (tookTurn r d)) := by
    simp only [opStatusReply]
    rw [if_pos ⟨.inl hst, hserve, ht⟩, hfind]
  have hr (k : Nat) : ringOf (noteService true c (tookTurn r d)) k = ringOf d k := ringOf_of_rings (by simp) k
  refine answers_onControl hu (fun _ => rfl) ?_
  rw [hop, writeReply]
  simp only [hirq, hring, hr, Bool.false_eq_true, if_false]
  rw [issueOut_of_canIssue (by rwa [canIssue_congr (e := d) (by simp)]), issueOut_of_canIssue (by rwa [canIssue_congr (e := d) (by simp)])]
  refine ⟨by simp [modRing], ?_, by simp [modRing]⟩
  · rw [ringOf_modHost, ringOf_modRing_same, pow2_eq]
    exact fun _ => rfl

/-! ## The statement -/

theorem startable_of {d : Dev} {r : Nat} {p : Line} (hserve : coreServes d (ringOf d r).serving = true) (hst : (ringOf d r).st = .enabled)
    (hcl : (ringOf d r).closing = false) (hb : booted d = true) (hfence : cmdFence p = true → outstanding d r = 0)
    (hcount : pkField p 8 8 ≠ 0 → countPassed d.whl (pkField p 8 8) = true) (hout : outstanding d r < 16) (hch : changePending d r = false)
    (hroom : outstanding d r + (ringOf d r).unreleased < 2 ^ (ringOf d r).stsLog) : startable d r p = true := by
  have hf : (!cmdFence p || outstanding d r == 0) = true := by
    cases h : cmdFence p with
    | false => rfl
    | true => simp [hfence h]
  have hn : (pkField p 8 8 == 0 || countPassed d.whl (pkField p 8 8)) = true := by
    by_cases h : pkField p 8 8 = 0
    · simp [h]
    · simp [hcount h]
  simp [startable, hserve, hst, hcl, hb, hf, hn, hout, hch, pow2_eq, hroom]

/-- Settles O37: the fetch, the start and the reply of a command, one command of the ring core each. -/
theorem commandTravels : Obligations.CommandTravels := by
  unfold Obligations.CommandTravels
  intro d r hu hserve
  refine ⟨fun hst hcl hne hf hb => answers_onControl hu (fun _ => rfl) ?fetch,
    fun p hp hst hcl hb hfence hcount hout hch ht hroom _ => answers_commandStart hu hp
      (startable_of hserve hst hcl hb hfence hcount hout hch hroom) ht,
    fun p hp ht => answers_onControl hu (fun _ => rfl) ?notMyTurn,
    fun c hst hfind ht hci hirq => answers_statusReply hu hserve hst hfind ht hci hirq⟩
  case fetch =>
    have hop : opCommandFetch r d = issueFetch (.packet r) (ringOf d r).function ((ringOf d r).cmdBase.toNat + 64 * (ringOf d r).head) 64
        (modRing r (fun g => { g with fetching := true }) d) := by
      simp only [opCommandFetch]
      rw [if_pos ⟨hst, hcl, hne, hf, hb, hserve⟩]
    have hr : ringOf (opCommandFetch r d) r = { ringOf d r with fetching := true } := by
      rw [ringOf_of_rings (e := modRing r (fun g => { g with fetching := true }) d) (by simp [hop, issueFetch]), ringOf_modRing_same]
    refine ⟨by rw [hr], by rw [hr], ⟨d.host.nextId, .packet r, (ringOf d r).function,
      (ringOf d r).cmdBase.toNat + 64 * (ringOf d r).head, 64⟩, ?_, rfl, rfl, rfl⟩
    simp [hop, issueFetch, modRing]
  case notMyTurn => simp [opCommandStart, hp, ht]

end Sys2Proof.Machine
end

section
/-!
The statement on watchdogs, core resets, releases and re-homed rings (13 R445; 20 R698; 21 R720 to R725).
-/
namespace Sys2Proof.Machine

/-! ## A core that is held (R720 to R722) -/

theorem tabGet_map {α : Type} (e : α) (g : Nat × α → Nat × α) (hk : ∀ x, (g x).1 = x.1) (he : ∀ k, g (k, e) = (k, e)) (t : Tab α)
    (k : Nat) : tabGet e (t.map g) k = (g (k, tabGet e t k)).2 := by
  induction t with
  | nil => simp [tabGet, he]
  | cons x t ih =>
    obtain ⟨i, a⟩ := x
    have hx : (g (i, a)).1 = i := hk (i, a)
    rw [List.map_cons, ← Prod.mk.eta (p := g (i, a)), hx, tabGet, tabGet]
    split
    next h => rw [h]
    next =>
      split
      · rw [he]
      · exact ih

/-- A pair that is homed on core n and assigned is served by core m. -/
def serveBy (n m : Nat) (g : Ring) : Ring := if g.home = n ∧ g.st ≠ .unassigned then { g with serving := m } else g

/-- A move of the rings homed on a core to another. -/
theorem ringOf_serveBy {d e : Dev} {n m : Nat} (h : e.host.rings = d.host.rings.map fun r : Nat × Ring =>
      if r.2.home = n ∧ r.2.st ≠ .unassigned then (r.1, { r.2 with serving := m }) else r) (r : Nat) :
    ringOf e r = serveBy n m (ringOf d r) := by
  rw [ringOf, h, tabGet_map]
  · dsimp only [serveBy, ringOf]
    split <;> rfl
  · intro x; split <;> rfl
  · intro k; exact if_neg (fun h => h.2 rfl)

theorem serveBy_serving {n m : Nat} {g : Ring} (hh : g.home = n) (hs : g.st ≠ .unassigned) : (serveBy n m g).serving = m := by
  rw [serveBy, if_pos ⟨hh, hs⟩]

theorem coreOf_modHost {f : HostIf → HostIf} (hf : ∀ h, (f h).cores = h.cores) (d : Dev) (n : Nat) :
    coreOf (modHost f d) n = coreOf d n := coreOf_of_cores (hf _) n

theorem ringOf_holdCore (n : Nat) (d : Dev) (r : Nat) : ringOf (holdCore n d) r = serveBy n 15 (ringOf d r) := by
  refine ringOf_serveBy ?_ r
  simp [holdCore, modCore, interruptCmds]

theorem coreOf_holdCore_same (n : Nat) (d : Dev) : (coreOf (holdCore n d) n).reset = true := by
  have h : (holdCore n d).host.cores = (modCore n (fun c => { c with
      reset := true, expired := false, rehome := none, wdHeld := false, retired := retires d.whl.n c.resets
      resets := d.whl.n :: c.resets }) d).host.cores := by
    simp [holdCore, modCore, interruptCmds]
  rw [coreOf_of_cores h, coreOf_modCore_same]

theorem coreOf_holdCore_ne {n m : Nat} (d : Dev) (hm : m ≠ n) : coreOf (holdCore n d) m = coreOf d m := by
  have h : (holdCore n d).host.cores = (modCore n (fun c => { c with
      reset := true, expired := false, rehome := none, wdHeld := false, retired := retires d.whl.n c.resets
      resets := d.whl.n :: c.resets }) d).host.cores := by
    simp [holdCore, modCore, interruptCmds]
  rw [coreOf_of_cores h, coreOf_modCore_ne _ _ hm]

theorem bit_or_pow2 (x : BitVec 32) {n : Nat} (h : n < 32) : bit (x ||| BitVec.ofNat 32 (pow2 n)).toNat n = true := by
  rw [bit_toNat, pow2_eq, BitVec.getLsbD_or, BitVec.getLsbD_ofNat]
  simp [h]

theorem raiseDev_dcause (b : Nat) (d : Dev) : (raiseDev b d).host.dcause = d.host.dcause ||| BitVec.ofNat 32 (pow2 b) := by simp

theorem holdCore_device (n : Nat) (d : Dev) : (holdCore n d).boot.coreResets = (d.boot.coreResets + 1) % 2 ^ 32 ∧
    bit (holdCore n d).host.dcause.toNat 6 = true := by
  constructor
  · simp [holdCore, modBoot, pow2_eq]
  · rw [holdCore]
    dsimp only
    rw [raiseDev_dcause]
    exact bit_or_pow2 _ (by decide)

theorem expireCore_of_up {n : Nat} {d : Dev} (h : coreUp d (rescuer n) = true) : expireCore n d = holdCore n d := if_pos h

/-- An expiry with nobody to act loses control and leaves the core as it is. -/
theorem expireCore_of_down {n : Nat} {d : Dev} (h : coreUp d (rescuer n) = false) : (expireCore n d).boot.controlLost = true ∧
    (coreOf (expireCore n d) n).reset = (coreOf d n).reset ∧ bit (expireCore n d).host.dcause.toNat 7 = true := by
  rw [expireCore, if_neg (by simp [h])]
  refine ⟨by simp [modBoot], ?_, ?_⟩
  · have hc : (raiseDev 7 (modBoot (fun b => { b with controlLost := true })
        (modCore n (fun c => { c with expired := true }) (interruptCmds n d)))).host.cores =
        (modCore n (fun c => { c with expired := true }) d).host.cores := by
      simp [modBoot, modCore, interruptCmds]
    rw [coreOf_of_cores hc, coreOf_modCore_same]
  · rw [raiseDev_dcause]
    exact bit_or_pow2 _ (by decide)

/-- A write of STATE.CORE_RESET with one bit holds that core and no other. -/
theorem opCoreReset_one {d : Dev} {n : Fin 16} (hb : booted d = true) (hup : coreUp d n = true) (hres : coreUp d (rescuer n) = true) :
    opCoreReset 0 (BitVec.ofNat 16 (2 ^ n.val)) d = holdCore n d := by
  have hbit (m : Nat) : bit (BitVec.ofNat 16 (2 ^ n.val)).toNat m = decide (m = n.val) := by
    have hn := n.isLt
    rw [bit_toNat, BitVec.getLsbD_ofNat, Nat.testBit_two_pow]
    by_cases h : n.val = m
    · subst h; simp [hn]
    · simp [h, Ne.symm h]
  rw [opCoreReset, if_pos ⟨rfl, hb⟩]
  have hstep (a : Dev) (m : Nat) (hm : m ≠ n.val) :
      (if bit (BitVec.ofNat 16 (2 ^ n.val)).toNat m && coreUp a m then expireCore m a else a) = a := by
    rw [hbit, decide_eq_false hm]; rfl
  rw [foldl_of_one (w := n.val) List.nodup_range (List.mem_range.mpr n.isLt) fun m hm a => hstep a m hm]
  rw [hbit, hup, decide_eq_true rfl]
  exact expireCore_of_up hres

/-! ## Interrupted commands and the blackout (R698, R725) -/

theorem coreUp_congr {d e : Dev} {n : Nat} (h : (coreOf e n).reset = (coreOf d n).reset ∧ (coreOf e n).retired = (coreOf d n).retired ∧
    (coreOf e n).expired = (coreOf d n).expired) : coreUp e n = coreUp d n := by
  simp only [coreUp, h.1, h.2.1, h.2.2]

theorem coreUp_holdWatchdogs (b : Bool) (d : Dev) (n : Nat) : coreUp (holdWatchdogs b d) n = coreUp d n := by
  have hstep (a : Dev) (m : Nat) : coreUp (modCore m (fun c => { c with wdHeld := b }) a) n = coreUp a n := by
    refine coreUp_congr ?_
    by_cases h : n = m
    · subst h; simp
    · simp [coreOf_modCore_ne _ _ h]
  unfold holdWatchdogs
  generalize List.range 16 = l
  induction l generalizing d with
  | nil => rfl
  | cons m l ih => exact (ih _).trans (hstep d m)

theorem restarted_mem_restartCmd {d : Dev} {c : Cmd} (hc : c ∈ d.host.cmds) (hb : needsBlock (opcodeOf c) = false) :
    { c with interrupted := false, stage := .ready, data := [], now := gcOf d.whl } ∈ (restartCmd c d).host.cmds := by
  simp only [restartCmd, hb, Bool.false_eq_true, if_false]
  exact List.mem_map.mpr ⟨c, hc, if_pos rfl⟩

theorem lost_mem_lostCmd {d : Dev} {c : Cmd} (hc : c ∈ d.host.cmds) :
    { c with stage := .done, status := sFaulted, res0 := 0, res1 := 0, fault := fcWatchdog, interrupted := false } ∈ (lostCmd c d).host.cmds := by
  refine List.mem_map.mpr ⟨{ c with stage := .done, status := sFaulted, res0 := 0, res1 := 0, fault := fcWatchdog }, ?_, if_pos rfl⟩
  exact List.mem_map.mpr ⟨c, hc, if_pos rfl⟩

/-- A command that has settled is not interrupted, nor changed by the hold of a core. -/
theorem holdCore_cmds (n : Nat) (d : Dev) : (holdCore n d).host.cmds = (interruptCmds n d).host.cmds := by
  simp [holdCore, modCore, modBoot]

theorem holdCore_activating (n : Nat) (d : Dev) : (holdCore n d).boot.activating = d.boot.activating := by
  simp [holdCore, modBoot]

theorem done_of_mem_holdCore {n id st fault : Nat} {d : Dev} (h : ∀ x ∈ d.host.cmds, x.id = id → x.stage = .done ∧ x.status = st ∧ x.fault = fault) :
    ∀ x ∈ (holdCore n d).host.cmds, x.id = id → x.stage = .done ∧ x.status = st ∧ x.fault = fault := by
  rw [holdCore_cmds]
  intro x hx hid
  obtain ⟨c, hc, rfl⟩ := List.mem_map.mp hx
  have hcid : c.id = id := by
    rw [← hid]; split <;> rfl
  have := h c hc hcid
  split <;> exact this

theorem done_of_mem_abortCmd {id st fault : Nat} {d : Dev} : ∀ x ∈ (abortCmd id st fault d).host.cmds, x.id = id →
    x.stage = .done ∧ x.status = st ∧ x.fault = fault := by
  intro x hx hid
  obtain ⟨c, -, rfl⟩ := List.mem_map.mp hx
  split
  · exact ⟨rfl, rfl, rfl⟩
  next hc => rw [if_neg hc] at hid; exact absurd hid hc

/-! ## The statement -/

/-- Settles O38, one command of the cores at a time. -/
theorem coreResets : Obligations.CoreResets := by
  unfold Obligations.CoreResets
  intro d n hu hb
  refine ⟨fun hup hwd hres => answers_onControl hu (fun _ => rfl) ?expires, fun hup hwd hres => answers_onControl hu (fun _ => rfl) ?lost,
    fun hh hup hres => answers_onHost hu.1 hh (fun _ => rfl) ?reset, fun hup hwd hres => answers_onControl hu (fun _ => rfl) ?rescue,
    fun hr hret hres => answers_onControl hu (fun _ => rfl) ?release, fun b hre hup hdue => answers_onControl hu (fun _ => rfl) ?rehome,
    fun r c hserve hfind hop => answers_onControl hu (fun _ => rfl) ?interrupted,
    fun id hact hup => answers_onControl hu (fun _ => rfl) ?blackout⟩
  case expires =>
    rw [opWatchdogExpiry, if_pos (by simp [hb, hup, hwd]), expireCore_of_up hres]
    obtain ⟨hcount, hcause⟩ := holdCore_device n d
    exact ⟨coreOf_holdCore_same n d, hcount, hcause, fun r hh hs => by rw [ringOf_holdCore, serveBy_serving hh hs]⟩
  case lost =>
    rw [opWatchdogExpiry, if_pos (by simp [hb, hup, hwd])]
    exact expireCore_of_down hres
  case reset =>
    have hop : opCoreReset (0 : Fin 64).val (BitVec.ofNat 16 (2 ^ n.val)) d = holdCore n d := opCoreReset_one hb hup hres
    rw [hop]
    exact ⟨coreOf_holdCore_same n d, fun m hm => coreOf_holdCore_ne d (fun h => hm (Fin.ext h))⟩
  case rescue =>
    rw [opRescueCoreReset, if_pos (by simp [hb, hup, hwd]), expireCore_of_up hres]
    exact coreOf_holdCore_same 15 d
  case release =>
    simp only [opCoreRelease]
    rw [if_pos (by simp [hr, hret, hres]), coreOf_modCore_same]
    refine ⟨rfl, ?_⟩
    have h15 : (n.val = 15) = (n = 15) := propext ⟨fun h => Fin.ext h, fun h => h ▸ rfl⟩
    simp only [h15]
  case rehome =>
    simp only [opRingRehome, hre]
    rw [if_pos (by simp [hup, hdue])]
    refine ⟨?_, fun r hh hs => ?_⟩
    · rw [coreOf_modHost, coreOf_modCore_same]
      exact fun _ => rfl
    · rw [ringOf_serveBy (d := d) (n := n) (m := n) rfl, serveBy_serving hh hs]
  case interrupted =>
    have hc : c ∈ d.host.cmds := List.mem_of_find?_eq_some hfind
    simp only [opInterruptedCommand, hserve, if_true, hfind]
    obtain hop | hop := hop
    · rw [hop, if_pos (by decide)]
      exact ⟨_, restarted_mem_restartCmd hc (by rw [hop]; decide), rfl, rfl, fun _ => ⟨rfl, rfl⟩, fun h => absurd h (by decide)⟩
    · rw [hop, if_neg (by decide)]
      have hlose : loseCmd c d = lostCmd c d := by simp only [loseCmd, hop]
      rw [hlose]
      exact ⟨_, lost_mem_lostCmd hc, rfl, rfl, fun h => absurd h (by decide), fun _ => ⟨rfl, rfl, rfl⟩⟩
  case blackout =>
    simp only [opBlackoutBoundExpiry, hact]
    have hup' : coreUp (abortCmd id sFaulted fcWatchdog (modBoot (fun b => { b with activating := none }) (holdWatchdogs false d))) (rescuer 0) = true :=
      (coreUp_holdWatchdogs false d 15).trans hup
    rw [expireCore_of_up hup']
    exact ⟨(holdCore_activating 0 _).trans rfl, coreOf_holdCore_same 0 _, done_of_mem_holdCore done_of_mem_abortCmd⟩

end Sys2Proof.Machine
end

section
/-!
The statements on faults that stop a tenancy and on the life of a program (03 R120; 07 R265, R283; 11 R399, R408; 16 R570, R571;
21 R709 to R712).
-/
namespace Sys2Proof.Machine

/-! ## The image of a tenancy, which the records of a launch leave alone -/

theorem modTen_image {f : Tenancy → Tenancy} (hf : ∀ x, (f x).image = x.image) (t : Nat) (d : Dev) (k : Nat) :
    (tenOf (modTen t f d) k).image = (tenOf d k).image := by
  by_cases h : k = t
  · subst h; simp [hf]
  · simp [h]

theorem image_congr {d e : Dev} (h : d.ten = e.ten) (k : Nat) : (tenOf d k).image = (tenOf e k).image := by rw [tenOf_congr h]

theorem journalAppend_image (t : Nat) (r : List Byte) (d : Dev) (k : Nat) :
    (tenOf (journalAppend t r d) k).image = (tenOf d k).image := by
  unfold journalAppend
  split
  · rw [modTen_image fun _ => by rfl]
    exact image_congr (by simp [journalWrite]) k
  · rfl

theorem modProgram_image (t : Nat) (f : Program → Program) (d : Dev) (k : Nat) :
    (tenOf (modProgram t f d) k).image = (tenOf d k).image := modTen_image (fun _ => by rfl) t d k

theorem writeRef_image (t : Nat) (r : Xfer) (d : Dev) (k : Nat) : (tenOf (writeRef t r d) k).image = (tenOf d k).image := by
  unfold writeRef
  split
  · split
    · exact modProgram_image ..
    split
    · rfl
    split
    · exact journalAppend_image ..
    · rw [modTen_image fun _ => by rfl, modProgram_image]
  · split
    · exact modProgram_image ..
    · rfl
  · rfl

theorem flushRefs_image (t : Nat) (d : Dev) (k : Nat) : (tenOf (flushRefs t d) k).image = (tenOf d k).image := by
  unfold flushRefs
  split
  · rfl
  · exact (foldl_keeps (fun d => (tenOf d k).image) _ (fun a r => writeRef_image t r a k) _ _).trans (modProgram_image ..)

theorem dropDescs_image (t : Nat) (d : Dev) (k : Nat) : (tenOf (dropDescs t d) k).image = (tenOf d k).image :=
  foldl_keeps (fun d => (tenOf d k).image) _ (fun a _ => (flushRefs_image t _ k).trans (modProgram_image t _ a k)) _ _

theorem journalLaunchEnd_image (t status fault gc : Nat) (d : Dev) (k : Nat) :
    (tenOf (journalLaunchEnd t status fault gc d) k).image = (tenOf d k).image := by
  unfold journalLaunchEnd; dsimp only
  split
  · split
    · rw [journalAppend_image, modTen_image fun _ => by rfl, flushRefs_image]
    · exact flushRefs_image ..
  · exact flushRefs_image ..

theorem drainSnaps_image (cl : Nat) (l : List Snap) (x : Tenancy) : (l.foldl (drainSnap cl) x).image = x.image := by
  induction l generalizing x with
  | nil => rfl
  | cons s l ih => exact ih (drainSnap cl x s)

theorem drainCluster_image (t cl : Nat) (ready : Snap → Bool) (d : Dev) (k : Nat) :
    (tenOf (drainCluster t cl ready d) k).image = (tenOf d k).image := by
  refine (image_congr (e := modTen t (fun x => ((clOf d cl).snaps.takeWhile ready).foldl (drainSnap cl) x) d) rfl k).trans ?_
  exact modTen_image (drainSnaps_image cl _) t d k

theorem drainAll_image (t : Nat) (d : Dev) (k : Nat) : (tenOf (drainAll t d) k).image = (tenOf d k).image :=
  foldl_keeps (fun d => (tenOf d k).image) _ (fun a cl => drainCluster_image t cl _ a k) _ _

/-- A program that ends leaves its image in place (11 R399; 15 R528). -/
theorem endProgram_image (t status fault gc : Nat) (halted : Bool) (d : Dev) (k : Nat) :
    (tenOf (endProgram t status fault gc halted d) k).image = (tenOf d k).image := by
  have h1 := (journalLaunchEnd_image t status fault gc (drainAll t d) k).trans (drainAll_image t d k)
  unfold endProgram; dsimp only
  split
  · exact h1
  split
  · rw [modTen_image fun _ => by rfl, modTen_image fun _ => by rfl, h1]
  · refine (image_congr (e := modTen t (fun x => { x with program := none, suspendedAt := none })
      (journalLaunchEnd t status fault gc (drainAll t d))) (by simp) k).trans ?_
    rw [modTen_image fun _ => by rfl, h1]

/-! ## Clusters and segments of a tenancy that stops (21 R712) -/

theorem drainCluster_run (t cl : Nat) (ready : Snap → Bool) (d : Dev) (c : Nat) :
    (clOf (drainCluster t cl ready d) c).run = (clOf d c).run := by
  by_cases h : c = cl
  · subst h; simp [drainCluster]
  · simp only [drainCluster]
    rw [clOf_setCl_ne _ _ h]; exact congrArg Cluster.run (clOf_congr rfl c)

theorem endProgram_run (t status fault gc : Nat) (halted : Bool) (d : Dev) (c : Nat) :
    (clOf (endProgram t status fault gc halted d) c).run = (clOf d c).run := by
  have hcl : (endProgram t status fault gc halted d).cl = (drainAll t d).cl := by
    unfold endProgram; dsimp only; (repeat' split) <;> simp
  rw [clOf_congr hcl]
  exact foldl_keeps (fun d => (clOf d c).run) _ (fun a cl => drainCluster_run t cl _ a c) _ _

/-- A cluster that issues nothing (21 R712). -/
def AtRest (x : Run) : Prop := x = .idle ∨ x = .stopped

theorem emptyCluster_run (cl : Nat) (d : Dev) (c : Nat) : AtRest (clOf (emptyCluster cl d) c).run ∨
    c ≠ cl ∧ (clOf (emptyCluster cl d) c).run = (clOf d c).run := by
  by_cases h : c = cl
  · subst h
    left
    rw [clOf_congr (d := emptyCluster c d) (e := modCl c (fun k => { k with run := if k.run = .idle then .idle else .stopped, ls := [], lb := [], tvHeld := false }) d)
      rfl, clOf_modCl_same]
    dsimp only [AtRest]
    split
    · exact .inl rfl
    · exact .inr rfl
  · right
    refine ⟨h, ?_⟩
    rw [clOf_congr (d := emptyCluster cl d) (e := modCl cl (fun k => { k with run := if k.run = .idle then .idle else .stopped, ls := [], lb := [], tvHeld := false }) d)
      rfl, clOf_modCl_ne _ _ h]

theorem emptyClusters_run {cls : List Nat} {c : Nat} (d : Dev) (h : c ∈ cls ∨ AtRest (clOf d c).run) :
    AtRest (clOf (cls.foldl (fun a c => emptyCluster c a) d) c).run := by
  induction cls generalizing d with
  | nil => exact h.resolve_left (List.not_mem_nil)
  | cons x cls ih =>
    refine ih _ ?_
    obtain hr | ⟨hne, hsame⟩ := emptyCluster_run x d c
    · exact .inr hr
    · rw [hsame]
      exact h.imp_left fun hc => (List.mem_cons.mp hc).resolve_left hne

/-- Every cluster of a tenancy rests once its hardware has stopped. -/
theorem stopHardware_run {t c : Nat} {d : Dev} (hc : c < 512) (hh : recHasCluster (grantOf d t) c = true) :
    AtRest (clOf (stopHardware t d) c).run := by
  rw [stopHardware, clOf_congr (e := (recClusters (grantOf d t)).foldl (fun a c => emptyCluster c a) d) (by simp)]
  exact emptyClusters_run d (.inl (List.mem_filter.mpr ⟨List.mem_range.mpr hc, hh⟩))

/-- No segment of an owner is current (12 R439). -/
def SegsClosed (t : Nat) (d : Dev) : Prop :=
  ∀ i, (tabGet ({} : PhaseEnt) d.fab.phase i).owner = t → (tabGet ({} : PhaseEnt) d.fab.phase i).len = 0

theorem segsClosed_closeSegs (t : Nat) (d : Dev) : SegsClosed t (closeSegs t d) := by
  intro i
  have hget : tabGet ({} : PhaseEnt) (closeSegs t d).fab.phase i =
      if (tabGet ({} : PhaseEnt) d.fab.phase i).owner = t then { tabGet ({} : PhaseEnt) d.fab.phase i with len := 0 }
      else tabGet ({} : PhaseEnt) d.fab.phase i := by
    refine (tabGet_map _ _ (fun x => ?_) (fun k => ?_) _ _).trans ?_
    · split <;> rfl
    · split <;> rfl
    · dsimp only; split <;> rfl
  rw [hget]
  split
  · exact fun _ => rfl
  · exact fun h => absurd h ‹_›

theorem segsClosed_congr {t : Nat} {d e : Dev} (h : e.fab = d.fab) (hd : SegsClosed t d) : SegsClosed t e := by
  unfold SegsClosed; rwa [h]

theorem segsClosed_stopHardware (t : Nat) (d : Dev) : SegsClosed t (stopHardware t d) :=
  segsClosed_congr (d := closeSegs t ((recClusters (grantOf d t)).foldl (fun a c => emptyCluster c a) d)) (by simp [stopHardware])
    (segsClosed_closeSegs t _)

/-! ## Faults (21 R709 to R712) -/

theorem opFaultStop_live {d : Dev} {t : Nat} (hf : faultDue d t = true) (hlive : isLive (tenOf d t).st = true) :
    (tenOf (opFaultStop t d) t).st = .faulted ∧ (tenOf (opFaultStop t d) t).stopDue = false ∧
      (∀ cl < 512, recHasCluster (grantOf d t) cl = true → AtRest (clOf (opFaultStop t d) cl).run) ∧ SegsClosed t (opFaultStop t d) := by
  rw [opFaultStop, if_pos hf, stopFaulted, if_pos hlive]
  generalize (if counted d.whl then d.whl.n * d.whl.w else (d.whl.n + 1) * d.whl.w) = gc
  refine ⟨?_, ?_, fun c hc hh => ?_, ?_⟩
  · rw [tenOf_congr (e := modTen t (fun x => { x with st := .faulted, stopDue := false })
      (endProgram t sFaulted (tenOf d t).fault gc false (releaseUnits t (stopHardware t d)))) (by simp)]
    simp
  · rw [tenOf_congr (e := modTen t (fun x => { x with st := .faulted, stopDue := false })
      (endProgram t sFaulted (tenOf d t).fault gc false (releaseUnits t (stopHardware t d)))) (by simp)]
    simp
  · rw [clOf_congr (e := endProgram t sFaulted (tenOf d t).fault gc false (releaseUnits t (stopHardware t d))) (by simp),
      endProgram_run, clOf_congr (e := stopHardware t d) (by simp)]
    exact stopHardware_run hc hh
  · exact segsClosed_congr (by simp) (segsClosed_stopHardware t d)

/-- Settles O39: the fault is recorded by `raiseFault`, and the stop ends in what `stopHardware` leaves. -/
theorem faultsStop : Obligations.FaultsStop := by
  unfold Obligations.FaultsStop
  intro d t hu
  refine ⟨fun code hs => answers_onFabric hu (fun _ => rfl) ?raised, fun hf hlive => answers_onFabric hu (fun _ => rfl) ?stop⟩
  case raised =>
    obtain ⟨hfault, hdue⟩ := raiseFault_first t code.toNat d hs
    refine ⟨hfault, ?_, hdue, ?_, fun u hu => tenOf_raiseFault_ne _ _ fun h => hu (Fin.ext h)⟩
    · simp [opFaultRaised, tenOf_raiseFault_same, recordFault, hs]
    · rw [opFaultRaised, tenOf_raiseFault_same]
      exact bit_or_pow2 _ (by decide)
  case stop => exact opFaultStop_live hf hlive

end Sys2Proof.Machine
end

section
/-!
The statement on the life of a program, from its segments to its completion (03 R120; 07 R265, R283; 11 R399, R408; 16 R570, R571).
-/
namespace Sys2Proof.Machine

/-! ## Segments and clusters of a launch (07 R283; 11 R408) -/

/-- Every segment of a list is current for its owner once all have been put. -/
theorem owner_of_put {t : Nat} {q : Placed} {ps : List Placed} (h : q ∈ ps) (tab : Tab PhaseEnt) :
    (tabGet ({} : PhaseEnt) (ps.foldl (fun a p => tabSet p.ix { base := p.base, len := p.len, owner := t } a) tab) q.ix).owner = t := by
  have hkeep (ps : List Placed) (tab : Tab PhaseEnt) (h : (tabGet ({} : PhaseEnt) tab q.ix).owner = t) :
      (tabGet ({} : PhaseEnt) (ps.foldl (fun a p => tabSet p.ix { base := p.base, len := p.len, owner := t } a) tab) q.ix).owner = t := by
    induction ps generalizing tab with
    | nil => exact h
    | cons p ps ih =>
      refine ih _ ?_
      by_cases hp : q.ix = p.ix
      · rw [hp, tabGet_tabSet_same]
      · rwa [tabGet_tabSet_ne _ _ _ hp]
  induction ps generalizing tab with
  | nil => cases h
  | cons p ps ih =>
    obtain rfl | h := List.mem_cons.mp h
    · exact hkeep ps _ (by rw [tabGet_tabSet_same])
    · exact ih h _

theorem openSegs_owner {t k : Nat} {d : Dev} {im : Loaded} (him : (tenOf d t).image = some im) {q : Placed} (hq : q ∈ im.routes)
    (hk : segInBucket k q = true) : (tabGet ({} : PhaseEnt) (openSegs t k d).fab.phase q.ix).owner = t := by
  simp only [openSegs, him]
  exact owner_of_put (List.mem_filter.mpr ⟨hq, hk⟩) _

/-- A change of a list of clusters that says the same whatever the cluster was holds of each of them afterwards. -/
theorem clOf_foldl_modCl {P : Cluster → Prop} {f : Nat → Cluster → Cluster} (hf : ∀ c k, P (f c k)) {cls : List Nat} {c : Nat}
    (hc : c ∈ cls) (d : Dev) : P (clOf (cls.foldl (fun a c => modCl c (f c) a) d) c) := by
  have hkeep (cls : List Nat) (d : Dev) (h : P (clOf d c)) : P (clOf (cls.foldl (fun a c => modCl c (f c) a) d) c) := by
    induction cls generalizing d with
    | nil => exact h
    | cons x cls ih =>
      refine ih _ ?_
      by_cases hx : c = x
      · subst hx; rw [clOf_modCl_same]; exact hf _ _
      · rwa [clOf_modCl_ne _ _ hx]
  induction cls generalizing d with
  | nil => cases hc
  | cons x cls ih =>
    obtain rfl | hc := List.mem_cons.mp hc
    · exact hkeep cls _ (by rw [clOf_modCl_same]; exact hf _ _)
    · exact ih hc _

theorem armClusters_eq {t : Nat} {d : Dev} {p : Program} {im : Loaded} (hp : (tenOf d t).program = some p)
    (him : (tenOf d t).image = some im) : armClusters t d = modTen t (fun x => { x with program := some { p with armed := true } })
      (im.clusters.foldl (fun a c => modCl c (armCluster im p (p.launch / d.whl.w % 4) (seenPos d.whl) c) a) d) := by
  simp only [armClusters, hp, him]

/-! ## The launch count (03 R120; 16 R569) -/

theorem armClusters_others {t u : Nat} (hu : u ≠ t) (d : Dev) : tenOf (armClusters t d) u = tenOf d u := by
  unfold armClusters
  split
  · rw [tenOf_modTen_ne _ _ hu]
    exact tenOf_congr (by simp) u
  · rfl

/-- What a launch changes of tenancies is its own. -/
theorem startProgram_others {t u n : Nat} (hu : u ≠ t) (d : Dev) : tenOf (startProgram t n d) u = tenOf d u := by
  unfold startProgram
  split
  · rfl
  next p _ =>
    have hlb (cls im : List Nat) : tenOf (cls.foldl (fun a c => if im.contains c then a else modCl c (fun k => { k with lb := [] }) a) d) u =
        tenOf d u := tenOf_congr (foldl_keeps Dev.ten _ (fun a c => by split <;> rfl) _ d) u
    have hseg (d0 : Dev) : tenOf (if p.current then d0 else openSegs t p.bucket d0) u = tenOf d0 u := by
      split
      · rfl
      · exact tenOf_congr (by simp) u
    have harm (d1 : Dev) : tenOf (if p.armed then d1 else armClusters t d1) u = tenOf d1 u := by
      split
      · rfl
      · exact armClusters_others hu d1
    exact (tenOf_modTen_ne _ _ hu).trans ((harm _).trans ((hseg _).trans (hlb _ _)))

theorem startProgram_own {t n : Nat} {d : Dev} {p : Program} (hp : (tenOf d t).program = some p) :
    (tenOf (startProgram t n d) t).st = .running ∧ (tenOf (startProgram t n d) t).launchCount = p.launch ∧
      (tenOf (startProgram t n d) t).completion = n := by
  simp only [startProgram, hp]
  rw [tenOf_modTen_same]
  exact ⟨rfl, rfl, rfl⟩

/-! ## The completion (11 R399) -/

theorem completeProgram_leaves {t gc : Nat} {d : Dev} {im : Loaded} (him : (tenOf d t).image = some im) :
    (tenOf (completeProgram t gc d) t).st = .loaded ∧ (tenOf (completeProgram t gc d) t).image = some im ∧
      SegsClosed t (completeProgram t gc d) := by
  refine ⟨by simp [completeProgram], ?_, segsClosed_congr (by simp [completeProgram]) (segsClosed_closeSegs t d)⟩
  rw [completeProgram, modTen_image fun _ => by rfl, endProgram_image, dropDescs_image, image_congr (e := d) (by simp), him]

/-! ## Digests that drain (07 R265; 16 R570, R571) -/

theorem mem_foldl_addFlight {α : Type} {f : α → Flight} {l : List α} {y : Flight} {d : Dev} :
    y ∈ (l.foldl (fun a s => addFlight (f s) a) d).fab.flits ↔ y ∈ d.fab.flits ∨ ∃ s ∈ l, f s = y := by
  induction l generalizing d with
  | nil => simp
  | cons s l ih =>
    rw [List.foldl_cons, ih]
    simp only [addFlight, List.mem_append, List.mem_cons, exists_eq_or_imp, or_assoc]
    simp [eq_comm]

theorem mem_sendSnaps {t cl at_ : Nat} {ready : Snap → Bool} {d : Dev} {y : Flight} : y ∈ (sendSnaps t cl at_ ready d).fab.flits ↔
    y ∈ d.fab.flits ∨ ∃ s ∈ (clOf d cl).snaps.takeWhile ready, snapFlight cl at_ s = y := by
  rw [sendSnaps, mem_foldl_addFlight]
  rfl

theorem foldl_addFlight_cl {α : Type} (f : α → Flight) (l : List α) (d : Dev) : (l.foldl (fun a s => addFlight (f s) a) d).cl = d.cl := by
  induction l generalizing d with
  | nil => rfl
  | cons s l ih => exact ih _

theorem drop_length_takeWhile {α : Type} (p : α → Bool) (l : List α) : l.drop (l.takeWhile p).length = l.dropWhile p := by
  induction l with
  | nil => rfl
  | cons x l ih => cases h : p x <;> simp [h, ih]

theorem head_of_dropWhile {α : Type} (p : α → Bool) (l : List α) : ∀ s ∈ (l.dropWhile p).head?, p s = false := by
  intro s hs
  have h := List.head?_dropWhile_not p l
  rwa [Option.mem_def.mp hs] at h

theorem snaps_sendSnaps_same (t cl at_ : Nat) (ready : Snap → Bool) (d : Dev) :
    (clOf (sendSnaps t cl at_ ready d) cl).snaps = (clOf d cl).snaps.dropWhile ready := by
  rw [sendSnaps, clOf_congr (foldl_addFlight_cl _ _ _), drainCluster, clOf_setCl_same]
  exact drop_length_takeWhile _ _

theorem snaps_sendSnaps_ne {cl c : Nat} (hc : c ≠ cl) (t at_ : Nat) (ready : Snap → Bool) (d : Dev) :
    (clOf (sendSnaps t cl at_ ready d) c).snaps = (clOf d c).snaps := by
  rw [sendSnaps, clOf_congr (foldl_addFlight_cl _ _ _), drainCluster, clOf_setCl_ne _ _ hc]
  exact congrArg Cluster.snaps (clOf_congr rfl c)

/-- A pass over clusters takes no flit away. -/
theorem mem_foldl_sendSnaps {t at_ : Nat} {ready : Snap → Bool} (cls : List Nat) {d : Dev} {y : Flight} (h : y ∈ d.fab.flits) :
    y ∈ (cls.foldl (fun a cl => sendSnaps t cl at_ ready a) d).fab.flits := by
  induction cls generalizing d with
  | nil => exact h
  | cons x cls ih => exact ih (mem_sendSnaps.mpr (.inl h))

/-- A cluster without a snapshot at the front that is ready keeps none. -/
theorem foldl_sendSnaps_none_ready {t at_ cl : Nat} {ready : Snap → Bool} (cls : List Nat) {d : Dev}
    (h : ∀ s ∈ (clOf d cl).snaps.head?, ready s = false) :
    ∀ s ∈ (clOf (cls.foldl (fun a cl => sendSnaps t cl at_ ready a) d) cl).snaps.head?, ready s = false := by
  induction cls generalizing d with
  | nil => exact h
  | cons x cls ih =>
    refine ih ?_
    by_cases hx : cl = x
    · subst hx
      rw [snaps_sendSnaps_same]
      exact head_of_dropWhile ready _
    · rwa [snaps_sendSnaps_ne hx]

/-- After a pass over clusters each of them has sent the snapshots at its front that are ready, and none is left there. -/
theorem foldl_sendSnaps {t at_ cl : Nat} {ready : Snap → Bool} {cls : List Nat} (hcl : cl ∈ cls) (d : Dev) :
    (∀ s ∈ (clOf (cls.foldl (fun a cl => sendSnaps t cl at_ ready a) d) cl).snaps.head?, ready s = false) ∧
      ∀ s ∈ (clOf d cl).snaps.takeWhile ready, snapFlight cl at_ s ∈ (cls.foldl (fun a cl => sendSnaps t cl at_ ready a) d).fab.flits := by
  induction cls generalizing d with
  | nil => cases hcl
  | cons x cls ih =>
    by_cases hx : cl = x
    · subst hx
      refine ⟨foldl_sendSnaps_none_ready cls ?_, fun s hs => mem_foldl_sendSnaps cls (mem_sendSnaps.mpr (.inr ⟨s, hs, rfl⟩))⟩
      rw [snaps_sendSnaps_same]
      exact head_of_dropWhile ready _
    · have := ih ((List.mem_cons.mp hcl).resolve_left hx) (sendSnaps t x at_ ready d)
      rwa [snaps_sendSnaps_ne hx] at this

/-- Settles O40, one event of the program's life at a time. -/
theorem programsRun : Obligations.ProgramsRun := by
  unfold Obligations.ProgramsRun
  intro d t p im hu hp him
  refine ⟨fun hst hc hdue => answers_onFabric hu (fun _ => rfl) ?segments, fun hst ha hpass => answers_onFabric hu (fun _ => rfl) ?arm,
    fun hst hdue hf hcm hh => answers_onFabric hu (fun _ => rfl) ?launch, fun hst hdue hf hs hall => answers_onFabric hu (fun _ => rfl) ?complete,
    fun hst hdue hf hs hall => answers_onFabric hu (fun _ => rfl) ?late, fun x hx hnow hcount => answers_onFabric hu (fun _ => rfl) ?digest⟩
  case segments =>
    simp only [opBucketSegmentsCurrent, hp]
    rw [if_pos ⟨hst, hc, hdue⟩, tenOf_modTen_same]
    exact ⟨rfl, fun q hq hk => openSegs_owner him hq hk⟩
  case arm =>
    simp only [opClusterArm, hp]
    rw [if_pos ⟨hst, ha, hpass⟩, armClusters_eq hp him, tenOf_modTen_same]
    refine ⟨rfl, fun cl hcl => ?_⟩
    rw [clOf_modTen]
    exact clOf_foldl_modCl (P := fun k => k.run = .armed ∧ k.acc = [] ∧ k.dig = 0 ∧ k.wcur = p.launch / d.whl.w % 4)
      (fun _ _ => ⟨rfl, rfl, rfl, rfl⟩) hcl d
  case launch =>
    simp only [opLaunchCountReached, hp]
    rw [if_pos ⟨hst, hdue, hf, hcm, hh⟩]
    obtain ⟨hrun, hcount, hcomp⟩ := startProgram_own (n := p.launch + imageTicks (tenOf d t)) hp
    exact ⟨hrun, hcount, by rw [hcomp, imageTicks, him], fun u hu => startProgram_others (fun h => hu (Fin.ext h)) d⟩
  case complete =>
    simp only [opProgramCompletionCheck, hp]
    rw [if_pos ⟨hst, hdue, hf⟩, hs, hall]
    exact completeProgram_leaves him
  case late =>
    simp only [opProgramCompletionCheck, hp]
    rw [if_pos ⟨hst, hdue, hf⟩, hs, hall]
    obtain ⟨hfault, hstop⟩ := raiseFault_first t fcVoidFlit d hs
    refine ⟨?_, hfault, hstop⟩
    simp [tenOf_raiseFault_same, recordFault, hs, hst]
  case digest =>
    subst hx
    simp only [opDigestDrain]
    rw [if_pos ⟨hcount, hnow⟩, imageClusters, him]
    refine ⟨fun y hy => mem_foldl_sendSnaps _ hy, fun cl hcl => ?_⟩
    obtain ⟨hhead, hsent⟩ := foldl_sendSnaps hcl d
    exact ⟨fun s hs => by simpa using hhead s hs, hsent⟩

end Sys2Proof.Machine
end

section
/-!
The statement on sets of grants, leases and resets at their boundaries, and the zeroing of what was released (14 R495, R497, R506, R507;
15 R555; 23 R766 to R769).
-/
namespace Sys2Proof.Machine

/-! ## Entries that leave a table in order -/

theorem tabGet_of_no_key {α : Type} {e : α} {k : Nat} {t : Tab α} (h : ∀ c ∈ t, c.1 ≠ k) : tabGet e t k = e := by
  induction t with
  | nil => rfl
  | cons x t ih =>
    have hx : x.1 ≠ k := h x (by simp)
    simp [tabGet, hx, ih fun c hc => h c (by simp [hc])]

theorem tabGet_tabDel_same {α : Type} (e : α) (k : Nat) {t : Tab α} (h : Rising t) : tabGet e (tabDel k t) k = e := by
  induction t with
  | nil => rfl
  | cons x t ih =>
    obtain ⟨i, a⟩ := x
    obtain ⟨hi, ht⟩ := rising_cons.mp h
    simp only [tabDel]
    split_ifs with hik hki
    · subst hik
      exact tabGet_above e i t hi
    · simp [tabGet, hik, hki]
    · simp [tabGet, hik, hki, ih ht]

theorem tabGet_tabDel_ne {α : Type} (e : α) {k j : Nat} (hj : j ≠ k) {t : Tab α} (h : Rising t) :
    tabGet e (tabDel k t) j = tabGet e t j := by
  induction t with
  | nil => rfl
  | cons x t ih =>
    obtain ⟨i, a⟩ := x
    obtain ⟨hi, ht⟩ := rising_cons.mp h
    simp only [tabDel]
    split_ifs with hik hki
    · subst hik
      simp only [tabGet, hj.symm, if_false]
      split_ifs with hlt
      · exact tabGet_above e j t fun c hc => hlt.trans (hi c hc)
      · rfl
    · rfl
    · simp only [tabGet, ih ht]

/-! ## Which commands the control domain holds -/

@[simp] theorem cmdIds_modRing (r : Nat) (f : Ring → Ring) (d : Dev) : cmdIds (modRing r f d) = cmdIds d := rfl

@[simp] theorem cmdIds_modGrants (f : Grants → Grants) (d : Dev) : cmdIds (modGrants f d) = cmdIds d := rfl

@[simp] theorem cmdIds_finishAt (id st r0 r1 gc : Nat) (d : Dev) : cmdIds (finishAt id st r0 r1 gc d) = cmdIds d :=
  cmdIds_modCmd (fun _ => by rfl) id d

@[simp] theorem cmdIds_abortCmd (id st fault : Nat) (d : Dev) : cmdIds (abortCmd id st fault d) = cmdIds d :=
  cmdIds_modCmd (fun _ => by rfl) id d

@[simp] theorem journalAppend_cmds (t : Nat) (r : List Byte) (d : Dev) : (journalAppend t r d).host.cmds = d.host.cmds := by
  unfold journalAppend
  split
  · simp [modTen, journalWrite]
  · rfl

@[simp] theorem writeRef_cmds (t : Nat) (r : Xfer) (d : Dev) : (writeRef t r d).host.cmds = d.host.cmds := by
  unfold writeRef
  (repeat' split) <;> simp [modProgram, modTen]

@[simp] theorem flushRefs_cmds (t : Nat) (d : Dev) : (flushRefs t d).host.cmds = d.host.cmds := by
  unfold flushRefs
  split
  · rfl
  · exact foldl_keeps (·.host.cmds) _ (fun a r => writeRef_cmds t r a) _ _

@[simp] theorem recordXfer_cmds (t : Nat) (r : Xfer) (d : Dev) : (recordXfer t r d).host.cmds = d.host.cmds :=
  flushRefs_cmds t _

@[simp] theorem dropDescs_cmds (t : Nat) (d : Dev) : (dropDescs t d).host.cmds = d.host.cmds :=
  foldl_keeps (·.host.cmds) _ (fun a r => recordXfer_cmds t r a) _ _

@[simp] theorem journalLaunchEnd_cmds (t status fault gc : Nat) (d : Dev) : (journalLaunchEnd t status fault gc d).host.cmds = d.host.cmds := by
  unfold journalLaunchEnd
  dsimp only
  (repeat' split) <;> simp [modTen]

@[simp] theorem raiseFault_cmds (t code : Nat) (d : Dev) : (raiseFault t code d).host.cmds = d.host.cmds := by simp [raiseFault]

@[simp] theorem stopRing_cmds (r cause : Nat) (d : Dev) : (stopRing r cause d).host.cmds = d.host.cmds := by
  unfold stopRing
  dsimp only
  split <;> simp [modRing, modHost, dropPacket]

@[simp] theorem stopHardware_cmds (t : Nat) (d : Dev) : (stopHardware t d).host.cmds = d.host.cmds := by
  have hempty (l : List Nat) : (l.foldl (fun a c => emptyCluster c a) d).host = d.host :=
    foldl_keeps (·.host) _ (fun a c => by simp) l d
  rw [stopHardware, dropDescs_cmds]
  simp [hempty]

@[simp] theorem cmdIds_endProgram (t status fault gc : Nat) (halted : Bool) (d : Dev) :
    cmdIds (endProgram t status fault gc halted d) = cmdIds d := by
  have hend : cmdIds (journalLaunchEnd t status fault gc (drainAll t d)) = cmdIds d := cmdIds_congr (by simp)
  unfold endProgram
  dsimp only
  split
  · exact hend
  · split
    · simpa using hend
    · rw [cmdIds_modCmd fun _ => by rfl]
      simpa using hend

@[simp] theorem cmdIds_undoLoad (t status fault : Nat) (d : Dev) : cmdIds (undoLoad t status fault d) = cmdIds d := by
  unfold undoLoad
  split <;> simp

@[simp] theorem cmdIds_revokeTenancy (t gc : Nat) (d : Dev) : cmdIds (revokeTenancy t gc d) = cmdIds d := by
  have hstop : cmdIds (stopHardware t (raiseFault t fcRevoked d)) = cmdIds d := cmdIds_congr (by simp)
  unfold revokeTenancy
  dsimp only
  (repeat' split) <;> simp [hstop]

@[simp] theorem cmdIds_shrinkTenancy (t gc : Nat) (a b : GrantRec) (d : Dev) : cmdIds (shrinkTenancy t gc a b d) = cmdIds d := by
  unfold shrinkTenancy
  dsimp only
  (repeat' split) <;> simp

@[simp] theorem cmdIds_stopRing (r cause : Nat) (d : Dev) : cmdIds (stopRing r cause d) = cmdIds d := cmdIds_congr (by simp)

@[simp] theorem cmdIds_rehomeRings (t : Nat) (a b : GrantRec) (d : Dev) : cmdIds (rehomeRings t a b d) = cmdIds d := by
  refine foldl_keeps cmdIds _ (fun e g => ?_) _ d
  (repeat' split) <;> simp

@[simp] theorem cmdIds_putRecord (t gc : Nat) (b : GrantRec) (d : Dev) : cmdIds (putRecord t gc b d) = cmdIds d := by
  unfold putRecord
  dsimp only
  split
  · rfl
  · rw [cmdIds_rehomeRings]
    split
    · exact (cmdIds_congr (by simp)).trans (cmdIds_shrinkTenancy t gc (grantOf d t) b d)
    · exact cmdIds_congr (by simp)

@[simp] theorem cmdIds_putSet (gc : Nat) (g : Nat → GrantRec) (d : Dev) : cmdIds (putSet gc g d) = cmdIds d :=
  foldl_keeps cmdIds _ (fun a t => cmdIds_putRecord t gc (g t) a) _ d

/-- A tenancy that becomes VACANT takes no command out of the control domain. -/
@[simp] theorem cmdIds_becomeVacant_any (t : Nat) (d : Dev) : cmdIds (becomeVacant t d) = cmdIds d := by
  have hvac : cmdIds (modTen t vacated (releaseUnits t (stopChannels (recTmr (grantOf d t)) d))) = cmdIds d := by
    simp [cmdIds_congr (show (stopChannels (recTmr (grantOf d t)) d).host.cmds = d.host.cmds by simp)]
  unfold becomeVacant
  dsimp only
  split
  · exact (foldl_keeps cmdIds _ (fun a (g : Nat × Ring) => cmdIds_stopRing g.1 7 a) _ _).trans hvac
  · exact hvac

@[simp] theorem cmdIds_stopForReset (t gc : Nat) (d : Dev) : cmdIds (stopForReset t gc d) = cmdIds d := by
  have hstop : cmdIds (stopHardware t (raiseFault t fcRevoked d)) = cmdIds d := cmdIds_congr (by simp)
  unfold stopForReset
  dsimp only
  split <;> simp [hstop]

theorem settledWith_finishAt_of_mem_cmdIds {d : Dev} {id : Nat} (h : id ∈ cmdIds d) (st r0 r1 gc : Nat) :
    SettledWith (finishAt id st r0 r1 gc d) id st r0 r1 := by
  obtain ⟨c, hc, rfl⟩ := List.mem_map.mp h
  exact ⟨_, List.mem_map.mpr ⟨c, hc, if_pos rfl⟩, rfl, rfl, rfl, rfl, rfl⟩

theorem mem_cmdIds_of_openCmds {d : Dev} {p : Cmd → Bool} {c : Cmd} (h : openCmds d p = [c]) : c.id ∈ cmdIds d := by
  have hc : c ∈ openCmds d p := by simp [h]
  exact List.mem_map_of_mem (List.mem_filter.mp hc).1

/-! ## A set takes effect (14 R495) -/

theorem grantOf_putRecord_same {d : Dev} (h : Rising d.grants.force) (t gc : Nat) (b : GrantRec) :
    grantOf (putRecord t gc b d) t = b := by
  unfold grantOf
  rw [putRecord_grants]
  split_ifs with hab hvac
  · exact hab
  · rw [tabGet_tabDel_same _ _ h, hvac]
  · exact tabGet_tabSet_same ..

theorem grantOf_putRecord_ne {d : Dev} (h : Rising d.grants.force) {t k : Nat} (hk : k ≠ t) (gc : Nat) (b : GrantRec) :
    grantOf (putRecord t gc b d) k = grantOf d k := by
  unfold grantOf
  rw [putRecord_grants]
  split_ifs
  · rfl
  · exact tabGet_tabDel_ne _ hk h
  · exact tabGet_tabSet_ne _ _ _ hk

theorem rising_putRecord {d : Dev} (h : Rising d.grants.force) (t gc : Nat) (b : GrantRec) :
    Rising (putRecord t gc b d).grants.force := by
  rw [putRecord_grants]
  split_ifs
  · exact h
  · exact rising_tabDel t h
  · exact rising_tabSet t b h

/-- Records put in force one after the other: those of the list stand as the set has them, the others as they were. -/
theorem grantOf_foldl_putRecord (gc : Nat) (g : Nat → GrantRec) {l : List Nat} {d : Dev} (h : Rising d.grants.force) {k : Nat}
    (hk : k ∈ l ∨ grantOf d k = g k) : grantOf (l.foldl (fun a t => putRecord t gc (g t) a) d) k = g k := by
  induction l generalizing d with
  | nil => simpa using hk
  | cons t l ih =>
    refine ih (rising_putRecord h t gc (g t)) ?_
    by_cases hkt : k = t
    · exact .inr (hkt ▸ grantOf_putRecord_same h k gc (g k))
    · rw [grantOf_putRecord_ne h hkt]
      exact hk.imp_left fun hm => (List.mem_cons.mp hm).resolve_left hkt

theorem grantOf_putSet (gc : Nat) (g : Nat → GrantRec) {d : Dev} (h : Rising d.grants.force) (k : Fin 32) :
    grantOf (putSet gc g d) k = g k := by
  refine grantOf_foldl_putRecord gc g h (.inl ?_)
  cases hkeep : keeps (grantOf d k) (g k) <;> simp [hkeep, k.isLt]

/-- Putting a set in force changes no part of the grants but the records in force. -/
theorem putSet_grants (gc : Nat) (g : Nat → GrantRec) (d : Dev) : ∃ force, (putSet gc g d).grants = { d.grants with force } := by
  refine foldl_inv (fun e => ∃ force, e.grants = { d.grants with force }) _ (fun a t ha => ?_) _ d ⟨_, rfl⟩
  obtain ⟨force, hforce⟩ := ha
  rw [putRecord_grants, hforce]
  split_ifs
  · exact ⟨_, rfl⟩
  · exact ⟨_, rfl⟩
  · exact ⟨_, rfl⟩

theorem directCommitEffect_puts {d : Dev} (hs : d.grants.state = 2) (hdue : countDue d.whl d.grants.effect = true)
    (h : Rising d.grants.force) :
    (opDirectCommitEffect d).grants.state = 3 ∧ ∀ t : Fin 32, grantOf (opDirectCommitEffect d) t = recOf d.grants.pend t := by
  have hput (t : Fin 32) := grantOf_putSet d.grants.effect (recOf d.grants.pend) h t
  unfold opDirectCommitEffect
  simp only [hs, hdue, and_self, if_true]
  split_ifs
  · exact ⟨rfl, hput⟩
  · refine ⟨?_, fun t => ?_⟩
    · simp [modGrants]
    · refine Eq.trans ?_ (hput t)
      simp [grantOf, modGrants]

theorem commitStaged_puts {d : Dev} {c : Cmd} {s : Staging} (hs : d.grants.staging = some s) (hc : c.id ∈ cmdIds d) (he : c.count ≤ s.expiry)
    (hv : setInvalid d (recOf s.recs) = none) (h : Rising d.grants.force) :
    (commitStaged c d).grants.staging = none ∧ SettledWith (commitStaged c d) c.id 0 c.count 0 ∧
      ∀ t : Fin 32, grantOf (commitStaged c d) t = recOf s.recs t := by
  have hstaging : (putSet c.count (recOf s.recs) (modGrants (fun g => { g with staging := none }) d)).grants.staging = none := by
    obtain ⟨force, hforce⟩ := putSet_grants c.count (recOf s.recs) (modGrants (fun g => { g with staging := none }) d)
    rw [hforce]
    rfl
  unfold commitStaged
  simp only [hs, hv, if_neg (Nat.not_lt.mpr he)]
  refine ⟨?_, ?_, fun t => ?_⟩
  · exact Eq.trans (by simp) hstaging
  · exact settledWith_finishAt_of_mem_cmdIds (by simpa using hc) ..
  · rw [grantOf_congr (e := putSet c.count (recOf s.recs) (modGrants (fun g => { g with staging := none }) d)) (by simp)]
    exact grantOf_putSet c.count (recOf s.recs) (d := modGrants (fun g => { g with staging := none }) d) h t

/-! ## Zeroing (14 R497) -/

/-- What a cause bit, a stopped ring and the release of units leave of a tenancy. -/
def stage (d : Dev) (k : Nat) : TenState × List (Nat × Nat) := ((tenOf d k).st, (tenOf d k).zeroing)

theorem raiseCause_stage (t b : Nat) (d : Dev) (k : Nat) : stage (raiseCause t b d) k = stage d k := by
  unfold stage
  rw [tenOf_congr (raiseCause_ten t b d)]
  by_cases h : k = t
  · subst h; simp
  · simp [h]

theorem stage_congr {d e : Dev} (h : d.ten = e.ten) (k : Nat) : stage d k = stage e k := by simp [stage, tenOf_congr h]

theorem stopRing_stage (r cause : Nat) (d : Dev) (k : Nat) : stage (stopRing r cause d) k = stage d k := by
  unfold stopRing
  dsimp only
  split
  · rw [raiseCause_stage]
    exact stage_congr (by simp [modRing, modHost, dropPacket]) k
  · exact stage_congr (by simp [modRing, modHost, dropPacket]) k

theorem releaseUnits_stage (t : Nat) (d : Dev) (k : Nat) : stage (releaseUnits t d) k = stage d k := by
  have hreset (u cause : Nat) (a : Dev) : stage (bsuReset u cause a) k = stage a k := by
    unfold bsuReset
    dsimp only
    split
    · split
      · rfl
      · rw [raiseCause_stage]; rfl
    · rfl
  refine foldl_keeps (stage · k) _ (fun a u => ?_) _ d
  split
  · exact (stage_congr (by simp) k).trans (hreset u 4 a)
  · rfl

theorem becomeVacant_stage (t : Nat) (d : Dev) : stage (becomeVacant t d) t = (.vacant, (tenOf d t).zeroing) := by
  have hvac : stage (modTen t vacated (releaseUnits t (stopChannels (recTmr (grantOf d t)) d))) t = (.vacant, (tenOf d t).zeroing) := by
    have hz := congrArg Prod.snd (releaseUnits_stage t (stopChannels (recTmr (grantOf d t)) d) t)
    simpa [stage, vacated, tenOf_congr (show (stopChannels (recTmr (grantOf d t)) d).ten = d.ten by simp)] using hz
  unfold becomeVacant
  dsimp only
  split
  · exact (foldl_keeps (stage · t) _ (fun a (g : Nat × Ring) => stopRing_stage g.1 7 a t) _ _).trans hvac
  · exact hvac

/-- A byte of a part that is zeroed reads as 0. -/
theorem byteAt_zeroParts {ps : List (Nat × Nat)} {p : Nat × Nat} (hp : p ∈ ps) {a : Nat} (hlo : p.1 ≤ a) (hhi : a < p.1 + p.2) (d : Dev) :
    byteAt (zeroParts ps d) a = 0 := by
  refine tabGet_of_no_key ?_
  have hkeep (qs : List (Nat × Nat)) (e : Dev) (h : ∀ c ∈ e.mem.cells, c.1 ≠ a) : ∀ c ∈ (zeroParts qs e).mem.cells, c.1 ≠ a :=
    foldl_inv (fun e : Dev => ∀ c ∈ e.mem.cells, c.1 ≠ a) (fun b (q : Nat × Nat) => zeroRange q.1 q.2 b)
      (fun _ _ hb c hc => hb c (List.mem_filter.mp hc).1) qs e h
  induction ps generalizing d with
  | nil => cases hp
  | cons q qs ih =>
    obtain rfl | hp := List.mem_cons.mp hp
    · refine hkeep qs _ fun c hc hca => ?_
      have hout := (List.mem_filter.mp hc).2
      simp [hca, hlo, hhi] at hout
    · exact ih hp _

theorem zeroingDone_ends {d : Dev} {t : Nat} (hs : (tenOf d t).st = .draining) (hc : coreServes d (tenCore d t) = true)
    (hd : drained d t = true) :
    (tenOf (opZeroingDone t d) t).st = .vacant ∧ (tenOf (opZeroingDone t d) t).zeroing = [] ∧
      ∀ p ∈ (tenOf d t).zeroing, ∀ a, p.1 ≤ a → a < p.1 + p.2 → byteAt (opZeroingDone t d) a = 0 := by
  have hraise (l : List Nat) (e : Dev) : stage (l.foldl (fun a u => raiseCause u 3 a) e) t = stage e t :=
    foldl_keeps (stage · t) _ (fun a u => raiseCause_stage u 3 a t) l e
  have hmem (l : List Nat) (e : Dev) : (l.foldl (fun a u => raiseCause u 3 a) e).mem = e.mem :=
    foldl_keeps (·.mem) _ (fun a u => by simp) l e
  have hcells (f : HostIf → HostIf) (l : List Nat) (e : Dev) (a : Nat) :
      byteAt (modHost f (becomeVacant t (l.foldl (fun a u => raiseCause u 3 a) e))) a = byteAt e a := by
    simp [byteAt, hmem]
  have hstage (f : HostIf → HostIf) (l : List Nat) (e : Dev) :
      stage (modHost f (becomeVacant t (l.foldl (fun a u => raiseCause u 3 a) e))) t = (.vacant, (tenOf e t).zeroing) := by
    refine (becomeVacant_stage t _).trans ?_
    exact congrArg (TenState.vacant, ·) (congrArg Prod.snd (hraise l e))
  unfold opZeroingDone
  dsimp only
  rw [if_neg (by simp [hs, hc, hd]), if_pos hs]
  refine ⟨congrArg Prod.fst (hstage _ _ _), (congrArg Prod.snd (hstage _ _ _)).trans (by simp), fun p hp a hlo hhi => ?_⟩
  rw [hcells]
  exact byteAt_zeroParts hp hlo hhi _

/-! ## Leases and resets (14 R506, R507; 15 R555) -/

theorem endLease_lease (u : Nat) (d : Dev) : (bsuOf (endLease u d) u).lease = none := by simp [endLease, bsuOf, modBsu]

theorem tenancyReset_staged {d : Dev} {c : Cmd} (hc : c.id ∈ cmdIds d) (hs : (tenOf d c.aux).st = .staged) :
    (tenOf (resetTenancy c d) c.aux).st = .vacant ∧ SettledWith (resetTenancy c d) c.id 0 c.count 0 := by
  unfold resetTenancy
  simp only [hs]
  refine ⟨?_, settledWith_finish_of_mem_cmdIds (by simpa using hc) ..⟩
  rw [tenOf_finish]
  exact congrArg Prod.fst (becomeVacant_stage c.aux _)

theorem tenancyReset_running {d : Dev} {c : Cmd} (hs : (tenOf d c.aux).st = .running) :
    (tenOf (resetTenancy c d) c.aux).st = .draining := by
  unfold resetTenancy
  simp only [hs]
  exact beginDrain_st c.aux _

theorem journalClose_journal (t : Nat) (d : Dev) : (tenOf (journalClose t d) t).journal = none := by
  unfold journalClose
  dsimp only
  split
  · simp
  next h => exact h

/-- Settles O42: a set stands record by record, whatever its changes do to tenancies, rings and commands. -/
theorem grantsChange : Obligations.GrantsChange := by
  intro d hu hctl
  have hcu : ControlUp d := ⟨hu.1, hctl⟩
  refine ⟨fun v hh hb hp => ?_, fun hh hb hp => ?_, fun hh hb hs => ?_, fun hs hm hv => ?_, fun f hs hm hv => ?_, fun hs hdue hr => ?_,
    fun c s hc hs he hv hr => ?_, fun t hs hc hd => ?_, fun k t x hk hl hdue => ?_, fun s hs hdue hno => ?_, fun c hc ha hs => ?_,
    fun c hc => ⟨fun hs => ?_, fun hs => ?_⟩, fun t hs => ?_⟩
  · refine answers_onHost hu.1 hh (fun _ => rfl) ?_
    simp [opPartCountHi, partOpen, hb, hp, modGrants, pow2_eq]
  · refine answers_onHost hu.1 hh (fun _ => rfl) ?_
    simp [opPartSync, partOpen, hb, hp, modGrants]
  · refine answers_onHost hu.1 hh (fun _ => rfl) ?_
    simp [opPartCancel, partOpen, partBusy, hb, hs, modGrants]
  · refine answers_onControl hcu (fun _ => rfl) ?_
    simp [opPartCheckDone, hs, hm, hv, modGrants]
  · refine answers_onControl hcu (fun _ => rfl) ?_
    simp [opPartCheckDone, hs, hm, hv, modGrants]
  · exact answers_onFabric hu (fun _ => rfl) (directCommitEffect_puts hs hdue hr)
  · refine answers_onFabric hu (fun _ => rfl) ?_
    have hop : opGrantChangeEffect d = commitStaged c d := by simp [opGrantChangeEffect, hc]
    rw [hop]
    exact commitStaged_puts hs (mem_cmdIds_of_openCmds hc) he hv hr
  · exact answers_onControl hcu (fun _ => rfl) (zeroingDone_ends hs hc hd)
  · refine answers_onControl hcu (fun _ => rfl) ?_
    simp [opLeaseExpiry, hk, hl, hdue, endLease_lease]
  · refine answers_onControl hcu (fun _ => rfl) ?_
    simp [opLeaseExpiry, hs, hdue, openCmds, hno, dropStaging, abortCmds, modGrants]
  · refine answers_onControl hcu (fun _ => rfl) ?_
    have hop : opLeaseRevokeEffect d = finish c.id sOk c.count 0xFE (dropStaging d) := by
      simp [opLeaseRevokeEffect, hc, revokeLease, ha, hs]
    rw [hop]
    refine ⟨by simp [dropStaging, abortCmds, modGrants], settledWith_finish_of_mem_cmdIds ?_ ..⟩
    simpa [dropStaging] using mem_cmdIds_of_openCmds hc
  · refine answers_onFabric hu (fun _ => rfl) ?_
    have hop : opTenancyResetEffect d = resetTenancy c d := by simp [opTenancyResetEffect, hc]
    rw [hop]
    exact tenancyReset_staged (mem_cmdIds_of_openCmds hc) hs
  · refine answers_onFabric hu (fun _ => rfl) ?_
    have hop : opTenancyResetEffect d = resetTenancy c d := by simp [opTenancyResetEffect, hc]
    rw [hop]
    exact tenancyReset_running hs
  · refine answers_onControl hcu (fun _ => rfl) ?_
    simp only [opJournalCloseOnVacant, if_pos hs]
    exact ⟨journalClose_journal .., fun a => by simp [byteAt]⟩

end Sys2Proof.Machine
end

section
/-!
The statement on DMA engines: descriptors, read data, departures and write data (19 R660 to R666).
-/
namespace Sys2Proof.Machine

theorem answers_onUnits {c : Instr} {d : Dev} {f : Dev → Dev} {P : Dev → Prop} (hu : UnitsUp d)
    (hc : ∀ s, exec c s = onUnits s f) (hP : P (f d)) : Answers c d P :=
  fun q => ⟨f d, (hc _).trans (onUnits_eq (s := ⟨q, d⟩) hu.1.1 hu.2 hu.1.2 f), hP⟩

/-! ## What the record of a transfer leaves of a tenancy (16 R577, R578) -/

/-- A part of a tenancy that neither its program nor its journal changes. -/
structure JournalBlind {α : Type} (F : Tenancy → α) : Prop where
  program : ∀ x p, F { x with program := p } = F x
  journal : ∀ x j, F { x with journal := j } = F x

namespace JournalBlind

variable {α : Type} {F : Tenancy → α}

theorem modTen {f : Tenancy → Tenancy} (hf : ∀ x, F (f x) = F x) (t : Nat) (d : Dev) (k : Nat) :
    F (tenOf (Machine.modTen t f d) k) = F (tenOf d k) := by
  by_cases h : k = t
  · subst h; simp [hf]
  · simp [h]

theorem modProgram (hF : JournalBlind F) (t : Nat) (f : Program → Program) (d : Dev) (k : Nat) :
    F (tenOf (Machine.modProgram t f d) k) = F (tenOf d k) := modTen (fun x => hF.program x _) t d k

theorem journalAppend (hF : JournalBlind F) (t : Nat) (r : List Byte) (d : Dev) (k : Nat) :
    F (tenOf (Machine.journalAppend t r d) k) = F (tenOf d k) := by
  unfold Machine.journalAppend
  split
  · rw [modTen fun x => hF.journal x _]
    exact congrArg F (tenOf_congr (by simp [journalWrite]) k)
  · rfl

theorem writeRef (hF : JournalBlind F) (t : Nat) (r : Xfer) (d : Dev) (k : Nat) :
    F (tenOf (Machine.writeRef t r d) k) = F (tenOf d k) := by
  unfold Machine.writeRef
  split
  · split
    · exact hF.modProgram ..
    split
    · rfl
    split
    · exact hF.journalAppend ..
    · rw [modTen fun x => hF.journal x _, hF.modProgram]
  · split
    · exact hF.modProgram ..
    · rfl
  · rfl

theorem flushRefs (hF : JournalBlind F) (t : Nat) (d : Dev) (k : Nat) : F (tenOf (Machine.flushRefs t d) k) = F (tenOf d k) := by
  unfold Machine.flushRefs
  split
  · rfl
  · exact (foldl_keeps (fun d => F (tenOf d k)) _ (fun a r => hF.writeRef t r a k) _ _).trans (hF.modProgram ..)

theorem recordRead (hF : JournalBlind F) (e : Nat) (x : DmaDesc) (d : Dev) (k : Nat) :
    F (tenOf (Machine.recordRead e x d) k) = F (tenOf d k) := by
  unfold Machine.recordRead
  split
  · exact (hF.flushRefs ..).trans (hF.modProgram ..)
  · rfl

end JournalBlind

theorem journalBlind_fault : JournalBlind (·.fault) := ⟨fun _ _ => rfl, fun _ _ => rfl⟩

/-! ## Flits at a port (19 R660, R661, R666) -/

theorem advanceTo_now (d : Dev) : advanceTo d.whl.now d = d := if_pos (le_refl _)

/-- A request to the host changes neither an engine nor what the fabric carries. -/
theorem emit_if (p : Prop) [Decidable p] (o : Out) (a : Dev) :
    dmaOf (if p then emit o a else a) = dmaOf a ∧ (if p then emit o a else a).fab = a.fab := by
  split
  · exact ⟨rfl, rfl⟩
  · exact ⟨rfl, rfl⟩

section Port

variable {d : Dev} {e : Fin 32} {x : Flight}

/-- The flit that is due at a port, clean, is taken by the event that its tag asks for. -/
theorem flitAt_clean {t : Nat} {desc : Bool} (hx : d.fab.flits.find? (fun y => y.dest == .dma e && y.due == t) = some x)
    (hecc : eccCheck x.flit = (x.flit, .clean)) (htag : (x.flit.tag == descTag && !x.flit.late) = desc) : flitAt e t desc d = some x := by
  have htake : (takeFlight (.dma e) t d).1 = some x := hx
  simp only [flitAt, htake, hecc, htag, beq_self_eq_true, if_true]

/-- The flits due at a port have left the fabric once they are taken. -/
theorem not_mem_takeFlight {t : Nat} (hx : d.fab.flits.find? (fun y => y.dest == .dma e && y.due == t) = some x) :
    x ∉ (takeFlight (.dma e) t d).2.fab.flits := by
  have hhit := List.find?_some hx
  simp only [takeFlight, List.mem_filter, not_and]
  intro _
  simpa using hhit

theorem dmaOf_raiseFault (t code : Nat) (d : Dev) (k : Nat) : dmaOf (raiseFault t code d) k = dmaOf d k := dmaOf_congr (by simp) k
theorem dmaOf_addFlight (x : Flight) (d : Dev) (k : Nat) : dmaOf (addFlight x d) k = dmaOf d k := rfl
theorem raiseFault_fab (t code : Nat) (d : Dev) : (raiseFault t code d).fab = d.fab := by simp

theorem dmaOf_takeFlight (dst : Dest) (t : Nat) (d : Dev) (k : Nat) : dmaOf (takeFlight dst t d).2 k = dmaOf d k := rfl

variable (hx : d.fab.flits.find? (fun y => y.dest == .dma e && y.due == d.whl.now) = some x)
  (hecc : eccCheck x.flit = (x.flit, .clean)) (hown : dmaOwnerOk d e x.sw x.flit = true) (hlate : x.flit.late = false)
  (hpoison : x.flit.poison = false)
include hx hecc hown hlate hpoison

theorem dmaDescriptor_accepted (htag : x.flit.tag = 0x3FF) (hacc : descAccepted d e x.flit.ten.toNat x.flit.data = true) :
    ∃ y : DmaDesc, (dmaOf (opDmaDescriptor e d.whl.now d) e).pend = (dmaOf d e).pend ++ [y] ∧
      y.read = (descKind x.flit.data == 1) ∧ y.n = descN x.flit.data ∧ y.tick = descTick x.flit.data ∧ y.lap = descLap x.flit.data ∧
      y.addr = descAddr x.flit.data ∧ y.ten = x.flit.ten.toNat ∧ y.next = 0 ∧
      (dmaOf (opDmaDescriptor e d.whl.now d) e).descErr = (dmaOf d e).descErr ∧ x ∉ (opDmaDescriptor e d.whl.now d).fab.flits := by
  have hat : flitAt e d.whl.now true d = some x := flitAt_clean hx hecc (by simp [htag, hlate, descTag])
  have hown' : dmaOwnerOk (takeFlight (.dma e) d.whl.now d).2 e x.sw x.flit = true := hown
  have hacc' : descAccepted (takeFlight (.dma e) d.whl.now d).2 e x.flit.ten.toNat x.flit.data = true := hacc
  have hnot := not_mem_takeFlight hx
  unfold opDmaDescriptor
  simp only [lt_irrefl, if_false, advanceTo_now, hat, hecc, countEcc]
  simp only [hown', hacc', hpoison, Bool.not_true, Bool.false_eq_true, if_false]
  rw [(emit_if _ _ _).1, (emit_if _ _ _).2, dmaOf_modDma_same, dmaOf_takeFlight]
  exact ⟨_, rfl, rfl, rfl, rfl, rfl, rfl, rfl, rfl, rfl, hnot⟩

theorem dmaDescriptor_refused (htag : x.flit.tag = 0x3FF) (hacc : descAccepted d e x.flit.ten.toNat x.flit.data = false)
    (hstop : (tenOf d x.flit.ten.toNat).stopDue = false) :
    (dmaOf (opDmaDescriptor e d.whl.now d) e).pend = (dmaOf d e).pend ∧
      (dmaOf (opDmaDescriptor e d.whl.now d) e).descErr = satInc (dmaOf d e).descErr ∧
      (tenOf (opDmaDescriptor e d.whl.now d) x.flit.ten.toNat).fault = 0x0C := by
  have hat : flitAt e d.whl.now true d = some x := flitAt_clean hx hecc (by simp [htag, hlate, descTag])
  have hop : opDmaDescriptor e d.whl.now d = raiseFault x.flit.ten.toNat fcDma
      (modDma e (fun x => { x with descErr := satInc x.descErr }) (takeFlight (.dma e) d.whl.now d).2) := by
    have hown' : dmaOwnerOk (takeFlight (.dma e) d.whl.now d).2 e x.sw x.flit = true := hown
    have hacc' : descAccepted (takeFlight (.dma e) d.whl.now d).2 e x.flit.ten.toNat x.flit.data = false := hacc
    unfold opDmaDescriptor
    simp only [lt_irrefl, if_false, advanceTo_now, hat, hecc, countEcc]
    simp only [hown', hacc', hpoison, Bool.not_true, Bool.not_false, Bool.false_eq_true, if_false, if_true]
  have hdma : dmaOf (opDmaDescriptor e d.whl.now d) e = { dmaOf d e with descErr := satInc (dmaOf d e).descErr } := by
    rw [hop, dmaOf_raiseFault, dmaOf_modDma_same, dmaOf_takeFlight]
  refine ⟨by rw [hdma], by rw [hdma], ?_⟩
  rw [hop]
  refine (raiseFault_first _ fcDma _ ?_).1
  exact hstop

/-- The write-data flit that a pending WRITE expects joins the queue of its engine. -/
theorem dmaWriteArrival_queues {y : DmaDesc} (htag : x.flit.tag ≠ 0x3FF) (hdue : dueDesc d e false = some y)
    (hten : y.ten = x.flit.ten.toNat) (hroom : (dmaOf d e).writeQ.length < 64) :
    (dmaOf (opDmaWriteArrival e d.whl.now d) e).writeFlits = satInc (dmaOf d e).writeFlits ∧
      (dmaOf (opDmaWriteArrival e d.whl.now d) e).writeQ = (dmaOf d e).writeQ ++
        [{ fn := recFunction (grantOf d y.ten), ten := y.ten, addr := y.addr + 64 * y.next, data := x.flit.data, at_ := d.whl.now }] := by
  have hat : flitAt e d.whl.now false d = some x := flitAt_clean hx hecc (by simpa [descTag] using fun h => absurd h htag)
  have hown' : dmaOwnerOk (takeFlight (.dma e) d.whl.now d).2 e x.sw x.flit = true := hown
  have hdue' : (dueDesc (takeFlight (.dma e) d.whl.now d).2 e false).filter (fun z => z.ten == x.flit.ten.toNat) = some y := by
    have h : dueDesc (takeFlight (.dma e) d.whl.now d).2 e false = some y := hdue
    simp [h, hten]
  have hroom' : ¬ 64 ≤ (dmaOf (stepDesc e y (takeFlight (.dma e) d.whl.now d).2) e).writeQ.length := by
    simpa [stepDesc, dmaOf_takeFlight] using hroom
  unfold opDmaWriteArrival
  simp only [lt_irrefl, if_false, advanceTo_now, hat, hecc, countEcc]
  simp only [hown', hdue', hpoison, hlate, hroom', Bool.not_true, Bool.false_eq_true, if_false]
  rw [hten]
  constructor
  · simp [stepDesc, dmaOf_takeFlight]
  · simp [stepDesc, dmaOf_takeFlight]; rfl

end Port

/-! ## Read data and departures (19 R663 to R665) -/

/-- The flit of a descriptor whose data comes holds it; the others wait on. -/
theorem settleFlit_waiting {lap tick : Nat} {y : DmaDesc} (hh : holdsFlit lap tick y = true) (hf : y.flits = List.replicate y.n .waiting)
    (r : RdFlit) : (settleFlit lap tick r y).n = y.n ∧ (settleFlit lap tick r y).flits.getD (tick - y.tick) .failed = r ∧
      ∀ i < y.n, i ≠ tick - y.tick → (settleFlit lap tick r y).flits.getD i .failed = .waiting := by
  have hin : tick - y.tick < y.n := by
    simp only [holdsFlit, Bool.and_eq_true, decide_eq_true_eq] at hh
    omega
  unfold settleFlit
  rw [if_pos hh]
  refine ⟨rfl, ?_, fun i hi hne => ?_⟩
  · simp [hf, hin]
  · simp [hf, hi, hne]

section Departure

variable {d : Dev} {e : Fin 32} {y : DmaDesc}

/-- The record of a transfer whose last flit has departed concerns the journal alone. -/
theorem recordRead_last (p : Prop) [Decidable p] (a : Dev) :
    dmaOf (if p then recordRead e y a else a) e = dmaOf a e ∧ (if p then recordRead e y a else a).fab = a.fab ∧
      ∀ k, (tenOf (if p then recordRead e y a else a) k).fault = (tenOf a k).fault := by
  split
  · exact ⟨dmaOf_congr (by simp) e, by simp, fun k => journalBlind_fault.recordRead e y a k⟩
  · exact ⟨rfl, rfl, fun _ => rfl⟩

variable (hdue : dueDesc d e true = some y)
include hdue

theorem dmaReadDeparture_data {l : Line} {poison : Bool} {at_ : Nat} (hy : y.flits.getD y.next .failed = .data l poison at_)
    (hat : at_ + 4 ≤ d.whl.now) :
    (dmaOf (opDmaReadDeparture e d.whl.now d) e).readFlits = satInc (dmaOf d e).readFlits ∧
      { dest := .swIn (islOfDma e) (20 + e % 4), due := d.whl.now + 2, sw := d.whl.now + 2, flit := sealFlit
          { data := l, ten := BitVec.ofNat 6 y.ten, tag := tagAt y.tag y.next, late := false, poison := poison, ecc := 0 } } ∈
        (opDmaReadDeparture e d.whl.now d).fab.flits := by
  unfold opDmaReadDeparture
  simp only [lt_irrefl, if_false, advanceTo_now, hdue, hy, if_pos hat]
  rw [(recordRead_last _ _).1, (recordRead_last _ _).2.1]
  constructor
  · rw [dmaOf_addFlight]
    simp [stepDesc]
  · simp [addFlight, dmaIsl, dmaPort]

theorem dmaReadDeparture_waiting (hy : y.flits.getD y.next .failed = .waiting) (hstop : (tenOf d y.ten).stopDue = false) :
    (dmaOf (opDmaReadDeparture e d.whl.now d) e).starved = satInc (dmaOf d e).starved ∧
      (tenOf (opDmaReadDeparture e d.whl.now d) y.ten).fault = 0x0C ∧
      (y.lap, y.tick + y.next) ∈ (dmaOf (opDmaReadDeparture e d.whl.now d) e).owed ∧
      { dest := .swIn (islOfDma e) (20 + e % 4), due := d.whl.now + 2, sw := d.whl.now + 2, flit := voidFlit y.ten (tagAt y.tag y.next) } ∈
        (opDmaReadDeparture e d.whl.now d).fab.flits := by
  unfold opDmaReadDeparture
  simp only [lt_irrefl, if_false, advanceTo_now, hdue, hy]
  rw [(recordRead_last _ _).1, (recordRead_last _ _).2.1, (recordRead_last _ _).2.2, dmaOf_raiseFault,
    raiseFault_fab, dmaOf_addFlight]
  refine ⟨by simp [stepDesc], (raiseFault_first y.ten fcDma _ ?_).1, by simp [stepDesc], by simp [addFlight, dmaIsl, dmaPort]⟩
  exact hstop

end Departure

/-- A port tick with no flit on its way to the port has no write flit. -/
theorem flitAt_of_no_flight {d : Dev} {e t : Nat} {desc : Bool} (h : ∀ z ∈ d.fab.flits, z.dest ≠ .dma e) : flitAt e t desc d = none := by
  have htake : (takeFlight (.dma e) t d).1 = none := List.find?_eq_none.mpr fun z hz => by simp [h z hz]
  simp only [flitAt, htake]

/-- Settles O44: for each event, the device is as the flit or descriptor it finds asks. -/
theorem dmaEngines : Obligations.DmaEngines := by
  rintro d e t x hu rfl
  refine ⟨fun hx hecc hown htag hlate hpoison hacc => ?_, fun hx hecc hown htag hlate hpoison hacc hstop => ?_,
    fun lap tick data poison y howed hpend hh hf => ?_, fun lap tick data poison howed => ?_, fun y l poison at_ hdue hy hat => ?_,
    fun y hdue hy hstop => ?_, fun y hx hecc hown htag hlate hpoison hdue hten hroom => ?_, fun y hno hdue => ?_, fun n w hq hiss => ?_⟩
  · exact answers_onUnits hu (fun _ => rfl) (dmaDescriptor_accepted hx hecc hown hlate hpoison htag hacc)
  · exact answers_onUnits hu (fun _ => rfl) (dmaDescriptor_refused hx hecc hown hlate hpoison htag hacc hstop)
  · refine answers_onUnits hu (fun _ => rfl) ⟨settleFlit lap tick.toNat (.data data poison d.whl.now) y, ?_, settleFlit_waiting hh hf _⟩
    simp [opDmaReadCompletion, howed, hpend]
  · refine answers_onUnits hu (fun _ => rfl) ?_
    simp [opDmaReadCompletion, howed]
  · exact answers_onUnits hu (fun _ => rfl) (dmaReadDeparture_data hdue hy hat)
  · exact answers_onUnits hu (fun _ => rfl) (dmaReadDeparture_waiting hdue hy hstop)
  · exact answers_onUnits hu (fun _ => rfl) (dmaWriteArrival_queues hx hecc hown hlate hpoison htag hdue hten hroom)
  · refine answers_onUnits hu (fun _ => rfl) ?_
    simp [opDmaWriteShort, flitAt_of_no_flight hno, advanceTo_now, hdue, stepDesc]
  · refine answers_onUnits hu (fun _ => rfl) ?_
    simp only [opDmaHostWrite, hq, hiss, if_true]
    simp [runLength, runLength.go, emit, modDma, dmaOf]

end Sys2Proof.Machine
end

section
/-!
The statement on errors, masks, cause bits and resets of the host link (19 R647, R652, R655 to R658; 23 R772).
-/
namespace Sys2Proof.Machine

/-! ## Messages change the masks of a function alone -/

/-- A part of a function that its vector table does not hold. -/
def MsixBlind {α : Type} (F : Func → α) : Prop := ∀ x m, F { x with msix := m } = F x

theorem funcOf_of_func {d e : Dev} (h : d.host.func = e.host.func) (k : Nat) : funcOf d k = funcOf e k := by simp [funcOf, h]

theorem funcOf_modFunc_part {α : Type} {F : Func → α} {f : Func → Func} (hf : ∀ x, F (f x) = F x) (fn : Nat) (d : Dev) (k : Nat) :
    F (funcOf (modFunc fn f d) k) = F (funcOf d k) := by
  by_cases h : k = fn
  · subst h; simp [hf]
  · simp [h]

namespace MsixBlind

variable {α : Type} {F : Func → α}

theorem sendMsix (hF : MsixBlind F) (fn v : Nat) (d : Dev) (k : Nat) : F (funcOf (Machine.sendMsix fn v d) k) = F (funcOf d k) := by
  unfold Machine.sendMsix
  dsimp only
  split
  · rfl
  split
  · exact funcOf_modFunc_part (fun x => hF x _) fn d k
  · exact congrArg F (funcOf_of_func (issueOut_tables ..).2.2.2.2 k)

theorem raiseCause (hF : MsixBlind F) (t b : Nat) (d : Dev) (k : Nat) : F (funcOf (Machine.raiseCause t b d) k) = F (funcOf d k) := by
  unfold Machine.raiseCause
  dsimp only
  split
  · exact hF.sendMsix ..
  · rfl

theorem raiseDev (hF : MsixBlind F) (b : Nat) (d : Dev) (k : Nat) : F (funcOf (Machine.raiseDev b d) k) = F (funcOf d k) := by
  unfold Machine.raiseDev
  dsimp only
  split
  · exact hF.sendMsix ..
  · rfl

theorem stopRing (hF : MsixBlind F) (r cause : Nat) (d : Dev) (k : Nat) : F (funcOf (Machine.stopRing r cause d) k) = F (funcOf d k) := by
  unfold Machine.stopRing
  dsimp only
  split
  · exact (hF.raiseCause ..).trans (hF.sendMsix ..)
  · exact (hF.raiseDev ..).trans (hF.sendMsix ..)

theorem writeReply (hF : MsixBlind F) (c : Cmd) (d : Dev) (k : Nat) :
    F (funcOf (Machine.writeReply (fun _ o x => emit o x) c d) k) = F (funcOf d k) := by
  unfold Machine.writeReply
  dsimp only
  split
  · exact hF.sendMsix ..
  · rfl

/-- The end of a read that failed. -/
theorem failFetch (hF : MsixBlind F) (f : Fetch) (came : List Byte) (d : Dev) (k : Nat) :
    F (funcOf (Machine.failFetch f came d) k) = F (funcOf d k) := by
  unfold Machine.failFetch
  split
  · exact hF.raiseDev ..
  · unfold fetchFailed
    split
    · split
      · exact hF.stopRing ..
      · rfl
    · rfl
    · rfl
    · rfl

end MsixBlind

/-- No read comes back through the end of one that failed. -/
theorem mem_fetches_failFetch {f : Fetch} {came : List Byte} {d : Dev} {g : Fetch} (h : g ∈ (failFetch f came d).host.fetches) :
    g ∈ d.host.fetches := by
  unfold failFetch at h
  split at h
  · simpa [bootFail, bootStatus, mailMessage] using h
  · unfold fetchFailed at h
    split at h
    · split at h
      · unfold stopRing at h
        dsimp only at h
        split at h
        · simp [modRing, modHost, dropPacket] at h
          exact h.1
        · simp [modRing, modHost, dropPacket] at h
          exact h.1
      · exact h
    · exact h
    · exact h
    · exact h

/-! ## Masks and errors (19 R645, R652, R655, R656) -/

/-- The one message that a vector withheld is sent. -/
theorem sendWithheld_one {a : Dev} {fn v : Nat} (hiss : canIssue a fn = true) (hmask : (tabGet {} (funcOf a fn).msix v).mask = false)
    (hall : (funcOf a fn).mask = false) (hone : (tabGet {} (funcOf a fn).msix v).withheld = 1) :
    sendWithheld fn v a = emit (.msix fn v (tabGet {} (funcOf a fn).msix v).addr (tabGet {} (funcOf a fn).msix v).data)
      (modFunc fn (fun f => { f with msix := tabSet v { tabGet {} (funcOf a fn).msix v with withheld := 0 } f.msix }) a) := by
  unfold sendWithheld
  simp only [hmask, hall, hone, Bool.or_self, Nat.reduceBEq, Bool.false_eq_true, if_false, List.replicate_one, List.foldl_cons,
    List.foldl_nil]
  refine issueOut_of_canIssue ?_ _
  simpa [canIssue] using hiss

theorem msixUnmask_sends {d : Dev} {fn v : Nat} (hh : hostOpen d fn = true) (hv : v < tableSize fn) (hiss : canIssue d fn = true)
    (hmask : (funcOf d fn).mask = false) (hone : (tabGet {} (funcOf d fn).msix v).withheld = 1) :
    (opMsixUnmask fn (some v) d).host.posted =
        d.host.posted ++ [.msix fn v (tabGet {} (funcOf d fn).msix v).addr (tabGet {} (funcOf d fn).msix v).data] ∧
      (tabGet {} (funcOf (opMsixUnmask fn (some v) d) fn).msix v).mask = false ∧
      (tabGet {} (funcOf (opMsixUnmask fn (some v) d) fn).msix v).withheld = 0 := by
  have hfunc (o : Out) (a : Dev) : funcOf (emit o a) fn = funcOf a fn := rfl
  unfold opMsixUnmask
  simp only [hh, Bool.not_true, Bool.false_eq_true, if_false, if_neg (Nat.not_le.mpr hv)]
  rw [sendWithheld_one (by simpa [canIssue] using hiss) (by simp) (by simpa using hmask) (by simpa using hone), hfunc]
  refine ⟨?_, by simp, by simp⟩
  simp [modFunc, funcOf]

theorem no_bits : (List.range 32).filter (bit (0 : BitVec 32).toNat) = [] := by decide

/-- A cause bit that no event sets again is cleared with no message. -/
theorem causeClear_quiet {d : Dev} {mask occurs : W32} (hb : booted d = true) (hclear : mask &&& occurs &&& d.host.dcause = 0) :
    (opCauseClear 0 none mask occurs d).host.dcause = d.host.dcause &&& ~~~(mask &&& ~~~occurs) ∧
      (opCauseClear 0 none mask occurs d).host.posted = d.host.posted ∧ (opCauseClear 0 none mask occurs d).ten = d.ten := by
  have hagain : mask &&& occurs &&& d.host.dcause &&& d.host.denable = 0 := by rw [hclear]; simp
  have hop : opCauseClear 0 none mask occurs d = putCause none (d.host.dcause &&& ~~~(mask &&& ~~~occurs)) d := by
    simp only [opCauseClear, hb, intrReach, clearCause, causeOf, enableOf, hagain, no_bits]
    rfl
  rw [hop]
  exact ⟨rfl, rfl, rfl⟩

/-- Enables that meet no cause bit that is set send no message. -/
theorem causeEnable_quiet {d : Dev} {v : W32} (hb : booted d = true) (hclear : v &&& d.host.dcause = 0) :
    (opCauseEnable 0 none v d).host.denable = v &&& 8191 ∧ (opCauseEnable 0 none v d).host.dcause = d.host.dcause ∧
      (opCauseEnable 0 none v d).host.posted = d.host.posted := by
  have hfresh : v &&& 8191 &&& ~~~d.host.denable &&& d.host.dcause = 0 := by
    have hac : v &&& 8191 &&& ~~~d.host.denable &&& d.host.dcause = v &&& d.host.dcause &&& (8191 &&& ~~~d.host.denable) := by ac_rfl
    rw [hac, hclear]; simp
  have hop : opCauseEnable 0 none v d = putEnable none (v &&& 8191) d := by
    simp only [opCauseEnable, hb, intrReach, setEnable, causeOf, enableOf, causeBits]
    simp only [show BitVec.ofNat 32 8191 = 8191 from rfl, hfresh, no_bits]
    rfl
  rw [hop]
  exact ⟨rfl, rfl, rfl⟩

theorem completionTimeout_latches {d : Dev} {id : Nat} {f : Fetch} (h : d.host.fetches.find? (fun f => f.id == id) = some f) (came : List Byte) :
    bit (funcOf (opCompletionTimeout (.fetch id came) d) f.fn).aerUnc.toNat 14 = true ∧
      ∀ g ∈ (opCompletionTimeout (.fetch id came) d).host.fetches, g.id ≠ id := by
  have hfind (fn b : Nat) : (takeFetch id (aerUnc fn b d)).1 = some f := h
  have hop : opCompletionTimeout (.fetch id came) d = failFetch f came (takeFetch id (aerUnc f.fn 14 d)).2 := by
    simp only [opCompletionTimeout, failRead, readFn, h, hfind]
  rw [hop]
  constructor
  · have hfunc (a : Dev) : funcOf (takeFetch id a).2 f.fn = funcOf a f.fn := rfl
    rw [MsixBlind.failFetch (F := (·.aerUnc)) (fun _ _ => rfl), hfunc]
    simpa [aerUnc] using bit_or_pow2 (funcOf d f.fn).aerUnc (n := 14) (by decide)
  · intro g hg
    have hmem := (List.mem_filter.mp (mem_fetches_failFetch hg)).2
    simpa using hmem

/-! ## Function-level reset (19 R642, R657, R658) -/

/-- A part of the host interface that a request which is issued or waits does not change. -/
def RequestBlind {α : Type} (F : HostIf → α) : Prop := ∀ fn o d, F (issueOut fn o d).host = F d.host

namespace RequestBlind

variable {α : Type} {F : HostIf → α}

theorem writeRef (hF : RequestBlind F) (t : Nat) (r : Xfer) (d : Dev) : F (Machine.writeRef t r d).host = F d.host := by
  have happend (r : List Byte) : F (journalAppend t r d).host = F d.host := by
    unfold journalAppend
    split
    · exact hF ..
    · rfl
  unfold Machine.writeRef
  split
  · split
    · rfl
    split
    · rfl
    split
    · exact happend _
    · rfl
  · split <;> rfl
  · rfl

theorem dropDescs (hF : RequestBlind F) (t : Nat) (d : Dev) : F (Machine.dropDescs t d).host = F d.host := by
  refine foldl_keeps (F ·.host) _ (fun a r => ?_) _ _
  unfold recordXfer flushRefs
  split
  · rfl
  · exact foldl_keeps (F ·.host) _ (fun a r => hF.writeRef t r a) _ _

end RequestBlind

theorem requestBlind_func : RequestBlind (·.func) := fun _ _ _ => by simp
theorem requestBlind_rings : RequestBlind (·.rings) := fun _ _ _ => by simp

theorem writeReply_st (c : Cmd) (d : Dev) (k : Nat) :
    (ringOf (writeReply (fun _ o x => emit o x) c d) k).st = (ringOf d k).st := by
  have hring (f : Ring → Ring) (hf : ∀ g, (f g).st = g.st) (i : HostIf → HostIf) (hi : ∀ h, (i h).rings = h.rings) (a : Dev) :
      (ringOf (modHost i (modRing c.ring f a)) k).st = (ringOf a k).st := by
    rw [ringOf_modHost hi]
    by_cases h : k = c.ring
    · subst h; simp [hf]
    · simp [h]
  unfold writeReply
  dsimp only
  split
  · rw [ringOf_of_rings (sendMsix_tables ..).1]
    exact hring _ (fun _ => by rfl) _ (fun _ => by rfl) _
  · exact hring _ (fun _ => by rfl) _ (fun _ => by rfl) _

/-- What a reset of a function drops and answers before it clears the function's rings: no ring changes its state, no function its
enable. -/
theorem foldl_startFlr (ts : List Nat) (f : Tenancy → Tenancy) (cs : List Cmd) (g : Cmd → Cmd) (d : Dev) (k : Nat) :
    (ringOf (cs.foldl (fun a c => writeReply (fun _ o x => emit o x) (g c) a) (ts.foldl (fun a t => dropDescs t (modTen t f a)) d)) k).st =
        (ringOf d k).st ∧
      (funcOf (cs.foldl (fun a c => writeReply (fun _ o x => emit o x) (g c) a) (ts.foldl (fun a t => dropDescs t (modTen t f a)) d)) k).enabled =
        (funcOf d k).enabled := by
  constructor
  · refine (foldl_keeps (fun a => (ringOf a k).st) _ (fun a c => writeReply_st (g c) a k) _ _).trans ?_
    refine foldl_keeps (fun a => (ringOf a k).st) _ (fun a t => ?_) _ _
    rw [ringOf_of_rings (requestBlind_rings.dropDescs t (modTen t f a))]
    rfl
  · refine (foldl_keeps (fun a => (funcOf a k).enabled) _
      (fun a c => MsixBlind.writeReply (F := (·.enabled)) (fun _ _ => rfl) (g c) a k) _ _).trans ?_
    refine foldl_keeps (fun a => (funcOf a k).enabled) _ (fun a t => ?_) _ _
    rw [funcOf_of_func (requestBlind_func.dropDescs t (modTen t f a))]
    rfl

theorem startFlr_enabled (fn : Nat) (d : Dev) (k : Nat) : (funcOf (startFlr fn d) k).enabled = (funcOf d k).enabled := by
  unfold startFlr
  dsimp only
  exact (funcOf_modFunc_part (F := (·.enabled)) (fun _ => by rfl) ..).trans (foldl_startFlr _ _ _ _ d k).2

/-- An entry that a table lists changes as the map of the table says. -/
theorem tabGet_map_listed {α : Type} {e : α} {g : Nat × α → Nat × α} (hk : ∀ x, (g x).1 = x.1) {t : Tab α} {k : Nat}
    (h : tabGet e t k ≠ e) : tabGet e (t.map g) k = (g (k, tabGet e t k)).2 := by
  induction t with
  | nil => exact absurd rfl h
  | cons x t ih =>
    obtain ⟨i, a⟩ := x
    have hx : (g (i, a)).1 = i := hk (i, a)
    rw [List.map_cons, ← Prod.mk.eta (p := g (i, a)), hx]
    simp only [tabGet] at h ⊢
    split_ifs at h ⊢ with hik hki
    · rw [hik]
    · exact absurd rfl h
    · exact ih h

theorem ringOf_startFlr {d : Dev} {fn r : Nat} (hs : (ringOf d r).st ≠ .unassigned) (hf : (ringOf d r).function = fn) :
    (ringOf (startFlr fn d) r).st = .ready ∧ (ringOf (startFlr fn d) r).cause = 8 := by
  have hreset : ∃ g, ringOf (startFlr fn d) r = resetRing g := by
    unfold startFlr
    dsimp only
    refine ⟨_, (tabGet_map_listed (fun x => ?_) fun h => ?_).trans (congrArg Prod.snd (if_pos ?_))⟩
    · split <;> rfl
    · exact hs ((foldl_startFlr _ _ _ _ d r).1.symm.trans (congrArg Ring.st h))
    · simp [hs, hf]
  obtain ⟨g, hg⟩ := hreset
  rw [hg]
  exact ⟨rfl, rfl⟩

/-- What a reset leaves of its own function and its reads. -/
theorem startFlr_own (fn : Nat) (d : Dev) : (funcOf (startFlr fn d) fn).flr = true ∧ (funcOf (startFlr fn d) fn).msix = [] ∧
    (funcOf (startFlr fn d) fn).flrAt = nextBoundary d.whl ∧ ∀ f ∈ (startFlr fn d).host.fetches, f.fn ≠ fn := by
  unfold startFlr
  dsimp only
  rw [funcOf_modFunc_same]
  refine ⟨rfl, rfl, rfl, fun f hf => ?_⟩
  have hmem := (List.mem_filter.mp hf).2
  simpa using hmem

/-- A step of a fold that brings a property about, which the others keep. -/
theorem foldl_reaches {β : Type} {P : Dev → Prop} {g : Dev → β → Dev} (hkeep : ∀ a y, P a → P (g a y)) {x : β} (hx : ∀ a, P (g a x))
    {l : List β} (hm : x ∈ l) (d : Dev) : P (l.foldl g d) := by
  induction l generalizing d with
  | nil => cases hm
  | cons y l ih =>
    obtain rfl | hm := List.mem_cons.mp hm
    · exact foldl_inv P g (fun a y ha => hkeep a y ha) l _ (hx d)
    · exact ih hm _

theorem vfEnableClear_disables (d : Dev) {k : Fin 64} (hk : k ≠ 0) : (funcOf (opVfEnableClear d) k).enabled = false := by
  have hpos : k.val ≠ 0 := fun h => hk (Fin.ext h)
  refine foldl_reaches (P := fun a => (funcOf a k).enabled = false) (x := k.val - 1) (fun a y ha => ?_) (fun a => ?_)
    (List.mem_range.mpr (by omega)) d
  · dsimp only
    split
    · by_cases hy : k.val = y + 1
      · rw [hy, funcOf_modFunc_same]
      · rw [funcOf_modFunc_ne _ _ hy]
        split
        · exact ha
        · rwa [startFlr_enabled]
    · exact ha
  · rw [Nat.sub_add_cancel (Nat.one_le_iff_ne_zero.mpr hpos)]
    dsimp only
    split
    · rw [funcOf_modFunc_same]
    next h => simpa using h

/-- Settles O45: masks, errors and resets of a function, each by what its messages and requests leave alone. -/
theorem hostLinkEvents : Obligations.HostLinkEvents := by
  intro d fn hu
  refine ⟨fun mask occurs hh hb hclear => ?_, fun v hh hb hclear => ?_, fun v hh hv hiss hmask hone => ?_, fun id f came hfind => ?_,
    ?_, ?_, ?_, ?_, fun hfn hen hflr => ?_, fun hflr hdue => ?_, ?_, fun id r f data hfind hwhy hlen hfet => ?_, fun on hres hon => ?_⟩
  · exact answers_onHost hu.1 hh (fun _ => rfl) (causeClear_quiet hb hclear)
  · exact answers_onHost hu.1 hh (fun _ => rfl) (causeEnable_quiet hb hclear)
  · exact answers_onControl hu (fun _ => rfl) (msixUnmask_sends hh hv hiss hmask hone)
  · exact answers_onControl hu (fun _ => rfl) (completionTimeout_latches hfind came)
  · refine answers_onDev hu.1 (fun _ => rfl) ⟨?_, rfl⟩
    simpa [opPcieErrorReceived, aerCor] using bit_or_pow2 (funcOf d 0).aerCor (n := 6) (by decide)
  · refine answers_onDev hu.1 (fun _ => rfl) ⟨?_, rfl⟩
    simpa [opPcieErrorReceived, aerUnc] using bit_or_pow2 (funcOf d fn).aerUnc (n := 12) (by decide)
  · refine answers_onDev hu.1 (fun _ => rfl) ⟨?_, rfl⟩
    have hfunc (o : Out) (a : Dev) : funcOf (emit o a) fn = funcOf a fn := rfl
    simpa [opUnsupportedRequest, aerUnc, hfunc] using bit_or_pow2 (funcOf d fn).aerUnc (n := 20) (by decide)
  · refine answers_onDev hu.1 (fun _ => rfl) ⟨?_, rfl⟩
    simpa [opUnsupportedRequest, aerUnc] using bit_or_pow2 (funcOf d fn).aerUnc (n := 20) (by decide)
  · refine answers_onDev hu.1 (fun _ => rfl) ?_
    have hop : opFunctionLevelReset fn d = startFlr fn d := if_pos ⟨fun h => hfn (Fin.ext h), hen, hflr⟩
    rw [hop]
    obtain ⟨hset, hmsix, hat, hfetch⟩ := startFlr_own fn.val d
    exact ⟨hset, hmsix, hat, fun r hs hf => ringOf_startFlr hs hf, hfetch⟩
  · refine answers_onControl hu (fun _ => rfl) ?_
    simp [opFlrComplete, hflr, hdue]
  · exact answers_onDev hu.1 (fun _ => rfl) fun k hk => vfEnableClear_disables d hk
  · refine answers_onControl hu (fun _ => rfl) ?_
    have hfet' : (ringOf (takeFetch id d).2 r).fetching = true := hfet
    have hfind' : (takeFetch id d).1 = some f := hfind
    simp [opFetchCompletion, hfind', hlen, hwhy, fetchDone, hfet']
  · refine answers_onDev hu.1 (fun _ => rfl) ?_
    simp only [opBusMasterEnable, hres, Bool.false_eq_true, if_false]
    cases on with
    | false => simp [releaseBlocked, canIssue, modFunc, funcOf]
    | true =>
      have hblocked : (modFunc fn (fun f => { f with bme := true, enabled := true }) d).host.blocked = [] := hon rfl
      unfold releaseBlocked
      split
      · refine ⟨by simp [modHost, modFunc, funcOf], ?_⟩
        simp only [modHost, hblocked, List.filter_nil, List.map_nil, List.append_nil]
        rfl
      · exact ⟨by simp, rfl⟩

end Sys2Proof.Machine
end

section
/-!
The statement on REGISTER_WRITE: what it writes, block by block, and what it leaves alone (23 R759 to R761, Tables REG-3 to REG-13; 00 R17).
-/
namespace Sys2Proof.Machine

/-! ## Where a write goes (Table REG-1) -/

theorem controlUp_of_hostOpen {d : Dev} {fn : Nat} (h : hostOpen d fn = true) : controlUp d = true := by
  simp only [hostOpen, Bool.and_eq_true] at h
  exact h.1.2

theorem opRegisterWrite_open {d : Dev} {fn off : Nat} (hh : hostOpen d fn = true) (h4 : off % 4 = 0) (v droop : W32) :
    opRegisterWrite fn off v droop d = writeReg fn false off v droop d := by simp [opRegisterWrite, hh, h4]

/-- A write of an open function at an aligned offset. -/
theorem answers_registerWrite {d : Dev} {fn : Fin 64} {off : BitVec 21} {v droop : W32} {P : Dev → Prop} (hl : d.boot.lost = false)
    (hh : hostOpen d fn = true) (o : Nat) (ho : off.toNat = o) (h4 : o % 4 = 0) (hP : P (writeReg fn false o v droop d)) :
    Answers (.registerWrite fn off v droop) d P := by
  refine answers_onControl ⟨hl, controlUp_of_hostOpen hh⟩ (fun _ => rfl) ?_
  rw [ho, opRegisterWrite_open hh h4]
  exact hP

theorem toNat_offset {n : Nat} (h : n < 2 ^ 21) : (BitVec.ofNat 21 n).toNat = n := by rw [BitVec.toNat_ofNat, Nat.mod_eq_of_lt h]

section Blocks

variable {d : Dev} (hb : booted d = true) {off : Nat} (v droop : W32)
include hb

theorem writeReg_part (h : off < 0x3000) : writeReg 0 false (0x20000 + off) v droop d = writePart off v d := by
  have h1 : ¬ (0x1000 ≤ 0x20000 + off ∧ 0x20000 + off < 0x2000) := by omega
  have h2 : ¬ (0x2000 ≤ 0x20000 + off ∧ 0x20000 + off < 0x3000) := by omega
  have h3 : ¬ (0x10000 ≤ 0x20000 + off ∧ 0x20000 + off < 0x11000) := by omega
  have h4 : 0x20000 ≤ 0x20000 + off ∧ 0x20000 + off < 0x23000 := by omega
  simp only [writeReg, if_neg h1, if_neg h2, if_neg h3, if_pos h4, hb, Nat.add_sub_cancel_left]
  rfl

theorem writeReg_intr (fn : Nat) (h : off < 0x10000) : writeReg fn false (0x40000 + off) v droop d = writeIntr fn false off v d := by
  have h1 : ¬ (0x1000 ≤ 0x40000 + off ∧ 0x40000 + off < 0x2000) := by omega
  have h2 : ¬ (0x2000 ≤ 0x40000 + off ∧ 0x40000 + off < 0x3000) := by omega
  have h3 : ¬ (0x10000 ≤ 0x40000 + off ∧ 0x40000 + off < 0x11000) := by omega
  have h4 : ¬ (0x20000 ≤ 0x40000 + off ∧ 0x40000 + off < 0x23000) := by omega
  have h5 : ¬ (0x30000 ≤ 0x40000 + off ∧ 0x40000 + off < 0x30100) := by omega
  have h6 : 0x40000 ≤ 0x40000 + off ∧ 0x40000 + off < 0x50000 := by omega
  simp only [writeReg, if_neg h1, if_neg h2, if_neg h3, if_neg h4, if_neg h5, if_pos h6, hb, Nat.add_sub_cancel_left]
  rfl

theorem writeReg_ring (h : off < 0x10000) : writeReg 0 false (0x100000 + off) v droop d = writeRing 0 false off v d := by
  have h1 : ¬ (0x1000 ≤ 0x100000 + off ∧ 0x100000 + off < 0x2000) := by omega
  have h2 : ¬ (0x2000 ≤ 0x100000 + off ∧ 0x100000 + off < 0x3000) := by omega
  have h3 : ¬ (0x10000 ≤ 0x100000 + off ∧ 0x100000 + off < 0x11000) := by omega
  have h4 : ¬ (0x20000 ≤ 0x100000 + off ∧ 0x100000 + off < 0x23000) := by omega
  have h5 : ¬ (0x30000 ≤ 0x100000 + off ∧ 0x100000 + off < 0x30100) := by omega
  have h6 : ¬ (0x40000 ≤ 0x100000 + off ∧ 0x100000 + off < 0x50000) := by omega
  have h7 : ¬ (0x50000 ≤ 0x100000 + off ∧ 0x100000 + off < 0x50400) := by omega
  have h8 : 0x100000 ≤ 0x100000 + off ∧ 0x100000 + off < 0x110000 := by omega
  simp only [writeReg, if_neg h1, if_neg h2, if_neg h3, if_neg h4, if_neg h5, if_neg h6, if_neg h7, if_pos h8, hb, Nat.add_sub_cancel_left]
  rfl

theorem readReg_part (h : off < 0x3000) : readReg 0 false (0x20000 + off) d = readPart d off := by
  unfold readReg
  have h8 : 0x20000 ≤ 0x20000 + off ∧ 0x20000 + off < 0x23000 := by omega
  simp only [if_neg (show ¬ 0x20000 + off < 0x1000 by omega), if_neg (show ¬ 0x20000 + off < 0x2000 by omega),
    if_neg (show ¬ 0x20000 + off < 0x3000 by omega), if_neg (show ¬ 0x20000 + off < 0x3400 by omega),
    if_neg (show ¬ (0x4000 ≤ 0x20000 + off ∧ 0x20000 + off < 0x4100) by omega),
    if_neg (show ¬ (0x10000 ≤ 0x20000 + off ∧ 0x20000 + off < 0x11000) by omega), if_pos h8, hb, Nat.add_sub_cancel_left]
  rfl

theorem readReg_intr (fn : Nat) (h : off < 0x10000) : readReg fn false (0x40000 + off) d = readIntr fn false d off := by
  unfold readReg
  have h8 : 0x40000 ≤ 0x40000 + off ∧ 0x40000 + off < 0x50000 := by omega
  simp only [if_neg (show ¬ 0x40000 + off < 0x1000 by omega), if_neg (show ¬ 0x40000 + off < 0x2000 by omega),
    if_neg (show ¬ 0x40000 + off < 0x3000 by omega), if_neg (show ¬ 0x40000 + off < 0x3400 by omega),
    if_neg (show ¬ (0x4000 ≤ 0x40000 + off ∧ 0x40000 + off < 0x4100) by omega),
    if_neg (show ¬ (0x10000 ≤ 0x40000 + off ∧ 0x40000 + off < 0x11000) by omega),
    if_neg (show ¬ (0x20000 ≤ 0x40000 + off ∧ 0x40000 + off < 0x23000) by omega),
    if_neg (show ¬ (0x30000 ≤ 0x40000 + off ∧ 0x40000 + off < 0x30100) by omega), if_pos h8, hb, Nat.add_sub_cancel_left]
  rfl

end Blocks

/-- The offsets of no block of a function. -/
theorem writeReg_elsewhere {fn off : Nat} (v droop : W32) (d : Dev)
    (h : off < 0x1000 ∨ (0x3000 ≤ off ∧ off < 0x10000) ∨ (0x11000 ≤ off ∧ off < 0x20000) ∨ (0x23000 ≤ off ∧ off < 0x30000) ∨
      (0x30100 ≤ off ∧ off < 0x40000) ∨ (0x50400 ≤ off ∧ off < 0x100000) ∨ 0x110000 ≤ off) : writeReg fn false off v droop d = d := by
  simp only [writeReg, if_neg (show ¬ (0x1000 ≤ off ∧ off < 0x2000) by omega), if_neg (show ¬ (0x2000 ≤ off ∧ off < 0x3000) by omega),
    if_neg (show ¬ (0x10000 ≤ off ∧ off < 0x11000) by omega), if_neg (show ¬ (0x20000 ≤ off ∧ off < 0x23000) by omega),
    if_neg (show ¬ (0x30000 ≤ off ∧ off < 0x30100) by omega), if_neg (show ¬ (0x40000 ≤ off ∧ off < 0x50000) by omega),
    if_neg (show ¬ (0x50000 ≤ off ∧ off < 0x50400) by omega), if_neg (show ¬ (0x100000 ≤ off ∧ off < 0x110000) by omega), ite_self]

theorem writeReg_notRoot {fn off : Nat} (hfn : fn ≠ 0) (v droop : W32) (d : Dev)
    (h : off < 0x3000 ∨ (0x20000 ≤ off ∧ off < 0x40000) ∨ (0x50000 ≤ off ∧ off < 0x100000)) : writeReg fn false off v droop d = d := by
  have hpf : (false || fn == 0) = false := by simp [hfn]
  simp only [writeReg, hpf, Bool.false_eq_true, if_false, ite_self, if_neg (show ¬ (0x10000 ≤ off ∧ off < 0x11000) by omega),
    if_neg (show ¬ (0x40000 ≤ off ∧ off < 0x50000) by omega), if_neg (show ¬ (0x100000 ≤ off ∧ off < 0x110000) by omega)]

theorem writeReg_booting {fn off : Nat} {d : Dev} (hb : booted d = false) (h : 0x3000 ≤ off) (v droop : W32) :
    writeReg fn false off v droop d = d := by
  have h1 : ¬ (0x1000 ≤ off ∧ off < 0x2000) := by omega
  have h2 : ¬ (0x2000 ≤ off ∧ off < 0x3000) := by omega
  simp only [writeReg, if_neg h1, if_neg h2, hb]
  rfl

/-! ## Words of a grant record (Table REG-7) -/

theorem wordOf_testBit (n k i : Nat) : (wordOf n k).testBit i = (decide (i < 32) && n.testBit (32 * k + i)) := by
  rw [wordOf, pow2_eq, Nat.testBit_mod_two_pow, Nat.testBit_shiftRight]

theorem wordOf_land (a b k : Nat) : wordOf (Nat.land a b) k = Nat.land (wordOf a k) (wordOf b k) := by
  refine Nat.eq_of_testBit_eq fun i => ?_
  change (wordOf (a &&& b) k).testBit i = (wordOf a k &&& wordOf b k).testBit i
  rw [Nat.testBit_land, wordOf_testBit, wordOf_testBit, wordOf_testBit, Nat.testBit_land]
  cases decide (i < 32) <;> simp

theorem wordOf_setWord (n k : Nat) (v : W32) : wordOf (setWord n k v) k = v.toNat := by
  have hpos : 0 < 2 ^ (32 * k) := Nat.two_pow_pos _
  have hdiv := Nat.div_add_mod n (2 ^ (32 * k))
  have hlo := Nat.mod_lt n hpos
  have hhi := Nat.div_add_mod (n / 2 ^ (32 * k)) (2 ^ 32)
  generalize n / 2 ^ (32 * k) / 2 ^ 32 = hi at hhi
  have hset : setWord n k v = n % 2 ^ (32 * k) + (2 ^ 32 * hi + v.toNat) * 2 ^ (32 * k) := by
    rw [setWord, wordOf, pow2_eq, pow2_eq, Nat.shiftRight_eq_div_pow]
    generalize n / 2 ^ (32 * k) = q at *
    generalize q % 2 ^ 32 = w at *
    generalize n % 2 ^ (32 * k) = lo at *
    subst hhi
    subst hdiv
    have hcancel : 2 ^ (32 * k) * (2 ^ 32 * hi + w) + lo - w * 2 ^ (32 * k) = 2 ^ (32 * k) * (2 ^ 32 * hi) + lo := by
      rw [Nat.mul_add, Nat.mul_comm w]
      omega
    rw [hcancel]
    ring
  rw [hset, wordOf, pow2_eq, Nat.shiftRight_eq_div_pow, Nat.add_mul_div_right _ _ hpos, Nat.div_eq_of_lt hlo]
  have hv := v.isLt
  omega

theorem recOf_setRec_same {set : Tab GrantRec} (h : Rising set) (t : Nat) (r : GrantRec) : recOf (setRec t r set) t = r := by
  unfold recOf setRec
  split_ifs with hr
  · rw [tabGet_tabDel_same _ _ h, hr]
  · exact tabGet_tabSet_same ..

theorem recOf_setRec_ne {set : Tab GrantRec} (h : Rising set) {t k : Nat} (hk : k ≠ t) (r : GrantRec) :
    recOf (setRec t r set) k = recOf set k := by
  unfold recOf setRec
  split_ifs
  · exact tabGet_tabDel_ne _ hk h
  · exact tabGet_tabSet_ne _ _ _ hk

theorem recMask_lt : recMask < 2 ^ 1024 := by decide +kernel

/-- A word written to PEND reads back with its reserved bits 0. -/
theorem writePart_record {d : Dev} (hp : partBusy d = false) (h : Rising d.grants.pend) (k : Fin 1024) (v : W32) :
    readPart (writePart (4 * k) v d) (4 * k) = Nat.land v.toNat (wordOf recMask (k % 32)) ∧
      (writePart (4 * k) v d).grants.force = d.grants.force ∧
      ∀ t, t ≠ k.val / 32 → recOf (writePart (4 * k) v d).grants.pend t = recOf d.grants.pend t := by
  have hlt : 4 * k.val < 0x1000 := by omega
  have hrec : 4 * k.val / 0x80 = k / 32 := by omega
  have hword : 4 * k.val % 0x80 / 4 = k % 32 := by omega
  have hgrants : (writePart (4 * k) v d).grants.pend = setRec (k / 32)
      (BitVec.ofNat 1024 (Nat.land (setWord (recOf d.grants.pend (k / 32)).toNat (k % 32) v) recMask)) d.grants.pend ∧
      (writePart (4 * k) v d).grants.force = d.grants.force := by
    simp [writePart, hlt, hp, hrec, hword, modGrants]
  obtain ⟨hpend, hforce⟩ := hgrants
  refine ⟨?_, hforce, fun t ht => ?_⟩
  · have hsmall : Nat.land (setWord (recOf d.grants.pend (k / 32)).toNat (k % 32) v) recMask < 2 ^ 1024 :=
      lt_of_le_of_lt Nat.and_le_right recMask_lt
    simp only [readPart, if_pos hlt, hrec, hword, hpend]
    rw [recOf_setRec_same h, BitVec.toNat_ofNat, Nat.mod_eq_of_lt hsmall, wordOf_land, wordOf_setWord]
  · rw [hpend, recOf_setRec_ne h ht]

/-! ## Vectors and rings (Tables REG-10, REG-13) -/

/-- The data word of a vector. -/
theorem writeIntr_vector {fn : Nat} {n : Fin 64} (hn : n.val < tableSize fn) (v : W32) (d : Dev) :
    writeIntr fn false (0x8008 + 16 * n) v d =
      modFunc fn (fun x => { x with msix := tabMod {} n.val (fun e => { e with data := v }) x.msix }) d := by
  have hin : 0x8000 ≤ 0x8008 + 16 * n.val ∧ 0x8008 + 16 * n.val < 0x8400 := by omega
  have hoff : 0x8008 + 16 * n.val - 0x8000 = 8 + 16 * n := by omega
  have hdiv : (8 + 16 * n.val) / 16 = n := by omega
  have hmod : (8 + 16 * n.val) % 16 = 8 := by omega
  simp only [writeIntr, if_pos hin, hoff, writeMsix, hdiv, hmod, if_neg (Nat.not_le.mpr hn)]

theorem readIntr_vector {fn : Nat} {n : Fin 64} (hn : n.val < tableSize fn) (d : Dev) :
    readIntr fn false d (0x8008 + 16 * n) = (tabGet {} (funcOf d fn).msix n).data.toNat := by
  have hin : 0x8000 ≤ 0x8008 + 16 * n.val ∧ 0x8008 + 16 * n.val < 0x8400 := by omega
  have hoff : 0x8008 + 16 * n.val - 0x8000 = 8 + 16 * n := by omega
  have hdiv : (8 + 16 * n.val) / 16 = n := by omega
  have hmod : (8 + 16 * n.val) % 16 = 8 := by omega
  simp only [readIntr, if_pos hin, hoff, readMsix, hdiv, hmod, if_neg (Nat.not_le.mpr hn)]

section Ring

variable {d : Dev} {r : Fin 1024} (hown : ringOwned d 0 r = true) (hst : (ringOf d r).st = .ready) (v : W32)
include hown hst

theorem writeRing_cmdBaseLo : writeRing 0 false (64 * r) v d = modRing r (fun g => { g with cmdLo := some (v &&& 0xFFFFF000#32) }) d := by
  have hdiv : 64 * r.val / 64 = r := by omega
  have hmod : 64 * r.val % 64 = 0 := by omega
  simp [writeRing, hdiv, hmod, hown, hst]

theorem writeRing_cmdBaseHi : writeRing 0 false (64 * r + 4) v d =
    modRing r (fun g => { g with cmdBase := v ++ g.cmdLo.getD (BitVec.ofNat 32 g.cmdBase.toNat), cmdLo := none }) d := by
  have hdiv : (64 * r.val + 4) / 64 = r := by omega
  have hmod : (64 * r.val + 4) % 64 = 4 := by omega
  simp [writeRing, hdiv, hmod, hown, hst]

theorem writeRing_sizes : writeRing 0 false (64 * r + 0x10) v d =
    modRing r (fun g => { g with cmdLog := v.toNat % 32, stsLog := v.toNat / 256 % 32 }) d := by
  have hdiv : (64 * r.val + 16) / 64 = r := by omega
  have hmod : (64 * r.val + 16) % 64 = 16 := by omega
  simp [writeRing, hdiv, hmod, hown, hst, field, bits, pow2, Nat.shiftRight_eq_div_pow]

end Ring

/-! ## The statement -/

theorem registerWrites_leave (d : Dev) (fn : Fin 64) (off : BitVec 21) (v droop : W32) (hl : d.boot.lost = false) :
    Answers (.registerWrite fn off v droop) d fun e =>
      e.span = d.span ∧ e.fab = d.fab ∧ e.lnk = d.lnk ∧ e.mem = d.mem ∧ e.cl = d.cl ∧ e.dma = d.dma ∧ e.bsu = d.bsu ∧ e.power = d.power ∧
      e.board = d.board ∧ e.flash = d.flash ∧ e.fuse = d.fuse ∧
      (hostOpen d fn = false ∨ off.toNat % 4 ≠ 0 → e = d) ∧ (booted d = false → 0x3000 ≤ off.toNat → e = d) ∧
      (off.toNat < 0x1000 ∨ (0x3000 ≤ off.toNat ∧ off.toNat < 0x10000) ∨ (0x11000 ≤ off.toNat ∧ off.toNat < 0x20000) ∨
        (0x23000 ≤ off.toNat ∧ off.toNat < 0x30000) ∨ (0x30100 ≤ off.toNat ∧ off.toNat < 0x40000) ∨
        (0x50400 ≤ off.toNat ∧ off.toNat < 0x100000) ∨ 0x110000 ≤ off.toNat → e = d) ∧
      (fn ≠ 0 → off.toNat < 0x3000 ∨ (0x20000 ≤ off.toNat ∧ off.toNat < 0x40000) ∨ (0x50000 ≤ off.toNat ∧ off.toNat < 0x100000) → e = d) := by
  cases hc : controlUp d with
  | false =>
    refine (answers_gated (g := controlUp) hl hc fun _ => rfl).mono ?_
    rintro e rfl
    exact ⟨rfl, rfl, rfl, rfl, rfl, rfl, rfl, rfl, rfl, rfl, rfl, fun _ => rfl, fun _ _ => rfl, fun _ => rfl, fun _ _ => rfl⟩
  | true =>
    have hsame (h : hostOpen d fn = true → off.toNat % 4 = 0 → writeReg fn false off.toNat v droop d = d) :
        opRegisterWrite fn off.toNat v droop d = d := by
      unfold opRegisterWrite
      split
      next hcond =>
        simp only [Bool.and_eq_true, beq_iff_eq] at hcond
        exact h hcond.1 hcond.2
      · rfl
    refine answers_onControl ⟨hl, hc⟩ (fun _ => rfl) ?_
    refine ⟨by simp, by simp, by simp, by simp, by simp, by simp, by simp, by simp, by simp, by simp, by simp, fun h => ?_, fun hb ho => ?_,
      fun ho => ?_, fun hfn ho => ?_⟩
    · refine hsame fun hh h4 => ?_
      obtain hno | hno := h
      · simp [hno] at hh
      · exact absurd h4 hno
    · exact hsame fun _ _ => writeReg_booting hb ho v droop
    · exact hsame fun _ _ => writeReg_elsewhere v droop d ho
    · exact hsame fun _ _ => writeReg_notRoot (fun h => hfn (Fin.ext h)) v droop d ho

theorem bit_and_not (v lasts : W32) (i : Nat) : bit (v &&& ~~~lasts).toNat i = (bit v.toNat i && !bit lasts.toNat i && decide (i < 32)) := by
  rw [bit_toNat, bit_toNat, bit_toNat, BitVec.getLsbD_and, BitVec.getLsbD_not]
  cases v.getLsbD i <;> cases lasts.getLsbD i <;> simp

/-- Settles O46: the write of each block in turn. -/
theorem registerWrites : Obligations.RegisterWrites := by
  refine ⟨registerWrites_leave, fun d v droop hl hh => ?_⟩
  refine ⟨?_, ?_, ?_, fun hi => ?_, fun k hb hp hr => ?_, fun hb hp k => ?_, fun hb hp => ?_, fun hb => ?_, fun hb => ?_, fun hb => ?_,
    fun fn n hb hf hn => ?_, fun r hb hown hst => ⟨fun hi => ?_, ?_⟩⟩
  · refine answers_registerWrite hl hh 0x1000 rfl rfl ?_
    simp [writeReg, writeState, modBoot]
  · refine answers_registerWrite hl hh 0x1008 rfl rfl ?_
    simp [writeReg, writeState, modBoot, -BitVec.toNat_and, -BitVec.toNat_not, bit_and_not]
  · refine answers_registerWrite hl hh 0x2408 rfl rfl ?_
    simp [writeReg, writeMailbox, modMail]
  · refine answers_registerWrite hl hh 0x2400 rfl rfl ⟨by simp [writeReg, writeMailbox, modMail], ?_⟩
    refine answers_registerWrite (fn := 0) hl hh 0x2404 rfl rfl ?_
    simp [writeReg, writeMailbox, modMail]
  · refine answers_registerWrite hl hh (0x20000 + 4 * k) (toNat_offset (by omega)) (by omega) ?_
    have hread (e : Dev) (he : booted e = true) : readReg 0 false (0x20000 + 4 * k) e = readPart e (4 * k) := readReg_part he (by omega)
    rw [show ((0 : Fin 64) : Nat) = 0 from rfl, writeReg_part hb v droop (by omega), hread _ ((booted_congr (by simp)).trans hb)]
    exact writePart_record hp hr k v
  · refine answers_registerWrite hl hh (0x20000 + 4 * k) (toNat_offset (by omega)) (by omega) ?_
    rw [show ((0 : Fin 64) : Nat) = 0 from rfl, writeReg_part hb v droop (by omega)]
    simp [writePart, hp, partIgnore, modGrants, show 4 * k.val < 0x1000 by omega]
  · refine answers_registerWrite hl hh (0x20000 + 0x2008) rfl rfl ?_
    rw [show ((0 : Fin 64) : Nat) = 0 from rfl, writeReg_part hb v droop (by omega)]
    simp [writePart, hp, modGrants]
  · refine answers_registerWrite hl hh (0x20000 + 0x2010) rfl rfl ?_
    rw [show ((0 : Fin 64) : Nat) = 0 from rfl, writeReg_part hb v droop (by omega)]
    simp [writePart, modGrants]
  · refine answers_registerWrite hl hh 0x30060 rfl rfl ?_
    simp [writeReg, hb, writeSpanBlock, modWhl]
  · refine answers_registerWrite hl hh (0x40000 + 0x408) rfl rfl ?_
    rw [writeReg_intr hb v droop _ (by omega)]
    have hfield : field v 5 0 = v.toNat % 64 := by simp [field, bits, pow2, Nat.shiftRight_eq_div_pow]
    have hsmall : v.toNat % 64 < 64 := Nat.mod_lt _ (by decide)
    simp [writeIntr, intrReach, putVector, hfield, tableSize, Nat.not_le.mpr hsmall, modHost]
  · refine answers_registerWrite hl hf (0x40000 + (0x8008 + 16 * n)) ((toNat_offset (by omega)).trans (by omega)) (by omega) ?_
    rw [writeReg_intr hb v droop _ (by omega), writeIntr_vector hn]
    refine ⟨?_, rfl, fun f hf => funcOf_modFunc_ne _ _ fun h => hf (Fin.ext h)⟩
    have hadd : 0x48008 + 16 * n.val = 0x40000 + (0x8008 + 16 * n) := by omega
    rw [hadd, readReg_intr ?_ _ (by omega), readIntr_vector hn, funcOf_modFunc_same, tabGet_tabMod_same]
    exact hb
  · refine answers_registerWrite hl hh (0x100000 + 64 * r) (toNat_offset (by omega)) (by omega) ?_
    rw [show ((0 : Fin 64) : Nat) = 0 from rfl, writeReg_ring hb v droop (by omega), writeRing_cmdBaseLo hown hst]
    refine ⟨by simp, ?_⟩
    refine answers_registerWrite (fn := 0) hl hh (0x100000 + (64 * r + 4)) ((toNat_offset (by omega)).trans (by omega)) (by omega) ?_
    rw [show ((0 : Fin 64) : Nat) = 0 from rfl, writeReg_ring (by exact hb) hi droop (by omega), writeRing_cmdBaseHi]
    · simp
    · simpa [ringOwned, booted, modRing, modHost, ringOf] using hown
    · simpa using hst
  · refine answers_registerWrite hl hh (0x100000 + (64 * r + 0x10)) ((toNat_offset (by omega)).trans (by omega)) (by omega) ?_
    rw [show ((0 : Fin 64) : Nat) = 0 from rfl, writeReg_ring hb v droop (by omega), writeRing_sizes hown hst]
    exact ⟨by simp, by simp, fun x hx => ringOf_modRing_ne _ _ hx⟩

end Sys2Proof.Machine
end

section
/-!
The statements on bitstream units: records, flits, drains, lines and resets (17 R591 to R604, R609, R610).
-/
namespace Sys2Proof.Machine

/-! ## Resets (17 R609, R610) -/

theorem bsuOf_bsuReset (u cause : Nat) (d : Dev) : bsuOf (bsuReset u cause d) u = bsuAfter cause d.whl.n (bsuOf d u) := by
  have hraise (t b : Nat) (a : Dev) : bsuOf (raiseCause t b a) u = bsuOf a u := bsuOf_congr (by simp) u
  unfold bsuReset
  dsimp only
  split
  · split
    · exact bsuOf_modBsu_same ..
    · rw [hraise, bsuOf_modBsu_same]
  · exact bsuOf_modBsu_same ..

theorem bsuOf_addFlight (x : Flight) (d : Dev) (u : Nat) : bsuOf (addFlight x d) u = bsuOf d u := rfl
theorem bsuOf_failFlush (u k : Nat) (d : Dev) : bsuOf (failFlush u d) k = bsuOf d k := bsuOf_congr (by simp) k

theorem bsuOf_bsuFail (u cause code : Nat) (d : Dev) : bsuOf (bsuFail u cause code d) u = bsuAfter cause d.whl.n (bsuOf d u) := by
  have hraise (t b : Nat) (a : Dev) : bsuOf (raiseFault t b a) u = bsuOf a u := bsuOf_congr (by simp) u
  unfold bsuFail
  dsimp only
  split
  · rw [hraise, bsuOf_failFlush, bsuOf_bsuReset]
  · rw [bsuOf_failFlush, bsuOf_bsuReset]

/-- A reset that is latched leaves its cause and counts. -/
theorem bsuAfter_latched {cause n : Nat} {x : Bsu} (h : (cause ≠ 4 ∧ cause ≠ 5) ∨ x.configured = true) :
    (bsuAfter cause n x).configured = false ∧ (bsuAfter cause n x).lastReset = cause ∧ (bsuAfter cause n x).queue = [] ∧
      (bsuAfter cause n x).resets = satInc x.resets := by
  have hedge : ((cause == 4 || cause == 5) && !x.configured) = false := by
    obtain ⟨h4, h5⟩ | h := h
    · simp [h4, h5]
    · simp [h]
  simp only [bsuAfter, hedge]
  exact ⟨rfl, rfl, rfl, rfl⟩

/-- The holder of a unit that fails records the fault. -/
theorem bsuFail_fault {u t : Nat} {d : Dev} (ht : bsuHolder d u = some t) (hs : (tenOf d t).stopDue = false) (cause code : Nat) :
    (tenOf (bsuFail u cause code d) t).fault = code := by
  have hstop : (tenOf (failFlush u (bsuReset u cause d)) t).stopDue = false := by
    rw [tenOf_congr (e := bsuReset u cause d) (by simp)]
    unfold bsuReset
    simp only [ht]
    split
    · exact hs
    · rw [tenOf_congr (raiseCause_ten ..), tenOf_modTen_same]
      exact hs
  simp only [bsuFail, ht]
  exact (raiseFault_first t code _ hstop).1

/-! ## The effect of a record (17 R591 to R597) -/

section Effect

variable {r : BsuRec} {x : Bsu}

theorem recordEffect_skip (fin : Nat) : (recordEffect r fin x).skip = x.skip := by
  have hbody (c : Option Nat) (y : Bsu) (f : Bank → Bank) :
      (match c with | some b => modBank b f y | none => y).skip = y.skip := by cases c <;> rfl
  have hseg (w : W64) (f : BsuFrame) : (segEnd w f x).skip = x.skip := by
    unfold segEnd
    dsimp only
    split
    · rfl
    · split <;> rfl
  unfold recordEffect
  dsimp only
  refine (hbody ..).trans ?_
  split
  case h_9 => exact hseg _ _
  all_goals rfl

theorem recordEffect_start (hk : recKind r.word = 8) (fin : Nat) : (recordEffect r fin x).frame =
    some { bank := b2n (wBit r.word 32), noCdf := x.codec == 2 && wBit r.word 33 } := by
  simp only [recordEffect, hk]
  rfl

/-- A good record that neither opens a frame nor stands outside one has a frame. -/
theorem frame_of_recordGood (h : recordGood x r.word = true) (h0 : recKind r.word ≠ 0) (h8 : recKind r.word ≠ 8)
    (h13 : recKind r.word ≠ 13) : ∃ f, x.frame = some f := by
  simp only [recordGood, Bool.and_eq_true] at h
  cases hf : x.frame with
  | some f => exact ⟨f, rfl⟩
  | none => simp [orderOk, hf, h0, h8, h13] at h

variable {f : BsuFrame} (hf : x.frame = some f) (fin : Nat)
include hf

theorem recordEffect_segStart (hk : recKind r.word = 9) :
    ∃ g, (recordEffect r fin x).frame = some g ∧ g.inSeg = true ∧ g.ops = [] := by
  simp only [recordEffect, hk, hf]
  exact ⟨_, rfl, rfl, rfl⟩

theorem recordEffect_ctx (hk : recKind r.word = 1) : (recordEffect r fin x).bins = satAdd x.bins (ctxBins r.word) := by
  simp only [recordEffect, hk, hf]
  rfl

theorem recordEffect_byp (hk : recKind r.word = 2) : (recordEffect r fin x).bins = satAdd x.bins (bypBins r.word) := by
  simp only [recordEffect, hk, hf]
  rfl

theorem recordEffect_term (hk : recKind r.word = 3) : (recordEffect r fin x).bins = satAdd x.bins 1 := by
  simp only [recordEffect, hk, hf]
  rfl

theorem recordEffect_sym (hk : recKind r.word = 4) : (recordEffect r fin x).symbols = satAdd x.symbols (symCount r.word) := by
  simp only [recordEffect, hk, hf]
  rfl

theorem recordEffect_segEnd (hk : recKind r.word = 11) : ∃ g, (recordEffect r fin x).frame = some g ∧ g.inSeg = false := by
  have hseg : ∃ g, (segEnd r.word f x).frame = some g ∧ g.inSeg = false := by
    unfold segEnd
    dsimp only
    split
    · exact ⟨_, rfl, rfl⟩
    · split
      · exact ⟨_, rfl, rfl⟩
      · exact ⟨_, rfl, rfl⟩
  simp only [recordEffect, hk, hf]
  exact hseg

theorem recordEffect_frameEnd (hk : recKind r.word = 12) : (recordEffect r fin x).frame = none := by
  simp only [recordEffect, hk, hf]
  rfl

end Effect

theorem ctxBins_eq (w : W64) : ctxBins w = w.toNat / 32 % 4 + 1 := by
  simp [ctxBins, wBits, bits, pow2, Nat.shiftRight_eq_div_pow]

theorem bypBins_eq (w : W64) : bypBins w = w.toNat / 256 % 32 + 1 := by
  simp [bypBins, wBits, bits, pow2, Nat.shiftRight_eq_div_pow]

theorem symCount_eq (w : W64) : symCount w = w.toNat / 32 % 2 + 1 := by
  simp only [symCount, wBit, bit, Nat.shiftRight_eq_div_pow]
  split
  next h => rw [beq_iff_eq] at h; omega
  next h => rw [beq_iff_eq] at h; omega

/-- The commands of records run the engine's next record if it has their kind. -/
theorem exec_bsuRecord {u : Fin 4} {c : Instr} {k : Nat}
    (h : (c, k) ∈ [(.bsuNop u, 0), (.bsuCtx u, 1), (.bsuByp u, 2), (.bsuTerm u, 3), (.bsuSym u, 4), (.bsuLit u, 5), (.bsuFrameStart u, 8),
      (.bsuSegStart u, 9), (.bsuEntry u, 10), (.bsuSegEnd u, 11), (.bsuFrameEnd u, 12)]) (s : State) :
    exec c s = onUnits s (opBsuRecord u k) := by
  simp only [List.mem_cons, Prod.mk.injEq, List.not_mem_nil, or_false] at h
  rcases h with ⟨rfl, rfl⟩ | ⟨rfl, rfl⟩ | ⟨rfl, rfl⟩ | ⟨rfl, rfl⟩ | ⟨rfl, rfl⟩ | ⟨rfl, rfl⟩ | ⟨rfl, rfl⟩ | ⟨rfl, rfl⟩ | ⟨rfl, rfl⟩ | ⟨rfl, rfl⟩ |
    ⟨rfl, rfl⟩ <;> rfl

/-- The unit once the engine has taken a good record. -/
theorem takeRecord_good {u : Nat} {r : BsuRec} {b : Dev} (hs : (bsuOf b u).skip = false) (hg : recordGood (bsuOf b u) r.word = true) :
    (takeRecord u r b).host = b.host ∧ bsuOf (takeRecord u r b) u =
      { recordEffect r (recordStart (bsuOf b u) r + recordCost (bsuOf b u) r.word) (bsuOf b u) with
        queue := (bsuOf b u).queue.tail, pos := recordStart (bsuOf b u) r + recordCost (bsuOf b u) r.word } := by
  simp only [takeRecord, hs, hg, Bool.false_eq_true, if_false, if_true]
  exact ⟨rfl, bsuOf_modBsu_same ..⟩

/-- Settles O47: a record by its kind, a wrong one by what a reset leaves. -/
theorem bitstreamRecords : Obligations.BitstreamRecords := by
  rintro d b u c k r hu rfl hc hhead hk hs
  have hop (e : Dev → Prop) (he : e (takeRecord u r (takeDrains u (bsuOf d u).drainIn.length d))) : Answers c d e := by
    refine answers_onUnits hu (exec_bsuRecord hc) ?_
    have hrec : opBsuRecord u k d = takeRecord u r (takeDrains u (bsuOf d u).drainIn.length d) := by simp [opBsuRecord, hhead, hk]
    rwa [hrec]
  refine ⟨fun hg => hop _ ?_, fun hg t ht hh hstop => hop _ ?_⟩
  · obtain ⟨hhost, hbsu⟩ := takeRecord_good hs hg
    have hframe (h0 : k ≠ 0) (h8 : k ≠ 8) (h13 : k ≠ 13) := frame_of_recordGood hg (hk ▸ h0) (hk ▸ h8) (hk ▸ h13)
    rw [hbsu]
    refine ⟨rfl, rfl, (recordEffect_skip _).trans hs, hhost, ?_, ?_, ?_, ?_, ?_, ?_, ?_, ?_⟩
    · rintro rfl
      exact ⟨_, recordEffect_start hk _, rfl, rfl⟩
    · rintro rfl
      obtain ⟨f, hf⟩ := hframe (by decide) (by decide) (by decide)
      exact recordEffect_segStart hf _ hk
    · rintro rfl
      obtain ⟨f, hf⟩ := hframe (by decide) (by decide) (by decide)
      exact (recordEffect_ctx hf _ hk).trans (by rw [ctxBins_eq])
    · rintro rfl
      obtain ⟨f, hf⟩ := hframe (by decide) (by decide) (by decide)
      exact (recordEffect_byp hf _ hk).trans (by rw [bypBins_eq])
    · rintro rfl
      obtain ⟨f, hf⟩ := hframe (by decide) (by decide) (by decide)
      exact recordEffect_term hf _ hk
    · rintro rfl
      obtain ⟨f, hf⟩ := hframe (by decide) (by decide) (by decide)
      exact (recordEffect_sym hf _ hk).trans (by rw [symCount_eq])
    · rintro rfl
      obtain ⟨f, hf⟩ := hframe (by decide) (by decide) (by decide)
      exact recordEffect_segEnd hf _ hk
    · rintro rfl
      obtain ⟨f, hf⟩ := hframe (by decide) (by decide) (by decide)
      exact recordEffect_frameEnd hf _ hk
  · have hfail : takeRecord u r (takeDrains u (bsuOf d u).drainIn.length d) = bsuFail u 1 fcBsu (takeDrains u (bsuOf d u).drainIn.length d) := by
      simp only [takeRecord, hs, hg, Bool.false_eq_true, if_false]
    obtain ⟨hconf, hlast, hqueue, -⟩ := bsuAfter_latched (n := (takeDrains u (bsuOf d u).drainIn.length d).whl.n)
      (x := bsuOf (takeDrains u (bsuOf d u).drainIn.length d) u) (cause := 1) (.inl ⟨by decide, by decide⟩)
    rw [hfail, bsuOf_bsuFail]
    exact ⟨hconf, hqueue, hlast, bsuFail_fault hh hstop 1 fcBsu⟩

/-! ## Flits that arrive (17 R600) -/

/-- What the input stage leaves of a unit as it takes a good DRAIN. -/
structure SameInput (x y : Bsu) : Prop where
  queue : y.queue = x.queue
  seq : y.seq = x.seq
  configured : y.configured = x.configured
  codec : y.codec = x.codec
  drainIn : ∀ r ∈ y.drainIn, r ∈ x.drainIn

theorem sameInput_takeDrain (w : Wheel) (r : BsuRec) (x : Bsu) : SameInput x (takeDrain w r x) := by
  unfold takeDrain
  dsimp only
  split
  · split
    · exact ⟨rfl, rfl, rfl, rfl, fun _ h => h⟩
    · split
      · exact ⟨rfl, rfl, rfl, rfl, fun _ h => h⟩
      · exact ⟨rfl, rfl, rfl, rfl, fun _ h => h⟩
  · exact ⟨rfl, rfl, rfl, rfl, fun _ h => h⟩

theorem sameInput_takeDrains {u : Nat} (n : Nat) {d : Dev} (h : ∀ y ∈ (bsuOf d u).drainIn, fieldsOk (bsuOf d u).codec 0 y.word = true) :
    SameInput (bsuOf d u) (bsuOf (takeDrains u n d) u) := by
  have hstep {d : Dev} (h : ∀ y ∈ (bsuOf d u).drainIn, fieldsOk (bsuOf d u).codec 0 y.word = true) :
      SameInput (bsuOf d u) (bsuOf (opBsuDrain u d) u) := by
    unfold opBsuDrain
    split
    · exact ⟨rfl, rfl, rfl, rfl, fun _ h => h⟩
    next r rest hin =>
      rw [if_pos (h r (by simp [hin])), bsuOf_modBsu_same]
      obtain ⟨hq, hs, hc, hcodec, hd⟩ := sameInput_takeDrain d.whl r { bsuOf d u with drainIn := rest }
      exact ⟨hq, hs, hc, hcodec, fun y hy => by simp [hin, hd y hy]⟩
  induction n generalizing d with
  | zero => exact ⟨rfl, rfl, rfl, rfl, fun _ h => h⟩
  | succ n ih =>
    obtain ⟨hq, hs, hc, hcodec, hd⟩ := hstep h
    obtain ⟨hq', hs', hc', hcodec', hd'⟩ := ih (d := opBsuDrain u d) fun y hy => by rw [hcodec]; exact h y (hd y hy)
    exact ⟨hq'.trans hq, hs'.trans hs, hc'.trans hc, hcodec'.trans hcodec, fun y hy => hd y (hd' y hy)⟩

theorem recKind_flitRecord (data : Line) (i : Nat) :
    recKind (BitVec.ofNat 64 (bits data.toNat (64 * i + 63) (64 * i))) = bits data.toNat (64 * i + 3) (64 * i) := by
  have h63 : 64 * i + 63 - 64 * i + 1 = 64 := by omega
  have h3 : 64 * i + 3 - 64 * i + 1 = 4 := by omega
  simp only [recKind, bits, h63, h3, pow2_eq, BitVec.toNat_ofNat, Nat.shiftRight_zero]
  omega

theorem flitRecord_word (data : Line) (i : Nat) :
    BitVec.ofNat 64 (bits data.toNat (64 * i + 63) (64 * i)) = BitVec.ofNat 64 (data.toNat / 2 ^ (64 * i)) := by
  have h63 : 64 * i + 63 - 64 * i + 1 = 64 := by omega
  refine BitVec.eq_of_toNat_eq ?_
  simp only [bits, h63, pow2_eq, BitVec.toNat_ofNat, Nat.shiftRight_eq_div_pow, Nat.mod_mod]

theorem acceptFlit_records {u arr : Nat} {data : Line} {d : Dev} (hc : (bsuOf d u).configured = true) (hq : queueFlits (bsuOf d u).queue < 2048)
    (hk : ∀ i < 8, bits data.toNat (64 * i + 3) (64 * i) ≠ 13) :
    (bsuOf (acceptFlit u data arr d) u).queue.length = (bsuOf d u).queue.length + 8 ∧
      (bsuOf (acceptFlit u data arr d) u).seq = (bsuOf d u).seq + 8 ∧
      ∀ i < 8, ∃ r ∈ (bsuOf (acceptFlit u data arr d) u).queue, r.word = BitVec.ofNat 64 (data.toNat / 2 ^ (64 * i)) ∧ r.seq = (bsuOf d u).seq + i := by
  have hall : (flitRecords data arr (bsuOf d u).seq).filter (fun r => !(recKind r.word == 13)) = flitRecords data arr (bsuOf d u).seq := by
    refine List.filter_eq_self.mpr fun r hr => ?_
    obtain ⟨i, hi, rfl⟩ := List.mem_map.mp hr
    rw [recKind_flitRecord]
    simpa using hk i (List.mem_range.mp hi)
  unfold acceptFlit
  simp only [hc, Bool.not_true, Bool.false_eq_true, if_false, if_neg (Nat.not_le.mpr hq), bsuOf_modBsu_same, hall]
  refine ⟨by simp [flitRecords], trivial, fun i hi => ?_⟩
  exact ⟨_, List.mem_append_right _ (List.mem_map.mpr ⟨i, List.mem_range.mpr hi, rfl⟩), flitRecord_word data i, rfl⟩

theorem bsuRecordFlit_accepts {d : Dev} {u : Fin 4} {x : Flight} (hx : d.fab.flits.find? (fun y => y.dest == .bsu u && y.due == d.whl.now) = some x)
    (hecc : eccCheck x.flit = (x.flit, .clean)) (hh : bsuHolder d u = some x.flit.ten.toNat) (hlate : x.flit.late = false)
    (hpoison : x.flit.poison = false) (hq : queueFlits (bsuOf d u).queue < 2048)
    (hin : ∀ y ∈ (bsuOf d u).drainIn, fieldsOk (bsuOf d u).codec 0 y.word = true) :
    ∃ arr e, SameInput (bsuOf d u) (bsuOf e u) ∧ opBsuRecordFlit u d.whl.now d = acceptFlit u x.flit.data arr e := by
  have htake : (takeFlight (.bsu u) d.whl.now d).1 = some x := hx
  have hh' : bsuHolder (takeFlight (.bsu u) d.whl.now d).2 u = some x.flit.ten.toNat := hh
  have hsame := sameInput_takeDrains (u := u) (bsuOf d u).drainIn.length (d := (takeFlight (.bsu u) d.whl.now d).2) hin
  have hroom : ¬ 2048 ≤ queueFlits (bsuOf (takeDrains u (bsuOf d u).drainIn.length (takeFlight (.bsu u) d.whl.now d).2) u).queue := by
    rw [hsame.queue]
    exact Nat.not_le.mpr hq
  have hlen : bsuOf (takeFlight (.bsu u) d.whl.now d).2 u = bsuOf d u := rfl
  unfold opBsuRecordFlit
  simp only [lt_irrefl, if_false, advanceTo_now, htake, hecc, countEcc, hh', hlate, hpoison, ne_eq, not_true_eq_false, Bool.false_eq_true, hlen,
    if_neg hroom]
  exact ⟨_, _, hsame, rfl⟩

/-! ## Drains and their lines (17 R601, R604) -/

theorem takeDrain_scheduled {w : Wheel} {r : BsuRec} {x : Bsu} {a : Nat}
    (ha : departTick w x.held r.arr (wBits r.word 9 8) (wBits r.word 25 10) = some a) (hd : x.drains = []) (h : r.arr + 16 ≤ a) :
    (takeDrain w r x).drainIn = x.drainIn ∧ ∃ q, (takeDrain w r x).drains = [q] ∧ q.at_ = a ∧ q.n = wBits r.word 49 39 + 1 ∧
      q.first = wBits r.word 38 26 := by
  simp only [takeDrain, ha, if_neg (Nat.not_lt.mpr h), hd, List.any_nil, Bool.false_eq_true, if_false, List.nil_append]
  exact ⟨trivial, _, rfl, rfl, rfl, rfl⟩

theorem takeDrain_late {w : Wheel} {r : BsuRec} {x : Bsu} {a : Nat}
    (ha : departTick w x.held r.arr (wBits r.word 9 8) (wBits r.word 25 10) = some a) (h : a < r.arr + 16) :
    takeDrain w r x = { x with drainLate := satInc x.drainLate } := by
  simp only [takeDrain, ha, if_pos h]

theorem decideBank_drains (b tick : Nat) (x : Bsu) : (decideBank b tick x).drains = x.drains := by
  have hmark (p : Prop) [Decidable p] (f : Bank → Bank) : (if p then modBank b f x else x).drains = x.drains := by
    split
    · rfl
    · rfl
  unfold decideBank
  dsimp only
  split
  · rfl
  · split
    · exact hmark ..
    · exact hmark ..
    · split
      · split
        · exact hmark ..
        · exact hmark ..
      · exact hmark ..
    · exact hmark ..

/-- The line of the one drain of a unit departs. -/
theorem bsuDrainLine_departs {d : Dev} {u : Fin 4} {h : Nat} {q : Drain} (hh : bsuHolder d u = some h) (hsus : (tenOf d h).suspendedAt = none)
    (hcount : counted d.whl = true) (hin : (bsuOf d u).drainIn = []) (hqueue : (bsuOf d u).queue = []) (hd : (bsuOf d u).drains = [q])
    (hat : q.at_ + q.next = gcOf d.whl - (bsuOf d u).held) :
    (∃ f : Flit, { dest := .swIn (islOfBsu u) 24, due := d.whl.now + 2, sw := d.whl.now + 2, flit := f } ∈
        (opBsuDrainLine u d.whl.now d).fab.flits ∧ f.late = false ∧ f.poison = false) ∧
      (bsuOf (opBsuDrainLine u d.whl.now d) u).drains = (if q.next + 1 < q.n then [{ q with next := q.next + 1 }] else []) := by
  have hdue : dueDrain (bsuOf d u) (gcOf d.whl - (bsuOf d u).held) = some q := by simp [dueDrain, hd, hat]
  have hstep (bytes : Nat) (x : Bsu) (hx : x.drains = [q]) :
      (stepDrain q bytes x).drains = (if q.next + 1 < q.n then [{ q with next := q.next + 1 }] else []) := by simp [stepDrain, hx]
  have hdecide (p : Prop) [Decidable p] (b tick : Nat) : (if p then decideBank b tick (bsuOf d u) else bsuOf d u).drains = [q] := by
    split
    · rw [decideBank_drains, hd]
    · exact hd
  unfold opBsuDrainLine
  simp only [lt_irrefl, if_false, advanceTo_now, hh, hsus, hcount, hin, hqueue, List.length_nil, takeDrains, runEngine, Option.isSome_none,
    Bool.not_true, Bool.or_self, Bool.false_eq_true, hdue]
  refine ⟨⟨_, List.mem_append_right _ (List.mem_singleton.mpr rfl), rfl, rfl⟩, ?_⟩
  rw [bsuOf_addFlight, bsuOf_modBsu_same]
  exact hstep _ _ (hdecide ..)

theorem opBsuReset_latched {d : Dev} {u : Nat} {cause : Fin 7} :
    bsuOf (opBsuReset u cause d) u = bsuAfter cause d.whl.n (bsuOf d u) := by
  have hquiet : bsuOf (failFlush u (bsuReset u cause d)) u = bsuAfter cause d.whl.n (bsuOf d u) := by
    rw [bsuOf_failFlush, bsuOf_bsuReset]
  unfold opBsuReset
  split
  next h => rw [h]; exact bsuOf_bsuFail ..
  next h => rw [h]; exact bsuOf_bsuFail ..
  next h => rw [h]; exact bsuOf_bsuFail ..
  · exact hquiet

/-- Settles O48: the input stage, the drains and the reset of a unit. -/
theorem bitstreamPorts : Obligations.BitstreamPorts := by
  rintro d u t hu rfl
  refine ⟨fun x hx hecc hh hlate hpoison hc hq hin hk => ?_, fun r rest a hin hok ha hd => ⟨fun hle => ?_, fun hlt => ?_⟩,
    fun h q hh hsus hcount hin hqueue hd hat => ?_, fun cause hcause hc => ?_⟩
  · obtain ⟨arr, e, ⟨hqueue, hseq, hconf, -, -⟩, hop⟩ := bsuRecordFlit_accepts hx hecc hh hlate hpoison hq hin
    refine answers_onUnits hu (fun _ => rfl) ?_
    rw [hop, ← hqueue, ← hseq]
    exact acceptFlit_records (hconf.trans hc) (hqueue ▸ hq) hk
  · refine answers_onUnits hu (fun _ => rfl) ?_
    have hop : opBsuDrain u d = modBsu u (fun x => takeDrain d.whl r { x with drainIn := rest }) d := by simp [opBsuDrain, hin, hok]
    rw [hop, bsuOf_modBsu_same]
    exact takeDrain_scheduled (x := { bsuOf d u with drainIn := rest }) ha hd hle
  · refine answers_onUnits hu (fun _ => rfl) ?_
    have hop : opBsuDrain u d = modBsu u (fun x => takeDrain d.whl r { x with drainIn := rest }) d := by simp [opBsuDrain, hin, hok]
    rw [hop, bsuOf_modBsu_same, takeDrain_late (x := { bsuOf d u with drainIn := rest }) ha hlt]
    exact ⟨rfl, hd, rfl⟩
  · exact answers_onUnits hu (fun _ => rfl) (bsuDrainLine_departs hh hsus hcount hin hqueue hd hat)
  · refine answers_onUnits hu (fun _ => rfl) ?_
    rw [opBsuReset_latched]
    exact bsuAfter_latched (.inr hc)

end Sys2Proof.Machine
end

section
/-!
The statement on timer channels: steps, starts, compare writes and pins (18 R619 to R635; 23 R765).
-/
namespace Sys2Proof.Machine

/-! ## Channels -/

/-- A change of the waiting channels that a test picks. -/
def timersWhere (p : Nat → Timer → Bool) (f : Timer → Timer) (d : Dev) : Dev :=
  { d with tmr := d.tmr.map fun e => if p e.1 e.2 then (e.1, f e.2) else e }

/-- A channel that the table does not list is idle, so a test of waiting channels passes it by. -/
theorem tmrOf_timersWhere {p : Nat → Timer → Bool} (hp : ∀ k, p k {} = false) (f : Timer → Timer) (d : Dev) (n : Nat) :
    tmrOf (timersWhere p f d) n = if p n (tmrOf d n) then f (tmrOf d n) else tmrOf d n := by
  unfold timersWhere tmrOf
  rw [tabGet_map]
  · dsimp only
    split
    · rfl
    · rfl
  · intro x
    split
    · rfl
    · rfl
  · intro k
    simp [hp]

/-- The events of a channel set its bits and change nothing else of the channels. -/
theorem tmrOf_signalEvents (n : Nat) (was : Timer) (cmp wrap : Bool) (d : Dev) (k : Nat) : tmrOf (signalEvents n was cmp wrap d) k =
    tmrOf (modTmr n (fun x => { x with evtCmp := x.evtCmp || cmp, evtWrap := x.evtWrap || wrap }) d) k := by
  unfold signalEvents
  dsimp only
  split
  · exact tmrOf_congr (by simp) k
  · rfl

/-! ## Steps (18 R619, R622) -/

theorem stepCount_periodic_up {x : Timer} (hm : x.mode = 1) (h : x.cnt < x.top) : stepCount x = (x.cnt + 1, false, true, false) := by
  simp [stepCount, hm, h]

theorem stepCount_periodic_wrap {x : Timer} (hm : x.mode = 1) (h : x.top ≤ x.cnt) : stepCount x = (0, false, true, true) := by
  simp [stepCount, hm, Nat.not_lt.mpr h]

theorem stepCount_once_end {x : Timer} (hm : x.mode = 0) (h : x.top ≤ x.cnt) : stepCount x = (x.cnt, false, false, true) := by
  simp [stepCount, hm, Nat.not_lt.mpr h]

theorem timerStep_steps {d : Dev} {n t : Nat} (hr : (tmrOf d n).running = true) (href : (tmrOf d n).refclk = false)
    (ht : t = (tmrOf d n).last + (tmrOf d n).prescale + 1) (hn : d.whl.now ≤ t) :
    (tmrOf (opTimerStep n t d) n).last = t ∧ (tmrOf (opTimerStep n t d) n).cnt = (stepCount (tmrOf d n)).1 ∧
      (tmrOf (opTimerStep n t d) n).running = (stepCount (tmrOf d n)).2.2.1 ∧ ∀ m, m ≠ n → tmrOf (opTimerStep n t d) m = tmrOf d m := by
  have hadv (k : Nat) : tmrOf (advanceTo t d) k = tmrOf d k := tmrOf_congr (by simp) k
  have hcond : ((tmrOf d n).running && decide (d.whl.now ≤ t) &&
      (if (tmrOf d n).refclk then decide ((tmrOf d n).last < t) else t == (tmrOf d n).last + (tmrOf d n).prescale + 1)) = true := by
    simp [hr, href, hn, ← ht]
  unfold opTimerStep
  dsimp only
  rw [if_pos hcond]
  refine ⟨?_, ?_, ?_, fun m hm => ?_⟩
  · simp [tmrOf_signalEvents]
  · simp [tmrOf_signalEvents]
  · simp [tmrOf_signalEvents]
  · rw [tmrOf_signalEvents, tmrOf_modTmr_ne _ _ hm, tmrOf_modTmr_ne _ _ hm, hadv]

/-! ## Starts (18 R630 to R632) -/

theorem timerStart_starts {d : Dev} {n t : Nat} (hw : (tmrOf d n).waiting = true) (hs : (tmrOf d n).startTick = some t) (hn : d.whl.now ≤ t) :
    tmrOf (opTimerStart t d) n = startTimer t (tmrOf d n) := by
  have hmap : tmrOf (opTimerStart t d) n = tmrOf (timersWhere (fun _ => startsAt (advanceTo t d).whl t) (startTimer t) (advanceTo t d)) n := by
    unfold opTimerStart
    rw [if_neg (Nat.not_lt.mpr hn)]
    exact tmrOf_congr (by simp [timersWhere]) n
  rw [hmap, tmrOf_timersWhere fun _ => by simp [startsAt], tmrOf_congr (show (advanceTo t d).tmr = d.tmr by simp)]
  simp [startsAt, hw, hs]

theorem timerStartMissed_misses {d : Dev} {n g : Nat} (hw : (tmrOf d n).waiting = true) (hs : (tmrOf d n).startGc = some g)
    (hg : g < gcOf d.whl) : tmrOf (opTimerStartMissed d) n = missStart d.whl.now (tmrOf d n) := by
  have hmap : tmrOf (opTimerStartMissed d) n = tmrOf (timersWhere (fun _ => startPassed d.whl) (missStart d.whl.now) d) n := by
    refine tmrOf_congr ?_ n
    refine foldl_keeps (·.tmr) _ (fun a c => ?_) _ _
    dsimp only
    split
    · simp
    · simp
  rw [hmap, tmrOf_timersWhere fun _ => by simp [startPassed]]
  simp [startPassed, hw, hs, hg]

theorem tmrGstart_one {d : Dev} {fn : Nat} {n : Fin 16} (hwr : tmrWritable d = true) (hfn : tmrFn d n = fn) (m : Fin 16) :
    tmrOf (opTmrGstart fn (BitVec.ofNat 16 (2 ^ n.val)) d) m =
      if m = n ∧ (tmrOf d n).waiting = true then startTimer d.whl.now (tmrOf d n) else tmrOf d m := by
  have hmap : opTmrGstart fn (BitVec.ofNat 16 (2 ^ n.val)) d =
      timersWhere (fun k x => bit (BitVec.ofNat 16 (2 ^ n.val)).toNat k && x.waiting && tmrFn d k == fn) (startTimer d.whl.now) d := by
    simp [opTmrGstart, hwr, timersWhere]
  have hbit : bit (BitVec.ofNat 16 (2 ^ n.val)).toNat m = decide (m = n) := by
    rw [bit_toNat, BitVec.getLsbD_ofNat, Nat.testBit_two_pow]
    simp [m.isLt, Fin.ext_iff, eq_comm]
  rw [hmap, tmrOf_timersWhere fun _ => by simp, hbit]
  by_cases hmn : m = n
  · subst hmn
    simp [hfn]
  · simp [hmn]

/-! ## Compare values (18 R633, R634, R635) -/

theorem cmpHiWrite_commits {d : Dev} {fn n : Nat} {v : W32} (hwr : tmrWritable d = true) (hfn : tmrFn d n = fn)
    (hs : (tmrOf d n).staged = true) (h : v.toNat * 2 ^ 32 + (tmrOf d n).stagedLo ≤ (tmrOf d n).top) :
    (tmrOf (opCmpHiWrite fn n v d) n).compare = v.toNat * 2 ^ 32 + (tmrOf d n).stagedLo ∧ (tmrOf (opCmpHiWrite fn n v d) n).staged = false := by
  rw [← pow2_eq] at h ⊢
  unfold opCmpHiWrite
  simp only [hwr, hfn, beq_self_eq_true, Bool.and_self, if_true, tmrOf_modTmr_same, hs, if_neg (Nat.not_lt.mpr h)]
  split
  · split
    · exact ⟨rfl, rfl⟩
    · exact ⟨rfl, rfl⟩
  · exact ⟨rfl, rfl⟩

theorem cmpHiWrite_past_top {d : Dev} {fn n : Nat} {v : W32} (hwr : tmrWritable d = true) (hfn : tmrFn d n = fn)
    (hs : (tmrOf d n).staged = true) (h : (tmrOf d n).top < v.toNat * 2 ^ 32 + (tmrOf d n).stagedLo) :
    (tmrOf (opCmpHiWrite fn n v d) n).compare = (tmrOf d n).compare ∧ (tmrOf (opCmpHiWrite fn n v d) n).missed = true := by
  rw [← pow2_eq] at h
  unfold opCmpHiWrite
  simp only [hwr, hfn, beq_self_eq_true, Bool.and_self, if_true, tmrOf_modTmr_same, hs, if_pos h, and_self]

theorem pinAct_eq (code : Nat) (level : Bool) :
    pinAct code level = (if code = 1 then true else if code = 2 then false else if code = 3 then !level else level) := by
  unfold pinAct
  split
  · rfl
  · rfl
  · rfl
  next h1 h2 h3 => rw [if_neg h1, if_neg h2, if_neg h3]

theorem cmpPin_eq (x : Timer) : cmpPin x x.pin = (if x.actions % 4 = 1 then true else if x.actions % 4 = 2 then false
    else if x.actions % 4 = 3 then !x.pin else x.pin) := by
  have hcode : bits x.actions 1 0 = x.actions % 4 := by simp [bits, pow2]
  rw [cmpPin, hcode, pinAct_eq]

theorem passedCompareFire_fires {d : Dev} {n : Nat} (hf : (tmrOf d n).fire = true) :
    (tmrOf (opPassedCompareFire n d) n).fire = false ∧
      (tmrOf (opPassedCompareFire n d) n).pin = (cmpPin (tmrOf d n) (tmrOf d n).pin && (tmrOf d n).pinEn) ∧
      (bit (tmrOf d n).actions 2 = true → (tmrOf (opPassedCompareFire n d) n).evtCmp = true) := by
  unfold opPassedCompareFire
  simp only [hf, if_true, tmrOf_signalEvents, tmrOf_modTmr_same]
  exact ⟨trivial, trivial, fun h => by simp [h]⟩

/-- Settles O49: a channel steps, starts and compares by its own registers, the others stay. -/
theorem timerChannels : Obligations.TimerChannels := by
  intro d n t hu hn
  refine ⟨fun hr href ht => ?_, fun hw hs => ?_, fun g hw hs hg => ?_, fun fn v hh hwr hfn => ⟨?_, fun hs hle => ?_, fun hs hlt => ?_, fun hw => ?_⟩,
    fun hf => ?_⟩
  · refine answers_onFabric hu (fun _ => rfl) ?_
    obtain ⟨hlast, hcnt, hrun, hothers⟩ := timerStep_steps hr href ht hn
    refine ⟨hlast, hcnt, fun hm h => ?_, fun hm h => ?_, fun hm h => ?_, fun m hm => hothers m fun h => hm (Fin.ext h)⟩
    · rw [hcnt, hrun, stepCount_periodic_up hm h]
      exact ⟨rfl, rfl⟩
    · rw [hcnt, hrun, stepCount_periodic_wrap hm h]
      exact ⟨rfl, rfl⟩
    · rw [hcnt, hrun, stepCount_once_end hm h]
      exact ⟨rfl, rfl⟩
  · refine answers_onFabric hu (fun _ => rfl) ?_
    rw [timerStart_starts hw hs hn]
    exact ⟨rfl, rfl, rfl, rfl⟩
  · refine answers_onFabric hu (fun _ => rfl) ?_
    rw [timerStartMissed_misses hw hs hg]
    refine ⟨?_, fun hf => ?_, fun hf => ?_⟩
    · unfold missStart
      split
      · rfl
      · rfl
    · simp [missStart, hf, hw]
    · simp [missStart, hf]
  · refine answers_onHost hu.1 hh (fun _ => rfl) ?_
    simp [opCmpLoWrite, hwr, hfn]
  · exact answers_onHost hu.1 hh (fun _ => rfl) (cmpHiWrite_commits hwr hfn hs hle)
  · exact answers_onHost hu.1 hh (fun _ => rfl) (cmpHiWrite_past_top hwr hfn hs hlt)
  · refine answers_onHost hu.1 hh (fun _ => rfl) ?_
    have hstart (m : Fin 16) := tmrGstart_one hwr hfn m
    rw [hstart n, if_pos ⟨rfl, hw⟩]
    exact ⟨rfl, rfl, fun m hm => (hstart m).trans (if_neg fun h => hm h.1)⟩
  · refine answers_onFabric hu (fun _ => rfl) ?_
    rw [← cmpPin_eq]
    exact passedCompareFire_fires hf

end Sys2Proof.Machine
end

section
/-!
The statement on commands that read, fence and wait for a count (15 R515, R532, R533, R536, R537, R540, R547, Table CMD-6).
-/
namespace Sys2Proof.Machine

/-! ## A ring's next command -/

/-- A command of one step that the ring's core takes next. -/
theorem answers_next {d : Dev} {i : Instr} {r op : Nat} {c : Cmd} {body : Cmd → Dev → Dev} {P : Dev → Prop} (hu : ControlUp d)
    (h : nextCmd d r op = some c) (hop : isLong op = false) (hi : ∀ s, exec i s = onControl s (runCmd r op body))
    (hP : P (body c (tookTurn r d))) : Answers i d P :=
  answers_onControl hu hi (by rwa [runCmd_next h hop])

theorem answers_nextFor {d : Dev} {i : Instr} {r op t : Nat} {c : Cmd} {body : Nat → Cmd → Dev → Dev} {P : Dev → Prop} (hu : ControlUp d)
    (h : NextFor d r op t c) (hop : isLong op = false) (hi : ∀ s, exec i s = onControl s (runTen r op body))
    (hP : P (body t c (tookTurn r d))) : Answers i d P :=
  answers_onControl hu hi (by rwa [runTen_next h hop])

@[simp] theorem cmdFn_tookTurn (r : Nat) (d : Dev) (c : Cmd) : cmdFn (tookTurn r d) c = cmdFn d c := by
  rw [cmdFn, cmdFn, ringOf_of_rings (tookTurn_rings r d)]

@[simp] theorem canIssue_tookTurn (r : Nat) (d : Dev) (fn : Nat) : canIssue (tookTurn r d) fn = canIssue d fn :=
  canIssue_congr (by simp) fn

@[simp] theorem tookTurn_posted (r : Nat) (d : Dev) : (tookTurn r d).host.posted = d.host.posted := by simp

theorem mem_tookTurn_of_nextCmd {d : Dev} {r op : Nat} {c : Cmd} (h : nextCmd d r op = some c) : c ∈ (tookTurn r d).host.cmds := by
  rw [tookTurn_cmds]
  exact mem_of_nextCmd h

/-! ## Data written to the host -/

theorem hostWrite_of_canIssue {d : Dev} {c : Cmd} (h : canIssue d (cmdFn d c) = true) (addr : Nat) (b : List Byte) :
    hostWrite c addr b d = { d with host := { d.host with posted := d.host.posted ++ [.hostWrite (cmdFn d c) addr b] } } :=
  issueOut_of_canIssue h _

@[simp] theorem hostWrite_cmds (c : Cmd) (addr : Nat) (b : List Byte) (d : Dev) : (hostWrite c addr b d).host.cmds = d.host.cmds :=
  issueOut_cmds ..

/-- A command that answers with data: its reply, and its data posted. -/
theorem finish_hostWrite {d : Dev} {c : Cmd} {fn : Nat} {posted : List Out} (hc : c ∈ d.host.cmds) (hfn : cmdFn d c = fn)
    (h : canIssue d fn = true) (hp : d.host.posted = posted) (addr : Nat) (b : List Byte) (st r0 r1 : Nat) :
    SettledWith (finish c.id st r0 r1 (hostWrite c addr b d)) c.id st r0 r1 ∧
      (finish c.id st r0 r1 (hostWrite c addr b d)).host.posted = posted ++ [.hostWrite fn addr b] := by
  subst hfn hp
  refine ⟨settledWith_finish (by simpa using hc) .., ?_⟩
  rw [hostWrite_of_canIssue h]
  rfl

@[simp] theorem length_leBytes (n v : Nat) : (leBytes n v).length = n := by
  induction n generalizing v with
  | zero => rfl
  | succ n ih => simp [leBytes, ih]

theorem length_identBytes (d : Dev) (gc : Nat) : (identBytes d gc).length = 256 := by
  simp [identBytes]

theorem length_summaryBytes (d : Dev) (t : Nat) : (summaryBytes d t).length = 256 := by
  simp [summaryBytes]

theorem length_digBytes (x : Tenancy) : (digBytes x).length = 16 * x.digTable.length := by
  simp [digBytes, List.length_flatMap, Nat.mul_comm]

/-! ## The commands -/

section

variable {d : Dev} {r : Fin 1024} {c : Cmd} (hu : ControlUp d)
include hu

theorem answers_queryDevice_ident (h : nextCmd d r 0x0002 = some c) (ha : pkField c.pkt 16 8 % 64 = 0) (hs : pkField c.pkt 28 1 = 0)
    (hl : 256 ≤ pkField c.pkt 24 4) (hi : canIssue d (cmdFn d c) = true) : Answers (.queryDevice r) d fun e =>
      SettledWith e c.id 0 256 256 ∧
        ∃ b, b.length = 256 ∧ e.host.posted = d.host.posted ++ [.hostWrite (cmdFn d c) (pkField c.pkt 16 8) b] := by
  refine answers_next hu h rfl (fun _ => rfl) ?_
  simp only [hs, deviceSection, ha, ne_eq, not_true_eq_false, Nat.not_lt.mpr hl, or_self, if_false, Nat.reduceEqDiff, false_and]
  obtain ⟨hset, hpost⟩ := finish_hostWrite (mem_tookTurn_of_nextCmd h) (cmdFn_tookTurn ..) ((canIssue_tookTurn ..).trans hi)
    (tookTurn_posted ..) (pkField c.pkt 16 8) (identBytes (tookTurn r d) (gcOf (tookTurn r d).whl)) sOk 256 256
  exact ⟨hset, _, length_identBytes _ _, hpost⟩

theorem answers_queryDevice_log (h : nextCmd d r 0x0002 = some c) (ha : pkField c.pkt 16 8 % 64 = 0) (hs : pkField c.pkt 28 1 = 5)
    (hl : 16448 ≤ pkField c.pkt 24 4) : Answers (.queryDevice r) d fun e => SettledWith e c.id 0 16448 16448 ∧ e.mem.log = [] := by
  refine answers_next hu h rfl (fun _ => rfl) ?_
  simp only [hs, deviceSection, ha, ne_eq, not_true_eq_false, Nat.not_lt.mpr hl, or_self, if_false, Nat.reduceEqDiff, false_and, if_true,
    and_true]
  have hmem : c ∈ (hostWrite c (pkField c.pkt 16 8) (errBytes (tookTurn r d)) (tookTurn r d)).host.cmds := by
    rw [hostWrite_cmds]
    exact mem_tookTurn_of_nextCmd h
  exact settledWith_finish hmem sOk 16448 16448

theorem answers_queryTenancy_summary {t : Nat} (h : NextFor d r 0x0003 t c) (hten : pkField c.pkt 29 1 = 0xFF) (hs : pkField c.pkt 28 1 = 0)
    (ha : pkField c.pkt 16 8 % 64 = 0) (hl : 256 ≤ pkField c.pkt 24 4) (hi : canIssue d (cmdFn d c) = true) :
    Answers (.queryTenancy r) d fun e => SettledWith e c.id 0 256 256 ∧
      ∃ b, b.length = 256 ∧ e.host.posted = d.host.posted ++ [.hostWrite (cmdFn d c) (pkField c.pkt 16 8) b] := by
  obtain ⟨hnext, ht, hlt, hclass⟩ := h
  refine answers_next hu hnext rfl (fun _ => rfl) ?_
  simp only [hten, if_true, cmdTen_tookTurn, ht, grantOf_tookTurn, Nat.not_le.mpr hlt, hclass, or_self, if_false, hs, tenancySection, ha,
    ne_eq, not_true_eq_false, Nat.not_lt.mpr hl]
  obtain ⟨hset, hpost⟩ := finish_hostWrite (d := modHost (fun h => { h with nextId := h.nextId + 1 }) (tookTurn r d))
    (mem_tookTurn_of_nextCmd hnext) (cmdFn_tookTurn r d c) ((canIssue_tookTurn r d _).trans hi) (tookTurn_posted r d) (pkField c.pkt 16 8)
    (summaryBytes (tookTurn r d) t) sOk 256 256
  exact ⟨hset, summaryBytes (tookTurn r d) t, length_summaryBytes .., hpost⟩

theorem answers_countRead (h : nextCmd d r 0x0502 = some c) : Answers (.countRead r) d fun e =>
    (∃ x ∈ e.host.cmds, x.id = c.id ∧ x.stage = .done ∧ x.status = 0 ∧ x.gcDone = some (gcOf d.whl) ∧ x.res0 = gcOf d.whl / d.whl.w) ∧
      e.whl = d.whl := by
  refine answers_next hu h rfl (fun _ => rfl) ?_
  have hwhl : (tookTurn r.val d).whl = d.whl := by simp
  refine ⟨⟨_, List.mem_map.mpr ⟨c, mem_tookTurn_of_nextCmd h, if_pos rfl⟩, rfl, rfl, rfl, ?_, ?_⟩, ?_⟩
  · rw [← hwhl]
  · rw [← hwhl]
  · simp

theorem answers_waitCount_passed (h : nextCmd d r 0x0306 = some c) (hp : countPassed d.whl (pkField c.pkt 16 8) = true) :
    Answers (.waitCount r) d fun e => SettledWith e c.id 0 0 0 := by
  refine answers_next hu h rfl (fun _ => rfl) ?_
  have hp' : countPassed (tookTurn r d).whl (pkField c.pkt 16 8) = true := by simpa using hp
  simp only [hp', if_true]
  exact settledWith_finish (mem_tookTurn_of_nextCmd h) ..

theorem answers_waitCount_waits (h : nextCmd d r 0x0306 = some c) (hp : countPassed d.whl (pkField c.pkt 16 8) = false) :
    Answers (.waitCount r) d fun e => Armed e c.id (pkField c.pkt 16 8) := by
  refine answers_next hu h rfl (fun _ => rfl) ?_
  have hp' : countPassed (tookTurn r d).whl (pkField c.pkt 16 8) = false := by simpa using hp
  simp only [hp', Bool.false_eq_true, if_false]
  exact armed_armCmd (mem_tookTurn_of_nextCmd h) ..

theorem answers_digestTableRead {t : Nat} (h : NextFor d r 0x0403 t c) (ha : pkField c.pkt 16 8 % 64 = 0)
    (hl : pkField c.pkt 24 4 = 16 * (tenOf d t).digTable.length) (hi : canIssue d (cmdFn d c) = true) :
    Answers (.digestTableRead r) d fun e =>
      SettledWith e c.id 0 (tenOf d t).digTable.length (if (tenOf d t).digMark then 1 else 0) ∧
        e.host.posted = d.host.posted ++ [.hostWrite (cmdFn d c) (pkField c.pkt 16 8) (digBytes (tenOf d t))] := by
  refine answers_nextFor hu h rfl (fun _ => rfl) ?_
  have hall : (digBytes (tenOf d t)).take (16 * (tenOf d t).digTable.length) = digBytes (tenOf d t) :=
    List.take_of_length_le (length_digBytes _).le
  simp only [tenOf_tookTurn, ha, hl, ne_eq, not_true_eq_false, Nat.mul_mod_right, or_self, if_false, Nat.mul_div_cancel_left _ (show 0 < 16 by decide),
    Nat.min_self, hall]
  exact finish_hostWrite (mem_tookTurn_of_nextCmd h.1) (cmdFn_tookTurn ..) ((canIssue_tookTurn ..).trans hi) (tookTurn_posted ..) ..

theorem answers_varianceRead {t : Nat} (h : NextFor d r 0x0404 t c) (ha : pkField c.pkt 16 8 % 64 = 0) : Answers (.varianceRead r) d fun e =>
    SettledWith e c.id 0 0 0 ∧ (bit (pkField c.pkt 24 1) 0 = true → varCounts (tenOf e t) = [0, 0, 0, 0, 0]) ∧
      (bit (pkField c.pkt 24 1) 0 = false → e.ten = d.ten) := by
  refine answers_nextFor hu h rfl (fun _ => rfl) ?_
  have hmem (b : List Byte) : c ∈ (hostWrite c (pkField c.pkt 16 8) b (tookTurn r d)).host.cmds := by
    rw [hostWrite_cmds]
    exact mem_tookTurn_of_nextCmd h.1
  simp only [ha, ne_eq, not_true_eq_false, if_false]
  cases hbit : bit (pkField c.pkt 24 1) 0 with
  | true =>
    refine ⟨settledWith_finish (d := modTen t clearVariance _) (hmem _) .., fun _ => ?_, nofun⟩
    simp [varCounts, clearVariance]
  | false => exact ⟨settledWith_finish (hmem _) .., nofun, fun _ => by simp⟩

theorem answers_partitionRead_force (h : nextCmd d r 0x0F02 = some c) (hw : pkField c.pkt 16 1 = 0) (hf : pkField c.pkt 17 1 = 0)
    (hn : pkField c.pkt 18 1 = 32) (ha : pkField c.pkt 24 8 % 64 = 0) (hi : canIssue d (cmdFn d c) = true) :
    Answers (.partitionRead r) d fun e => SettledWith e c.id 0 0 0 ∧ e.host.posted = d.host.posted ++
      [.hostWrite (cmdFn d c) (pkField c.pkt 24 8) ((List.range 32).flatMap fun k => leBytes 128 (recOf d.grants.force k).toNat)] := by
  refine answers_next hu h rfl (fun _ => rfl) ?_
  have hgrants : (tookTurn r.val d).grants = d.grants := by simp
  simp only [hw, hf, hn, ha, hgrants, Nat.not_lt_zero, Nat.reduceEqDiff, Nat.sub_zero, lt_irrefl, ne_eq, not_true_eq_false, or_self, if_false,
    Nat.zero_add]
  exact finish_hostWrite (mem_tookTurn_of_nextCmd h) (cmdFn_tookTurn ..) ((canIssue_tookTurn ..).trans hi) (tookTurn_posted ..) ..

end

/-- Settles O51: each command by its reply and the data it posts. -/
theorem queryCommands : Obligations.QueryCommands := by
  intro d r c t hu
  refine ⟨fun h => ?_, answers_queryDevice_ident hu, answers_queryDevice_log hu, answers_queryTenancy_summary hu, answers_countRead hu,
    fun h hfirst => ?_, fun h hlater => ?_, answers_waitCount_passed hu, answers_waitCount_waits hu, answers_digestTableRead hu,
    answers_varianceRead hu, answers_partitionRead_force hu⟩
  · refine answers_next hu h rfl (fun _ => rfl) ?_
    exact ⟨settledWith_finish (mem_tookTurn_of_nextCmd h) .., by simp, by simp⟩
  · refine answers_next hu h rfl (fun _ => rfl) ?_
    simp only [tookTurn_cmds, hfirst, Bool.false_eq_true, if_false]
    exact settledWith_finish (mem_tookTurn_of_nextCmd h) ..
  · refine answers_next hu h rfl (fun _ => rfl) ?_
    simp only [tookTurn_cmds, hlater, if_true]
    exact ⟨trivial, tookTurn_posted .., by simp, by simp⟩

end Sys2Proof.Machine
end

section
/-!
The statement on buffer commands: they store, send and digest exactly the bytes they name (15 R520 to R526; 10 R379, R380).
-/
namespace Sys2Proof.Machine

/-! ## Bytes that are stored by whole units (06 R234) -/

/-- The bytes from a on, k of them, are those of a number; memory is else as it was. -/
structure Stored (m : Mem) (a k v : Nat) (m' : Mem) : Prop where
  wf : Memory.wf m'.cells = true
  byte : ∀ x, memGet m'.cells x = if a ≤ x ∧ x < a + k then BitVec.ofNat 8 (v / 256 ^ (x - a)) else memGet m.cells x

/-- A unit written under a full mask holds the bytes written, whatever its check bits said. -/
theorem memGet_writeUnit_whole {m : Mem} (h : Memory.wf m.cells = true) {n u v i : Nat} (hi : i < n) :
    memGet (writeUnit n u v (rangeMask 0 (8 * n)) false m).1.cells (u + i) = BitVec.ofNat 8 (v / 256 ^ i) := by
  have hbit (j : Nat) (hj : j < 8 * n) : (rangeMask 0 (8 * n)).testBit j = true := by simp [testBit_rangeMask, hj]
  have hmask : rangeMask 0 (8 * n) ≠ 0 := fun h0 => by simpa [h0] using hbit 0 (by omega)
  rw [writeUnit, if_neg (by simpa using hmask)]
  refine (memGet_memWrite_inside n m.cells u _ i h hi).trans (byte_eq_of_testBit fun k hk => ?_)
  rw [testBit_mergeBits, hbit _ (by omega), if_pos rfl]

theorem byte_of_part (v s n : Nat) {i : Nat} (hi : i < n) :
    BitVec.ofNat 8 (v / pow2 (8 * s) % pow2 (8 * n) / 256 ^ i) = BitVec.ofNat 8 (v / 256 ^ (s + i)) := by
  refine byte_eq_of_testBit fun k hk => ?_
  rw [pow2_eq, pow2_eq, Nat.testBit_mod_two_pow, ← Nat.shiftRight_eq_div_pow, Nat.testBit_shiftRight]
  have hlt : 8 * i + k < 8 * n := by omega
  simp only [hlt, decide_true, Bool.true_and]
  congr 1
  omega

theorem Stored.writeUnit {m m' : Mem} {a n k v : Nat} (h : Stored m a (n * k) v m') :
    Stored m a (n * (k + 1)) v (writeUnit n (a + n * k) (v / pow2 (8 * (n * k)) % pow2 (8 * n)) (rangeMask 0 (8 * n)) false m').1 where
  wf := wf_writeUnit _ _ _ _ _ _ h.wf
  byte x := by
    have hend : n * (k + 1) = n * k + n := Nat.mul_succ n k
    by_cases hin : a + n * k ≤ x ∧ x < a + n * k + n
    · obtain ⟨i, rfl⟩ := Nat.exists_eq_add_of_le hin.1
      have hi : i < n := by omega
      rw [memGet_writeUnit_whole h.wf hi, byte_of_part v (n * k) n hi, if_pos (by omega)]
      congr 3
      omega
    · rw [writeUnit_outside h.wf (by omega), h.byte]
      have hiff : (a ≤ x ∧ x < a + n * k) ↔ a ≤ x ∧ x < a + n * (k + 1) := by omega
      simp only [hiff]

/-- Data that fills whole units is stored byte by byte, and nothing else changes. -/
theorem stored_storeBytes {n a : Nat} {data : List Byte} {m : Mem} (hn : 0 < n) (ha : a % n = 0) (hl : data.length % n = 0)
    (h : Memory.wf m.cells = true) : Stored m a data.length (leNat data) (storeBytes n a data m) := by
  obtain ⟨b, rfl⟩ := Nat.dvd_of_mod_eq_zero ha
  obtain ⟨c, hc⟩ := Nat.dvd_of_mod_eq_zero hl
  have hfirst : n * b / n * n = n * b := by rw [Nat.mul_div_cancel_left _ hn, Nat.mul_comm]
  have hcount : (n * b + n * c - n * b + n - 1) / n = c := by
    rw [Nat.add_sub_cancel_left, Nat.add_sub_assoc hn, Nat.mul_add_div hn, Nat.div_eq_of_lt (Nat.sub_lt hn Nat.one_pos), Nat.add_zero]
  unfold storeBytes storeUnits
  simp only [hc, hfirst, hcount]
  have hsteps : ∀ k ≤ c, Stored m (n * b) (n * k) (leNat data) ((List.range k).foldl (fun x k =>
      let u := n * b + n * k
      let lo := max (n * b) u
      let hi := min (n * b + n * c) (u + n)
      let part := leNat data / pow2 (8 * (lo - n * b)) % pow2 (8 * (hi - lo))
      let r := writeUnit n u (part * pow2 (8 * (lo - u))) (rangeMask (8 * (lo - u)) (8 * (hi - u))) false x.1
      (r.1, x.2.1 + r.2.1, x.2.2.1 + r.2.2, x.2.2.2.or (if r.2.2 = 0 then none else some u))) (m, 0, 0, none)).1 := by
    intro k
    induction k with
    | zero => exact fun _ => ⟨h, fun x => by simp⟩
    | succ k ih =>
      intro hk
      have hle : n * (k + 1) ≤ n * c := Nat.mul_le_mul_left n hk
      have hend : n * (k + 1) = n * k + n := Nat.mul_succ n k
      have hlo : max (n * b) (n * b + n * k) = n * b + n * k := by omega
      have hhi : min (n * b + n * c) (n * b + n * k + n) = n * b + n * k + n := by omega
      have hone : pow2 (8 * 0) = 1 := rfl
      rw [List.range_succ, List.foldl_append]
      simp only [List.foldl_cons, List.foldl_nil, hlo, hhi, Nat.add_sub_cancel_left, Nat.sub_self, Nat.mul_zero]
      have hstep := (ih (by omega)).writeUnit
      simpa only [Nat.mul_one, show pow2 0 = 1 from rfl] using hstep
  exact hsteps c le_rfl

/-- Byte i of data held as a number. -/
theorem byte_of_leNat (data : List Byte) {i : Nat} (h : i < data.length) : BitVec.ofNat 8 (leNat data / 256 ^ i) = data.getD i 0 := by
  induction data generalizing i with
  | nil => simp at h
  | cons b t ih =>
    have hb := b.isLt
    cases i with
    | zero =>
      refine BitVec.eq_of_toNat_eq ?_
      simp only [leNat, Nat.pow_zero, Nat.div_one, BitVec.toNat_ofNat, List.getD_cons_zero]
      omega
    | succ i =>
      have hdiv : leNat (b :: t) / 256 ^ (i + 1) = leNat t / 256 ^ i := by
        rw [leNat, Nat.pow_succ', ← Nat.div_div_eq_div_mul]
        congr 1
        omega
      rw [hdiv, ih (Nat.lt_of_succ_lt_succ (by simpa using h)), List.getD_cons_succ]

theorem leBytes_getD (n v : Nat) {i : Nat} (h : i < n) : (leBytes n v).getD i 0 = BitVec.ofNat 8 (v / 256 ^ i) := by
  induction n generalizing v i with
  | zero => omega
  | succ n ih =>
    cases i with
    | zero => simp [leBytes]
    | succ i => rw [leBytes, List.getD_cons_succ, ih _ (Nat.lt_of_succ_lt_succ h), Nat.div_div_eq_div_mul, ← Nat.pow_succ']

theorem leNat_leBytes (n v : Nat) : leNat (leBytes n v) = v % 256 ^ n := by
  induction n generalizing v with
  | zero => simp [leBytes, leNat, Nat.mod_one]
  | succ n ih => simp [leBytes, leNat, ih, Nat.pow_succ', Nat.mod_mul]

/-! ## The area of a command (15 R520) -/

theorem areaBase_aligned (g : GrantRec) (a : BufArea) : areaBase g a % 64 = 0 := by
  unfold areaBase
  split
  · simp only [paneBase]; omega
  · simp only [colBase]; omega
  · simp only [shelfBase]

theorem areaOk_aligned {a : BufArea} (h : areaOk a = true) : a.off % 64 = 0 := by
  simp only [areaOk, Bool.and_eq_true, beq_iff_eq] at h
  exact h.2

/-- A move that nothing refuses names an aligned area and whole lines. -/
theorem moveRefuse_none {d : Dev} {t op : Nat} {p : Line} (h : moveRefuse d t op p = none) :
    areaOk (areaOf p) = true ∧ pkField p 40 4 % 64 = 0 := by
  unfold moveRefuse at h
  dsimp only at h
  split at h
  · cases h
  next hok =>
    simp only [Bool.or_eq_true, not_or, Bool.not_eq_true', Bool.not_eq_false] at hok
    obtain ⟨⟨hlen, harea⟩, -⟩ := hok
    simp only [lengthOk, Bool.and_eq_true, beq_iff_eq] at harea
    exact ⟨hlen, harea.1.1⟩

theorem digestOk_areaOk {p : Line} (h : digestOk p = true) : areaOk (areaOf p) = true := by
  simp only [digestOk, Bool.and_eq_true, and_assoc] at h
  exact h.1

theorem moveRefuse_tookTurn (r : Nat) (d : Dev) (t op : Nat) (p : Line) : moveRefuse (tookTurn r d) t op p = moveRefuse d t op p := by
  simp [moveRefuse]

theorem bufferAdmits_tookTurn (r : Nat) (d : Dev) (t : Nat) : bufferAdmits (tookTurn r d) t = bufferAdmits d t := by
  simp [bufferAdmits, inStates, loadRuns, replayOpen]

theorem stored_storeArea {g : GrantRec} {a : BufArea} {data : List Byte} {d : Dev} (ha : areaOk a = true) (hl : data.length % 64 = 0)
    (h : Memory.wf d.mem.cells = true) : Stored d.mem (areaBase g a + a.off) data.length (leNat data) (storeArea g a data d).mem := by
  have hbase := areaBase_aligned g a
  have hoff := areaOk_aligned ha
  unfold storeArea areaUnit
  split
  · exact stored_storeBytes (by decide) (by omega) hl h
  · exact stored_storeBytes (by decide) (by omega) (by omega) h

/-- What a store of data leaves of memory, byte by byte. -/
theorem Stored.bytes {d : Dev} {m : Mem} {a : Nat} {data : List Byte} (h : Stored m a data.length (leNat data) d.mem) :
    (∀ i < data.length, byteAt d (a + i) = data.getD i 0) ∧ ∀ x, x < a ∨ a + data.length ≤ x → byteAt d x = memGet m.cells x := by
  refine ⟨fun i hi => ?_, fun x hx => ?_⟩
  · rw [byteAt, h.byte, if_pos (by omega), Nat.add_sub_cancel_left, byte_of_leNat data hi]
  · rw [byteAt, h.byte, if_neg (by omega)]

/-! ## Lines without errors (06 R232, R234) -/

/-- Where lines of an area may be read: the pane is powered, and a column's lines are aligned. -/
structure Readable (a : BufArea) (addr : Nat) (d : Dev) : Prop where
  ecc : d.mem.ecc = []
  powered : a.tier = 0 → (clOf d a.cl).powered = true
  column : a.tier = 1 → ∃ l, addr = colBase a.cl + 64 * l

theorem toNat_line (m : List Host.Cell) (a : Nat) : (BitVec.ofNat 512 (memRead m a 64)).toNat = memRead m a 64 := by
  rw [BitVec.toNat_ofNat, Nat.mod_eq_of_lt]
  exact lt_of_lt_of_eq (memRead_lt m a 64) (Nat.pow_mul 2 8 64).symm

theorem readLine8_clean {m : Mem} (h : m.ecc = []) (a : Nat) : readLine8 m a =
    { data := BitVec.ofNat 512 (memRead m.cells a 64), poison := 0, corr := 0, uncorr := 0, stored := 0, firstBad := 8 } := by
  simp only [readLine8, h, tabGet_nil]
  exact lineRead_clean _

theorem readColLine_clean {m : Mem} (h : m.ecc = []) (cl l : Nat) :
    (readColLine m cl l).data = BitVec.ofNat 512 (memRead m.cells (colBase cl + 64 * l) 64) ∧ (readColLine m cl l).poison = false := by
  simp only [readColLine, h, tabGet_nil]
  exact ⟨rfl, rfl⟩

@[simp] theorem logError_ecc (key a kind : Nat) (ten : Option Nat) (d : Dev) : (logError key a kind ten d).mem.ecc = d.mem.ecc := by
  unfold logError
  split <;> rfl

@[simp] theorem memCtr_ecc (cl : Nat) (f : MemCtr → MemCtr) (d : Dev) : (memCtr cl f d).mem.ecc = d.mem.ecc := rfl
@[simp] theorem modShelfCtr_ecc (q : Nat) (f : ShelfCtr → ShelfCtr) (d : Dev) : (modShelfCtr q f d).mem.ecc = d.mem.ecc := rfl

@[simp] theorem logRead_ecc (key a : Nat) (x : LineRead) (ten : Option Nat) (d : Dev) : (logRead key a x ten d).mem.ecc = d.mem.ecc := by
  unfold logRead
  split
  · exact logError_ecc ..
  · split
    · exact logError_ecc ..
    · rfl

@[simp] theorem countPane_ecc (cl a : Nat) (x : LineRead) (d : Dev) : (countPane cl a x d).mem.ecc = d.mem.ecc := logRead_ecc ..

@[simp] theorem countCol_ecc (cl l : Nat) (x : ColRead) (d : Dev) : (countCol cl l x d).mem.ecc = d.mem.ecc := by
  have h0 : (if x.onDie = 0 then d else memCtr cl (fun c => { c with colOdecc := satAdd c.colOdecc x.onDie }) d).mem.ecc = d.mem.ecc := by
    split <;> rfl
  unfold countCol
  dsimp only
  split
  · exact h0
  · exact h0
  · exact (logError_ecc ..).trans h0
  · exact (logError_ecc ..).trans h0

/-- Reading a line counts what it met and leaves the check bits. -/
@[simp] theorem readAreaLine_ecc (a : BufArea) (addr : Nat) (d : Dev) : (readAreaLine a addr d).2.2.mem.ecc = d.mem.ecc := by
  unfold readAreaLine
  dsimp only
  split
  · split <;> simp
  · simp
  · simp

theorem readAreaLine_clean {a : BufArea} {addr : Nat} {d : Dev} (h : Readable a addr d) :
    (readAreaLine a addr d).1 = memRead d.mem.cells addr 64 ∧ (readAreaLine a addr d).2.1 = none := by
  obtain ⟨hecc, hpow, hcol⟩ := h
  have hline := readLine8_clean hecc addr
  have hdata : (readLine8 d.mem addr).data.toNat = memRead d.mem.cells addr 64 := by rw [hline]; exact toNat_line ..
  have hword : badWord (readLine8 d.mem addr) = none := by rw [hline]; simp [badWord, bit]
  unfold readAreaLine
  dsimp only
  split
  next ht =>
    rw [if_pos (hpow ht)]
    exact ⟨hdata, hword⟩
  next ht =>
    obtain ⟨l, rfl⟩ := hcol ht
    have hl : (colBase a.cl + 64 * l - colBase a.cl) / 64 = l := by omega
    obtain ⟨hcell, hpoison⟩ := readColLine_clean hecc a.cl l
    rw [hl, hcell, hpoison]
    exact ⟨toNat_line .., rfl⟩
  next => exact ⟨hdata, hword⟩

/-- Lines of an area without errors read as memory holds them. -/
theorem readArea_clean {a : BufArea} {addr used : Nat} (n : Nat) {at_ : Nat} {d : Dev} (h : Readable a (addr + at_) d) :
    (readArea a addr used n at_ d).2.1 = none ∧ (readArea a addr used n at_ d).1.length = 64 * n ∧
      ∀ i < 64 * n, (readArea a addr used n at_ d).1.getD i 0 = memGet d.mem.cells (addr + at_ + i) := by
  induction n generalizing at_ d with
  | zero => exact ⟨rfl, rfl, fun i hi => absurd hi (by omega)⟩
  | succ n ih =>
    obtain ⟨hdata, hgood⟩ := readAreaLine_clean h
    have hnext : Readable a (addr + (at_ + 64)) (readAreaLine a (addr + at_) d).2.2 := by
      refine ⟨by rw [readAreaLine_ecc]; exact h.ecc, fun ht => ?_, fun ht => ?_⟩
      · rw [clOf_congr (d := (readAreaLine a (addr + at_) d).2.2) (e := d) (by simp)]
        exact h.powered ht
      · obtain ⟨l, hl⟩ := h.column ht
        exact ⟨l + 1, by omega⟩
    obtain ⟨hnone, hlen, hbytes⟩ := ih hnext
    unfold readArea
    simp only [hgood]
    refine ⟨hnone, by simp [hlen]; omega, fun i hi => ?_⟩
    by_cases hlt : i < 64
    · rw [List.getD_append _ _ _ _ (by simpa using hlt), leBytes_getD _ _ hlt, hdata, byte_of_memRead _ _ hlt]
    · rw [List.getD_append_right _ _ _ _ (by simpa using Nat.not_lt.mp hlt), length_leBytes, hbytes _ (by omega), readAreaLine_mem_cells]
      congr 1
      omega

/-- The lines that a command names can be read where its pane is powered. -/
theorem readable_bufStart {d e : Dev} {t : Nat} {p : Line} (harea : areaOk (areaOf p) = true) (hecc : d.mem.ecc = [])
    (hpow : (areaOf p).tier = 0 → (clOf d (areaOf p).cl).powered = true) (hmem : e.mem = d.mem) (hcl : e.cl = d.cl) :
    Readable (areaOf p) (bufStart d t p) e where
  ecc := by rw [hmem]; exact hecc
  powered ht := by rw [clOf_congr hcl]; exact hpow ht
  column ht := by
    obtain ⟨k, hk⟩ := Nat.dvd_of_mod_eq_zero (areaOk_aligned harea)
    refine ⟨recWinBase (grantOf d t) (areaOf p).win * 16384 + k, ?_⟩
    simp only [bufStart, areaBase, ht, hk]
    omega

/-! ## What a fill writes and a digest reads (15 R525, R526) -/

@[simp] theorem length_fillBytes (pattern n : Nat) : (fillBytes pattern n).length = n / 8 * 8 := by simp [fillBytes]

theorem flatten_replicate_getD {n i : Nat} (l : List Byte) (h : i < n * l.length) : (List.replicate n l).flatten.getD i 0 = l.getD (i % l.length) 0 := by
  induction n generalizing i with
  | zero => omega
  | succ n ih =>
    rw [List.replicate_succ, List.flatten_cons]
    by_cases hlt : i < l.length
    · rw [List.getD_append _ _ _ _ hlt, Nat.mod_eq_of_lt hlt]
    · have hge : l.length ≤ i := Nat.not_lt.mp hlt
      rw [List.getD_append_right _ _ _ _ hge, ih (by rw [Nat.succ_mul] at h; omega), ← Nat.mod_eq_sub_mod hge]

/-- A fill repeats the eight bytes of its pattern. -/
theorem fillBytes_getD (pattern : Nat) {n i : Nat} (h : i < n / 8 * 8) :
    (fillBytes pattern n).getD i 0 = BitVec.ofNat 8 (pattern / 256 ^ (i % 8)) := by
  rw [fillBytes, flatten_replicate_getD _ (by simpa using h), length_leBytes, leBytes_getD _ _ (Nat.mod_lt _ (by decide))]

/-- The line of a row of one element of 32 bits, read without errors. -/
theorem readArea_row {a : BufArea} {addr : Nat} {d : Dev} (h : Readable a addr d) : ∃ b e,
    readArea a addr (rowBytes 0 1) (ceilDiv (rowBytes 0 1) 64) 0 d = (b, none, e) ∧ leNat b = memRead d.mem.cells addr 64 := by
  obtain ⟨hdata, hgood⟩ := readAreaLine_clean h
  refine ⟨leBytes 64 (memRead d.mem.cells addr 64), (readAreaLine a addr d).2.2, ?_, ?_⟩
  · rw [← hdata]
    simp only [show ceilDiv (rowBytes 0 1) 64 = 1 from rfl, readArea, Nat.add_zero, hgood, List.append_nil]
  · rw [leNat_leBytes, Nat.mod_eq_of_lt (memRead_lt ..)]

theorem foldRow_one (tag i row : Nat) : foldRow tag i 0 1 row 0 = mask64 (dmix tag (i % pow2 48) 0 (row % 256 ^ 4)) := by
  have hvalue : rowValue 0 1 0 row = row % 256 ^ 4 := by simp [rowValue, fmtWidth, pow2]
  rw [foldRow, List.range_one, List.foldl_cons, List.foldl_nil, hvalue, Nat.zero_add, Nat.add_zero]

/-- A digest of one element of 32 bits folds the four bytes at its address. -/
theorem foldRows_one {a : BufArea} {addr stride tag p i : Nat} {d : Dev} (h : Readable a addr d) :
    (foldRows a addr stride 0 1 tag p 1 0 i 0 d).1 = mask64 (dmix tag (i % pow2 48) 0 (memRead d.mem.cells addr 4)) ∧
      (foldRows a addr stride 0 1 tag p 1 0 i 0 d).2.1 = none := by
  obtain ⟨b, e, hread, hrow⟩ := readArea_row h
  have hword : memRead d.mem.cells addr 4 = memRead d.mem.cells addr 64 % 256 ^ 4 :=
    memRead_eq_of_bytes fun k hk => (byte_of_memRead _ _ (by omega)).symm
  have hfold : foldRows a addr stride 0 1 tag p 1 0 i 0 d = (foldRow tag i 0 1 (leNat b) 0, none, e) := by
    simp only [foldRows, Nat.zero_mul, Nat.add_zero, hread]
  rw [hfold, foldRow_one, hrow, hword]
  exact ⟨rfl, rfl⟩

/-! ## BUFFER_WRITE (15 R522) -/

section

variable {d : Dev} {r : Fin 1024} {c : Cmd} {t : Nat} (hu : ControlUp d)
include hu

theorem answers_lastFor {i : Instr} {op : Nat} {body : Nat → Cmd → Dev → Dev} {P : Dev → Prop} (h : NextFor d r op t c) (hs : c.steps = 0)
    (hi : ∀ s, exec i s = onControl s (runTen r op body)) (hP : P (body t c (tookTurn r d))) : Answers i d P :=
  answers_onControl hu hi (by rwa [runTen_last h hs])

theorem answers_bufferWrite_asks (h : NextFor d r 0x200 t c) (hs : c.steps = 0) (hst : c.stage = .ready) (hadm : bufferAdmits d t = true)
    (hok : moveRefuse d t 0x200 c.pkt = none) (hrec : recording (tenOf d t) c.pkt = false) :
    Answers (.bufferWrite r) d fun e => Asked e c.id (pkField c.pkt 32 8) (pkField c.pkt 40 4) ∧ e.mem = d.mem := by
  refine answers_lastFor hu h hs (fun _ => rfl) ?_
  simp only [hst, if_true, bufferAdmits_tookTurn, hadm, Bool.not_true, Bool.false_eq_true, if_false, moveRefuse_tookTurn, hok, tenOf_tookTurn, hrec]
  exact ⟨asked_fetchData (d := markBuffer t (tookTurn r d)) (mem_tookTurn_of_nextCmd h.1) .., by simp⟩

theorem answers_bufferWrite_stores (hwf : Memory.wf d.mem.cells = true) (h : NextFor d r 0x200 t c) (hs : c.steps = 0) (hst : c.stage = .fetched)
    (hstat : c.status = 0) (hlen : c.data.length = pkField c.pkt 40 4) (hok : moveRefuse d t 0x200 c.pkt = none)
    (hj : (tenOf d t).journal = none) : Answers (.bufferWrite r) d fun e => SettledWith e c.id 0 (pkField c.pkt 40 4) 0 ∧
      (∀ i < c.data.length, byteAt e (bufStart d t c.pkt + i) = c.data.getD i 0) ∧
      ∀ a, a < bufStart d t c.pkt ∨ bufStart d t c.pkt + c.data.length ≤ a → byteAt e a = byteAt d a := by
  obtain ⟨harea, hmod⟩ := moveRefuse_none hok
  rw [← hlen] at hmod
  have hwhole : c.data.take (c.data.length / 64 * 64) = c.data := List.take_of_length_le (by omega)
  refine answers_lastFor hu h hs (fun _ => rfl) ?_
  have hready : c.stage ≠ .ready := by rw [hst]; decide
  have htime : c.status ≠ sTimeout := by rw [hstat]; decide
  have hj' : (tenOf (tookTurn r d) t).journal = none := by rw [tenOf_tookTurn]; exact hj
  simp only [if_neg hready, if_neg htime, hwhole, hj', Bool.false_eq_true, if_false, grantOf_tookTurn]
  have hstored := stored_storeArea (g := grantOf d t) (d := tookTurn r d) harea hmod (by simpa using hwf)
  obtain ⟨hin, hout⟩ := hstored.bytes
  refine ⟨settledWith_finish (by simpa using mem_of_nextCmd h.1) .., hin, fun a ha => (hout a ha).trans (by simp [byteAt])⟩

/-! ## BUFFER_FILL (15 R525) -/

theorem answers_bufferFill (hwf : Memory.wf d.mem.cells = true) (h : NextFor d r 0x202 t c) (hs : c.steps = 0) (hadm : bufferAdmits d t = true)
    (hok : moveRefuse d t 0x202 c.pkt = none) (hrec : recording (tenOf d t) c.pkt = false) :
    Answers (.bufferFill r) d fun e => SettledWith e c.id 0 (pkField c.pkt 40 4) 0 ∧
      (∀ i < pkField c.pkt 40 4, byteAt e (bufStart d t c.pkt + i) = BitVec.ofNat 8 (pkField c.pkt 32 8 / 256 ^ (i % 8))) ∧
      ∀ a, a < bufStart d t c.pkt ∨ bufStart d t c.pkt + pkField c.pkt 40 4 ≤ a → byteAt e a = byteAt d a := by
  obtain ⟨harea, hmod⟩ := moveRefuse_none hok
  have hlen : (fillBytes (pkField c.pkt 32 8) (pkField c.pkt 40 4)).length = pkField c.pkt 40 4 := by rw [length_fillBytes]; omega
  refine answers_lastFor hu h hs (fun _ => rfl) ?_
  simp only [bufferAdmits_tookTurn, hadm, Bool.not_true, Bool.false_eq_true, if_false, moveRefuse_tookTurn, hok, tenOf_tookTurn, hrec]
  have hstored := stored_storeArea (g := grantOf d t) (d := markBuffer t (tookTurn r d)) (data := fillBytes (pkField c.pkt 32 8) (pkField c.pkt 40 4))
    harea (by rw [hlen]; exact hmod) (by simpa using hwf)
  obtain ⟨hin, hout⟩ := hstored.bytes
  rw [hlen] at hin hout
  simp only [grantOf_tookTurn]
  refine ⟨settledWith_finish (by simpa using mem_tookTurn_of_nextCmd h.1) .., fun i hi => (hin i hi).trans ?_, fun a ha => (hout a ha).trans ?_⟩
  · exact fillBytes_getD _ (by omega)
  · simp [byteAt]

/-! ## BUFFER_READ (15 R523, R524) -/

theorem answers_bufferRead (h : NextFor d r 0x201 t c) (hs : c.steps = 0) (hadm : bufferAdmits d t = true) (hok : moveRefuse d t 0x201 c.pkt = none)
    (hecc : d.mem.ecc = []) (hpow : (areaOf c.pkt).tier = 0 → (clOf d (areaOf c.pkt).cl).powered = true) (hissue : canIssue d (cmdFn d c) = true) :
    Answers (.bufferRead r) d fun e => SettledWith e c.id 0 (pkField c.pkt 40 4) 0 ∧ e.mem.cells = d.mem.cells ∧
      ∃ b : List Byte, e.host.posted = d.host.posted ++ [.hostWrite (cmdFn d c) (pkField c.pkt 32 8) b] ∧ b.length = pkField c.pkt 40 4 ∧
        ∀ i < b.length, b.getD i 0 = byteAt d (bufStart d t c.pkt + i) := by
  obtain ⟨harea, hmod⟩ := moveRefuse_none hok
  refine answers_lastFor hu h hs (fun _ => rfl) ?_
  simp only [bufferAdmits_tookTurn, hadm, Bool.not_true, Bool.false_eq_true, if_false, moveRefuse_tookTurn, hok, grantOf_tookTurn]
  have hread : Readable (areaOf c.pkt) (bufStart d t c.pkt + 0) (markBuffer t (tookTurn r d)) :=
    readable_bufStart harea hecc hpow (by simp) (by simp)
  obtain ⟨hnone, hlen, hbytes⟩ := readArea_clean (used := pkField c.pkt 40 4) (pkField c.pkt 40 4 / 64) hread
  rw [← bufStart, hnone]
  have hhost : (readArea (areaOf c.pkt) (bufStart d t c.pkt) (pkField c.pkt 40 4) (pkField c.pkt 40 4 / 64) 0 (markBuffer t (tookTurn r d))).2.2.host =
      (tookTurn r d).host := by simp
  have hfn := (congrArg Ring.function (ringOf_of_rings (congrArg (·.rings) hhost) c.ring)).trans (cmdFn_tookTurn r.val d c)
  obtain ⟨hset, hpost⟩ := finish_hostWrite (d := (readArea (areaOf c.pkt) (bufStart d t c.pkt) (pkField c.pkt 40 4) (pkField c.pkt 40 4 / 64) 0
      (markBuffer t (tookTurn r d))).2.2) (c := c) (fn := cmdFn d c) (posted := d.host.posted) (by rw [hhost]; exact mem_tookTurn_of_nextCmd h.1)
    hfn (by rw [canIssue_congr (congrArg (·.func) hhost), canIssue_tookTurn]; exact hissue) (by rw [hhost]; simp) (pkField c.pkt 32 8)
    (readArea (areaOf c.pkt) (bufStart d t c.pkt) (pkField c.pkt 40 4) (pkField c.pkt 40 4 / 64) 0 (markBuffer t (tookTurn r d))).1 sOk
    (pkField c.pkt 40 4) 0
  refine ⟨hset, by simp, _, hpost, by omega, fun i hi => (hbytes i (by omega)).trans ?_⟩
  simp [byteAt]

/-! ## BUFFER_DIGEST (15 R526) -/

theorem answers_bufferDigest (h : NextFor d r 0x203 t c) (hs : c.steps = 0) (hadm : bufferAdmits d t = true) (hok : digestOk c.pkt = true)
    (hheld : digestHeld (grantOf d t) c.pkt = true) (hecc : d.mem.ecc = []) (hpow : (areaOf c.pkt).tier = 0 → (clOf d (areaOf c.pkt).cl).powered = true)
    (hrows : pkField c.pkt 32 4 = 1) (hcols : pkField c.pkt 36 4 = 1) (hfmt : pkField c.pkt 18 1 = 0) :
    Answers (.bufferDigest r) d fun e => e.mem.cells = d.mem.cells ∧ SettledWith e c.id 0
      (mask64 (dmix (pkField c.pkt 44 3) (pkField c.pkt 48 8 % 2 ^ 48) 0 (memRead d.mem.cells (bufStart d t c.pkt) 4))) 0 := by
  have harea := digestOk_areaOk hok
  refine answers_lastFor hu h hs (fun _ => rfl) ?_
  simp only [bufferAdmits_tookTurn, hadm, Bool.not_true, Bool.false_eq_true, if_false, hok, grantOf_tookTurn, hheld, hrows, hcols, hfmt]
  rw [← bufStart]
  obtain ⟨hdata, hnone⟩ := foldRows_one (stride := pkField c.pkt 40 4) (tag := pkField c.pkt 44 3) (p := pkField c.pkt 56 8) (i := pkField c.pkt 48 8)
    (readable_bufStart (e := markBuffer t (tookTurn r d)) (t := t) harea hecc hpow (by simp) (by simp))
  rw [hnone, hdata]
  simp only [pow2_eq, markBuffer_mem, tookTurn_mem]
  exact ⟨by simp, settledWith_finish (by simpa using mem_tookTurn_of_nextCmd h.1) ..⟩

end

/-- Settles O53: a command whose parameters are accepted does its whole move in one step, its data is whole units, and lines without
errors read as memory holds them. -/
theorem bufferCommands : Obligations.BufferCommands := by
  intro d r c t hu hwf
  exact ⟨fun h hs hst hadm hok hrec => answers_bufferWrite_asks hu h hs hst hadm hok hrec,
    fun h hs hst hstat hlen hok hj => answers_bufferWrite_stores hu hwf h hs hst hstat hlen hok hj,
    fun h hs hadm hok hrec => answers_bufferFill hu hwf h hs hadm hok hrec,
    fun h hs hadm hok hecc hpow hissue => answers_bufferRead hu h hs hadm hok hecc hpow hissue,
    fun h hs hadm hok hheld hecc hpow hrows hcols hfmt => answers_bufferDigest hu h hs hadm hok hheld hecc hpow hrows hcols hfmt⟩

end Sys2Proof.Machine
end

section
/-!
The statement on the commands of the Sepia journal (15 R534, R535; 16 R576, R582).
-/
namespace Sys2Proof.Machine

@[simp] theorem journalFlush_cmds (t : Nat) (d : Dev) : (journalFlush t d).host.cmds = d.host.cmds := by
  unfold journalFlush
  exact foldl_keeps (fun d : Dev => d.host.cmds) _ (fun a r => writeRef_cmds ..) _ _

@[simp] theorem journalClose_cmds (t : Nat) (d : Dev) : (journalClose t d).host.cmds = d.host.cmds := by
  have hflush := journalFlush_cmds t d
  unfold journalClose
  dsimp only
  split
  · exact (issueOut_cmds ..).trans hflush
  · exact hflush

theorem journalStart_answers {d : Dev} {r : Fin 1024} {c : Cmd} {t : Nat} (hu : ControlUp d) (h : NextFor d r 0x400 t c) (hst : (tenOf d t).st ≠ .draining)
    (hj : (tenOf d t).journal = none) (hrep : (tenOf d t).replay = none) (harea : journalArea (pkField c.pkt 16 8) (pkField c.pkt 24 4) = true) :
    Answers (.journalStart r) d fun e => SettledWith e c.id 0 (gcOf d.whl) 0 ∧ e.mem = d.mem ∧ ∃ j, (tenOf e t).journal = some j ∧
      j.addr = pkField c.pkt 16 8 ∧ j.length = pkField c.pkt 24 4 ∧ j.startGc = gcOf d.whl := by
  refine answers_nextFor hu h rfl (fun _ => rfl) ?_
  dsimp only
  rw [if_neg (by simp [replayOpen, hst, hj, hrep]), if_neg (by simp [harea])]
  refine ⟨?_, by simp, _, by rw [tenOf_finish, tenOf_modTen_same], rfl, rfl, by simp⟩
  have hw : gcOf (tookTurn r d).whl = gcOf d.whl := by simp
  rw [hw]
  exact settledWith_finish_of_mem_cmdIds (by simpa [cmdIds, modTen, journalWrite] using ⟨c, mem_of_nextCmd h.1, rfl⟩) ..

/-- JOURNAL_STOP answers with what the journal holds once the transfers that wait for their place are written. -/
theorem journalStop_answers {d : Dev} {r : Fin 1024} {c : Cmd} {t : Nat} {j : Journal} (hu : ControlUp d) (h : NextFor d r 0x401 t c)
    (hj : (tenOf (journalFlush t (tookTurn r d)) t).journal = some j) :
    Answers (.journalStop r) d fun e => SettledWith e c.id 0 j.used j.records ∧ (tenOf e t).journal = none ∧ e.mem = d.mem := by
  refine answers_nextFor hu h rfl (fun _ => rfl) ?_
  rw [hj]
  refine ⟨settledWith_finish_of_mem_cmdIds ?_ .., ?_, by simp⟩
  · rw [cmdIds_congr (journalClose_cmds ..)]
    exact List.mem_map_of_mem (mem_tookTurn_of_nextCmd h.1)
  · rw [tenOf_finish]
    exact journalClose_journal ..

/-- A journal that no finished transfer waits for is flushed as it stands. -/
theorem journalFlush_journal {d : Dev} {t : Nat} (h : ∀ p, (tenOf d t).program = some p → p.held = []) :
    (tenOf (journalFlush t d) t).journal = (tenOf d t).journal := by
  have hflushed : (tenOf (modProgram t (fun p => { p with held := [] }) d) t).journal = (tenOf d t).journal := by rw [modProgram, tenOf_modTen_same]
  unfold journalFlush
  dsimp only
  split
  next p hp =>
    rw [h p hp]
    exact hflushed
  next => exact hflushed

theorem replayStart_answers {d : Dev} {r : Fin 1024} {c : Cmd} {t : Nat} (hu : ControlUp d)
    (hnone : (findCmd d fun c => c.ring == r.val && opcodeOf c == 0x402 && c.stage == .armed && !c.interrupted) = none) (h : NextFor d r 0x402 t c)
    (hrep : (tenOf d t).replay = none) (hst : (tenOf d t).st = .loaded) (hload : (tenOf d t).loading = none) (hlen : 64 ≤ pkField c.pkt 24 4) :
    Answers (.replayStart r) d fun e => Asked e c.id (pkField c.pkt 16 8) (pkField c.pkt 24 4) ∧ (tenOf e t).st = .loaded ∧
      ∃ p, (tenOf e t).replay = some p ∧ p.cmd = c.id := by
  refine answers_onControl hu (fun s => rfl) ?_
  unfold opReplayStart
  rw [hnone]
  dsimp only
  rw [runTen_next h rfl]
  simp only [tenOf_tookTurn, hrep]
  rw [if_neg (by simp [hst, loadRuns, hload]), if_neg (by omega)]
  refine ⟨asked_fetchData (by simpa [modTen] using mem_of_nextCmd h.1) .., ?_, { cmd := c.id, data := [] }, ?_, rfl⟩
  · rw [tenOf_fetchData, tenOf_modTen_same]
    simpa using hst
  · rw [tenOf_fetchData, tenOf_modTen_same]

/-- Settles O54: a stop flushes the finished transfers and then closes the journal it finds. -/
theorem journalCommands : Obligations.JournalCommands := by
  intro d r c t hu
  refine ⟨fun h hst hj hrep harea => journalStart_answers hu h hst hj hrep harea, fun j h hj hheld => ?_,
    fun j h hj => journalStop_answers hu h hj, fun hnone h hrep hst hload hlen => replayStart_answers hu hnone h hrep hst hload hlen⟩
  refine journalStop_answers hu h ?_
  rw [journalFlush_journal (by simpa using hheld), tenOf_tookTurn]
  exact hj

end Sys2Proof.Machine
end

section
/-!
The statement on the commands of spans, timers and bitstream units (15 R538, R539, R541 to R544; 14 R506).
-/
namespace Sys2Proof.Machine

/-! ## Spans (15 R538, R539) -/

section

variable {d : Dev} {r : Fin 1024} {c : Cmd} (hu : ControlUp d)
include hu

/-- A command of the physical function runs its body (15 R510). -/
theorem answers_nextPf {i : Instr} {op : Nat} {body : Cmd → Dev → Dev} {P : Dev → Prop} (h : nextCmd d r op = some c) (hop : isLong op = false)
    (hfn : cmdFn d c = 0) (hi : ∀ s, exec i s = onControl s (runPf r op body)) (hP : P (body c (tookTurn r d))) : Answers i d P := by
  refine answers_next hu h hop hi ?_
  rw [if_neg (by simpa using hfn)]
  exact hP

theorem answers_spanJoin (h : nextCmd d r 0x500 = some c) (hfn : cmdFn d c = 0) (hjoined : d.span.joined = false) (hform : d.span.toForm = false)
    (hfile : fileOk d c.block (pkField c.pkt 24 4) = true) :
    Answers (.spanJoin r) d fun e => e.span.toForm = true ∧ e.span.joinCmd = some c.id ∧ e.span.ranks = ranksOf c.block ∧ Armed e c.id 0 := by
  have hfile' : fileOk (tookTurn r d) c.block (pkField c.pkt 24 4) = true := by
    rw [← hfile]
    simp [fileOk, ownRanks, lnkOf]
  refine answers_nextPf hu h rfl hfn (fun _ => rfl) ?_
  dsimp only
  rw [if_neg (by simp [hjoined, hform]), if_neg (by simp [hfile'])]
  exact ⟨rfl, rfl, rfl, armed_armCmd (by simpa [modSpan] using mem_of_nextCmd h) ..⟩

theorem answers_spanLeave (h : nextCmd d r 0x501 = some c) (hfn : cmdFn d c = 0) (hform : d.span.toForm = false) (hst : d.span.state ≠ .forming)
    (huse : spanInUse d = false) : Answers (.spanLeave r) d fun e => Armed e c.id (nextBoundary d.whl) ∧ e.span = d.span := by
  have huse' : spanInUse (tookTurn r d) = false := by
    rw [← huse]
    simp [spanInUse, spanTenancies, inStates]
  have hw : nextBoundary d.whl = nextBoundary (tookTurn r d).whl := by simp
  refine answers_nextPf hu h rfl hfn (fun _ => rfl) ?_
  rw [if_neg (by simp [hform, hst, huse']), hw]
  exact ⟨armed_armCmd (mem_tookTurn_of_nextCmd h) .., by simp⟩

end

/-! ## Timers (15 R541, R542) -/

theorem mayProgram_tookTurn (k : Nat) (d : Dev) (r n : Nat) : mayProgram (tookTurn k d) r n = mayProgram d r n := by
  simp [mayProgram, tmrOwner, ringOf]

theorem tmrOf_tookTurn (r : Nat) (d : Dev) (n : Nat) : tmrOf (tookTurn r d) n = tmrOf d n := tmrOf_congr (by simp) n
theorem tmrOf_finish (id st r0 r1 : Nat) (d : Dev) (n : Nat) : tmrOf (finish id st r0 r1 d) n = tmrOf d n := tmrOf_congr (by simp) n
theorem tmrOf_armCmd (id count aux : Nat) (d : Dev) (n : Nat) : tmrOf (armCmd id count aux d) n = tmrOf d n := rfl

/-- One change made to every channel of a list. -/
def modTmrs (l : List Nat) (f : Timer → Timer) (d : Dev) : Dev := l.foldl (fun a n => modTmr n f a) d

/-- A value that the change writes is what every channel of the list holds. -/
theorem tmrOf_modTmrs {α : Type} {F : Timer → α} {f : Timer → Timer} {v : α} (hf : ∀ x, F (f x) = v) {l : List Nat} {n : Nat} (hn : n ∈ l) (d : Dev) :
    F (tmrOf (modTmrs l f d) n) = v := by
  refine foldl_reaches (P := fun d => F (tmrOf d n) = v) (fun a y ha => ?_) (fun a => ?_) hn d
  · by_cases hy : n = y
    · subst hy
      rw [tmrOf_modTmr_same, hf]
    · rw [tmrOf_modTmr_ne f a hy]
      exact ha
  · rw [tmrOf_modTmr_same, hf]

section

variable {d : Dev} {r : Fin 1024} {c : Cmd} {t : Nat} (hu : ControlUp d) (hten : (ringOf d r).ten = t) (ht : t < 32)
  (hgrant : recClass (grantOf d t) ≠ 0) (hst : (tenOf d t).st ≠ .draining)
include hu hten ht hgrant hst

/-- A ring of a tenancy that holds a grant and does not drain runs a timer command's body. -/
theorem answers_nextTimer {i : Instr} {op : Nat} {body : Cmd → Dev → Dev} {P : Dev → Prop} (h : nextCmd d r op = some c) (hop : isLong op = false)
    (hi : ∀ s, exec i s = onControl s (runTimer r op body)) (hP : P (body c (tookTurn r d))) : Answers i d P := by
  have hring : (ringOf (tookTurn r d) r).ten = t := by rw [ringOf_of_rings (tookTurn_rings ..)]; exact hten
  refine answers_next hu h hop hi ?_
  dsimp only
  rw [hring, if_neg (by omega), if_neg (by simpa using hgrant), if_neg (by simpa using hst)]
  exact hP

theorem answers_timerProgram_stopped (h : nextCmd d r 0x503 = some c) (hok : timerBadParam c.pkt = false) (hmay : mayProgram d r (pkField c.pkt 16 1) = true)
    (hstart : pkField c.pkt 40 1 = 0) : Answers (.timerProgram r) d fun e => SettledWith e c.id 0 0 0 ∧ (tmrOf e (pkField c.pkt 16 1)).waiting = true ∧
      (tmrOf e (pkField c.pkt 16 1)).running = false ∧ (tmrOf e (pkField c.pkt 16 1)).top = pkField c.pkt 32 8 ∧
      (tmrOf e (pkField c.pkt 16 1)).compare = pkField c.pkt 24 8 ∧ ∀ m, m ≠ pkField c.pkt 16 1 → tmrOf e m = tmrOf d m := by
  refine answers_nextTimer hu hten ht hgrant hst h rfl (fun _ => rfl) ?_
  dsimp only
  rw [if_neg (by simp [hok]), if_neg (by simp [mayProgram_tookTurn, hmay])]
  simp only [hstart, tmrOf_finish, tmrOf_modTmr_same]
  refine ⟨settledWith_finish (mem_tookTurn_of_nextCmd h) .., rfl, rfl, rfl, rfl, fun m hm => ?_⟩
  rw [tmrOf_modTmr_ne _ _ hm, tmrOf_tookTurn]

theorem answers_timerProgram_started (h : nextCmd d r 0x503 = some c) (hok : timerBadParam c.pkt = false) (hmay : mayProgram d r (pkField c.pkt 16 1) = true)
    (hstart : pkField c.pkt 40 1 = 1) : Answers (.timerProgram r) d fun e => SettledWith e c.id 0 (gcOf d.whl) 0 ∧
      (tmrOf e (pkField c.pkt 16 1)).running = true ∧ (tmrOf e (pkField c.pkt 16 1)).cnt = 0 ∧ (tmrOf e (pkField c.pkt 16 1)).last = d.whl.now := by
  have hw : (tookTurn r d).whl = d.whl := by simp
  refine answers_nextTimer hu hten ht hgrant hst h rfl (fun _ => rfl) ?_
  dsimp only
  rw [if_neg (by simp [hok]), if_neg (by simp [mayProgram_tookTurn, hmay])]
  simp only [hstart, tmrOf_finish, tmrOf_modTmr_same, hw]
  exact ⟨settledWith_finish (mem_tookTurn_of_nextCmd h) .., rfl, rfl, rfl⟩

theorem answers_timerStartGroup (h : nextCmd d r 0x504 = some c)
    (hall : ∀ n ∈ maskChannels (pkField c.pkt 16 2), mayProgram d r n = true ∧ (tmrOf d n).waiting = true ∧ (tmrOf d n).group = true)
    (hnow : pkField c.pkt 24 8 = 0) : Answers (.timerStartGroup r) d fun e =>
      ∀ n ∈ maskChannels (pkField c.pkt 16 2), (tmrOf e n).startTick = some (d.whl.now + 1) := by
  have hw : (tookTurn r d).whl = d.whl := by simp
  have hmay : (maskChannels (pkField c.pkt 16 2)).all (mayProgram (tookTurn r d) r) = true :=
    List.all_eq_true.mpr fun n hn => by rw [mayProgram_tookTurn]; exact (hall n hn).1
  have hwait : ((maskChannels (pkField c.pkt 16 2)).all fun n => (tmrOf (tookTurn r d) n).waiting && (tmrOf (tookTurn r d) n).group) = true :=
    List.all_eq_true.mpr fun n hn => by
      obtain ⟨-, hwaiting, hgroup⟩ := hall n hn
      rw [tmrOf_tookTurn, hwaiting, hgroup]
      rfl
  refine answers_nextTimer hu hten ht hgrant hst h rfl (fun _ => rfl) ?_
  dsimp only
  rw [if_neg (by simp [hmay]), if_neg (by simp [hwait]), if_pos hnow, hw]
  intro n hn
  rw [tmrOf_armCmd]
  exact tmrOf_modTmrs (F := (·.startTick)) (f := fun x => { x with startTick := some (d.whl.now + 1) }) (fun _ => rfl) hn (tookTurn r d)

end

/-! ## Leases and configuration of bitstream units (15 R543, R544; 14 R506) -/

theorem bsuHolder_tookTurn (r : Nat) (d : Dev) (u : Nat) : bsuHolder (tookTurn r d) u = bsuHolder d u := by
  simp [bsuHolder, bsuOf]

theorem bsuOf_tookTurn (r : Nat) (d : Dev) (u : Nat) : bsuOf (tookTurn r d) u = bsuOf d u := bsuOf_congr (by simp) u
theorem bsuOf_finish (id st r0 r1 : Nat) (d : Dev) (u : Nat) : bsuOf (finish id st r0 r1 d) u = bsuOf d u := bsuOf_congr (by simp) u

/-- A configuration leaves the commands it aborts in the control domain. -/
theorem cmdIds_applyConfig (b : List Byte) (d : Dev) : cmdIds (applyConfig b d) = cmdIds d := by
  have hflush : cmdIds (failFlush (blkField b 0 1) (bsuReset (blkField b 0 1) 6 d)) = cmdIds d :=
    (cmdIds_abortCmds ..).trans (cmdIds_congr (bsuReset_cmds ..))
  exact (cmdIds_congr rfl).trans hflush

/-- A flush as it starts. -/
def startFlush (u : Nat) (d : Dev) (c : Cmd) : Cmd := { c with stage := .armed, count := gcOf d.whl, aux := u, res0 := (bsuOf d u).drained }

theorem flushDone_of_queue {x : Bsu} (h : x.queue ≠ []) (gc : Nat) : flushDone x gc = false := by simp [flushDone, h]

section

variable {d : Dev} {r : Fin 1024} {c : Cmd} {t : Nat} (hu : ControlUp d)
include hu

theorem answers_bsuBind {n : Nat} (h : NextFor d r 0x600 t c) (hf : (tenOf d t).st ≠ .faulted) (hd : (tenOf d t).st ≠ .draining)
    (hunit : pkField c.pkt 16 1 < 4) (hlease : recBsu (grantOf d t) (pkField c.pkt 16 1) = 1) (hfree : (bsuOf d (pkField c.pkt 16 1)).lease = none)
    (hbind : bit (pkField c.pkt 17 1) 0 = false) (hn : pkField c.pkt 20 4 = n) (hpos : n ≠ 0) (hle : n ≤ recLease (grantOf d t)) :
    Answers (.bsuBind r) d fun e => (bsuOf e (pkField c.pkt 16 1)).lease = some (t, ceilDiv (gcOf d.whl + n) d.whl.w * d.whl.w) ∧
      SettledWith e c.id 0 (ceilDiv (gcOf d.whl + n) d.whl.w * d.whl.w) 0 := by
  have hw : (tookTurn r d).whl = d.whl := by simp
  have hfree' : (bsuOf (tookTurn r d) (pkField c.pkt 16 1)).lease = none := by rw [bsuOf_tookTurn]; exact hfree
  refine answers_nextFor hu h rfl (fun _ => rfl) ?_
  dsimp only
  rw [if_neg (by simp [inStates, hf, hd]), if_neg (by omega)]
  simp only [grantOf_tookTurn, hlease, hfree', hbind, Bool.false_eq_true, if_false, hn]
  rw [if_neg (by omega), hw]
  refine ⟨?_, settledWith_finish (by simpa [modBsu] using mem_of_nextCmd h.1) ..⟩
  rw [bsuOf_finish, bsuOf_modBsu_same]

theorem answers_bsuBind_busy {u x : Nat} (h : NextFor d r 0x600 t c) (hf : (tenOf d t).st ≠ .faulted) (hd : (tenOf d t).st ≠ .draining)
    (hunit : pkField c.pkt 16 1 < 4) (hlease : recBsu (grantOf d t) (pkField c.pkt 16 1) = 1)
    (hheld : (bsuOf d (pkField c.pkt 16 1)).lease = some (u, x)) (hne : u ≠ t) :
    Answers (.bsuBind r) d fun e => SettledWith e c.id 2 x 0 ∧ e.bsu = d.bsu := by
  have hheld' : (bsuOf (tookTurn r d) (pkField c.pkt 16 1)).lease = some (u, x) := by rw [bsuOf_tookTurn]; exact hheld
  refine answers_nextFor hu h rfl (fun _ => rfl) ?_
  dsimp only
  rw [if_neg (by simp [inStates, hf, hd]), if_neg (by omega)]
  simp only [grantOf_tookTurn, hlease, hheld']
  rw [if_pos hne]
  exact ⟨settledWith_finish (mem_tookTurn_of_nextCmd h.1) .., by simp⟩

theorem answers_bsuConfig (h : NextFor d r 0x601 t c) (hst : (tenOf d t).st = .loaded) (hok : configOk c.block = true)
    (hholder : bsuHolder d (blkField c.block 0 1) = some t) (hrec : recording (tenOf d t) c.pkt = false) :
    Answers (.bsuConfig r) d fun e => SettledWith e c.id 0 0 0 ∧ (bsuOf e (blkField c.block 0 1)).configured = true ∧
      (bsuOf e (blkField c.block 0 1)).codec = blkField c.block 1 1 ∧ (bsuOf e (blkField c.block 0 1)).bankLines = blkField c.block 4 2 ∧
      (bsuOf e (blkField c.block 0 1)).lastReset = 6 := by
  refine answers_nextFor hu h rfl (fun _ => rfl) ?_
  dsimp only
  rw [if_neg (by simp [inStates, hst]), if_neg (by simp [hok]), if_neg (by simp [bsuHolder_tookTurn, hholder])]
  simp only [tenOf_tookTurn, hrec, bsuOf_finish]
  refine ⟨settledWith_finish_of_mem_cmdIds ?_ .., ?_⟩
  · rw [cmdIds_applyConfig]
    exact List.mem_map_of_mem (mem_tookTurn_of_nextCmd h.1)
  · simp only [applyConfig, bsuOf_modBsu_same, bsuOf_failFlush, bsuOf_bsuReset]
    exact ⟨trivial, trivial, trivial, rfl⟩

/-- A flush of a unit that still has records waiting goes on (17 R612). -/
theorem answers_bsuFlush (h : NextFor d r 0x602 t c) (hst : (tenOf d t).st = .loaded) (hunit : pkField c.pkt 16 1 < 4)
    (hholder : bsuHolder d (pkField c.pkt 16 1) = some t) (hqueue : (bsuOf d (pkField c.pkt 16 1)).queue ≠ [])
    (honly : ∀ x ∈ d.host.cmds, opcodeOf x = 0x602 → x = c) : Answers (.bsuFlush r) d fun e => Armed e c.id (gcOf d.whl) ∧ e.bsu = d.bsu := by
  refine answers_onControl hu (fun _ => rfl) ?_
  unfold opBsuFlush
  dsimp only
  rw [runTen_next h rfl]
  rw [if_neg (by simp [inStates, hst]), if_neg (by omega), if_neg (by simp [bsuHolder_tookTurn, hholder])]
  have hnone : findCmd (modCmd c.id (startFlush (pkField c.pkt 16 1) (tookTurn r d)) (tookTurn r d)) (fun x => x.ring == r.val && opcodeOf x == 0x602 &&
      x.stage == .armed && !x.interrupted && flushDone (bsuOf (modCmd c.id (startFlush (pkField c.pkt 16 1) (tookTurn r d)) (tookTurn r d)) x.aux) x.count) =
      none := by
    refine List.find?_eq_none.mpr fun x hx hmatch => ?_
    obtain ⟨y, hy, rfl⟩ := List.mem_map.mp hx
    simp only [Bool.and_eq_true, beq_iff_eq] at hmatch
    obtain ⟨⟨⟨⟨-, hop⟩, -⟩, -⟩, hdone⟩ := hmatch
    rw [tookTurn_cmds] at hy
    by_cases hid : y.id = c.id
    · rw [if_pos hid] at hop hdone
      have hdone' : flushDone (bsuOf d (pkField c.pkt 16 1)) (gcOf (tookTurn r d).whl) = true := by
        rw [← bsuOf_tookTurn r]; exact hdone
      rw [flushDone_of_queue hqueue] at hdone'
      cases hdone'
    · rw [if_neg hid] at hop
      exact hid (congrArg Cmd.id (honly y hy hop))
  have hw : gcOf d.whl = gcOf (tookTurn r d).whl := by simp
  unfold startFlush at hnone
  rw [hnone]
  rw [hw]
  exact ⟨⟨startFlush (pkField c.pkt 16 1) (tookTurn r d) c, List.mem_map.mpr ⟨c, mem_tookTurn_of_nextCmd h.1, if_pos rfl⟩, rfl, rfl, rfl⟩, by simp⟩

end

/-- Settles O56: each command's checks pass and it writes what its packet or block names. -/
theorem unitCommands : Obligations.UnitCommands := by
  intro d r c t hu
  refine ⟨fun h hfn hjoined hform hfile => answers_spanJoin hu h hfn hjoined hform hfile,
    fun h hfn hform hst huse => answers_spanLeave hu h hfn hform hst huse, fun h hten ht hgrant hst hok hmay => ?_,
    fun h hten ht hgrant hst hall hnow => answers_timerStartGroup hu hten ht hgrant hst h hall hnow,
    fun n h hf hd hunit hlease hfree hbind hn hpos hle => answers_bsuBind hu h hf hd hunit hlease hfree hbind hn hpos hle,
    fun u x h hf hd hunit hlease hheld hne => answers_bsuBind_busy hu h hf hd hunit hlease hheld hne,
    fun h hst hok hholder hrec => answers_bsuConfig hu h hst hok hholder hrec,
    fun h hst hunit hholder hqueue honly => answers_bsuFlush hu h hst hunit hholder hqueue honly⟩
  exact ⟨fun hstart => answers_timerProgram_stopped hu hten ht hgrant hst h hok hmay hstart,
    fun hstart => answers_timerProgram_started hu hten ht hgrant hst h hok hmay hstart⟩

end Sys2Proof.Machine
end

section
/-!
The statement on the commands of the root (15 R545 to R556; 14 R490 to R492; 20 R682 to R687, R697, R702).
-/
namespace Sys2Proof.Machine

theorem ringOf_finish (id st r0 r1 : Nat) (d : Dev) (k : Nat) : ringOf (finish id st r0 r1 d) k = ringOf d k := ringOf_of_rings rfl k
theorem lnkOf_finish (id st r0 r1 : Nat) (d : Dev) (l : Nat) : lnkOf (finish id st r0 r1 d) l = lnkOf d l := lnkOf_congr (by simp) l
theorem coreOf_armCmd (id count aux : Nat) (d : Dev) (n : Nat) : coreOf (armCmd id count aux d) n = coreOf d n := coreOf_of_cores rfl n
theorem coreOf_finish (id st r0 r1 : Nat) (d : Dev) (n : Nat) : coreOf (finish id st r0 r1 d) n = coreOf d n := coreOf_of_cores rfl n

section

variable {d : Dev} {r : Fin 1024} {c : Cmd} (hu : ControlUp d)
include hu

/-! ## Grants and leases (15 R545 to R548) -/

theorem answers_partitionStage (h : nextCmd d r 0xF00 = some c) (hok : stageOk c.block (pkField c.pkt 24 4) = true) :
    Answers (.partitionStage r) d fun e =>
      SettledWith e c.id 0 (ceilDiv (gcOf d.whl + blkField c.block 0 4) d.whl.w * d.whl.w) 0 ∧ e.grants.force = d.grants.force ∧
        ∃ s, e.grants.staging = some s ∧ s.expiry = ceilDiv (gcOf d.whl + blkField c.block 0 4) d.whl.w * d.whl.w := by
  have hw : (tookTurn r d).whl = d.whl := by simp
  have hg : (tookTurn r d).grants.force = d.grants.force := by simp
  refine answers_next hu h rfl (fun _ => rfl) ?_
  dsimp only
  rw [if_neg (by simp [hok]), hw]
  exact ⟨settledWith_finish (mem_tookTurn_of_nextCmd h) .., hg, _, rfl, rfl⟩

theorem answers_partitionCommit (h : nextCmd d r 0xF01 = some c) (honly : d.host.cmds = [c]) (hn : pkField c.pkt 16 8 % d.whl.w = 0)
    (hstaged : d.grants.staging.isSome = true) : Answers (.partitionCommit r) d fun e =>
      Armed e c.id (boundaryAt d (pkField c.pkt 16 8)) ∧ e.grants = d.grants := by
  refine answers_next hu h rfl (fun _ => rfl) ?_
  dsimp only
  rw [if_neg (by simp [honly]), if_neg (by simpa [hn, Option.isSome_iff_ne_none] using hstaged), boundaryAt_tookTurn]
  exact ⟨armed_armCmd (mem_tookTurn_of_nextCmd h) .., by simp⟩

theorem answers_leaseRevoke (h : nextCmd d r 0xF03 = some c) (hkind : pkField c.pkt 16 1 = 1) (hunit : pkField c.pkt 17 1 < 4) :
    Answers (.leaseRevoke r) d fun e => Armed e c.id (nextBoundary d.whl) ∧ e.bsu = d.bsu := by
  have hw : (tookTurn r d).whl = d.whl := by simp
  refine answers_next hu h rfl (fun _ => rfl) ?_
  dsimp only
  rw [if_pos (.inl ⟨hkind, hunit⟩), hw]
  exact ⟨armed_armCmd (mem_tookTurn_of_nextCmd h) .., by simp⟩

/-! ## Rings, power and islands (15 R549 to R551; 20 R702) -/

theorem answers_ringAssign (h : nextCmd d r 0xF04 = some c) (hring : pkField c.pkt 16 2 < 1024) (hfn : pkField c.pkt 18 1 < 64)
    (hten : pkField c.pkt 19 1 = 0xFF) (hact : pkField c.pkt 20 1 = 0) (hst : (ringOf d (pkField c.pkt 16 2)).st = .unassigned) :
    Answers (.ringAssign r) d fun e => SettledWith e c.id 0 0 0 ∧
      (ringOf e (pkField c.pkt 16 2)).st = .ready ∧ (ringOf e (pkField c.pkt 16 2)).function = pkField c.pkt 18 1 ∧
      (ringOf e (pkField c.pkt 16 2)).ten = 0xFF ∧ (ringOf e (pkField c.pkt 16 2)).home = 0 ∧
      ∀ x, x ≠ pkField c.pkt 16 2 → ringOf e x = ringOf d x := by
  have hring' (x : Nat) : ringOf (tookTurn r d) x = ringOf d x := ringOf_of_rings (tookTurn_rings ..) x
  refine answers_next hu h rfl (fun _ => rfl) ?_
  dsimp only
  rw [hten, hring', if_neg (by omega), if_neg (by simp [hst]), if_neg (by simp), if_pos hact]
  simp only [ringOf_finish, ringOf_modRing_same]
  refine ⟨settledWith_finish (by simpa [modRing, modHost] using mem_of_nextCmd h) .., trivial, trivial, trivial, rfl, fun x hx => ?_⟩
  rw [ringOf_modRing_ne _ _ hx, hring']

theorem answers_powerCapSet (h : nextCmd d r 0xF05 = some c) (hpos : pkField c.pkt 16 2 ≠ 0) (hmax : pkField c.pkt 16 2 ≤ 700)
    (hlow : lowestCapNow (tookTurn r d) ≤ pkField c.pkt 16 2) : Answers (.powerCapSet r) d fun e =>
      e.power.cap = pkField c.pkt 16 2 ∧ SettledWith e c.id 0 (pkField c.pkt 16 2) 0 := by
  refine answers_next hu h rfl (fun _ => rfl) ?_
  dsimp only
  rw [if_neg (by omega), if_neg (by omega)]
  exact ⟨rfl, settledWith_finish (d := { tookTurn r d with power := _ }) (mem_tookTurn_of_nextCmd h) ..⟩

theorem answers_powerCapSet_low (h : nextCmd d r 0xF05 = some c) (hpos : pkField c.pkt 16 2 ≠ 0) (hmax : pkField c.pkt 16 2 ≤ 700)
    (hlow : pkField c.pkt 16 2 < lowestCapNow (tookTurn r d)) : Answers (.powerCapSet r) d fun e =>
      e.power = d.power ∧ SettledWith e c.id 15 0 (lowestCapNow (tookTurn r d)) := by
  refine answers_next hu h rfl (fun _ => rfl) ?_
  dsimp only
  rw [if_neg (by omega), if_pos hlow]
  exact ⟨by simp, settledWith_finish (mem_tookTurn_of_nextCmd h) ..⟩

theorem answers_islandPower (h : nextCmd d r 0xF06 = some c) (honly : d.host.cmds = [c]) (hready : c.stage = .ready) (hon : pkField c.pkt 20 1 = 1)
    (hn : pkField c.pkt 24 8 % d.whl.w = 0) : Answers (.islandPower r) d fun e =>
      Armed e c.id (boundaryAt d (pkField c.pkt 24 8)) ∧ e.clk = d.clk := by
  have hidle (p : Cmd → Bool) (hp : p c = false) : openCmds (tookTurn r d) p = [] := by simp [openCmds, honly, hp]
  refine answers_next hu h rfl (fun _ => rfl) ?_
  dsimp only
  rw [if_neg (by simp [hon, hn]), hidle _ (by simp [hready]), if_neg (by simp), if_neg (by simp [powOn, hon]), boundaryAt_tookTurn]
  exact ⟨armed_armCmd (mem_tookTurn_of_nextCmd h) .., by simp⟩

/-! ## Firmware (15 R552, R553; 20 R697) -/

theorem answers_firmwareStage (h : nextCmd d r 0xF07 = some c) (hready : c.stage = .ready) (hpos : pkField c.pkt 24 4 ≠ 0)
    (hmod : pkField c.pkt 24 4 % 64 = 0) (hmax : pkField c.pkt 24 4 ≤ 16777216) : Answers (.firmwareStage r) d fun e =>
      Asked e c.id (pkField c.pkt 16 8) (pkField c.pkt 24 4) ∧ e.boot = d.boot := by
  refine answers_next hu h rfl (fun _ => rfl) ?_
  dsimp only
  rw [if_pos hready, if_neg (by omega)]
  exact ⟨asked_fetchData (mem_tookTurn_of_nextCmd h) .., by simp⟩

end

theorem wdHeld_holdWatchdogs (b : Bool) (d : Dev) {n : Nat} (hn : n < 16) : (coreOf (holdWatchdogs b d) n).wdHeld = b := by
  refine foldl_reaches (P := fun d => (coreOf d n).wdHeld = b) (fun a m ha => ?_) (fun a => ?_) (List.mem_range.mpr hn) d
  · by_cases hm : n = m
    · subst hm
      rw [coreOf_modCore_same]
    · rw [coreOf_modCore_ne _ a hm]
      exact ha
  · rw [coreOf_modCore_same]

@[simp] theorem holdWatchdogs_cmds (b : Bool) (d : Dev) : (holdWatchdogs b d).host.cmds = d.host.cmds :=
  foldl_keeps (fun d : Dev => d.host.cmds) (fun a n => modCore n (fun x => { x with wdHeld := b }) a) (fun _ _ => rfl) (List.range 16) d

/-- A link that is turned off is OFF and disabled, and nothing else of the links or commands changes (05 R195). -/
theorem linkAction_off (l w : Nat) (d : Dev) : (lnkOf (linkAction l 2 w d) l).state = .off ∧ (lnkOf (linkAction l 2 w d) l).disabled = true ∧
    (∀ x, x ≠ l → lnkOf (linkAction l 2 w d) x = lnkOf d x) ∧ (linkAction l 2 w d).host.cmds = d.host.cmds := by
  have hact : linkAction l 2 w d = enterState l .off d.whl.now (modLnk l (fun k => { k with disabled := true }) d) := rfl
  rw [hact]
  refine ⟨by rw [lnkOf_enterState]; rfl, by rw [lnkOf_enterState, lnkOf_modLnk_same]; rfl, fun x hx => ?_, ?_⟩
  · unfold enterState
    dsimp only
    split <;> simp [hx]
  · unfold enterState
    dsimp only
    split <;> simp [modLnk]

section

variable {d : Dev} {r : Fin 1024} {c : Cmd} (hu : ControlUp d)
include hu

theorem answers_firmwareActivate {f : Firmware} (h : nextCmd d r 0xF08 = some c) (hact : d.boot.activating = none) (hstaged : d.boot.staged = some f)
    (honly : ∀ x ∈ d.host.cmds, x.ring = r.val) : Answers (.firmwareActivate r) d fun e =>
      e.boot.activating = some c.id ∧ Armed e c.id 0 ∧ ∀ n < 16, (coreOf e n).wdHeld = true := by
  have hquiet : busyRing (tookTurn r d) r = none := by
    have hnone : (tookTurn r d).host.cmds.filter (fun x => x.ring != r.val) = [] :=
      List.filter_eq_nil_iff.mpr fun x hx => by simp [honly x (by simpa using hx)]
    rw [busyRing, hnone]
    rfl
  refine answers_onControl hu (fun _ => rfl) ?_
  unfold opFirmwareActivate
  simp only [hact]
  rw [runCmd_next h rfl]
  rw [if_neg (by simp [hstaged]), hquiet]
  dsimp only
  refine ⟨by simp [modBoot], armed_armCmd (by simpa [modBoot] using mem_of_nextCmd h) .., fun n hn => ?_⟩
  rw [coreOf_armCmd]
  exact wdHeld_holdWatchdogs true _ hn

theorem answers_firmwareActivate_done {f : Firmware} {id : Nat} (hact : d.boot.activating = some id) (hstaged : d.boot.staged = some f)
    (hfind : (findCmd d fun c => c.id == id && c.ring == r.val) = some c) : Answers (.firmwareActivate r) d fun e =>
      e.boot.activating = none ∧ e.boot.firmware = some f ∧ Settled e id 0 ∧ ∀ n < 16, (coreOf e n).wdHeld = false := by
  have hid : id ∈ cmdIds d := by
    have hmatch := List.find?_some hfind
    simp only [Bool.and_eq_true, beq_iff_eq] at hmatch
    exact hmatch.1 ▸ List.mem_map_of_mem (List.mem_of_find?_eq_some hfind)
  refine answers_onControl hu (fun _ => rfl) ?_
  unfold opFirmwareActivate
  simp only [hact, hstaged]
  rw [if_pos (by simp [hfind])]
  refine ⟨by simp [modBoot], by simp [modBoot], (settledWith_finish_of_mem_cmdIds ?_ ..).settled, fun n hn => ?_⟩
  · rw [cmdIds_congr (holdWatchdogs_cmds ..)]
    exact hid
  · rw [coreOf_finish]
    exact wdHeld_holdWatchdogs false _ hn

/-! ## Links, resets and the seal (15 R554 to R556; 20 R685 to R687) -/

theorem answers_linkControl_off (h : nextCmd d r 0xF09 = some c) (hlink : pkField c.pkt 16 1 < 16) (hact : pkField c.pkt 17 1 = 2)
    (hw : pkField c.pkt 18 1 = 0) (hfuse : bit d.fuse.links (pkField c.pkt 16 1) = true) (hspan : d.span.joined = false) :
    Answers (.linkControl r) d fun e => (lnkOf e (pkField c.pkt 16 1)).state = .off ∧ (lnkOf e (pkField c.pkt 16 1)).disabled = true ∧
      Settled e c.id 0 ∧ ∀ x, x ≠ pkField c.pkt 16 1 → lnkOf e x = lnkOf d x := by
  refine answers_next hu h rfl (fun _ => rfl) ?_
  have hfree : inSpan (tookTurn r d) (pkField c.pkt 16 1) = false := by simp [inSpan, hspan]
  simp only [hact, hw, hfree, Bool.false_and, Bool.and_false, Bool.false_eq_true, if_false]
  rw [if_neg (by simp; omega), if_neg (by simp [hfuse]), if_neg (by decide)]
  obtain ⟨hoff, hdis, hothers, hcmds⟩ := linkAction_off (pkField c.pkt 16 1) 0 (tookTurn r d)
  simp only [lnkOf_finish]
  refine ⟨hoff, hdis, (settledWith_finish (by rw [hcmds]; exact mem_tookTurn_of_nextCmd h) ..).settled, fun x hx => ?_⟩
  rw [hothers x hx, lnkOf_congr (e := d) (by simp)]

theorem answers_tenancyReset (h : nextCmd d r 0xF0A = some c) (hten : pkField c.pkt 16 1 < 32) (hnow : pkField c.pkt 24 8 = 0) :
    Answers (.tenancyReset r) d fun e => Armed e c.id (nextBoundary d.whl) ∧ e.ten = d.ten := by
  have hw : (tookTurn r d).whl = d.whl := by simp
  refine answers_next hu h rfl (fun _ => rfl) ?_
  dsimp only
  rw [if_neg (by simp [hnow]; omega), if_pos hnow, hw]
  exact ⟨armed_armCmd (mem_tookTurn_of_nextCmd h) .., by simp⟩

theorem answers_configSeal (h : nextCmd d r 0xF0B = some c) (hlen : pkField c.pkt 24 4 = (cfgLength c.block + 63) / 64 * 64)
    (hpend : d.boot.sealPend = none) (hok : cfgErrors (tookTurn r d) c.block true = []) : Answers (.configSeal r) d fun e =>
      e.boot.sealPend.isSome = true ∧ e.boot.state = d.boot.state ∧ Armed e c.id 0 := by
  have hb : (tookTurn r d).boot = d.boot := by simp
  refine answers_next hu h rfl (fun _ => rfl) ?_
  rw [if_neg (by simp [hlen]), hb, if_neg (by simp [hpend]), hok]
  dsimp only
  exact ⟨rfl, by simp [armSeal, modBoot], armed_armCmd (d := armSeal c.block (some c.id) (tookTurn r d)) (mem_tookTurn_of_nextCmd h) ..⟩

theorem answers_configSeal_invalid {x : CfgErr} {xs : List CfgErr} (h : nextCmd d r 0xF0B = some c)
    (hlen : pkField c.pkt 24 4 = (cfgLength c.block + 63) / 64 * 64) (hpend : d.boot.sealPend = none)
    (hbad : cfgErrors (tookTurn r d) c.block true = x :: xs) : Answers (.configSeal r) d fun e =>
      SettledWith e c.id 17 (xs.length + 1) x.rule ∧ e.boot.sealPend = none ∧ e.boot.state = d.boot.state := by
  have hb : (tookTurn r d).boot = d.boot := by simp
  refine answers_next hu h rfl (fun _ => rfl) ?_
  rw [if_neg (by simp [hlen]), hb, if_neg (by simp [hpend]), hbad]
  exact ⟨settledWith_finish (by simpa [mailMessage, modMail] using mem_of_nextCmd h) .., by simp [hpend], by simp⟩

end

/-- Settles O57: each command's checks pass and it writes or arms what its packet or block names. -/
theorem rootCommands : Obligations.RootCommands := by
  intro d r c hu
  exact ⟨fun h hok => answers_partitionStage hu h hok, fun h honly _ hn hstaged => answers_partitionCommit hu h honly hn hstaged,
    fun h hkind hunit => answers_leaseRevoke hu h hkind hunit,
    fun h hring hfn hten hact hst => answers_ringAssign hu h hring hfn hten hact hst,
    fun h hpos hmax => ⟨answers_powerCapSet hu h hpos hmax, answers_powerCapSet_low hu h hpos hmax⟩,
    fun h honly hready hon hn => answers_islandPower hu h honly hready hon hn,
    fun h hready hpos hmod hmax => answers_firmwareStage hu h hready hpos hmod hmax,
    fun _ h hact hstaged honly => answers_firmwareActivate hu h hact hstaged honly,
    fun _ _ hact hstaged hfind => answers_firmwareActivate_done hu hact hstaged hfind,
    fun h hlink hact hw hfuse hspan => answers_linkControl_off hu h hlink hact hw hfuse hspan,
    fun h hten hnow => answers_tenancyReset hu h hten hnow, fun h hlen hpend hok => answers_configSeal hu h hlen hpend hok,
    fun _ _ h hlen hpend hbad => answers_configSeal_invalid hu h hlen hpend hbad⟩

end Sys2Proof.Machine
end
